-- ==== Sys2Proof/Word.lean ====
section
/-! DEFINITION. The two word types of the node: a register word (R7) and a byte of memory. -/

namespace Sys2Proof

/-- One 32-bit register word, little-endian on a 4-byte-aligned address (R7). -/
abbrev Word := BitVec 32

/-- One byte of node memory, of an image or of a message. -/
abbrev Byte := BitVec 8

end Sys2Proof
end

