-- ==== Sys2Proof/Syntax.lean ====
section
/-! DEFINITION. The commands of the block: one constructor for each row of the spec's table of operations and events, with
the operands that come from outside the state (log 1). A tick operand `t` is the tick at which a time-driven row occurs (log 2). -/

namespace Sys2Proof

/-- The four paths that reach the registers, in the order in which writes of one instant are accepted (R608). -/
inductive Path where
  | hp0 | hp1 | bc | ms
deriving DecidableEq, Repr

/-- Fault classes (R511). -/
inductive FClass where
  | link | mem | num | sched | pwr | time | sec | cast | sw
deriving DecidableEq, Repr

/-- The unit that issued an access or raised a check: kind code and index (R516). -/
structure Master where
  kind : Nat
  idx : Nat
deriving DecidableEq, Repr

/-- One checker's report to the fault collector: what its chapter gives (R513, R516); `conseq` marks a consequent
fault (R519), `inj` one caused by an injection (R529). Levels are those of R512. -/
structure Report where
  cls : FClass
  level : Nat
  code : Nat
  master : Master
  acc : Nat
  addr : Nat
  tick : Nat
  inj : Bool
  conseq : Bool
deriving DecidableEq, Repr

/-- One slot as a port's receiver has it before error correction (R326, R327): the number of its first unit in the stream; the symbols
of the codewords that hold it, in order; and whether the replay log could take an entry in time (R504). -/
structure SlotRx where
  unit : Nat
  words : List (List Nat)
  logOk : Bool
deriving DecidableEq, Repr

/-- What one dwell of a lane's monitor measures (R308): the vertical openings of the three eyes and the mean distance of adjacent
levels. -/
structure Eye where
  h0 : Nat
  h1 : Nat
  h2 : Nat
  delta : Nat
deriving DecidableEq, Repr

/-- What reaches a Crucible of an instance (R219): the next contribution flit of an in-node member, by N rank; a partial of a
ring or line step; a result on the down path; a share of a REDUCE at ROOT's node; an ALLTOALL segment of sender `src` of another node; or that
the two lanes of a Crucible differed in the result of a cell (R527). What comes from another node is the next flit of label `lbl` from port
`port`; no field of a flit says which slice it is of, so its place comes as operands (log 1). -/
inductive CruEv where
  | member (r : Nat)
  | ring (phase chunk : Nat) (path : List Nat) (slice side lbl port : Nat)
  | down (phase chunk : Nat) (path : List Nat) (lbl port : Nat)
  | share (chunk : Nat) (path : List Nat) (lbl port : Nat)
  | segment (src lbl port : Nat)
  | mismatch (cru : Nat)
deriving DecidableEq, Repr

/-- One sample of every monitor (R573, R582, R603, R604): temperatures in 1/8 °C, voltages in mV, speeds in M beats/s, stack sensors in
°C, the input's power in W and current in A, each domain's power in tenths of a watt; received and launched optical power of each lane
in 0.01 dBm, and the severity reports and parity reissues of each stack since the last sample (log 35). -/
structure MonSample where
  temps : List Int
  volts : List Nat
  speeds : List Nat
  stackT : List Nat
  watts : Nat
  amps : Nat
  doms : List Nat
  optics : List (Int × Int)
  stackNotes : List (Nat × Nat)
deriving DecidableEq, Repr

/-- What an I3C or SMBus transfer asks of the register window (R566): the address, the word to write or none for a read, whether its
packet error code was right. -/
structure I3c where
  addr : Nat
  value : Option Nat
  pecOk : Bool
deriving DecidableEq, Repr

/-- The commands of the table, in its order. -/
inductive Instr where
  /-- REGISTER_WRITE (R68): A host, board-controller or management write to a register field that has no row of its own takes effect, pends or is refused according to its apply class and the node state. -/
  | registerWrite (t : Nat) (p : Path) (addr : Nat) (size : Nat) (value : Nat)
  /-- LOAD (R60): CST_CMD OP 1 latches CST_SRC and CST_LEN and starts FETCH, or is refused with BUSY or STATE. -/
  | load (t : Nat) (p : Path)
  /-- COMMIT (R62): CST_CMD OP 2 binds the staged Casting and starts the map and contract re-check. -/
  | commit (t : Nat)
  /-- LOAD_COMMIT (R55): CST_CMD OP 3 starts a LOAD whose Casting is committed as soon as it reaches STAGED. -/
  | loadCommit (t : Nat) (p : Path)
  /-- DISCARD (R55): CST_CMD OP 4 drops the staged Casting, or is refused with NOSTAGE or STATE. -/
  | discard (t : Nat) (p : Path)
  /-- UNCAST (R63): CST_CMD OP 5 ends the job by draining toward UNCAST, cancels a bound commit, or is refused while APPLYING. -/
  | uncast (t : Nat) (p : Path)
  /-- ABORT (R66): CST_CMD OP 6 stops a load in FETCH, SIGN or CHECK and returns the phase to IDLE. -/
  | abort (t : Nat) (p : Path)
  /-- CST_OP_RESERVED (R76): CST_CMD OP 7 to 15 is refused with code STATE and logs an SW note. -/
  | cstOpReserved (t : Nat) (p : Path) (op : Nat)
  /-- FETCH_FIRST_PAGE (R60): When the first page arrives, the node checks MAGIC, FORMAT and LENGTH and ends the load on failure. -/
  | fetchFirstPage (t : Nat) (page : List Byte)
  /-- FETCH_READ_FAIL (R60): A failed host read during FETCH ends the load with code FETCH. -/
  | fetchReadFail (t : Nat) (kind : Nat)
  /-- FETCH_DONE (R60): At the end of FETCH the digest is ready, SMAGIC is checked and the phase moves to SIGN. -/
  | fetchDone (t : Nat) (rest : List Byte)
  /-- SIGN_DONE (R50): The signature check completes; the load is refused with SIGKEY or SIGNATURE, or moves to CHECK. -/
  | signDone (t : Nat)
  /-- CHECK_DONE (R631): The header, directory and section checks complete; the first failure refuses the load, otherwise the phase becomes STAGED. -/
  | checkDone (t : Nat)
  /-- COMMIT_RECHECK_DONE (R62): The re-check at COMMIT completes and either refuses the commit or moves the node to APPLYING or DRAINING. -/
  | commitRecheckDone (t : Nat)
  /-- DRAIN_DONE (R63): When every window is acknowledged, every queue empty and every Bench idle, the node enters APPLYING or UNCAST. -/
  | drainDone (t : Nat)
  /-- DRAIN_LIMIT_EXPIRY (R64): When CST_DRAIN_LIMIT expires before the drain completes, the node quenches the job and completes the transition. -/
  | drainLimitExpiry (t : Nat)
  /-- APPLY_COMPLETE (R65): The apply finishes its ordered steps, writes the Casting hallmark, sets CST_DIGEST and enters CAST. -/
  | applyComplete (t : Nat)
  /-- SEAM (R100): A seam occurs at its scheduled tick, or after the epoch's last release, ends the epoch and writes the seam hallmark. -/
  | seam (t : Nat)
  /-- RESULT_RELEASE (R103): A result held at a release gate leaves at its release tick, or at the first tick after it becomes ready. -/
  | resultRelease (t : Nat) (kind : Nat) (unit : Nat)
  /-- OVERDUE_STEP (R107): A result still unreleased TG_LATE_LIMIT ticks after its release tick raises a SCHED alert. -/
  | overdueStep (t : Nat) (kind : Nat) (unit : Nat) (rel : Nat)
  /-- BARRIER_RX (R85): A received BARRIER symbol updates the offset to the parent and the slew, and the link-delay exchange. -/
  | barrierRx (t : Nat) (k : Nat) (u : List Byte) (sub : Nat)
  /-- TIMEINFO_RX (R337): A received TIMEINFO symbol updates the root's PPS phase and TAI seconds. -/
  | timeinfoRx (t : Nat) (k : Nat) (u : List Byte)
  /-- LDLY_MEASURE (R88): Every 2^24 ticks, and at bring-up, the node measures a fabric link's delay and records it in TG_LDLY. -/
  | ldlyMeasure (t : Nat) (k : Nat) (t1 : Nat) (t2 : Nat) (t3 : Nat) (t4 : Nat)
  /-- TECHO_RX (R338): An endpoint's TECHO completes the delay measurement of its TIME symbol and updates TG_LDLY. -/
  | techoRx (t : Nat) (k : Nat) (u : List Byte) (sub : Nat)
  /-- NODE_READY (R93): A node that is cast, armed, locked and has READY from every child sends READY, or as root chooses and sends START. -/
  | nodeReady (t : Nat)
  /-- READY_RX (R93): A READY barrier event from a child is kept or judged against the node's own SEAM digest. -/
  | readyRx (t : Nat) (k : Nat) (u : List Byte)
  /-- START_RX (R95): A START barrier event from the parent is taken and forwarded to the children, or ignored. -/
  | startRx (t : Nat) (k : Nat) (u : List Byte)
  /-- FIRST_EPOCH_START (R95): At the start tick, or at START_TICK in START_MODE 1, the node begins the first epoch of its schedule. -/
  | firstEpochStart (t : Nat)
  /-- PPS_IN_EDGE (R87): A PPS_IN edge on the time root records the PPS phase and steers the slew. -/
  | ppsInEdge (t : Nat)
  /-- PPS_IN_LOSS (R87): No PPS_IN edge for 2 s moves the root to HOLDOVER and raises a TIME alert. -/
  | ppsInLoss (t : Nat)
  /-- PPS_OUT_START (R91): At each PPS tick the node starts a PPS_OUT pulse. -/
  | ppsOutStart (t : Nat)
  /-- PPS_OUT_END (R91): 1,600,000 ticks after it starts, the PPS_OUT pulse ends. -/
  | ppsOutEnd (t : Nat)
  /-- TOD_OUT_FRAME (R92): Between 10 ms and 500 ms after each PPS_OUT pulse, the node sends a TOD frame. -/
  | todOutFrame (t : Nat)
  /-- TOD_IN_FRAME (R92): A received TOD frame sets the TAI seconds, or is discarded and counted in TG_TOD_BAD. -/
  | todInFrame (t : Nat) (fr : List Byte)
  /-- HALL_DISABLE (R155): A write to MIL_HALL_DIS stops and turns off each newly set Hall, quenching the job if it is placed there, and clears bits only while UNCAST. -/
  | hallDisable (t : Nat) (p : Path) (v : Nat)
  /-- BUNDLE_ISSUE (R180): The Bench issues the next bundle in program order when run-ahead and the waits allow. -/
  | bundleIssue (t : Nat) (l : Nat)
  /-- SLOT_COMPLETE (R207): An issued slot completes once its operation has finished under its completion rule. -/
  | slotComplete (t : Nat) (l : Nat) (pos : Nat)
  /-- BUNDLE_RETIRE (R207): A bundle retires when all its slots have completed and every earlier bundle has retired. -/
  | bundleRetire (t : Nat) (l : Nat)
  /-- LD (R186): The LOAD slot op LD copies a tile into the bench store and may set an operand register. -/
  | ld (l : Nat)
  /-- LDB (R187): The LOAD slot op LDB loads a tile by Hall broadcast once every group member has issued it. -/
  | ldb (l : Nat)
  /-- KLD (R208): The LOAD slot op KLD reloads the inactive kernel bank from the library. -/
  | kld (l : Nat)
  /-- ST (R188): The STORE slot op ST writes a dense bench-store tile to its spans after a guild check. -/
  | st (l : Nat)
  /-- MAC (R190): The MAC slot op MAC adds a 64 × 64 bench-tile product into an accumulator set. -/
  | mac (l : Nat)
  /-- MACZ (R190): The MAC slot op MACZ sets an accumulator set to +0 with a type and then adds a tile product. -/
  | macz (l : Nat)
  /-- DRAIN (R192): The ACC slot op DRAIN converts and writes an accumulator set, then sets it to +0. -/
  | drain (l : Nat)
  /-- CLEAR (R192): The ACC slot op CLEAR sets an accumulator set to +0 and keeps its type. -/
  | clear (l : Nat)
  /-- DRAINK (R192): The ACC slot op DRAINK converts and writes an accumulator set and keeps its values. -/
  | draink (l : Nat)
  /-- MERGE (R193): The ACC slot op MERGE adds a raw image from the bench store into an accumulator set. -/
  | merge (l : Nat)
  /-- ADD (R194): VEC op ADD adds binary32 elements strictly. -/
  | add (l : Nat)
  /-- SUB (R194): VEC op SUB subtracts binary32 elements strictly. -/
  | sub (l : Nat)
  /-- MUL (R194): VEC op MUL multiplies binary32 elements strictly. -/
  | mul (l : Nat)
  /-- FMA (R194): VEC op FMA computes fusedMultiplyAdd on binary32 elements. -/
  | fma (l : Nat)
  /-- MIN (R194): VEC op MIN computes the binary32 minimum. -/
  | min (l : Nat)
  /-- MAX (R194): VEC op MAX computes the binary32 maximum. -/
  | max (l : Nat)
  /-- DIV (R194): VEC op DIV divides binary32 elements strictly. -/
  | div (l : Nat)
  /-- SQRT (R194): VEC op SQRT computes the binary32 square root. -/
  | sqrt (l : Nat)
  /-- CMPLT (R137): VEC op CMPLT writes 1.0 where a < b, with signaling-compare flags. -/
  | cmplt (l : Nat)
  /-- CMPEQ (R137): VEC op CMPEQ writes 1.0 where a = b, with quiet-compare flags. -/
  | cmpeq (l : Nat)
  /-- CMPLE (R137): VEC op CMPLE writes 1.0 where a ≤ b, with signaling-compare flags. -/
  | cmple (l : Nat)
  /-- ANY (R194): VEC op ANY sets a predicate flag when any element is non-zero or NaN. -/
  | any (l : Nat)
  /-- CVTF (R630): VEC op CVTF converts binary32 elements to another format. -/
  | cvtf (l : Nat)
  /-- CVTT (R630): VEC op CVTT converts elements of another format to binary32. -/
  | cvtt (l : Nat)
  /-- SETI (R196): MOVE op SETI sets an index register to an immediate. -/
  | seti (l : Nat)
  /-- ADDI (R196): MOVE op ADDI sets an index register to a source plus an immediate. -/
  | addi (l : Nat)
  /-- MULI (R196): MOVE op MULI sets an index register to a source times an immediate. -/
  | muli (l : Nat)
  /-- CMPI (R196): MOVE op CMPI sets a predicate flag from comparing a source with an immediate. -/
  | cmpi (l : Nat)
  /-- PLOG (R196): MOVE op PLOG combines predicate flags logically. -/
  | plog (l : Nat)
  /-- PSET (R196): MOVE op PSET sets a predicate flag to an immediate bit. -/
  | pset (l : Nat)
  /-- SETVL (R196): MOVE op SETVL sets the vector length. -/
  | setvl (l : Nat)
  /-- ORSET (R196): MOVE op ORSET sets one field of an operand register. -/
  | orset (l : Nat)
  /-- ORCPY (R196): MOVE op ORCPY copies one operand register to another. -/
  | orcpy (l : Nat)
  /-- FEAT (R171): MOVE op FEAT reads a feature value into an index register. -/
  | feat (l : Nat)
  /-- WAITC (R197): SYNC op WAITC holds issue until a sync counter reaches a value. -/
  | waitc (l : Nat)
  /-- POST (R197): SYNC op POST adds 1 to a sync counter once earlier stores have completed. -/
  | post (l : Nat)
  /-- DRAINW (R197): SYNC op DRAINW holds issue until every earlier slot has completed. -/
  | drainw (l : Nat)
  /-- TESTC (R197): SYNC op TESTC sets a predicate flag from a sync counter without waiting. -/
  | testc (l : Nat)
  /-- NOP (R199): CTRL op NOP does nothing. -/
  | nop (l : Nat)
  /-- LOOP (R201): CTRL op LOOP latches a count and runs the body that many times. -/
  | loop (l : Nat)
  /-- SEAM_CMD (R204): CTRL op SEAM marks that the Bench has reached its SEAM bundle for the epoch. -/
  | seamCmd (l : Nat)
  /-- HALT (R205): CTRL op HALT drains the stream once earlier slots complete. -/
  | halt (l : Nat)
  /-- RELEASE (R203): CTRL op RELEASE sets the release tick for later stores and posts. -/
  | release (l : Nat)
  /-- BRK (R205): CTRL op BRK stops the Bench as a break with cause SW. -/
  | brk (l : Nat)
  /-- BREAK_RESUME (R212): A write of RESUME in MIL_BCTL leaves the break and continues issue. -/
  | breakResume (t : Nat) (bench : Option Nat)
  /-- RELOAD_GO (R210): A write of GO in MIL_RLD_CMD starts a host reload of a kernel bank, or is refused. -/
  | reloadGo (t : Nat) (p : Path)
  /-- RELOAD_COMPLETE (R209): A kernel-bank reload completes and arms the bank, swapping at once on a drained stream. -/
  | reloadComplete (t : Nat) (l : Nat)
  /-- COLLECTIVE_START (R231): At START_OFF of an epoch in which it runs, an instance opens its contexts and checks its guild rights. -/
  | collectiveStart (t : Nat) (d : Nat) (g : Nat)
  /-- SELF_CONTRIBUTION_READ (R231): Once SYNC_IN reaches SYNC_IN_VAL, the node reads the SELF contribution. -/
  | selfContributionRead (t : Nat) (d : Nat) (g : Nat)
  /-- CRUCIBLE_CELL (R219): A Crucible ingests a contribution cell when its pool has room and adds, converts, forwards or places it. -/
  | crucibleCell (t : Nat) (d : Nat) (g : Nat) (ev : CruEv)
  /-- PASS2_START (R243): Pass 2 of a chunk starts once its combined exponent bytes have returned down every level. -/
  | pass2Start (t : Nat) (d : Nat) (g : Nat) (j : Nat)
  /-- CHUNK_RELEASE (R233): Result chunk j leaves toward the members at its release tick. -/
  | chunkRelease (t : Nat) (d : Nat) (g : Nat)
  /-- TEMPER_STEP_START (R261): When the first chunk of a step reaches the stage, it latches the hyperparameters. -/
  | temperStepStart (t : Nat) (st : Nat)
  /-- TEMPER_CHUNK (R261): The stage runs the update rule on each chunk slice and writes the inactive copy. -/
  | temperChunk (t : Nat) (st : Nat) (j : Nat)
  /-- TEMPER_PHASE2_START (R266): Once NORM completes, TRUST phase 2 starts with the returned norms. -/
  | temperPhase2Start (t : Nat) (st : Nat)
  /-- TEMPER_SLICE_RELEASE (R261): The updated slice of a chunk leaves at its release tick. -/
  | temperSliceRelease (t : Nat) (st : Nat)
  /-- ASSAY_COMPARE (R275): A sampled tile's or round's wide comparison ends and, on failure, is counted, captured and raised. -/
  | assayCompare (t : Nat) (l : Nat)
  /-- STOCK_LOOKUP (R288): An accepted LOOKUP request pools its bags in a Crucible context. -/
  | stockLookup (t : Nat) (l : Nat) (k : Nat) (mism : Bool)
  /-- LOOKUP_RESPONSE (R291): A LOOKUP response leaves at the request arrival tick plus RESP_LAT. -/
  | lookupResponse (t : Nat) (tab : Nat)
  /-- STOCK_GRAD (R294): An accepted GRAD request is appended to the gradient log and answered. -/
  | stockGrad (t : Nat) (l : Nat) (k : Nat)
  /-- STOCK_UPDATE_START (R295): At UPD_OFF, once every lookup has read, the table update runs its passes and rule. -/
  | stockUpdateStart (t : Nat) (tab : Nat)
  /-- STOCK_COMMIT (R296): After the rule, the commit writes the tag word, copies rows from scratch and sets STK_TSTEP. -/
  | stockCommit (t : Nat) (tab : Nat) (n : Nat)
  /-- STOCK_UPDATE_RELEASE (R296): The update's completion is released at the epoch's start plus UPD_REL. -/
  | stockUpdateRelease (t : Nat) (tab : Nat)
  /-- SIG_RISE (R310): A rise of SIG on a lane with ADAPT_EN starts a full sweep on the data sampler. -/
  | sigRise (t : Nat) (k : Nat) (valid : Bool)
  /-- SIG_FALL (R314): A fall of SIG while the port is up fails the lane and takes the port down. -/
  | sigFall (t : Nat) (k : Nat)
  /-- SWEEP (R310): A write of SWEEP in LN_CTRL starts a full sweep, or is refused while the port is up. -/
  | sweep (t : Nat) (path : Path) (k : Nat)
  /-- SWEEP_COMPLETE (R310): A full sweep ends, sets the target code and sets FAILED if the best figure is below FOM_FAIL. -/
  | sweepComplete (t : Nat) (k : Nat) (figs : List Eye)
  /-- ADAPT_WINDOW (R311): Every 2^(16 + WIN) ticks the lane measures its figures and moves the target code. -/
  | adaptWindow (t : Nat) (k : Nat) (valid : Bool) (lo : Eye) (f : Eye) (hi : Eye)
  /-- PEAK_STEP (R307): At least 1,024 ticks after the last step, the main code moves one step toward the target. -/
  | peakStep (t : Nat) (k : Nat)
  /-- PEAK_CODE_WRITE (R315): A host write to LN_PEAK.CODE sets the target code. -/
  | peakCodeWrite (t : Nat) (k : Nat) (code : Nat)
  /-- SLIP (R317): A write of SLIP shifts the lane's word boundary one symbol later. -/
  | slip (t : Nat) (path : Path) (k : Nat)
  /-- CLR (R319): A write of CLR sets the lane's checker counters to 0. -/
  | clr (t : Nat) (k : Nat)
  /-- PATTERN_WRITE (R320): A write of TX_PAT or RX_PAT sets the lane patterns, or is refused while the port is up. -/
  | patternWrite (t : Nat) (path : Path) (k : Nat) (tx : Nat) (rx : Nat)
  /-- TX_DIS (R323): A write to LN_ECTRL.TX_DIS turns transmitters off and takes up ports down. -/
  | txDis (t : Nat) (n : Nat) (mask : Nat)
  /-- ENGINE_FAULT (R323): A laser or driver fault sets FAULT and fails every affected lane. -/
  | engineFault (t : Nat) (n : Nat) (mask : Nat)
  /-- CONTROL_POSITION (R329): At each frame's control position the port sends a BARRIER, TIME, queued control symbol or IDLE. -/
  | controlPosition (t : Nat) (k : Nat) (sub : Nat)
  /-- FORCED_IDLE_SLOT (R330): A control symbol still queued one frame after entry makes the next slot an idle slot. -/
  | forcedIdleSlot (t : Nat) (k : Nat)
  /-- TX_SLOT (R438): In each slot the port chooses an eligible queue by priority and weighted-fair order and sends its flit. -/
  | txSlot (t : Nat) (k : Nat)
  /-- SLOT_RECEIVE (R332): A slot arriving on a port is decoded and handled as a flit, control symbols or a bad slot. -/
  | slotReceive (t : Nat) (k : Nat) (x : SlotRx)
  /-- ACK_RX (R341): A received ACK advances the sender's acknowledged point and room, or triggers a resend on NAK. -/
  | ackRx (t : Nat) (k : Nat) (u : List Byte)
  /-- STREAM_RESEND_TIMEOUT (R341): No advance of A for 2^RTO ticks makes the sender resend from A. -/
  | streamResendTimeout (t : Nat) (n : Nat)
  /-- CREDIT_RX (R344): A received CREDIT symbol sets initial credits or the cumulative freed count. -/
  | creditRx (t : Nat) (k : Nat) (u : List Byte)
  /-- LACK_RX (R345): A received LACK frees acknowledged Q and M flits from the replay buffer. -/
  | lackRx (t : Nat) (k : Nat) (u : List Byte)
  /-- RETRY_RX (R345): A received RETRY makes the sender send REPLAY and resend its held flits. -/
  | retryRx (t : Nat) (k : Nat) (u : List Byte)
  /-- REPLAY_RX (R345): A REPLAY with the expected FROM ends the receiver's discard of Q and M flits. -/
  | replayRx (t : Nat) (k : Nat) (u : List Byte)
  /-- REPLAY_TIMEOUT (R345): No LACK advance or matching REPLAY in time repeats the retry, and the limit takes the port down. -/
  | replayTimeout (t : Nat) (k : Nat) (sender : Bool)
  /-- ADMIN (R355): A write of LK_CTRL.ADMIN takes the port down with cause HOST or lets it come up. -/
  | admin (t : Nat) (p : Path) (k : Nat) (v : Bool)
  /-- ALIGNED (R346): A write of ALIGNED in state ALIGN moves the port to TRAIN. -/
  | aligned (t : Nat) (k : Nat)
  /-- RETRAIN (R355): A write of RETRAIN takes the port down with cause HOST and brings it up again. -/
  | retrain (t : Nat) (k : Nat)
  /-- DESKEW_DONE (R346): Once its receiver is deskewed by the MARK words, the port sends START. -/
  | deskewDone (t : Nat) (k : Nat)
  /-- START_WORD_RX (R346): START received and sent both ways moves the port to IDENT and starts the unit stream. -/
  | startWordRx (t : Nat) (k : Nat)
  /-- IDENT_RX (R347): Received IDENT symbols are checked and LINKUP is sent, or the port goes down. -/
  | identRx (t : Nat) (k : Nat) (u : List Byte)
  /-- LINKUP (R347): LINKUP sent and received moves the port to UP and sends initial credits. -/
  | linkup (t : Nat) (k : Nat) (u : List Byte)
  /-- LINKDOWN_RX (R350): A received LINKDOWN takes the port down with cause PEER. -/
  | linkdownRx (t : Nat) (k : Nat) (u : List Byte)
  /-- BRINGUP_TIMEOUT (R351): A bring-up state that exceeds its maximum takes the port down with cause TIMEOUT. -/
  | bringupTimeout (t : Nat) (k : Nat)
  /-- AUDITOR_SWEEP_START (R386): 2^GAP ticks after the last judge phase, the auditor clears CHG bits and starts marking. -/
  | auditorSweepStart (t : Nat) (d : Nat)
  /-- AUDITOR_MARK_DONE (R386): When marking ends, the auditor judges each unchanged pooled cell and repairs leaks; `moved` are
  the cells that change before their turn comes, which it leaves alone. -/
  | auditorMarkDone (t : Nat) (d : Nat) (moved : List Nat)
  /-- AUDITOR_JUDGE_DONE (R386): The judge phase ends and the gap before the next sweep begins. -/
  | auditorJudgeDone (t : Nat) (d : Nat)
  /-- FENCE_ADD (R416): A write to RT_FADD adds a fence, or is refused when the fence list is full. -/
  | fenceAdd (t : Nat) (kind : Nat) (arg : Nat)
  /-- FENCE_DEL (R416): A write to RT_FDEL removes a fence while uncast, or is refused with SEALED. -/
  | fenceDel (t : Nat) (path : Path) (kind : Nat) (arg : Nat)
  /-- AUTO_FENCE (R415): A port down for RT_FCTL.DELAY ticks with a qualifying cause is fenced by the node. -/
  | autoFence (t : Nat) (k : Nat)
  /-- GATE_ENTRY (R432): When an entry's interval ends, the next gate-list entry comes into force. -/
  | gateEntry (t : Nat)
  /-- GATE_LIST_BEGIN (R433): At S a new gate list begins, is recorded in GT_GSTART and hallmarked. -/
  | gateListBegin (t : Nat) (k : Nat)
  /-- GATE_COMMIT (R436): A write of GT_GCTL.COMMIT checks the shadow list and pends it for the next seam. -/
  | gateCommit (t : Nat) (p : Path) (k : Nat)
  /-- SHAPER_REFILL (R440): At every multiple of 2^PER ticks the shaper adds ADD tokens and applies latched settings. -/
  | shaperRefill (t : Nat) (k : Nat) (q : Nat)
  /-- QUEUE_SAMPLE (R442): At every multiple of 2^SP ticks the node samples queue depth and delay. -/
  | queueSample (t : Nat) (k : Nat)
  /-- BURNISH_WORD (R462): Burnish reads a word or block and writes back, zeroes or poisons it as its outcome requires. -/
  | burnishWord (t : Nat) (a : Nat)
  /-- BURNISH_PASS_END (R463): A Burnish pass ends and a pass that overran its period sets BEHIND and raises a MEM alert. -/
  | burnishPassEnd (t : Nat) (hbm : Bool)
  /-- BURNISH_CTRL (R463): A write to MEM_BCTL changes Burnish and is hallmarked as a guard change. -/
  | burnishCtrl (t : Nat) (path : Path) (v : Nat)
  /-- REMAP (R467): Repair op REMAP moves an HBM line to its spare. -/
  | remap (t : Nat) (path : Path)
  /-- UNMAP (R467): Repair op UNMAP returns an HBM line from its spare. -/
  | unmap (t : Nat) (path : Path)
  /-- SPPR (R467): Repair op SPPR performs a soft post-package repair of a row. -/
  | sppr (t : Nat) (path : Path)
  /-- HPPR (R467): Repair op HPPR performs a hard post-package repair of a row. -/
  | hppr (t : Nat) (path : Path)
  /-- RD1500 (R467): Repair op RD1500 reads one IEEE 1500 register into MEM_REP_DATA. -/
  | rd1500 (t : Nat) (path : Path)
  /-- WR1500 (R467): Repair op WR1500 writes one IEEE 1500 register. -/
  | wr1500 (t : Nat) (path : Path)
  /-- REPAIR_OP_RESERVED (R471): MEM_REP_CMD OP 0 or 7 to 15 is refused with code RANGE. -/
  | repairOpReserved (t : Nat) (path : Path) (op : Nat)
  /-- REPAIR_COMPLETE (R468): A repair command completes with its code, or with STACK after 10 ms without answer, and is hallmarked. -/
  | repairComplete (t : Nat) (answer : Nat) (result : Nat) (spares : Nat)
  /-- TOUCHMARK_ENABLE (R484): A write of TM_CFG.EN turns a unit's CRC work on or off and is hallmarked. -/
  | touchmarkEnable (t : Nat) (u : Nat) (v : Bool)
  /-- TOUCHMARK_RECORD_EXPIRY (R482): A pending record unresolved after 2^24 ticks expires and is counted. -/
  | touchmarkRecordExpiry (t : Nat) (u : Nat)
  /-- ALIVE_ENTRY_FREE (R479): A packet-stream alive entry idle for 2^20 ticks is freed. -/
  | aliveEntryFree (t : Nat) (k : Nat)
  /-- DET_PAUSE (R496): A write to DET_PAUSE requests a hold at a later save seam, or is refused with STATE. -/
  | detPause (t : Nat) (p : Path) (n : Nat)
  /-- CONTINUE (R498): DET_CMD op CONTINUE makes a held node ready for a barrier that starts the next epoch. -/
  | continue (t : Nat) (p : Path)
  /-- CANCEL (R496): DET_CMD op CANCEL clears the hold request. -/
  | cancel (t : Nat)
  /-- DET_CMD_RESERVED (R508): DET_CMD op 3 to 15 is refused with code STATE. -/
  | detCmdReserved (t : Nat) (p : Path) (op : Nat)
  /-- REPLAY_INJECT (R505): In replay mode each log entry is injected at its shifted tick, or counted as a slip. -/
  | replayInject (t : Nat)
  /-- FAULT_REPORT (R513): The collector records a checker's report with class and level and starts the level's reaction. -/
  | faultReport (t : Nat) (ext : Option Report)
  /-- ERRN_PULSE_END (R523): An ERR_N pulse ends 1.0 µs to 2.0 µs after its last qualifying fault. -/
  | errnPulseEnd (t : Nat)
  /-- ERRN_GAP_END (R523): The 1.0 µs gap after a pulse ends, and a fault recorded in it pulses. -/
  | errnGapEnd (t : Nat)
  /-- FAULT_ACK (R520): A write of 1 to a FLT_PEND bit acknowledges the class. -/
  | faultAck (t : Nat) (mask : Nat)
  /-- CAPTURE_REARM (R516): A write of 1 to a capture's VALID re-arms the first-error capture. -/
  | captureRearm (t : Nat) (c : Nat)
  /-- ARM (R529): FLT_INJ_CMD op ARM applies the selected injection to the next COUNT items. -/
  | arm (t : Nat)
  /-- DISARM (R529): FLT_INJ_CMD op DISARM ends the injection and is hallmarked. -/
  | disarm (t : Nat)
  /-- OWN (R544): SEC_KEYCMD op OWN from the board controller burns the owner digest and installs the key block. -/
  | own (t : Nat) (p : Path)
  /-- INSTALL (R544): SEC_KEYCMD op INSTALL fetches, checks and writes a key block and puts it in force. -/
  | install (t : Nat) (p : Path)
  /-- RAISE (R544): SEC_KEYCMD op RAISE installs a key block and burns KB_MIN to its version. -/
  | raise (t : Nat) (p : Path)
  /-- ATTEST (R559): SEC_KEYCMD op ATTEST latches the chain head and starts signing it with the device key. -/
  | attest (t : Nat)
  /-- KEY_CMD_RESERVED (R561): SEC_KEYCMD op 5 to 15 is refused with code STATE. -/
  | keyCmdReserved (t : Nat) (op : Nat)
  /-- KEY_CMD_COMPLETE (R544): A key command completes or fails, is hallmarked, and may discard a staged Casting. -/
  | keyCmdComplete (t : Nat) (block : Option (List Byte)) (flashOk : Bool)
  /-- ATTEST_COMPLETE (R559): The attestation signature is written to SEC_ATT_SIG. -/
  | attestComplete (t : Nat)
  /-- DENY_WINDOW_END (R550): At the end of 2^20 ticks, repeated refusals are hallmarked in one record with their count. -/
  | denyWindowEnd (t : Nat)
  /-- CLEAR_GO (R551): A write of SEC_CLR_CMD.GO checks right F and starts clearing a span to zeros. -/
  | clearGo (t : Nat) (p : Path)
  /-- CLEAR_COMPLETE (R551): A clear completes and is hallmarked with its span. -/
  | clearComplete (t : Nat)
  /-- HALLMARK_COMMIT (R554): The chain engine accepts the next waiting record, hashes it into the chain and queues it for export. -/
  | hallmarkCommit (t : Nat)
  /-- HALLMARK_EXPORT (R556): A queued record is written by DMA to the host ring, with MSI-X vector 1 at the watermark. -/
  | hallmarkExport (t : Nat)
  /-- BAR2_ACCESS (R564): A host BAR2 access reaches node memory cell by cell under guild checks. -/
  | bar2Access (t : Nat) (p : Nat) (off : Nat) (n : Nat) (data : Option (List Byte)) (room : Bool)
  /-- I3C_TRANSFER (R566): A board-controller I3C or SMBus transfer reads or writes a register. -/
  | i3cTransfer (t : Nat) (x : I3c)
  /-- BCDATA_READ (R567): A read of MGT_BCDATA returns the memory word at MGT_BCADDR and advances the address. -/
  | bcdataRead (t : Nat) (p : Path)
  /-- BCDATA_WRITE (R567): A write of MGT_BCDATA stores the word at MGT_BCADDR and advances the address. -/
  | bcdataWrite (t : Nat) (v : Nat)
  /-- READ (R568): A management READ request returns a register value when the service allows it. -/
  | read (t : Nat)
  /-- WRITE (R568): A management WRITE request writes a register outside the protected blocks when allowed. -/
  | write (t : Nat)
  /-- BOOT (R571): At power-on or warm reset the node reads fuses, verifies firmware, trains memory, calibrates monitors and sets READY. -/
  | boot (t : Nat) (okA : Bool) (okB : Bool)
  /-- FLASH_READ (R583): MGT_FL_CMD op 1 reads a flash page into MGT_FL_BUF. -/
  | flashRead (t : Nat)
  /-- FLASH_PROGRAM (R583): MGT_FL_CMD op 2 programs a flash page from MGT_FL_BUF. -/
  | flashProgram (t : Nat)
  /-- FLASH_ERASE (R583): MGT_FL_CMD op 3 erases a 64 KiB flash sector. -/
  | flashErase (t : Nat)
  /-- FLASH_COMPLETE (R583): A flash command completes or fails and sets DONE or ERR. -/
  | flashComplete (t : Nat) (ok : Bool)
  /-- MONITOR_SAMPLE (R573): Every 16,384 ticks all monitors are sampled and their limits checked. -/
  | monitorSample (t : Nat) (m : MonSample)
  /-- WARM_RESET_WRITE (R579): A write to MGT_RST with OP 1 and KEY 0x5A starts a warm reset. -/
  | warmResetWrite (t : Nat) (p : Path) (op : Nat) (key : Nat)
  /-- RST_N_ASSERT (R620): RST_N held low for at least 10 µs starts a warm reset and holds it. -/
  | rstNAssert (t : Nat)
  /-- RST_N_RELEASE (R620): RST_N rising ends the held reset and starts boot. -/
  | rstNRelease (t : Nat)
  /-- PORT_RESET (R579): A write of GO in MGT_PRST takes the port down with cause RESET and clears its counters. -/
  | portReset (t : Nat) (k : Nat)
  /-- HALL_RESET (R579): A write of GO in MGT_HRST turns the Hall Off and On, or is refused for a disabled Hall. -/
  | hallReset (t : Nat) (h : Nat)
  /-- POWER_REQ_ON (R594): A PWR_CTRL request for On starts the transition or is refused. -/
  | powerReqOn (t : Nat) (p : Path) (d : Nat)
  /-- POWER_REQ_RETAIN (R594): A PWR_CTRL request for Retain starts the transition or is refused. -/
  | powerReqRetain (t : Nat) (p : Path) (d : Nat)
  /-- POWER_REQ_OFF (R594): A PWR_CTRL request for Off starts the transition or is refused. -/
  | powerReqOff (t : Nat) (p : Path) (d : Nat)
  /-- POWER_REQ_ILLEGAL (R594): A PWR_CTRL request with REQ = 3 is refused with code ILLEGAL. -/
  | powerReqIllegal (t : Nat) (p : Path) (d : Nat)
  /-- DOMAIN_TRANSITION_START (R596): A waiting transition to On begins once the 1,000 W per 10 µs pacing allows. -/
  | domainTransitionStart (t : Nat)
  /-- DOMAIN_TRANSITION_DONE (R597): A domain transition completes and the domain enters its new state. -/
  | domainTransitionDone (t : Nat) (d : Nat)
  /-- POWER_ON_SEQUENCE (R600): The input rising through the lockout threshold starts the power-on sequence. -/
  | powerOnSequence
  /-- POWER_DOWN (R601): The input falling below V_uvf turns every domain Off in order. -/
  | powerDown (t : Nat)
  /-- POWER_GOOD_LOSS (R602): Loss of power-good on a domain disables, turns off or resets it and raises a PWR fault. -/
  | powerGoodLoss (t : Nat) (d : Nat)
  /-- INPUT_OVERCURRENT (R602): Input current above 800 A for 10 µs throttles every Mill die and quenches the node. -/
  | inputOvercurrent (t : Nat)
  /-- REF_IN_LOSS (R621): REF_IN stopped for more than 10 µs raises a TIME fault at level quench-node. -/
  | refInLoss (t : Nat)
  /-- LOW_WORD_READ (R8): A host read of the low word of a 64-bit value captures the high word into that port's holding copy for the next high-word read. -/
  | lowWordRead (t : Nat) (p : Path) (addr : Nat) (size : Nat)
  /-- HELD_LOW_WORD_EXPIRY (R609): A held low word of a 64-bit RW value that no high-word write follows within 1 ms is discarded. -/
  | heldLowWordExpiry (t : Nat) (p : Path)
  /-- PRBS_SYMBOL_CHECK (R319): Each symbol received under a PRBS checker pattern is checked; the checker locks after 1,024 agreeing symbols, counts symbols and errors while locked, and loses lock on 64 errors within 1,024 symbols. -/
  | prbsSymbolCheck (t : Nat) (k : Nat) (bits : Nat)
  /-- ALIGN_MATCH (R317): While RX_PAT is ALIGN, MATCH is recomputed from the deserializer words received and becomes 1 or 0 as the last 16 words equal the ALIGN word or not. -/
  | alignMatch (t : Nat) (k : Nat) (word : Nat)
deriving DecidableEq, Repr

end Sys2Proof
end

