-- ==== Sys2Proof/Machine/Sha.lean ====
section
/-! DEFINITION. The digests of FIPS 180-4 the node uses: SHA-384 for Castings, run keys and key blocks (R48), SHA-256
for the hallmark chain (R19, R552). -/

namespace Sys2Proof.Machine

/-- `n` bytes of `v`, most significant first. -/
def beBytes : Nat → Nat → List Byte
  | 0, _ => []
  | n + 1, v => BitVec.ofNat 8 (v / 256 ^ n) :: beBytes n v

/-- The number a byte list spells, most significant byte first. -/
def ofBeBytes (bs : List Byte) : Nat := bs.foldl (fun a b => a * 256 + b.toNat) 0

/-- `n` bytes of `v`, least significant first (R40). -/
def leBytes : Nat → Nat → List Byte
  | 0, _ => []
  | n + 1, v => BitVec.ofNat 8 v :: leBytes n (v / 256)

/-- The number a byte list spells, least significant byte first (R40). -/
def ofLeBytes : List Byte → Nat
  | [] => 0
  | b :: bs => b.toNat + 256 * ofLeBytes bs

/-- Bytes `off` to `off + n - 1` of a list, with zeros past its end. -/
def slice (bs : List Byte) (off n : Nat) : List Byte :=
  let t := (bs.drop off).take n
  t ++ List.replicate (n - t.length) 0

/-- The little-endian number at bytes `off` to `off + n - 1`. -/
def leAt (bs : List Byte) (off n : Nat) : Nat := ofLeBytes (slice bs off n)

/-- The words of `w` bits that a long literal spells, the first in its highest bits: the last `n` of them. -/
def splitWords (w : Nat) : Nat → Nat → List (BitVec w)
  | 0, _ => []
  | n + 1, v => BitVec.ofNat w (v >>> (w * n)) :: splitWords w n v

/-- Round constants 0 to 39 of the 64-bit digests: the fractions of the cube roots of the primes from 2 on, 64 bits each. -/
def shaKLow : Nat :=
  0x428a2f98d728ae227137449123ef65cdb5c0fbcfec4d3b2fe9b5dba58189dbbc3956c25bf348b53859f111f1b605d019923f82a4af194f9bab1c5ed5da6d8118d807aa98a303024212835b0145706fbe243185be4ee4b28c550c7dc3d5ffb4e272be5d74f27b896f80deb1fe3b1696b19bdc06a725c71235c19bf174cf692694e49b69c19ef14ad2efbe4786384f25e30fc19dc68b8cd5b5240ca1cc77ac9c652de92c6f592b02754a7484aa6ea6e4835cb0a9dcbd41fbd476f988da831153b5983e5152ee66dfaba831c66d2db43210b00327c898fb213fbf597fc7beef0ee4c6e00bf33da88fc2d5a79147930aa72506ca6351e003826f142929670a0e6e7027b70a8546d22ffc2e1b21385c26c9264d2c6dfc5ac42aed53380d139d95b3df650a73548baf63de766a0abb3c77b2a881c2c92e47edaee692722c851482353b

/-- Round constants 40 to 79. -/
def shaKHigh : Nat :=
  0xa2bfe8a14cf10364a81a664bbc423001c24b8b70d0f89791c76c51a30654be30d192e819d6ef5218d69906245565a910f40e35855771202a106aa07032bbd1b819a4c116b8d2d0c81e376c085141ab532748774cdf8eeb9934b0bcb5e19b48a8391c0cb3c5c95a634ed8aa4ae3418acb5b9cca4f7763e373682e6ff3d6b2b8a3748f82ee5defb2fc78a5636f43172f6084c87814a1f0ab728cc702081a6439ec90befffa23631e28a4506cebde82bde9bef9a3f7b2c67915c67178f2e372532bca273eceea26619cd186b8c721c0c207eada7dd6cde0eb1ef57d4f7fee6ed17806f067aa72176fba0a637dc5a2c898a6113f9804bef90dae1b710b35131c471b28db77f523047d8432caab7b40c724933c9ebe0a15c9bebc431d67c49c100d4c4cc5d4becb3e42b6597f299cfc657e2a5fcb6fab3ad6faec6c44198c4a475817

/-- All the round constants, as words of 64 bits. -/
def shaK : List (BitVec 64) := splitWords 64 40 shaKLow ++ splitWords 64 40 shaKHigh

/-- What SHA-384 begins with: the fractions of the square roots of the ninth to sixteenth primes. -/
def sha384Init : List (BitVec 64) :=
  splitWords 64 8 0xcbbb9d5dc1059ed8629a292a367cd5079159015a3070dd17152fecd8f70e593967332667ffc00b318eb44a8768581511db0c2e0d64f98fa747b5481dbefa4fa4

/-- What SHA-256 begins with: 32 bits of the fractions of the square roots of the first eight primes. -/
def sha256Init : List (BitVec 32) :=
  splitWords 32 8 0x6a09e667bb67ae853c6ef372a54ff53a510e527f9b05688c1f83d9ab5be0cd19

/-- The rotation and shift amounts of one SHA-2 width. -/
structure ShaShape where
  rounds : Nat
  bs0 : Nat × Nat × Nat
  bs1 : Nat × Nat × Nat
  ss0 : Nat × Nat × Nat
  ss1 : Nat × Nat × Nat

/-- SHA-384 (the SHA-512 compression). -/
def sha512Shape : ShaShape := ⟨80, (28, 34, 39), (14, 18, 41), (1, 8, 7), (19, 61, 6)⟩
/-- SHA-256. -/
def sha256Shape : ShaShape := ⟨64, (2, 13, 22), (6, 11, 25), (7, 18, 3), (17, 19, 10)⟩

/-- Sum of three rotations. -/
def rot3 {w : Nat} (r : Nat × Nat × Nat) (x : BitVec w) : BitVec w :=
  x.rotateRight r.1 ^^^ x.rotateRight r.2.1 ^^^ x.rotateRight r.2.2

/-- Sum of two rotations and a shift. -/
def rotShift {w : Nat} (r : Nat × Nat × Nat) (x : BitVec w) : BitVec w :=
  x.rotateRight r.1 ^^^ x.rotateRight r.2.1 ^^^ (x >>> r.2.2)

/-- Each bit of `y` where `x` has a 1, of `z` where it has a 0. -/
def pickBits {w : Nat} (x y z : BitVec w) : BitVec w := z ^^^ (x &&& (y ^^^ z))

/-- Each bit as most of three words have it. -/
def mostBits {w : Nat} (x y z : BitVec w) : BitVec w := (x &&& y) ||| (z &&& (x ||| y))

/-- One round: the eight working words move down one place, and the first and the fifth take what the round's sums give. -/
def shaRound {w : Nat} (sh : ShaShape) (k : BitVec w) (m : BitVec w) (v : List (BitVec w)) : List (BitVec w) :=
  let wd (i : Nat) : BitVec w := v.getD i 0
  let mix := wd 7 + rot3 sh.bs1 (wd 4) + pickBits (wd 4) (wd 5) (wd 6) + k + m
  let top := mix + rot3 sh.bs0 (wd 0) + mostBits (wd 0) (wd 1) (wd 2)
  (top :: v.take 3) ++ (wd 3 + mix) :: (v.drop 4).take 3

/-- The rounds: the message schedule is a window of sixteen words that moves one word a round. -/
def shaRounds {w : Nat} (sh : ShaShape) : List (BitVec w) → List (BitVec w) → List (BitVec w) → List (BitVec w)
  | [], _, v => v
  | k :: ks, win, v =>
    let m := win.headD 0
    let nxt := rotShift sh.ss1 (win.getD 14 0) + win.getD 9 0 + rotShift sh.ss0 (win.getD 1 0) + m
    shaRounds sh ks (win.tail ++ [nxt]) (shaRound sh k m v)

/-- Words of one block, most significant byte first. -/
def shaWords {w : Nat} : Nat → List Byte → List (BitVec w)
  | 0, _ => []
  | n + 1, bs => BitVec.ofNat w (ofBeBytes (bs.take (w / 8))) :: shaWords n (bs.drop (w / 8))

/-- The padded message's blocks, compressed one after another. -/
def shaBlocks {w : Nat} (sh : ShaShape) (ks : List (BitVec w)) :
    Nat → List Byte → List (BitVec w) → List (BitVec w)
  | 0, _, v => v
  | n + 1, bs, v =>
    shaBlocks sh ks n (bs.drop (2 * w)) (List.zipWith (· + ·) v (shaRounds sh ks (shaWords 16 bs) v))

/-- Padding of FIPS 180-4 for a block of `b` bytes and a length field of `l` bytes. -/
def shaPad (b l : Nat) (bs : List Byte) : List Byte :=
  let n := bs.length
  let z := (2 * b - (n + 1 + l) % b) % b
  bs ++ [0x80] ++ List.replicate z 0 ++ beBytes l (8 * n)

/-- The SHA-384 digest, 48 bytes. -/
def sha384 (bs : List Byte) : List Byte :=
  let p := shaPad 128 16 bs
  let v := shaBlocks sha512Shape shaK (p.length / 128) p sha384Init
  (v.flatMap (fun x => beBytes 8 x.toNat)).take 48

/-- The SHA-256 digest, 32 bytes. -/
def sha256 (bs : List Byte) : List Byte :=
  let p := shaPad 64 8 bs
  let ks := (shaK.take 64).map (fun k => k.extractLsb' 32 32)
  (shaBlocks sha256Shape ks (p.length / 64) p sha256Init).flatMap (fun x => beBytes 4 x.toNat)

end Sys2Proof.Machine
end

