-- ==== Sys2Proof/Machine/Ecdsa.lean ====
section
/-! DEFINITION. The ECDSA verification of FIPS 186-5 over curve P-384, with SHA-384 (R50, R541). -/

namespace Sys2Proof.Machine

/-- The field prime of P-384. -/
def p384P : Nat := 2 ^ 384 - 2 ^ 128 - 2 ^ 96 + 2 ^ 32 - 1
/-- The order of the base point of P-384. -/
def p384N : Nat := 0xffffffffffffffffffffffffffffffffffffffffffffffffc7634d81f4372ddf581a0db248b0a77aecec196accc52973
/-- The coefficient b of P-384. -/
def p384B : Nat := 0xb3312fa7e23ee7e4988e056be3f82d19181d9c6efe8141120314088f5013875ac656398d8a2ed19d2a85c8edd3ec2aef
/-- The base point of P-384. -/
def p384G : Nat × Nat :=
  (0xaa87ca22be8b05378eb1c71ef320ad746e1d3b628ba79b9859f741e082542a385502f25dbf55296c3a545e3872760ab7,
   0x3617de4a96262c6f5d9e98bf9292dc29f8f41dbd289a147ce9da3113b5f0b8c00a60b1ce1d7e819d7a431d7c90ea0e5f)

/-- `b ^ e` modulo `m`, by squaring, on `n` bits of `e`. -/
def powMod (m : Nat) : Nat → Nat → Nat → Nat → Nat
  | 0, _, _, acc => acc
  | n + 1, b, e, acc => powMod m n (b * b % m) (e / 2) (if e % 2 = 1 then acc * b % m else acc)

/-- The inverse modulo a prime below 2^384. -/
def invMod (m a : Nat) : Nat := powMod m 384 (a % m) (m - 2) 1

/-- A point in Jacobian coordinates: (X, Y, Z) is the affine point (X / Z², Y / Z³), and one with Z = 0 the point at infinity. They spare
an inverse at every addition. -/
structure JPoint where
  x : Nat
  y : Nat
  z : Nat

/-- The point at infinity. -/
def JPoint.inf : JPoint := ⟨1, 1, 0⟩

/-- Twice a point. -/
def JPoint.dbl (p : JPoint) : JPoint :=
  if p.z = 0 ∨ p.y = 0 then JPoint.inf
  else
    let m := p384P
    let zz := p.z * p.z % m
    let yy := p.y * p.y % m
    let b := p.x * yy % m
    let a := 3 * (p.x + (m - zz)) * (p.x + zz) % m
    let x := (a * a + 8 * (m - b)) % m
    ⟨x, (a * (4 * b + (m - x)) + 8 * (m - yy * yy % m)) % m, 2 * p.y * p.z % m⟩

/-- The sum of two points. -/
def JPoint.add (p q : JPoint) : JPoint :=
  if p.z = 0 then q
  else if q.z = 0 then p
  else
    let m := p384P
    let pp := p.z * p.z % m
    let qq := q.z * q.z % m
    let u := p.x * qq % m
    let v := p.y * q.z * qq % m
    let h := (q.x * pp + (m - u)) % m
    let r := (q.y * p.z * pp + (m - v)) % m
    if h = 0 then (if r = 0 then p.dbl else JPoint.inf)
    else
      let hh := h * h % m
      let hhh := h * hh % m
      let w := u * hh % m
      let x := (r * r + (m - hhh) + 2 * (m - w)) % m
      ⟨x, (r * (w + (m - x)) + (m - v) * hhh) % m, p.z * q.z * h % m⟩

/-- `k` times a point, on `n` bits of `k`. -/
def JPoint.mul : Nat → Nat → JPoint → JPoint → JPoint
  | 0, _, _, acc => acc
  | n + 1, k, p, acc => JPoint.mul n (k / 2) p.dbl (if k % 2 = 1 then acc.add p else acc)

/-- Whether a point lies on P-384. -/
def p384On (q : Nat × Nat) : Bool :=
  q.1 < p384P && q.2 < p384P && q.2 * q.2 % p384P == (q.1 * q.1 * q.1 + (p384P - 3) * q.1 + p384B) % p384P

/-- Whether (r, s) verifies over a 48-byte digest under the public key `q` (FIPS 186-5). -/
def ecdsaVerify (q : Nat × Nat) (digest : List Byte) (r s : Nat) : Bool :=
  if r = 0 ∨ p384N ≤ r ∨ s = 0 ∨ p384N ≤ s ∨ p384On q = false then false
  else
    let e := ofBeBytes digest
    let w := invMod p384N s
    let sum (k : Nat) (p : Nat × Nat) : JPoint := JPoint.mul 384 (k % p384N) ⟨p.1, p.2, 1⟩ JPoint.inf
    let p := (sum (e * w) p384G).add (sum (r * w) q)
    p.z != 0 && p.x * invMod p384P (p.z * p.z) % p384P % p384N == r

end Sys2Proof.Machine
end

