-- ==== Sys2Proof/Machine/Codes.lean ====
section
/-! DEFINITION. The codes of fault classes, masters and paths (R511, R516, R608). -/

namespace Sys2Proof

/-- The code of a class (R511). -/
def FClass.code (c : FClass) : Nat :=
  match c with
  | .link => 0 | .mem => 1 | .num => 2 | .sched => 3 | .pwr => 4 | .time => 5 | .sec => 6 | .cast => 7 | .sw => 8

/-- A master (R516). -/
def Machine.mBench (l : Nat) : Master := ⟨0, l⟩
/-- A master (R516). -/
def Machine.mCrucible (c : Nat) : Master := ⟨1, c⟩
/-- A master (R516). -/
def Machine.mStock (t : Nat) : Master := ⟨2, t⟩
/-- A master (R516). -/
def Machine.mHost (p : Nat) : Master := ⟨3, p⟩
/-- A master (R516). -/
def Machine.mBoard : Master := ⟨4, 0⟩
/-- A master (R516). -/
def Machine.mBurnish : Master := ⟨5, 0⟩
/-- A master (R516). -/
def Machine.mDie (d : Nat) : Master := ⟨6, d⟩
/-- A master (R516). -/
def Machine.mPort (k : Nat) : Master := ⟨7, k⟩
/-- A master (R516). -/
def Machine.mUnit (u : Nat) : Master := ⟨8, u⟩
/-- A master (R516). -/
def Machine.mTime : Master := ⟨9, 0⟩
/-- A master (R516). -/
def Machine.mPower (i : Nat) : Master := ⟨10, i⟩
/-- A master (R516). -/
def Machine.mCast : Master := ⟨11, 0⟩
/-- A master (R516). -/
def Machine.mTemper (i : Nat) : Master := ⟨12, i⟩
/-- A master (R516). -/
def Machine.mDesc (d : Nat) : Master := ⟨13, d⟩
/-- A master (R516). -/
def Machine.mHall (h : Nat) : Master := ⟨14, h⟩
/-- A master (R516). -/
def Machine.mNone : Master := ⟨15, 0⟩

/-- The 16-bit master code of captures (R516). -/
def Master.code (m : Master) : Nat := m.kind * 4096 + m.idx % 4096

/-- The master of a write path; the management service is the node's own unit, kind 15 (R516). -/
def Path.master (p : Path) : Master :=
  match p with | .hp0 => Machine.mHost 0 | .hp1 => Machine.mHost 1 | .bc => Machine.mBoard | .ms => Machine.mNone

/-- The index of a host port; the board controller's fetches go over HP0 (R59). -/
def Path.hostPort (p : Path) : Nat := match p with | .hp1 => 1 | _ => 0

end Sys2Proof
end

