-- ==== Sys2Proof/Machine/Crc.lean ====
section
/-! DEFINITION. The cyclic codes of the node: the four Touchmark polynomials (R474) and the CRC-8 of flit headers and
control symbols (R332). -/

namespace Sys2Proof.Machine

/-- One byte into a CRC that is not reflected: eight shifts to the left. -/
def crcByte (w poly : Nat) : Nat → Nat → Nat
  | 0, c => c
  | n + 1, c =>
    let c2 := (2 * c) % 2 ^ w
    crcByte w poly n (if c / 2 ^ (w - 1) % 2 = 1 then Nat.xor c2 poly else c2)

/-- A CRC of width `w` over bytes, most significant bit first. -/
def crcMsb (w poly init : Nat) (bs : List Byte) : Nat :=
  bs.foldl (fun c b => crcByte w poly 8 (Nat.xor c (b.toNat * 2 ^ (w - 8)))) init

/-- The low `n` bits of `v` in reverse order. -/
def reflect : Nat → Nat → Nat
  | 0, _ => 0
  | n + 1, v => (v % 2) * 2 ^ n + reflect n (v / 2)

/-- A CRC reflected in and out. -/
def crcLsb (w poly init : Nat) (bs : List Byte) : Nat :=
  reflect w (crcMsb w poly init (bs.map (fun b => BitVec.ofNat 8 (reflect 8 b.toNat))))

/-- The Touchmark CRC that TM_CFG.POLY selects, as a number of at most 64 bits (R474, R475). -/
def touchCrc (poly : Nat) (bs : List Byte) : Nat :=
  match poly with
  | 0 => Nat.xor (crcLsb 32 0x1EDC6F41 0xFFFFFFFF bs) 0xFFFFFFFF
  | 1 => Nat.xor (crcLsb 32 0x04C11DB7 0xFFFFFFFF bs) 0xFFFFFFFF
  | 2 => crcMsb 64 0x42F0E1EBA9EA3693 0 bs
  | _ => crcMsb 16 0x1021 0xFFFF bs

/-- The CRC-8 with polynomial x^8 + x^2 + x + 1 and initial value 0 (R332). -/
def crc8 (bs : List Byte) : Nat := crcMsb 8 0x07 0 bs

end Sys2Proof.Machine
end

