-- ==== Sys2Proof/Machine/RegTypes.lean ====
section
/-! DEFINITION. What a register field is: its place, its access code (R9) and its apply class (R13 to R15). -/

namespace Sys2Proof.Machine

/-- Access codes (R9). -/
inductive Acc where
  | rw | ro | w1c | wo
deriving DecidableEq, Repr

/-- Apply classes: cast-sealed (R13), seam (R14), live (R15). -/
inductive App where
  | c | s | l
deriving DecidableEq, Repr

/-- The place of a field: byte address of its word in the window, low bit and width (R5, R7). -/
structure Fld where
  addr : Nat
  lo : Nat
  width : Nat
deriving DecidableEq, Repr

/-- One field of a register: low bit, width, access code, apply class and reset value (R16). -/
structure FldSpec where
  lo : Nat
  width : Nat
  acc : Acc
  app : App
  reset : Nat
deriving DecidableEq, Repr

/-- One register or indexed group of registers: the byte address of its first instance, the (stride, count) of
each index, and its fields (R605, R606). -/
structure RegSpec where
  base : Nat
  dims : List (Nat × Nat)
  flds : List FldSpec
deriving DecidableEq, Repr

/-- Whether byte address `a` is an instance of the register. -/
def RegSpec.hits (r : RegSpec) (a : Nat) : Bool :=
  match r.dims with
  | [] => a == r.base
  | [(s, n)] => r.base ≤ a && (a - r.base) % s == 0 && (a - r.base) / s < n
  | (s, n) :: (s', n') :: _ =>
    r.base ≤ a && (a - r.base) / s < n && (a - r.base) % s % s' == 0 && (a - r.base) % s / s' < n'

/-- The word that holds every field of the register at its reset value. -/
def RegSpec.resetWord (r : RegSpec) : Nat :=
  r.flds.foldl (fun w f => w + f.reset * 2 ^ f.lo) 0

end Sys2Proof.Machine
end

