-- ==== Sys2Proof/Machine/RegsA.lean ====
section
/-! DEFINITION. The register fields of the blocks MGT, PWR, TG, CST, FLT, as the field tables of their chapters give them (R605, R606):
a name for each field (R17), and each block's table of access code, apply class and reset (R9, R12, R16, R612). -/

namespace Sys2Proof.Machine

/-- MGT_ID.STEP_L (R581). -/
def MGT_ID_STEP_L : Fld := ⟨0x0, 0, 8⟩
/-- MGT_ID.STEP_D (R581). -/
def MGT_ID_STEP_D : Fld := ⟨0x0, 8, 4⟩
/-- MGT_ID.OPT (R581). -/
def MGT_ID_OPT : Fld := ⟨0x0, 12, 1⟩
/-- MGT_ID.PART (R581). -/
def MGT_ID_PART : Fld := ⟨0x0, 16, 16⟩
/-- MGT_SERIAL_LO (R581). -/
def MGT_SERIAL_LO : Fld := ⟨0x8, 0, 32⟩
/-- MGT_SERIAL_HI (R581). -/
def MGT_SERIAL_HI : Fld := ⟨0xc, 0, 32⟩
/-- MGT_FWVER_LO.BUILD (R581). -/
def MGT_FWVER_LO_BUILD : Fld := ⟨0x10, 0, 16⟩
/-- MGT_FWVER_LO.MINOR (R581). -/
def MGT_FWVER_LO_MINOR : Fld := ⟨0x10, 16, 16⟩
/-- MGT_FWVER_HI.MINORH (R581). -/
def MGT_FWVER_HI_MINORH : Fld := ⟨0x14, 0, 8⟩
/-- MGT_FWVER_HI.MAJOR (R581). -/
def MGT_FWVER_HI_MAJOR : Fld := ⟨0x14, 8, 16⟩
/-- MGT_FWVER_HI.SVN (R581). -/
def MGT_FWVER_HI_SVN : Fld := ⟨0x14, 24, 8⟩
/-- MGT_FEAT0.PORTS (R581). -/
def MGT_FEAT0_PORTS : Fld := ⟨0x18, 0, 9⟩
/-- MGT_FEAT0.HALLS (R581). -/
def MGT_FEAT0_HALLS : Fld := ⟨0x18, 9, 6⟩
/-- MGT_FEAT0.CRUS (R581). -/
def MGT_FEAT0_CRUS : Fld := ⟨0x18, 15, 8⟩
/-- MGT_FEAT0.STACKS (R581). -/
def MGT_FEAT0_STACKS : Fld := ⟨0x18, 23, 4⟩
/-- MGT_FEAT1.TSENS (R581). -/
def MGT_FEAT1_TSENS : Fld := ⟨0x1c, 0, 8⟩
/-- MGT_FEAT1.VMONS (R581). -/
def MGT_FEAT1_VMONS : Fld := ⟨0x1c, 8, 7⟩
/-- MGT_FEAT1.SMONS (R581). -/
def MGT_FEAT1_SMONS : Fld := ⟨0x1c, 15, 7⟩
/-- MGT_BOOT.SLOT (R581). -/
def MGT_BOOT_SLOT : Fld := ⟨0x20, 0, 1⟩
/-- MGT_BOOT.READY (R581). -/
def MGT_BOOT_READY : Fld := ⟨0x20, 1, 1⟩
/-- MGT_BOOT.FALLBACK (R581). -/
def MGT_BOOT_FALLBACK : Fld := ⟨0x20, 2, 1⟩
/-- MGT_BOOT.STATE (R581). -/
def MGT_BOOT_STATE : Fld := ⟨0x20, 3, 3⟩
/-- MGT_BOOT.FAILA (R581). -/
def MGT_BOOT_FAILA : Fld := ⟨0x20, 8, 4⟩
/-- MGT_BOOT.FAILB (R581). -/
def MGT_BOOT_FAILB : Fld := ⟨0x20, 12, 4⟩
/-- MGT_RST.OP (R581). -/
def MGT_RST_OP : Fld := ⟨0x24, 0, 4⟩
/-- MGT_RST.KEY (R581). -/
def MGT_RST_KEY : Fld := ⟨0x24, 8, 8⟩
/-- MGT_RSTCAUSE.CAUSE (R581). -/
def MGT_RSTCAUSE_CAUSE : Fld := ⟨0x28, 0, 2⟩
/-- MGT_RSTCAUSE.WARMS (R581). -/
def MGT_RSTCAUSE_WARMS : Fld := ⟨0x28, 16, 16⟩
/-- MGT_PRST.PORT (R581). -/
def MGT_PRST_PORT : Fld := ⟨0x2c, 0, 8⟩
/-- MGT_PRST.GO (R581). -/
def MGT_PRST_GO : Fld := ⟨0x2c, 8, 1⟩
/-- MGT_HRST.HALL (R581). -/
def MGT_HRST_HALL : Fld := ⟨0x30, 0, 5⟩
/-- MGT_HRST.GO (R581). -/
def MGT_HRST_GO : Fld := ⟨0x30, 8, 1⟩
/-- MGT_HRST.REF (R581). -/
def MGT_HRST_REF : Fld := ⟨0x30, 9, 1⟩
/-- MGT_TLIM.THR (R582). -/
def MGT_TLIM_THR : Fld := ⟨0x40, 0, 8⟩
/-- MGT_TLIM.CRIT (R582). -/
def MGT_TLIM_CRIT : Fld := ⟨0x40, 8, 8⟩
/-- MGT_TLIM.HYS (R582). -/
def MGT_TLIM_HYS : Fld := ⟨0x40, 16, 4⟩
/-- MGT_THR.FORCE (R582). -/
def MGT_THR_FORCE : Fld := ⟨0x44, 0, 4⟩
/-- MGT_THR.AUTO (R582). -/
def MGT_THR_AUTO : Fld := ⟨0x44, 4, 1⟩
/-- MGT_THR.MAXSTEP_M (R582). -/
def MGT_THR_MAXSTEP_M : Fld := ⟨0x44, 8, 4⟩
/-- MGT_THR.MAXSTEP_S (R582). -/
def MGT_THR_MAXSTEP_S : Fld := ⟨0x44, 12, 4⟩
/-- MGT_THRSTAT.K_M0 (R582). -/
def MGT_THRSTAT_K_M0 : Fld := ⟨0x48, 0, 4⟩
/-- MGT_THRSTAT.K_M1 (R582). -/
def MGT_THRSTAT_K_M1 : Fld := ⟨0x48, 4, 4⟩
/-- MGT_THRSTAT.K_M2 (R582). -/
def MGT_THRSTAT_K_M2 : Fld := ⟨0x48, 8, 4⟩
/-- MGT_THRSTAT.K_M3 (R582). -/
def MGT_THRSTAT_K_M3 : Fld := ⟨0x48, 12, 4⟩
/-- MGT_THRSTAT.K_S0 (R582). -/
def MGT_THRSTAT_K_S0 : Fld := ⟨0x48, 16, 4⟩
/-- MGT_THRSTAT.K_S1 (R582). -/
def MGT_THRSTAT_K_S1 : Fld := ⟨0x48, 20, 4⟩
/-- MGT_THRSTAT.CAUSE (R582). -/
def MGT_THRSTAT_CAUSE : Fld := ⟨0x48, 24, 2⟩
/-- MGT_THRSTAT.FLOOR (R582). -/
def MGT_THRSTAT_FLOOR : Fld := ⟨0x48, 26, 1⟩
/-- MGT_PLIM.PLIM (R582). -/
def MGT_PLIM_PLIM : Fld := ⟨0x4c, 0, 16⟩
/-- MGT_POWER.WATTS (R582). -/
def MGT_POWER_WATTS : Fld := ⟨0x50, 0, 16⟩
/-- MGT_POWER.PEAK (R582). -/
def MGT_POWER_PEAK : Fld := ⟨0x50, 16, 16⟩
/-- MGT_THRCNT (R582). -/
def MGT_THRCNT : Fld := ⟨0x54, 0, 32⟩
/-- MGT_MSVC.RD (R583). -/
def MGT_MSVC_RD : Fld := ⟨0x70, 0, 1⟩
/-- MGT_MSVC.WR (R583). -/
def MGT_MSVC_WR : Fld := ⟨0x70, 1, 1⟩
/-- MGT_MSVC_CNT.READS (R583). -/
def MGT_MSVC_CNT_READS : Fld := ⟨0x74, 0, 16⟩
/-- MGT_MSVC_CNT.WRITES (R583). -/
def MGT_MSVC_CNT_WRITES : Fld := ⟨0x74, 16, 16⟩
/-- MGT_FL_ADDR.ADDR (R583). -/
def MGT_FL_ADDR_ADDR : Fld := ⟨0x80, 0, 26⟩
/-- MGT_FL_CMD.OP (R583). -/
def MGT_FL_CMD_OP : Fld := ⟨0x84, 0, 3⟩
/-- MGT_FL_STAT.BUSY (R583). -/
def MGT_FL_STAT_BUSY : Fld := ⟨0x88, 0, 1⟩
/-- MGT_FL_STAT.DONE (R583). -/
def MGT_FL_STAT_DONE : Fld := ⟨0x88, 1, 1⟩
/-- MGT_FL_STAT.ERR (R583). -/
def MGT_FL_STAT_ERR : Fld := ⟨0x88, 2, 1⟩
/-- MGT_FL_STAT.CODE (R583). -/
def MGT_FL_STAT_CODE : Fld := ⟨0x88, 4, 4⟩
/-- MGT_BCADDR_LO (R583). -/
def MGT_BCADDR_LO : Fld := ⟨0x90, 0, 32⟩
/-- MGT_BCADDR_HI (R583). -/
def MGT_BCADDR_HI : Fld := ⟨0x94, 0, 32⟩
/-- MGT_BCDATA (R583). -/
def MGT_BCDATA : Fld := ⟨0x98, 0, 32⟩
/-- MGT_BCSTAT.ERR (R583). -/
def MGT_BCSTAT_ERR : Fld := ⟨0x9c, 0, 1⟩
/-- MGT_BCSTAT.CODE (R583). -/
def MGT_BCSTAT_CODE : Fld := ⟨0x9c, 1, 2⟩
/-- MGT_APER_LO (R583). -/
def MGT_APER_LO (k : Nat) : Fld := ⟨0x60 + 0x8 * k, 0, 32⟩
/-- MGT_APER_HI (R583). -/
def MGT_APER_HI (k : Nat) : Fld := ⟨0x64 + 0x8 * k, 0, 32⟩
/-- MGT_FL_BUF (R583). -/
def MGT_FL_BUF (k : Nat) : Fld := ⟨0x100 + 0x4 * k, 0, 32⟩
/-- MGT_TEMP.TEMP (R582). -/
def MGT_TEMP_TEMP (k : Nat) : Fld := ⟨0x1000 + 0x4 * k, 0, 16⟩
/-- MGT_TEMP.PEAK (R582). -/
def MGT_TEMP_PEAK (k : Nat) : Fld := ⟨0x1000 + 0x4 * k, 16, 16⟩
/-- MGT_VMON.MV (R582). -/
def MGT_VMON_MV (k : Nat) : Fld := ⟨0x1200 + 0x4 * k, 0, 16⟩
/-- MGT_VMON.OUT (R582). -/
def MGT_VMON_OUT (k : Nat) : Fld := ⟨0x1200 + 0x4 * k, 16, 1⟩
/-- MGT_SPD.RATE (R582). -/
def MGT_SPD_RATE (k : Nat) : Fld := ⟨0x1400 + 0x4 * k, 0, 16⟩
/-- MGT_SPD.MIN (R582). -/
def MGT_SPD_MIN (k : Nat) : Fld := ⟨0x1400 + 0x4 * k, 16, 16⟩
/-- MGT_VLIM.LO (R582). -/
def MGT_VLIM_LO (k : Nat) : Fld := ⟨0x1600 + 0x4 * k, 0, 16⟩
/-- MGT_VLIM.HI (R582). -/
def MGT_VLIM_HI (k : Nat) : Fld := ⟨0x1600 + 0x4 * k, 16, 16⟩
/-- Registers of block MGT, part 1. -/
def regsMGT1 : List RegSpec :=
  [⟨0x0, [], [⟨0, 8, .ro, .l, 65⟩, ⟨8, 4, .ro, .l, 1⟩, ⟨12, 1, .ro, .l, 0⟩, ⟨16, 16, .ro, .l, 1440⟩]⟩,
   ⟨0x8, [], [⟨0, 32, .ro, .l, 0⟩]⟩,
   ⟨0xc, [], [⟨0, 32, .ro, .l, 0⟩]⟩,
   ⟨0x10, [], [⟨0, 16, .ro, .l, 0⟩, ⟨16, 16, .ro, .l, 0⟩]⟩,
   ⟨0x14, [], [⟨0, 8, .ro, .l, 0⟩, ⟨8, 16, .ro, .l, 0⟩, ⟨24, 8, .ro, .l, 0⟩]⟩,
   ⟨0x18, [], [⟨0, 9, .ro, .l, 256⟩, ⟨9, 6, .ro, .l, 32⟩, ⟨15, 8, .ro, .l, 128⟩, ⟨23, 4, .ro, .l, 8⟩]⟩,
   ⟨0x1c, [], [⟨0, 8, .ro, .l, 128⟩, ⟨8, 7, .ro, .l, 96⟩, ⟨15, 7, .ro, .l, 64⟩]⟩,
   ⟨0x20, [], [⟨0, 1, .ro, .l, 0⟩, ⟨1, 1, .ro, .l, 0⟩, ⟨2, 1, .ro, .l, 0⟩, ⟨3, 3, .ro, .l, 0⟩, ⟨8, 4, .ro, .l, 0⟩, ⟨12, 4, .ro, .l, 0⟩]⟩,
   ⟨0x24, [], [⟨0, 4, .wo, .l, 0⟩, ⟨8, 8, .wo, .l, 0⟩]⟩,
   ⟨0x28, [], [⟨0, 2, .ro, .l, 0⟩, ⟨16, 16, .ro, .l, 0⟩]⟩,
   ⟨0x2c, [], [⟨0, 8, .wo, .l, 0⟩, ⟨8, 1, .wo, .l, 0⟩]⟩,
   ⟨0x30, [], [⟨0, 5, .wo, .l, 0⟩, ⟨8, 1, .wo, .l, 0⟩, ⟨9, 1, .w1c, .l, 0⟩]⟩]
/-- Registers of block MGT, part 2. -/
def regsMGT2 : List RegSpec :=
  [⟨0x40, [], [⟨0, 8, .rw, .l, 100⟩, ⟨8, 8, .rw, .l, 110⟩, ⟨16, 4, .rw, .l, 5⟩]⟩,
   ⟨0x44, [], [⟨0, 4, .rw, .l, 0⟩, ⟨4, 1, .rw, .l, 1⟩, ⟨8, 4, .rw, .l, 10⟩, ⟨12, 4, .rw, .l, 4⟩]⟩,
   ⟨0x48, [], [⟨0, 4, .ro, .l, 0⟩, ⟨4, 4, .ro, .l, 0⟩, ⟨8, 4, .ro, .l, 0⟩, ⟨12, 4, .ro, .l, 0⟩, ⟨16, 4, .ro, .l, 0⟩, ⟨20, 4, .ro, .l, 0⟩, ⟨24, 2, .ro, .l, 0⟩, ⟨26, 1, .w1c, .l, 0⟩]⟩,
   ⟨0x4c, [], [⟨0, 16, .rw, .l, 3400⟩]⟩,
   ⟨0x50, [], [⟨0, 16, .ro, .l, 0⟩, ⟨16, 16, .ro, .l, 0⟩]⟩,
   ⟨0x54, [], [⟨0, 32, .ro, .l, 0⟩]⟩,
   ⟨0x70, [], [⟨0, 1, .rw, .l, 1⟩, ⟨1, 1, .rw, .l, 0⟩]⟩,
   ⟨0x74, [], [⟨0, 16, .ro, .l, 0⟩, ⟨16, 16, .ro, .l, 0⟩]⟩,
   ⟨0x80, [], [⟨0, 26, .rw, .l, 0⟩]⟩,
   ⟨0x84, [], [⟨0, 3, .wo, .l, 0⟩]⟩,
   ⟨0x88, [], [⟨0, 1, .ro, .l, 0⟩, ⟨1, 1, .w1c, .l, 0⟩, ⟨2, 1, .w1c, .l, 0⟩, ⟨4, 4, .ro, .l, 0⟩]⟩,
   ⟨0x90, [], [⟨0, 32, .rw, .l, 0⟩]⟩]
/-- Registers of block MGT, part 3. -/
def regsMGT3 : List RegSpec :=
  [⟨0x94, [], [⟨0, 32, .rw, .l, 0⟩]⟩,
   ⟨0x98, [], [⟨0, 32, .rw, .l, 0⟩]⟩,
   ⟨0x9c, [], [⟨0, 1, .w1c, .l, 0⟩, ⟨1, 2, .ro, .l, 0⟩]⟩,
   ⟨0x60, [(0x8, 2)], [⟨0, 32, .rw, .l, 0⟩]⟩,
   ⟨0x64, [(0x8, 2)], [⟨0, 32, .rw, .l, 0⟩]⟩,
   ⟨0x100, [(0x4, 64)], [⟨0, 32, .rw, .l, 0⟩]⟩,
   ⟨0x1000, [(0x4, 128)], [⟨0, 16, .ro, .l, 0⟩, ⟨16, 16, .ro, .l, 0⟩]⟩,
   ⟨0x1200, [(0x4, 96)], [⟨0, 16, .ro, .l, 0⟩, ⟨16, 1, .w1c, .l, 0⟩]⟩,
   ⟨0x1400, [(0x4, 64)], [⟨0, 16, .ro, .l, 0⟩, ⟨16, 16, .ro, .l, 65535⟩]⟩,
   ⟨0x1600, [(0x4, 96)], [⟨0, 16, .rw, .l, 0⟩, ⟨16, 16, .rw, .l, 65535⟩]⟩]
/-- The registers of block MGT. -/
def regsMGT : List RegSpec := regsMGT1 ++ regsMGT2 ++ regsMGT3

/-- PWR_ERR.CODE (R603). -/
def PWR_ERR_CODE : Fld := ⟨0x40000, 0, 4⟩
/-- PWR_ERR.DOMAIN (R603). -/
def PWR_ERR_DOMAIN : Fld := ⟨0x40000, 4, 6⟩
/-- PWR_ERR.REF (R603). -/
def PWR_ERR_REF : Fld := ⟨0x40000, 10, 1⟩
/-- PWR_SUM.ON (R603). -/
def PWR_SUM_ON : Fld := ⟨0x40004, 0, 6⟩
/-- PWR_SUM.RETAIN (R603). -/
def PWR_SUM_RETAIN : Fld := ⟨0x40004, 8, 6⟩
/-- PWR_SUM.OFF (R603). -/
def PWR_SUM_OFF : Fld := ⟨0x40004, 16, 6⟩
/-- PWR_SUM.TRANSIT (R603). -/
def PWR_SUM_TRANSIT : Fld := ⟨0x40004, 24, 6⟩
/-- PWR_IIN.AMPS (R603). -/
def PWR_IIN_AMPS : Fld := ⟨0x40008, 0, 16⟩
/-- PWR_IIN.PEAK (R603). -/
def PWR_IIN_PEAK : Fld := ⟨0x40008, 16, 16⟩
/-- PWR_SEQ.STEP (R603). -/
def PWR_SEQ_STEP : Fld := ⟨0x4000c, 0, 4⟩
/-- PWR_SEQ.UVLO (R603). -/
def PWR_SEQ_UVLO : Fld := ⟨0x4000c, 4, 1⟩
/-- PWR_CTRL.REQ (R604). -/
def PWR_CTRL_REQ (k : Nat) : Fld := ⟨0x40100 + 0x4 * k, 0, 2⟩
/-- PWR_STATE.STATE (R604). -/
def PWR_STATE_STATE (k : Nat) : Fld := ⟨0x40200 + 0x4 * k, 0, 2⟩
/-- PWR_STATE.TARGET (R604). -/
def PWR_STATE_TARGET (k : Nat) : Fld := ⟨0x40200 + 0x4 * k, 2, 2⟩
/-- PWR_STATE.PGOOD (R604). -/
def PWR_STATE_PGOOD (k : Nat) : Fld := ⟨0x40200 + 0x4 * k, 4, 1⟩
/-- PWR_STATE.LOCKED (R604). -/
def PWR_STATE_LOCKED (k : Nat) : Fld := ⟨0x40200 + 0x4 * k, 5, 1⟩
/-- PWR_STATE.CAUSE (R604). -/
def PWR_STATE_CAUSE (k : Nat) : Fld := ⟨0x40200 + 0x4 * k, 6, 3⟩
/-- PWR_STATE.WAKES (R604). -/
def PWR_STATE_WAKES (k : Nat) : Fld := ⟨0x40200 + 0x4 * k, 16, 16⟩
/-- PWR_DW.WATTS (R604). -/
def PWR_DW_WATTS (k : Nat) : Fld := ⟨0x40300 + 0x4 * k, 0, 16⟩
/-- PWR_DW.PEAK (R604). -/
def PWR_DW_PEAK (k : Nat) : Fld := ⟨0x40300 + 0x4 * k, 16, 16⟩
/-- Registers of block PWR, part 1. -/
def regsPWR1 : List RegSpec :=
  [⟨0x40000, [], [⟨0, 4, .ro, .l, 0⟩, ⟨4, 6, .ro, .l, 0⟩, ⟨10, 1, .w1c, .l, 0⟩]⟩,
   ⟨0x40004, [], [⟨0, 6, .ro, .l, 0⟩, ⟨8, 6, .ro, .l, 0⟩, ⟨16, 6, .ro, .l, 0⟩, ⟨24, 6, .ro, .l, 0⟩]⟩,
   ⟨0x40008, [], [⟨0, 16, .ro, .l, 0⟩, ⟨16, 16, .ro, .l, 0⟩]⟩,
   ⟨0x4000c, [], [⟨0, 4, .ro, .l, 0⟩, ⟨4, 1, .ro, .l, 0⟩]⟩,
   ⟨0x40100, [(0x4, 50)], [⟨0, 2, .rw, .l, 0⟩]⟩,
   ⟨0x40200, [(0x4, 50)], [⟨0, 2, .ro, .l, 0⟩, ⟨2, 2, .ro, .l, 0⟩, ⟨4, 1, .ro, .l, 0⟩, ⟨5, 1, .ro, .l, 0⟩, ⟨6, 3, .ro, .l, 0⟩, ⟨16, 16, .ro, .l, 0⟩]⟩,
   ⟨0x40300, [(0x4, 50)], [⟨0, 16, .ro, .l, 0⟩, ⟨16, 16, .ro, .l, 0⟩]⟩]
/-- The registers of block PWR. -/
def regsPWR : List RegSpec := regsPWR1

/-- TG_NOW_LO (R111). -/
def TG_NOW_LO : Fld := ⟨0x80000, 0, 32⟩
/-- TG_NOW_HI (R111). -/
def TG_NOW_HI : Fld := ⟨0x80004, 0, 32⟩
/-- TG_STATUS.SYNC (R109). -/
def TG_STATUS_SYNC : Fld := ⟨0x80008, 0, 2⟩
/-- TG_STATUS.ROOT (R109). -/
def TG_STATUS_ROOT : Fld := ⟨0x80008, 2, 1⟩
/-- TG_STATUS.PPS_OK (R109). -/
def TG_STATUS_PPS_OK : Fld := ⟨0x80008, 3, 1⟩
/-- TG_STATUS.TIMING_LOST (R109). -/
def TG_STATUS_TIMING_LOST : Fld := ⟨0x80008, 4, 1⟩
/-- TG_STATUS.STARTED (R109). -/
def TG_STATUS_STARTED : Fld := ⟨0x80008, 5, 1⟩
/-- TG_STATUS.HOPS (R109). -/
def TG_STATUS_HOPS : Fld := ⟨0x80008, 8, 5⟩
/-- TG_STATUS.PARENT_DIR (R109). -/
def TG_STATUS_PARENT_DIR : Fld := ⟨0x80008, 13, 3⟩
/-- TG_STATUS.PARENT_PORT (R109). -/
def TG_STATUS_PARENT_PORT : Fld := ⟨0x80008, 16, 8⟩
/-- TG_CTRL.PPS_OUT_EN (R110). -/
def TG_CTRL_PPS_OUT_EN : Fld := ⟨0x8000c, 0, 1⟩
/-- TG_CTRL.TOD_OUT_EN (R110). -/
def TG_CTRL_TOD_OUT_EN : Fld := ⟨0x8000c, 1, 1⟩
/-- TG_SEAM_LO (R111). -/
def TG_SEAM_LO : Fld := ⟨0x80010, 0, 32⟩
/-- TG_SEAM_HI (R111). -/
def TG_SEAM_HI : Fld := ⟨0x80014, 0, 32⟩
/-- TG_NEXT_LO (R111). -/
def TG_NEXT_LO : Fld := ⟨0x80018, 0, 32⟩
/-- TG_NEXT_HI (R111). -/
def TG_NEXT_HI : Fld := ⟨0x8001c, 0, 32⟩
/-- TG_OFFSET (R111). -/
def TG_OFFSET : Fld := ⟨0x80020, 0, 32⟩
/-- TG_SLEW (R111). -/
def TG_SLEW : Fld := ⟨0x80024, 0, 32⟩
/-- TG_BAR_LEAD (R111). -/
def TG_BAR_LEAD : Fld := ⟨0x80028, 0, 32⟩
/-- TG_LATE_COUNT (R111). -/
def TG_LATE_COUNT : Fld := ⟨0x8002c, 0, 32⟩
/-- TG_LATE_UNIT (R111). -/
def TG_LATE_UNIT : Fld := ⟨0x80030, 0, 32⟩
/-- TG_LATE_REL_LO (R111). -/
def TG_LATE_REL_LO : Fld := ⟨0x80034, 0, 32⟩
/-- TG_LATE_REL_HI (R111). -/
def TG_LATE_REL_HI : Fld := ⟨0x80038, 0, 32⟩
/-- TG_LATE_ACT_LO (R111). -/
def TG_LATE_ACT_LO : Fld := ⟨0x8003c, 0, 32⟩
/-- TG_LATE_ACT_HI (R111). -/
def TG_LATE_ACT_HI : Fld := ⟨0x80040, 0, 32⟩
/-- TG_LATE_LIMIT (R111). -/
def TG_LATE_LIMIT : Fld := ⟨0x80044, 0, 32⟩
/-- TG_SLACK_MIN (R111). -/
def TG_SLACK_MIN : Fld := ⟨0x80048, 0, 32⟩
/-- TG_TOD_BAD (R111). -/
def TG_TOD_BAD : Fld := ⟨0x8004c, 0, 32⟩
/-- TG_PPS_TICK_LO (R111). -/
def TG_PPS_TICK_LO : Fld := ⟨0x80050, 0, 32⟩
/-- TG_PPS_TICK_HI (R111). -/
def TG_PPS_TICK_HI : Fld := ⟨0x80054, 0, 32⟩
/-- TG_PPS_TAI_LO (R111). -/
def TG_PPS_TAI_LO : Fld := ⟨0x80058, 0, 32⟩
/-- TG_PPS_TAI_HI (R111). -/
def TG_PPS_TAI_HI : Fld := ⟨0x8005c, 0, 32⟩
/-- TG_LDLY.DELAY (R111). -/
def TG_LDLY_DELAY (k : Nat) : Fld := ⟨0x81000 + 0x4 * k, 0, 30⟩
/-- TG_LDLY.VALID (R111). -/
def TG_LDLY_VALID (k : Nat) : Fld := ⟨0x81000 + 0x4 * k, 31, 1⟩
/-- Registers of block TG, part 1. -/
def regsTG1 : List RegSpec :=
  [⟨0x80000, [], [⟨0, 32, .ro, .l, 0⟩]⟩,
   ⟨0x80004, [], [⟨0, 32, .ro, .l, 0⟩]⟩,
   ⟨0x80008, [], [⟨0, 2, .ro, .l, 0⟩, ⟨2, 1, .ro, .l, 0⟩, ⟨3, 1, .ro, .l, 0⟩, ⟨4, 1, .ro, .l, 0⟩, ⟨5, 1, .ro, .l, 0⟩, ⟨8, 5, .ro, .l, 0⟩, ⟨13, 3, .ro, .l, 0⟩, ⟨16, 8, .ro, .l, 0⟩]⟩,
   ⟨0x8000c, [], [⟨0, 1, .rw, .l, 1⟩, ⟨1, 1, .rw, .l, 1⟩]⟩,
   ⟨0x80010, [], [⟨0, 32, .ro, .l, 0⟩]⟩,
   ⟨0x80014, [], [⟨0, 32, .ro, .l, 0⟩]⟩,
   ⟨0x80018, [], [⟨0, 32, .ro, .l, 4294967295⟩]⟩,
   ⟨0x8001c, [], [⟨0, 32, .ro, .l, 4294967295⟩]⟩,
   ⟨0x80020, [], [⟨0, 32, .ro, .l, 0⟩]⟩,
   ⟨0x80024, [], [⟨0, 32, .ro, .l, 0⟩]⟩,
   ⟨0x80028, [], [⟨0, 32, .rw, .c, 400000⟩]⟩,
   ⟨0x8002c, [], [⟨0, 32, .ro, .l, 0⟩]⟩]
/-- Registers of block TG, part 2. -/
def regsTG2 : List RegSpec :=
  [⟨0x80030, [], [⟨0, 32, .ro, .l, 0⟩]⟩,
   ⟨0x80034, [], [⟨0, 32, .ro, .l, 0⟩]⟩,
   ⟨0x80038, [], [⟨0, 32, .ro, .l, 0⟩]⟩,
   ⟨0x8003c, [], [⟨0, 32, .ro, .l, 0⟩]⟩,
   ⟨0x80040, [], [⟨0, 32, .ro, .l, 0⟩]⟩,
   ⟨0x80044, [], [⟨0, 32, .rw, .s, 16777216⟩]⟩,
   ⟨0x80048, [], [⟨0, 32, .ro, .l, 4294967295⟩]⟩,
   ⟨0x8004c, [], [⟨0, 32, .ro, .l, 0⟩]⟩,
   ⟨0x80050, [], [⟨0, 32, .ro, .l, 0⟩]⟩,
   ⟨0x80054, [], [⟨0, 32, .ro, .l, 0⟩]⟩,
   ⟨0x80058, [], [⟨0, 32, .ro, .l, 0⟩]⟩,
   ⟨0x8005c, [], [⟨0, 32, .ro, .l, 0⟩]⟩]
/-- Registers of block TG, part 3. -/
def regsTG3 : List RegSpec :=
  [⟨0x81000, [(0x4, 256)], [⟨0, 30, .ro, .l, 0⟩, ⟨31, 1, .ro, .l, 0⟩]⟩]
/-- The registers of block TG. -/
def regsTG : List RegSpec := regsTG1 ++ regsTG2 ++ regsTG3

/-- CST_CMD.OP (R55). -/
def CST_CMD_OP : Fld := ⟨0xc0000, 0, 4⟩
/-- CST_STATE.STATE (R56). -/
def CST_STATE_STATE : Fld := ⟨0xc0004, 0, 3⟩
/-- CST_STATE.PHASE (R56). -/
def CST_STATE_PHASE : Fld := ⟨0xc0004, 3, 3⟩
/-- CST_STATE.DRAIN_TO (R56). -/
def CST_STATE_DRAIN_TO : Fld := ⟨0xc0004, 6, 1⟩
/-- CST_STATE.SCALE (R56). -/
def CST_STATE_SCALE : Fld := ⟨0xc0004, 7, 1⟩
/-- CST_STATE.MAPINV (R56). -/
def CST_STATE_MAPINV : Fld := ⟨0xc0004, 8, 1⟩
/-- CST_STATE.QUENCHED (R56). -/
def CST_STATE_QUENCHED : Fld := ⟨0xc0004, 9, 1⟩
/-- CST_STATE.COMMIT (R56). -/
def CST_STATE_COMMIT : Fld := ⟨0xc0004, 10, 1⟩
/-- CST_STATE.CONTRACT (R56). -/
def CST_STATE_CONTRACT : Fld := ⟨0xc0004, 16, 16⟩
/-- CST_ERR.CODE (R57). -/
def CST_ERR_CODE : Fld := ⟨0xc0008, 0, 8⟩
/-- CST_ERR.DETAIL (R57). -/
def CST_ERR_DETAIL : Fld := ⟨0xc0008, 8, 8⟩
/-- CST_ERR.LOAD_FAIL (R57). -/
def CST_ERR_LOAD_FAIL : Fld := ⟨0xc0008, 16, 1⟩
/-- CST_ERR.WRITE_REF (R57). -/
def CST_ERR_WRITE_REF : Fld := ⟨0xc0008, 17, 1⟩
/-- CST_DRAIN_LIMIT (R58). -/
def CST_DRAIN_LIMIT : Fld := ⟨0xc000c, 0, 32⟩
/-- CST_SRC_LO (R58). -/
def CST_SRC_LO : Fld := ⟨0xc0010, 0, 32⟩
/-- CST_SRC_HI (R58). -/
def CST_SRC_HI : Fld := ⟨0xc0014, 0, 32⟩
/-- CST_LEN (R58). -/
def CST_LEN : Fld := ⟨0xc0018, 0, 32⟩
/-- CST_PROGRESS (R58). -/
def CST_PROGRESS : Fld := ⟨0xc001c, 0, 32⟩
/-- CST_SPEND (R58). -/
def CST_SPEND : Fld := ⟨0xc0080, 0, 32⟩
/-- CST_SDISCARD (R58). -/
def CST_SDISCARD : Fld := ⟨0xc0084, 0, 32⟩
/-- CST_CASTS (R58). -/
def CST_CASTS : Fld := ⟨0xc0088, 0, 32⟩
/-- CST_SINCE_LO (R58). -/
def CST_SINCE_LO : Fld := ⟨0xc0090, 0, 32⟩
/-- CST_SINCE_HI (R58). -/
def CST_SINCE_HI : Fld := ⟨0xc0094, 0, 32⟩
/-- CST_DIGEST (R58). -/
def CST_DIGEST (k : Nat) : Fld := ⟨0xc0020 + 0x4 * k, 0, 32⟩
/-- CST_STAGED_DIGEST (R58). -/
def CST_STAGED_DIGEST (k : Nat) : Fld := ⟨0xc0050 + 0x4 * k, 0, 32⟩
/-- Registers of block CST, part 1. -/
def regsCST1 : List RegSpec :=
  [⟨0xc0000, [], [⟨0, 4, .wo, .l, 0⟩]⟩,
   ⟨0xc0004, [], [⟨0, 3, .ro, .l, 0⟩, ⟨3, 3, .ro, .l, 0⟩, ⟨6, 1, .ro, .l, 0⟩, ⟨7, 1, .ro, .l, 0⟩, ⟨8, 1, .ro, .l, 0⟩, ⟨9, 1, .ro, .l, 0⟩, ⟨10, 1, .ro, .l, 0⟩, ⟨16, 16, .ro, .l, 0⟩]⟩,
   ⟨0xc0008, [], [⟨0, 8, .ro, .l, 0⟩, ⟨8, 8, .ro, .l, 0⟩, ⟨16, 1, .w1c, .l, 0⟩, ⟨17, 1, .w1c, .l, 0⟩]⟩,
   ⟨0xc000c, [], [⟨0, 32, .rw, .l, 50000⟩]⟩,
   ⟨0xc0010, [], [⟨0, 32, .rw, .l, 0⟩]⟩,
   ⟨0xc0014, [], [⟨0, 32, .rw, .l, 0⟩]⟩,
   ⟨0xc0018, [], [⟨0, 32, .rw, .l, 0⟩]⟩,
   ⟨0xc001c, [], [⟨0, 32, .ro, .l, 0⟩]⟩,
   ⟨0xc0080, [], [⟨0, 32, .ro, .l, 0⟩]⟩,
   ⟨0xc0084, [], [⟨0, 32, .ro, .l, 0⟩]⟩,
   ⟨0xc0088, [], [⟨0, 32, .ro, .l, 0⟩]⟩,
   ⟨0xc0090, [], [⟨0, 32, .ro, .l, 0⟩]⟩]
/-- Registers of block CST, part 2. -/
def regsCST2 : List RegSpec :=
  [⟨0xc0094, [], [⟨0, 32, .ro, .l, 0⟩]⟩,
   ⟨0xc0020, [(0x4, 12)], [⟨0, 32, .ro, .l, 0⟩]⟩,
   ⟨0xc0050, [(0x4, 12)], [⟨0, 32, .ro, .l, 0⟩]⟩]
/-- The registers of block CST. -/
def regsCST : List RegSpec := regsCST1 ++ regsCST2

/-- FLT_PEND.PEND (R538). -/
def FLT_PEND_PEND : Fld := ⟨0x100000, 0, 9⟩
/-- FLT_PLVL.PLVL (R538). -/
def FLT_PLVL_PLVL : Fld := ⟨0x100004, 0, 18⟩
/-- FLT_STAT.NODEQ (R538). -/
def FLT_STAT_NODEQ : Fld := ⟨0x100008, 0, 1⟩
/-- FLT_STAT.JOBQ (R538). -/
def FLT_STAT_JOBQ : Fld := ⟨0x100008, 1, 1⟩
/-- FLT_STAT.ERRN (R538). -/
def FLT_STAT_ERRN : Fld := ⟨0x100008, 2, 1⟩
/-- FLT_STAT.PULSE (R538). -/
def FLT_STAT_PULSE : Fld := ⟨0x100008, 3, 1⟩
/-- FLT_STAT.LCLASS (R538). -/
def FLT_STAT_LCLASS : Fld := ⟨0x100008, 4, 4⟩
/-- FLT_STAT.LLEVEL (R538). -/
def FLT_STAT_LLEVEL : Fld := ⟨0x100008, 8, 2⟩
/-- FLT_CTRL.ERRN_LVL (R538). -/
def FLT_CTRL_ERRN_LVL : Fld := ⟨0x10000c, 0, 2⟩
/-- FLT_CTRL.IRQ_LVL (R538). -/
def FLT_CTRL_IRQ_LVL : Fld := ⟨0x10000c, 4, 2⟩
/-- FLT_CTRL.HOLD (R538). -/
def FLT_CTRL_HOLD : Fld := ⟨0x10000c, 8, 1⟩
/-- FLT_IEN.IEN (R538). -/
def FLT_IEN_IEN : Fld := ⟨0x100010, 0, 9⟩
/-- FLT_ESC (R538). -/
def FLT_ESC : Fld := ⟨0x100014, 0, 32⟩
/-- FLT_MERGED (R538). -/
def FLT_MERGED : Fld := ⟨0x100018, 0, 32⟩
/-- FLT_INJ.KIND (R539). -/
def FLT_INJ_KIND : Fld := ⟨0x100080, 0, 4⟩
/-- FLT_INJ.SYM (R539). -/
def FLT_INJ_SYM : Fld := ⟨0x100080, 4, 2⟩
/-- FLT_INJ.INDEX (R539). -/
def FLT_INJ_INDEX : Fld := ⟨0x100080, 6, 10⟩
/-- FLT_INJ.COUNT (R539). -/
def FLT_INJ_COUNT : Fld := ⟨0x100080, 16, 8⟩
/-- FLT_INJ_CMD.ARM (R539). -/
def FLT_INJ_CMD_ARM : Fld := ⟨0x100084, 0, 1⟩
/-- FLT_INJ_CMD.DISARM (R539). -/
def FLT_INJ_CMD_DISARM : Fld := ⟨0x100084, 1, 1⟩
/-- FLT_INJ_LEFT.LEFT (R539). -/
def FLT_INJ_LEFT_LEFT : Fld := ⟨0x100088, 0, 8⟩
/-- FLT_INJ_LEFT.ARMED (R539). -/
def FLT_INJ_LEFT_ARMED : Fld := ⟨0x100088, 8, 1⟩
/-- FLT_SPLIT_INFO.MASTER (R539). -/
def FLT_SPLIT_INFO_MASTER : Fld := ⟨0x100090, 0, 16⟩
/-- FLT_SPLIT_INFO.STATUS (R539). -/
def FLT_SPLIT_INFO_STATUS : Fld := ⟨0x100090, 16, 4⟩
/-- FLT_SPLIT_INFO.ING (R539). -/
def FLT_SPLIT_INFO_ING : Fld := ⟨0x100090, 20, 2⟩
/-- FLT_SPLIT_INFO.PARTS (R539). -/
def FLT_SPLIT_INFO_PARTS : Fld := ⟨0x100090, 22, 8⟩
/-- FLT_SPLIT_INFO.VALID (R539). -/
def FLT_SPLIT_INFO_VALID : Fld := ⟨0x100090, 31, 1⟩
/-- FLT_SPLIT_SEAM_LO (R539). -/
def FLT_SPLIT_SEAM_LO : Fld := ⟨0x100094, 0, 32⟩
/-- FLT_SPLIT_SEAM_HI (R539). -/
def FLT_SPLIT_SEAM_HI : Fld := ⟨0x100098, 0, 32⟩
/-- FLT_CNT (R538). -/
def FLT_CNT (k : Nat) : Fld := ⟨0x100040 + 0x4 * k, 0, 32⟩
/-- FLT_SPLIT_MAP (R539). -/
def FLT_SPLIT_MAP (k : Nat) : Fld := ⟨0x1000a0 + 0x4 * k, 0, 32⟩
/-- FLT_CAP_INFO.MASTER (R539). -/
def FLT_CAP_INFO_MASTER (k : Nat) : Fld := ⟨0x100100 + 0x20 * k, 0, 16⟩
/-- FLT_CAP_INFO.TYPE (R539). -/
def FLT_CAP_INFO_TYPE (k : Nat) : Fld := ⟨0x100100 + 0x20 * k, 16, 3⟩
/-- FLT_CAP_INFO.LEVEL (R539). -/
def FLT_CAP_INFO_LEVEL (k : Nat) : Fld := ⟨0x100100 + 0x20 * k, 19, 2⟩
/-- FLT_CAP_INFO.ESC (R539). -/
def FLT_CAP_INFO_ESC (k : Nat) : Fld := ⟨0x100100 + 0x20 * k, 21, 1⟩
/-- FLT_CAP_INFO.INJ (R539). -/
def FLT_CAP_INFO_INJ (k : Nat) : Fld := ⟨0x100100 + 0x20 * k, 22, 1⟩
/-- FLT_CAP_INFO.CODE (R539). -/
def FLT_CAP_INFO_CODE (k : Nat) : Fld := ⟨0x100100 + 0x20 * k, 23, 8⟩
/-- FLT_CAP_INFO.VALID (R539). -/
def FLT_CAP_INFO_VALID (k : Nat) : Fld := ⟨0x100100 + 0x20 * k, 31, 1⟩
/-- FLT_CAP_ADDR_LO (R539). -/
def FLT_CAP_ADDR_LO (k : Nat) : Fld := ⟨0x100104 + 0x20 * k, 0, 32⟩
/-- FLT_CAP_ADDR_HI (R539). -/
def FLT_CAP_ADDR_HI (k : Nat) : Fld := ⟨0x100108 + 0x20 * k, 0, 32⟩
/-- FLT_CAP_TICK_LO (R539). -/
def FLT_CAP_TICK_LO (k : Nat) : Fld := ⟨0x10010c + 0x20 * k, 0, 32⟩
/-- FLT_CAP_TICK_HI (R539). -/
def FLT_CAP_TICK_HI (k : Nat) : Fld := ⟨0x100110 + 0x20 * k, 0, 32⟩
/-- Registers of block FLT, part 1. -/
def regsFLT1 : List RegSpec :=
  [⟨0x100000, [], [⟨0, 9, .w1c, .l, 0⟩]⟩,
   ⟨0x100004, [], [⟨0, 18, .ro, .l, 0⟩]⟩,
   ⟨0x100008, [], [⟨0, 1, .ro, .l, 0⟩, ⟨1, 1, .ro, .l, 0⟩, ⟨2, 1, .ro, .l, 0⟩, ⟨3, 1, .ro, .l, 0⟩, ⟨4, 4, .ro, .l, 0⟩, ⟨8, 2, .ro, .l, 0⟩]⟩,
   ⟨0x10000c, [], [⟨0, 2, .rw, .l, 2⟩, ⟨4, 2, .rw, .l, 1⟩, ⟨8, 1, .rw, .l, 0⟩]⟩,
   ⟨0x100010, [], [⟨0, 9, .rw, .l, 511⟩]⟩,
   ⟨0x100014, [], [⟨0, 32, .ro, .l, 0⟩]⟩,
   ⟨0x100018, [], [⟨0, 32, .ro, .l, 0⟩]⟩,
   ⟨0x100080, [], [⟨0, 4, .rw, .l, 0⟩, ⟨4, 2, .rw, .l, 0⟩, ⟨6, 10, .rw, .l, 0⟩, ⟨16, 8, .rw, .l, 1⟩]⟩,
   ⟨0x100084, [], [⟨0, 1, .wo, .l, 0⟩, ⟨1, 1, .wo, .l, 0⟩]⟩,
   ⟨0x100088, [], [⟨0, 8, .ro, .l, 0⟩, ⟨8, 1, .ro, .l, 0⟩]⟩,
   ⟨0x100090, [], [⟨0, 16, .ro, .l, 0⟩, ⟨16, 4, .ro, .l, 0⟩, ⟨20, 2, .ro, .l, 0⟩, ⟨22, 8, .ro, .l, 0⟩, ⟨31, 1, .w1c, .l, 0⟩]⟩,
   ⟨0x100094, [], [⟨0, 32, .ro, .l, 0⟩]⟩]
/-- Registers of block FLT, part 2. -/
def regsFLT2 : List RegSpec :=
  [⟨0x100098, [], [⟨0, 32, .ro, .l, 0⟩]⟩,
   ⟨0x100040, [(0x4, 9)], [⟨0, 32, .ro, .l, 0⟩]⟩,
   ⟨0x1000a0, [(0x4, 4)], [⟨0, 32, .ro, .l, 0⟩]⟩,
   ⟨0x100100, [(0x20, 9)], [⟨0, 16, .ro, .l, 0⟩, ⟨16, 3, .ro, .l, 0⟩, ⟨19, 2, .ro, .l, 0⟩, ⟨21, 1, .ro, .l, 0⟩, ⟨22, 1, .ro, .l, 0⟩, ⟨23, 8, .ro, .l, 0⟩, ⟨31, 1, .w1c, .l, 0⟩]⟩,
   ⟨0x100104, [(0x20, 9)], [⟨0, 32, .ro, .l, 0⟩]⟩,
   ⟨0x100108, [(0x20, 9)], [⟨0, 32, .ro, .l, 0⟩]⟩,
   ⟨0x10010c, [(0x20, 9)], [⟨0, 32, .ro, .l, 0⟩]⟩,
   ⟨0x100110, [(0x20, 9)], [⟨0, 32, .ro, .l, 0⟩]⟩]
/-- The registers of block FLT. -/
def regsFLT : List RegSpec := regsFLT1 ++ regsFLT2

end Sys2Proof.Machine
end

