-- ==== Sys2Proof/Machine/RegsB.lean ====
section
/-! DEFINITION. The register fields of the blocks SEC, DET, TM, LN, LK, as the field tables of their chapters give them (R605, R606):
a name for each field (R17), and each block's table of access code, apply class and reset (R9, R12, R16, R612). -/

namespace Sys2Proof.Machine

/-- SEC_STAT.OWNED (R561). -/
def SEC_STAT_OWNED : Fld := ⟨0x140000, 0, 1⟩
/-- SEC_STAT.KBOK (R561). -/
def SEC_STAT_KBOK : Fld := ⟨0x140000, 1, 1⟩
/-- SEC_STAT.LOSS (R561). -/
def SEC_STAT_LOSS : Fld := ⟨0x140000, 2, 1⟩
/-- SEC_STAT.KBMIN (R561). -/
def SEC_STAT_KBMIN : Fld := ⟨0x140000, 8, 8⟩
/-- SEC_STAT.KBVER (R561). -/
def SEC_STAT_KBVER : Fld := ⟨0x140000, 16, 8⟩
/-- SEC_STAT.FWMIN (R561). -/
def SEC_STAT_FWMIN : Fld := ⟨0x140000, 24, 8⟩
/-- SEC_KEYCMD.OP (R561). -/
def SEC_KEYCMD_OP : Fld := ⟨0x140004, 0, 4⟩
/-- SEC_KEYSRC_LO (R561). -/
def SEC_KEYSRC_LO : Fld := ⟨0x140008, 0, 32⟩
/-- SEC_KEYSRC_HI (R561). -/
def SEC_KEYSRC_HI : Fld := ⟨0x14000c, 0, 32⟩
/-- SEC_KEYSTAT.BUSY (R561). -/
def SEC_KEYSTAT_BUSY : Fld := ⟨0x140010, 0, 1⟩
/-- SEC_KEYSTAT.DONE (R561). -/
def SEC_KEYSTAT_DONE : Fld := ⟨0x140010, 1, 1⟩
/-- SEC_KEYSTAT.ERR (R561). -/
def SEC_KEYSTAT_ERR : Fld := ⟨0x140010, 2, 1⟩
/-- SEC_KEYSTAT.CODE (R561). -/
def SEC_KEYSTAT_CODE : Fld := ⟨0x140010, 8, 8⟩
/-- SEC_SLOTS (R561). -/
def SEC_SLOTS : Fld := ⟨0x140014, 0, 32⟩
/-- SEC_EXPCTL.EN (R562). -/
def SEC_EXPCTL_EN : Fld := ⟨0x140018, 0, 1⟩
/-- SEC_EXPCTL.PORT (R562). -/
def SEC_EXPCTL_PORT : Fld := ⟨0x140018, 1, 1⟩
/-- SEC_EXPCTL.WM (R562). -/
def SEC_EXPCTL_WM : Fld := ⟨0x140018, 8, 5⟩
/-- SEC_EXPSIZE.SIZE (R562). -/
def SEC_EXPSIZE_SIZE : Fld := ⟨0x14001c, 0, 5⟩
/-- SEC_EXPBASE_LO (R562). -/
def SEC_EXPBASE_LO : Fld := ⟨0x140020, 0, 32⟩
/-- SEC_EXPBASE_HI (R562). -/
def SEC_EXPBASE_HI : Fld := ⟨0x140024, 0, 32⟩
/-- SEC_EXPWR_LO (R562). -/
def SEC_EXPWR_LO : Fld := ⟨0x140028, 0, 32⟩
/-- SEC_EXPWR_HI (R562). -/
def SEC_EXPWR_HI : Fld := ⟨0x14002c, 0, 32⟩
/-- SEC_EXPRD_LO (R562). -/
def SEC_EXPRD_LO : Fld := ⟨0x140030, 0, 32⟩
/-- SEC_EXPRD_HI (R562). -/
def SEC_EXPRD_HI : Fld := ⟨0x140034, 0, 32⟩
/-- SEC_QUEUE.WAIT (R562). -/
def SEC_QUEUE_WAIT : Fld := ⟨0x140038, 0, 15⟩
/-- SEC_QUEUE.LOSSES (R562). -/
def SEC_QUEUE_LOSSES : Fld := ⟨0x140038, 16, 16⟩
/-- SEC_HEADCNT_LO (R562). -/
def SEC_HEADCNT_LO : Fld := ⟨0x140040, 0, 32⟩
/-- SEC_HEADCNT_HI (R562). -/
def SEC_HEADCNT_HI : Fld := ⟨0x140044, 0, 32⟩
/-- SEC_DENY (R562). -/
def SEC_DENY : Fld := ⟨0x140048, 0, 32⟩
/-- SEC_DFIRST.TARGET (R562). -/
def SEC_DFIRST_TARGET : Fld := ⟨0x14004c, 0, 4⟩
/-- SEC_DFIRST.KIND (R562). -/
def SEC_DFIRST_KIND : Fld := ⟨0x14004c, 4, 3⟩
/-- SEC_DFIRST.ACC (R562). -/
def SEC_DFIRST_ACC : Fld := ⟨0x14004c, 7, 2⟩
/-- SEC_DFIRST.INDEX (R562). -/
def SEC_DFIRST_INDEX : Fld := ⟨0x14004c, 9, 20⟩
/-- SEC_DFIRST.VALID (R562). -/
def SEC_DFIRST_VALID : Fld := ⟨0x14004c, 31, 1⟩
/-- SEC_CLR_BASE_LO (R562). -/
def SEC_CLR_BASE_LO : Fld := ⟨0x140050, 0, 32⟩
/-- SEC_CLR_BASE_HI (R562). -/
def SEC_CLR_BASE_HI : Fld := ⟨0x140054, 0, 32⟩
/-- SEC_CLR_LEN (R562). -/
def SEC_CLR_LEN : Fld := ⟨0x140058, 0, 32⟩
/-- SEC_CLR_CMD.GO (R562). -/
def SEC_CLR_CMD_GO : Fld := ⟨0x14005c, 0, 1⟩
/-- SEC_CLR_CMD.BUSY (R562). -/
def SEC_CLR_CMD_BUSY : Fld := ⟨0x14005c, 1, 1⟩
/-- SEC_CLR_CMD.DONE (R562). -/
def SEC_CLR_CMD_DONE : Fld := ⟨0x14005c, 2, 1⟩
/-- SEC_CLR_CMD.DENIED (R562). -/
def SEC_CLR_CMD_DENIED : Fld := ⟨0x14005c, 3, 1⟩
/-- SEC_ATT_CNT_LO (R562). -/
def SEC_ATT_CNT_LO : Fld := ⟨0x1400b0, 0, 32⟩
/-- SEC_ATT_CNT_HI (R562). -/
def SEC_ATT_CNT_HI : Fld := ⟨0x1400b4, 0, 32⟩
/-- SEC_ATT_TICK_LO (R562). -/
def SEC_ATT_TICK_LO : Fld := ⟨0x1400b8, 0, 32⟩
/-- SEC_ATT_TICK_HI (R562). -/
def SEC_ATT_TICK_HI : Fld := ⟨0x1400bc, 0, 32⟩
/-- SEC_HEAD (R562). -/
def SEC_HEAD (k : Nat) : Fld := ⟨0x140060 + 0x4 * k, 0, 32⟩
/-- SEC_NONCE (R562). -/
def SEC_NONCE (k : Nat) : Fld := ⟨0x140080 + 0x4 * k, 0, 32⟩
/-- SEC_ATT_DIG (R562). -/
def SEC_ATT_DIG (k : Nat) : Fld := ⟨0x140090 + 0x4 * k, 0, 32⟩
/-- SEC_ATT_SIG (R562). -/
def SEC_ATT_SIG (k : Nat) : Fld := ⟨0x1400c0 + 0x4 * k, 0, 32⟩
/-- SEC_KBDIG (R561). -/
def SEC_KBDIG (k : Nat) : Fld := ⟨0x140120 + 0x4 * k, 0, 32⟩
/-- Registers of block SEC, part 1. -/
def regsSEC1 : List RegSpec :=
  [⟨0x140000, [], [⟨0, 1, .ro, .l, 0⟩, ⟨1, 1, .ro, .l, 0⟩, ⟨2, 1, .w1c, .l, 0⟩, ⟨8, 8, .ro, .l, 0⟩, ⟨16, 8, .ro, .l, 0⟩, ⟨24, 8, .ro, .l, 0⟩]⟩,
   ⟨0x140004, [], [⟨0, 4, .wo, .l, 0⟩]⟩,
   ⟨0x140008, [], [⟨0, 32, .rw, .l, 0⟩]⟩,
   ⟨0x14000c, [], [⟨0, 32, .rw, .l, 0⟩]⟩,
   ⟨0x140010, [], [⟨0, 1, .ro, .l, 0⟩, ⟨1, 1, .w1c, .l, 0⟩, ⟨2, 1, .w1c, .l, 0⟩, ⟨8, 8, .ro, .l, 0⟩]⟩,
   ⟨0x140014, [], [⟨0, 32, .ro, .l, 0⟩]⟩,
   ⟨0x140018, [], [⟨0, 1, .rw, .l, 0⟩, ⟨1, 1, .rw, .l, 0⟩, ⟨8, 5, .rw, .l, 10⟩]⟩,
   ⟨0x14001c, [], [⟨0, 5, .rw, .l, 16⟩]⟩,
   ⟨0x140020, [], [⟨0, 32, .rw, .l, 0⟩]⟩,
   ⟨0x140024, [], [⟨0, 32, .rw, .l, 0⟩]⟩,
   ⟨0x140028, [], [⟨0, 32, .ro, .l, 0⟩]⟩,
   ⟨0x14002c, [], [⟨0, 32, .ro, .l, 0⟩]⟩]
/-- Registers of block SEC, part 2. -/
def regsSEC2 : List RegSpec :=
  [⟨0x140030, [], [⟨0, 32, .rw, .l, 0⟩]⟩,
   ⟨0x140034, [], [⟨0, 32, .rw, .l, 0⟩]⟩,
   ⟨0x140038, [], [⟨0, 15, .ro, .l, 0⟩, ⟨16, 16, .ro, .l, 0⟩]⟩,
   ⟨0x140040, [], [⟨0, 32, .ro, .l, 0⟩]⟩,
   ⟨0x140044, [], [⟨0, 32, .ro, .l, 0⟩]⟩,
   ⟨0x140048, [], [⟨0, 32, .ro, .l, 0⟩]⟩,
   ⟨0x14004c, [], [⟨0, 4, .ro, .l, 0⟩, ⟨4, 3, .ro, .l, 0⟩, ⟨7, 2, .ro, .l, 0⟩, ⟨9, 20, .ro, .l, 0⟩, ⟨31, 1, .ro, .l, 0⟩]⟩,
   ⟨0x140050, [], [⟨0, 32, .rw, .l, 0⟩]⟩,
   ⟨0x140054, [], [⟨0, 32, .rw, .l, 0⟩]⟩,
   ⟨0x140058, [], [⟨0, 32, .rw, .l, 0⟩]⟩,
   ⟨0x14005c, [], [⟨0, 1, .wo, .l, 0⟩, ⟨1, 1, .ro, .l, 0⟩, ⟨2, 1, .w1c, .l, 0⟩, ⟨3, 1, .w1c, .l, 0⟩]⟩,
   ⟨0x1400b0, [], [⟨0, 32, .ro, .l, 0⟩]⟩]
/-- Registers of block SEC, part 3. -/
def regsSEC3 : List RegSpec :=
  [⟨0x1400b4, [], [⟨0, 32, .ro, .l, 0⟩]⟩,
   ⟨0x1400b8, [], [⟨0, 32, .ro, .l, 0⟩]⟩,
   ⟨0x1400bc, [], [⟨0, 32, .ro, .l, 0⟩]⟩,
   ⟨0x140060, [(0x4, 8)], [⟨0, 32, .ro, .l, 0⟩]⟩,
   ⟨0x140080, [(0x4, 4)], [⟨0, 32, .rw, .l, 0⟩]⟩,
   ⟨0x140090, [(0x4, 8)], [⟨0, 32, .ro, .l, 0⟩]⟩,
   ⟨0x1400c0, [(0x4, 24)], [⟨0, 32, .ro, .l, 0⟩]⟩,
   ⟨0x140120, [(0x4, 12)], [⟨0, 32, .ro, .l, 0⟩]⟩]
/-- The registers of block SEC. -/
def regsSEC : List RegSpec := regsSEC1 ++ regsSEC2 ++ regsSEC3

/-- DET_STAT.RKVALID (R508). -/
def DET_STAT_RKVALID : Fld := ⟨0x180000, 0, 1⟩
/-- DET_STAT.HELD (R508). -/
def DET_STAT_HELD : Fld := ⟨0x180000, 1, 1⟩
/-- DET_STAT.PAUSEPEND (R508). -/
def DET_STAT_PAUSEPEND : Fld := ⟨0x180000, 2, 1⟩
/-- DET_STAT.MAPCHG (R508). -/
def DET_STAT_MAPCHG : Fld := ⟨0x180000, 3, 1⟩
/-- DET_STAT.MODE (R508). -/
def DET_STAT_MODE : Fld := ⟨0x180000, 4, 2⟩
/-- DET_STAT.GAP (R508). -/
def DET_STAT_GAP : Fld := ⟨0x180000, 6, 1⟩
/-- DET_STAT.FULL (R508). -/
def DET_STAT_FULL : Fld := ⟨0x180000, 7, 1⟩
/-- DET_STAT.DIVERGED (R508). -/
def DET_STAT_DIVERGED : Fld := ⟨0x180000, 8, 1⟩
/-- DET_CMD.OP (R508). -/
def DET_CMD_OP : Fld := ⟨0x180004, 0, 4⟩
/-- DET_PAUSE_LO (R508). -/
def DET_PAUSE_LO : Fld := ⟨0x180008, 0, 32⟩
/-- DET_PAUSE_HI (R508). -/
def DET_PAUSE_HI : Fld := ⟨0x18000c, 0, 32⟩
/-- DET_RCTL.MODE (R509). -/
def DET_RCTL_MODE : Fld := ⟨0x180010, 0, 2⟩
/-- DET_RCTL.SCOPE (R509). -/
def DET_RCTL_SCOPE : Fld := ⟨0x180010, 2, 1⟩
/-- DET_RCTL.PAYLOAD (R509). -/
def DET_RCTL_PAYLOAD : Fld := ⟨0x180010, 3, 1⟩
/-- DET_RCTL.WRAP (R509). -/
def DET_RCTL_WRAP : Fld := ⟨0x180010, 4, 1⟩
/-- DET_LBASE_LO (R509). -/
def DET_LBASE_LO : Fld := ⟨0x180014, 0, 32⟩
/-- DET_LBASE_HI (R509). -/
def DET_LBASE_HI : Fld := ⟨0x180018, 0, 32⟩
/-- DET_LSIZE.SIZE (R509). -/
def DET_LSIZE_SIZE : Fld := ⟨0x18001c, 0, 17⟩
/-- DET_FFROM_LO (R509). -/
def DET_FFROM_LO : Fld := ⟨0x180020, 0, 32⟩
/-- DET_FFROM_HI (R509). -/
def DET_FFROM_HI : Fld := ⟨0x180024, 0, 32⟩
/-- DET_FTO_LO (R509). -/
def DET_FTO_LO : Fld := ⟨0x180028, 0, 32⟩
/-- DET_FTO_HI (R509). -/
def DET_FTO_HI : Fld := ⟨0x18002c, 0, 32⟩
/-- DET_LPOS_LO (R509). -/
def DET_LPOS_LO : Fld := ⟨0x180030, 0, 32⟩
/-- DET_LPOS_HI (R509). -/
def DET_LPOS_HI : Fld := ⟨0x180034, 0, 32⟩
/-- DET_LOST (R509). -/
def DET_LOST : Fld := ⟨0x180038, 0, 32⟩
/-- DET_DIV.PORT (R509). -/
def DET_DIV_PORT : Fld := ⟨0x18003c, 0, 16⟩
/-- DET_DIV.VALID (R509). -/
def DET_DIV_VALID : Fld := ⟨0x18003c, 31, 1⟩
/-- DET_DIVSEAM_LO (R509). -/
def DET_DIVSEAM_LO : Fld := ⟨0x180040, 0, 32⟩
/-- DET_DIVSEAM_HI (R509). -/
def DET_DIVSEAM_HI : Fld := ⟨0x180044, 0, 32⟩
/-- DET_HOLDS (R508). -/
def DET_HOLDS : Fld := ⟨0x180048, 0, 32⟩
/-- DET_INDIG (R510). -/
def DET_INDIG (k : Nat) : Fld := ⟨0x180100 + 0x4 * k, 0, 32⟩
/-- DET_RKEY (R510). -/
def DET_RKEY (k : Nat) : Fld := ⟨0x180140 + 0x4 * k, 0, 32⟩
/-- DET_BKEY (R510). -/
def DET_BKEY (k : Nat) : Fld := ⟨0x180180 + 0x4 * k, 0, 32⟩
/-- DET_CTL (R510). -/
def DET_CTL (k : Nat) : Fld := ⟨0x1801c0 + 0x4 * k, 0, 32⟩
/-- DET_INSUM (R510). -/
def DET_INSUM (k : Nat) : Fld := ⟨0x180200 + 0x4 * k, 0, 32⟩
/-- DET_OUTSUM (R510). -/
def DET_OUTSUM (k : Nat) : Fld := ⟨0x180240 + 0x4 * k, 0, 32⟩
/-- Registers of block DET, part 1. -/
def regsDET1 : List RegSpec :=
  [⟨0x180000, [], [⟨0, 1, .ro, .l, 0⟩, ⟨1, 1, .ro, .l, 0⟩, ⟨2, 1, .ro, .l, 0⟩, ⟨3, 1, .ro, .l, 0⟩, ⟨4, 2, .ro, .l, 0⟩, ⟨6, 1, .w1c, .l, 0⟩, ⟨7, 1, .w1c, .l, 0⟩, ⟨8, 1, .w1c, .l, 0⟩]⟩,
   ⟨0x180004, [], [⟨0, 4, .wo, .l, 0⟩]⟩,
   ⟨0x180008, [], [⟨0, 32, .rw, .l, 0⟩]⟩,
   ⟨0x18000c, [], [⟨0, 32, .rw, .l, 0⟩]⟩,
   ⟨0x180010, [], [⟨0, 2, .rw, .l, 0⟩, ⟨2, 1, .rw, .l, 0⟩, ⟨3, 1, .rw, .l, 0⟩, ⟨4, 1, .rw, .l, 0⟩]⟩,
   ⟨0x180014, [], [⟨0, 32, .rw, .l, 0⟩]⟩,
   ⟨0x180018, [], [⟨0, 32, .rw, .l, 0⟩]⟩,
   ⟨0x18001c, [], [⟨0, 17, .rw, .l, 0⟩]⟩,
   ⟨0x180020, [], [⟨0, 32, .rw, .l, 0⟩]⟩,
   ⟨0x180024, [], [⟨0, 32, .rw, .l, 0⟩]⟩,
   ⟨0x180028, [], [⟨0, 32, .rw, .l, 0⟩]⟩,
   ⟨0x18002c, [], [⟨0, 32, .rw, .l, 0⟩]⟩]
/-- Registers of block DET, part 2. -/
def regsDET2 : List RegSpec :=
  [⟨0x180030, [], [⟨0, 32, .ro, .l, 0⟩]⟩,
   ⟨0x180034, [], [⟨0, 32, .ro, .l, 0⟩]⟩,
   ⟨0x180038, [], [⟨0, 32, .ro, .l, 0⟩]⟩,
   ⟨0x18003c, [], [⟨0, 16, .ro, .l, 0⟩, ⟨31, 1, .ro, .l, 0⟩]⟩,
   ⟨0x180040, [], [⟨0, 32, .ro, .l, 0⟩]⟩,
   ⟨0x180044, [], [⟨0, 32, .ro, .l, 0⟩]⟩,
   ⟨0x180048, [], [⟨0, 32, .ro, .l, 0⟩]⟩,
   ⟨0x180100, [(0x4, 12)], [⟨0, 32, .rw, .l, 0⟩]⟩,
   ⟨0x180140, [(0x4, 12)], [⟨0, 32, .ro, .l, 0⟩]⟩,
   ⟨0x180180, [(0x4, 12)], [⟨0, 32, .ro, .l, 0⟩]⟩,
   ⟨0x1801c0, [(0x4, 12)], [⟨0, 32, .ro, .l, 0⟩]⟩,
   ⟨0x180200, [(0x4, 8)], [⟨0, 32, .ro, .l, 0⟩]⟩]
/-- Registers of block DET, part 3. -/
def regsDET3 : List RegSpec :=
  [⟨0x180240, [(0x4, 8)], [⟨0, 32, .ro, .l, 0⟩]⟩]
/-- The registers of block DET. -/
def regsDET : List RegSpec := regsDET1 ++ regsDET2 ++ regsDET3

/-- TM_SUM.ENABLED (R485). -/
def TM_SUM_ENABLED : Fld := ⟨0x1c0000, 0, 10⟩
/-- TM_FIRST.UNIT (R485). -/
def TM_FIRST_UNIT : Fld := ⟨0x1c0004, 0, 10⟩
/-- TM_FIRST.CAUSE (R485). -/
def TM_FIRST_CAUSE : Fld := ⟨0x1c0004, 10, 4⟩
/-- TM_FIRST.VALID (R485). -/
def TM_FIRST_VALID : Fld := ⟨0x1c0004, 31, 1⟩
/-- TM_CFG.EN (R485). -/
def TM_CFG_EN (k : Nat) : Fld := ⟨0x1c1000 + 0x20 * k, 0, 1⟩
/-- TM_CFG.POLY (R485). -/
def TM_CFG_POLY (k : Nat) : Fld := ⟨0x1c1000 + 0x20 * k, 1, 2⟩
/-- TM_FAIL (R485). -/
def TM_FAIL (k : Nat) : Fld := ⟨0x1c1004 + 0x20 * k, 0, 32⟩
/-- TM_STOMP (R485). -/
def TM_STOMP (k : Nat) : Fld := ⟨0x1c1008 + 0x20 * k, 0, 32⟩
/-- TM_CFF (R485). -/
def TM_CFF (k : Nat) : Fld := ⟨0x1c100c + 0x20 * k, 0, 32⟩
/-- TM_DATA (R485). -/
def TM_DATA (k : Nat) : Fld := ⟨0x1c1010 + 0x20 * k, 0, 32⟩
/-- TM_EXPIRED (R485). -/
def TM_EXPIRED (k : Nat) : Fld := ⟨0x1c1014 + 0x20 * k, 0, 32⟩
/-- TM_ENT.USED (R485). -/
def TM_ENT_USED (k : Nat) : Fld := ⟨0x1c1018 + 0x20 * k, 0, 12⟩
/-- TM_ENT.NOENT (R485). -/
def TM_ENT_NOENT (k : Nat) : Fld := ⟨0x1c1018 + 0x20 * k, 16, 16⟩
/-- TM_ABREAK (R485). -/
def TM_ABREAK (k : Nat) : Fld := ⟨0x1c101c + 0x20 * k, 0, 32⟩
/-- Registers of block TM, part 1. -/
def regsTM1 : List RegSpec :=
  [⟨0x1c0000, [], [⟨0, 10, .ro, .l, 768⟩]⟩,
   ⟨0x1c0004, [], [⟨0, 10, .ro, .l, 0⟩, ⟨10, 4, .ro, .l, 0⟩, ⟨31, 1, .ro, .l, 0⟩]⟩,
   ⟨0x1c1000, [(0x20, 768)], [⟨0, 1, .rw, .l, 1⟩, ⟨1, 2, .rw, .c, 0⟩]⟩,
   ⟨0x1c1004, [(0x20, 768)], [⟨0, 32, .ro, .l, 0⟩]⟩,
   ⟨0x1c1008, [(0x20, 768)], [⟨0, 32, .ro, .l, 0⟩]⟩,
   ⟨0x1c100c, [(0x20, 768)], [⟨0, 32, .ro, .l, 0⟩]⟩,
   ⟨0x1c1010, [(0x20, 768)], [⟨0, 32, .ro, .l, 0⟩]⟩,
   ⟨0x1c1014, [(0x20, 768)], [⟨0, 32, .ro, .l, 0⟩]⟩,
   ⟨0x1c1018, [(0x20, 768)], [⟨0, 12, .ro, .l, 0⟩, ⟨16, 16, .ro, .l, 0⟩]⟩,
   ⟨0x1c101c, [(0x20, 768)], [⟨0, 32, .ro, .l, 0⟩]⟩]
/-- The registers of block TM. -/
def regsTM : List RegSpec := regsTM1

/-- LN_CFG.RA_LIGHT (R324). -/
def LN_CFG_RA_LIGHT : Fld := ⟨0x200000, 0, 8⟩
/-- LN_CFG.RA_HEAVY (R324). -/
def LN_CFG_RA_HEAVY : Fld := ⟨0x200000, 8, 8⟩
/-- LN_CFG.FOM_FAIL (R324). -/
def LN_CFG_FOM_FAIL : Fld := ⟨0x200000, 16, 8⟩
/-- LN_CFG.HYST (R324). -/
def LN_CFG_HYST : Fld := ⟨0x200000, 24, 4⟩
/-- LN_CFG.WIN (R324). -/
def LN_CFG_WIN : Fld := ⟨0x200000, 28, 4⟩
/-- LN_SUM.UP (R324). -/
def LN_SUM_UP : Fld := ⟨0x200004, 0, 11⟩
/-- LN_SUM.FAILED (R324). -/
def LN_SUM_FAILED : Fld := ⟨0x200004, 16, 11⟩
/-- LN_ECTRL.TX_DIS (R324). -/
def LN_ECTRL_TX_DIS (k : Nat) : Fld := ⟨0x200400 + 0x10 * k, 0, 16⟩
/-- LN_ESTAT.CLASS (R324). -/
def LN_ESTAT_CLASS (k : Nat) : Fld := ⟨0x200404 + 0x10 * k, 0, 1⟩
/-- LN_ESTAT.READY (R324). -/
def LN_ESTAT_READY (k : Nat) : Fld := ⟨0x200404 + 0x10 * k, 1, 1⟩
/-- LN_ESTAT.FAULT (R324). -/
def LN_ESTAT_FAULT (k : Nat) : Fld := ⟨0x200404 + 0x10 * k, 2, 1⟩
/-- LN_ETEMP.TEMP (R324). -/
def LN_ETEMP_TEMP (k : Nat) : Fld := ⟨0x200408 + 0x10 * k, 0, 16⟩
/-- LN_ETEMP.PEAKT (R324). -/
def LN_ETEMP_PEAKT (k : Nat) : Fld := ⟨0x200408 + 0x10 * k, 16, 16⟩
/-- LN_CTRL.TX_PAT (R325). -/
def LN_CTRL_TX_PAT (k : Nat) : Fld := ⟨0x210000 + 0x40 * k, 0, 3⟩
/-- LN_CTRL.RX_PAT (R325). -/
def LN_CTRL_RX_PAT (k : Nat) : Fld := ⟨0x210000 + 0x40 * k, 3, 3⟩
/-- LN_CTRL.ADAPT_EN (R325). -/
def LN_CTRL_ADAPT_EN (k : Nat) : Fld := ⟨0x210000 + 0x40 * k, 6, 1⟩
/-- LN_CTRL.SLIP (R325). -/
def LN_CTRL_SLIP (k : Nat) : Fld := ⟨0x210000 + 0x40 * k, 8, 1⟩
/-- LN_CTRL.SWEEP (R325). -/
def LN_CTRL_SWEEP (k : Nat) : Fld := ⟨0x210000 + 0x40 * k, 9, 1⟩
/-- LN_CTRL.CLR (R325). -/
def LN_CTRL_CLR (k : Nat) : Fld := ⟨0x210000 + 0x40 * k, 10, 1⟩
/-- LN_STAT.FOM (R325). -/
def LN_STAT_FOM (k : Nat) : Fld := ⟨0x210004 + 0x40 * k, 0, 8⟩
/-- LN_STAT.FOM_VALID (R325). -/
def LN_STAT_FOM_VALID (k : Nat) : Fld := ⟨0x210004 + 0x40 * k, 8, 1⟩
/-- LN_STAT.SIG (R325). -/
def LN_STAT_SIG (k : Nat) : Fld := ⟨0x210004 + 0x40 * k, 9, 1⟩
/-- LN_STAT.MATCH (R325). -/
def LN_STAT_MATCH (k : Nat) : Fld := ⟨0x210004 + 0x40 * k, 10, 1⟩
/-- LN_STAT.LOCK (R325). -/
def LN_STAT_LOCK (k : Nat) : Fld := ⟨0x210004 + 0x40 * k, 11, 1⟩
/-- LN_STAT.ADAPTING (R325). -/
def LN_STAT_ADAPTING (k : Nat) : Fld := ⟨0x210004 + 0x40 * k, 12, 1⟩
/-- LN_STAT.FAILED (R325). -/
def LN_STAT_FAILED (k : Nat) : Fld := ⟨0x210004 + 0x40 * k, 13, 1⟩
/-- LN_STAT.PAT_REF (R325). -/
def LN_STAT_PAT_REF (k : Nat) : Fld := ⟨0x210004 + 0x40 * k, 14, 1⟩
/-- LN_STAT.MAIN (R325). -/
def LN_STAT_MAIN (k : Nat) : Fld := ⟨0x210004 + 0x40 * k, 16, 5⟩
/-- LN_STAT.SLIPS (R325). -/
def LN_STAT_SLIPS (k : Nat) : Fld := ⟨0x210004 + 0x40 * k, 21, 6⟩
/-- LN_PEAK.CODE (R325). -/
def LN_PEAK_CODE (k : Nat) : Fld := ⟨0x210008 + 0x40 * k, 0, 5⟩
/-- LN_FOMLOG.MIN (R325). -/
def LN_FOMLOG_MIN (k : Nat) : Fld := ⟨0x21000c + 0x40 * k, 0, 8⟩
/-- LN_FOMLOG.READAPTS (R325). -/
def LN_FOMLOG_READAPTS (k : Nat) : Fld := ⟨0x21000c + 0x40 * k, 16, 16⟩
/-- LN_SYM_LO (R325). -/
def LN_SYM_LO (k : Nat) : Fld := ⟨0x210010 + 0x40 * k, 0, 32⟩
/-- LN_SYM_HI (R325). -/
def LN_SYM_HI (k : Nat) : Fld := ⟨0x210014 + 0x40 * k, 0, 32⟩
/-- LN_SERR (R325). -/
def LN_SERR (k : Nat) : Fld := ⟨0x210018 + 0x40 * k, 0, 32⟩
/-- LN_BERR (R325). -/
def LN_BERR (k : Nat) : Fld := ⟨0x21001c + 0x40 * k, 0, 32⟩
/-- LN_OPT.RXPWR (R325). -/
def LN_OPT_RXPWR (k : Nat) : Fld := ⟨0x210020 + 0x40 * k, 0, 16⟩
/-- LN_OPT.TXPWR (R325). -/
def LN_OPT_TXPWR (k : Nat) : Fld := ⟨0x210020 + 0x40 * k, 16, 16⟩
/-- Registers of block LN, part 1. -/
def regsLN1 : List RegSpec :=
  [⟨0x200000, [], [⟨0, 8, .rw, .l, 128⟩, ⟨8, 8, .rw, .l, 80⟩, ⟨16, 8, .rw, .l, 48⟩, ⟨24, 4, .rw, .l, 4⟩, ⟨28, 4, .rw, .l, 8⟩]⟩,
   ⟨0x200004, [], [⟨0, 11, .ro, .l, 0⟩, ⟨16, 11, .ro, .l, 0⟩]⟩,
   ⟨0x200400, [(0x10, 16)], [⟨0, 16, .rw, .l, 0⟩]⟩,
   ⟨0x200404, [(0x10, 16)], [⟨0, 1, .ro, .l, 0⟩, ⟨1, 1, .ro, .l, 0⟩, ⟨2, 1, .w1c, .l, 0⟩]⟩,
   ⟨0x200408, [(0x10, 16)], [⟨0, 16, .ro, .l, 0⟩, ⟨16, 16, .ro, .l, 0⟩]⟩,
   ⟨0x210000, [(0x40, 1024)], [⟨0, 3, .rw, .l, 0⟩, ⟨3, 3, .rw, .l, 0⟩, ⟨6, 1, .rw, .l, 1⟩, ⟨8, 1, .wo, .l, 0⟩, ⟨9, 1, .wo, .l, 0⟩, ⟨10, 1, .wo, .l, 0⟩]⟩,
   ⟨0x210004, [(0x40, 1024)], [⟨0, 8, .ro, .l, 0⟩, ⟨8, 1, .ro, .l, 0⟩, ⟨9, 1, .ro, .l, 0⟩, ⟨10, 1, .ro, .l, 0⟩, ⟨11, 1, .ro, .l, 0⟩, ⟨12, 1, .ro, .l, 0⟩, ⟨13, 1, .ro, .l, 0⟩, ⟨14, 1, .w1c, .l, 0⟩, ⟨16, 5, .ro, .l, 12⟩, ⟨21, 6, .ro, .l, 0⟩]⟩,
   ⟨0x210008, [(0x40, 1024)], [⟨0, 5, .rw, .l, 12⟩]⟩,
   ⟨0x21000c, [(0x40, 1024)], [⟨0, 8, .ro, .l, 255⟩, ⟨16, 16, .ro, .l, 0⟩]⟩,
   ⟨0x210010, [(0x40, 1024)], [⟨0, 32, .ro, .l, 0⟩]⟩,
   ⟨0x210014, [(0x40, 1024)], [⟨0, 32, .ro, .l, 0⟩]⟩,
   ⟨0x210018, [(0x40, 1024)], [⟨0, 32, .ro, .l, 0⟩]⟩]
/-- Registers of block LN, part 2. -/
def regsLN2 : List RegSpec :=
  [⟨0x21001c, [(0x40, 1024)], [⟨0, 32, .ro, .l, 0⟩]⟩,
   ⟨0x210020, [(0x40, 1024)], [⟨0, 16, .ro, .l, 0⟩, ⟨16, 16, .ro, .l, 0⟩]⟩]
/-- The registers of block LN. -/
def regsLN : List RegSpec := regsLN1 ++ regsLN2

/-- LK_GCFG.RTO (R354). -/
def LK_GCFG_RTO : Fld := ⟨0x400000, 0, 5⟩
/-- LK_GCFG.RESEND_MAX (R354). -/
def LK_GCFG_RESEND_MAX : Fld := ⟨0x400000, 8, 4⟩
/-- LK_GCFG.REPLAY_MAX (R354). -/
def LK_GCFG_REPLAY_MAX : Fld := ⟨0x400000, 12, 4⟩
/-- LK_SUM.UP (R354). -/
def LK_SUM_UP : Fld := ⟨0x400004, 0, 9⟩
/-- LK_SUM.DOWNS (R354). -/
def LK_SUM_DOWNS : Fld := ⟨0x400004, 16, 16⟩
/-- LK_CTRL.ADMIN (R355). -/
def LK_CTRL_ADMIN (k : Nat) : Fld := ⟨0x410000 + 0x40 * k, 0, 1⟩
/-- LK_CTRL.ALIGNED (R355). -/
def LK_CTRL_ALIGNED (k : Nat) : Fld := ⟨0x410000 + 0x40 * k, 1, 1⟩
/-- LK_CTRL.RETRAIN (R355). -/
def LK_CTRL_RETRAIN (k : Nat) : Fld := ⟨0x410000 + 0x40 * k, 2, 1⟩
/-- LK_STAT.STATE (R355). -/
def LK_STAT_STATE (k : Nat) : Fld := ⟨0x410004 + 0x40 * k, 0, 3⟩
/-- LK_STAT.CAUSE (R355). -/
def LK_STAT_CAUSE (k : Nat) : Fld := ⟨0x410004 + 0x40 * k, 3, 5⟩
/-- LK_STAT.HELD (R355). -/
def LK_STAT_HELD (k : Nat) : Fld := ⟨0x410004 + 0x40 * k, 8, 1⟩
/-- LK_STAT.PCAST (R355). -/
def LK_STAT_PCAST (k : Nat) : Fld := ⟨0x410004 + 0x40 * k, 9, 1⟩
/-- LK_STAT.DOWNS (R355). -/
def LK_STAT_DOWNS (k : Nat) : Fld := ⟨0x410004 + 0x40 * k, 16, 16⟩
/-- LK_CFG.USE (R355). -/
def LK_CFG_USE (k : Nat) : Fld := ⟨0x410008 + 0x40 * k, 0, 1⟩
/-- LK_CFG.FEC (R355). -/
def LK_CFG_FEC (k : Nat) : Fld := ⟨0x410008 + 0x40 * k, 1, 1⟩
/-- LK_CFG.WIDTH (R355). -/
def LK_CFG_WIDTH (k : Nat) : Fld := ⟨0x410008 + 0x40 * k, 2, 3⟩
/-- LK_CFG.REACH (R355). -/
def LK_CFG_REACH (k : Nat) : Fld := ⟨0x410008 + 0x40 * k, 16, 12⟩
/-- LK_WIN.PWIN (R356). -/
def LK_WIN_PWIN (k : Nat) : Fld := ⟨0x41000c + 0x40 * k, 0, 16⟩
/-- LK_WIN.EWIN (R356). -/
def LK_WIN_EWIN (k : Nat) : Fld := ⟨0x41000c + 0x40 * k, 16, 4⟩
/-- LK_CREDIT.INITQ (R356). -/
def LK_CREDIT_INITQ (k : Nat) : Fld := ⟨0x410010 + 0x40 * k, 0, 12⟩
/-- LK_CREDIT.INITM (R356). -/
def LK_CREDIT_INITM (k : Nat) : Fld := ⟨0x410010 + 0x40 * k, 12, 12⟩
/-- LK_PEER.ROLE (R356). -/
def LK_PEER_ROLE (k : Nat) : Fld := ⟨0x410014 + 0x40 * k, 0, 1⟩
/-- LK_PEER.DIR (R356). -/
def LK_PEER_DIR (k : Nat) : Fld := ⟨0x410014 + 0x40 * k, 1, 3⟩
/-- LK_PEER.OFFSET (R356). -/
def LK_PEER_OFFSET (k : Nat) : Fld := ⟨0x410014 + 0x40 * k, 4, 4⟩
/-- LK_PEER.COORD (R356). -/
def LK_PEER_COORD (k : Nat) : Fld := ⟨0x410014 + 0x40 * k, 8, 12⟩
/-- LK_PEER.WIDTH (R356). -/
def LK_PEER_WIDTH (k : Nat) : Fld := ⟨0x410014 + 0x40 * k, 20, 3⟩
/-- LK_PEER.PIDX (R356). -/
def LK_PEER_PIDX (k : Nat) : Fld := ⟨0x410014 + 0x40 * k, 23, 2⟩
/-- LK_PEER.PVER (R356). -/
def LK_PEER_PVER (k : Nat) : Fld := ⟨0x410014 + 0x40 * k, 25, 7⟩
/-- LK_CORR_LO (R357). -/
def LK_CORR_LO (k : Nat) : Fld := ⟨0x410018 + 0x40 * k, 0, 32⟩
/-- LK_CORR_HI (R357). -/
def LK_CORR_HI (k : Nat) : Fld := ⟨0x41001c + 0x40 * k, 0, 32⟩
/-- LK_UNCORR (R357). -/
def LK_UNCORR (k : Nat) : Fld := ⟨0x410020 + 0x40 * k, 0, 32⟩
/-- LK_BAD (R357). -/
def LK_BAD (k : Nat) : Fld := ⟨0x410024 + 0x40 * k, 0, 32⟩
/-- LK_REPLAY (R357). -/
def LK_REPLAY (k : Nat) : Fld := ⟨0x410028 + 0x40 * k, 0, 32⟩
/-- LK_NAK (R357). -/
def LK_NAK (k : Nat) : Fld := ⟨0x41002c + 0x40 * k, 0, 32⟩
/-- LK_GAP (R357). -/
def LK_GAP (k : Nat) : Fld := ⟨0x410030 + 0x40 * k, 0, 32⟩
/-- LK_CSYM (R357). -/
def LK_CSYM (k : Nat) : Fld := ⟨0x410034 + 0x40 * k, 0, 32⟩
/-- Registers of block LK, part 1. -/
def regsLK1 : List RegSpec :=
  [⟨0x400000, [], [⟨0, 5, .rw, .l, 17⟩, ⟨8, 4, .rw, .l, 8⟩, ⟨12, 4, .rw, .l, 8⟩]⟩,
   ⟨0x400004, [], [⟨0, 9, .ro, .l, 0⟩, ⟨16, 16, .ro, .l, 0⟩]⟩,
   ⟨0x410000, [(0x40, 256)], [⟨0, 1, .rw, .l, 1⟩, ⟨1, 1, .wo, .l, 0⟩, ⟨2, 1, .wo, .l, 0⟩]⟩,
   ⟨0x410004, [(0x40, 256)], [⟨0, 3, .ro, .l, 0⟩, ⟨3, 5, .ro, .l, 0⟩, ⟨8, 1, .ro, .l, 0⟩, ⟨9, 1, .ro, .l, 0⟩, ⟨16, 16, .ro, .l, 0⟩]⟩,
   ⟨0x410008, [(0x40, 256)], [⟨0, 1, .rw, .c, 1⟩, ⟨1, 1, .rw, .c, 1⟩, ⟨2, 3, .rw, .c, 0⟩, ⟨16, 12, .rw, .c, 2000⟩]⟩,
   ⟨0x41000c, [(0x40, 256)], [⟨0, 16, .rw, .s, 1024⟩, ⟨16, 4, .ro, .l, 0⟩]⟩,
   ⟨0x410010, [(0x40, 256)], [⟨0, 12, .rw, .c, 64⟩, ⟨12, 12, .rw, .c, 16⟩]⟩,
   ⟨0x410014, [(0x40, 256)], [⟨0, 1, .ro, .l, 0⟩, ⟨1, 3, .ro, .l, 0⟩, ⟨4, 4, .ro, .l, 0⟩, ⟨8, 12, .ro, .l, 0⟩, ⟨20, 3, .ro, .l, 0⟩, ⟨23, 2, .ro, .l, 0⟩, ⟨25, 7, .ro, .l, 0⟩]⟩,
   ⟨0x410018, [(0x40, 256)], [⟨0, 32, .ro, .l, 0⟩]⟩,
   ⟨0x41001c, [(0x40, 256)], [⟨0, 32, .ro, .l, 0⟩]⟩,
   ⟨0x410020, [(0x40, 256)], [⟨0, 32, .ro, .l, 0⟩]⟩,
   ⟨0x410024, [(0x40, 256)], [⟨0, 32, .ro, .l, 0⟩]⟩]
/-- Registers of block LK, part 2. -/
def regsLK2 : List RegSpec :=
  [⟨0x410028, [(0x40, 256)], [⟨0, 32, .ro, .l, 0⟩]⟩,
   ⟨0x41002c, [(0x40, 256)], [⟨0, 32, .ro, .l, 0⟩]⟩,
   ⟨0x410030, [(0x40, 256)], [⟨0, 32, .ro, .l, 0⟩]⟩,
   ⟨0x410034, [(0x40, 256)], [⟨0, 32, .ro, .l, 0⟩]⟩]
/-- The registers of block LK. -/
def regsLK : List RegSpec := regsLK1 ++ regsLK2

end Sys2Proof.Machine
end

