-- ==== Sys2Proof/Machine/RegsC.lean ====
section
/-! DEFINITION. The register fields of the blocks SWBP, RT, GT, CRU, as the field tables of their chapters give them (R605, R606):
a name for each field (R17), and each block's table of access code, apply class and reset (R9, R12, R16, R612). -/

namespace Sys2Proof.Machine

/-- SW_ING_W.W_PORT (R395). -/
def SW_ING_W_W_PORT : Fld := ⟨0x800000, 0, 8⟩
/-- SW_ING_W.W_CRU (R395). -/
def SW_ING_W_W_CRU : Fld := ⟨0x800000, 8, 8⟩
/-- SW_ING_W.W_STK (R395). -/
def SW_ING_W_W_STK : Fld := ⟨0x800000, 16, 8⟩
/-- SW_AUD.EN (R395). -/
def SW_AUD_EN : Fld := ⟨0x800004, 0, 1⟩
/-- SW_AUD.GAP (R395). -/
def SW_AUD_GAP : Fld := ⟨0x800004, 8, 5⟩
/-- SW_QAGE (R395). -/
def SW_QAGE : Fld := ⟨0x800008, 0, 32⟩
/-- BP_PCELLS.PCELLS (R396). -/
def BP_PCELLS_PCELLS (k : Nat) : Fld := ⟨0x800100 + 0x80 * k, 0, 21⟩
/-- BP_FREE.CELLS (R396). -/
def BP_FREE_CELLS (k : Nat) : Fld := ⟨0x800104 + 0x80 * k, 0, 21⟩
/-- BP_SHSIZE.CELLS (R396). -/
def BP_SHSIZE_CELLS (k : Nat) : Fld := ⟨0x800108 + 0x80 * k, 0, 21⟩
/-- BP_SHUSE.CELLS (R396). -/
def BP_SHUSE_CELLS (k : Nat) : Fld := ⟨0x80010c + 0x80 * k, 0, 21⟩
/-- BP_CRED.CELLS (R396). -/
def BP_CRED_CELLS (k : Nat) : Fld := ⟨0x800110 + 0x80 * k, 0, 21⟩
/-- BP_CRU_MIN.MIN (R396). -/
def BP_CRU_MIN_MIN (k : Nat) : Fld := ⟨0x800114 + 0x80 * k, 0, 21⟩
/-- BP_CRU_MAX.MAX (R396). -/
def BP_CRU_MAX_MAX (k : Nat) : Fld := ⟨0x800118 + 0x80 * k, 0, 21⟩
/-- BP_MILM_MIN.MIN (R396). -/
def BP_MILM_MIN_MIN (k : Nat) : Fld := ⟨0x80011c + 0x80 * k, 0, 21⟩
/-- BP_MILM_MAX.MAX (R396). -/
def BP_MILM_MAX_MAX (k : Nat) : Fld := ⟨0x800120 + 0x80 * k, 0, 21⟩
/-- BP_STK_MIN.MIN (R396). -/
def BP_STK_MIN_MIN (k : Nat) : Fld := ⟨0x800124 + 0x80 * k, 0, 21⟩
/-- BP_STK_MAX.MAX (R396). -/
def BP_STK_MAX_MAX (k : Nat) : Fld := ⟨0x800128 + 0x80 * k, 0, 21⟩
/-- BP_CRU_USE.USE (R396). -/
def BP_CRU_USE_USE (k : Nat) : Fld := ⟨0x80012c + 0x80 * k, 0, 21⟩
/-- BP_MILM_USE.USE (R396). -/
def BP_MILM_USE_USE (k : Nat) : Fld := ⟨0x800130 + 0x80 * k, 0, 21⟩
/-- BP_STK_USE.USE (R396). -/
def BP_STK_USE_USE (k : Nat) : Fld := ⟨0x800134 + 0x80 * k, 0, 21⟩
/-- BP_MDESC.USED (R396). -/
def BP_MDESC_USED (k : Nat) : Fld := ⟨0x800138 + 0x80 * k, 0, 17⟩
/-- BP_FAIL (R396). -/
def BP_FAIL (k : Nat) : Fld := ⟨0x80013c + 0x80 * k, 0, 32⟩
/-- BP_FLUSH (R396). -/
def BP_FLUSH (k : Nat) : Fld := ⟨0x800140 + 0x80 * k, 0, 32⟩
/-- BP_AGED (R396). -/
def BP_AGED (k : Nat) : Fld := ⟨0x800144 + 0x80 * k, 0, 32⟩
/-- BP_DFENCE (R396). -/
def BP_DFENCE (k : Nat) : Fld := ⟨0x800148 + 0x80 * k, 0, 32⟩
/-- BP_LEAK (R396). -/
def BP_LEAK (k : Nat) : Fld := ⟨0x80014c + 0x80 * k, 0, 32⟩
/-- BP_RELREF (R396). -/
def BP_RELREF (k : Nat) : Fld := ⟨0x800150 + 0x80 * k, 0, 32⟩
/-- BP_FIRST.CAUSE (R396). -/
def BP_FIRST_CAUSE (k : Nat) : Fld := ⟨0x800154 + 0x80 * k, 0, 4⟩
/-- BP_FIRST.CELL (R396). -/
def BP_FIRST_CELL (k : Nat) : Fld := ⟨0x800154 + 0x80 * k, 4, 20⟩
/-- BP_FIRST.VALID (R396). -/
def BP_FIRST_VALID (k : Nat) : Fld := ⟨0x800154 + 0x80 * k, 31, 1⟩
/-- BP_AUD.SWEEPS (R396). -/
def BP_AUD_SWEEPS (k : Nat) : Fld := ⟨0x800158 + 0x80 * k, 0, 16⟩
/-- BP_AUD.STATE (R396). -/
def BP_AUD_STATE (k : Nat) : Fld := ⟨0x800158 + 0x80 * k, 16, 2⟩
/-- SW_D2D_LO (R396). -/
def SW_D2D_LO (k : Nat) : Fld := ⟨0x80015c + 0x80 * k, 0, 32⟩
/-- SW_D2D_HI (R396). -/
def SW_D2D_HI (k : Nat) : Fld := ⟨0x800160 + 0x80 * k, 0, 32⟩
/-- SW_QMIN.QMIN (R395). -/
def SW_QMIN_QMIN (k : Nat) : Fld := ⟨0x800800 + 0x10 * k, 0, 21⟩
/-- SW_QMAX.QMAX (R395). -/
def SW_QMAX_QMAX (k : Nat) : Fld := ⟨0x800804 + 0x10 * k, 0, 21⟩
/-- SW_QMARK.QMARK (R395). -/
def SW_QMARK_QMARK (k : Nat) : Fld := ⟨0x800808 + 0x10 * k, 0, 21⟩
/-- SW_QPROF.PROF (R397). -/
def SW_QPROF_PROF (k : Nat) : Fld := ⟨0x810000 + 0x40 * k, 0, 32⟩
/-- SW_PSTAT.USE (R397). -/
def SW_PSTAT_USE (k : Nat) : Fld := ⟨0x810004 + 0x40 * k, 0, 21⟩
/-- SW_PSTAT.KEPT (R397). -/
def SW_PSTAT_KEPT (k : Nat) : Fld := ⟨0x810004 + 0x40 * k, 21, 1⟩
/-- SW_PDROP (R397). -/
def SW_PDROP (k : Nat) : Fld := ⟨0x810008 + 0x40 * k, 0, 32⟩
/-- SW_PMARK (R397). -/
def SW_PMARK (k : Nat) : Fld := ⟨0x81000c + 0x40 * k, 0, 32⟩
/-- SW_QDEPTH.DEPTH (R397). -/
def SW_QDEPTH_DEPTH (k n : Nat) : Fld := ⟨0x810010 + 0x40 * k + 0x4 * n, 0, 21⟩
/-- Registers of block SWBP, part 1. -/
def regsSWBP1 : List RegSpec :=
  [⟨0x800000, [], [⟨0, 8, .rw, .c, 64⟩, ⟨8, 8, .rw, .c, 40⟩, ⟨16, 8, .rw, .c, 7⟩]⟩,
   ⟨0x800004, [], [⟨0, 1, .rw, .l, 1⟩, ⟨8, 5, .rw, .l, 24⟩]⟩,
   ⟨0x800008, [], [⟨0, 32, .rw, .c, 0⟩]⟩,
   ⟨0x800100, [(0x80, 2)], [⟨0, 21, .rw, .c, 1048576⟩]⟩,
   ⟨0x800104, [(0x80, 2)], [⟨0, 21, .ro, .l, 0⟩]⟩,
   ⟨0x800108, [(0x80, 2)], [⟨0, 21, .ro, .l, 0⟩]⟩,
   ⟨0x80010c, [(0x80, 2)], [⟨0, 21, .ro, .l, 0⟩]⟩,
   ⟨0x800110, [(0x80, 2)], [⟨0, 21, .ro, .l, 0⟩]⟩,
   ⟨0x800114, [(0x80, 2)], [⟨0, 21, .rw, .c, 0⟩]⟩,
   ⟨0x800118, [(0x80, 2)], [⟨0, 21, .rw, .c, 1048576⟩]⟩,
   ⟨0x80011c, [(0x80, 2)], [⟨0, 21, .rw, .c, 0⟩]⟩,
   ⟨0x800120, [(0x80, 2)], [⟨0, 21, .rw, .c, 1048576⟩]⟩]
/-- Registers of block SWBP, part 2. -/
def regsSWBP2 : List RegSpec :=
  [⟨0x800124, [(0x80, 2)], [⟨0, 21, .rw, .c, 0⟩]⟩,
   ⟨0x800128, [(0x80, 2)], [⟨0, 21, .rw, .c, 1048576⟩]⟩,
   ⟨0x80012c, [(0x80, 2)], [⟨0, 21, .ro, .l, 0⟩]⟩,
   ⟨0x800130, [(0x80, 2)], [⟨0, 21, .ro, .l, 0⟩]⟩,
   ⟨0x800134, [(0x80, 2)], [⟨0, 21, .ro, .l, 0⟩]⟩,
   ⟨0x800138, [(0x80, 2)], [⟨0, 17, .ro, .l, 0⟩]⟩,
   ⟨0x80013c, [(0x80, 2)], [⟨0, 32, .ro, .l, 0⟩]⟩,
   ⟨0x800140, [(0x80, 2)], [⟨0, 32, .ro, .l, 0⟩]⟩,
   ⟨0x800144, [(0x80, 2)], [⟨0, 32, .ro, .l, 0⟩]⟩,
   ⟨0x800148, [(0x80, 2)], [⟨0, 32, .ro, .l, 0⟩]⟩,
   ⟨0x80014c, [(0x80, 2)], [⟨0, 32, .ro, .l, 0⟩]⟩,
   ⟨0x800150, [(0x80, 2)], [⟨0, 32, .ro, .l, 0⟩]⟩]
/-- Registers of block SWBP, part 3. -/
def regsSWBP3 : List RegSpec :=
  [⟨0x800154, [(0x80, 2)], [⟨0, 4, .ro, .l, 0⟩, ⟨4, 20, .ro, .l, 0⟩, ⟨31, 1, .ro, .l, 0⟩]⟩,
   ⟨0x800158, [(0x80, 2)], [⟨0, 16, .ro, .l, 0⟩, ⟨16, 2, .ro, .l, 0⟩]⟩,
   ⟨0x80015c, [(0x80, 2)], [⟨0, 32, .ro, .l, 0⟩]⟩,
   ⟨0x800160, [(0x80, 2)], [⟨0, 32, .ro, .l, 0⟩]⟩,
   ⟨0x800800, [(0x10, 16)], [⟨0, 21, .rw, .c, 0⟩]⟩,
   ⟨0x800804, [(0x10, 16)], [⟨0, 21, .rw, .c, 0⟩]⟩,
   ⟨0x800808, [(0x10, 16)], [⟨0, 21, .rw, .c, 0⟩]⟩,
   ⟨0x810000, [(0x40, 256)], [⟨0, 32, .rw, .c, 0⟩]⟩,
   ⟨0x810004, [(0x40, 256)], [⟨0, 21, .ro, .l, 0⟩, ⟨21, 1, .ro, .l, 0⟩]⟩,
   ⟨0x810008, [(0x40, 256)], [⟨0, 32, .ro, .l, 0⟩]⟩,
   ⟨0x81000c, [(0x40, 256)], [⟨0, 32, .ro, .l, 0⟩]⟩,
   ⟨0x810010, [(0x40, 256), (0x4, 8)], [⟨0, 21, .ro, .l, 0⟩]⟩]
/-- The registers of block SWBP. -/
def regsSWBP : List RegSpec := regsSWBP1 ++ regsSWBP2 ++ regsSWBP3

/-- RT_NODE.W (R422). -/
def RT_NODE_W : Fld := ⟨0xc00000, 0, 3⟩
/-- RT_NODE.X (R422). -/
def RT_NODE_X : Fld := ⟨0xc00000, 3, 3⟩
/-- RT_NODE.Y (R422). -/
def RT_NODE_Y : Fld := ⟨0xc00000, 6, 3⟩
/-- RT_NODE.Z (R422). -/
def RT_NODE_Z : Fld := ⟨0xc00000, 9, 3⟩
/-- RT_NODE.SW (R422). -/
def RT_NODE_SW : Fld := ⟨0xc00000, 12, 4⟩
/-- RT_NODE.SX (R422). -/
def RT_NODE_SX : Fld := ⟨0xc00000, 16, 4⟩
/-- RT_NODE.SY (R422). -/
def RT_NODE_SY : Fld := ⟨0xc00000, 20, 4⟩
/-- RT_NODE.SZ (R422). -/
def RT_NODE_SZ : Fld := ⟨0xc00000, 24, 4⟩
/-- RT_NODE.VALID (R422). -/
def RT_NODE_VALID : Fld := ⟨0xc00000, 28, 1⟩
/-- RT_MODE.PKTDATA (R422). -/
def RT_MODE_PKTDATA : Fld := ⟨0xc00004, 0, 1⟩
/-- RT_MODE.NCUT (R422). -/
def RT_MODE_NCUT : Fld := ⟨0xc00004, 8, 9⟩
/-- RT_FCTL.DELAY (R422). -/
def RT_FCTL_DELAY : Fld := ⟨0xc00008, 0, 32⟩
/-- RT_FADD.KIND (R422). -/
def RT_FADD_KIND : Fld := ⟨0xc0000c, 0, 2⟩
/-- RT_FADD.ARG (R422). -/
def RT_FADD_ARG : Fld := ⟨0xc0000c, 2, 20⟩
/-- RT_FDEL.KIND (R422). -/
def RT_FDEL_KIND : Fld := ⟨0xc00010, 0, 2⟩
/-- RT_FDEL.ARG (R422). -/
def RT_FDEL_ARG : Fld := ⟨0xc00010, 2, 20⟩
/-- RT_FSTAT.COUNT (R422). -/
def RT_FSTAT_COUNT : Fld := ⟨0xc00014, 0, 9⟩
/-- RT_FSTAT.FULL (R422). -/
def RT_FSTAT_FULL : Fld := ⟨0xc00014, 9, 1⟩
/-- RT_LREJ (R423). -/
def RT_LREJ : Fld := ⟨0xc00018, 0, 32⟩
/-- RT_PREJ (R423). -/
def RT_PREJ : Fld := ⟨0xc0001c, 0, 32⟩
/-- RT_DFENCE (R423). -/
def RT_DFENCE : Fld := ⟨0xc00020, 0, 32⟩
/-- RT_NOROUTE (R423). -/
def RT_NOROUTE : Fld := ⟨0xc00024, 0, 32⟩
/-- RT_ALTSW (R423). -/
def RT_ALTSW : Fld := ⟨0xc00028, 0, 32⟩
/-- RT_FIRST.CAUSE (R423). -/
def RT_FIRST_CAUSE : Fld := ⟨0xc0002c, 0, 4⟩
/-- RT_FIRST.PORT (R423). -/
def RT_FIRST_PORT : Fld := ⟨0xc0002c, 4, 8⟩
/-- RT_FIRST.VALID (R423). -/
def RT_FIRST_VALID : Fld := ⟨0xc0002c, 31, 1⟩
/-- RT_PFENCE (R423). -/
def RT_PFENCE (k : Nat) : Fld := ⟨0xc00040 + 0x4 * k, 0, 32⟩
/-- RT_EFENCE (R423). -/
def RT_EFENCE (k : Nat) : Fld := ⟨0xc00060 + 0x4 * k, 0, 32⟩
/-- RT_FLIST.KIND (R423). -/
def RT_FLIST_KIND (k : Nat) : Fld := ⟨0xc00100 + 0x4 * k, 0, 2⟩
/-- RT_FLIST.ARG (R423). -/
def RT_FLIST_ARG (k : Nat) : Fld := ⟨0xc00100 + 0x4 * k, 2, 20⟩
/-- RT_FLIST.AUTO (R423). -/
def RT_FLIST_AUTO (k : Nat) : Fld := ⟨0xc00100 + 0x4 * k, 22, 1⟩
/-- RT_FLIST.VALID (R423). -/
def RT_FLIST_VALID (k : Nat) : Fld := ⟨0xc00100 + 0x4 * k, 31, 1⟩
/-- Registers of block RT, part 1. -/
def regsRT1 : List RegSpec :=
  [⟨0xc00000, [], [⟨0, 3, .rw, .c, 0⟩, ⟨3, 3, .rw, .c, 0⟩, ⟨6, 3, .rw, .c, 0⟩, ⟨9, 3, .rw, .c, 0⟩, ⟨12, 4, .rw, .c, 0⟩, ⟨16, 4, .rw, .c, 0⟩, ⟨20, 4, .rw, .c, 0⟩, ⟨24, 4, .rw, .c, 0⟩, ⟨28, 1, .ro, .l, 0⟩]⟩,
   ⟨0xc00004, [], [⟨0, 1, .rw, .c, 1⟩, ⟨8, 9, .ro, .l, 0⟩]⟩,
   ⟨0xc00008, [], [⟨0, 32, .rw, .c, 524288⟩]⟩,
   ⟨0xc0000c, [], [⟨0, 2, .wo, .l, 0⟩, ⟨2, 20, .wo, .l, 0⟩]⟩,
   ⟨0xc00010, [], [⟨0, 2, .wo, .l, 0⟩, ⟨2, 20, .wo, .l, 0⟩]⟩,
   ⟨0xc00014, [], [⟨0, 9, .ro, .l, 0⟩, ⟨9, 1, .w1c, .l, 0⟩]⟩,
   ⟨0xc00018, [], [⟨0, 32, .ro, .l, 0⟩]⟩,
   ⟨0xc0001c, [], [⟨0, 32, .ro, .l, 0⟩]⟩,
   ⟨0xc00020, [], [⟨0, 32, .ro, .l, 0⟩]⟩,
   ⟨0xc00024, [], [⟨0, 32, .ro, .l, 0⟩]⟩,
   ⟨0xc00028, [], [⟨0, 32, .ro, .l, 0⟩]⟩,
   ⟨0xc0002c, [], [⟨0, 4, .ro, .l, 0⟩, ⟨4, 8, .ro, .l, 0⟩, ⟨31, 1, .ro, .l, 0⟩]⟩]
/-- Registers of block RT, part 2. -/
def regsRT2 : List RegSpec :=
  [⟨0xc00040, [(0x4, 8)], [⟨0, 32, .ro, .l, 0⟩]⟩,
   ⟨0xc00060, [(0x4, 4)], [⟨0, 32, .ro, .l, 0⟩]⟩,
   ⟨0xc00100, [(0x4, 256)], [⟨0, 2, .ro, .l, 0⟩, ⟨2, 20, .ro, .l, 0⟩, ⟨22, 1, .ro, .l, 0⟩, ⟨31, 1, .ro, .l, 0⟩]⟩]
/-- The registers of block RT. -/
def regsRT : List RegSpec := regsRT1 ++ regsRT2

/-- GT_LEAD (R445). -/
def GT_LEAD : Fld := ⟨0x1000000, 0, 32⟩
/-- GT_LATE (R445). -/
def GT_LATE : Fld := ⟨0x1000004, 0, 32⟩
/-- GT_FIRST.CAUSE (R445). -/
def GT_FIRST_CAUSE : Fld := ⟨0x1000008, 0, 2⟩
/-- GT_FIRST.QUEUE (R445). -/
def GT_FIRST_QUEUE : Fld := ⟨0x1000008, 2, 3⟩
/-- GT_FIRST.PORT (R445). -/
def GT_FIRST_PORT : Fld := ⟨0x1000008, 5, 8⟩
/-- GT_FIRST.VALID (R445). -/
def GT_FIRST_VALID : Fld := ⟨0x1000008, 31, 1⟩
/-- GT_MAXF.MAXF (R445). -/
def GT_MAXF_MAXF (k : Nat) : Fld := ⟨0x1010000 + 0x200 * k, 0, 32⟩
/-- GT_GCTL.LEN (R445). -/
def GT_GCTL_LEN (k : Nat) : Fld := ⟨0x1010004 + 0x200 * k, 0, 11⟩
/-- GT_GCTL.COMMIT (R445). -/
def GT_GCTL_COMMIT (k : Nat) : Fld := ⟨0x1010004 + 0x200 * k, 16, 1⟩
/-- GT_GBASE_LO (R445). -/
def GT_GBASE_LO (k : Nat) : Fld := ⟨0x1010008 + 0x200 * k, 0, 32⟩
/-- GT_GBASE_HI (R445). -/
def GT_GBASE_HI (k : Nat) : Fld := ⟨0x101000c + 0x200 * k, 0, 32⟩
/-- GT_GCYCLE (R445). -/
def GT_GCYCLE (k : Nat) : Fld := ⟨0x1010010 + 0x200 * k, 0, 32⟩
/-- GT_GSTAT.ACTIVE (R445). -/
def GT_GSTAT_ACTIVE (k : Nat) : Fld := ⟨0x1010014 + 0x200 * k, 0, 1⟩
/-- GT_GSTAT.PEND (R445). -/
def GT_GSTAT_PEND (k : Nat) : Fld := ⟨0x1010014 + 0x200 * k, 1, 1⟩
/-- GT_GSTAT.LATEBASE (R445). -/
def GT_GSTAT_LATEBASE (k : Nat) : Fld := ⟨0x1010014 + 0x200 * k, 2, 1⟩
/-- GT_GSTAT.REFUSED (R445). -/
def GT_GSTAT_REFUSED (k : Nat) : Fld := ⟨0x1010014 + 0x200 * k, 3, 1⟩
/-- GT_GSTAT.CODE (R445). -/
def GT_GSTAT_CODE (k : Nat) : Fld := ⟨0x1010014 + 0x200 * k, 4, 4⟩
/-- GT_GSTAT.ALEN (R445). -/
def GT_GSTAT_ALEN (k : Nat) : Fld := ⟨0x1010014 + 0x200 * k, 8, 11⟩
/-- GT_GSTART_LO (R445). -/
def GT_GSTART_LO (k : Nat) : Fld := ⟨0x1010018 + 0x200 * k, 0, 32⟩
/-- GT_GSTART_HI (R445). -/
def GT_GSTART_HI (k : Nat) : Fld := ⟨0x101001c + 0x200 * k, 0, 32⟩
/-- GT_ACYCLE (R445). -/
def GT_ACYCLE (k : Nat) : Fld := ⟨0x1010020 + 0x200 * k, 0, 32⟩
/-- GT_WFQ0.W2 (R446). -/
def GT_WFQ0_W2 (k : Nat) : Fld := ⟨0x1010024 + 0x200 * k, 0, 8⟩
/-- GT_WFQ0.W3 (R446). -/
def GT_WFQ0_W3 (k : Nat) : Fld := ⟨0x1010024 + 0x200 * k, 8, 8⟩
/-- GT_WFQ0.W4 (R446). -/
def GT_WFQ0_W4 (k : Nat) : Fld := ⟨0x1010024 + 0x200 * k, 16, 8⟩
/-- GT_WFQ0.W5 (R446). -/
def GT_WFQ0_W5 (k : Nat) : Fld := ⟨0x1010024 + 0x200 * k, 24, 8⟩
/-- GT_WFQ1.W6 (R446). -/
def GT_WFQ1_W6 (k : Nat) : Fld := ⟨0x1010028 + 0x200 * k, 0, 8⟩
/-- GT_WFQ1.W7 (R446). -/
def GT_WFQ1_W7 (k : Nat) : Fld := ⟨0x1010028 + 0x200 * k, 8, 8⟩
/-- GT_OVH.OVH (R446). -/
def GT_OVH_OVH (k : Nat) : Fld := ⟨0x101002c + 0x200 * k, 0, 8⟩
/-- GT_SAMP.SP (R446). -/
def GT_SAMP_SP (k : Nat) : Fld := ⟨0x1010030 + 0x200 * k, 0, 5⟩
/-- GT_SAMP.EN (R446). -/
def GT_SAMP_EN (k : Nat) : Fld := ⟨0x1010030 + 0x200 * k, 8, 1⟩
/-- GT_SAMP.CLR (R446). -/
def GT_SAMP_CLR (k : Nat) : Fld := ⟨0x1010030 + 0x200 * k, 9, 1⟩
/-- GT_OVERSIZE (R446). -/
def GT_OVERSIZE (k : Nat) : Fld := ⟨0x1010034 + 0x200 * k, 0, 32⟩
/-- GT_SHP_CFG.ADD (R446). -/
def GT_SHP_CFG_ADD (k n : Nat) : Fld := ⟨0x1010040 + 0x200 * k + 0x10 * n, 0, 16⟩
/-- GT_SHP_CFG.PER (R446). -/
def GT_SHP_CFG_PER (k n : Nat) : Fld := ⟨0x1010040 + 0x200 * k + 0x10 * n, 16, 5⟩
/-- GT_SHP_CFG.EN (R446). -/
def GT_SHP_CFG_EN (k n : Nat) : Fld := ⟨0x1010040 + 0x200 * k + 0x10 * n, 31, 1⟩
/-- GT_SHP_BURST.BURST (R446). -/
def GT_SHP_BURST_BURST (k n : Nat) : Fld := ⟨0x1010044 + 0x200 * k + 0x10 * n, 0, 24⟩
/-- GT_SHP_TOK (R446). -/
def GT_SHP_TOK (k n : Nat) : Fld := ⟨0x1010048 + 0x200 * k + 0x10 * n, 0, 32⟩
/-- GT_SDLAST (R446). -/
def GT_SDLAST (k n : Nat) : Fld := ⟨0x1010100 + 0x200 * k + 0x10 * n, 0, 21⟩
/-- GT_SDMAX (R446). -/
def GT_SDMAX (k n : Nat) : Fld := ⟨0x1010104 + 0x200 * k + 0x10 * n, 0, 21⟩
/-- GT_SLLAST (R446). -/
def GT_SLLAST (k n : Nat) : Fld := ⟨0x1010108 + 0x200 * k + 0x10 * n, 0, 32⟩
/-- GT_SLMAX (R446). -/
def GT_SLMAX (k n : Nat) : Fld := ⟨0x101010c + 0x200 * k + 0x10 * n, 0, 32⟩
/-- GT_GL_INTERVAL (R432). -/
def GT_GL_INTERVAL (k n : Nat) : Fld := ⟨0x1200000 + 0x2000 * k + 0x8 * n, 0, 32⟩
/-- GT_GL_GATES (R432). -/
def GT_GL_GATES (k n : Nat) : Fld := ⟨0x1200004 + 0x2000 * k + 0x8 * n, 0, 8⟩
/-- Registers of block GT, part 1. -/
def regsGT1 : List RegSpec :=
  [⟨0x1000000, [], [⟨0, 32, .rw, .l, 16384⟩]⟩,
   ⟨0x1000004, [], [⟨0, 32, .ro, .l, 0⟩]⟩,
   ⟨0x1000008, [], [⟨0, 2, .ro, .l, 0⟩, ⟨2, 3, .ro, .l, 0⟩, ⟨5, 8, .ro, .l, 0⟩, ⟨31, 1, .ro, .l, 0⟩]⟩,
   ⟨0x1010000, [(0x200, 256)], [⟨0, 32, .rw, .c, 4294967295⟩]⟩,
   ⟨0x1010004, [(0x200, 256)], [⟨0, 11, .rw, .l, 0⟩, ⟨16, 1, .wo, .s, 0⟩]⟩,
   ⟨0x1010008, [(0x200, 256)], [⟨0, 32, .rw, .l, 0⟩]⟩,
   ⟨0x101000c, [(0x200, 256)], [⟨0, 32, .rw, .l, 0⟩]⟩,
   ⟨0x1010010, [(0x200, 256)], [⟨0, 32, .rw, .l, 0⟩]⟩,
   ⟨0x1010014, [(0x200, 256)], [⟨0, 1, .ro, .l, 0⟩, ⟨1, 1, .ro, .l, 0⟩, ⟨2, 1, .w1c, .l, 0⟩, ⟨3, 1, .w1c, .l, 0⟩, ⟨4, 4, .ro, .l, 0⟩, ⟨8, 11, .ro, .l, 0⟩]⟩,
   ⟨0x1010018, [(0x200, 256)], [⟨0, 32, .ro, .l, 0⟩]⟩,
   ⟨0x101001c, [(0x200, 256)], [⟨0, 32, .ro, .l, 0⟩]⟩,
   ⟨0x1010020, [(0x200, 256)], [⟨0, 32, .ro, .l, 0⟩]⟩]
/-- Registers of block GT, part 2. -/
def regsGT2 : List RegSpec :=
  [⟨0x1010024, [(0x200, 256)], [⟨0, 8, .rw, .l, 1⟩, ⟨8, 8, .rw, .l, 1⟩, ⟨16, 8, .rw, .l, 1⟩, ⟨24, 8, .rw, .l, 1⟩]⟩,
   ⟨0x1010028, [(0x200, 256)], [⟨0, 8, .rw, .l, 1⟩, ⟨8, 8, .rw, .l, 1⟩]⟩,
   ⟨0x101002c, [(0x200, 256)], [⟨0, 8, .rw, .l, 0⟩]⟩,
   ⟨0x1010030, [(0x200, 256)], [⟨0, 5, .rw, .l, 16⟩, ⟨8, 1, .rw, .l, 1⟩, ⟨9, 1, .wo, .l, 0⟩]⟩,
   ⟨0x1010034, [(0x200, 256)], [⟨0, 32, .ro, .l, 0⟩]⟩,
   ⟨0x1010040, [(0x200, 256), (0x10, 8)], [⟨0, 16, .rw, .l, 0⟩, ⟨16, 5, .rw, .l, 8⟩, ⟨31, 1, .rw, .l, 0⟩]⟩,
   ⟨0x1010044, [(0x200, 256), (0x10, 8)], [⟨0, 24, .rw, .l, 4352⟩]⟩,
   ⟨0x1010048, [(0x200, 256), (0x10, 8)], [⟨0, 32, .ro, .l, 4352⟩]⟩,
   ⟨0x1010100, [(0x200, 256), (0x10, 8)], [⟨0, 21, .ro, .l, 0⟩]⟩,
   ⟨0x1010104, [(0x200, 256), (0x10, 8)], [⟨0, 21, .ro, .l, 0⟩]⟩,
   ⟨0x1010108, [(0x200, 256), (0x10, 8)], [⟨0, 32, .ro, .l, 0⟩]⟩,
   ⟨0x101010c, [(0x200, 256), (0x10, 8)], [⟨0, 32, .ro, .l, 0⟩]⟩]
/-- Registers of block GT, part 3. -/
def regsGT3 : List RegSpec :=
  [⟨0x1200000, [(0x2000, 256), (0x8, 1024)], [⟨0, 32, .rw, .l, 0⟩]⟩,
   ⟨0x1200004, [(0x2000, 256), (0x8, 1024)], [⟨0, 8, .rw, .l, 0⟩]⟩]
/-- The registers of block GT. -/
def regsGT : List RegSpec := regsGT1 ++ regsGT2 ++ regsGT3

/-- CRU_FEAT.CRUCIBLES (R252). -/
def CRU_FEAT_CRUCIBLES : Fld := ⟨0x1400000, 0, 8⟩
/-- CRU_FEAT.CONTEXTS (R252). -/
def CRU_FEAT_CONTEXTS : Fld := ⟨0x1400000, 8, 8⟩
/-- CRU_FEAT.DESCS (R252). -/
def CRU_FEAT_DESCS : Fld := ⟨0x1400000, 16, 11⟩
/-- CRU_ACTIVE.INUSE (R252). -/
def CRU_ACTIVE_INUSE : Fld := ⟨0x1400004, 0, 13⟩
/-- CRU_FAILS (R252). -/
def CRU_FAILS : Fld := ⟨0x1400008, 0, 32⟩
/-- CRU_BADTAG (R252). -/
def CRU_BADTAG : Fld := ⟨0x140000c, 0, 32⟩
/-- CRU_EXCESS (R252). -/
def CRU_EXCESS : Fld := ⟨0x1400010, 0, 32⟩
/-- CRU_HOLD_S0.CELLS (R252). -/
def CRU_HOLD_S0_CELLS : Fld := ⟨0x1400014, 0, 21⟩
/-- CRU_HOLD_S1.CELLS (R252). -/
def CRU_HOLD_S1_CELLS : Fld := ⟨0x1400018, 0, 21⟩
/-- CRU_FIRST.DESC (R252). -/
def CRU_FIRST_DESC : Fld := ⟨0x140001c, 0, 10⟩
/-- CRU_FIRST.STATUS (R252). -/
def CRU_FIRST_STATUS : Fld := ⟨0x140001c, 10, 4⟩
/-- CRU_FIRST.VALID (R252). -/
def CRU_FIRST_VALID : Fld := ⟨0x140001c, 31, 1⟩
/-- CRU_HOLDPK_S0.PEAK (R252). -/
def CRU_HOLDPK_S0_PEAK : Fld := ⟨0x1400020, 0, 21⟩
/-- CRU_HOLDPK_S1.PEAK (R252). -/
def CRU_HOLDPK_S1_PEAK : Fld := ⟨0x1400024, 0, 21⟩
/-- CRU_DSTAT.STATUS (R253). -/
def CRU_DSTAT_STATUS (k : Nat) : Fld := ⟨0x1500000 + 0x20 * k, 0, 4⟩
/-- CRU_DSTAT.LATE (R253). -/
def CRU_DSTAT_LATE (k : Nat) : Fld := ⟨0x1500000 + 0x20 * k, 4, 1⟩
/-- CRU_DSTAT.AI_NAN (R253). -/
def CRU_DSTAT_AI_NAN (k : Nat) : Fld := ⟨0x1500000 + 0x20 * k, 5, 1⟩
/-- CRU_DSTAT.DROPPED (R253). -/
def CRU_DSTAT_DROPPED (k : Nat) : Fld := ⟨0x1500000 + 0x20 * k, 6, 1⟩
/-- CRU_DSTAT.CTX (R253). -/
def CRU_DSTAT_CTX (k : Nat) : Fld := ⟨0x1500000 + 0x20 * k, 16, 13⟩
/-- CRU_DRUNS (R253). -/
def CRU_DRUNS (k : Nat) : Fld := ⟨0x1500004 + 0x20 * k, 0, 32⟩
/-- CRU_DSEAM_LO (R253). -/
def CRU_DSEAM_LO (k : Nat) : Fld := ⟨0x1500008 + 0x20 * k, 0, 32⟩
/-- CRU_DSEAM_HI (R253). -/
def CRU_DSEAM_HI (k : Nat) : Fld := ⟨0x150000c + 0x20 * k, 0, 32⟩
/-- CRU_DDROP_LO (R253). -/
def CRU_DDROP_LO (k : Nat) : Fld := ⟨0x1500010 + 0x20 * k, 0, 32⟩
/-- CRU_DDROP_HI (R253). -/
def CRU_DDROP_HI (k : Nat) : Fld := ⟨0x1500014 + 0x20 * k, 0, 32⟩
/-- CRU_DLATE (R253). -/
def CRU_DLATE (k : Nat) : Fld := ⟨0x1500018 + 0x20 * k, 0, 32⟩
/-- CRU_CSTAT.CTX (R254). -/
def CRU_CSTAT_CTX (k : Nat) : Fld := ⟨0x1600000 + 0x10 * k, 0, 6⟩
/-- CRU_CSTAT.INSET (R254). -/
def CRU_CSTAT_INSET (k : Nat) : Fld := ⟨0x1600000 + 0x10 * k, 6, 1⟩
/-- CRU_CBEATS_LO (R254). -/
def CRU_CBEATS_LO (k : Nat) : Fld := ⟨0x1600008 + 0x10 * k, 0, 32⟩
/-- CRU_CBEATS_HI (R254). -/
def CRU_CBEATS_HI (k : Nat) : Fld := ⟨0x160000c + 0x10 * k, 0, 32⟩
/-- Registers of block CRU, part 1. -/
def regsCRU1 : List RegSpec :=
  [⟨0x1400000, [], [⟨0, 8, .ro, .l, 128⟩, ⟨8, 8, .ro, .l, 32⟩, ⟨16, 11, .ro, .l, 1024⟩]⟩,
   ⟨0x1400004, [], [⟨0, 13, .ro, .l, 0⟩]⟩,
   ⟨0x1400008, [], [⟨0, 32, .ro, .l, 0⟩]⟩,
   ⟨0x140000c, [], [⟨0, 32, .ro, .l, 0⟩]⟩,
   ⟨0x1400010, [], [⟨0, 32, .ro, .l, 0⟩]⟩,
   ⟨0x1400014, [], [⟨0, 21, .ro, .l, 0⟩]⟩,
   ⟨0x1400018, [], [⟨0, 21, .ro, .l, 0⟩]⟩,
   ⟨0x140001c, [], [⟨0, 10, .ro, .l, 0⟩, ⟨10, 4, .ro, .l, 0⟩, ⟨31, 1, .ro, .l, 0⟩]⟩,
   ⟨0x1400020, [], [⟨0, 21, .ro, .l, 0⟩]⟩,
   ⟨0x1400024, [], [⟨0, 21, .ro, .l, 0⟩]⟩,
   ⟨0x1500000, [(0x20, 1024)], [⟨0, 4, .ro, .l, 0⟩, ⟨4, 1, .w1c, .l, 0⟩, ⟨5, 1, .w1c, .l, 0⟩, ⟨6, 1, .w1c, .l, 0⟩, ⟨16, 13, .ro, .l, 0⟩]⟩,
   ⟨0x1500004, [(0x20, 1024)], [⟨0, 32, .ro, .l, 0⟩]⟩]
/-- Registers of block CRU, part 2. -/
def regsCRU2 : List RegSpec :=
  [⟨0x1500008, [(0x20, 1024)], [⟨0, 32, .ro, .l, 4294967295⟩]⟩,
   ⟨0x150000c, [(0x20, 1024)], [⟨0, 32, .ro, .l, 4294967295⟩]⟩,
   ⟨0x1500010, [(0x20, 1024)], [⟨0, 32, .ro, .l, 0⟩]⟩,
   ⟨0x1500014, [(0x20, 1024)], [⟨0, 32, .ro, .l, 0⟩]⟩,
   ⟨0x1500018, [(0x20, 1024)], [⟨0, 32, .ro, .l, 0⟩]⟩,
   ⟨0x1600000, [(0x10, 128)], [⟨0, 6, .ro, .l, 0⟩, ⟨6, 1, .ro, .l, 0⟩]⟩,
   ⟨0x1600008, [(0x10, 128)], [⟨0, 32, .ro, .l, 0⟩]⟩,
   ⟨0x160000c, [(0x10, 128)], [⟨0, 32, .ro, .l, 0⟩]⟩]
/-- The registers of block CRU. -/
def regsCRU : List RegSpec := regsCRU1 ++ regsCRU2

end Sys2Proof.Machine
end

