-- ==== Sys2Proof/Machine/RegsD.lean ====
section
/-! DEFINITION. The register fields of the blocks MIL, NUM, STK, MEM, as the field tables of their chapters give them (R605, R606):
a name for each field (R17), and each block's table of access code, apply class and reset (R9, R12, R16, R612). -/

namespace Sys2Proof.Machine

/-- MIL_HALL_FUSE (R168). -/
def MIL_HALL_FUSE : Fld := ⟨0x1800000, 0, 32⟩
/-- MIL_HALL_DIS (R168). -/
def MIL_HALL_DIS : Fld := ⟨0x1800004, 0, 32⟩
/-- MIL_HALL_MAP (R168). -/
def MIL_HALL_MAP : Fld := ⟨0x1800008, 0, 32⟩
/-- MIL_PLACE.PBENCH (R168). -/
def MIL_PLACE_PBENCH : Fld := ⟨0x180000c, 0, 11⟩
/-- MIL_PLACE.FOLD (R168). -/
def MIL_PLACE_FOLD : Fld := ⟨0x180000c, 16, 6⟩
/-- MIL_LBENCH.LBENCH (R168). -/
def MIL_LBENCH_LBENCH : Fld := ⟨0x1800010, 0, 11⟩
/-- MIL_ING_RES.RES_S0 (R168). -/
def MIL_ING_RES_RES_S0 : Fld := ⟨0x1800014, 0, 5⟩
/-- MIL_ING_RES.RES_S1 (R168). -/
def MIL_ING_RES_RES_S1 : Fld := ⟨0x1800014, 8, 5⟩
/-- MIL_FOLDS (R168). -/
def MIL_FOLDS : Fld := ⟨0x1800018, 0, 32⟩
/-- MIL_FEAT0.CONTRACT (R216). -/
def MIL_FEAT0_CONTRACT : Fld := ⟨0x1800020, 0, 16⟩
/-- MIL_FEAT0.FORMATS (R216). -/
def MIL_FEAT0_FORMATS : Fld := ⟨0x1800020, 16, 16⟩
/-- MIL_FEAT1.BENCHES (R216). -/
def MIL_FEAT1_BENCHES : Fld := ⟨0x1800024, 0, 16⟩
/-- MIL_FEAT1.ANVILS (R216). -/
def MIL_FEAT1_ANVILS : Fld := ⟨0x1800024, 16, 16⟩
/-- MIL_FEAT2.STORE_KIB (R216). -/
def MIL_FEAT2_STORE_KIB : Fld := ⟨0x1800028, 0, 16⟩
/-- MIL_FEAT2.KBANK_KIB (R216). -/
def MIL_FEAT2_KBANK_KIB : Fld := ⟨0x1800028, 16, 16⟩
/-- MIL_FEAT3.QDEPTH (R216). -/
def MIL_FEAT3_QDEPTH : Fld := ⟨0x180002c, 0, 16⟩
/-- MIL_FEAT3.RUNAHEAD (R216). -/
def MIL_FEAT3_RUNAHEAD : Fld := ⟨0x180002c, 16, 16⟩
/-- MIL_FEAT4.DESCS (R216). -/
def MIL_FEAT4_DESCS : Fld := ⟨0x1800030, 0, 16⟩
/-- MIL_FEAT4.SYNCS (R216). -/
def MIL_FEAT4_SYNCS : Fld := ⟨0x1800030, 16, 16⟩
/-- MIL_FEAT5.LOOPS (R216). -/
def MIL_FEAT5_LOOPS : Fld := ⟨0x1800034, 0, 8⟩
/-- MIL_FEAT5.PFS (R216). -/
def MIL_FEAT5_PFS : Fld := ⟨0x1800034, 8, 8⟩
/-- MIL_FEAT5.ORS (R216). -/
def MIL_FEAT5_ORS : Fld := ⟨0x1800034, 16, 8⟩
/-- MIL_FEAT5.IXS (R216). -/
def MIL_FEAT5_IXS : Fld := ⟨0x1800034, 24, 8⟩
/-- MIL_FEAT6.GROUPS (R216). -/
def MIL_FEAT6_GROUPS : Fld := ⟨0x1800038, 0, 16⟩
/-- MIL_FEAT6.LIBIMG (R216). -/
def MIL_FEAT6_LIBIMG : Fld := ⟨0x1800038, 16, 16⟩
/-- MIL_RLD_SEL.LBENCH (R217). -/
def MIL_RLD_SEL_LBENCH : Fld := ⟨0x1800040, 0, 10⟩
/-- MIL_RLD_SEL.ALL (R217). -/
def MIL_RLD_SEL_ALL : Fld := ⟨0x1800040, 10, 1⟩
/-- MIL_RLD_SEL.BANK (R217). -/
def MIL_RLD_SEL_BANK : Fld := ⟨0x1800040, 11, 1⟩
/-- MIL_RLD_SEL.LIB (R217). -/
def MIL_RLD_SEL_LIB : Fld := ⟨0x1800040, 16, 12⟩
/-- MIL_RLD_CMD.GO (R217). -/
def MIL_RLD_CMD_GO : Fld := ⟨0x1800044, 0, 1⟩
/-- MIL_RLD_STAT.BUSY (R217). -/
def MIL_RLD_STAT_BUSY : Fld := ⟨0x1800048, 0, 1⟩
/-- MIL_RLD_STAT.DONE (R217). -/
def MIL_RLD_STAT_DONE : Fld := ⟨0x1800048, 1, 1⟩
/-- MIL_RLD_STAT.REFUSED (R217). -/
def MIL_RLD_STAT_REFUSED : Fld := ⟨0x1800048, 2, 1⟩
/-- MIL_RLD_STAT.CODE (R217). -/
def MIL_RLD_STAT_CODE : Fld := ⟨0x1800048, 8, 8⟩
/-- MIL_RLD_STAT.SKIPPED (R217). -/
def MIL_RLD_STAT_SKIPPED : Fld := ⟨0x1800048, 16, 16⟩
/-- MIL_ERR_FIRST.LBENCH (R217). -/
def MIL_ERR_FIRST_LBENCH : Fld := ⟨0x180004c, 0, 10⟩
/-- MIL_ERR_FIRST.VALID (R217). -/
def MIL_ERR_FIRST_VALID : Fld := ⟨0x180004c, 31, 1⟩
/-- MIL_ERR_COUNT (R217). -/
def MIL_ERR_COUNT : Fld := ⟨0x1800050, 0, 32⟩
/-- MIL_BENCH_MAP.LOGICAL (R169). -/
def MIL_BENCH_MAP_LOGICAL (k : Nat) : Fld := ⟨0x1802000 + 0x4 * k, 0, 10⟩
/-- MIL_BENCH_MAP.HOSTED (R169). -/
def MIL_BENCH_MAP_HOSTED (k : Nat) : Fld := ⟨0x1802000 + 0x4 * k, 10, 6⟩
/-- MIL_BENCH_MAP.ENABLED (R169). -/
def MIL_BENCH_MAP_ENABLED (k : Nat) : Fld := ⟨0x1802000 + 0x4 * k, 16, 1⟩
/-- MIL_BENCH_MAP.RUN (R169). -/
def MIL_BENCH_MAP_RUN (k : Nat) : Fld := ⟨0x1802000 + 0x4 * k, 17, 1⟩
/-- MIL_BSTAT.STATE (R218). -/
def MIL_BSTAT_STATE (k : Nat) : Fld := ⟨0x1900000 + 0x40 * k, 0, 3⟩
/-- MIL_BSTAT.ACTIVE (R218). -/
def MIL_BSTAT_ACTIVE (k : Nat) : Fld := ⟨0x1900000 + 0x40 * k, 3, 1⟩
/-- MIL_BSTAT.ARMED (R218). -/
def MIL_BSTAT_ARMED (k : Nat) : Fld := ⟨0x1900000 + 0x40 * k, 4, 1⟩
/-- MIL_BSTAT.RELOAD (R218). -/
def MIL_BSTAT_RELOAD (k : Nat) : Fld := ⟨0x1900000 + 0x40 * k, 5, 1⟩
/-- MIL_BSTAT.LEVELS (R218). -/
def MIL_BSTAT_LEVELS (k : Nat) : Fld := ⟨0x1900000 + 0x40 * k, 6, 3⟩
/-- MIL_BSTAT.INFLIGHT (R218). -/
def MIL_BSTAT_INFLIGHT (k : Nat) : Fld := ⟨0x1900000 + 0x40 * k, 16, 10⟩
/-- MIL_BPC.PC (R218). -/
def MIL_BPC_PC (k : Nat) : Fld := ⟨0x1900004 + 0x40 * k, 0, 13⟩
/-- MIL_BRET_LO (R218). -/
def MIL_BRET_LO (k : Nat) : Fld := ⟨0x1900008 + 0x40 * k, 0, 32⟩
/-- MIL_BRET_HI (R218). -/
def MIL_BRET_HI (k : Nat) : Fld := ⟨0x190000c + 0x40 * k, 0, 32⟩
/-- MIL_BERR.CODE (R218). -/
def MIL_BERR_CODE (k : Nat) : Fld := ⟨0x1900010 + 0x40 * k, 0, 8⟩
/-- MIL_BERR.SLOT (R218). -/
def MIL_BERR_SLOT (k : Nat) : Fld := ⟨0x1900010 + 0x40 * k, 8, 4⟩
/-- MIL_BBANK.K0_IMG (R218). -/
def MIL_BBANK_K0_IMG (k : Nat) : Fld := ⟨0x1900014 + 0x40 * k, 0, 12⟩
/-- MIL_BBANK.K0_V (R218). -/
def MIL_BBANK_K0_V (k : Nat) : Fld := ⟨0x1900014 + 0x40 * k, 12, 1⟩
/-- MIL_BBANK.K1_IMG (R218). -/
def MIL_BBANK_K1_IMG (k : Nat) : Fld := ⟨0x1900014 + 0x40 * k, 16, 12⟩
/-- MIL_BBANK.K1_V (R218). -/
def MIL_BBANK_K1_V (k : Nat) : Fld := ⟨0x1900014 + 0x40 * k, 28, 1⟩
/-- MIL_BRK_RET_LO (R218). -/
def MIL_BRK_RET_LO (k : Nat) : Fld := ⟨0x1900018 + 0x40 * k, 0, 32⟩
/-- MIL_BRK_RET_HI (R218). -/
def MIL_BRK_RET_HI (k : Nat) : Fld := ⟨0x190001c + 0x40 * k, 0, 32⟩
/-- MIL_BRK_TAG.VALUE (R218). -/
def MIL_BRK_TAG_VALUE (k : Nat) : Fld := ⟨0x1900020 + 0x40 * k, 0, 16⟩
/-- MIL_BRK_TAG.MASK (R218). -/
def MIL_BRK_TAG_MASK (k : Nat) : Fld := ⟨0x1900020 + 0x40 * k, 16, 16⟩
/-- MIL_BCTL.RET_EN (R218). -/
def MIL_BCTL_RET_EN (k : Nat) : Fld := ⟨0x1900024 + 0x40 * k, 0, 1⟩
/-- MIL_BCTL.TAG_EN (R218). -/
def MIL_BCTL_TAG_EN (k : Nat) : Fld := ⟨0x1900024 + 0x40 * k, 1, 1⟩
/-- MIL_BCTL.RESUME (R218). -/
def MIL_BCTL_RESUME (k : Nat) : Fld := ⟨0x1900024 + 0x40 * k, 2, 1⟩
/-- MIL_BCTL.HIT_RET (R218). -/
def MIL_BCTL_HIT_RET (k : Nat) : Fld := ⟨0x1900024 + 0x40 * k, 3, 1⟩
/-- MIL_BCTL.HIT_TAG (R218). -/
def MIL_BCTL_HIT_TAG (k : Nat) : Fld := ⟨0x1900024 + 0x40 * k, 4, 1⟩
/-- MIL_BCTL.HIT_SW (R218). -/
def MIL_BCTL_HIT_SW (k : Nat) : Fld := ⟨0x1900024 + 0x40 * k, 5, 1⟩
/-- MIL_SYNC (R218). -/
def MIL_SYNC (k : Nat) : Fld := ⟨0x1920000 + 0x4 * k, 0, 32⟩
/-- Registers of block MIL, part 1. -/
def regsMIL1 : List RegSpec :=
  [⟨0x1800000, [], [⟨0, 32, .ro, .l, 0⟩]⟩,
   ⟨0x1800004, [], [⟨0, 32, .rw, .l, 0⟩]⟩,
   ⟨0x1800008, [], [⟨0, 32, .ro, .l, 0⟩]⟩,
   ⟨0x180000c, [], [⟨0, 11, .ro, .l, 0⟩, ⟨16, 6, .ro, .l, 0⟩]⟩,
   ⟨0x1800010, [], [⟨0, 11, .ro, .l, 0⟩]⟩,
   ⟨0x1800014, [], [⟨0, 5, .rw, .c, 8⟩, ⟨8, 5, .rw, .c, 8⟩]⟩,
   ⟨0x1800018, [], [⟨0, 32, .ro, .l, 0⟩]⟩,
   ⟨0x1800020, [], [⟨0, 16, .ro, .l, 1⟩, ⟨16, 16, .ro, .l, 8191⟩]⟩,
   ⟨0x1800024, [], [⟨0, 16, .ro, .l, 1024⟩, ⟨16, 16, .ro, .l, 64⟩]⟩,
   ⟨0x1800028, [], [⟨0, 16, .ro, .l, 256⟩, ⟨16, 16, .ro, .l, 64⟩]⟩,
   ⟨0x180002c, [], [⟨0, 16, .ro, .l, 1024⟩, ⟨16, 16, .ro, .l, 768⟩]⟩,
   ⟨0x1800030, [], [⟨0, 16, .ro, .l, 256⟩, ⟨16, 16, .ro, .l, 4096⟩]⟩]
/-- Registers of block MIL, part 2. -/
def regsMIL2 : List RegSpec :=
  [⟨0x1800034, [], [⟨0, 8, .ro, .l, 4⟩, ⟨8, 8, .ro, .l, 16⟩, ⟨16, 8, .ro, .l, 16⟩, ⟨24, 8, .ro, .l, 8⟩]⟩,
   ⟨0x1800038, [], [⟨0, 16, .ro, .l, 256⟩, ⟨16, 16, .ro, .l, 4096⟩]⟩,
   ⟨0x1800040, [], [⟨0, 10, .rw, .l, 0⟩, ⟨10, 1, .rw, .l, 0⟩, ⟨11, 1, .rw, .l, 0⟩, ⟨16, 12, .rw, .l, 0⟩]⟩,
   ⟨0x1800044, [], [⟨0, 1, .wo, .l, 0⟩]⟩,
   ⟨0x1800048, [], [⟨0, 1, .ro, .l, 0⟩, ⟨1, 1, .w1c, .l, 0⟩, ⟨2, 1, .w1c, .l, 0⟩, ⟨8, 8, .ro, .l, 0⟩, ⟨16, 16, .ro, .l, 0⟩]⟩,
   ⟨0x180004c, [], [⟨0, 10, .ro, .l, 0⟩, ⟨31, 1, .ro, .l, 0⟩]⟩,
   ⟨0x1800050, [], [⟨0, 32, .ro, .l, 0⟩]⟩,
   ⟨0x1802000, [(0x4, 1024)], [⟨0, 10, .ro, .l, 0⟩, ⟨10, 6, .ro, .l, 0⟩, ⟨16, 1, .ro, .l, 0⟩, ⟨17, 1, .ro, .l, 0⟩]⟩,
   ⟨0x1900000, [(0x40, 1024)], [⟨0, 3, .ro, .l, 0⟩, ⟨3, 1, .ro, .l, 0⟩, ⟨4, 1, .ro, .l, 0⟩, ⟨5, 1, .ro, .l, 0⟩, ⟨6, 3, .ro, .l, 0⟩, ⟨16, 10, .ro, .l, 0⟩]⟩,
   ⟨0x1900004, [(0x40, 1024)], [⟨0, 13, .ro, .l, 0⟩]⟩,
   ⟨0x1900008, [(0x40, 1024)], [⟨0, 32, .ro, .l, 0⟩]⟩,
   ⟨0x190000c, [(0x40, 1024)], [⟨0, 32, .ro, .l, 0⟩]⟩]
/-- Registers of block MIL, part 3. -/
def regsMIL3 : List RegSpec :=
  [⟨0x1900010, [(0x40, 1024)], [⟨0, 8, .ro, .l, 0⟩, ⟨8, 4, .ro, .l, 0⟩]⟩,
   ⟨0x1900014, [(0x40, 1024)], [⟨0, 12, .ro, .l, 0⟩, ⟨12, 1, .ro, .l, 0⟩, ⟨16, 12, .ro, .l, 0⟩, ⟨28, 1, .ro, .l, 0⟩]⟩,
   ⟨0x1900018, [(0x40, 1024)], [⟨0, 32, .rw, .l, 0⟩]⟩,
   ⟨0x190001c, [(0x40, 1024)], [⟨0, 32, .rw, .l, 0⟩]⟩,
   ⟨0x1900020, [(0x40, 1024)], [⟨0, 16, .rw, .l, 0⟩, ⟨16, 16, .rw, .l, 0⟩]⟩,
   ⟨0x1900024, [(0x40, 1024)], [⟨0, 1, .rw, .l, 0⟩, ⟨1, 1, .rw, .l, 0⟩, ⟨2, 1, .wo, .l, 0⟩, ⟨3, 1, .w1c, .l, 0⟩, ⟨4, 1, .w1c, .l, 0⟩, ⟨5, 1, .w1c, .l, 0⟩]⟩,
   ⟨0x1920000, [(0x4, 4096)], [⟨0, 32, .ro, .l, 0⟩]⟩]
/-- The registers of block MIL. -/
def regsMIL : List RegSpec := regsMIL1 ++ regsMIL2 ++ regsMIL3

/-- NUM_POLICY.FAST_ALLOW (R141). -/
def NUM_POLICY_FAST_ALLOW : Fld := ⟨0x2000000, 0, 1⟩
/-- NUM_POLICY.OVF (R141). -/
def NUM_POLICY_OVF : Fld := ⟨0x2000000, 1, 1⟩
/-- NUM_POLICY.SUBN (R141). -/
def NUM_POLICY_SUBN : Fld := ⟨0x2000000, 2, 1⟩
/-- NUM_POLICY.STRICT_RM (R141). -/
def NUM_POLICY_STRICT_RM : Fld := ⟨0x2000000, 3, 2⟩
/-- NUM_FLAGS_SUM.T_INVALID (R142). -/
def NUM_FLAGS_SUM_T_INVALID : Fld := ⟨0x2000004, 0, 1⟩
/-- NUM_FLAGS_SUM.T_OVERFLOW (R142). -/
def NUM_FLAGS_SUM_T_OVERFLOW : Fld := ⟨0x2000004, 1, 1⟩
/-- NUM_FLAGS_SUM.T_SATURATE (R142). -/
def NUM_FLAGS_SUM_T_SATURATE : Fld := ⟨0x2000004, 2, 1⟩
/-- NUM_FLAGS_SUM.T_FLUSH (R142). -/
def NUM_FLAGS_SUM_T_FLUSH : Fld := ⟨0x2000004, 3, 1⟩
/-- NUM_FLAGS_SUM.AI_NAN (R142). -/
def NUM_FLAGS_SUM_AI_NAN : Fld := ⟨0x2000004, 4, 1⟩
/-- NUM_FLAGS_SUM.S_INVALID (R142). -/
def NUM_FLAGS_SUM_S_INVALID : Fld := ⟨0x2000004, 5, 1⟩
/-- NUM_FLAGS_SUM.S_DIVZERO (R142). -/
def NUM_FLAGS_SUM_S_DIVZERO : Fld := ⟨0x2000004, 6, 1⟩
/-- NUM_FLAGS_SUM.S_OVERFLOW (R142). -/
def NUM_FLAGS_SUM_S_OVERFLOW : Fld := ⟨0x2000004, 7, 1⟩
/-- NUM_FLAGS_SUM.S_UNDERFLOW (R142). -/
def NUM_FLAGS_SUM_S_UNDERFLOW : Fld := ⟨0x2000004, 8, 1⟩
/-- NUM_FLAGS_SUM.S_INEXACT (R142). -/
def NUM_FLAGS_SUM_S_INEXACT : Fld := ⟨0x2000004, 9, 1⟩
/-- NUM_TSEED_LO (R280). -/
def NUM_TSEED_LO : Fld := ⟨0x2008000, 0, 32⟩
/-- NUM_TSEED_HI (R280). -/
def NUM_TSEED_HI : Fld := ⟨0x2008004, 0, 32⟩
/-- NUM_ASSAY.RATE (R280). -/
def NUM_ASSAY_RATE : Fld := ⟨0x2008008, 0, 5⟩
/-- NUM_ASSAY.ACTION (R280). -/
def NUM_ASSAY_ACTION : Fld := ⟨0x2008008, 5, 1⟩
/-- NUM_ASSAY.TOL (R280). -/
def NUM_ASSAY_TOL : Fld := ⟨0x2008008, 8, 8⟩
/-- NUM_ASSAY.TTOL (R280). -/
def NUM_ASSAY_TTOL : Fld := ⟨0x2008008, 16, 8⟩
/-- NUM_WATCH.SILENT_RUN (R280). -/
def NUM_WATCH_SILENT_RUN : Fld := ⟨0x200800c, 0, 16⟩
/-- NUM_ASSAY_N_LO (R280). -/
def NUM_ASSAY_N_LO : Fld := ⟨0x2008010, 0, 32⟩
/-- NUM_ASSAY_N_HI (R280). -/
def NUM_ASSAY_N_HI : Fld := ⟨0x2008014, 0, 32⟩
/-- NUM_ASSAY_FAIL (R280). -/
def NUM_ASSAY_FAIL : Fld := ⟨0x2008018, 0, 32⟩
/-- NUM_ASSAY_CAP.INDEX (R280). -/
def NUM_ASSAY_CAP_INDEX : Fld := ⟨0x200801c, 0, 10⟩
/-- NUM_ASSAY_CAP.UNIT (R280). -/
def NUM_ASSAY_CAP_UNIT : Fld := ⟨0x200801c, 10, 6⟩
/-- NUM_ASSAY_CAP.KIND (R280). -/
def NUM_ASSAY_CAP_KIND : Fld := ⟨0x200801c, 16, 1⟩
/-- NUM_ASSAY_CAP.VALID (R280). -/
def NUM_ASSAY_CAP_VALID : Fld := ⟨0x200801c, 31, 1⟩
/-- NUM_ASSAY_NARROW (R280). -/
def NUM_ASSAY_NARROW : Fld := ⟨0x2008020, 0, 32⟩
/-- NUM_ASSAY_WIDE (R280). -/
def NUM_ASSAY_WIDE : Fld := ⟨0x2008024, 0, 32⟩
/-- NUM_TSILENT.COUNT (R280). -/
def NUM_TSILENT_COUNT : Fld := ⟨0x2008028, 0, 16⟩
/-- NUM_TSILENT.FIRST (R280). -/
def NUM_TSILENT_FIRST : Fld := ⟨0x2008028, 16, 12⟩
/-- NUM_TSILENT.VALID (R280). -/
def NUM_TSILENT_VALID : Fld := ⟨0x2008028, 31, 1⟩
/-- NUM_TNONFIN (R280). -/
def NUM_TNONFIN : Fld := ⟨0x200802c, 0, 32⟩
/-- NUM_BFLAGS.T_INVALID (R142). -/
def NUM_BFLAGS_T_INVALID (k : Nat) : Fld := ⟨0x2001000 + 0x4 * k, 0, 1⟩
/-- NUM_BFLAGS.T_OVERFLOW (R142). -/
def NUM_BFLAGS_T_OVERFLOW (k : Nat) : Fld := ⟨0x2001000 + 0x4 * k, 1, 1⟩
/-- NUM_BFLAGS.T_SATURATE (R142). -/
def NUM_BFLAGS_T_SATURATE (k : Nat) : Fld := ⟨0x2001000 + 0x4 * k, 2, 1⟩
/-- NUM_BFLAGS.T_FLUSH (R142). -/
def NUM_BFLAGS_T_FLUSH (k : Nat) : Fld := ⟨0x2001000 + 0x4 * k, 3, 1⟩
/-- NUM_BFLAGS.AI_NAN (R142). -/
def NUM_BFLAGS_AI_NAN (k : Nat) : Fld := ⟨0x2001000 + 0x4 * k, 4, 1⟩
/-- NUM_BFLAGS.S_INVALID (R142). -/
def NUM_BFLAGS_S_INVALID (k : Nat) : Fld := ⟨0x2001000 + 0x4 * k, 5, 1⟩
/-- NUM_BFLAGS.S_DIVZERO (R142). -/
def NUM_BFLAGS_S_DIVZERO (k : Nat) : Fld := ⟨0x2001000 + 0x4 * k, 6, 1⟩
/-- NUM_BFLAGS.S_OVERFLOW (R142). -/
def NUM_BFLAGS_S_OVERFLOW (k : Nat) : Fld := ⟨0x2001000 + 0x4 * k, 7, 1⟩
/-- NUM_BFLAGS.S_UNDERFLOW (R142). -/
def NUM_BFLAGS_S_UNDERFLOW (k : Nat) : Fld := ⟨0x2001000 + 0x4 * k, 8, 1⟩
/-- NUM_BFLAGS.S_INEXACT (R142). -/
def NUM_BFLAGS_S_INEXACT (k : Nat) : Fld := ⟨0x2001000 + 0x4 * k, 9, 1⟩
/-- NUM_CFLAGS.T_INVALID (R142). -/
def NUM_CFLAGS_T_INVALID (k : Nat) : Fld := ⟨0x2002000 + 0x4 * k, 0, 1⟩
/-- NUM_CFLAGS.T_OVERFLOW (R142). -/
def NUM_CFLAGS_T_OVERFLOW (k : Nat) : Fld := ⟨0x2002000 + 0x4 * k, 1, 1⟩
/-- NUM_CFLAGS.T_SATURATE (R142). -/
def NUM_CFLAGS_T_SATURATE (k : Nat) : Fld := ⟨0x2002000 + 0x4 * k, 2, 1⟩
/-- NUM_CFLAGS.T_FLUSH (R142). -/
def NUM_CFLAGS_T_FLUSH (k : Nat) : Fld := ⟨0x2002000 + 0x4 * k, 3, 1⟩
/-- NUM_CFLAGS.AI_NAN (R142). -/
def NUM_CFLAGS_AI_NAN (k : Nat) : Fld := ⟨0x2002000 + 0x4 * k, 4, 1⟩
/-- NUM_CFLAGS.S_INVALID (R142). -/
def NUM_CFLAGS_S_INVALID (k : Nat) : Fld := ⟨0x2002000 + 0x4 * k, 5, 1⟩
/-- NUM_CFLAGS.S_DIVZERO (R142). -/
def NUM_CFLAGS_S_DIVZERO (k : Nat) : Fld := ⟨0x2002000 + 0x4 * k, 6, 1⟩
/-- NUM_CFLAGS.S_OVERFLOW (R142). -/
def NUM_CFLAGS_S_OVERFLOW (k : Nat) : Fld := ⟨0x2002000 + 0x4 * k, 7, 1⟩
/-- NUM_CFLAGS.S_UNDERFLOW (R142). -/
def NUM_CFLAGS_S_UNDERFLOW (k : Nat) : Fld := ⟨0x2002000 + 0x4 * k, 8, 1⟩
/-- NUM_CFLAGS.S_INEXACT (R142). -/
def NUM_CFLAGS_S_INEXACT (k : Nat) : Fld := ⟨0x2002000 + 0x4 * k, 9, 1⟩
/-- NUM_TSTAT.STATE (R280). -/
def NUM_TSTAT_STATE (k : Nat) : Fld := ⟨0x2009000 + 0x20 * k, 0, 2⟩
/-- NUM_TSTAT.STATUS (R280). -/
def NUM_TSTAT_STATUS (k : Nat) : Fld := ⟨0x2009000 + 0x20 * k, 2, 4⟩
/-- NUM_TSTEP_LO (R280). -/
def NUM_TSTEP_LO (k : Nat) : Fld := ⟨0x2009004 + 0x20 * k, 0, 32⟩
/-- NUM_TSTEP_HI (R280). -/
def NUM_TSTEP_HI (k : Nat) : Fld := ⟨0x2009008 + 0x20 * k, 0, 32⟩
/-- NUM_TLR (R280). -/
def NUM_TLR (k : Nat) : Fld := ⟨0x2010000 + 0x10 * k, 0, 32⟩
/-- NUM_TWD (R280). -/
def NUM_TWD (k : Nat) : Fld := ⟨0x2010004 + 0x10 * k, 0, 32⟩
/-- NUM_TLAYER.LSCALE (R280). -/
def NUM_TLAYER_LSCALE (k : Nat) : Fld := ⟨0x2010008 + 0x10 * k, 0, 8⟩
/-- NUM_TLAYER.KST (R280). -/
def NUM_TLAYER_KST (k : Nat) : Fld := ⟨0x2010008 + 0x10 * k, 8, 8⟩
/-- NUM_TLAYER.SILENT (R280). -/
def NUM_TLAYER_SILENT (k : Nat) : Fld := ⟨0x2010008 + 0x10 * k, 16, 1⟩
/-- NUM_TLAYER.RUN (R280). -/
def NUM_TLAYER_RUN (k : Nat) : Fld := ⟨0x2010008 + 0x10 * k, 20, 12⟩
/-- NUM_TZERO (R280). -/
def NUM_TZERO (k : Nat) : Fld := ⟨0x201000c + 0x10 * k, 0, 32⟩
/-- Registers of block NUM, part 1. -/
def regsNUM1 : List RegSpec :=
  [⟨0x2000000, [], [⟨0, 1, .rw, .c, 0⟩, ⟨1, 1, .rw, .c, 0⟩, ⟨2, 1, .rw, .c, 0⟩, ⟨3, 2, .rw, .c, 0⟩]⟩,
   ⟨0x2000004, [], [⟨0, 1, .ro, .l, 0⟩, ⟨1, 1, .ro, .l, 0⟩, ⟨2, 1, .ro, .l, 0⟩, ⟨3, 1, .ro, .l, 0⟩, ⟨4, 1, .ro, .l, 0⟩, ⟨5, 1, .ro, .l, 0⟩, ⟨6, 1, .ro, .l, 0⟩, ⟨7, 1, .ro, .l, 0⟩, ⟨8, 1, .ro, .l, 0⟩, ⟨9, 1, .ro, .l, 0⟩]⟩,
   ⟨0x2008000, [], [⟨0, 32, .rw, .c, 0⟩]⟩,
   ⟨0x2008004, [], [⟨0, 32, .rw, .c, 0⟩]⟩,
   ⟨0x2008008, [], [⟨0, 5, .rw, .s, 10⟩, ⟨5, 1, .rw, .s, 0⟩, ⟨8, 8, .rw, .s, 2⟩, ⟨16, 8, .rw, .s, 4⟩]⟩,
   ⟨0x200800c, [], [⟨0, 16, .rw, .s, 64⟩]⟩,
   ⟨0x2008010, [], [⟨0, 32, .ro, .l, 0⟩]⟩,
   ⟨0x2008014, [], [⟨0, 32, .ro, .l, 0⟩]⟩,
   ⟨0x2008018, [], [⟨0, 32, .ro, .l, 0⟩]⟩,
   ⟨0x200801c, [], [⟨0, 10, .ro, .l, 0⟩, ⟨10, 6, .ro, .l, 0⟩, ⟨16, 1, .ro, .l, 0⟩, ⟨31, 1, .ro, .l, 0⟩]⟩,
   ⟨0x2008020, [], [⟨0, 32, .ro, .l, 0⟩]⟩,
   ⟨0x2008024, [], [⟨0, 32, .ro, .l, 0⟩]⟩]
/-- Registers of block NUM, part 2. -/
def regsNUM2 : List RegSpec :=
  [⟨0x2008028, [], [⟨0, 16, .ro, .l, 0⟩, ⟨16, 12, .ro, .l, 0⟩, ⟨31, 1, .ro, .l, 0⟩]⟩,
   ⟨0x200802c, [], [⟨0, 32, .ro, .l, 0⟩]⟩,
   ⟨0x2001000, [(0x4, 1024)], [⟨0, 1, .w1c, .l, 0⟩, ⟨1, 1, .w1c, .l, 0⟩, ⟨2, 1, .w1c, .l, 0⟩, ⟨3, 1, .w1c, .l, 0⟩, ⟨4, 1, .w1c, .l, 0⟩, ⟨5, 1, .w1c, .l, 0⟩, ⟨6, 1, .w1c, .l, 0⟩, ⟨7, 1, .w1c, .l, 0⟩, ⟨8, 1, .w1c, .l, 0⟩, ⟨9, 1, .w1c, .l, 0⟩]⟩,
   ⟨0x2002000, [(0x4, 128)], [⟨0, 1, .w1c, .l, 0⟩, ⟨1, 1, .w1c, .l, 0⟩, ⟨2, 1, .w1c, .l, 0⟩, ⟨3, 1, .w1c, .l, 0⟩, ⟨4, 1, .w1c, .l, 0⟩, ⟨5, 1, .w1c, .l, 0⟩, ⟨6, 1, .w1c, .l, 0⟩, ⟨7, 1, .w1c, .l, 0⟩, ⟨8, 1, .w1c, .l, 0⟩, ⟨9, 1, .w1c, .l, 0⟩]⟩,
   ⟨0x2009000, [(0x20, 64)], [⟨0, 2, .ro, .l, 0⟩, ⟨2, 4, .ro, .l, 0⟩]⟩,
   ⟨0x2009004, [(0x20, 64)], [⟨0, 32, .ro, .l, 0⟩]⟩,
   ⟨0x2009008, [(0x20, 64)], [⟨0, 32, .ro, .l, 0⟩]⟩,
   ⟨0x2010000, [(0x10, 4096)], [⟨0, 32, .rw, .s, 0⟩]⟩,
   ⟨0x2010004, [(0x10, 4096)], [⟨0, 32, .rw, .s, 0⟩]⟩,
   ⟨0x2010008, [(0x10, 4096)], [⟨0, 8, .rw, .s, 0⟩, ⟨8, 8, .ro, .l, 0⟩, ⟨16, 1, .w1c, .l, 0⟩, ⟨20, 12, .ro, .l, 0⟩]⟩,
   ⟨0x201000c, [(0x10, 4096)], [⟨0, 32, .ro, .l, 0⟩]⟩]
/-- The registers of block NUM. -/
def regsNUM : List RegSpec := regsNUM1 ++ regsNUM2

/-- STK_SHARE.SH_STOCK (R302). -/
def STK_SHARE_SH_STOCK : Fld := ⟨0x2400000, 0, 8⟩
/-- STK_SHARE.SH_MILL (R302). -/
def STK_SHARE_SH_MILL : Fld := ⟨0x2400000, 8, 8⟩
/-- STK_SHARE.SH_REPLAY (R302). -/
def STK_SHARE_SH_REPLAY : Fld := ⟨0x2400000, 16, 8⟩
/-- STK_SHARE.SH_BURN (R302). -/
def STK_SHARE_SH_BURN : Fld := ⟨0x2400000, 24, 8⟩
/-- STK_STAT.NTAB (R302). -/
def STK_STAT_NTAB : Fld := ⟨0x2400004, 0, 9⟩
/-- STK_REFUSE (R302). -/
def STK_REFUSE : Fld := ⟨0x2400008, 0, 32⟩
/-- STK_FIRST.TABLE (R302). -/
def STK_FIRST_TABLE : Fld := ⟨0x240000c, 0, 8⟩
/-- STK_FIRST.STATUS (R302). -/
def STK_FIRST_STATUS : Fld := ⟨0x240000c, 8, 4⟩
/-- STK_FIRST.VALID (R302). -/
def STK_FIRST_VALID : Fld := ⟨0x240000c, 31, 1⟩
/-- STK_TSTAT.STATUS (R302). -/
def STK_TSTAT_STATUS (k : Nat) : Fld := ⟨0x2500000 + 0x40 * k, 0, 4⟩
/-- STK_TSTAT.TORN (R302). -/
def STK_TSTAT_TORN (k : Nat) : Fld := ⟨0x2500000 + 0x40 * k, 4, 1⟩
/-- STK_TSTAT.LATE (R302). -/
def STK_TSTAT_LATE (k : Nat) : Fld := ⟨0x2500000 + 0x40 * k, 5, 1⟩
/-- STK_TSTAT.PHASE (R302). -/
def STK_TSTAT_PHASE (k : Nat) : Fld := ⟨0x2500000 + 0x40 * k, 6, 2⟩
/-- STK_TLOOK_LO (R302). -/
def STK_TLOOK_LO (k : Nat) : Fld := ⟨0x2500004 + 0x40 * k, 0, 32⟩
/-- STK_TLOOK_HI (R302). -/
def STK_TLOOK_HI (k : Nat) : Fld := ⟨0x2500008 + 0x40 * k, 0, 32⟩
/-- STK_THIT_LO (R302). -/
def STK_THIT_LO (k : Nat) : Fld := ⟨0x250000c + 0x40 * k, 0, 32⟩
/-- STK_THIT_HI (R302). -/
def STK_THIT_HI (k : Nat) : Fld := ⟨0x2500010 + 0x40 * k, 0, 32⟩
/-- STK_TMISS_LO (R302). -/
def STK_TMISS_LO (k : Nat) : Fld := ⟨0x2500014 + 0x40 * k, 0, 32⟩
/-- STK_TMISS_HI (R302). -/
def STK_TMISS_HI (k : Nat) : Fld := ⟨0x2500018 + 0x40 * k, 0, 32⟩
/-- STK_TREF (R302). -/
def STK_TREF (k : Nat) : Fld := ⟨0x250001c + 0x40 * k, 0, 32⟩
/-- STK_TSTEP_LO (R302). -/
def STK_TSTEP_LO (k : Nat) : Fld := ⟨0x2500020 + 0x40 * k, 0, 32⟩
/-- STK_TSTEP_HI (R302). -/
def STK_TSTEP_HI (k : Nat) : Fld := ⟨0x2500024 + 0x40 * k, 0, 32⟩
/-- STK_TTOUCH (R302). -/
def STK_TTOUCH (k : Nat) : Fld := ⟨0x2500028 + 0x40 * k, 0, 32⟩
/-- STK_TLOG.CELLS (R302). -/
def STK_TLOG_CELLS (k : Nat) : Fld := ⟨0x250002c + 0x40 * k, 0, 18⟩
/-- Registers of block STK, part 1. -/
def regsSTK1 : List RegSpec :=
  [⟨0x2400000, [], [⟨0, 8, .rw, .c, 64⟩, ⟨8, 8, .rw, .c, 128⟩, ⟨16, 8, .rw, .c, 32⟩, ⟨24, 8, .rw, .c, 1⟩]⟩,
   ⟨0x2400004, [], [⟨0, 9, .ro, .l, 0⟩]⟩,
   ⟨0x2400008, [], [⟨0, 32, .ro, .l, 0⟩]⟩,
   ⟨0x240000c, [], [⟨0, 8, .ro, .l, 0⟩, ⟨8, 4, .ro, .l, 0⟩, ⟨31, 1, .ro, .l, 0⟩]⟩,
   ⟨0x2500000, [(0x40, 256)], [⟨0, 4, .ro, .l, 0⟩, ⟨4, 1, .ro, .l, 0⟩, ⟨5, 1, .w1c, .l, 0⟩, ⟨6, 2, .ro, .l, 0⟩]⟩,
   ⟨0x2500004, [(0x40, 256)], [⟨0, 32, .ro, .l, 0⟩]⟩,
   ⟨0x2500008, [(0x40, 256)], [⟨0, 32, .ro, .l, 0⟩]⟩,
   ⟨0x250000c, [(0x40, 256)], [⟨0, 32, .ro, .l, 0⟩]⟩,
   ⟨0x2500010, [(0x40, 256)], [⟨0, 32, .ro, .l, 0⟩]⟩,
   ⟨0x2500014, [(0x40, 256)], [⟨0, 32, .ro, .l, 0⟩]⟩,
   ⟨0x2500018, [(0x40, 256)], [⟨0, 32, .ro, .l, 0⟩]⟩,
   ⟨0x250001c, [(0x40, 256)], [⟨0, 32, .ro, .l, 0⟩]⟩]
/-- Registers of block STK, part 2. -/
def regsSTK2 : List RegSpec :=
  [⟨0x2500020, [(0x40, 256)], [⟨0, 32, .ro, .l, 0⟩]⟩,
   ⟨0x2500024, [(0x40, 256)], [⟨0, 32, .ro, .l, 0⟩]⟩,
   ⟨0x2500028, [(0x40, 256)], [⟨0, 32, .ro, .l, 0⟩]⟩,
   ⟨0x250002c, [(0x40, 256)], [⟨0, 18, .ro, .l, 0⟩]⟩]
/-- The registers of block STK. -/
def regsSTK : List RegSpec := regsSTK1 ++ regsSTK2

/-- MEM_BCTL.EN_I (R470). -/
def MEM_BCTL_EN_I : Fld := ⟨0x2800000, 0, 1⟩
/-- MEM_BCTL.EN_H (R470). -/
def MEM_BCTL_EN_H : Fld := ⟨0x2800000, 1, 1⟩
/-- MEM_BCTL.PER_I (R470). -/
def MEM_BCTL_PER_I : Fld := ⟨0x2800000, 4, 12⟩
/-- MEM_BCTL.PER_H (R470). -/
def MEM_BCTL_PER_H : Fld := ⟨0x2800000, 16, 12⟩
/-- MEM_BSTAT.POS_I (R470). -/
def MEM_BSTAT_POS_I : Fld := ⟨0x2800004, 0, 8⟩
/-- MEM_BSTAT.POS_H (R470). -/
def MEM_BSTAT_POS_H : Fld := ⟨0x2800004, 8, 8⟩
/-- MEM_BSTAT.BEHIND_I (R470). -/
def MEM_BSTAT_BEHIND_I : Fld := ⟨0x2800004, 16, 1⟩
/-- MEM_BSTAT.BEHIND_H (R470). -/
def MEM_BSTAT_BEHIND_H : Fld := ⟨0x2800004, 17, 1⟩
/-- MEM_BPASS.PASS_I (R470). -/
def MEM_BPASS_PASS_I : Fld := ⟨0x2800008, 0, 16⟩
/-- MEM_BPASS.PASS_H (R470). -/
def MEM_BPASS_PASS_H : Fld := ⟨0x2800008, 16, 16⟩
/-- MEM_UE_INFO.MASTER (R470). -/
def MEM_UE_INFO_MASTER : Fld := ⟨0x2800010, 0, 16⟩
/-- MEM_UE_INFO.TYPE (R470). -/
def MEM_UE_INFO_TYPE : Fld := ⟨0x2800010, 16, 2⟩
/-- MEM_UE_INFO.POISON (R470). -/
def MEM_UE_INFO_POISON : Fld := ⟨0x2800010, 18, 1⟩
/-- MEM_UE_INFO.VALID (R470). -/
def MEM_UE_INFO_VALID : Fld := ⟨0x2800010, 31, 1⟩
/-- MEM_UE_ADDR_LO (R470). -/
def MEM_UE_ADDR_LO : Fld := ⟨0x2800014, 0, 32⟩
/-- MEM_UE_ADDR_HI (R470). -/
def MEM_UE_ADDR_HI : Fld := ⟨0x2800018, 0, 32⟩
/-- MEM_UE_TICK_LO (R470). -/
def MEM_UE_TICK_LO : Fld := ⟨0x280001c, 0, 32⟩
/-- MEM_UE_TICK_HI (R470). -/
def MEM_UE_TICK_HI : Fld := ⟨0x2800020, 0, 32⟩
/-- MEM_REP_SEL.STACK (R471). -/
def MEM_REP_SEL_STACK : Fld := ⟨0x2800040, 0, 3⟩
/-- MEM_REP_SEL.GROUP (R471). -/
def MEM_REP_SEL_GROUP : Fld := ⟨0x2800040, 3, 4⟩
/-- MEM_REP_SEL.PC (R471). -/
def MEM_REP_SEL_PC : Fld := ⟨0x2800040, 7, 1⟩
/-- MEM_REP_SEL.BANK (R471). -/
def MEM_REP_SEL_BANK : Fld := ⟨0x2800040, 8, 6⟩
/-- MEM_REP_SEL.INSTR (R471). -/
def MEM_REP_SEL_INSTR : Fld := ⟨0x2800040, 16, 8⟩
/-- MEM_REP_CMD.OP (R471). -/
def MEM_REP_CMD_OP : Fld := ⟨0x2800044, 0, 4⟩
/-- MEM_REP_STAT.BUSY (R471). -/
def MEM_REP_STAT_BUSY : Fld := ⟨0x2800048, 0, 1⟩
/-- MEM_REP_STAT.DONE (R471). -/
def MEM_REP_STAT_DONE : Fld := ⟨0x2800048, 1, 1⟩
/-- MEM_REP_STAT.ERR (R471). -/
def MEM_REP_STAT_ERR : Fld := ⟨0x2800048, 2, 1⟩
/-- MEM_REP_STAT.CODE (R471). -/
def MEM_REP_STAT_CODE : Fld := ⟨0x2800048, 8, 8⟩
/-- MEM_REP_STAT.SPARES (R471). -/
def MEM_REP_STAT_SPARES : Fld := ⟨0x2800048, 16, 8⟩
/-- MEM_REP_DATA (R471). -/
def MEM_REP_DATA : Fld := ⟨0x280004c, 0, 32⟩
/-- MEM_ICE (R472). -/
def MEM_ICE (k : Nat) : Fld := ⟨0x2800100 + 0x10 * k, 0, 32⟩
/-- MEM_IUE (R472). -/
def MEM_IUE (k : Nat) : Fld := ⟨0x2800104 + 0x10 * k, 0, 32⟩
/-- MEM_HCE (R472). -/
def MEM_HCE (k : Nat) : Fld := ⟨0x2800200 + 0x10 * k, 0, 32⟩
/-- MEM_HUE (R472). -/
def MEM_HUE (k : Nat) : Fld := ⟨0x2800204 + 0x10 * k, 0, 32⟩
/-- MEM_HTEMP.TEMP (R472). -/
def MEM_HTEMP_TEMP (k : Nat) : Fld := ⟨0x2800208 + 0x10 * k, 0, 8⟩
/-- MEM_HTEMP.PEAK (R472). -/
def MEM_HTEMP_PEAK (k : Nat) : Fld := ⟨0x2800208 + 0x10 * k, 8, 8⟩
/-- MEM_HSTAT.READY (R472). -/
def MEM_HSTAT_READY (k : Nat) : Fld := ⟨0x280020c + 0x10 * k, 0, 1⟩
/-- MEM_HSTAT.DOUBLE (R472). -/
def MEM_HSTAT_DOUBLE (k : Nat) : Fld := ⟨0x280020c + 0x10 * k, 1, 1⟩
/-- MEM_HSTAT.SEV (R472). -/
def MEM_HSTAT_SEV (k : Nat) : Fld := ⟨0x280020c + 0x10 * k, 8, 8⟩
/-- MEM_HSTAT.CAPAR (R472). -/
def MEM_HSTAT_CAPAR (k : Nat) : Fld := ⟨0x280020c + 0x10 * k, 16, 16⟩
/-- MEM_HLINE.LINE (R472). -/
def MEM_HLINE_LINE (k : Nat) : Fld := ⟨0x2801000 + 0x4 * k, 0, 7⟩
/-- MEM_HLINE.COUNT (R472). -/
def MEM_HLINE_COUNT (k : Nat) : Fld := ⟨0x2801000 + 0x4 * k, 16, 16⟩
/-- Registers of block MEM, part 1. -/
def regsMEM1 : List RegSpec :=
  [⟨0x2800000, [], [⟨0, 1, .rw, .l, 1⟩, ⟨1, 1, .rw, .l, 1⟩, ⟨4, 12, .rw, .l, 1200⟩, ⟨16, 12, .rw, .l, 240⟩]⟩,
   ⟨0x2800004, [], [⟨0, 8, .ro, .l, 0⟩, ⟨8, 8, .ro, .l, 0⟩, ⟨16, 1, .w1c, .l, 0⟩, ⟨17, 1, .w1c, .l, 0⟩]⟩,
   ⟨0x2800008, [], [⟨0, 16, .ro, .l, 0⟩, ⟨16, 16, .ro, .l, 0⟩]⟩,
   ⟨0x2800010, [], [⟨0, 16, .ro, .l, 0⟩, ⟨16, 2, .ro, .l, 0⟩, ⟨18, 1, .ro, .l, 0⟩, ⟨31, 1, .ro, .l, 0⟩]⟩,
   ⟨0x2800014, [], [⟨0, 32, .ro, .l, 0⟩]⟩,
   ⟨0x2800018, [], [⟨0, 32, .ro, .l, 0⟩]⟩,
   ⟨0x280001c, [], [⟨0, 32, .ro, .l, 0⟩]⟩,
   ⟨0x2800020, [], [⟨0, 32, .ro, .l, 0⟩]⟩,
   ⟨0x2800040, [], [⟨0, 3, .rw, .l, 0⟩, ⟨3, 4, .rw, .l, 0⟩, ⟨7, 1, .rw, .l, 0⟩, ⟨8, 6, .rw, .l, 0⟩, ⟨16, 8, .rw, .l, 0⟩]⟩,
   ⟨0x2800044, [], [⟨0, 4, .wo, .l, 0⟩]⟩,
   ⟨0x2800048, [], [⟨0, 1, .ro, .l, 0⟩, ⟨1, 1, .w1c, .l, 0⟩, ⟨2, 1, .w1c, .l, 0⟩, ⟨8, 8, .ro, .l, 0⟩, ⟨16, 8, .ro, .l, 0⟩]⟩,
   ⟨0x280004c, [], [⟨0, 32, .rw, .l, 0⟩]⟩]
/-- Registers of block MEM, part 2. -/
def regsMEM2 : List RegSpec :=
  [⟨0x2800100, [(0x10, 2)], [⟨0, 32, .ro, .l, 0⟩]⟩,
   ⟨0x2800104, [(0x10, 2)], [⟨0, 32, .ro, .l, 0⟩]⟩,
   ⟨0x2800200, [(0x10, 8)], [⟨0, 32, .ro, .l, 0⟩]⟩,
   ⟨0x2800204, [(0x10, 8)], [⟨0, 32, .ro, .l, 0⟩]⟩,
   ⟨0x2800208, [(0x10, 8)], [⟨0, 8, .ro, .l, 0⟩, ⟨8, 8, .ro, .l, 0⟩]⟩,
   ⟨0x280020c, [(0x10, 8)], [⟨0, 1, .ro, .l, 0⟩, ⟨1, 1, .ro, .l, 0⟩, ⟨8, 8, .ro, .l, 0⟩, ⟨16, 16, .ro, .l, 0⟩]⟩,
   ⟨0x2801000, [(0x4, 128)], [⟨0, 7, .ro, .l, 0⟩, ⟨16, 16, .ro, .l, 0⟩]⟩]
/-- The registers of block MEM. -/
def regsMEM : List RegSpec := regsMEM1 ++ regsMEM2

end Sys2Proof.Machine
end

