-- ==== Sys2Proof/Machine/Regs.lean ====
section
/-! DEFINITION. The register map: which register an address names (R605 to R607) and its reset word (R12). -/

namespace Sys2Proof.Machine

/-- The registers of the block that address `a` lies in (R605). -/
def blockRegs (a : Nat) : List RegSpec :=
  if a < 0x40000 then regsMGT
  else if a < 0x80000 then regsPWR
  else if a < 0xC0000 then regsTG
  else if a < 0x100000 then regsCST
  else if a < 0x140000 then regsFLT
  else if a < 0x180000 then regsSEC
  else if a < 0x1C0000 then regsDET
  else if a < 0x200000 then regsTM
  else if a < 0x400000 then regsLN
  else if a < 0x800000 then regsLK
  else if a < 0xC00000 then regsSWBP
  else if a < 0x1000000 then regsRT
  else if a < 0x1400000 then regsGT
  else if a < 0x1800000 then regsCRU
  else if a < 0x2000000 then regsMIL
  else if a < 0x2400000 then regsNUM
  else if a < 0x2800000 then regsSTK
  else regsMEM

/-- The register at byte address `a`, if one is there (R607). -/
def findReg (a : Nat) : Option RegSpec := (blockRegs a).find? (fun r => r.hits a)

/-- Reset words that differ between instances of one group: SW_QMIN[0] = 16 and SW_QMAX[0] = 65,536 (R391),
TM_CFG.POLY = 2 for units 640 and above (R474), and every domain but PD49 Off before the power-on sequence
(DEDUCED, log 7; R600). -/
def instanceReset (a : Nat) : Nat :=
  if a = 0x800800 then 16
  else if a = 0x800804 then 65536
  else if 0x1C1000 + 0x20 * 640 ≤ a ∧ a < 0x1C1000 + 0x20 * 768 ∧ a % 0x20 = 0 then 4
  else if 0x40200 ≤ a ∧ a < 0x40200 + 4 * 49 ∧ a % 4 = 0 then 2
  else 0

/-- What the register word at `a` holds after power-on reset (R12); 0 where no register is (R607). -/
def regReset (a : Nat) : Word :=
  match findReg a with
  | none => 0
  | some r => BitVec.ofNat 32 (r.resetWord + instanceReset a)

end Sys2Proof.Machine
end

