-- ==== Sys2Proof/Machine/Sparse.lean ====
section
/-! DEFINITION. Sparse maps: plain lists of (key, value) in ONE canonical form, keys strictly rising and no
entry equal to what an unlisted key reads as. Memory, the register file and every large indexed group of
state use them, so equal contents are equal data. -/

namespace Sys2Proof.Machine

/-- What key `k` holds: its entry, or the default `d k` where none is listed. -/
def Sparse.get {α : Type} (d : Nat → α) : List (Nat × α) → Nat → α
  | [], k => d k
  | e :: m, k => if e.1 = k then e.2 else Sparse.get d m k

/-- Put an entry for `k`, keeping the keys in rising order. -/
def Sparse.put {α : Type} : List (Nat × α) → Nat → α → List (Nat × α)
  | [], k, v => [(k, v)]
  | e :: m, k, v =>
    if e.1 = k then (k, v) :: m
    else if k < e.1 then (k, v) :: e :: m
    else e :: Sparse.put m k v

/-- Remove every entry of key `k`. -/
def Sparse.del {α : Type} : List (Nat × α) → Nat → List (Nat × α)
  | [], _ => []
  | e :: m, k => if e.1 = k then Sparse.del m k else e :: Sparse.del m k

/-- Write `v` at `k`: writing the default removes the entry, which keeps the form canonical. -/
def Sparse.set {α : Type} [DecidableEq α] (d : Nat → α) (m : List (Nat × α)) (k : Nat) (v : α) :
    List (Nat × α) :=
  if v = d k then Sparse.del m k else Sparse.put m k v

/-- Every key of the list is above `k`. -/
def Sparse.above {α : Type} (k : Nat) : List (Nat × α) → Bool
  | [] => true
  | e :: m => decide (k < e.1) && Sparse.above k m

/-- The canonical form: keys strictly rising, and no entry equal to the default of its key. -/
def Sparse.wf {α : Type} [DecidableEq α] (d : Nat → α) : List (Nat × α) → Bool
  | [] => true
  | e :: m => decide (e.2 ≠ d e.1) && Sparse.above e.1 m && Sparse.wf d m

/-- Write a list of values at consecutive keys from `k` on. -/
def Sparse.setList {α : Type} [DecidableEq α] (d : Nat → α) :
    List (Nat × α) → Nat → List α → List (Nat × α)
  | m, _, [] => m
  | m, k, v :: vs => Sparse.setList d (Sparse.set d m k v) (k + 1) vs

end Sys2Proof.Machine
end

