-- ==== Sys2Proof/Machine/TypesCore.lean ====
section
/-! DEFINITION. The node-wide pieces of state that are no register fields: the Casting and its staging, the time grid, the
collector, the hallmark chain, management, power, and what leaves the node. -/

namespace Sys2Proof.Machine

/-- What the node sends or drives outside, in the order in which it does (the model's record of its outputs, log 8). -/
inductive Out where
  /-- An MSI-X message of a host port (R524, R563). -/
  | msix (port vector : Nat)
  /-- A DMA write to host memory (R556). -/
  | dma (port addr : Nat) (data : List Byte)
  /-- A register or memory read answered on a path (R7, R564, R566). -/
  | read (path : Path) (addr value : Nat)
  /-- A completer abort on a host port (R564). -/
  | abort (port : Nat)
  /-- A control symbol sent on a port: its type code and its 14 body bytes (R335). -/
  | symbol (port kind : Nat) (body : List Byte)
  /-- A flit sent on a port: virtual channel, header bytes, payload, and whether it was sent stomped (R331, R478). -/
  | flit (port vc : Nat) (header payload : List Byte) (stomped : Bool)
  /-- A slot sent with no flit (R330). -/
  | idle (port : Nat)
  /-- Codewords sent on a port with check symbols inverted by an injection (R528): how many, and FLT_INJ.SYM. -/
  | codewords (port count sym : Nat)
  /-- A TOD_OUT frame (R92). -/
  | tod (frame : List Byte)
  /-- A boundary of the link bring-up: MARK, START and pattern words (R346). -/
  | word (port kind : Nat)
  /-- An IEEE 1500 access of a stack (R467): stack, instruction, data. -/
  | repair (stack instr data : Nat)
  /-- Data handed to an endpoint or unit outside the model's memory: descriptor, member, chunk, data (R233, R291). -/
  | result (unit dest : Nat) (data : List Byte)
deriving DecidableEq, Repr

/-- The damage of a stored word or block (R456): symbols that differ from the codeword, every check symbol inverted
(R528), or the poison word. -/
inductive WordErr where
  | symbols (l : List Nat)
  | allCheck
  | poison
deriving DecidableEq, Repr

/-- A pending host S-class write: address, the bits it covers, their value, the tick of its acceptance (R71). -/
structure SWrite where
  addr : Nat
  mask : Nat
  value : Nat
  tick : Nat
deriving DecidableEq, Repr

/-- Staging and Casting (02). -/
structure CstState where
  /-- The image of the Casting in force; empty while uncast (R45). -/
  img : List Byte
  /-- The bytes in the staging area, as read (R53, R60). -/
  staged : List Byte
  /-- CST_SRC and CST_LEN as latched by the LOAD, and the port it fetches over (R59). -/
  src : Nat
  len : Nat
  port : Path
  /-- The load came from LOAD_COMMIT (R55). -/
  autoCommit : Bool
  /-- Pending host S-class writes in the order of acceptance (R71). -/
  spend : List SWrite
  /-- Tick at which the node entered DRAINING (R64). -/
  drainStart : Nat
  /-- The drain in progress has passed its seam: no further epoch is scheduled (R63). -/
  seamDone : Bool
  /-- Held low words of 64-bit RW values, per path:
  register address, value, tick (R609). -/
  heldLow : List (Path × Nat × Nat × Nat)
  /-- High words captured by a read of the low word, per host port and the board controller: register address and
  copy (R8, R565). -/
  heldHigh : List (Path × Nat × Nat)
deriving DecidableEq, Repr

/-- A READY kept for a sending node: its coordinate code, the port it arrived on, its digest (R93). -/
structure Ready where
  node : Nat
  port : Nat
  dig : Nat
deriving DecidableEq, Repr

/-- What leaves a unit when its release gate opens (R103). -/
inductive GateAct where
  /-- A Bench's ST: the writes it holds, and its bundle and slot (R188, R203). -/
  | store (writes : List (Nat × List Byte)) (bundle slot : Nat)
  /-- A Bench's POST: its counter, and its bundle and slot (R197, R203). -/
  | post (ctr bundle slot : Nat)
deriving DecidableEq, Repr

/-- A result held at a release gate: the unit as TG_LATE_UNIT codes it, release tick, the tick at which it became
ready, whether its overdue step was reported (R103, R107). -/
structure Gate where
  kind : Nat
  unit : Nat
  rel : Nat
  ready : Nat
  act : GateAct
deriving DecidableEq, Repr

/-- The time grid (03). -/
structure TgState where
  /-- Consecutive barrier words with an offset within 0.25 tick (R81). -/
  lockRun : Nat
  /-- The root's PPS phase and TAI seconds as this node knows them (R84, R87). -/
  phase : Option Nat
  tai : Option Nat
  /-- Tick of the last PPS_IN edge (R87). -/
  ppsEdge : Option Nat
  /-- PPS_OUT is high since this tick (R91). -/
  ppsHigh : Option Nat
  /-- The tick of the PPS_OUT pulse whose TOD frame is still to be sent (R92). -/
  todDue : Option Nat
  /-- READY events kept (R93). -/
  readies : List Ready
  /-- This node has sent READY for the barrier in progress (R95). -/
  sentReady : Bool
  /-- An ignored START was already reported since the apply (R95). -/
  ignoredNoted : Bool
  /-- The start tick, once known (R93, R98). -/
  start : Option Nat
  /-- A held job waits for the barrier that CONTINUE began (R498). -/
  continuing : Bool
  /-- The scheduled tick of the seam that ends the current epoch is TG_NEXT; the tick at which the current epoch's
  schedule began (R99). -/
  epochStart : Nat
  /-- Results held at release gates (R103). -/
  gates : List Gate
  /-- Units whose overdue step was raised: kind, unit, release tick (R107). -/
  overdue : List (Nat × Nat × Nat)
  /-- An offset beyond 16 ticks was already reported (R86). -/
  offLost : Bool
  /-- Last release of the current epoch, scheduled or seen (R100). -/
  lastRelease : Nat
  /-- The time root that the last Casting applied named, as a coordinate code (R37), and whether it follows PPS_IN (R41, R87). -/
  root : Option Nat
  pps : Bool
deriving DecidableEq, Repr

/-- The instructions of the test port: those of IEEE 1149.1 that the spec names, those of the IEEE 1500 core wrappers, any other (R19). -/
inductive TapInstr where
  | bypass | idcode | sample | extest
  | wrapper (code : Nat)
  | other (code : Nat)
deriving DecidableEq, Repr

/-- The ERR_N pin's state (R523). -/
inductive ErrnState where
  | idle
  | pulse (since : Nat)
  | gap (since : Nat) (pending : Bool)
deriving DecidableEq, Repr

/-- A fault within whose 256 ticks reports merge (R514). -/
structure Recent where
  cls : FClass
  code : Nat
  addr : Nat
  tick : Nat
deriving DecidableEq, Repr

/-- The collector (18). -/
structure FltState where
  /-- Reports that checkers have flagged and the collector has not taken (R513). -/
  reports : List Report
  recent : List Recent
  errn : ErrnState
  /-- The capture (class, code) that caused the quench of the job in force (R521). -/
  quenchBy : Option (FClass × Nat)
deriving DecidableEq, Repr

/-- One hallmark record that waits for the chain, without PREV (R552). -/
structure HRec where
  tick : Nat
  ty : Nat
  cont : Nat
  flags : Nat
  body : List Byte
deriving DecidableEq, Repr

/-- The records of one event, contiguous in the chain (R554), with its order within one tick. -/
structure HGroup where
  tick : Nat
  key : Nat
  recs : List HRec
deriving DecidableEq, Repr

/-- Repeated refusals of one master, target and access type (R550). -/
structure DenyWin where
  kind : Nat
  idx : Nat
  target : Nat
  acc : Nat
  first : Nat
  count : Nat
  addr : Nat
  len : Nat
deriving DecidableEq, Repr

/-- A key command in progress (R544): its operation, the path that fetches it, the host address of the block. -/
structure KeyCmd where
  op : Nat
  path : Path
  src : Nat
deriving DecidableEq, Repr

/-- Keys, guild refusals and the hallmark chain (19). -/
structure SecState where
  /-- The key block in force; empty when none (R543). -/
  keyBlock : List Byte
  /-- Fused digests: owner key and firmware key (R540). -/
  ownerDig : List Byte
  fwKeyDig : List Byte
  /-- The firmware key itself, X ‖ Y; the spec does not say where the node finds it (R540, R541; DESIGN CHOICE, log 37). -/
  fwKey : List Byte
  keyCmd : Option KeyCmd
  /-- An attestation runs (R559). -/
  attest : Bool
  deny : List DenyWin
  /-- Events waiting for the chain engine, in order (R554). -/
  wait : List HGroup
  /-- Tick at which the engine last accepted a record (R554). -/
  lastCommit : Option Nat
  /-- Records in the export queue (R556), 64 bytes each. -/
  queue : List (List Byte)
  /-- First lost record and their number, while the queue is full (R557). -/
  lost : Option (Nat × Nat)
  /-- Unread records at which the watermark was last signalled (R556). -/
  marked : Bool
  /-- A clear in progress: base, cells (R551). -/
  clear : Option (Nat × Nat)
deriving DecidableEq, Repr

/-- A flash command in progress (R583). -/
structure FlashCmd where
  op : Nat
  addr : Nat
  /-- The page to program, as MGT_FL_BUF held it. -/
  data : List Byte
deriving DecidableEq, Repr

/-- Management, boot and monitors (20). -/
structure MgtState where
  /-- The boot flash, sparse over erased bytes (R569). -/
  flash : List Host.Cell
  flashCmd : Option FlashCmd
  /-- Conditions of R574 in force, as (row, monitor). -/
  overT : List (Nat × Nat)
  /-- Per die M0 to M3, S0, S1: tick of its last throttle step, and tick since which its largest step has a cause. -/
  lastStep : List Nat
  maxSince : List (Option Nat)
  /-- Tick since which no reading of the die kept it from stepping up (R577). -/
  calmSince : List (Option Nat)
  /-- A downward step was already reported since the apply (R578). -/
  throttled : Bool
  /-- RST_N is low since this tick (R620). -/
  rstLow : Option Nat
  /-- The node is held in warm reset (R620). -/
  held : Bool
  /-- A boot is in progress (R571), and whether it follows a warm reset. -/
  booting : Bool
  warm : Bool
  /-- The boot in progress brings the domains On and trains memory: one from power-on, or after a boot that did not get so far
  (R571, R572, R600). -/
  train : Bool
  /-- The enabled-Hall mask before the fuses of this boot were read (R156). -/
  maskWas : Nat
deriving DecidableEq, Repr

/-- A domain transition (R595, R597): domain, state to enter, cause, and the tick it began once it did. -/
structure Trans where
  dom : Nat
  target : Nat
  cause : Nat
  start : Option Nat
deriving DecidableEq, Repr

/-- Power domains (21). -/
structure PwrState where
  /-- Transitions waiting or running, in the order in which they were asked. -/
  trans : List Trans
  /-- On power increases of the transitions to On that began: tick and tenths of a watt (R596). -/
  starts : List (Nat × Nat)
  /-- Domains turned Off by a fault (R602). -/
  faulted : List Nat
  /-- The input is above the lockout threshold (R600). -/
  input : Bool
deriving DecidableEq, Repr

/-- Sums, record and replay (17). -/
structure DetState where
  /-- Input and output sum of the current epoch (R492). -/
  insum : Nat
  outsum : Nat
  /-- Place of the next log entry, in bytes past the head (R502). -/
  pos : Nat
  /-- Entries lost since the last one written, with the seam count when the first was; and whether a gap was already reported (R504). -/
  gap : Option (Nat × Nat)
  gapNoted : Bool
  /-- The log was full and recording has stopped (R504). -/
  logDone : Bool
  /-- Ports whose comparison stopped, and how far the comparison of each port has read (R507). -/
  stopped : List Nat
  vpos : List (Nat × Nat)
  /-- Start tick minus the scheduled tick of the marker that replay starts from, and T (R505). -/
  shift : Option (Nat × Nat)
deriving DecidableEq, Repr

/-- Memory that holds no defined contents until it is written: a symbol of every word of an HBM group that a repair moved, or the
whole group (symbol 64; R469), or addresses of the Ingot that were pooled (R393); and the free counter when it became so. -/
structure Undef where
  group : Option (Nat × Nat)
  lo : Nat
  hi : Nat
  free : Nat
deriving DecidableEq, Repr

/-- Burnish and repair (15). -/
structure MemState where
  /-- Start ticks of the Ingot and HBM passes (R460). -/
  passI : Nat
  passH : Nat
  /-- Their periods in seconds, as latched when each began (R470). -/
  perI : Nat
  perH : Nat
  /-- A repair in progress: operation, MEM_REP_SEL and MEM_REP_DATA as latched (R467). -/
  repair : Option (Nat × Nat × Nat)
  /-- Lines moved to a spare: group and symbol (R467). -/
  remapped : List (Nat × Nat)
  /-- Rows repaired: group, pseudo-channel and bank code, row, and whether for good (R467). -/
  rows : List (Nat × Nat × Nat × Bool)
  /-- What holds no defined contents (R393, R469), last one first. -/
  undef : List Undef
  /-- The number that the controller gives the next access of each stream of each HBM group, and the one that the group's unit expects
  (R480): 5 × G + the stream, of Stock, Mill, replay, Burnish and staging. -/
  seq : List (Nat × Nat)
  alive : List (Nat × Nat)
  /-- Addressed cells of the Ingot, by first address, whose stored check does not match them (R475, R528). -/
  badChk : List Nat
deriving DecidableEq, Repr

end Sys2Proof.Machine
end

