-- ==== Sys2Proof/Config.lean ====
section
/-! DEFINITION. What one part or one run fixes and the spec leaves open: the free values. None of these constants has
a body, so nothing can be proved of their values: a claim about the machine holds whatever they are. -/

namespace Sys2Proof

/-- A free natural number for each value of the state's free counter (log 3): the contents the spec calls
undefined, applied where they arise. DESIGN CHOICE (the form; the value is free). -/
opaque Config.freeNat : Nat → Nat

/-- Whether fusedMultiplyAdd(0, infinity, quiet NaN) sets S_INVALID: IEEE 754-2019 leaves it to the
implementation and R137 says nothing of it (log 3). -/
opaque Config.fmaZeroInfNan : Bool

/-- The scale byte of a scaled block whose exponent exceeds 128, so that s + 127 is no byte (R120; log 3), by that exponent. -/
opaque Config.scaleTooHigh : Int → Nat

/-- The message that results when a word with three or more bad symbols is miscorrected (R456; log 3), by address and
the free counter: the byte it shows. -/
opaque Config.miscorrect : Nat → Nat → Byte

/-- What a byte of memory holds after a repair moved its line or its row (R469), or after its cell left the pooled region (R393),
until it is written (log 3), by address and the free counter. -/
opaque Config.undefByte : Nat → Nat → Byte

/-- What a read past the end of a bench store finds, by byte address (log 3). -/
opaque Config.pastStore : Nat → Byte

/-- What the bench-store cells that a Temper stage, a table update or a projection uses hold after its work (R262: a stream access
to them is a race whose bits are undefined; log 3), by byte and the free counter. -/
opaque Config.stageCell : Nat → Nat → Byte

/-- Bytes of the staged Casting that an apply in progress has applied, by tick (R58): the spec gives no pace (log 80). -/
opaque Config.appliedBytes : Nat → Nat

/-- Which of the Mandrels that the Casting sets toward another node takes flit `i` of a slice or a segment (R236, R246; log 20): by the
collective, where it goes and `i`. -/
opaque Config.stepMandrel : Nat → Nat → Nat → Nat

/-- The words of a signature under the device key, whose private part no one can read (R540, R559; log 3): by the digest signed, the
free counter and the word's number. -/
opaque Config.deviceSign : List Byte → Nat → Nat → Nat

/-- The reset value of a voltage window, which the configuration record in the boot flash gives in a layout that the spec does not
give (R569, R582; log 3): by the record and the monitor. -/
opaque Config.windowOf : List Byte → Nat → Nat

end Sys2Proof
end

