-- ==== Sys2Proof/Machine/Num.lean ====
section
/-! DEFINITION. Number formats (R112 to R116), exact values, rounding, and the conversions of R120, R130, R135 and R630. -/

namespace Sys2Proof.Machine

/-- The element formats (R112). -/
inductive Fmt where
  | int4 | int8 | e2m1 | e4m3 | e5m2 | bf16 | fp16 | fp32 | ai24 | ai40 | ai56 | int32 | int64
deriving DecidableEq, Repr

/-- The format a 4-bit code names; 0xD to 0xF are reserved (R112). -/
def Fmt.ofCode (c : Nat) : Option Fmt :=
  match c with
  | 0 => some .int4 | 1 => some .int8 | 2 => some .e2m1 | 3 => some .e4m3 | 4 => some .e5m2
  | 5 => some .bf16 | 6 => some .fp16 | 7 => some .fp32 | 8 => some .ai24 | 9 => some .ai40
  | 10 => some .ai56 | 11 => some .int32 | 12 => some .int64 | _ => none

/-- Bits of one element in memory (R112, R133). -/
def Fmt.bits (f : Fmt) : Nat :=
  match f with
  | .int4 | .e2m1 => 4
  | .int8 | .e4m3 | .e5m2 => 8
  | .bf16 | .fp16 => 16
  | .fp32 | .int32 => 32
  | .ai24 => 48
  | .ai40 | .int64 => 64
  | .ai56 => 80

/-- What specials a floating-point format has (R115). -/
inductive Specials where
  | ieee | nanOnly | none
deriving DecidableEq, Repr

/-- The layout of a floating-point format (R113, R115). `maxCode` is the code of the largest finite magnitude. -/
structure FltFmt where
  frac : Nat
  expo : Nat
  bias : Nat
  kind : Specials
  maxCode : Nat
  nanCode : Nat
deriving DecidableEq, Repr

/-- Layouts of R113; canonical NaNs of R115. -/
def Fmt.flt (f : Fmt) : Option FltFmt :=
  match f with
  | .e2m1 => some ⟨1, 2, 1, .none, 0x7, 0⟩
  | .e4m3 => some ⟨3, 4, 7, .nanOnly, 0x7E, 0x7F⟩
  | .e5m2 => some ⟨2, 5, 15, .ieee, 0x7B, 0x7E⟩
  | .bf16 => some ⟨7, 8, 127, .ieee, 0x7F7F, 0x7FC0⟩
  | .fp16 => some ⟨10, 5, 15, .ieee, 0x7BFF, 0x7E00⟩
  | .fp32 => some ⟨23, 8, 127, .ieee, 0x7F7FFFFF, 0x7FC00000⟩
  | _ => Option.none

/-- Whether the format is one of the aligned-integer forms (R133). -/
def Fmt.isAi (f : Fmt) : Bool := f == .ai24 || f == .ai40 || f == .ai56

/-- Width w of the value field of an aligned-integer form (R133). -/
def Fmt.aiWidth (f : Fmt) : Nat :=
  match f with | .ai24 => 24 | .ai40 => 40 | .ai56 => 56 | _ => 0

/-- An exact value: (-1)^neg * mag * 2^exp, an infinity, or a NaN (signaling or not). -/
inductive Num where
  | fin (neg : Bool) (mag : Nat) (exp : Int)
  | inf (neg : Bool)
  | nan (signaling : Bool)
deriving DecidableEq, Repr

/-- Two's-complement value of the low `b` bits. -/
def sext (b : Nat) (v : Nat) : Int :=
  let u := v % 2 ^ b
  if u < 2 ^ (b - 1) then (u : Int) else (u : Int) - 2 ^ b

/-- The low `b` bits of an integer, as a number. -/
def toBits (b : Nat) (v : Int) : Nat := (v % (2 ^ b : Int)).toNat

/-- An integer as an exact value with exponent `e`. -/
def Num.ofInt (v : Int) (e : Int) : Num := .fin (v < 0) v.natAbs e

/-- The value a float code stands for (R113, R115). -/
def FltFmt.decode (p : FltFmt) (c : Nat) : Num :=
  let neg := c / 2 ^ (p.frac + p.expo) % 2 == 1
  let mag := c % 2 ^ (p.frac + p.expo)
  let e := mag / 2 ^ p.frac
  let f := mag % 2 ^ p.frac
  if p.kind == .ieee && e == 2 ^ p.expo - 1 then
    if f = 0 then .inf neg else .nan (f < 2 ^ (p.frac - 1))
  else if p.kind == .nanOnly && mag == p.nanCode then .nan false
  else if e = 0 then .fin neg f (1 - p.bias - p.frac)
  else .fin neg (2 ^ p.frac + f) (e - p.bias - p.frac)

/-- The value an element code stands for (R113 to R115); the container of an aligned integer is its integer. -/
def Fmt.decode (f : Fmt) (c : Nat) : Num :=
  match f.flt with
  | some p => p.decode c
  | Option.none => Num.ofInt (sext f.bits c) 0

/-- Rounding directions (R141). -/
inductive Rm where
  | rne | rtz | rup | rdn
deriving DecidableEq, Repr

/-- STRICT_RM codes (R141). -/
def Rm.ofCode (c : Nat) : Rm := match c with | 0 => .rne | 1 => .rtz | 2 => .rup | _ => .rdn

/-- `m / 2^k` rounded, and whether it was inexact. -/
def roundQ (rm : Rm) (neg : Bool) (m k : Nat) : Nat × Bool :=
  let q := m / 2 ^ k
  let r := m % 2 ^ k
  let up := match rm with
    | .rne => decide (2 * r > 2 ^ k) || (2 * r == 2 ^ k && q % 2 == 1)
    | .rtz => false
    | .rup => !neg && r != 0
    | .rdn => neg && r != 0
  (if up then q + 1 else q, r != 0)

/-- `m * 2^e` as a count of `2^q`, rounded. -/
def roundGrid (rm : Rm) (neg : Bool) (m : Nat) (e q : Int) : Nat × Bool :=
  if q ≤ e then (m * 2 ^ (e - q).toNat, false) else roundQ rm neg m (q - e).toNat

/-- Exponent of the leading bit of a non-zero magnitude `m * 2^e`. -/
def leadExp (m : Nat) (e : Int) : Int := (Nat.log2 m : Int) + e

/-- What rounding a finite magnitude to a float format gives: the code without its sign (past `maxCode` when it
overflows), whether it was inexact, and whether it is tiny after rounding (R136). -/
structure Rounded where
  code : Nat
  inexact : Bool
  tiny : Bool

/-- Round a non-zero magnitude to the format, with an exponent unbounded above. -/
def FltFmt.round (p : FltFmt) (rm : Rm) (neg : Bool) (m : Nat) (e : Int) : Rounded :=
  let emin : Int := 1 - p.bias
  let k := leadExp m e
  let q := max k emin - p.frac
  let (n, ix) := roundGrid rm neg m e q
  let (t, _) := roundGrid rm neg m e (k - p.frac)
  { code := ((q + p.frac + p.bias) * 2 ^ p.frac + (n : Int) - 2 ^ p.frac).toNat
    inexact := ix
    tiny := decide (k < emin) && !(decide (k + 1 = emin) && t == 2 ^ (p.frac + 1)) }

/-- The sign bit of a float format's code. -/
def FltFmt.signed (p : FltFmt) (neg : Bool) (c : Nat) : Nat := if neg then 2 ^ (p.frac + p.expo) + c else c

/-- The code of the infinity of a format that has one. -/
def FltFmt.infCode (p : FltFmt) : Nat := (2 ^ p.expo - 1) * 2 ^ p.frac

/-- Sticky flags in the bit order of R142. -/
abbrev Flags := BitVec 10

def tInvalid : Flags := 1
def tOverflow : Flags := 2
def tSaturate : Flags := 4
def tFlush : Flags := 8
def aiNan : Flags := 16
def sInvalid : Flags := 32
def sDivZero : Flags := 64
def sOverflow : Flags := 128
def sUnderflow : Flags := 256
def sInexact : Flags := 512

/-- The numeric policy a conversion reads (R141). -/
structure NumPolicy where
  ovf : Bool
  subn : Bool
  rm : Rm
deriving DecidableEq, Repr

/-- A finite overflow on conversion to a float format (R130). -/
def FltFmt.tensorOverflow (p : FltFmt) (pol : NumPolicy) (neg : Bool) : Nat × Flags :=
  if pol.ovf && p.kind != .none then
    if p.kind == .ieee then (p.signed neg p.infCode, tOverflow) else (p.nanCode, tOverflow)
  else (p.signed neg p.maxCode, tSaturate)

/-- Conversion of a value to a float format on the tensor path (R130); a zero result is +0 (DEDUCED, log 5). -/
def FltFmt.ofNum (p : FltFmt) (pol : NumPolicy) (v : Num) : Nat × Flags :=
  match v with
  | .nan _ => if p.kind == .none then (0, tInvalid) else (p.nanCode, 0)
  | .inf neg => if p.kind == .ieee then (p.signed neg p.infCode, 0) else p.tensorOverflow pol neg
  | .fin neg m e =>
    if m = 0 then (0, 0)
    else
      let r := p.round .rne neg m e
      if p.maxCode < r.code then p.tensorOverflow pol neg
      else if r.code = 0 then (0, 0)
      else if pol.subn && r.code < 2 ^ p.frac then (0, tFlush)
      else (p.signed neg r.code, 0)

/-- Saturation of an integer to `b` bits (R114, R130). -/
def satInt (b : Nat) (v : Int) : Int × Bool :=
  if v < -(2 ^ (b - 1) : Int) then (-(2 ^ (b - 1)), true)
  else if (2 ^ (b - 1) : Int) ≤ v then (2 ^ (b - 1) - 1, true) else (v, false)

/-- A magnitude rounded to an integer, with its sign. -/
def roundInt (rm : Rm) (neg : Bool) (m : Nat) (e : Int) : Int × Bool :=
  let (n, ix) := roundGrid rm neg m e 0
  (if neg then -(n : Int) else n, ix)

/-- Conversion of a value to an integer of `b` bits on the tensor path (R130). -/
def intOfNum (b : Nat) (v : Num) : Nat × Flags :=
  match v with
  | .nan _ => (0, tInvalid)
  | .inf neg => (toBits b (if neg then -(2 ^ (b - 1)) else 2 ^ (b - 1) - 1), tSaturate)
  | .fin neg m e =>
    let (n, s) := satInt b (roundInt .rne neg m e).1
    (toBits b n, if s then tSaturate else 0)

/-- Conversion of a value to any format on the tensor path, SHIFT apart (R130). -/
def Fmt.ofNum (f : Fmt) (pol : NumPolicy) (v : Num) : Nat × Flags :=
  match f.flt with
  | some p => p.ofNum pol v
  | Option.none => intOfNum f.bits v

/-- Overflow of a strict rounding (IEEE 754-2019 7.4; R630 for the formats without infinities). -/
def FltFmt.strictOverflow (p : FltFmt) (rm : Rm) (neg : Bool) : Nat × Flags :=
  let toInf := match rm with | .rne => true | .rtz => false | .rup => !neg | .rdn => neg
  (p.signed neg (if toInf && p.kind == .ieee then p.infCode else p.maxCode), sOverflow ||| sInexact)

/-- A non-zero exact magnitude rounded to the format under a strict rounding direction, with its flags (R136). -/
def FltFmt.strictRound (p : FltFmt) (rm : Rm) (neg : Bool) (m : Nat) (e : Int) : Nat × Flags :=
  let r := p.round rm neg m e
  if p.maxCode < r.code then p.strictOverflow rm neg
  else (p.signed neg r.code, if r.inexact then (if r.tiny then sInexact ||| sUnderflow else sInexact) else 0)

/-- A strict conversion of a value to a format (R630). -/
def Fmt.strictOfNum (f : Fmt) (rm : Rm) (v : Num) : Nat × Flags :=
  match f.flt with
  | some p =>
    match v with
    | .nan sig => if p.kind == .none then (0, sInvalid) else (p.nanCode, if sig then sInvalid else 0)
    | .inf neg =>
      match p.kind with
      | .ieee => (p.signed neg p.infCode, 0)
      | .nanOnly => (p.nanCode, sInvalid)
      | .none => (p.signed neg p.maxCode, sInvalid)
    | .fin neg m e => if m = 0 then (p.signed neg 0, 0) else p.strictRound rm neg m e
  | Option.none =>
    let b := f.bits
    match v with
    | .nan _ => (0, sInvalid)
    | .inf neg => (toBits b (if neg then -(2 ^ (b - 1)) else 2 ^ (b - 1) - 1), sInvalid)
    | .fin neg m e =>
      let (n, ix) := roundInt rm neg m e
      let (n2, sat) := satInt b n
      (toBits b n2, if sat then sInvalid else if ix then sInexact else 0)

/-- An exact dyadic number `m * 2^e`. -/
structure Dy where
  m : Int
  e : Int
deriving DecidableEq, Repr

/-- Exact sum. -/
def Dy.add (x y : Dy) : Dy :=
  let q := min x.e y.e
  ⟨x.m * 2 ^ (x.e - q).toNat + y.m * 2 ^ (y.e - q).toNat, q⟩

/-- A dyadic number as a value. -/
def Dy.num (x : Dy) : Num := Num.ofInt x.m x.e

/-- `m * 2^e` truncated toward zero to a count of `2^q`. -/
def truncGrid (m : Int) (e q : Int) : Int :=
  if q ≤ e then m * 2 ^ (e - q).toNat else Int.tdiv m (2 ^ (q - e).toNat)

/-- The scale of an E8M0 byte as an exponent; 0xFF is a NaN (R117). -/
def scaleExp (b : Nat) : Option Int := if b = 0xFF then Option.none else some ((b : Int) - 127)

/-- A value times 2^s. -/
def Num.scale (v : Num) (s : Int) : Num :=
  match v with | .fin n m e => .fin n m (e + s) | x => x

/-- An element with the scale byte of its block (R121, R129). -/
def Num.withScale (v : Num) (b : Option Nat) : Num :=
  match b with
  | Option.none => v
  | some b => match scaleExp b with | Option.none => .nan false | some s => v.scale s

/-- Whether `m * 2^e ≤ k * 2^j` for magnitudes. -/
def magLe (m : Nat) (e : Int) (k : Nat) (j : Int) : Bool :=
  let q := min e j
  decide (m * 2 ^ (e - q).toNat ≤ k * 2 ^ (j - q).toNat)

/-- The larger of two magnitudes. -/
def magMax (x y : Nat × Int) : Nat × Int := if magLe x.1 x.2 y.1 y.2 then y else x

/-- maxfin of R120 as a magnitude: the largest finite value, 7 for INT4, 127 for INT8. -/
def Fmt.maxFin (f : Fmt) : Nat × Int :=
  match f.flt with
  | some p => match p.decode p.maxCode with | .fin _ m e => (m, e) | _ => (0, 0)
  | Option.none => (2 ^ (f.bits - 1) - 1, 0)

/-- The smallest integer s with `m * 2^e / 2^s ≤ maxfin` (R120). -/
def scaleFor (m : Nat) (e : Int) (mx : Nat × Int) : Int :=
  let s0 := leadExp m e - leadExp mx.1 mx.2
  if magLe m (e - s0) mx.1 mx.2 then s0 else s0 + 1

/-- One scaled block (R120): its scale byte, its elements' codes and its flags. -/
def scaleBlock (f : Fmt) (vs : List Num) : Nat × List Nat × Flags :=
  if vs.any (fun v => match v with | .fin _ _ _ => false | _ => true) then
    (0xFF, vs.map (fun _ => 0), tInvalid)
  else
    let mx := vs.foldl (fun a v => match v with | .fin _ m e => magMax a (m, e) | _ => a) (0, 0)
    if mx.1 = 0 then (127, vs.map (fun _ => 0), 0)
    else
      let s := max (scaleFor mx.1 mx.2 f.maxFin) (-127)
      let byte := if s ≤ 128 then (s + 127).toNat else Config.scaleTooHigh s % 256
      (byte, vs.map (fun v => (f.ofNum ⟨false, false, .rne⟩ (v.scale (-s))).1), 0)

/-- Codes of `n` elements at the start of a byte list (R116). -/
def unpackElems (f : Fmt) (bs : List Byte) (n : Nat) : List Nat :=
  (List.range n).map (fun i =>
    if f.bits = 4 then leAt bs (i / 2) 1 / 16 ^ (i % 2) % 16 else leAt bs (i * (f.bits / 8)) (f.bits / 8))

/-- Bytes of elements (R116): two 4-bit elements share a byte, the even-indexed one in [3:0]. -/
def packElems (f : Fmt) : List Nat → List Byte
  | [] => []
  | [c] => if f.bits = 4 then [BitVec.ofNat 8 (c % 16)] else leBytes (f.bits / 8) c
  | c :: c' :: cs =>
    if f.bits = 4 then BitVec.ofNat 8 (c % 16 + 16 * (c' % 16)) :: packElems f cs
    else leBytes (f.bits / 8) c ++ packElems f (c' :: cs)

end Sys2Proof.Machine
end

