-- ==== Sys2Proof/Machine/Strict.lean ====
section
/-! DEFINITION. IEEE-strict binary32 operations (R136, R137): each takes binary32 codes and the rounding direction and
gives the result code and its flags. -/

namespace Sys2Proof.Machine

/-- The binary32 layout. -/
def f32 : FltFmt := ⟨23, 8, 127, .ieee, 0x7F7FFFFF, 0x7FC00000⟩

/-- Whether a binary32 code is a NaN. -/
def isNan32 (c : Nat) : Bool := decide (c % 2 ^ 31 > 0x7F800000)

/-- Whether a binary32 code is a signaling NaN (R137). -/
def isSNan32 (c : Nat) : Bool := isNan32 c && c / 2 ^ 22 % 2 == 0

/-- The NaN rule of R137: the first NaN operand with its quiet bit set; S_INVALID when any is signaling. -/
def nanResult (ops : List Nat) : Option (Nat × Flags) :=
  match ops.find? isNan32 with
  | none => none
  | some c => some (if c / 2 ^ 22 % 2 == 1 then c % 2 ^ 32 else (c + 2 ^ 22) % 2 ^ 32, if ops.any isSNan32 then sInvalid else 0)

/-- The invalid-operation result with no NaN operand (R137). -/
def invalid32 : Nat × Flags := (0x7FC00000, sInvalid)

/-- A signed infinity. -/
def inf32 (neg : Bool) : Nat := if neg then 0xFF800000 else 0x7F800000

/-- A signed zero. -/
def zero32 (neg : Bool) : Nat := if neg then 0x80000000 else 0

/-- An exact dyadic result rounded; an exact zero takes the sign `zneg`. -/
def round32 (rm : Rm) (zneg : Bool) (x : Dy) : Nat × Flags :=
  if x.m = 0 then (zero32 zneg, 0) else f32.strictRound rm (x.m < 0) x.m.natAbs x.e

/-- The sum of two non-NaN values, exact sum rounded once; the sign of an exact zero follows IEEE 754-2019 6.3. -/
def sum32 (rm : Rm) (a b : Num) : Nat × Flags :=
  match a, b with
  | .inf x, .inf y => if x = y then (inf32 x, 0) else invalid32
  | .inf x, _ => (inf32 x, 0)
  | _, .inf y => (inf32 y, 0)
  | .fin na ma ea, .fin nb mb eb =>
    let sg (n : Bool) (m : Nat) : Int := if n then -(m : Int) else m
    let z := if ma = 0 ∧ mb = 0 ∧ na = nb then na else rm == .rdn
    round32 rm z (Dy.add ⟨sg na ma, ea⟩ ⟨sg nb mb, eb⟩)
  | _, _ => (0x7FC00000, 0)

/-- The other sign. -/
def Num.neg (v : Num) : Num :=
  match v with | .fin n m e => .fin (!n) m e | .inf n => .inf (!n) | x => x

/-- The exact product of two non-NaN values; none for infinity times zero. -/
def exactMul (a b : Num) : Option Num :=
  match a, b with
  | .fin na ma ea, .fin nb mb eb => some (.fin (na != nb) (ma * mb) (ea + eb))
  | .inf na, .inf nb => some (.inf (na != nb))
  | .inf na, .fin nb mb _ => if mb = 0 then none else some (.inf (na != nb))
  | .fin na ma _, .inf nb => if ma = 0 then none else some (.inf (na != nb))
  | _, _ => none

/-- An exact value rounded to binary32. -/
def ofNum32 (rm : Rm) (v : Num) : Nat × Flags :=
  match v with
  | .fin n m e => if m = 0 then (zero32 n, 0) else f32.strictRound rm n m e
  | .inf n => (inf32 n, 0)
  | .nan _ => invalid32

def add32 (rm : Rm) (a b : Nat) : Nat × Flags :=
  (nanResult [a, b]).getD (sum32 rm (f32.decode a) (f32.decode b))

/-- Subtraction: a NaN operand is returned as it is (R137). -/
def sub32 (rm : Rm) (a b : Nat) : Nat × Flags :=
  (nanResult [a, b]).getD (sum32 rm (f32.decode a) (f32.decode b).neg)

def mul32 (rm : Rm) (a b : Nat) : Nat × Flags :=
  (nanResult [a, b]).getD (match exactMul (f32.decode a) (f32.decode b) with
    | none => invalid32
    | some v => ofNum32 rm v)

/-- fusedMultiplyAdd: a * b + c with one rounding (R136). -/
def fma32 (rm : Rm) (a b c : Nat) : Nat × Flags :=
  match nanResult [a, b, c] with
  | some (r, f) =>
    if !isNan32 a && !isNan32 b && (exactMul (f32.decode a) (f32.decode b)).isNone && Config.fmaZeroInfNan
    then (r, f ||| sInvalid) else (r, f)
  | none =>
    match exactMul (f32.decode a) (f32.decode b) with
    | none => invalid32
    | some p => sum32 rm p (f32.decode c)

/-- The quotient of magnitudes with a sticky last bit: enough bits for any rounding to 24 bits. -/
def quotSticky (m n : Nat) : Nat :=
  let k := Nat.log2 n + 30
  let x := m * 2 ^ k
  2 * (x / n) + (if x % n = 0 then 0 else 1)

def div32 (rm : Rm) (a b : Nat) : Nat × Flags :=
  (nanResult [a, b]).getD (match f32.decode a, f32.decode b with
    | .inf _, .inf _ => invalid32
    | .inf x, .fin y _ _ => (inf32 (x != y), 0)
    | .fin x _ _, .inf y => (zero32 (x != y), 0)
    | .fin x m e, .fin y n e' =>
      if n = 0 then (if m = 0 then invalid32 else (inf32 (x != y), sDivZero))
      else if m = 0 then (zero32 (x != y), 0)
      else
        let m2 := m * 2 ^ 30
        f32.strictRound rm (x != y) (quotSticky m2 n) (e - e' - 30 - (Nat.log2 n + 30) - 1)
    | _, _ => invalid32)

/-- The integer square root by bisection on bits, from bit `n - 1` down. -/
def isqrtBits : Nat → Nat → Nat → Nat
  | 0, _, r => r
  | n + 1, v, r => isqrtBits n v (if (r + 2 ^ n) * (r + 2 ^ n) ≤ v then r + 2 ^ n else r)

/-- The square root of a magnitude with a sticky last bit, and its exponent. -/
def sqrtSticky (m : Nat) (e : Int) : Nat × Int :=
  let (m, e) := if e % 2 = 0 then (m, e) else (2 * m, e - 1)
  let v := m * 2 ^ 60
  let r := isqrtBits 48 v 0
  (2 * r + (if r * r = v then 0 else 1), (e - 60) / 2 - 1)

def sqrt32 (rm : Rm) (a : Nat) : Nat × Flags :=
  (nanResult [a]).getD (match f32.decode a with
    | .inf false => (inf32 false, 0)
    | .fin n m e =>
      if m = 0 then (zero32 n, 0)
      else if n then invalid32
      else let (r, q) := sqrtSticky m e; f32.strictRound rm false r q
    | _ => invalid32)

/-- Whether a < b, for non-NaN codes; zeros of both signs are equal. -/
def lt32 (a b : Nat) : Bool :=
  let key (c : Nat) : Int := if c / 2 ^ 31 % 2 = 1 then -((c % 2 ^ 31 : Nat) : Int) else ((c % 2 ^ 31 : Nat) : Int)
  decide (key a < key b)

/-- Whether a = b, for non-NaN codes. -/
def eq32 (a b : Nat) : Bool := !lt32 a b && !lt32 b a

/-- IEEE 754-2019 minimum: -0 is below +0. -/
def min32 (a b : Nat) : Nat × Flags :=
  (nanResult [a, b]).getD (if eq32 a b then (if a / 2 ^ 31 % 2 = 1 then a else b, 0) else if lt32 a b then (a, 0) else (b, 0))

/-- IEEE 754-2019 maximum. -/
def max32 (a b : Nat) : Nat × Flags :=
  (nanResult [a, b]).getD (if eq32 a b then (if a / 2 ^ 31 % 2 = 1 then b else a, 0) else if lt32 a b then (b, 0) else (a, 0))

/-- 1.0 or +0. -/
def bool32 (b : Bool) : Nat := if b then 0x3F800000 else 0

/-- compareQuietEqual (R137). -/
def cmpeq32 (a b : Nat) : Nat × Flags :=
  if isNan32 a || isNan32 b then (0, if isSNan32 a || isSNan32 b then sInvalid else 0) else (bool32 (eq32 a b), 0)

/-- compareSignalingLess (R137). -/
def cmplt32 (a b : Nat) : Nat × Flags :=
  if isNan32 a || isNan32 b then (0, sInvalid) else (bool32 (lt32 a b), 0)

/-- compareSignalingLessEqual (R137). -/
def cmple32 (a b : Nat) : Nat × Flags :=
  if isNan32 a || isNan32 b then (0, sInvalid) else (bool32 (!lt32 b a), 0)

end Sys2Proof.Machine
end

