-- ==== Sys2Proof/Machine/Tensor.lean ====
section
/-! DEFINITION. The tensor path: operand pairs, slices and passes (R121 to R125), group sums (R126), accumulators (R127,
R129), and the aligned-integer forms (R133 to R135). -/

namespace Sys2Proof.Machine

/-- The pair kinds a MAC accepts (R122). -/
inductive PairKind where
  | packed4 | onePass | fp16 | fp32
deriving DecidableEq, Repr

/-- The pair kind of two operand formats; none is a format error (R122). -/
def pairKind (a b : Fmt) : Option PairKind :=
  match a, b with
  | .int4, .int4 | .int4, .e2m1 | .e2m1, .int4 | .e2m1, .e2m1 => some .packed4
  | .fp16, .fp16 => some .fp16
  | .fp32, .fp32 => some .fp32
  | .int8, .int8 | .int8, .e4m3 | .int8, .e5m2 | .int8, .bf16
  | .e4m3, .int8 | .e4m3, .e4m3 | .e4m3, .e5m2 | .e4m3, .bf16
  | .e5m2, .int8 | .e5m2, .e4m3 | .e5m2, .e5m2 | .e5m2, .bf16
  | .bf16, .int8 | .bf16, .e4m3 | .bf16, .e5m2 | .bf16, .bf16 => some .onePass
  | _, _ => none

/-- T of R126. -/
def PairKind.grid (k : PairKind) : Int :=
  match k with | .packed4 | .onePass => 24 | .fp16 => 32 | .fp32 => 48

/-- Reduction indices per group (R145). -/
def PairKind.group (k : PairKind) : Nat := match k with | .packed4 => 16 | _ => 8

/-- The passes (i, j) in issue order (R124). -/
def PairKind.passes (k : PairKind) (fast : Bool) : List (Nat × Nat) :=
  match k, fast with
  | .packed4, _ | .onePass, _ => [(0, 0)]
  | .fp16, false => [(1, 1), (0, 1), (1, 0), (0, 0)]
  | .fp16, true => [(0, 1), (1, 0), (0, 0)]
  | .fp32, false => [(2, 2), (1, 2), (2, 1), (0, 2), (1, 1), (2, 0), (0, 1), (1, 0), (0, 0)]
  | .fp32, true => [(0, 2), (1, 1), (2, 0), (0, 1), (1, 0), (0, 0)]

/-- Slice k of a magnitude of a wide operand, with its exponent (R123): the significand moved up to a whole number of
bytes, cut into bytes. A one-pass or packed operand is one slice. -/
def PairKind.sliceOf (kind : PairKind) (m : Nat) (e : Int) (k : Nat) : Nat × Int :=
  match kind with
  | .packed4 | .onePass => (m, e)
  | .fp16 => (m * 2 ^ 5 / 2 ^ (8 * (1 - k)) % 256, e - 5 + 8 * (1 - k : Int))
  | .fp32 => (m / 2 ^ (8 * (2 - k)) % 256, e + 8 * (2 - k : Int))

/-- The accumulator types (R127). -/
inductive AccType where
  | fp32 | int32 | int64
deriving DecidableEq, Repr

/-- What one group of products holds: finite operand pairs, and what specials arose (R129). -/
structure GroupIn where
  pairs : List (Bool × (Nat × Int) × (Nat × Int))
  nan : Bool
  posInf : Bool
  negInf : Bool
  flags : Flags

/-- One operand pair of a group classified (R126, R129). -/
def GroupIn.push (g : GroupIn) (ab : Num × Num) : GroupIn :=
  match ab with
  | (.nan _, _) | (_, .nan _) => { g with nan := true }
  | (.inf x, .inf y) => if x = y then { g with posInf := true } else { g with negInf := true }
  | (.inf x, .fin y m _) | (.fin y m _, .inf x) =>
    if m = 0 then { g with nan := true, flags := g.flags ||| tInvalid }
    else if x = y then { g with posInf := true } else { g with negInf := true }
  | (.fin x m e, .fin y m' e') =>
    if m = 0 ∨ m' = 0 then g else { g with pairs := g.pairs ++ [(x != y, (m, e), (m', e'))] }

/-- A group of operand pairs classified. -/
def GroupIn.ofPairs (ps : List (Num × Num)) : GroupIn :=
  ps.foldl GroupIn.push ⟨[], false, false, false, 0⟩

/-- E of R126: the largest pair exponent. A subnormal's exponent is that of its leading one (DEDUCED, log 5). -/
def GroupIn.maxExp (g : GroupIn) : Int :=
  match g.pairs with
  | [] => 0
  | p :: ps =>
    let ex (q : Bool × (Nat × Int) × (Nat × Int)) := leadExp q.2.1.1 q.2.1.2 + leadExp q.2.2.1 q.2.2.2
    ps.foldl (fun a q => max a (ex q)) (ex p)

/-- The sum of the group's slice products, each truncated toward zero to a count of `2^q` (R126). With an INT64 accumulator, where R127
truncates each product, the slice products of a wide pair are truncated one by one as well (DESIGN CHOICE, log 76). -/
def GroupIn.sumAt (g : GroupIn) (kind : PairKind) (fast : Bool) (q : Int) : Int :=
  g.pairs.foldl (fun s p =>
    (kind.passes fast).foldl (fun s ij =>
      let a := kind.sliceOf p.2.1.1 p.2.1.2 ij.1
      let b := kind.sliceOf p.2.2.1 p.2.2.2 ij.2
      let m : Int := if p.1 then -((a.1 * b.1 : Nat) : Int) else ((a.1 * b.1 : Nat) : Int)
      s + truncGrid m (a.2 + b.2) q) s) 0

/-- Two FP32 accumulator values added with one rounding (R127, R129); codes are binary32. A sum that is not zero and rounds to zero gives
+0 whatever its sign (DESIGN CHOICE, log 76). -/
def accAdd32 (acc : Nat) (v : Num) : Nat × Flags :=
  match f32.decode acc, v with
  | .nan _, _ | _, .nan _ => (f32.nanCode, 0)
  | .inf x, .inf y => if x = y then (inf32 x, 0) else (f32.nanCode, tInvalid)
  | .inf x, .fin _ _ _ | .fin _ _ _, .inf x => (inf32 x, 0)
  | .fin n m e, .fin n' m' e' =>
    let sg (n : Bool) (m : Nat) : Int := if n then -(m : Int) else m
    let s := Dy.add ⟨sg n m, e⟩ ⟨sg n' m', e'⟩
    if s.m = 0 then (0, 0)
    else
      let r := f32.round .rne (s.m < 0) s.m.natAbs s.e
      if f32.maxCode < r.code then (inf32 (s.m < 0), tOverflow)
      else if r.code = 0 then (0, 0) else (f32.signed (s.m < 0) r.code, 0)

/-- An integer added to an integer accumulator of `b` bits, saturating (R127). -/
def accAddInt (b : Nat) (acc : Int) (x : Int) : Int × Flags :=
  let (v, s) := satInt b (acc + x)
  (v, if s then tSaturate else 0)

/-- One accumulator after one group (R126 to R129). An FP32 group with a NaN product gives NaN, and no T_INVALID for its infinities of both
signs (DESIGN CHOICE, log 76). The accumulator is held as the integer of its code: the binary32
code, or the two's-complement integer. -/
def accGroup (ty : AccType) (lsb : Int) (kind : PairKind) (fast : Bool) (acc : Int) (ps : List (Num × Num)) :
    Int × Flags :=
  let g := GroupIn.ofPairs ps
  match ty with
  | .fp32 =>
    let v : Num × Flags :=
      if g.nan then (.nan false, g.flags)
      else if g.posInf && g.negInf then (.nan false, g.flags ||| tInvalid)
      else if g.posInf then (.inf false, g.flags)
      else if g.negInf then (.inf true, g.flags)
      else
        let q := g.maxExp - kind.grid
        (Num.ofInt (g.sumAt kind fast q) q, g.flags)
    let (c, f) := accAdd32 acc.toNat v.1
    (c, f ||| v.2)
  | .int32 => let (v, f) := accAddInt 32 acc (g.sumAt kind fast 0); (v, f ||| g.flags)
  | .int64 =>
    if g.nan || (g.posInf && g.negInf) then (acc, g.flags ||| tInvalid)
    else if g.posInf then (2 ^ 63 - 1, g.flags ||| tSaturate)
    else if g.negInf then (-(2 ^ 63), g.flags ||| tSaturate)
    else let (v, f) := accAddInt 64 acc (g.sumAt kind fast lsb); (v, f ||| g.flags)

/-- A part added into an accumulator of its own type (R151, R193). -/
def accMerge (ty : AccType) (acc part : Int) : Int × Flags :=
  match ty with
  | .fp32 => let (c, f) := accAdd32 acc.toNat (f32.decode part.toNat); (c, f)
  | .int32 => accAddInt 32 acc part
  | .int64 => accAddInt 64 acc part

/-- The value an accumulator stands for (R127, R130). -/
def accValue (ty : AccType) (lsb : Int) (acc : Int) : Num :=
  match ty with
  | .fp32 => f32.decode acc.toNat
  | .int32 => Num.ofInt acc 0
  | .int64 => Num.ofInt acc lsb

/-- An accumulator drained to a format without scales (R130): an integer target takes SHIFT, a float target LSB. -/
def accDrain (ty : AccType) (lsb : Int) (f : Fmt) (shift : Nat) (pol : NumPolicy) (acc : Int) : Nat × Flags :=
  match f.flt, ty with
  | some p, _ => p.ofNum pol (accValue ty lsb acc)
  | none, .fp32 => intOfNum f.bits (accValue ty lsb acc)
  | none, _ => intOfNum f.bits (Num.ofInt acc (-(shift : Int)))

/-- One addition of two values of a data format, rounded once under R130 (R131). -/
def dataAdd (f : Fmt) (pol : NumPolicy) (x y : Nat) : Nat × Flags :=
  match f.decode x, f.decode y with
  | .nan _, _ | _, .nan _ => f.ofNum pol (.nan false)
  | .inf a, .inf b => if a = b then f.ofNum pol (.inf a) else
      let (c, fl) := f.ofNum pol (.nan false); (c, fl ||| tInvalid)
  | .inf a, .fin _ _ _ | .fin _ _ _, .inf a => f.ofNum pol (.inf a)
  | .fin n m e, .fin n' m' e' =>
    let sg (n : Bool) (m : Nat) : Int := if n then -(m : Int) else m
    f.ofNum pol (Dy.add ⟨sg n m, e⟩ ⟨sg n' m', e'⟩).num

/-- The block exponent byte of a reduction block (R134). -/
def aiByte (vs : List Num) : Nat :=
  if vs.any (fun v => match v with | .fin _ _ _ => false | _ => true) then 0xFF
  else
    let mx := vs.foldl (fun a v => match v with | .fin _ m e => magMax a (m, e) | _ => a) (0, 0)
    if mx.1 = 0 then 0 else (max 1 (127 + leadExp mx.1 mx.2)).toNat

/-- The aligned integer of a contribution element, with E the combined byte minus 127 (R135). -/
def aiInt (w : Nat) (byte : Nat) (v : Num) : Int :=
  match v with
  | .fin n m e => (roundInt .rne n m (e + (w : Int) - 2 - ((byte : Int) - 127))).1
  | _ => 0

/-- The root's conversion of a sum of aligned integers to the result format (R135). -/
def aiResult (w : Nat) (byte : Nat) (f : Fmt) (pol : NumPolicy) (sum : Int) : Nat × Flags :=
  if byte = 0xFF then
    let (c, fl) := f.ofNum pol (.nan false); (c, fl ||| aiNan)
  else if byte = 0 then (0, 0)
  else f.ofNum pol (Num.ofInt sum ((byte : Int) - 127 - (w : Int) + 2))

end Sys2Proof.Machine
end

