-- ==== Sys2Proof/Machine/TypesMill.lean ====
section
/-! DEFINITION. The state of one logical Bench (05, 06). -/

namespace Sys2Proof.Machine

/-- Stream states (R218). -/
inductive BState where
  | idle | running | waiting | foldedOut | brk | drained | error | quenched
deriving DecidableEq, Repr

/-- The code of a stream state (R218). -/
def BState.code (b : BState) : Nat :=
  match b with
  | .idle => 0 | .running => 1 | .waiting => 2 | .foldedOut => 3 | .brk => 4 | .drained => 5 | .error => 6 | .quenched => 7

/-- One active loop level: first body word, END, latched count, iteration (R201). -/
structure LoopLevel where
  start : Nat
  stop : Nat
  count : Nat
  iter : Nat
deriving DecidableEq, Repr

/-- The registers that a bundle's slots read as they stand before it (R180). -/
structure BRegs where
  ix : List Word
  li : List Nat
  or : List (BitVec 64)
  pf : List Bool
  vl : Nat
  /-- The release tick in force for ST and POST (R203). -/
  rel : Option Nat
deriving DecidableEq, Repr

/-- How far an issued slot is: not started, performed, completed (R181, R207). -/
inductive SlotPhase where
  | waiting | performed | complete
deriving DecidableEq, Repr

/-- One slot of an issued bundle: its place in SLOTS order, its word, how far it is. -/
structure Slot where
  pos : Nat
  word : BitVec 64
  phase : SlotPhase
deriving DecidableEq, Repr

/-- A bundle issued and not yet retired (R206). -/
structure Bundle where
  id : Nat
  pc : Nat
  next : Nat
  regs : BRegs
  slots : List Slot
deriving DecidableEq, Repr

/-- One accumulator set of a Bench's bench tile: type, grid, and the accumulators that are not +0 (R127, R147). -/
structure AccSet where
  ty : AccType
  lsb : Int
  vals : List (Nat × Int)
deriving DecidableEq, Repr

/-- One kernel bank: the library image it holds, complete or not (R218), and whether a reload into it runs and who
asked: some true the host, some false a KLD (R209, R210). -/
structure Bank where
  img : Nat
  valid : Bool
  reload : Option Bool
deriving DecidableEq, Repr

/-- One logical Bench. -/
structure Bench where
  st : BState
  regs : BRegs
  /-- What its bytes hold that nothing has written: zeros after Off (R590), or no value the spec gives, for a logical Bench
  beyond the physical ones of a Casting that folds (R159; the free counter then, log 32). -/
  fill : Option Nat
  /-- The bench store, sparse over that (R148). -/
  store : List (Nat × Byte)
  /-- Damaged words of the bench store, by word address (R148). -/
  damage : List (Nat × List Nat)
  setX : AccSet
  setY : AccSet
  pc : Nat
  ret : Nat
  nextId : Nat
  loops : List LoopLevel
  flight : List Bundle
  k0 : Bank
  k1 : Bank
  /-- The active bank: false K0, true K1; and whether the inactive bank is armed (R208, R209). -/
  active : Bool
  armed : Bool
  /-- The Bench has reached its SEAM bundle for the epoch (R158). -/
  atSeam : Bool
  /-- A wait on a SYNC counter that is not met: counter and value (R158). -/
  waitc : Option (Nat × Nat)
  /-- MAC slots counted since the start of the epoch (R272). -/
  macs : Nat
  /-- The bundle at PC was held at a tag break, so it issues after a RESUME (R212). -/
  resumed : Bool
  /-- The stream is drained (R205): a Bench at a break then goes on drained. -/
  halted : Bool
  /-- A drained Bench whose banks swapped at the end of a reload: it runs again from the next seam (R204, R209). -/
  restart : Bool
deriving DecidableEq, Repr

/-- A host reload in progress (R210): MIL_RLD_SEL as latched, and the logical Benches still to be written, and the seam count for
which a drained Bench's swap was recorded (R211). -/
structure HostReload where
  all : Bool
  bench : Nat
  bank : Bool
  lib : Nat
  left : List Nat
  noted : Option Nat
deriving DecidableEq, Repr

/-- Node-wide state of the Mill. -/
structure MillState where
  reload : Option HostReload
  /-- Host reloads written whose swap has not applied: logical Bench or 0xFFFF, bank, image (R211). -/
  swaps : List (Nat × Bool × Nat)
  /-- Units whose first invalid operation, or first AI_NAN, was reported since the apply (R143). -/
  noted : List Nat
  /-- The enabled-Hall mask on which the Casting in force was placed (R157). -/
  map : Nat
  /-- The logical Bench that each physical Bench runs, or ran last (R169). -/
  ran : List (Nat × Nat)
  /-- Cells in transit through movers (R362, R386): logical Bench, bundle and place of the slot, cell. -/
  transit : List (Nat × Nat × Nat × (Nat × Nat))
deriving DecidableEq, Repr

/-- Registers as a logical Bench starts the first epoch (R178). -/
def BRegs.init : BRegs :=
  ⟨List.replicate 8 0, [], List.replicate 16 0, List.replicate 16 false, 64, none⟩

/-- An accumulator set at +0, FP32, LSB 0 (R178). -/
def AccSet.init : AccSet := ⟨.fp32, 0, []⟩

/-- A Bench as after power-on (R590). -/
def Bench.init : Bench :=
  { st := .idle, regs := BRegs.init, fill := none, store := [], damage := [], setX := AccSet.init, setY := AccSet.init
    pc := 0, ret := 0, nextId := 0, loops := [], flight := [], k0 := ⟨0, false, none⟩, k1 := ⟨0, false, none⟩
    active := false, armed := false, atSeam := false, waitc := none, macs := 0, resumed := false
    halted := false, restart := false }

end Sys2Proof.Machine
end

