-- ==== Sys2Proof/Machine/TypesFab.lean ====
section
/-! DEFINITION. The state of the fabric: ports and their links (11), pools, queues and multicast (12), routing (13), gates
(14), Touchmarks (16). -/

namespace Sys2Proof.Machine

/-- A cell check (R475); `on` is false where the unit that formed the cell was disabled (R476). -/
structure Check where
  value : Nat
  code : Nat
  fail : Bool
  on : Bool
deriving DecidableEq, Repr

/-- A flit: the fields of its header (R331), its 256 data bytes and its cell check. -/
structure Flit where
  vc : Nat
  lbl : Bool
  cmark : Bool
  last : Bool
  fidx : Nat
  addr : Nat
  epoch : Nat
  alive : Nat
  stamp : Nat
  data : List Byte
  check : Check
deriving DecidableEq, Repr

/-- Who may hold a pooled cell (R362, R368). -/
inductive Owner where
  | queue (port q : Nat)
  | cru (desc : Nat)
  | mover (bench : Nat)
  | stock (table : Nat)
deriving DecidableEq, Repr

/-- The accounts a cell may be charged to (R362). -/
inductive Acct where
  | queue (port q : Nat)
  | cred (port : Nat)
  | cru | milm | stk
deriving DecidableEq, Repr

/-- An allocated pooled cell (R368): its die and index, its hold set, what each owner is charged and whether that came from
the shared pool, and whether it takes a multicast descriptor (R367). -/
structure PCell where
  die : Nat
  idx : Nat
  holds : List (Owner × Acct × Bool)
  /-- What the owner count has beyond the owners named (R387). -/
  extra : Nat
  multi : Bool
  /-- The VC on which a class Q or M cell arrived: its credit (R344). -/
  inVc : Nat
deriving DecidableEq, Repr

/-- A copy that waits in a queue (R371): its flit, the cell's arrival tick, its cell (die, index), the sending stream of this node it
belongs to, if any, and whether a unit of this node injects it (R108). -/
structure QEnt where
  flit : Flit
  arr : Nat
  cell : Nat × Nat
  stream : Option Nat
  own : Bool
deriving DecidableEq, Repr

/-- A shared cell in the multicast list of its VC on one die (R374): the ports that have yet to send it, each with the
label and the stream of its copy, and whether a unit of this node injects it. -/
structure MEnt where
  flit : Flit
  arr : Nat
  cell : Nat × Nat
  pend : List (Nat × Nat × Option Nat)
  own : Bool
deriving DecidableEq, Repr

/-- The unit that injects a stream (R407). -/
inductive StreamUnit where
  | copy (label : Nat)
  | coll (desc : Nat)
  | stock | mgmt
deriving DecidableEq, Repr

/-- The sending end of a stream in this node (R339, R341). Its held flits carry their ALIVE; `again` lists those to
resend, oldest first. -/
structure TxStream where
  id : Nat
  unit : StreamUnit
  port : Nat
  lbl : Bool
  key : Nat
  vc : Nat
  w : Nat
  a : Nat
  room : Option Nat
  next : Nat
  held : List (Flit × Nat × Nat)
  again : List Nat
  adv : Nat
  tries : Nat
  failed : Bool
deriving DecidableEq, Repr

/-- The terminating end of a stream in this node (R340, R479); `took` are the dies that have stored the flit N of a replicated stream
(R374, log 72). -/
structure RxStream where
  port : Nat
  lbl : Bool
  key : Nat
  vc : Nat
  n : Nat
  took : List Nat
  nak : Option (Nat × Nat)
  acc : Nat
  lastFlit : Nat
  room : Nat
deriving DecidableEq, Repr

/-- A control symbol in a port's queue (R330): its priority, its TYPE, its body as bits [119:8], the tick it entered. -/
structure CtrlSym where
  prio : Nat
  ty : Nat
  body : Nat
  since : Nat
deriving DecidableEq, Repr

/-- Why the rest of a packet is dropped: it was discarded (R398, R408), found no room at an egress (R366), is fenced (R414), cannot
reach its destination (R410), or is oversize there (R431). -/
inductive DropAs where
  | rejected
  | noRoom (egress : Nat)
  | fenced | noRoute | oversize
deriving DecidableEq, Repr

/-- A packet being received: the header fields that all its flits share (R333), the FIDX expected next, whether it broke a rule,
the VC of its next hop, its source, its egress, the copies its first flit took (R405), why the rest is dropped, and the cells it still
reserves (R366). -/
structure OpenPkt where
  inVc : Nat
  lbl : Bool
  addr : Nat
  epoch : Nat
  stamp : Nat
  fidx : Nat
  bad : Bool
  vc : Nat
  src : Nat
  egress : Option Nat
  copies : Option (List (Nat × Nat))
  drop : Option DropAs
  cells : List (Nat × Nat)
deriving DecidableEq, Repr

/-- The packet that a port sends: its queue, the header fields its flits share, and the FIDX to come (R333). -/
structure OpenTx where
  q : Nat
  lbl : Bool
  addr : Nat
  epoch : Nat
  stamp : Nat
  fidx : Nat
deriving DecidableEq, Repr

/-- A gate list in force or to come (R432, R433): entries as (interval, gates), S, CYCLE, and whether it is one of the GATE section with
MODE 0, which a continue shifts (R498). -/
structure GateList where
  ents : List (Nat × Nat)
  start : Nat
  cycle : Nat
  rel : Bool
deriving DecidableEq, Repr

/-- One shaper's configuration in force and its tokens (R440, R441). -/
structure Shaper where
  add : Nat
  per : Nat
  en : Bool
  burst : Nat
  tok : Int
deriving DecidableEq, Repr

/-- What an IDENT exchange holds (R336, R347): the bodies of IDENT0, IDENT1 and IDENT2 last received. -/
structure Ident where
  id0 : Option Nat
  id1 : Option Nat
  id2 : Option Nat
deriving DecidableEq, Repr

/-- One port: bring-up, FEC run, control queue, credits and replay, the packet in progress on each side, its queues, its gate
lists, its weighted-fair order with the weights that its start tags were computed with (R439), its shapers and samples. -/
structure Port where
  since : Nat
  /-- The tick at which the port went down last, while it has not been UP since (R415). -/
  downAt : Option Nat
  startRx : Bool
  startTx : Bool
  linkRx : Bool
  /-- LINKUP waits in the control queue, or has left (R346). -/
  linkQ : Bool
  linkTx : Bool
  ident : Ident
  badRun : Nat
  ctrl : List CtrlSym
  initRx : List Nat
  used : List Nat
  freed : List Nat
  freedSent : List Nat
  sent : List Nat
  freedRx : List Nat
  overT : Bool
  rxSeq : Nat
  rxDiscard : Bool
  /-- The tick of the last RETRY (R345). -/
  retryAt : Nat
  rxAcc : Nat
  txHeld : List Flit
  txBase : Nat
  txAgain : Nat
  replays : Nat
  lackAt : Nat
  openRx : Option OpenPkt
  /-- Packets broken off before their last flit, which a resend or replay takes up again (R333, R340, R345; log 72). -/
  keptRx : List OpenPkt
  openTx : Option OpenTx
  /-- Units sent, of which each 2,024 make a frame (R326); the unit at which the codeword of a stomped flit has ended (R478). -/
  txUnit : Nat
  stompEnd : Nat
  /-- BARRIER or TIME symbols sent, with the departures of the last eight in 1/64 tick; the partner's last BARRIER with its
  arrival (R337, R338); the last measurement of the link delay (R88). -/
  barSeq : Nat
  sentAt : List (Nat × Nat)
  rxBar : Option (Nat × Nat)
  measAt : Option Nat
  queues : List (List QEnt)
  glist : Option GateList
  gnext : Option GateList
  gsect0 : Option (Nat × List (Nat × Nat) × Nat)
  v : Nat
  f : List Nat
  stag : List (Option Nat)
  wts : List Nat
  shapers : List Shaper
  sample : List (Option Nat)
deriving DecidableEq, Repr

/-- A pending record of a Touchmark (R481): the stream's key, its item number, the digest, the tick. -/
structure TmRec where
  key : Nat
  item : Nat
  digest : Nat
  tick : Nat
  inj : Bool
deriving DecidableEq, Repr

/-- A lane beyond its registers (10): a full sweep in progress (whether on the data sampler, its start, the main code then; R310,
R312), whether one has ended since SIG rose, the last step of the main code and the last window (R307, R311), windows in a row
below the thresholds (R312, R314), whether a re-adaptation was reported since the port came up, deserializer words in a row
that equal ALIGN (R317), the checker: symbols in a row that agree, symbols since lock, recent errors (R319); WIN of the window that runs
(R324), and the tick of the last host write of CODE (R315). -/
structure Lane where
  sweep : Option (Bool × Nat × Nat)
  swept : Bool
  stepped : Nat
  window : Nat
  low : Nat
  bad : Nat
  noted : Bool
  hits : Nat
  run : Nat
  syms : Nat
  errs : List Nat
  win : Nat
  hostAt : Option Nat
deriving DecidableEq, Repr

/-- A lane as after power-on reset. -/
def Lane.init : Lane :=
  { sweep := none, swept := false, stepped := 0, window := 0, low := 0, bad := 0, noted := false, hits := 0, run := 0, syms := 0
    errs := [], win := 8, hostAt := none }

/-- The fabric. -/
structure FabState where
  ports : List (Nat × Port)
  lanes : List (Nat × Lane)
  cells : List PCell
  /-- The pooled cells whose leaf bit is 0, by die and index (R360). -/
  leaf0 : List (Nat × Nat)
  mqs : List MEnt
  txs : List TxStream
  nextStream : Nat
  rxs : List RxStream
  /-- The last bank each write requester wrote (R378). -/
  banks : List (Nat × Nat)
  /-- Cells that changed since the sweep began, per die (R386). -/
  chg : List (Nat × Nat)
  /-- Tick at which the last judge phase ended, per die (R386). -/
  audEnd : List Nat
  /-- A LEAK or SURPLUS was already reported, per die (R387). -/
  leakNoted : List Nat
  /-- Label entries and copy entries that switched to their alternates (R405). -/
  altEnt : List Nat
  altCopy : List Nat
  /-- Flits of first occurrences already reported since the apply: 1 discard, 2 source word, 3 contribution tag, 4 excess,
  5 oversize or late base (R232, R398, R408, R431, R434). -/
  noted : List Nat
  /-- Pending Touchmark records by unit (R481). -/
  tmRecs : List (Nat × List TmRec)
  /-- Class Q and M packets that arrived while APPLYING, with their ingress ports and cells (R398). -/
  heldRx : List (Nat × Flit × (Nat × Nat))
  /-- Flits handed to units: collective descriptor, ingress port, flit (R404). -/
  collIn : List (Nat × Nat × Flit)
  /-- Requests to the Stock service: label, ingress port, flit, the tick at which it arrived (R286). -/
  stockIn : List (Nat × Nat × Flit × Nat)
  /-- Requests to the management service: label or source, whether a label, ingress port, flit. -/
  mgmtIn : List (Nat × Bool × Nat × Flit)
deriving DecidableEq, Repr

/-- A shaper at its reset configuration (R446). -/
def Shaper.init : Shaper := ⟨0, 8, false, 4352, 4352⟩

/-- A port as after power-on reset: DOWN, with nothing queued. -/
def Port.init : Port :=
  { since := 0, downAt := none, startRx := false, startTx := false, linkRx := false, linkQ := false, linkTx := false
    ident := ⟨none, none, none⟩, badRun := 0, ctrl := []
    initRx := [0, 0, 0, 0], used := [0, 0, 0, 0], freed := [0, 0, 0, 0], freedSent := [0, 0, 0, 0]
    sent := [0, 0, 0, 0], freedRx := [0, 0, 0, 0], overT := false
    rxSeq := 0, rxDiscard := false, retryAt := 0, rxAcc := 0, txHeld := [], txBase := 0, txAgain := 0, replays := 0, lackAt := 0
    openRx := none, keptRx := [], openTx := none, txUnit := 0, stompEnd := 0, barSeq := 0, sentAt := [], rxBar := none, measAt := none
    queues := List.replicate 8 []
    glist := none, gnext := none, gsect0 := none, v := 0, f := List.replicate 8 0, stag := List.replicate 8 none, wts := List.replicate 8 1
    shapers := List.replicate 8 Shaper.init, sample := List.replicate 8 none }

/-- The fabric as after power-on reset. -/
def FabState.init : FabState :=
  { ports := [], lanes := [], cells := [], leaf0 := [], mqs := [], txs := [], nextStream := 0, rxs := [], banks := [], chg := []
    audEnd := [0, 0], leakNoted := [], altEnt := [], altCopy := [], noted := [], tmRecs := [], heldRx := []
    collIn := [], stockIn := [], mgmtIn := [] }

end Sys2Proof.Machine
end

