-- ==== Sys2Proof/Machine/TypesColl.lean ====
section
/-! DEFINITION. The state of running collective instances (07). -/

namespace Sys2Proof.Machine

/-- A vector at a place of the hierarchy (R236, R237): its pass (1 exponent bytes, 0 elements), its chunk, the slices taken on
the axes so far, and its elements as codes; none where no member below it contributes (R238). -/
structure CollVal where
  phase : Nat
  chunk : Nat
  path : List Nat
  vec : Option (List Nat)
deriving DecidableEq, Repr

/-- A partial that a ring or line step brought (R236, R239, R420): `side` 0 along +, or the ring's direction; 1 from the right
end of a line. -/
structure CollPart where
  phase : Nat
  chunk : Nat
  path : List Nat
  slice : Nat
  side : Nat
  vec : List Nat
deriving DecidableEq, Repr

/-- What one in-node member has contributed (R232): its bytes, its cells (of an ALLTOALL at SRC, the cells read there), whether its marker
came or the SELF data may be read, its ALLTOALL segments so far, and one in progress: destination, LEN, bytes so far. -/
structure CollIn where
  bytes : List Byte
  cells : Nat
  arrived : Bool
  segs : Nat
  seg : Option (Nat × Nat × List Byte)
deriving DecidableEq, Repr

/-- Nothing contributed. -/
def CollIn.init : CollIn := ⟨[], 0, false, 0, none⟩

/-- What comes from another node flit by flit (R236, R246): a partial (0), a result on the down path (1), a REDUCE share (2) or a segment (3);
its place, the die that receives it, and its bytes so far. -/
structure CollRx where
  kind : Nat
  phase : Nat
  chunk : Nat
  path : List Nat
  slice : Nat
  side : Nat
  die : Nat
  bytes : List Byte
deriving DecidableEq, Repr

/-- A cell of the owner pool that an instance holds (R220): the chunk it serves, its die and index. -/
structure CollHold where
  chunk : Nat
  cell : Nat × Nat
deriving DecidableEq, Repr

/-- One instance of a collective on this node (R231). `mem` lists its in-node members by endpoint index, 128 for SELF. -/
structure CollInst where
  desc : Nat
  g : Nat
  mem : List Nat
  seam : Nat
  start : Nat
  waiting : Bool
  ins : List CollIn
  pass2 : List Nat
  up : List CollVal
  parts : List CollPart
  steps : List (Nat × Nat × List Nat × Nat × Nat)
  down : List CollVal
  /-- What comes from other nodes and is not whole yet (R236, R246). -/
  rx : List CollRx
  /-- Owner-pool cells held (R220, R243). -/
  holds : List CollHold
  /-- Chunks that hold a cell whose check a Crucible will not find right (R476). -/
  bad : List Nat
  /-- Chunks whose result is ready, and since when (R233); those released. -/
  ready : List (Nat × Nat)
  released : List Nat
  /-- ALLTOALL data for members of this node: in-node rank, sender's logical rank, the die that received it, data (R247). -/
  segs : List (Nat × Nat × Nat × List Byte)
  /-- ALLTOALL destinations in the drop map of an in-node sender; destinations already served. -/
  drops : List (Nat × Nat)
  served : List (Nat × Nat)
  dropped : List (Nat × Nat)
  /-- The copy that CUR does not name: true for DST1 (R234). -/
  dst1 : Bool
  /-- Stopped by a fence, to be recorded at the next seam (R250). -/
  stopped : Bool
deriving DecidableEq, Repr

/-- Collectives of this node: running instances, and the seam count of the last start of each (descriptor, in-node instance). -/
structure CollState where
  insts : List CollInst
  started : List (Nat × Nat × Nat)
deriving DecidableEq, Repr

end Sys2Proof.Machine
end

