-- ==== Sys2Proof/Machine/TypesTemper.lean ====
section
/-! DEFINITION. The state of Temper steps and Assay (08) and of Stock tables (09). -/

namespace Sys2Proof.Machine

/-- A layer as a step latched it (R261): layer entry index, LR, WD and LSCALE. -/
structure TLayer where
  idx : Nat
  lr : Nat
  wd : Nat
  k : Int
deriving DecidableEq, Repr

/-- A running Temper step (R261): its stage, the seam count and scheduled start of its epoch, its step number, its layers, the
copy that CUR names (true for COPY1), the chunks done in phase 1 and in the phase that writes, TRUST's norm sums and ratio by layer (R266), chunks whose slice is ready,
chunks released, the updated slices, and by layer whether a stored weight changed. -/
structure TStep where
  stage : Nat
  desc : Nat
  seam : Nat
  start : Nat
  step : Nat
  layers : List TLayer
  cur : Bool
  phase2 : Bool
  done1 : List Nat
  done2 : List Nat
  sums : List (Int × Int)
  ratio : List Nat
  ready : List (Nat × Nat)
  released : List Nat
  slices : List (Nat × List Nat)
  held : List Nat
  changed : List Nat
deriving DecidableEq, Repr

/-- A sampled comparison in progress (R272): logical Bench, unit, kind (0 MAC tile, 1 Temper round), seam count or step, whether it
fails, and the values it would capture. -/
structure Sample where
  bench : Nat
  unit : Nat
  kind : Nat
  step : Nat
  fail : Bool
  narrow : Nat
  wide : Nat
deriving DecidableEq, Repr

/-- Temper and Assay. -/
structure TemperState where
  steps : List TStep
  /-- Slices of a share that reached a stage (R261): stage, seam count, chunk, elements in the result format. -/
  slices : List (Nat × Nat × Nat × List Nat)
  /-- Updated weights handed to AG (R261): its descriptor, the place in the share of the first one, their codes. -/
  fed : List (Nat × Nat × List Nat)
  /-- Norm sums given to NORM, and those that came back, by its descriptor (R266). -/
  normIn : List (Nat × List Nat)
  normOut : List (Nat × List Nat)
  samples : List Sample
  /-- Layers reported silent since their RUN was 0 (R278). -/
  silent : List Nat
deriving DecidableEq, Repr

/-- A LOOKUP that holds a context (R288, R291): its table, the Crucible, the return label, the tick at which it was accepted, the
tick at which its response was formed, the response, the VC it leaves on. -/
structure Lookup where
  table : Nat
  cru : Nat
  label : Nat
  arrived : Nat
  ready : Nat
  payload : List Byte
  vc : Nat
deriving DecidableEq, Repr

/-- A row of the Ingot cache (R292): its row, whether it is pinned, the count of reads when it was last read, its cells. -/
structure CRow where
  row : Nat
  pinned : Bool
  used : Nat
  cells : List (Nat × Nat)
deriving DecidableEq, Repr

/-- A table update (R295, R296): the seam count and scheduled start of its epoch, its step, the latched LSCALE, the touched rows with
their new w, m and v as bytes, how many rows are copied, whether any stored weight changed, whether the commit began, and the
tick at which it was complete. -/
structure Update where
  table : Nat
  seam : Nat
  start : Nat
  step : Nat
  k : Int
  rows : List (Nat × List Byte × List Byte × List Byte)
  copied : Nat
  changed : Bool
  commit : Bool
  doneAt : Option Nat
deriving DecidableEq, Repr

/-- Stock. -/
structure StockState where
  lookups : List Lookup
  /-- GRADs in each table's log, in order: the cells that each takes and the rows it touches (R294). -/
  logs : List (Nat × List (Nat × List Nat))
  /-- Rows cached in the Ingot, by table (R292). -/
  cache : List (Nat × List CRow)
  /-- Cached reads so far: the clock of least recent use. -/
  reads : Nat
  updates : List Update
  /-- Tables whose update of this epoch has run. -/
  overT : List Nat
  /-- Bench of the next projection, by table (R289). -/
  turn : List (Nat × Nat)
  /-- Refusal statuses already reported since the apply (R298). -/
  noted : List Nat
deriving DecidableEq, Repr

end Sys2Proof.Machine
end

