-- ==== Sys2Proof/Machine/State.lean ====
section
/-! DEFINITION. The state of the node as plain data, and the state right after power-on reset. -/

namespace Sys2Proof.Machine

/-- Why a step may stop with a fault. No command of this block does: an error of the node is an effect on its state
(a report to the collector), so the type has one constructor, which no meaning raises. -/
inductive Fault where
  /-- Raised by nothing. Safe. -/
  | none
deriving DecidableEq, Repr

/-- Why a step may be refused by the model. -/
inductive Refusal where
  /-- An arm of the dispatch that has no meaning yet. Safe. -/
  | notModelled (mnemonic : String)
deriving DecidableEq, Repr

/-- The node. -/
structure State where
  /-- Commands waiting, first in, first out. -/
  pending : List Instr
  /-- The tick counter (R79); TG_NOW shows it modulo 2^64. -/
  now : Nat
  /-- Every register word that differs from its reset word, by byte address (R7, R12). -/
  regs : List (Nat × Word)
  /-- The W1C bits that the node set in the tick of `now`, by register address, last one first (R10, log 36). -/
  tickSets : List (Nat × Word)
  /-- Ingot and HBM, sparse over zeros (R447, R456). -/
  mem : List Host.Cell
  /-- Damaged words and blocks, by their first address (R456). -/
  errs : List (Nat × WordErr)
  /-- The model's own counter of free values (log 3). -/
  free : Nat
  /-- What left the node (log 8). -/
  outs : List Out
  cst : CstState
  tg : TgState
  flt : FltState
  sec : SecState
  mgt : MgtState
  pwr : PwrState
  det : DetState
  msys : MemState
  /-- Logical Benches that differ from the power-on one, by index (06). -/
  benches : List (Nat × Bench)
  mill : MillState
  fab : FabState
  coll : CollState
  temper : TemperState
  stock : StockState
deriving DecidableEq, Repr

/-- Right after power-on reset (R12, R78, R580): nothing staged, nothing cast, nothing sent; every register at its
reset value. -/
def State.reset : State :=
  { pending := [], now := 0, regs := [], tickSets := [], mem := [], errs := [], free := 0, outs := []
    cst := { img := [], staged := [], src := 0, len := 0, port := .hp0, autoCommit := false, spend := []
             drainStart := 0, seamDone := false, heldLow := [], heldHigh := [] }
    tg := { lockRun := 0, phase := none, tai := none, ppsEdge := none, ppsHigh := none, todDue := none
            readies := [], sentReady := false, ignoredNoted := false, start := none, continuing := false, epochStart := 0
            gates := [], overdue := [], offLost := false, lastRelease := 0, root := none, pps := false }
    flt := { reports := [], recent := [], errn := .idle, quenchBy := none }
    sec := { keyBlock := [], ownerDig := [], fwKeyDig := List.replicate 48 0, fwKey := List.replicate 96 0, keyCmd := none, attest := false, deny := []
             wait := [], lastCommit := none, queue := [], lost := none, marked := false, clear := none }
    mgt := { flash := [], flashCmd := none, overT := [], lastStep := List.replicate 6 0
             maxSince := List.replicate 6 none, calmSince := List.replicate 6 none, throttled := false
             rstLow := none, held := false, booting := false, warm := false, train := true, maskWas := 2 ^ 32 - 1 }
    pwr := { trans := [], starts := [], faulted := [], input := false }
    det := { insum := 0, outsum := 0, pos := 0, gap := none, gapNoted := false, logDone := false, stopped := [], vpos := [], shift := none }
    msys := { passI := 0, passH := 0, perI := 1200, perH := 14400, repair := none, remapped := [], rows := [], undef := [], seq := [], alive := [], badChk := [] }
    benches := []
    mill := { reload := none, swaps := [], noted := [], map := 0, ran := [], transit := [] }
    fab := FabState.init
    coll := ⟨[], []⟩
    temper := ⟨[], [], [], [], [], [], []⟩
    stock := ⟨[], [], [], 0, [], [], [], []⟩ }

end Sys2Proof.Machine
end

