-- ==== Sys2Proof/Machine/Ops.lean ====
section
/-! DEFINITION. The named operations that every meaning is built of: reads and writes of registers, time, reports to the
collector, hallmark events, outputs, and node memory. -/

namespace Sys2Proof.Machine

/-! ### Registers -/

/-- The stored word of the register at byte address `a` (R7). -/
def State.word (s : State) (a : Nat) : Word := Sparse.get regReset s.regs a

/-- Store a whole word. -/
def State.setWord (s : State) (a : Nat) (v : Word) : State :=
  { s with regs := Sparse.set regReset s.regs a v }

/-- The bits of a field in its word. -/
def Fld.mask (f : Fld) : Word := BitVec.ofNat 32 ((2 ^ f.width - 1) * 2 ^ f.lo)

/-- A field of a word. -/
def Fld.get (f : Fld) (w : Word) : Nat := w.toNat / 2 ^ f.lo % 2 ^ f.width

/-- A word with a field set; bits of the value past the field's width are dropped. -/
def Fld.put (f : Fld) (w : Word) (v : Nat) : Word :=
  (w &&& ~~~f.mask) ||| (BitVec.ofNat 32 (v * 2 ^ f.lo) &&& f.mask)

/-- Read a field (R5). -/
def State.rd (s : State) (f : Fld) : Nat := f.get (s.word f.addr)

/-- Write a field and leave the other bits of its word. -/
def State.wr (s : State) (f : Fld) (v : Nat) : State := s.setWord f.addr (f.put (s.word f.addr) v)

/-- Read a one-bit field. -/
def State.bit (s : State) (f : Fld) : Bool := s.rd f == 1

/-- Write a one-bit field. -/
def State.wrBit (s : State) (f : Fld) (b : Bool) : State := s.wr f (if b then 1 else 0)

/-- The node sets W1C bits of a register: a write of the same instant does not undo it (R10, log 36). -/
def State.raiseBits (s : State) (a : Nat) (m : Word) : State :=
  { s.setWord a (s.word a ||| m) with tickSets := (a, m) :: s.tickSets }

/-- The node sets a W1C bit. -/
def State.raise (s : State) (f : Fld) : State := s.raiseBits f.addr f.mask

/-- The W1C bits of a register that the node set in the tick of `now` (R10). -/
def State.setNow (s : State) (a : Nat) : Word :=
  (s.tickSets.filter (fun e => e.1 == a)).foldl (fun m e => m ||| e.2) 0

/-- The high half of a 64-bit value whose low half is `f` (R8). -/
def Fld.hi (f : Fld) : Fld := { f with addr := f.addr + 4 }

/-- Read a 64-bit value by its low register (R8). -/
def State.rd64 (s : State) (f : Fld) : Nat := s.rd f + 2 ^ 32 * s.rd f.hi

/-- Write a 64-bit value by its low register. -/
def State.wr64 (s : State) (f : Fld) (v : Nat) : State :=
  (s.wr f (v % 2 ^ 32)).wr f.hi (v / 2 ^ 32 % 2 ^ 32)

/-- Add to a counter that saturates. -/
def State.addSat (s : State) (f : Fld) (n : Nat) : State :=
  s.wr f (min (s.rd f + n) (2 ^ f.width - 1))

/-- Add 1 to a counter that saturates. -/
def State.inc (s : State) (f : Fld) : State := s.addSat f 1

/-- Add to a 64-bit counter, modulo 2^64. -/
def State.add64 (s : State) (f : Fld) (n : Nat) : State := s.wr64 f (s.rd64 f + n)

/-- Write a list of bytes to consecutive words from field `f 0` on, byte 4i in bits [7:0] of word i (R58). -/
def State.wrBytes (s : State) (f : Nat → Fld) (bs : List Byte) : State :=
  (List.range (bs.length / 4)).foldl (fun s i => s.wr (f i) (leAt bs (4 * i) 4)) s

/-- The bytes of `n` consecutive words. -/
def State.rdBytes (s : State) (f : Nat → Fld) (n : Nat) : List Byte :=
  (List.range n).flatMap (fun i => leBytes 4 (s.rd (f i)))

/-- Give every word of a list of addresses its reset value. -/
def State.resetWords (s : State) (as : List Nat) : State :=
  as.foldl (fun s a => s.setWord a (regReset a)) s

/-! ### Time -/

/-- A row occurs at tick `t`: the counter moves forward to it and never backward (R80; log 2). -/
def State.at (s : State) (t : Nat) : State :=
  { s with now := max s.now t, tickSets := if s.now < t then [] else s.tickSets }

/-! ### Outputs, reports and hallmark events -/

/-- Record an output (log 8). -/
def State.out (s : State) (o : Out) : State := { s with outs := s.outs ++ [o] }

/-- A checker flags a fault: the report waits for the collector (R513). -/
def State.flag (s : State) (r : Report) : State :=
  { s with flt := { s.flt with reports := s.flt.reports ++ [r] } }

/-- Whether an injection caused a memory fault (R529): no row but an injection damages a stored word, so one that names a
damaged word of memory, or a Bench with a damaged store, is. -/
def State.injMem (s : State) (c : FClass) (m : Master) (addr : Nat) : Bool :=
  c == .mem && (s.errs.any (fun e => e.1 == addr) ||
    (m.kind == 0 && s.benches.any (fun b => b.1 == m.idx && !b.2.damage.isEmpty)))

/-- A fault flagged now; the address is that of a memory fault and otherwise 0 (R516). -/
def State.fault (s : State) (c : FClass) (level code : Nat) (m : Master) (acc : Nat := 7) (addr : Nat := 0)
    (inj : Bool := false) : State :=
  s.flag { cls := c, level := level, code := code, master := m, acc := acc, addr := addr, tick := s.now
           inj := inj || s.injMem c m addr, conseq := false }

/-- A consequent fault (R519). -/
def State.faultConseq (s : State) (c : FClass) (level code : Nat) (m : Master) (acc : Nat := 7) : State :=
  s.flag { cls := c, level := level, code := code, master := m, acc := acc, addr := 0, tick := s.now
           inj := false, conseq := true }

/-- Continuation records of a body past its first 20 bytes (R552). -/
def hallConts (tick flags : Nat) : Nat → List Byte → List HRec
  | 0, _ => []
  | n + 1, b => ⟨tick, 0, 0, flags, slice b 0 20⟩ :: hallConts tick flags n (b.drop 20)

/-- The records of an event (R552): a lead and its continuations. -/
def hallRecs (tick ty flags : Nat) (body : List Byte) : List HRec :=
  let n := (body.length - 20 + 19) / 20
  ⟨tick, ty, n, flags, slice body 0 20⟩ :: hallConts tick flags n (body.drop 20)

/-- Put an event into the queue for the chain (R554): after every event of an earlier tick and, within its tick, after
those that come before it in order; an event whose first records are committed stays in front. -/
def hallInsert (g : HGroup) : List HGroup → List HGroup
  | [] => [g]
  | h :: hs => if g.tick < h.tick ∨ (g.tick = h.tick ∧ g.key < h.key) then g :: h :: hs else h :: hallInsert g hs

/-- An event is hallmarked now; `key` orders it within its tick (R554). -/
def State.hallKey (s : State) (key ty flags : Nat) (body : List Byte) : State :=
  { s with sec := { s.sec with wait := hallInsert ⟨s.now, key, hallRecs s.now ty flags body⟩ s.sec.wait } }

/-- An event is hallmarked now, ordered by its type, after the faults of the tick (R553, R554). -/
def State.hall (s : State) (ty : Nat) (body : List Byte) (auto : Bool := false) : State :=
  s.hallKey (16 * ty + 1) ty (if auto then 4 else 0) body

/-- An event that follows directly the event of type `lead` of the same tick: the changes a seam applies, the guard
values an apply sets (R554). -/
def State.hallAfter (s : State) (lead ty : Nat) (body : List Byte) : State := s.hallKey (16 * lead + 2) ty 0 body

/-- The next free value (log 3). -/
def State.freeVal (s : State) : Nat := Config.freeNat s.free

/-- The free counter moves on. -/
def State.freeNext (s : State) : State := { s with free := s.free + 1 }

/-- Power domain d is On (R589, R604). -/
def State.domOn (s : State) (d : Nat) : Bool := s.rd (PWR_STATE_STATE d) == 0

/-! ### Node memory -/

/-- First address of the Ingot (R447). -/
def ingotBase : Nat := 0x8000000000
/-- Bytes of one HBM stack (R447). -/
def stackSize : Nat := 0x900000000
/-- End of HBM (R447). -/
def hbmEnd : Nat := 0x4800000000

/-- The HBM group that holds an address, node-wide (R449). -/
def groupOf (a : Nat) : Nat := 16 * (a / stackSize) + a % stackSize / 256 % 16

/-- Whether an address holds no defined contents by an entry (R393, R469). -/
def Undef.covers (e : Undef) (a : Nat) : Bool :=
  match e.group with
  | some (g, l) => decide (a < hbmEnd) && groupOf a == g && (l == 64 || l == a % 64)
  | none => decide (e.lo ≤ a ∧ a < e.hi)

/-- The default byte of memory: a word not written since it came On reads zeros (R456); one that a repair moved (R469), or an Ingot
cell that was pooled (R393), holds no value until it is written. -/
def memDefault (u : List Undef) (a : Nat) : Byte :=
  match u.find? (fun e => e.covers a) with
  | some e => Config.undefByte a e.free
  | none => 0

/-- The byte at a node memory address, as stored. -/
def State.byteAt (s : State) (a : Nat) : Byte := Sparse.get (memDefault s.msys.undef) s.mem a

/-- The canonical form of a memory (addresses strictly rising, no entry equal to what an unlisted address reads as). -/
def Memory.wf (u : List Undef) (m : List Host.Cell) : Bool := Sparse.wf (memDefault u) m

/-- `n` bytes from address `a`, as stored. -/
def State.bytesAt (s : State) (a : Nat) : Nat → List Byte
  | 0 => []
  | n + 1 => s.byteAt a :: State.bytesAt s (a + 1) n

/-- Memory that an entry covers loses its contents until it is written (R393, R469). -/
def State.undefine (s : State) (g : Option (Nat × Nat)) (lo hi : Nat) : State :=
  let e : Undef := ⟨g, lo, hi, s.free⟩
  { s with
    mem := s.mem.filter (fun c => !e.covers c.1), msys := { s.msys with undef := e :: s.msys.undef }, free := s.free + 1 }

/-- Store bytes from address `a` on. -/
def State.setBytes (s : State) (a : Nat) (bs : List Byte) : State :=
  { s with mem := Sparse.setList (memDefault s.msys.undef) s.mem a bs }

/-- The memory targets of R546: 0 and 1 the Ingot of S0 and S1, 2 + h stack Hh; none where the address is unmapped by
the address map alone (R447). -/
def targetOf (a : Nat) : Option Nat :=
  if a < hbmEnd then some (2 + a / stackSize)
  else if ingotBase ≤ a ∧ a < ingotBase + 2 ^ 29 then some ((a - ingotBase) / 2 ^ 28)
  else none

/-- Bytes of the code word that holds an address: 64 in HBM, 32 in the Ingot (R454, R455). -/
def wordSize (a : Nat) : Nat := if a < hbmEnd then 64 else 32

/-- First address of the code word that holds `a`. -/
def wordBase (a : Nat) : Nat := a / wordSize a * wordSize a

/-- The code words that a span touches. -/
def wordsOf (a n : Nat) : List Nat :=
  if n = 0 then []
  else (List.range ((wordBase (a + n - 1) - wordBase a) / wordSize a + 1)).map (fun i => wordBase a + i * wordSize a)

/-- What a read of a code word finds (R456). A pattern of three or more bad symbols may be miscorrected: whether it
is detected is free (log 3). -/
inductive WordRead where
  | clean
  | corrected (l : List Nat)
  | uncorrectable
  | poisoned
deriving DecidableEq, Repr

/-- The damage of a word. -/
def State.errAt (s : State) (w : Nat) : Option WordErr := (s.errs.find? (fun e => e.1 == w)).map (·.2)

/-- Decoding of a stored word (R456). -/
def State.decodeWord (s : State) (w : Nat) : WordRead :=
  match s.errAt w with
  | none => .clean
  | some .poison => .poisoned
  | some .allCheck => if (s.bytesAt w (wordSize w)).all (· == 0xFF) then .poisoned else .uncorrectable
  | some (.symbols l) =>
    if l.length = 0 then .clean
    else if l.length ≤ 2 then .corrected l
    else if s.freeVal % 2 = 1 then .corrected l else .uncorrectable

/-- The damage of a word removed. -/
def State.clearErr (s : State) (w : Nat) : State := { s with errs := Sparse.del s.errs w }

/-- The damage of a word set. -/
def State.setErr (s : State) (w : Nat) (e : WordErr) : State := { s with errs := Sparse.put s.errs w e }

/-- Count a corrected read (R465). -/
def State.countCorrected (s : State) (w : Nat) (l : List Nat) : State :=
  if w < hbmEnd then
    let s := s.inc (MEM_HCE (w / stackSize))
    match l with
    | [i] =>
      let g := groupOf w
      if s.rd (MEM_HLINE_LINE g) = i ∧ s.rd (MEM_HLINE_COUNT g) ≠ 0 then s.inc (MEM_HLINE_COUNT g)
      else (s.wr (MEM_HLINE_LINE g) i).wr (MEM_HLINE_COUNT g) 1
    | _ => s
  else s.inc (MEM_ICE ((w - ingotBase) / 2 ^ 28))

/-- Count an uncorrectable or poisoned read and capture the first since power-on (R465, R470). -/
def State.countUncorr (s : State) (w : Nat) (m : Master) (ty : Nat) (poisoned : Bool) : State :=
  let s := if w < hbmEnd then s.inc (MEM_HUE (w / stackSize)) else s.inc (MEM_IUE ((w - ingotBase) / 2 ^ 28))
  if s.bit MEM_UE_INFO_VALID then s
  else
    let s := s.wr MEM_UE_INFO_MASTER m.code
    let s := s.wr MEM_UE_INFO_TYPE ty
    let s := s.wrBit MEM_UE_INFO_POISON poisoned
    let s := s.wrBit MEM_UE_INFO_VALID true
    let s := s.wr64 MEM_UE_ADDR_LO w
    s.wr64 MEM_UE_TICK_LO s.now

/-- One code word is read (R456): corrections are counted, an uncorrectable word is poisoned; the answer is whether it
gives data. -/
def State.readWord (s : State) (m : Master) (ty : Nat) (w : Nat) : Bool × State :=
  match s.decodeWord w with
  | .clean => (true, s)
  | .corrected l =>
    let s := s.countCorrected w l
    if l.length ≤ 2 then (true, s)
    else
      let bs := (List.range (wordSize w)).map (fun i => Config.miscorrect (w + i) s.free)
      (true, (s.setBytes w bs).freeNext)
  | .uncorrectable => (false, ((s.countUncorr w m ty false).setErr w .poison).freeNext)
  | .poisoned => (false, s.countUncorr w m ty true)

/-- Read the code words of a list; the answer is whether all give data. -/
def State.readWords (s : State) (m : Master) (ty : Nat) : List Nat → Bool × State
  | [] => (true, s)
  | w :: ws =>
    let (ok, s) := s.readWord m ty w
    let (ok2, s) := State.readWords s m ty ws
    (ok && ok2, s)

/-- One item passes the generator of a checker (R528, R529): whether an armed injection of that kind and index meets it; the
count goes down, and the last item ends the injection. -/
def State.takeInj (s : State) (kind idx : Nat) : Bool × State :=
  if s.bit FLT_INJ_LEFT_ARMED && decide (0 < s.rd FLT_INJ_LEFT_LEFT) && s.rd FLT_INJ_KIND == kind &&
      s.rd FLT_INJ_INDEX == idx then
    let left := s.rd FLT_INJ_LEFT_LEFT - 1
    let s := s.wr FLT_INJ_LEFT_LEFT left
    (true, if left = 0 then s.wrBit FLT_INJ_LEFT_ARMED false else s)
  else (false, s)

/-- The damage that an injection does to the check symbols from symbol `base` on (R528). -/
def State.injErr (s : State) (base : Nat) : WordErr :=
  match s.rd FLT_INJ_SYM with | 0 => .symbols [base] | 1 => .symbols [base, base + 1] | _ => .allCheck

/-- The injection that a write to word `w` meets (R528): kind 1 an addressed Ingot die, kind 3 an HBM group. -/
def State.injectWord (s : State) (w : Nat) : State :=
  let (kind, idx) := if w < hbmEnd then (3, groupOf w) else (1, (w - ingotBase) / 2 ^ 28)
  let e := s.injErr (wordSize w)
  let (hit, s) := s.takeInj kind idx
  if hit then s.setErr w e else s

/-- The access stream of a master (R299, R480): Stock, Mill, replay, Burnish, else staging, which takes what no class takes (log 89). -/
def streamOf (m : Master) : Nat := match m.kind with | 2 => 0 | 0 | 1 | 12 => 1 | 15 => 2 | 5 => 3 | _ => 4

/-- The count of an access stream (R480). -/
def aliveOf (l : List (Nat × Nat)) (k : Nat) : Nat := Sparse.get (fun _ => 0) l k
def aliveSet (l : List (Nat × Nat)) (k n : Nat) : List (Nat × Nat) := Sparse.set (fun _ => 0) l k (n % 2 ^ 16)

/-- An alive break of a group (R480): counted, captured, a MEM fault; nothing but an injection makes the numbers differ (R528, R529; log 61). -/
def State.aliveBreak (s : State) (g : Nat) : State :=
  let u := 640 + g
  let s := s.inc (TM_ABREAK u)
  let s := if s.bit TM_FIRST_VALID then s
    else ((s.wr TM_FIRST_UNIT u).wr TM_FIRST_CAUSE 5).wrBit TM_FIRST_VALID true
  s.fault .mem 2 5 (mUnit u) 7 0 true

/-- An access of an HBM group is numbered by the controller and checked by the group's unit, which goes on from the number that it received;
an injection inverts that number (R480, R528). -/
def State.groupAccess (s : State) (m : Master) (w : Nat) : State :=
  if w < hbmEnd then
    let g := groupOf w
    let k := 5 * g + streamOf m
    let n := aliveOf s.msys.seq k
    let want := aliveOf s.msys.alive k
    let (hit, s) := s.takeInj 10 g
    let got := if hit then 2 ^ 16 - 1 - n else n
    let s := { s with msys := { s.msys with seq := aliveSet s.msys.seq k (n + 1), alive := aliveSet s.msys.alive k (got + 1) } }
    if got = want then s else s.aliveBreak g
  else s

/-- The check values that HBM groups generate for the cells of a span that is read (R475): whether an injection inverted one of them
(R528). -/
def State.cellChecks (s : State) (a n : Nat) : Bool × State :=
  ((wordsOf a n).filter (fun w => decide (w < hbmEnd) && (decide (w % 256 = 0) || w == wordBase a))).foldl (fun (r : Bool × State) w =>
    let u := 640 + groupOf w
    if r.2.bit (TM_CFG_EN u) then let (hit, s) := r.2.takeInj 8 u; (r.1 || hit, s) else r) (false, s)

/-- Read a span (R456, R464): its bytes, none on a MEM error; and whether its cell checks match them, which a cell of the Ingot keeps (R475). -/
def State.memReadChk (s : State) (m : Master) (a n : Nat) : Option (List Byte) × Bool × State :=
  let (ok, s) := ((wordsOf a n).foldl (fun s w => s.groupAccess m w) s).readWords m 0 (wordsOf a n)
  if ok then
    let (hit, s) := s.cellChecks a n
    (some (s.bytesAt a n), !hit && !s.msys.badChk.any (fun c => decide (a < c + 256 ∧ c < a + n)), s)
  else (none, true, s)

/-- Read a span: its bytes, or a MEM error. -/
def State.memRead (s : State) (m : Master) (a n : Nat) : Option (List Byte) × State :=
  let r := s.memReadChk m a n
  (r.1, r.2.2)

/-- The poisoned words of a span, and the address that a failed access of it shows: the first of them (R516). -/
def State.badWords (s : State) (a n : Nat) : List Nat := (wordsOf a n).filter (fun w => s.errAt w == some .poison)
def State.badAddr (s : State) (a n : Nat) : Nat := (s.badWords a n).headD a

/-- One code word of a write of `bs` at `a` (R452): a whole word replaces what was there; a partial one reads first,
and leaves the word unchanged and errs where it finds no data. -/
def State.writeWord (s : State) (m : Master) (a : Nat) (bs : List Byte) (w : Nat) : Bool × State :=
  let lo := max a w
  let hi := min (a + bs.length) (w + wordSize w)
  let part := (bs.drop (lo - a)).take (hi - lo)
  let (ok, s) := if hi - lo = wordSize w then (true, s) else s.readWord m 1 w
  if ok then (true, ((s.clearErr w).setBytes lo part).injectWord w) else (false, s)

/-- The words of a write, one by one (R452, R453). -/
def State.writeWords (s : State) (m : Master) (a : Nat) (bs : List Byte) : List Nat → Bool × State
  | [] => (true, s)
  | w :: ws =>
    let (ok, s) := s.writeWord m a bs w
    let (ok2, s) := State.writeWords s m a bs ws
    (ok && ok2, s)

/-- Cells of a span get checks that match (R475). -/
def State.newChecks (s : State) (a n : Nat) : State :=
  { s with msys := { s.msys with badChk := s.msys.badChk.filter (fun c => !decide (a < c + 256 ∧ c < a + n)) } }

/-- Write a span; the answer is false on a MEM error of a partial word (R452). The switch core generates the checks of the cells (R475). -/
def State.memWrite (s : State) (m : Master) (a : Nat) (bs : List Byte) : Bool × State :=
  (((wordsOf a bs.length).foldl (fun s w => s.groupAccess m w) s).newChecks a bs.length).writeWords m a bs (wordsOf a bs.length)

/-- A repair runs on the stack of an address: every other access to it waits (R467). -/
def State.repairing (s : State) (a : Nat) : Bool := decide (a < hbmEnd) && s.msys.repair.any (fun r => r.2.1 % 8 == a / stackSize)

/-! ### Node state -/

/-- The node states of R51 by their codes (R56). -/
def stUncast : Nat := 0
def stApplying : Nat := 1
def stCast : Nat := 2
def stDraining : Nat := 3

/-- CST_STATE.STATE (R56). -/
def State.nodeState (s : State) : Nat := s.rd CST_STATE_STATE

/-- A Casting is in force: CAST or DRAINING (R51). -/
def State.inForce (s : State) : Bool := s.nodeState == stCast || s.nodeState == stDraining

/-- The job is quenched (R521). -/
def State.quenched (s : State) : Bool := s.bit CST_STATE_QUENCHED

/-- The node is quenched (R522). -/
def State.nodeQuenched (s : State) : Bool := s.bit FLT_STAT_NODEQ

/-- A local port is fenced (R414). -/
def State.portFenced (s : State) (k : Nat) : Bool := s.rd (RT_PFENCE (k / 32)) / 2 ^ (k % 32) % 2 == 1

/-- The node is ready: boot is complete (R571). -/
def State.ready (s : State) : Bool := s.bit MGT_BOOT_READY

/-- A register command outside the MGT, FLT and SEC blocks acts once the node is ready (R571); a command field whose instance lies
in domain `d` acts while that domain is On (R610). -/
def State.cmd (s : State) (d : Option Nat) (f : State → State) : State :=
  if s.ready && d.all s.domOn then f s else s

/-- Each host port sends MSI-X vector 2 on a change of CST_STATE or a completion (R563). -/
def State.msix (s : State) (vector : Nat) : State := (s.out (.msix 0 vector)).out (.msix 1 vector)

/-- The node state changes (R56, R58): STATE, the tick of the change, an interrupt, and the STATE hallmark with the
host S-class writes discarded (R70, R553). -/
def State.toNodeState (s : State) (new discarded : Nat) : State :=
  let old := s.nodeState
  let s := s.wr CST_STATE_STATE new
  let s := s.wr64 CST_SINCE_LO s.now
  let s := s.hall 5 ([BitVec.ofNat 8 old, BitVec.ofNat 8 new, 0, 0] ++ leBytes 4 discarded)
  s.msix 2

/-- An SW-class fault at level note for a refused write or command (R69, R76). -/
def State.swNote (s : State) (code : Nat) (m : Master) : State := s.fault .sw 0 code m 3

/-- A register write is refused (R69): WRITE_REF and CODE are set and an SW note is logged. -/
def State.writeRefused (s : State) (code : Nat) (m : Master) : State :=
  let s := s.raise CST_ERR_WRITE_REF
  ((s.wr CST_ERR_CODE code).wr CST_ERR_DETAIL 0).swNote code m

/-- A register write refused by the rule of its own block, which names no CST_ERR code: WRITE_REF is set and an SW note
is logged (R69; DEDUCED, log 9). -/
def State.ruleRefused (s : State) (m : Master) : State :=
  (s.raise CST_ERR_WRITE_REF).swNote 0 m

/-! ### The Casting image -/

/-- The directory entry number `i` of an image: TYPE, SVER, FLAGS, OFFSET, SIZE (R43). -/
def imgDir (img : List Byte) (i : Nat) : Nat × Nat × Nat × Nat × Nat :=
  let o := 256 + 32 * i
  (leAt img o 2, leAt img (o + 2) 2, leAt img (o + 4) 4, leAt img (o + 8) 8, leAt img (o + 16) 8)

/-- The number of directory entries (R41). -/
def imgDirCount (img : List Byte) : Nat := leAt img 6 2

/-- The section of a TYPE: its bytes, none when absent (R44). -/
def imgSection (img : List Byte) (ty : Nat) : Option (List Byte) :=
  match (List.range (imgDirCount img)).find? (fun i => (imgDir img i).1 == ty) with
  | none => none
  | some i => let (_, _, _, o, n) := imgDir img i; some (slice img o n)

/-- A section's bytes, empty when absent. -/
def sect (img : List Byte) (ty : Nat) : List Byte := (imgSection img ty).getD []

def tyPORT : Nat := 1
def tyMAND : Nat := 2
def tyCRUC : Nat := 3
def tyPOOL : Nat := 4
def tyGATE : Nat := 5
def tyGILD : Nat := 6
def tyKERN : Nat := 7
def tyNUMP : Nat := 8
def tySTCK : Nat := 9
def tySEAM : Nat := 10
def tyFLDS : Nat := 11

/-- Entry i of FLDS: ADDR, VALUE, MASK, AT (R46). -/
def fldsEntry (x : List Byte) (i : Nat) : Nat × Nat × Nat × Nat :=
  (leAt x (16 * i) 4, leAt x (16 * i + 4) 4, leAt x (16 * i + 8) 4, leAt x (16 * i + 12) 4)

/-- Header fields of R41. -/
def imgContract (img : List Byte) : Nat := leAt img 16 2
def imgScale (img : List Byte) : Nat := leAt img 18 1
def imgFlags (img : List Byte) : Nat := leAt img 19 1
def imgMapInv (img : List Byte) : Bool := imgFlags img % 2 == 1
/-- Size of axis `i`, W to Z. -/
def imgAxis (img : List Byte) (i : Nat) : Nat := leAt img (20 + i) 1
/-- This node's coordinate on axis `i`. -/
def imgCoord (img : List Byte) (i : Nat) : Nat := leAt img (24 + i) 1
def imgHallMap (img : List Byte) : Nat := leAt img 28 4
def imgMinHalls (img : List Byte) : Nat := leAt img 32 1
def imgJob (img : List Byte) : Nat := leAt img 40 8
def imgSystem (img : List Byte) : List Byte := slice img 48 16
def imgSeq (img : List Byte) : Nat := leAt img 64 8
/-- Coordinate of the time root on axis `i`. -/
def imgRoot (img : List Byte) (i : Nat) : Nat := leAt img (72 + i) 1
/-- The number of nodes an image declares (R27). -/
def imgNodes (img : List Byte) : Nat := imgAxis img 0 * imgAxis img 1 * imgAxis img 2 * imgAxis img 3
/-- The signing-key slot on the signature page (R49). -/
def imgKeySlot (img : List Byte) : Nat := leAt img (img.length - 4096 + 4) 2
/-- The Casting digest (R48). -/
def imgDigest (img : List Byte) : List Byte := sha384 (img.take (img.length - 4096))

/-- A coordinate (w, x, y, z) as one number, 3 bits an axis, w lowest. -/
def coordCode (c : Nat → Nat) : Nat := c 0 + 8 * c 1 + 64 * c 2 + 512 * c 3

/-! ### Halls -/

/-- The enabled-Hall mask (R154). -/
def State.hallMap (s : State) : Nat :=
  (~~~(s.word MIL_HALL_FUSE.addr ||| s.word MIL_HALL_DIS.addr)).toNat

/-- Whether Hall h is enabled. -/
def State.hallOn (s : State) (h : Nat) : Bool := s.hallMap / 2 ^ h % 2 == 1

/-- The enabled Halls in increasing order. -/
def maskHalls (m : Nat) : List Nat := (List.range 32).filter (fun h => m / 2 ^ h % 2 == 1)

/-- The physical Bench of slot `i` on a map (R157). -/
def slotBench (m i : Nat) : Nat := 32 * (maskHalls m).getD (i / 32) 0 + i % 32

/-- The number of logical Benches a Casting assigns: NLB of its KERN section (R157, R174). -/
def kernN (img : List Byte) : Nat := leAt (sect img tyKERN) 0 4

/-- The mask that placement uses (R157): the one on which the Casting in force was applied, else the node's own. -/
def State.placeMap (s : State) : Nat := if s.inForce then s.mill.map else s.hallMap

/-- P of R157 on that mask. -/
def State.physN (s : State) : Nat := 32 * (maskHalls s.placeMap).length

/-- The physical Bench that hosts logical Bench `l` (R157). -/
def State.physOf (s : State) (l : Nat) : Nat := slotBench s.placeMap (if s.physN = 0 then 0 else l % s.physN)

/-- The logical Benches that share logical Bench `l`'s physical Bench, in increasing order (R157). -/
def State.coHosted (s : State) (l : Nat) : List Nat :=
  (List.range (kernN s.cst.img)).filter (fun j => s.physN ≠ 0 && j % s.physN == l % s.physN)

/-- Whether the Casting in force places a logical Bench on Hall h (R155). -/
def State.hallPlaced (s : State) (h : Nat) : Bool :=
  s.inForce && (List.range (min (kernN s.cst.img) s.physN)).any (fun l => s.physOf l / 32 == h)

end Sys2Proof.Machine
end

