-- ==== Sys2Proof/Machine/Guild.lean ====
section
/-! DEFINITION. The KERN tables that other units read (R174), the address rules of node memory (R448 to R451) and guild
tables (R546 to R550). -/

namespace Sys2Proof.Machine

/-- The next multiple of 8 (R174). -/
def up8 (n : Nat) : Nat := (n + 7) / 8 * 8

/-- Offset of the group masks in a KERN section (R174). -/
def kernGroupsOff (k : List Byte) : Nat := up8 (64 + 4 * leAt k 0 4)
/-- Offset of the image directory in a KERN section (R174). -/
def kernDirOff (k : List Byte) : Nat := up8 (kernGroupsOff k + 128 * leAt k 8 4)
/-- Number of library images (R174). -/
def kernImgs (k : List Byte) : Nat := leAt k 4 4
/-- Number of broadcast groups (R174). -/
def kernGroups (k : List Byte) : Nat := leAt k 8 4
/-- Library image `i` of a KERN section: its bytes (R174). -/
def kernImage (k : List Byte) (i : Nat) : List Byte :=
  let o := kernDirOff k + 8 * i
  slice k (leAt k o 4) (leAt k (o + 4) 4)
/-- Whether logical Bench `l` is in broadcast group `g` (R174). -/
def kernInGroup (k : List Byte) (g l : Nat) : Bool :=
  decide (g < kernGroups k) && leAt k (kernGroupsOff k + 128 * g + l / 8) 1 / 2 ^ (l % 8) % 2 == 1
/-- The members of a broadcast group. -/
def kernMembers (k : List Byte) (g : Nat) : List Nat := (List.range (leAt k 0 4)).filter (kernInGroup k g)

/-- Bytes of the fold save area for N logical Benches on P physical ones (R159, R450). -/
def foldBytes (n p : Nat) : Nat := (n - min n p) * (328 * 1024)

/-- P that R547 takes for the largest fold save area of a Casting. -/
def imgMinP (img : List Byte) : Nat :=
  32 * (if imgMapInv img then imgMinHalls img else (maskHalls (imgHallMap img)).length)

/-- The reserved HBM regions that exist now, as (first address, bytes) (R450). -/
def State.reserved (s : State) : List (Nat × Nat) :=
  let cast := s.inForce
  let n := kernN s.cst.img
  [(0x8F8000000, 0x8000000)] ++
  (if cast ∧ 0 < n then
    let k := ((sect s.cst.img tyKERN).length + 0xFFFFF) / 0x100000 * 0x100000
    [(0x3F00000000 - k, k)] else []) ++
  (if cast ∧ s.physN < n then [(hbmEnd - foldBytes n s.physN, foldBytes n s.physN)] else []) ++
  (if 0 < s.rd DET_STAT_MODE then [(s.rd64 DET_LBASE_LO / 2 ^ 20 % 2 ^ 20 * 2 ^ 20, s.rd DET_LSIZE_SIZE * 0x100000)] else [])

/-- Whether a span meets a region. -/
def meets (a n : Nat) (r : Nat × Nat) : Bool := decide (a < r.1 + r.2 ∧ r.1 < a + n)

/-- PCELLS of a die (R359). -/
def State.pcells (s : State) (d : Nat) : Nat := s.rd (BP_PCELLS_PCELLS d)

/-- Whether a span lies in mapped, addressed memory of one target: a stack that is trained and On, or addressed Ingot
cells (R447, R448, R451, R472). -/
def State.mapped (s : State) (a n : Nat) : Bool :=
  match targetOf a with
  | none => false
  | some t =>
    if t < 2 then
      decide (ingotBase + t * 2 ^ 28 + 256 * s.pcells t ≤ a ∧ a + n ≤ ingotBase + (t + 1) * 2 ^ 28)
    else decide (a + n ≤ (t - 1) * stackSize) && s.bit (MEM_HSTAT_READY (t - 2))

/-- Whether any master can be granted the span: mapped and outside every reserved region that exists (R451). -/
def State.grantable (s : State) (a n : Nat) : Bool :=
  s.mapped a n && !(s.reserved.any (meets a n))

/-- The master a guild check names: kind code of R546 and index. -/
structure GMaster where
  kind : Nat
  idx : Nat
deriving DecidableEq, Repr

/-- The access types of a guild check: the bit of RIGHTS they need (R547). -/
inductive GAcc where
  | r | w | f
deriving DecidableEq, Repr

def GAcc.code (a : GAcc) : Nat := match a with | .r => 0 | .w => 1 | .f => 2

/-- Offset of the grants in a GILD section (R547). -/
def gildGrantsOff (g : List Byte) : Nat := (64 + 32 * leAt g 0 4 + 63) / 64 * 64

/-- Whether grant entry `i` gives the master the right (R548). -/
def gildGrants (img g : List Byte) (i : Nat) (m : GMaster) (acc : GAcc) : Bool :=
  let o := gildGrantsOff g + 16 * i
  let kind := leAt g o 1
  let lo := leAt g (o + 4) 4
  let hi := leAt g (o + 8) 4
  (leAt g (o + 1) 1 / 2 ^ acc.code % 2 == 1) &&
  ((kind == m.kind && decide (lo ≤ m.idx ∧ m.idx ≤ hi)) ||
   (kind == 2 && m.kind == 1 && (List.range (hi + 1 - lo)).any (fun j => kernInGroup (sect img tyKERN) (lo + j) m.idx)))

/-- The region entry that holds an address and grants the right: its end (R547, R548). -/
def gildRegion (img g : List Byte) (t a : Nat) (m : GMaster) (acc : GAcc) : Option Nat :=
  match (List.range (leAt g 0 4)).find? (fun i =>
    let o := 64 + 32 * i
    leAt g o 1 == t && decide (leAt g (o + 8) 8 ≤ a ∧ a < leAt g (o + 8) 8 + leAt g (o + 16) 8)) with
  | none => none
  | some i =>
    let o := 64 + 32 * i
    if (List.range (leAt g (o + 1) 1)).any (fun j => gildGrants img g (leAt g (o + 4) 4 + j) m acc)
    then some (leAt g (o + 8) 8 + leAt g (o + 16) 8) else none

/-- Whether regions of the target that grant the right cover the span, region after region. -/
def gildCovers (img g : List Byte) (t : Nat) (m : GMaster) (acc : GAcc) : Nat → Nat → Nat → Bool
  | 0, _, _ => false
  | fuel + 1, a, stop =>
    if stop ≤ a then true
    else match gildRegion img g t a m acc with
      | none => false
      | some e => gildCovers img g t m acc fuel e stop

/-- Whether a span is granted (R548, R549). -/
def State.granted (s : State) (m : GMaster) (acc : GAcc) (a n : Nat) : Bool :=
  if s.grantable a n = false then false
  else if s.inForce then
    let g := sect s.cst.img tyGILD
    match targetOf a with
    | none => false
    | some t => gildCovers s.cst.img g t m acc (leAt g 0 4 + 1) a (a + n)
  else m.kind == 4 || m.kind == 5

/-- The DENY record of refusals (R553). -/
def denyBody (w : DenyWin) : List Byte :=
  [BitVec.ofNat 8 w.target, BitVec.ofNat 8 w.kind, BitVec.ofNat 8 w.acc, 0] ++ leBytes 4 w.idx ++ leBytes 8 w.addr ++
    leBytes 4 w.len ++ leBytes 4 w.count

/-- DENY_WINDOW_END: windows of 2^20 ticks that have passed are hallmarked where refusals were counted in them (R550). -/
def State.denyEnd (s : State) : State :=
  let overT (w : DenyWin) : Bool := decide (w.first + 2 ^ 20 ≤ s.now)
  let done := s.sec.deny.filter overT
  let s := { s with sec := { s.sec with deny := s.sec.deny.filter (fun w => !overT w) } }
  (done.filter (fun w => w.count ≠ 0)).foldl (fun s w => s.hall 0xD (denyBody w)) s

/-- A refused span is counted, captured and hallmarked, at once or with its window (R550), once windows that have passed have ended. The fault is raised by the
chapter that owns the access. -/
def State.deny (s : State) (m : GMaster) (acc : GAcc) (a n : Nat) : State :=
  let t := (targetOf a).getD 0xFF
  let s := s.denyEnd.inc SEC_DENY
  let s :=
    if s.bit SEC_DFIRST_VALID then s
    else
      let s := s.wr SEC_DFIRST_TARGET (if t = 0xFF then 0xF else t)
      let s := s.wr SEC_DFIRST_KIND m.kind
      let s := s.wr SEC_DFIRST_ACC acc.code
      let s := s.wr SEC_DFIRST_INDEX m.idx
      s.wrBit SEC_DFIRST_VALID true
  let same (w : DenyWin) := w.kind == m.kind && w.idx == m.idx && w.target == t && w.acc == acc.code
  if s.sec.deny.any same then
    { s with sec := { s.sec with deny := s.sec.deny.map (fun w =>
      if same w then { w with count := w.count + 1, addr := a, len := n } else w) } }
  else
    let w : DenyWin := ⟨m.kind, m.idx, t, acc.code, s.now, 0, a, n⟩
    let s := s.hall 0xD (denyBody { w with count := 1 })
    { s with sec := { s.sec with deny := s.sec.deny ++ [w] } }

end Sys2Proof.Machine
end

