-- ==== Sys2Proof/Machine/Fab.lean ====
section
/-! DEFINITION. What the fabric commands share: ports (R22, R23), flit headers (R331, R332), control symbols and their queue
(R330, R335, R336), the buffer pools (R358 to R370), and ports going down (R350, R384, R385). -/

namespace Sys2Proof.Machine

/-- Port `k`. -/
def State.port (s : State) (k : Nat) : Port := Sparse.get (fun _ => Port.init) s.fab.ports k

/-- Store port `k`. -/
def State.setPort (s : State) (k : Nat) (p : Port) : State :=
  { s with fab := { s.fab with ports := Sparse.set (fun _ => Port.init) s.fab.ports k p } }

/-- The switch die of a port (R22). -/
def dieOf (k : Nat) : Nat := k / 128

/-- Whether a port is an endpoint port (R22). -/
def isEndpoint (k : Nat) : Bool := decide (k % 128 < 64)

/-- The direction of a fabric port: 0 = +W, 1 = -W, 2 = +X and so on (R22, R111). -/
def dirOf (k : Nat) : Nat := (k % 128 - 64) / 16 + 4 * (k / 128)

/-- The first port of a direction's engine. -/
def dirPort (d : Nat) : Nat := 128 * (d / 4) + 64 + 16 * (d % 4)

/-- The endpoint-port index of an endpoint port, and its port (R25). -/
def epIdx (k : Nat) : Nat := k % 128 + 64 * (k / 128)
def epPort (n : Nat) : Nat := if n < 64 then n else n + 64

/-- The fabric ports and the endpoint ports. -/
def allPorts : List Nat := List.range 256
def endpointPorts : List Nat := allPorts.filter isEndpoint
def fabricPorts : List Nat := allPorts.filter (fun k => !isEndpoint k)

/-- Whether a port is UP (R346). -/
def State.portUp (s : State) (k : Nat) : Bool := s.rd (LK_STAT_STATE k) == 5

/-- Whether a port is in use under LK_CFG (R353). -/
def State.portUse (s : State) (k : Nat) : Bool := s.bit (LK_CFG_USE k)

/-- Scale class Large is in force (R29). -/
def State.scaleLarge (s : State) : Bool := s.inForce && imgScale s.cst.img == 1

/-- The low 8 bits of the seam count, as flits carry them (R102). -/
def State.epochTag (s : State) : Nat := s.rd64 TG_SEAM_LO % 256

/-- Whether a first occurrence since the apply was already reported, and marking it so. -/
def State.firstTime (s : State) (i : Nat) : Bool := !s.fab.noted.contains i
def State.note1 (s : State) (i : Nat) : State := { s with fab := { s.fab with noted := i :: s.fab.noted } }

/-! ### Flits -/

/-- The header of a flit as a number, with the CRC field `h` (R331). -/
def Flit.headNat (f : Flit) (h : Nat) : Nat :=
  1 + f.vc * 2 ^ 2 + (if f.lbl then 2 ^ 5 else 0) + (if f.cmark then 2 ^ 6 else 0) + (if f.last then 2 ^ 7 else 0) +
  f.fidx * 2 ^ 8 + f.addr * 2 ^ 12 + f.epoch * 2 ^ 32 + f.alive * 2 ^ 40 + h * 2 ^ 56 + f.stamp * 2 ^ 64

/-- HCRC: the CRC-8 of header bytes 0 to 6 and 8 to 15 (R332). -/
def hcrcOf (bs : List Byte) : Nat := crc8 (bs.take 7 ++ (bs.drop 8).take 8)

/-- The 16 header bytes of a flit (R331, R332). -/
def Flit.header (f : Flit) : List Byte :=
  let bs := leBytes 16 (f.headNat 0)
  leBytes 16 (f.headNat (hcrcOf bs))

/-- The header with STAMP, CMARK and HCRC at 0 (R492). -/
def Flit.sumHeader (f : Flit) : List Byte := leBytes 16 ({ f with stamp := 0, cmark := false }.headNat 0)

/-- A field of a little-endian unit. -/
def unitField (bs : List Byte) (lo n : Nat) : Nat := ofLeBytes bs / 2 ^ lo % 2 ^ n

/-- The flit that a header unit and a payload spell; none on a UK or HCRC error (R331, R332). -/
def parseFlit (h data : List Byte) (check : Check) : Option Flit :=
  if unitField h 0 2 ≠ 1 ∨ unitField h 56 8 ≠ hcrcOf h then none
  else some
    { vc := unitField h 2 3, lbl := unitField h 5 1 == 1, cmark := unitField h 6 1 == 1, last := unitField h 7 1 == 1
      fidx := unitField h 8 4, addr := unitField h 12 20, epoch := unitField h 32 8, alive := unitField h 40 16
      stamp := unitField h 64 64, data := data, check := check }

/-- The class of a flit: 0 C, 1 B, 2 Q, 3 M (R331). -/
def Flit.cls (f : Flit) : Nat := f.vc / 2

/-- Whether a flit is of a data class (R334). -/
def Flit.isData (f : Flit) : Bool := decide (f.vc < 4)

/-! ### Control symbols -/

/-- A control symbol unit (R335): its TYPE and body, the body in absolute bits [119:8]. -/
def symUnit (ty body : Nat) : List Byte :=
  let b := leBytes 15 (2 + ty * 4 + body)
  b ++ [BitVec.ofNat 8 (crc8 b)]

/-- The TYPE of a received unit; none when it is discarded (R335). -/
def symType (u : List Byte) : Option Nat :=
  let ty := unitField u 2 6
  if unitField u 0 2 ≠ 2 ∨ unitField u 120 8 ≠ crc8 (u.take 15) then none
  else if ty ≤ 5 ∨ (8 ≤ ty ∧ ty ≤ 12) ∨ (16 ≤ ty ∧ ty ≤ 20) then some ty
  else none

/-- Queue a control symbol on a port (R330). `body` is in absolute bit places. -/
def State.queueSym (s : State) (k prio ty body : Nat) : State :=
  let p := s.port k
  s.setPort k { p with ctrl := p.ctrl ++ [⟨prio, ty, body, s.now⟩] }

/-- The symbol that the control queue serves next (R330): the best priority, the oldest first. -/
def ctrlHead (l : List CtrlSym) : Option CtrlSym :=
  l.foldl (fun a c => match a with
    | none => some c
    | some b => if c.prio < b.prio then some c else some b) none

/-- Up to `n` symbols taken from a control queue. -/
def ctrlTake : Nat → List CtrlSym → List CtrlSym × List CtrlSym
  | 0, l => ([], l)
  | n + 1, l =>
    match ctrlHead l with
    | none => ([], l)
    | some c =>
      let (a, r) := ctrlTake n (l.erase c)
      (c :: a, r)

/-- Codewords that begin within `n` units from unit `u` (R327): 8 units each with Light FEC, 5,140 bits with Heavy. -/
def codewordsIn (heavy : Bool) (u n : Nat) : Nat :=
  let (c, w) := if heavy then (5140, 128) else (8, 1)
  (w * (u + n) + c - 1) / c - (w * u + c - 1) / c

/-- The lanes of a port. -/
def lanesOf (k : Nat) : List Nat := (List.range 4).map (fun i => 4 * k + i)

/-- Whether a port's transmitter sends the unit stream: it is not turned off by TX_DIS or by the Casting (R323), and no lane sends a
pattern or is quiet (R318). -/
def State.txOn (s : State) (k : Nat) : Bool :=
  s.rd (LN_ECTRL_TX_DIS (k / 16)) / 2 ^ (k % 16) % 2 == 0 && s.portUse k && (lanesOf k).all (fun n => s.rd (LN_CTRL_TX_PAT n) == 0)

/-- Units leave a port (R326); armed injections invert check symbols of the codewords that begin with them (R528). -/
def State.unitsSent (s : State) (k n : Nat) : State :=
  let p := s.port k
  let c := codewordsIn (s.bit (LK_CFG_FEC k)) p.txUnit n
  let sym := s.rd FLT_INJ_SYM
  let s := s.setPort k { p with txUnit := p.txUnit + n }
  let (hits, s) := (List.range c).foldl (fun (r : Nat × State) _ =>
    let (hit, t) := r.2.takeInj 5 k
    (if hit then r.1 + 1 else r.1, t)) (0, s)
  if hits = 0 then s else s.out (.codewords k hits sym)

/-- A control symbol leaves a port; an injection inverts its check byte (R528). -/
def State.sendSym (s : State) (k ty body : Nat) : State :=
  let (hit, s) := s.takeInj 7 k
  let u := symUnit ty body
  (s.out (.symbol k ty (if hit then u.take 15 ++ [~~~(u.getD 15 0)] else u))).unitsSent k 1

/-- The frame that the next unit of a port belongs to (R326). -/
def Port.frame (p : Port) : Nat := p.txUnit / 2024

/-- Queue an ACK (R336, R340). -/
def State.queueAck (s : State) (k stream : Nat) (lbl : Bool) (vc next : Nat) (nak : Bool) (room : Nat) : State :=
  s.queueSym k 3 8 (stream * 2 ^ 8 + (if lbl then 2 ^ 28 else 0) + vc * 2 ^ 29 + next * 2 ^ 32 +
    (if nak then 2 ^ 48 else 0) + room * 2 ^ 49)

/-- Queue a CREDIT (R336, R344). -/
def State.queueCredit (s : State) (k vc : Nat) (init : Bool) (count : Nat) : State :=
  s.queueSym k 4 9 (vc * 2 ^ 8 + (if init then 2 ^ 11 else 0) + count % 2 ^ 16 * 2 ^ 12)

/-- Queue a LACK, a RETRY or a REPLAY (R336, R345). -/
def State.queueLack (s : State) (k next : Nat) : State := s.queueSym k 4 10 (next % 256 * 2 ^ 8)
def State.queueRetry (s : State) (k next : Nat) : State := s.queueSym k 1 11 (next % 256 * 2 ^ 8)
def State.queueReplay (s : State) (k frm : Nat) : State := s.queueSym k 1 12 (frm % 256 * 2 ^ 8)

/-! ### Pools -/

/-- INITQ and INITM reserve of a port (R362). -/
def State.credReserve (s : State) (k : Nat) : Nat := 2 * s.rd (LK_CREDIT_INITQ k) + 2 * s.rd (LK_CREDIT_INITM k)

/-- The profile of queue `n` of port `k` (R397). -/
def State.qProfile (s : State) (k n : Nat) : Nat := s.rd (SW_QPROF_PROF k) / 2 ^ (4 * n) % 16

/-- Minimum and maximum of an account (R362). -/
def State.acctLimits (s : State) (d : Nat) (a : Acct) : Nat × Nat :=
  match a with
  | .queue k n => let i := s.qProfile k n; (s.rd (SW_QMIN_QMIN i), s.rd (SW_QMAX_QMAX i))
  | .cred k => (s.credReserve k, s.credReserve k)
  | .cru => (s.rd (BP_CRU_MIN_MIN d), s.rd (BP_CRU_MAX_MAX d))
  | .milm => (s.rd (BP_MILM_MIN_MIN d), s.rd (BP_MILM_MAX_MAX d))
  | .stk => (s.rd (BP_STK_MIN_MIN d), s.rd (BP_STK_MAX_MAX d))

/-- The ingress port whose credit reserve a cell takes, if any. -/
def PCell.credPort (c : PCell) : Option Nat :=
  c.holds.findSome? (fun h => match h.2.1 with | .cred k => some k | _ => none)

/-- What a cell is charged: a use of each owner's account, or the one credit that its flit came with (R366). -/
def PCell.charges (c : PCell) : List (Owner × Acct × Bool) := if c.credPort.isSome then c.holds.take 1 else c.holds

/-- The charges of a die. -/
def State.charges (s : State) (d : Nat) : List (Owner × Acct × Bool) :=
  (s.fab.cells.filter (fun c => c.die == d)).flatMap (·.charges)

/-- The use of an account on a die (R363). -/
def State.acctUse (s : State) (d : Nat) (a : Acct) : Nat := ((s.charges d).filter (fun h => h.2.1 == a)).length

/-- Shared cells in use on a die. -/
def State.sharedUse (s : State) (d : Nat) : Nat := ((s.charges d).filter (fun h => h.2.2)).length

/-- The ports of a die that are in use. -/
def State.diePorts (s : State) (d : Nat) : List Nat := (allPorts.filter (fun k => dieOf k == d)).filter s.portUse

/-- The credit reserves of a die (R362). -/
def State.credTotal (s : State) (d : Nat) : Nat := (s.diePorts d).foldl (fun a k => a + s.credReserve k) 0

/-- Cells that the minima of a die reserve (R362). -/
def State.reservedCells (s : State) (d : Nat) : Nat :=
  s.credTotal d +
  (s.diePorts d).foldl (fun a k => a + (List.range 4).foldl (fun b n => b + s.rd (SW_QMIN_QMIN (s.qProfile k n))) 0) 0 +
  s.rd (BP_CRU_MIN_MIN d) + s.rd (BP_MILM_MIN_MIN d) + s.rd (BP_STK_MIN_MIN d)

/-- The shared pool of a die (R362). -/
def State.sharedSize (s : State) (d : Nat) : Nat := s.pcells d - s.reservedCells d

/-- Free pooled cells of a die: its leaf bits that are 1 (R360). -/
def State.freeCells (s : State) (d : Nat) : Nat :=
  s.pcells d - (s.fab.leaf0.filter (fun c => c.1 == d && decide (c.2 < s.pcells d))).length

/-- Multicast descriptors in use on a die (R367). -/
def State.multiUse (s : State) (d : Nat) : Nat := (s.fab.cells.filter (fun c => c.die == d && c.multi)).length

/-- One cell asked for by an account (R363): none when the request fails, else whether it comes from the shared pool.
`extra` counts cells already set aside for earlier parts: of this account, and of the shared pool (R365). -/
def State.grant1 (s : State) (d : Nat) (a : Acct) (extraUse extraShared : Nat) : Option Bool :=
  let use := s.acctUse d a + extraUse
  let (lo, hi) := s.acctLimits d a
  if use < lo then some false
  else if use < hi ∧ s.sharedUse d + extraShared < s.sharedSize d then some true
  else none

/-- The parts of a request, each one use of an account: whether each comes from the shared pool, or none when any fails
(R365). -/
def State.grantAll (s : State) (d : Nat) : List Acct → List (Acct × Bool) → Option (List (Acct × Bool))
  | [], got => some got
  | a :: as, got =>
    match s.grant1 d a (got.filter (fun g => g.1 == a)).length (got.filter (fun g => g.2)).length with
    | none => none
    | some sh => State.grantAll s d as (got ++ [(a, sh)])

/-- The leaf bit of a cell, and the cell of a leaf bit (R360). -/
def leafIdx (c : Nat) : Nat := c % 128 * 8192 + c / 128
def leafCell (i : Nat) : Nat := i % 8192 * 128 + i / 8192

/-- The free bitmap of a die (R360): leaf bit `i`, held at 0 for an addressed cell; middle bit `j`; top bit `k`. -/
def State.leafBit (s : State) (d i : Nat) : Bool := decide (leafCell i < s.pcells d) && !s.fab.leaf0.contains (d, leafCell i)
def State.midBit (s : State) (d j : Nat) : Bool := (List.range 64).any (fun i => s.leafBit d (64 * j + i))
def State.topBit (s : State) (d k : Nat) : Bool := (List.range 64).any (fun j => s.midBit d (64 * k + j))

/-- Find-first-free in a bank (R361): the lowest set top bit of its two, the lowest set bit of that middle word, the lowest set bit of
that leaf word. -/
def State.bankFree (s : State) (d bank : Nat) : Option Nat :=
  ([2 * bank, 2 * bank + 1].find? (s.topBit d)).bind (fun k =>
    (((List.range 64).map (64 * k + ·)).find? (s.midBit d)).bind (fun j =>
      (((List.range 64).map (64 * j + ·)).find? (s.leafBit d)).map leafCell))

/-- The cell that a write of requester `r` allocates (R361, R378): banks in rotating order after the last one it wrote, the
lowest free cell of the first bank that has one. -/
def State.findCell (s : State) (d r : Nat) : Option Nat :=
  let last := ((s.fab.banks.find? (fun b => b.1 == r)).map (·.2)).getD 127
  (List.range 128).findSome? (fun i => s.bankFree d ((last + 1 + i) % 128))

/-- The requester number of a port's ingress group, a Crucible, a mover or the Stock engine on its die (R378). -/
def reqPort (k : Nat) : Nat := k / 8
def reqCru (c : Nat) : Nat := 32 + c
def reqOther (d i : Nat) : Nat := 160 + 8 * d + i

/-- The requester that writes on die `d` what requester `r` brings from die `from'`: the die-to-die input where they differ (R378). -/
def reqOn (d from' r : Nat) : Nat := if d = from' then r else reqOther d 6

/-- The allocated cells become those of a list: the leaf bit of each cell that left is set (R361). -/
def State.setCells (s : State) (l : List PCell) : State :=
  let had (m : List PCell) (c : Nat × Nat) : Bool := m.any (fun x => x.die == c.1 && x.idx == c.2)
  { s with fab := { s.fab with cells := l, leaf0 := s.fab.leaf0.filter (fun c => had l c || !had s.fab.cells c) } }

/-- A cell is allocated and charged (R361, R368); `v` is the VC of a class Q or M flit that comes with a credit. -/
def State.allocCell (s : State) (d r : Nat) (holds : List (Owner × Acct × Bool)) (multi : Bool) (v : Nat := 0) :
    Option ((Nat × Nat) × State) :=
  match s.findCell d r with
  | none => none
  | some c =>
    let banks := (s.fab.banks.filter (fun b => b.1 ≠ r)) ++ [(r, c % 128)]
    some ((d, c), { s with fab := { s.fab with
      cells := s.fab.cells ++ [⟨d, c, holds, 0, multi, v⟩], leaf0 := (d, c) :: s.fab.leaf0, banks := banks
      chg := (d, c) :: s.fab.chg } })

/-- A failed request (R364). -/
def State.poolFail (s : State) (d : Nat) : State := s.inc (BP_FAIL d)

/-- A cell crosses from die `a` to die `b` (R383); an injection can damage its eight words (R528), and one that cannot be corrected drops
it: whether it arrives. -/
def State.crossDie (s : State) (a b : Nat) : Bool × State :=
  if a = b then (true, s)
  else
    let s := s.add64 (SW_D2D_LO a) 1
    let fatal := decide (2 ≤ s.rd FLT_INJ_SYM)
    let (hit, s) := (List.range 8).foldl (fun (r : Bool × State) _ =>
      let (h, t) := r.2.takeInj 4 a
      (r.1 || h, t)) (false, s)
    if hit && fatal then (false, (s.poolFail b).fault .mem 1 0 (mDie a) 7 0 true)
    else (true, s)

/-- The cell that stands for none: a unit's flit that found no room in the egress queue's account waits in the unit's own
(DESIGN CHOICE, log 14). -/
def noCell (d : Nat) : Nat × Nat := (d, 2 ^ 20)

/-- The first pool fault since power-on is captured (R396). -/
def State.bpFirst (s : State) (d cause cell : Nat) : State :=
  if s.bit (BP_FIRST_VALID d) then s
  else ((s.wr (BP_FIRST_CAUSE d) cause).wr (BP_FIRST_CELL d) cell).wrBit (BP_FIRST_VALID d) true

/-- The allocated cell at a place. -/
def State.cellAt (s : State) (c : Nat × Nat) : Option PCell := s.fab.cells.find? (fun x => x.die == c.1 && x.idx == c.2)

/-- The cells with one changed; an empty hold set, of an owner count 0, frees it (R368). -/
def State.setCell (s : State) (c : Nat × Nat) (f : PCell → PCell) : State :=
  s.setCells ((s.fab.cells.map (fun x => if x.die = c.1 ∧ x.idx = c.2 then f x else x)).filter
    (fun x => !x.holds.isEmpty || decide (0 < x.extra)))

/-- An owner releases its cell (R368): its member of the hold set and its charge clear, and an empty hold set frees the cell.
A release by no owner is refused (R369). -/
def State.releaseCell (s : State) (cell : Nat × Nat) (o : Owner) : State :=
  if 2 ^ 20 ≤ cell.2 then s
  else if (s.cellAt cell).any (fun c => c.holds.any (fun h => h.1 == o)) then
    let s := s.setCell cell (fun c => { c with holds := c.holds.filter (fun h => h.1 ≠ o) })
    { s with fab := { s.fab with chg := cell :: s.fab.chg } }
  else ((s.inc (BP_RELREF cell.1)).bpFirst cell.1 1 cell.2).fault .mem 1 1 mNone 7

/-- A class Q or M flit leaves the buffer of its ingress port: a credit is freed, and reported after every 8 (R344). -/
def State.freeCredit (s : State) (k vc : Nat) : State :=
  let p := s.port k
  let i := vc - 4
  let f := (p.freed.getD i 0 + 1) % 2 ^ 16
  let p := { p with used := p.used.set i (p.used.getD i 0 - 1), freed := p.freed.set i f }
  if (f + 2 ^ 16 - p.freedSent.getD i 0) % 2 ^ 16 ≥ 8 then
    (s.setPort k { p with freedSent := p.freedSent.set i f }).queueCredit k vc false f
  else s.setPort k p

/-- Cells that hold a credit of port `k` on VC `v`. -/
def State.credCells (s : State) (k v : Nat) : Nat := (s.fab.cells.filter (fun c => c.inVc == v && c.credPort == some k)).length

/-- The queue entry's owner releases its cell; where that frees a cell of class Q or M, its credit is freed (R344, R370). -/
def State.releaseEnt (s : State) (k q : Nat) (cell : Nat × Nat) : State :=
  let cred := (s.cellAt cell).bind (fun c => c.credPort.map (fun i => (i, c.inVc)))
  let s := s.releaseCell cell (.queue k q)
  match cred with
  | some (i, v) => if 4 ≤ v ∧ (s.cellAt cell).isNone = true then s.freeCredit i v else s
  | none => s

/-- Replace a sending stream. -/
def State.setTx (s : State) (x : TxStream) : State :=
  { s with fab := { s.fab with txs := s.fab.txs.map (fun y => if y.id = x.id then x else y) } }

/-- Whether a stream's sent flits keep their cells until they are acknowledged (R342, R370). -/
def TxStream.copies (x : TxStream) : Bool := match x.unit with | .copy _ => true | _ => false

/-- The cells that the streams of a port hold for copies sent and not acknowledged, each with its queue (R342, R370). -/
def State.heldCopies (s : State) (k : Nat) : List (Nat × (Nat × Nat)) :=
  (s.fab.txs.filter (fun x => x.port == k && x.copies)).flatMap (fun x => x.held.map (fun h => (x.vc, h.2)))

/-- The copies of a port are removed from its queues and from the multicast lists and released (R377, R384): how many. A fence removes
the held ones too, and what their streams held; after a flush those are resent (R341, R350). -/
def State.dropCopies (s : State) (k : Nat) (fence : Bool) : Nat × State :=
  let p := s.port k
  let uni := (p.queues.zipIdx).flatMap (fun q => q.1.map (fun e => (q.2, e.cell)))
  let mul := (s.fab.mqs.filter (fun m => m.pend.any (fun x => x.1 == k))).map (fun m => (m.flit.vc, m.cell))
  let held := if fence then s.heldCopies k else []
  let s := s.setPort k { p with queues := List.replicate 8 [], openTx := none }
  let mqs := (s.fab.mqs.map (fun m => { m with pend := m.pend.filter (fun x => x.1 ≠ k) })).filter (fun m => m.pend ≠ [])
  let txs := if fence then s.fab.txs.map (fun x => if x.port = k ∧ x.copies = true then { x with held := [], again := [] } else x)
    else s.fab.txs
  let s := { s with fab := { s.fab with mqs := mqs, txs := txs } }
  let gone := uni ++ mul ++ held
  (gone.length, gone.foldl (fun s e => s.releaseEnt k e.1 e.2) s)

/-- The cells of a packet's request that no flit used are freed (R366). -/
def State.freeRest (s : State) (o : OpenPkt) : State :=
  match o.egress with
  | some j => o.cells.foldl (fun s c => s.releaseCell c (.queue j o.vc)) s
  | none => s

/-- The packet that a port receives ends; one broken off before its last flit is remembered (R333, log 72). -/
def State.closePacket (s : State) (k : Nat) (keep : Bool) : State :=
  let p := s.port k
  match p.openRx with
  | some o =>
    let kept := if keep then p.keptRx ++ [{ o with cells := [] }] else p.keptRx
    (s.setPort k { p with openRx := none, keptRx := kept }).freeRest o
  | none => s

/-! ### The torus and the time parent -/

/-- This node's coordinate and the axis sizes, as RT_NODE holds them (R409). -/
def State.coord (s : State) (i : Nat) : Nat :=
  match i with | 0 => s.rd RT_NODE_W | 1 => s.rd RT_NODE_X | 2 => s.rd RT_NODE_Y | _ => s.rd RT_NODE_Z
def State.axis (s : State) (i : Nat) : Nat :=
  match i with | 0 => s.rd RT_NODE_SW | 1 => s.rd RT_NODE_SX | 2 => s.rd RT_NODE_SY | _ => s.rd RT_NODE_SZ

/-- RT_NODE.VALID: every size is 1 to 8 and every coordinate below its size (R422). -/
def State.nodeValid (s : State) : Bool :=
  (List.range 4).all (fun i => decide (1 ≤ s.axis i ∧ s.axis i ≤ 8 ∧ s.coord i < s.axis i))

/-- The coordinate code of this node: w + 8x + 64y + 512z. -/
def State.selfCode (s : State) : Nat := coordCode s.coord

/-- Coordinate `i` of a coordinate code. -/
def codeCoord (c i : Nat) : Nat := c / 8 ^ i % 8

/-- The code of the node `k` steps from code `c` in direction `d` (even is +), with sizes `size`. -/
def stepCode (size : Nat → Nat) (c d k : Nat) : Nat :=
  let a := d / 2
  let m := size a
  let v := codeCoord c a
  let w := if m = 0 then v else if d % 2 = 0 then (v + k) % m else (v + m - k % m) % m
  coordCode (fun i => if i = a then w else codeCoord c i)

/-- The node a fabric port reaches (R23, R27, R28): at distance 2 over a skip port of an axis of 4 or more. -/
def State.portReach (s : State) (k : Nat) : Nat :=
  let d := dirOf k
  let far := decide (12 ≤ k % 16) && decide (4 ≤ s.axis (d / 2))
  stepCode s.axis s.selfCode d (if far then 2 else 1)

/-- Whether a port of a direction is a neighbour port (R23, R28). -/
def State.isNear (s : State) (k : Nat) : Bool := decide (k % 16 < 12) || decide (s.axis (dirOf k / 2) ≤ 3)

/-- The cut list of the Casting in force (R399, R417): coordinate codes. -/
def imgCuts (img : List Byte) : List Nat :=
  let m := sect img tyMAND
  let up64 (n : Nat) := (n + 63) / 64 * 64
  let base := up64 (up64 (64 + 16 * leAt m 0 4) + 8 * leAt m 4 4)
  (List.range (leAt m 8 2)).map (fun i => coordCode (fun a => leAt m (base + 4 * i + a) 1))

/-- The time root, as a code: the one the last Casting named, kept by the time grid until the next one (R41; DEDUCED, log 12); the node at
(0, 0, 0, 0) where none was named (R37). -/
def State.rootCode (s : State) : Nat := s.tg.root.getD 0

/-- Whether this node, whose coordinate RT_NODE holds, is the time root. -/
def State.isRoot (s : State) : Bool := s.nodeValid && s.selfCode == s.rootCode

/-- The node follows a parent: it knows its own coordinate, and is not the root (R82). -/
def State.follows (s : State) : Bool := s.nodeValid && s.selfCode != s.rootCode

/-- The direction from code `c` toward code `r` on the first axis on which they differ (R82); none at `r`. -/
def towardDir (size : Nat → Nat) (c r : Nat) : Option Nat :=
  match (List.range 4).find? (fun a => codeCoord c a ≠ codeCoord r a) with
  | none => none
  | some a =>
    let m := size a
    let f := (codeCoord r a + m - codeCoord c a) % (if m = 0 then 1 else m)
    some (if f < m - f then 2 * a else 2 * a + 1)

/-- The parent's direction and distance of code `c` (R82): two steps across a closed cut. -/
def parentStep (size : Nat → Nat) (cuts : List Nat) (c r : Nat) : Option (Nat × Nat) :=
  (towardDir size c r).map (fun d => (d, if cuts.contains (stepCode size c d 1) && decide (4 ≤ size (d / 2)) then 2 else 1))

/-- The parent of a code. -/
def parentCode (size : Nat → Nat) (cuts : List Nat) (c r : Nat) : Option Nat :=
  (parentStep size cuts c r).map (fun x => stepCode size c x.1 x.2)

/-- Ports of a direction toward the node at a distance. -/
def State.dirPorts (s : State) (d dist : Nat) : List Nat :=
  ((List.range 16).map (fun i => dirPort d + i)).filter (fun k => if dist = 1 then s.isNear k else !s.isNear k)

/-- The port from which the node takes time (R83): the lowest one toward its parent that is up with a valid link delay; else one
toward a neighbour one hop closer to the root. -/
def State.timePort (s : State) : Option Nat :=
  let okp (k : Nat) := s.portUp k && s.bit (TG_LDLY_VALID k)
  let cuts := imgCuts s.cst.img
  match parentStep s.axis cuts s.selfCode s.rootCode with
  | none => none
  | some (d, n) =>
    match (s.dirPorts d n).find? okp with
    | some k => some k
    | none =>
      let dist (c : Nat) := (List.range 4).foldl (fun a i =>
        let m := s.axis i
        let f := (codeCoord s.rootCode i + m - codeCoord c i) % (if m = 0 then 1 else m)
        a + min f (m - f)) 0
      fabricPorts.find? (fun k => okp k && s.isNear k && decide (dist (s.portReach k) < dist s.selfCode))

/-- The node's sync states (R81) by their codes (R109). -/
def syFree : Nat := 0
def syAcquire : Nat := 1
def syLocked : Nat := 2
def syHoldover : Nat := 3

/-- The time port is written to TG_STATUS (R109). -/
def State.setTimePort (s : State) (k : Nat) : State :=
  (s.wr TG_STATUS_PARENT_PORT (k % 16)).wr TG_STATUS_PARENT_DIR (dirOf k)

/-- The port in use toward the parent, as TG_STATUS names it (R109). -/
def State.parentPort (s : State) : Nat := dirPort (s.rd TG_STATUS_PARENT_DIR) + s.rd TG_STATUS_PARENT_PORT

/-- The port from which the node takes time went down (R83): the next one is taken without a step, or the node enters HOLDOVER;
either way a TIME alert. -/
def State.timePortLost (s : State) (k : Nat) : State :=
  if s.follows && s.parentPort == k &&
      (s.rd TG_STATUS_SYNC == syAcquire || s.rd TG_STATUS_SYNC == syLocked) then
    let s := match s.timePort with
      | some j => s.setTimePort j
      | none => s.wr TG_STATUS_SYNC syHoldover
    s.fault .time 1 0 mTime
  else s

/-! ### What a port that goes down leaves -/

/-- Cells charged to the credit reserve of a port that went down are released with their copies, unicast and multicast (R384): how many
copies. -/
def State.dropCred (s : State) (k : Nat) : Nat × State :=
  let mine := (s.fab.cells.filter (fun c => c.credPort == some k)).map (fun c => (c.die, c.idx))
  let (n, s) := allPorts.foldl (fun (r : Nat × State) j =>
    let p := r.2.port j
    let gone := (p.queues.zipIdx).flatMap (fun q => (q.1.filter (fun e => mine.contains e.cell)).map (fun e => (q.2, e.cell)))
    if gone = [] then r
    else
      let t := r.2.setPort j { p with queues := p.queues.map (fun q => q.filter (fun e => !mine.contains e.cell)) }
      (r.1 + gone.length, gone.foldl (fun t e => t.releaseCell e.2 (.queue j e.1)) t)) (0, s)
  let mul := (s.fab.mqs.filter (fun m => mine.contains m.cell)).flatMap (fun m => m.pend.map (fun x => (x.1, m.flit.vc, m.cell)))
  let s := { s with fab := { s.fab with
    mqs := s.fab.mqs.filter (fun m => !mine.contains m.cell), heldRx := s.fab.heldRx.filter (fun e => e.1 ≠ k) } }
  let s := mul.foldl (fun s e => s.releaseCell e.2.2 (.queue e.1 e.2.1)) s
  (n + mul.length, s.setCells (s.fab.cells.filter (fun c => c.credPort ≠ some k)))

/-- The fault of a down cause (R350): its level, if any. -/
def downLevel (cause : Nat) : Option Nat :=
  match cause with | 5 | 6 | 8 | 9 | 11 => some 1 | 10 => some 0 | _ => none

/-- A Touchmark unit's pending records expire (R482). -/
def State.expireRecs (s : State) (u : Nat) (p : TmRec → Bool) : State :=
  let l := ((s.fab.tmRecs.find? (fun e => e.1 == u)).map (·.2)).getD []
  let gone := l.filter p
  if gone = [] then s
  else
    let keep := l.filter (fun r => !p r)
    let rest := s.fab.tmRecs.filter (fun e => e.1 ≠ u)
    let recs := if keep = [] then rest else rest ++ [(u, keep)]
    ({ s with fab := { s.fab with tmRecs := recs } }).addSat (TM_EXPIRED u) gone.length

/-! ### Bring-up -/

/-- A port enters a bring-up state (R346). -/
def State.toPortState (s : State) (k st : Nat) : State :=
  let p := s.port k
  (s.setPort k { p with since := s.now, downAt := if st = 5 then none else p.downAt }).wr (LK_STAT_STATE k) st

/-- Lane `k` beyond its registers. -/
def State.lane (s : State) (k : Nat) : Lane := Sparse.get (fun _ => Lane.init) s.fab.lanes k

/-- Store lane `k`. -/
def State.setLane (s : State) (k : Nat) (x : Lane) : State :=
  { s with fab := { s.fab with lanes := Sparse.set (fun _ => Lane.init) s.fab.lanes k x } }

/-- The SerDes quarter of a lane or port, the switch core and the optics a port needs (R303, R591). -/
def laneDom (k : Nat) : Nat := 32 + k / 128
def State.portPower (s : State) (k : Nat) : Bool := s.domOn (32 + k / 32) && s.domOn (40 + dieOf k) && s.domOn 48

/-- Every lane of a port has ended a full sweep without FAILED (R310, R346). -/
def State.lanesReady (s : State) (k : Nat) : Bool :=
  (lanesOf k).all (fun n => (s.lane n).swept && (s.lane n).sweep.isNone && !s.bit (LN_STAT_FAILED n))

/-- A port in SIGNAL goes on to ALIGN once a full sweep has ended on all four lanes without FAILED (R346). -/
def State.tryAlign (s : State) (k : Nat) : State :=
  if s.rd (LK_STAT_STATE k) = 1 ∧ s.lanesReady k = true then s.toPortState k 2 else s

/-- Whether a port that is DOWN comes up: ADMIN is 1, nothing holds it, and SIG is 1 on all four lanes (R346, R522, R591). -/
def State.mayRise (s : State) (k : Nat) : Bool :=
  s.bit (LK_CTRL_ADMIN k) && s.portUse k && !s.bit (LK_STAT_HELD k) && (lanesOf k).all (fun n => s.bit (LN_STAT_SIG n)) &&
    !s.nodeQuenched && s.portPower k

/-- A port that may come up leaves DOWN (R346). -/
def State.trySignal (s : State) (k : Nat) : State :=
  if s.rd (LK_STAT_STATE k) = 0 ∧ s.mayRise k = true then (s.toPortState k 1).tryAlign k else s

/-! ### A port goes down -/

/-- The link side of a port that goes down (R350): its frame, its symbols, its credits and its replay are lost. -/
def Port.cut (p : Port) (now : Nat) : Port :=
  { p with
    since := now, downAt := some (p.downAt.getD now), startRx := false, startTx := false, linkRx := false, linkQ := false
    linkTx := false, ident := ⟨none, none, none⟩, badRun := 0, ctrl := []
    initRx := [0, 0, 0, 0], used := [0, 0, 0, 0], freed := [0, 0, 0, 0], freedSent := [0, 0, 0, 0]
    sent := [0, 0, 0, 0], freedRx := [0, 0, 0, 0], overT := false, rxSeq := 0, rxDiscard := false, retryAt := 0, rxAcc := 0
    txHeld := [], txBase := 0, txAgain := 0, replays := 0, openRx := none, keptRx := [], openTx := none
    txUnit := 0, stompEnd := 0, barSeq := 0, sentAt := [], rxBar := none, measAt := none }

/-- A port goes down at once (R350): LINKDOWN while the stream runs, the link delay, replay and credits discarded, the
queues flushed or kept by scale class (R384, R385), and the fault of its cause. It leaves DOWN again where nothing holds it (R346). -/
def State.portDown (s : State) (k cause : Nat) : State :=
  let st := s.rd (LK_STAT_STATE k)
  let s := if 4 ≤ st then s.sendSym k 20 (cause * 2 ^ 8) else s
  let s := s.wrBit (TG_LDLY_VALID k) false
  let s := s.addSat (LK_UNCORR k) (s.port k).txHeld.length
  let s := (s.wr (LK_STAT_STATE k) 0).wr (LK_STAT_CAUSE k) cause
  let s := s.wrBit (LK_STAT_HELD k) (cause = 2 || !s.bit (LK_CTRL_ADMIN k) || !s.portUse k)
  let s := (s.inc (LK_STAT_DOWNS k)).inc LK_SUM_DOWNS
  let s := s.closePacket k false
  let s := s.setPort k ((s.port k).cut s.now)
  let s := (s.expireRecs k (fun _ => true)).expireRecs (256 + k) (fun _ => true)
  let s := { s with tg := { s.tg with readies := s.tg.readies.filter (fun r => r.port ≠ k) } }
  let s :=
    if s.scaleLarge then
      -- the partner's credits are gone with the link: the cells that stay return none
      (s.setCells (s.fab.cells.map (fun c => if c.credPort = some k then { c with inVc := 0 } else c))).wrBit (SW_PSTAT_KEPT k) true
    else
      let (n, s) := s.dropCopies k false
      let (m, s) := s.dropCred k
      s.addSat (BP_FLUSH (dieOf k)) (n + m)
  let s := s.timePortLost k
  let s := match downLevel cause with
    | some l => if s.nodeQuenched then s.faultConseq .link l cause (mPort k) else s.fault .link l cause (mPort k)
    | none => s
  s.trySignal k

end Sys2Proof.Machine
end

