-- ==== Sys2Proof/Machine/Link.lean ====
section
/-! DEFINITION. Opsol Link Protocol: bring-up (R346 to R351), credits (R344), flit replay (R345), and the sending ends of
streams (R339 to R342, R406). -/

namespace Sys2Proof.Machine

/-! ### Bring-up -/

/-- This node's IDENT0 body (R336, R347): zero coordinate and sizes where RT_NODE is not valid. -/
def State.ident0 (s : State) (k : Nat) : Nat :=
  let v := s.nodeValid
  (if isEndpoint k then 0 else dirOf k * 2 ^ 9) + k % 16 * 2 ^ 12 +
  (if v then (s.coord 0 + 8 * s.coord 1 + 64 * s.coord 2 + 512 * s.coord 3) * 2 ^ 16 +
    (s.axis 0 + 16 * s.axis 1 + 256 * s.axis 2 + 4096 * s.axis 3) * 2 ^ 28 else 0) +
  s.rd (LK_CFG_FEC k) * 2 ^ 44 + 2 ^ 54 + (if s.inForce then 2 ^ 62 else 0)

/-- SYSTEM_ID as the IDENT symbols carry it; zeros while uncast (R347). -/
def State.sysId (s : State) (i : Nat) : Nat := if s.inForce then leAt (imgSystem s.cst.img) (8 * i) 8 else 0

/-- The node queues its IDENT symbols on a port (R347, R348). -/
def State.queueIdent (s : State) (k : Nat) : State :=
  ((s.queueSym k 2 16 (s.ident0 k)).queueSym k 2 17 (s.sysId 0 * 2 ^ 8)).queueSym k 2 18 (s.sysId 1 * 2 ^ 8)

/-- A port that is not DOWN goes down (R346, R350). -/
def State.takeDown (s : State) (k cause : Nat) : State := if s.rd (LK_STAT_STATE k) = 0 then s else s.portDown k cause

/-- ADMIN (R355): 0 takes the port down with cause HOST and holds it; 1 lets it come up, and is refused on a quenched node (R522). -/
def State.admin (s : State) (m : Master) (k : Nat) (v : Bool) : State :=
  if v && s.nodeQuenched then s.ruleRefused m
  else
    let s := s.wrBit (LK_CTRL_ADMIN k) v
    if v then (s.wrBit (LK_STAT_HELD k) (!s.portUse k)).trySignal k
    else (s.takeDown k 1).wrBit (LK_STAT_HELD k) true

/-- ADMIN: a write of LK_CTRL.ADMIN (R355). -/
def execAdmin (t : Nat) (p : Path) (k : Nat) (v : Bool) (s : State) : Host.Outcome State Fault Refusal :=
  .next ((s.at t).cmd none (fun s => s.admin p.master k v))

/-- ALIGNED: software's search has matched; accepted only in ALIGN (R346, R355). -/
def State.alignedWrite (s : State) (k : Nat) : State := if s.rd (LK_STAT_STATE k) = 2 then s.toPortState k 3 else s

def execAligned (t k : Nat) (s : State) : Host.Outcome State Fault Refusal := .next ((s.at t).cmd (some (32 + k / 32)) (fun s => s.alignedWrite k))

/-- RETRAIN: the port goes down with cause HOST and is brought up again (R355). -/
def State.retrain (s : State) (k : Nat) : State := (s.takeDown k 1).trySignal k

def execRetrain (t k : Nat) (s : State) : Host.Outcome State Fault Refusal := .next ((s.at t).cmd (some (32 + k / 32)) (fun s => s.retrain k))

/-- START sent and received moves the port to IDENT, where it sends its IDENT symbols (R346, R347). -/
def State.tryIdent (s : State) (k : Nat) : State :=
  let p := s.port k
  if s.rd (LK_STAT_STATE k) = 3 ∧ p.startRx = true ∧ p.startTx = true then
    let s := (s.toPortState k 4).queueIdent k
    s.setPort k { s.port k with txUnit := 0 }
  else s

/-- DESKEW_DONE: the port sends START in place of MARK (R346); one whose transmitter is off, or whose lanes send a pattern, sends
nothing (R318, R323). -/
def State.deskewDone (s : State) (k : Nat) : State :=
  if s.rd (LK_STAT_STATE k) = 3 ∧ s.txOn k = true then
    let p := s.port k
    ((s.setPort k { p with startTx := true }).out (.word k 2)).tryIdent k
  else s

def execDeskewDone (t k : Nat) (s : State) : Host.Outcome State Fault Refusal := .next ((s.at t).deskewDone k)

/-- START_WORD_RX: the partner's START arrives (R346). -/
def State.startWordRx (s : State) (k : Nat) : State :=
  if s.rd (LK_STAT_STATE k) = 3 then
    let p := s.port k
    (s.setPort k { p with startRx := true }).tryIdent k
  else s

def execStartWordRx (t k : Nat) (s : State) : Host.Outcome State Fault Refusal := .next ((s.at t).startWordRx k)

/-- LINKUP sent and received: the port is UP and grants its credits (R344, R347); a lane with a pattern or one that failed keeps it
from coming up (R310, R320), and each lane's figures start anew (R312, R324, R325). -/
def State.tryUp (s : State) (k : Nat) : State :=
  let p := s.port k
  let quiet (n : Nat) : Bool := s.rd (LN_CTRL_TX_PAT n) == 0 && s.rd (LN_CTRL_RX_PAT n) == 0 && !s.bit (LN_STAT_FAILED n)
  if s.rd (LK_STAT_STATE k) = 4 ∧ p.linkRx = true ∧ p.linkTx = true ∧ (lanesOf k).all quiet = true then
    let s := (s.toPortState k 5).wrBit (SW_PSTAT_KEPT k) false
    let s := (lanesOf k).foldl (fun s n =>
      (s.setLane n { s.lane n with
        window := s.now, win := s.rd LN_CFG_WIN, low := 0, bad := 0, noted := false }).wr (LN_FOMLOG_MIN n) 255) s
    let q := s.rd (LK_CREDIT_INITQ k)
    let m := s.rd (LK_CREDIT_INITM k)
    (((s.queueCredit k 4 true q).queueCredit k 5 true q).queueCredit k 6 true m).queueCredit k 7 true m
  else s

/-- Checks of R347 and R348 on the IDENT symbols last received: none while more are needed, else 0 when they pass, or the down
cause of the failure. -/
def State.identCheck (s : State) (k : Nat) : Option Nat :=
  let p := s.port k
  match p.ident.id0 with
  | none => none
  | some b =>
    let f (lo n : Nat) := b / 2 ^ lo % 2 ^ n
    let pcast := f 62 1 == 1
    if f 44 1 ≠ s.rd (LK_CFG_FEC k) then some 7
    else if isEndpoint k then
      if f 8 1 ≠ 1 then some 7
      else if s.inForce then
        let w := s.rd (LK_CFG_WIDTH k)
        if f 45 3 = w ∧ f 48 2 = epIdx k % (if w = 0 then 1 else w) then some 0 else some 8
      else some 0
    else
      let axes := s.axis 0 + 16 * s.axis 1 + 256 * s.axis 2 + 4096 * s.axis 3
      let geo := f 8 1 == 0 && f 9 3 == (if dirOf k % 2 = 0 then dirOf k + 1 else dirOf k - 1) && f 12 4 == k % 16
      let place := f 28 16 == axes && f 16 12 == s.portReach k
      if s.inForce && pcast then
        match p.ident.id1, p.ident.id2 with
        | some a, some c => if geo && place && a / 2 ^ 8 == s.sysId 0 && c / 2 ^ 8 == s.sysId 1 then some 0 else some 7
        | _, _ => none
      else if geo && (!s.nodeValid || f 28 16 == 0 || place) then some 0 else some 7

/-- A control symbol of the queue leaves (R330): the port's own LINKUP counts as sent from here on (R346). -/
def State.sendCtrl (s : State) (k : Nat) (c : CtrlSym) : State :=
  let s := s.sendSym k c.ty c.body
  if c.ty = 19 then (s.setPort k { s.port k with linkTx := true }).tryUp k else s

/-- The checks are made: a failure takes the port down with its fault, a pass queues LINKUP in IDENT (R347, R348). -/
def State.identJudge (s : State) (k : Nat) : State :=
  match s.identCheck k with
  | none => s
  | some 0 =>
    if s.rd (LK_STAT_STATE k) = 4 ∧ (s.port k).linkQ = false then (s.setPort k { s.port k with linkQ := true }).queueSym k 2 19 0
    else s
  | some c =>
    let s := s.portDown k c
    if c = 7 then s.fault .link 1 7 (mPort k) 4 else s

/-- IDENT_RX: an IDENT symbol is received (R347, R348); IDENT0 is shown in LK_PEER, LK_WIN and LK_STAT (R356). -/
def State.identRx (s : State) (k ty body : Nat) : State :=
  if 4 ≤ s.rd (LK_STAT_STATE k) then
    let p := s.port k
    let f (lo n : Nat) := body / 2 ^ lo % 2 ^ n
    match ty with
    | 16 =>
      -- IDENT1 and IDENT2 follow: those of an earlier exchange count no more
      let s := s.setPort k { p with ident := ⟨some body, none, none⟩ }
      let s := (s.wr (LK_PEER_ROLE k) (f 8 1)).wr (LK_PEER_DIR k) (f 9 3)
      let s := (s.wr (LK_PEER_OFFSET k) (f 12 4)).wr (LK_PEER_COORD k) (f 16 12)
      let s := (s.wr (LK_PEER_WIDTH k) (f 45 3)).wr (LK_PEER_PIDX k) (f 48 2)
      let s := (s.wr (LK_PEER_PVER k) (f 54 7)).wr (LK_WIN_EWIN k) (if isEndpoint k then f 50 4 else 0)
      (s.wr (LK_STAT_PCAST k) (f 62 1)).identJudge k
    | 17 => (s.setPort k { p with ident := { p.ident with id1 := some body } }).identJudge k
    | _ => (s.setPort k { p with ident := { p.ident with id2 := some body } }).identJudge k
  else s

/-- The LINKUP symbol is received (R346, R347). -/
def State.linkupRx (s : State) (k : Nat) : State :=
  let p := s.port k
  if s.rd (LK_STAT_STATE k) = 4 then (s.setPort k { p with linkRx := true }).tryUp k else s

/-- LINKDOWN is received: the port goes down with cause PEER (R350). -/
def State.linkdownRx (s : State) (k : Nat) : State := s.takeDown k 10

/-- The longest time in a bring-up state, in ticks (R351). -/
def bringupLimit (st : Nat) : Option Nat :=
  match st with | 1 => some 640000 | 3 => some 80000 | 4 => some 1600000 | _ => none

/-- BRINGUP_TIMEOUT: a state that exceeds its maximum takes the port down with cause TIMEOUT; it retries from DOWN (R351). -/
def State.bringupTimeout (s : State) (k : Nat) : State :=
  match bringupLimit (s.rd (LK_STAT_STATE k)) with
  | none => s
  | some n => if (s.port k).since + n < s.now then s.portDown k 9 else s

def execBringupTimeout (t k : Nat) (s : State) : Host.Outcome State Fault Refusal := .next ((s.at t).bringupTimeout k)

/-- LK_CFG of a port changes value: it goes down with cause HELD or APPLY and is brought up under the new value (R349). -/
def State.cfgChanged (s : State) (k : Nat) : State :=
  if s.portUse k then
    if s.rd (LK_STAT_STATE k) = 0 then (s.wrBit (LK_STAT_HELD k) (!s.bit (LK_CTRL_ADMIN k))).trySignal k
    else s.portDown k 12
  else if s.rd (LK_STAT_STATE k) = 0 then (s.wr (LK_STAT_CAUSE k) 2).wrBit (LK_STAT_HELD k) true
  else s.portDown k 2

/-! ### Credits -/

/-- CREDIT is received (R344). -/
def State.creditRx (s : State) (k body : Nat) : State :=
  let vc := body / 2 ^ 8 % 8
  let p := s.port k
  let n := body / 2 ^ 12 % 2 ^ 16
  if vc < 4 ∨ s.rd (LK_STAT_STATE k) ≠ 5 then s
  else if body / 2 ^ 11 % 2 = 1 then
    s.setPort k { p with initRx := p.initRx.set (vc - 4) n }
  else s.setPort k { p with freedRx := p.freedRx.set (vc - 4) n }

/-- Credits available to send on VC4 to VC7 (R344). -/
def Port.avail (p : Port) (vc : Nat) : Nat :=
  let i := vc - 4
  let s := p.sent.getD i 0
  let f := p.freedRx.getD i 0
  p.initRx.getD i 0 - (s + 2 ^ 16 - f) % 2 ^ 16

/-! ### Flit replay -/

/-- LACK is received: the replay buffer frees up to NEXT (R345). -/
def State.lackRx (s : State) (k next : Nat) : State :=
  let p := s.port k
  let n := (next + 256 - p.txBase) % 256
  if 0 < n ∧ n ≤ p.txHeld.length then
    s.setPort k { p with txHeld := p.txHeld.drop n, txBase := next % 256, replays := 0, lackAt := s.now
                         txAgain := min p.txAgain (p.txHeld.length - n) }
  else s

/-- The sender answers RETRY with REPLAY and resends from a number (R345); past REPLAY_MAX replays of held flits without progress the port
goes down with cause REPLAY. -/
def State.startReplay (s : State) (k next : Nat) : State :=
  let s := s.lackRx k next
  let p := s.port k
  let lim := max 1 (s.rd LK_GCFG_REPLAY_MAX)
  if lim ≤ p.replays then s.portDown k 6
  else
    let tx := match p.openTx with | some o => if 4 ≤ o.q then none else some o | none => none
    let s := s.setPort k { p with
      replays := if p.txHeld = [] then 0 else p.replays + 1, txAgain := p.txHeld.length, lackAt := s.now, openTx := tx }
    (s.inc (LK_REPLAY k)).queueReplay k p.txBase

/-- RETRY is received. -/
def State.retryRx (s : State) (k next : Nat) : State :=
  if s.rd (LK_STAT_STATE k) = 5 then s.startReplay k next else s

/-- REPLAY is received: a matching FROM ends the discard (R345). -/
def State.replayRx (s : State) (k frm : Nat) : State :=
  let p := s.port k
  if frm % 256 = p.rxSeq then s.setPort k { p with rxDiscard := false } else s

/-- A bad slot: RETRY is queued with the next number expected, and class Q and M flits are discarded until the REPLAY (R345), which
takes the packet in progress up again. -/
def State.askRetry (s : State) (k : Nat) : State :=
  let p := s.port k
  if p.rxDiscard then s else
    let s := if p.openRx.any (fun o => decide (4 ≤ o.inVc)) then s.closePacket k true else s
    let p := s.port k
    (s.setPort k { p with rxDiscard := true, retryAt := s.now }).queueRetry k p.rxSeq

/-- Twice the calibrated link delay plus 2,048 ticks (R345). -/
def State.replayWait (s : State) (k : Nat) : Nat := 2 * s.rd (TG_LDLY_DELAY k) / 64 + 2048

/-- REPLAY_TIMEOUT (R345): as sender, no LACK has advanced in time; as receiver, the RETRY is sent again. -/
def State.replayTimeout (s : State) (k : Nat) (sender : Bool) : State :=
  let p := s.port k
  if s.rd (LK_STAT_STATE k) ≠ 5 then s
  else if sender then
    if p.txHeld ≠ [] ∧ p.lackAt + s.replayWait k ≤ s.now then s.startReplay k p.txBase else s
  else if p.rxDiscard && decide (p.retryAt + s.replayWait k ≤ s.now) then
    (s.setPort k { p with retryAt := s.now }).queueRetry k p.rxSeq
  else s

def execReplayTimeout (t k : Nat) (sender : Bool) (s : State) : Host.Outcome State Fault Refusal :=
  .next ((s.at t).replayTimeout k sender)

/-! ### Sending ends of streams -/

/-- PWIN as it acts (R356). -/
def State.pwin (s : State) (k : Nat) : Nat := min 32768 (max 1 (s.rd (LK_WIN_PWIN k)))

/-- The window that limits a stream (R339): the Casting's or PWIN, never more than 2^EWIN toward an endpoint, and ROOM. -/
def State.txWindow (s : State) (x : TxStream) : Nat :=
  let w := if x.lbl then x.w else s.pwin x.port
  let w := if isEndpoint x.port then min w (2 ^ s.rd (LK_WIN_EWIN x.port)) else w
  match x.room with | none => w | some r => min w r

/-- Whether the stream may send the flit with an ALIVE (R339). -/
def State.txMay (s : State) (x : TxStream) (alive : Nat) : Bool :=
  decide ((alive + 2 ^ 16 - x.a) % 2 ^ 16 < s.txWindow x)

/-- A copy held for its ACK is released (R370). -/
def State.releaseHeld (s : State) (x : TxStream) (cell : Nat × Nat) : State :=
  if x.copies then s.releaseEnt x.port x.vc cell else s

/-- The copies of a stream that still wait are removed and released. -/
def State.dropWaiting (s : State) (x : TxStream) : State :=
  let p := s.port x.port
  let l := p.queues.getD x.vc []
  let mine (e : QEnt) : Bool := e.stream == some x.id
  let mul := (s.fab.mqs.filter (fun m => m.pend.any (fun y => y.2.2 == some x.id))).map (·.cell)
  let tx := if p.openTx.any (fun o => o.q == x.vc && o.lbl == x.lbl && o.addr == x.key) then none else p.openTx
  let s := s.setPort x.port { p with queues := p.queues.set x.vc (l.filter (fun e => !mine e)), openTx := tx }
  let mqs := (s.fab.mqs.map (fun m => { m with pend := m.pend.filter (fun y => y.2.2 ≠ some x.id) })).filter (fun m => m.pend ≠ [])
  let s := { s with fab := { s.fab with mqs := mqs } }
  ((l.filter mine).map (·.cell) ++ mul).foldl (fun s c => s.releaseEnt x.port x.vc c) s

/-- A stream ends with its flits, held and waiting, discarded (R341, R414), and the transmit unit's records of it expire (R482). -/
def State.endStream (s : State) (x : TxStream) : State :=
  let s := (x.held.foldl (fun s h => s.releaseHeld x h.2) s).dropWaiting x
  let s := s.expireRecs (256 + x.port) (fun r => x.lbl && r.key == x.vc * 2 ^ 32 + x.key)
  s.setTx { x with held := [], again := [], failed := true }

/-- A sending stream fails (R341): its flits are discarded and a LINK fault raised, a consequent one where its port is fenced or the
job is quenched (R519). -/
def State.failStream (s : State) (x : TxStream) : State :=
  let s := s.endStream x
  let level := if s.inForce then 2 else 1
  if s.quenched || s.portFenced x.port then s.faultConseq .link level 0 (mPort x.port) 5
  else s.fault .link level 0 (mPort x.port) 5

/-- A stream resends from `next` (R341); past RESEND_MAX resends from one A it fails. -/
def State.resend (s : State) (x : TxStream) : State :=
  let lim := max 1 (s.rd LK_GCFG_RESEND_MAX)
  if x.held = [] then s
  else if lim ≤ x.tries then s.failStream x
  else s.setTx { x with tries := x.tries + 1, again := x.held.map (fun h => h.1.alive), adv := s.now }

/-- An ACK reaches the sending stream (R339, R341, R370). -/
def State.ackStream (s : State) (x : TxStream) (next : Nat) (nak : Bool) (room : Nat) : State :=
  let n := (next + 2 ^ 16 - x.a) % 2 ^ 16
  let gone := if n < 2 ^ 15 then x.held.filter (fun h => decide ((h.1.alive + 2 ^ 16 - x.a) % 2 ^ 16 < n)) else []
  let s := gone.foldl (fun s h => s.releaseHeld x h.2) s
  let held := x.held.filter (fun h => !gone.contains h)
  let x := { x with held := held, a := if n < 2 ^ 15 then next else x.a, room := some room
                    adv := if 0 < n ∧ n < 2 ^ 15 then s.now else x.adv, tries := if 0 < n ∧ n < 2 ^ 15 then 0 else x.tries
                    again := x.again.filter (fun a => held.any (fun h => h.1.alive == a)) }
  let s := s.setTx x
  if nak then s.resend x else s

/-- STREAM_RESEND_TIMEOUT: no advance of A for 2^RTO ticks while flits are held (R341). -/
def State.streamTimeout (s : State) (i : Nat) : State :=
  match s.fab.txs.find? (fun x => x.id == i) with
  | none => s
  | some x =>
    let rto := min 24 (max 12 (s.rd LK_GCFG_RTO))
    if !x.failed && x.held ≠ [] && decide (x.adv + 2 ^ rto ≤ s.now) then s.resend x else s

def execStreamResendTimeout (t n : Nat) (s : State) : Host.Outcome State Fault Refusal := .next ((s.at t).streamTimeout n)

end Sys2Proof.Machine
end

