-- ==== Sys2Proof/Machine/Write.lean ====
section
/-! DEFINITION. What a host write to a field of each apply class does in each node state (R68), refusal codes (R76), and the
pending S-class writes (R71). -/

namespace Sys2Proof.Machine

/-- Refusal codes of CST_ERR (R76). -/
def ceBusy : Nat := 1
def ceSealed : Nat := 2
def ceSection : Nat := 0xD
def ceSfull : Nat := 0xE
def ceNostage : Nat := 0xF
def ceState : Nat := 0x10

/-- What becomes of a write (R68). -/
inductive Disp where
  | now
  | pend
  | refuse (code : Nat)
deriving DecidableEq, Repr

/-- A write to a field of an apply class in the node's state (R68). -/
def State.disp (s : State) (a : App) : Disp :=
  match a with
  | .l => .now
  | .c => if s.nodeState = stUncast then .now else if s.nodeState = stApplying then .refuse ceBusy else .refuse ceSealed
  | .s => if s.nodeState = stUncast then .now else if s.nodeState = stApplying then .refuse ceBusy else .pend

/-- The most S-class writes that can be pending (R71). -/
def spendMax : Nat := 4096

/-- An S-class write pends: a rewrite of a register already pending replaces its value in its place; none when the list is full
(R71). -/
def State.pendWrite (s : State) (a mask value : Nat) : Option State :=
  if s.cst.spend.any (fun w => w.addr == a) then
    let put (w : SWrite) : SWrite :=
      let v := Nat.lor (w.value &&& (0xFFFFFFFF ^^^ mask)) (value &&& mask)
      if w.addr = a then ⟨a, Nat.lor w.mask mask, v, s.now⟩ else w
    some { s with cst := { s.cst with spend := s.cst.spend.map put } }
  else if s.cst.spend.length < spendMax then
    some { s with cst := { s.cst with spend := s.cst.spend ++ [⟨a, mask, value &&& mask, s.now⟩] } }
  else none

end Sys2Proof.Machine
end

