-- ==== Sys2Proof/Machine/Gate.lean ====
section
/-! DEFINITION. Time gates, shapers and sampling (14). -/

namespace Sys2Proof.Machine

/-! ### Packet time -/

/-- T(n) of R428, in ticks: 17n + 35 units of 0.235714 tick with Light FEC, 0.241912 tick with Heavy FEC. -/
def packetTime (heavy : Bool) (n : Nat) : Nat :=
  ((17 * n + 35) * (if heavy then 241912 else 235714) + 999999) / 1000000

/-- The FEC of a port, as a T(n) argument. -/
def State.heavy (s : State) (k : Nat) : Bool := s.bit (LK_CFG_FEC k)

/-- MAXF of a queue (R429). -/
def State.maxf (s : State) (k q : Nat) : Nat := s.rd (GT_MAXF_MAXF k) / 2 ^ (4 * q) % 16 + 1

/-! ### Lists -/

/-- Whether gate bit `q` is set. -/
def gateBit (g q : Nat) : Bool := g / 2 ^ q % 2 == 1

/-- The gates of the entry that holds at an offset into a cycle (R432). -/
def entsAt : List (Nat × Nat) → Nat → Nat
  | [], _ => 0xFF
  | e :: es, off => if off < e.1 then e.2 else entsAt es (off - e.1)

/-- The gates that a list opens at tick `t`, at or after its start. -/
def GateList.at (g : GateList) (t : Nat) : Nat := entsAt g.ents ((t - g.start) % (if g.cycle = 0 then 1 else g.cycle))

/-- The gates of a port at tick `t` (R424, R426, R435): those of the list that has begun last, all open without one. -/
def Port.gatesAt (p : Port) (t : Nat) : Nat :=
  match p.gnext, p.glist with
  | some n, g =>
    if n.start ≤ t then (if n.ents = [] then 0xFF else n.at t)
    else match g with
      | some g => if g.start ≤ t then g.at t else 0xFF
      | none => 0xFF
  | none, some g => if g.start ≤ t then g.at t else 0xFF
  | none, none => 0xFF

/-- Whether queue `q` of a port is open at tick `t`. -/
def Port.openAt (p : Port) (q t : Nat) : Bool := gateBit (p.gatesAt t) q

/-- Whether a list has a closing of queue `q`. -/
def hasClosing (ents : List (Nat × Nat)) (q : Nat) : Bool :=
  ents.any (fun e => gateBit e.2 q) && ents.any (fun e => !gateBit e.2 q)

/-- The open runs of queue `q` in a list, from one closed entry to the next: the run in progress and those ended. -/
def openRuns (q : Nat) : List (Nat × Nat) → Nat → List Nat
  | [], run => if run = 0 then [] else [run]
  | e :: es, run =>
    if gateBit e.2 q then openRuns q es (run + e.1)
    else if run = 0 then openRuns q es 0 else run :: openRuns q es 0

/-- The cyclic open runs of a queue that has a closing: the list turned to begin at a closed entry (R431, R444). -/
def cyclicRuns (ents : List (Nat × Nat)) (q : Nat) : List Nat :=
  let n := (ents.takeWhile (fun e => gateBit e.2 q)).length
  openRuns q (ents.drop n ++ ents.take n) 0

/-- The check of a list against R432 and the guard bands (R436, R444): 0, or the refusal code of GT_GSTAT (R445). -/
def State.gateCheck (s : State) (k len cycle : Nat) (ents : List (Nat × Nat)) : Nat :=
  if 1024 < len then 1
  else if len = 0 then 0
  else if ents.any (fun e => e.1 == 0) = true ∨ ents.foldl (fun a e => a + e.1) 0 ≠ cycle then 2
  else if (List.range 8).any (fun q => hasClosing ents q &&
      (cyclicRuns ents q).any (fun r => decide (r < packetTime (s.heavy k) (s.maxf k q)))) = true then 3
  else 0

/-- CYCLE from a register or a record: 0 stands for 2^32 (R443, R445). -/
def cycleOf (v : Nat) : Nat := if v = 0 then 2 ^ 32 else v

/-- The shadow list of a port. -/
def State.shadowList (s : State) (k : Nat) : List (Nat × Nat) :=
  (List.range (min 1024 (s.rd (GT_GCTL_LEN k)))).map (fun i => (s.rd (GT_GL_INTERVAL k i), s.rd (GT_GL_GATES k i)))

/-- GT_LEAD as it acts (R445). -/
def State.gtLead (s : State) : Nat := max 128 (s.rd GT_LEAD)

/-- The first tick B + k × CYCLE at or after `t` (R433). -/
def lateStart (b cycle t : Nat) : Nat :=
  if t ≤ b then b - (b - t) / (if cycle = 0 then 1 else cycle) * cycle
  else b + (t - b + cycle - 1) / (if cycle = 0 then 1 else cycle) * cycle

/-- A list takes effect at `teff` with base `b` (R433, R434): its start, with the late base reported. -/
def State.takeList (s : State) (k teff b cycle : Nat) (ents : List (Nat × Nat)) (rel : Bool) : State :=
  let limit := teff + s.gtLead
  let late := decide (b < limit)
  let start := if late then lateStart b cycle limit else b
  let p := s.port k
  let s := s.setPort k { p with gnext := some ⟨ents, start, cycle, rel⟩ }
  if late then
    let s := (s.raise (GT_GSTAT_LATEBASE k)).inc GT_LATE
    if s.bit GT_FIRST_VALID then s
    else
      let s := ((s.wr GT_FIRST_CAUSE 1).wr GT_FIRST_PORT k).wrBit GT_FIRST_VALID true
      s.fault .sched 0 1 (mPort k)
  else s

/-- A port runs no list from now on (R426, R437). -/
def State.noList (s : State) (k : Nat) : State :=
  let p := s.port k
  let s := s.setPort k { p with glist := none, gnext := none }
  ((s.wrBit (GT_GSTAT_ACTIVE k) false).wr (GT_GSTAT_ALEN k) 0).wr (GT_ACYCLE k) 0

/-- A committed list takes effect (R433, R436, R437): LEN = 0 opens every gate of the port. On an uncast node it takes effect at once, but
there every gate is open and no list is ever in force (R426; log 87). -/
def State.commitList (s : State) (k : Nat) : State :=
  let s := s.wrBit (GT_GSTAT_PEND k) false
  if s.rd (GT_GCTL_LEN k) = 0 then s.noList k
  else
    let t := s.takeList k s.now (s.rd64 (GT_GBASE_LO k)) (cycleOf (s.rd (GT_GCYCLE k))) (s.shadowList k) false
    if s.inForce then t else t.setPort k { t.port k with gnext := none }

/-- Every list stops: at a quench and with the end of a Casting (R426). -/
def State.stopLists (s : State) : State :=
  allPorts.foldl (fun s k => let p := s.port k; if p.glist.isSome || p.gnext.isSome then s.noList k else s) s

/-- GATE_LIST_BEGIN: at S the new list is in force and hallmarked (R433 to R435). -/
def State.listBegin (s : State) (k : Nat) : State :=
  let p := s.port k
  match p.gnext with
  | none => s
  | some g =>
    if g.start ≤ s.now then
      let s := s.setPort k { p with glist := some g, gnext := none }
      let s := ((s.wrBit (GT_GSTAT_ACTIVE k) true).wr (GT_GSTAT_ALEN k) g.ents.length).wr64 (GT_GSTART_LO k) g.start
      let s := s.wr (GT_ACYCLE k) g.cycle
      let dig := sha256 (g.ents.flatMap (fun e => leBytes 4 e.1 ++ leBytes 4 e.2))
      s.hall 0xF (leBytes 2 k ++ leBytes 2 g.ents.length ++ leBytes 4 g.cycle ++ leBytes 8 g.start ++ dig)
    else s

def execGateListBegin (t k : Nat) (s : State) : Host.Outcome State Fault Refusal := .next ((s.at t).listBegin k)

/-- GATE_ENTRY: the entry in force is a function of the tick (R424, R432), so the time alone advances. -/
def execGateEntry (t : Nat) (s : State) : Host.Outcome State Fault Refusal := .next (s.at t)

/-- GATE_COMMIT: a write of COMMIT checks the shadow list, then pends it as an S-class write, or applies it at once while uncast
(R436). -/
def State.gateCommit (s : State) (p : Path) (k : Nat) : State :=
  match s.disp .s with
  | .refuse c => s.writeRefused c p.master
  | d =>
    let code := s.gateCheck k (s.rd (GT_GCTL_LEN k)) (cycleOf (s.rd (GT_GCYCLE k))) (s.shadowList k)
    if code ≠ 0 then ((s.raise (GT_GSTAT_REFUSED k)).wr (GT_GSTAT_CODE k) code).ruleRefused p.master
    else if d = .now then s.commitList k
    else
      match s.pendWrite (GT_GCTL_COMMIT k).addr 0x10000 0x10000 with
      | some s => s.wrBit (GT_GSTAT_PEND k) true
      | none => s.writeRefused ceSfull p.master

def execGateCommit (t : Nat) (p : Path) (k : Nat) (s : State) : Host.Outcome State Fault Refusal :=
  .next ((s.at t).cmd (some (40 + k / 128)) (fun s => s.gateCommit p k))

/-! ### Shapers -/

/-- A shaper of a port. -/
def Port.shaper (p : Port) (q : Nat) : Shaper := p.shapers.getD q Shaper.init

/-- PER and BURST as they act (R446). -/
def perOf (v : Nat) : Nat := min 20 (max 4 v)
def burstOf (v : Nat) : Nat := max 272 v

/-- A refill of a shaper (R440, R441): the settings written since the last one apply, then tokens are added up to BURST. -/
def refill (x : Shaper) (add per : Nat) (en : Bool) (burst : Nat) : Shaper :=
  let tok : Int :=
    if en then (if x.en then min (min x.tok burst + add) burst else burst) else burst
  ⟨add, per, en, burst, tok⟩

/-- SHAPER_REFILL: at a multiple of 2^PER of the configuration in force (R440, R441). -/
def State.shaperRefill (s : State) (k q : Nat) : State :=
  let p := s.port k
  let x := p.shaper q
  if s.now % 2 ^ x.per = 0 then
    let y := refill x (s.rd (GT_SHP_CFG_ADD k q)) (perOf (s.rd (GT_SHP_CFG_PER k q))) (s.bit (GT_SHP_CFG_EN k q))
      (burstOf (s.rd (GT_SHP_BURST_BURST k q)))
    s.setPort k { p with shapers := p.shapers.set q y }
  else s

def execShaperRefill (t k q : Nat) (s : State) : Host.Outcome State Fault Refusal := .next ((s.at t).shaperRefill k q)

/-- A flit leaves a shaped queue (R440): the first one also pays OVH. -/
def State.charge (s : State) (k q : Nat) (first : Bool) : State :=
  let p := s.port k
  let x := p.shaper q
  if x.en then
    let c : Int := 272 + (if first then (s.rd (GT_OVH_OVH k) : Int) else 0)
    s.setPort k { p with shapers := p.shapers.set q { x with tok := x.tok - c } }
  else s

/-! ### Sampling -/

/-- DEPTH of a queue: copies that wait, unicast and multicast (R371, R376). -/
def State.depth (s : State) (k q : Nat) : Nat :=
  ((s.port k).queues.getD q []).length +
  (s.fab.mqs.filter (fun m => m.flit.vc == q && m.pend.any (fun x => x.1 == k))).length

/-- SP as it acts (R446). -/
def spOf (v : Nat) : Nat := min 30 (max 10 v)

/-- QUEUE_SAMPLE: at a multiple of 2^SP, the depth of each queue, and the delay of its next copy is to be taken (R442). -/
def State.queueSample (s : State) (k : Nat) : State :=
  if s.bit (GT_SAMP_EN k) ∧ s.now % 2 ^ spOf (s.rd (GT_SAMP_SP k)) = 0 then
    let p := s.port k
    let s := s.setPort k { p with sample := List.replicate 8 (some s.now) }
    (List.range 8).foldl (fun s q =>
      let d := s.depth k q
      (s.wr (GT_SDLAST k q) d).wr (GT_SDMAX k q) (max d (s.rd (GT_SDMAX k q)))) s
  else s

def execQueueSample (t k : Nat) (s : State) : Host.Outcome State Fault Refusal := .next ((s.at t).queueSample k)

/-- The first copy of a queue that leaves at or after its sample tick gives its delay (R442). -/
def State.takeDelay (s : State) (k q arr : Nat) : State :=
  let p := s.port k
  match p.sample.getD q none with
  | none => s
  | some _ =>
    let d := min (s.now - arr) (2 ^ 32 - 1)
    let s := s.setPort k { p with sample := p.sample.set q none }
    (s.wr (GT_SLLAST k q) d).wr (GT_SLMAX k q) (max d (s.rd (GT_SLMAX k q)))

/-! ### The GATE section -/

/-- Record `i` of a GATE section: its offset (R443). -/
def gateRec (g : List Byte) : Nat → Nat
  | 0 => 64
  | i + 1 => let o := gateRec g i; (o + 128 + 8 * leAt g (o + 2) 2 + 63) / 64 * 64

/-- The entries of a record. -/
def gateEnts (g : List Byte) (o : Nat) : List (Nat × Nat) :=
  (List.range (leAt g (o + 2) 2)).map (fun i => (leAt g (o + 128 + 8 * i) 4, leAt g (o + 132 + 8 * i) 1))

/-- The fields of a port that a GATE record gives (R443, R444). -/
def State.applyGateRec (s : State) (g : List Byte) (o : Nat) : State :=
  let k := leAt g o 2
  let s := (s.wr (GT_MAXF_MAXF k) (leAt g (o + 4) 4)).wr (GT_OVH_OVH k) (leAt g (o + 30) 1)
  let s := (s.setWord (GT_WFQ0_W2 k).addr (BitVec.ofNat 32 (leAt g (o + 24) 4))).setWord (GT_WFQ1_W6 k).addr
    (BitVec.ofNat 32 (leAt g (o + 28) 2))
  let s := (List.range 8).foldl (fun s q =>
    (s.setWord (GT_SHP_CFG_ADD k q).addr (BitVec.ofNat 32 (leAt g (o + 32 + 8 * q) 4))).setWord (GT_SHP_BURST_BURST k q).addr
      (BitVec.ofNat 32 (leAt g (o + 36 + 8 * q) 4))) s
  let ents := gateEnts g o
  let s := ((s.wr (GT_GCTL_LEN k) ents.length).wr (GT_GCYCLE k) (leAt g (o + 16) 4)).wr64 (GT_GBASE_LO k) 0
  (ents.zipIdx).foldl (fun s e => (s.wr (GT_GL_INTERVAL k e.2) e.1.1).wr (GT_GL_GATES k e.2) e.1.2) s

/-- The lists of a GATE section take effect (R433): those with MODE 1 at the end of the apply with base BASE, those with MODE 0
when the first epoch begins, with base START + BASE. -/
def State.takeSectLists (s : State) (mode : Nat) (base : Nat) : State :=
  let g := sect s.cst.img tyGATE
  (List.range (leAt g 0 4)).foldl (fun s i =>
    let o := gateRec g i
    let ents := gateEnts g o
    if leAt g (o + 20) 1 = mode ∧ ents ≠ [] then
      s.takeList (leAt g o 2) s.now (base + leAt g (o + 8) 8) (cycleOf (leAt g (o + 16) 4)) ents (mode == 0)
    else s) s

/-- The lists with MODE 0 of the GATE section are shifted by a continue (R498). -/
def State.shiftLists (s : State) (d : Nat) : State :=
  let mv (x : GateList) : GateList := if x.rel then { x with start := x.start + d } else x
  allPorts.foldl (fun s k =>
    let p := s.port k
    let s := if p.glist.any (·.rel) || p.gnext.any (·.rel) then s.setPort k { p with glist := p.glist.map mv, gnext := p.gnext.map mv } else s
    match p.glist with
    | some x => s.wr64 (GT_GSTART_LO k) (mv x).start
    | none => s) s

end Sys2Proof.Machine
end

