-- ==== Sys2Proof/Machine/Touch.lean ====
section
/-! DEFINITION. Touchmarks (16): cell checks, pending records and alive entries. -/

namespace Sys2Proof.Machine

/-- Whether a unit's CRC work is on, and its polynomial (R474, R484). -/
def State.tmOn (s : State) (u : Nat) : Bool := s.bit (TM_CFG_EN u)
def State.tmPoly (s : State) (u : Nat) : Nat := s.rd (TM_CFG_POLY u)

/-- The units of R473. -/
def tmRx (k : Nat) : Nat := k
def tmTx (k : Nat) : Nat := 256 + k
def tmCru (c : Nat) : Nat := 512 + c
def tmGroup (g : Nat) : Nat := 640 + g

/-- The class of a unit (R482). -/
def tmClass (u : Nat) : FClass := if u < 512 then .link else .mem

/-- The first Touchmark event since power-on is captured (R485). -/
def State.tmFirst (s : State) (u cause : Nat) : State :=
  if s.bit TM_FIRST_VALID then s
  else ((s.wr TM_FIRST_UNIT u).wr TM_FIRST_CAUSE cause).wrBit TM_FIRST_VALID true

/-- A unit judges an item failing (R476, R477, R483); nothing but an injection makes a cell's check mismatch (R528, R529; log 61). -/
def State.tmFailing (s : State) (u cause : Nat) : State :=
  ((s.inc (TM_FAIL u)).tmFirst u cause).fault (tmClass u) 0 cause (mUnit u) 7 0 (cause == 2)

/-- The bits of a polynomial's CRC (R474). -/
def polyBits (p : Nat) : Nat := match p with | 0 | 1 => 32 | 2 => 64 | _ => 16

/-- The check of a cell that unit `u` forms (R475, R476); an injection of kind 8 inverts VALUE (R528). -/
def State.genCheck (s : State) (u : Nat) (data : List Byte) (fail : Bool) : Check × State :=
  if s.tmOn u then
    let p := s.tmPoly u
    let (hit, s) := s.takeInj 8 u
    let v := touchCrc p data
    (⟨if hit then 2 ^ polyBits p - 1 - v else v, p, fail, true⟩, s)
  else (⟨0, 0, fail, false⟩, s)

/-- The check that the switch core generates, with CRC-32C (R475). -/
def coreCheck (data : List Byte) : Check := ⟨touchCrc 0 data, 0, false, true⟩

/-- Whether a cell's CRC does not match, as unit `u` verifies it; a disabled unit verifies nothing (R476). -/
def State.tmMismatch (s : State) (u : Nat) (data : List Byte) (c : Check) : Bool :=
  s.tmOn u && c.on && !c.fail && touchCrc c.code data != c.value

/-- A Crucible's cells are written with the checks that its unit generates, which cells of the Ingot keep; an HBM group writes nothing of a cell that it judges failing, and
the writer receives a MEM error (R475, R476). -/
def State.cruWrite (s : State) (c : Nat) (m : Master) (a : Nat) (bs : List Byte) : Bool × State :=
  (List.range ((a % 256 + bs.length + 255) / 256)).foldl (fun (r : Bool × State) i =>
    let lo := max a (a / 256 * 256 + 256 * i)
    let part := slice bs (lo - a) (min (a + bs.length) (a / 256 * 256 + 256 * (i + 1)) - lo)
    let (chk, s) := r.2.genCheck (tmCru c) part false
    let u := tmGroup (groupOf lo)
    if decide (lo < hbmEnd) && s.tmMismatch u part chk then (false, s.tmFailing u 2)
    else
      let (ok, s) := s.memWrite m lo part
      let bad := chk.on && touchCrc chk.code part != chk.value
      (r.1 && ok, if bad then { s with msys := { s.msys with badChk := lo / 256 * 256 :: s.msys.badChk } } else s)) (true, s)

/-- Pending records of a unit. -/
def State.tmList (s : State) (u : Nat) : List TmRec := ((s.fab.tmRecs.find? (fun e => e.1 == u)).map (·.2)).getD []

/-- Store the pending records of a unit. -/
def State.setTmList (s : State) (u : Nat) (l : List TmRec) : State :=
  let rest := s.fab.tmRecs.filter (fun e => e.1 ≠ u)
  { s with fab := { s.fab with tmRecs := if l = [] then rest else rest ++ [(u, l)] } }

/-- The key of a record: a data-class stream by its VC and 20-bit name; the Q and M link sequence by the VC (R481). -/
def tmKey (vc stream : Nat) : Nat := vc * 2 ^ 32 + stream

/-- A unit that judges an item failing from its own evidence keeps a record; the seventeenth replaces the oldest (R481). `inj`
says that an injection caused it (R529). -/
def State.tmRecord (s : State) (u key item : Nat) (data : List Byte) (inj : Bool) : State :=
  if s.tmOn u then
    let l := s.tmList u
    let s := if 16 ≤ l.length then s.inc (TM_EXPIRED u) else s
    let l := if 16 ≤ l.length then l.drop 1 else l
    s.setTmList u (l ++ [⟨key, item, touchCrc (s.tmPoly u) data, s.now, inj⟩])
  else s

/-- A later copy that is not failing resolves a record (R482): a check-field fault or a data fault. -/
def State.tmResolve (s : State) (u key item : Nat) (data : List Byte) : State :=
  match (s.tmList u).find? (fun r => r.key == key && r.item == item) with
  | none => s
  | some r =>
    let s := s.setTmList u ((s.tmList u).erase r)
    if touchCrc (s.tmPoly u) data = r.digest then
      let s := ((s.inc (TM_CFF u)).tmFirst u 3).fault (tmClass u) 0 3 (mUnit u) 7 0 r.inj
      s.hall 0x13 (leBytes 2 u ++ [BitVec.ofNat 8 (key / 2 ^ 32), 0] ++ leBytes 4 (key % 2 ^ 32) ++ leBytes 2 item ++ [0, 0] ++
        leBytes 8 r.digest)
    else ((s.inc (TM_DATA u)).tmFirst u 4).fault (tmClass u) 1 4 (mUnit u) 7 0 r.inj

/-- A change of a guard register is hallmarked (R553). -/
def State.hallGuard (s : State) (addr old new : Nat) : State :=
  if old = new then s else s.hall 0xC (leBytes 4 addr ++ leBytes 4 old ++ leBytes 4 new)

/-- EN of a unit is written (R484): the change is hallmarked, and a disabled unit keeps no records. -/
def State.tmEnable (s : State) (u : Nat) (v : Bool) : State :=
  let f := TM_CFG_EN u
  let old := (s.word f.addr).toNat
  let s := s.wrBit f v
  let s := if v then s else s.setTmList u []
  s.hallGuard f.addr old (s.word f.addr).toNat

/-- TOUCHMARK_ENABLE (R484). -/
def execTouchmarkEnable (t u : Nat) (v : Bool) (s : State) : Host.Outcome State Fault Refusal := .next ((s.at t).cmd none (fun s => s.tmEnable u v))

/-- TOUCHMARK_RECORD_EXPIRY: records unresolved after 2^24 ticks (R482). -/
def State.recordExpiry (s : State) (u : Nat) : State := s.expireRecs u (fun r => decide (r.tick + 2 ^ 24 ≤ s.now))

def execTouchmarkRecordExpiry (t u : Nat) (s : State) : Host.Outcome State Fault Refusal := .next ((s.at t).recordExpiry u)

/-- ALIVE_ENTRY_FREE: packet-stream entries of a port with no flit and no unacknowledged flit for 2^20 ticks (R479). -/
def State.aliveFree (s : State) (k : Nat) : State :=
  { s with fab := { s.fab with rxs := s.fab.rxs.filter (fun x =>
      !(x.port == k && !x.lbl && x.acc == 0 && decide (x.lastFlit + 2 ^ 20 ≤ s.now))) } }

def execAliveEntryFree (t k : Nat) (s : State) : Host.Outcome State Fault Refusal := .next ((s.at t).aliveFree k)

/-- The terminating end of a stream, opened at its first flit; none when the port's 2,048 entries are taken (R340, R479). -/
def State.rxEntry (s : State) (k : Nat) (lbl : Bool) (key vc room : Nat) : Option (RxStream × State) :=
  match s.fab.rxs.find? (fun x => x.port == k && x.lbl == lbl && x.key == key && x.vc == vc) with
  | some x => some (x, s)
  | none =>
    if 2048 ≤ (s.fab.rxs.filter (fun x => x.port == k)).length then none
    else
      let x : RxStream := ⟨k, lbl, key, vc, 0, [], none, 0, s.now, room⟩
      some (x, { s with fab := { s.fab with rxs := s.fab.rxs ++ [x] } })

/-- Store a terminating end. -/
def State.setRx (s : State) (x : RxStream) : State :=
  { s with fab := { s.fab with rxs := s.fab.rxs.map (fun y =>
      if y.port = x.port ∧ y.lbl = x.lbl ∧ y.key = x.key ∧ y.vc = x.vc then x else y) } }

end Sys2Proof.Machine
end

