-- ==== Sys2Proof/Machine/Burnish.lean ====
section
/-! DEFINITION. Burnish and the repair of HBM stacks (15). -/

namespace Sys2Proof.Machine

/-! ### Burnish -/

/-- Ticks in a second (R79). -/
def tickSec : Nat := 1600000000

/-- The pooled cell that an Ingot word lies in, as (die, index), if it is one (R359, R448). -/
def State.pooledCell (s : State) (w : Nat) : Option (Nat × Nat) :=
  if ingotBase ≤ w then
    let d := (w - ingotBase) / 2 ^ 28
    let c := (w - ingotBase) % 2 ^ 28 / 256
    if c < s.pcells d then some (d, c) else none
  else none

/-- The free bit of a pooled cell (R360): nobody holds it, and the auditor has not taken it out. -/
def State.cellFree (s : State) (c : Nat × Nat) : Bool :=
  !s.fab.leaf0.contains c

/-- Whether a word lies in a reserved region that does not exist now: the replay log's place while nothing is recorded or
replayed. The other regions have a size only while they exist (R450, R462; DEDUCED, log 30). -/
def State.absentRegion (s : State) (w : Nat) : Bool :=
  s.rd DET_STAT_MODE == 0 && meets w 1 (s.rd64 DET_LBASE_LO / 2 ^ 20 % 2 ^ 20 * 2 ^ 20, s.rd DET_LSIZE_SIZE * 0x100000)

/-- The domain a memory word lives in (R588): the Ingot of its die or the controller of its stack. -/
def memDom (w : Nat) : Nat :=
  if w < hbmEnd then (if w / stackSize < 4 then 46 else 47) else 42 + (w - ingotBase) / 2 ^ 28

/-- The stack that a repair command holds (R467). -/
def State.repairStack (s : State) : Option Nat := s.msys.repair.map (fun r => r.2.1 % 8)

/-- Burnish may read a word now: its tier is enabled, its memory On, and no repair runs on its stack (R467, R470, R591). -/
def State.burnishMay (s : State) (w : Nat) : Bool :=
  s.domOn (memDom w) &&
  (if w < hbmEnd then s.bit MEM_BCTL_EN_H && s.repairStack != some (w / stackSize) else s.bit MEM_BCTL_EN_I)

/-- Progress of the pass after word `w`, in 1/256 of a die or of a stack (R470). -/
def State.burnishPos (s : State) (w : Nat) : State :=
  if w < hbmEnd then s.wr MEM_BSTAT_POS_H (w % stackSize * 256 / stackSize)
  else s.wr MEM_BSTAT_POS_I ((w - ingotBase) % 2 ^ 28 / 2 ^ 20)

/-- A word found uncorrectable where nothing of value can be (R462, R465): zeros with valid check symbols, counted, captured where it is the
first, a note. -/
def State.burnishZero (s : State) (w : Nat) (poisoned : Bool) : State :=
  let s := (s.countUncorr w mBurnish 2 poisoned).fault .mem 0 0 mBurnish 2 w
  (s.clearErr w).setBytes w (List.replicate (wordSize w) 0)

/-- Burnish reads a word and acts on what it finds (R461, R462). -/
def State.burnish (s : State) (w : Nat) : State :=
  let idle := (match s.pooledCell w with | some c => s.cellFree c | none => false) || s.absentRegion w
  match s.decodeWord w with
  | .clean => s
  | .corrected _ =>
    let (ok, s) := s.readWord mBurnish 2 w
    if ok then s.clearErr w else s
  | .uncorrectable =>
    if idle then s.freeNext.burnishZero w false
    else let (_, s) := s.readWord mBurnish 2 w; s.fault .mem 1 0 mBurnish 2 w
  | .poisoned =>
    if idle then s.burnishZero w true
    else let (_, s) := s.readWord mBurnish 2 w; s.fault .mem 1 0 mBurnish 2 w

/-- BURNISH_WORD: the word or block that holds address `a` (R460 to R462). -/
def execBurnishWord (t a : Nat) (s : State) : Host.Outcome State Fault Refusal :=
  let s := s.at t
  let w := wordBase a
  .next (if (targetOf a).isSome && s.burnishMay w then ((s.groupAccess mBurnish w).burnish w).burnishPos w else s)

/-- Both dies, or both controllers, are On (R591). -/
def State.tierOn (s : State) (hbm : Bool) : Bool := if hbm then s.domOn 46 && s.domOn 47 else s.domOn 42 && s.domOn 43

/-- The period that the next pass has, in seconds (R470). -/
def State.burnishPer (s : State) (hbm : Bool) : Nat :=
  if hbm then 60 * max 15 (s.rd MEM_BCTL_PER_H) else max 60 (s.rd MEM_BCTL_PER_I)

/-- A pass of a tier ends and the next begins (R463). -/
def State.passEnd (s : State) (hbm : Bool) : State :=
  let (start, per) := if hbm then (s.msys.passH, s.msys.perH) else (s.msys.passI, s.msys.perI)
  let s := s.inc (if hbm then MEM_BPASS_PASS_H else MEM_BPASS_PASS_I)
  let s := s.wr (if hbm then MEM_BSTAT_POS_H else MEM_BSTAT_POS_I) 0
  let s :=
    if start + per * tickSec < s.now then
      (s.raise (if hbm then MEM_BSTAT_BEHIND_H else MEM_BSTAT_BEHIND_I)).fault .mem 1 0 mBurnish 2
    else s
  let p := s.burnishPer hbm
  let m := s.msys
  { s with msys := if hbm then { m with passH := s.now, perH := p } else { m with passI := s.now, perI := p } }

/-- BURNISH_PASS_END (R463). -/
def execBurnishPassEnd (t : Nat) (hbm : Bool) (s : State) : Host.Outcome State Fault Refusal :=
  let s := s.at t
  .next (if s.tierOn hbm && s.bit (if hbm then MEM_BCTL_EN_H else MEM_BCTL_EN_I) then s.passEnd hbm else s)

/-- The bits of MEM_BCTL that hold fields (R470). -/
def bctlMask : Nat := 0x0FFFFFF3

/-- MEM_BCTL is written (R463): a write that clears an enable, or sets a period above its default, is hallmarked. -/
def State.burnishCtrl (s : State) (v : Nat) : State :=
  let old := (s.word MEM_BCTL_EN_I.addr).toNat
  let new := v % 2 ^ 32 &&& bctlMask
  let s1 := s.setWord MEM_BCTL_EN_I.addr (BitVec.ofNat 32 new)
  let weak := (s.bit MEM_BCTL_EN_I && !s1.bit MEM_BCTL_EN_I) || (s.bit MEM_BCTL_EN_H && !s1.bit MEM_BCTL_EN_H) ||
    decide (1200 < s1.rd MEM_BCTL_PER_I) || decide (240 < s1.rd MEM_BCTL_PER_H)
  if weak then s1.hall 0xC (leBytes 4 MEM_BCTL_EN_I.addr ++ leBytes 4 old ++ leBytes 4 new) else s1

/-- BURNISH_CTRL: a write of MEM_BCTL (R463, R470). -/
def execBurnishCtrl (t : Nat) (path : Path) (v : Nat) (s : State) : Host.Outcome State Fault Refusal :=
  let _ := path
  .next ((s.at t).cmd none (fun s => s.burnishCtrl v))

/-! ### Repair -/

/-- Codes of MEM_REP_STAT (R471). -/
def rpState : Nat := 1
def rpBusy : Nat := 2
def rpNospare : Nat := 3
def rpRange : Nat := 4
def rpStack : Nat := 5

/-- A repair command is refused or fails (R467, R471). -/
def State.repairErr (s : State) (code : Nat) : State := (s.raise MEM_REP_STAT_ERR).wr MEM_REP_STAT_CODE code

/-- A write of MEM_REP_CMD (R467): accepted only while the node is UNCAST and no command runs; the selection and the argument are
latched. -/
def State.repairStart (s : State) (op : Nat) : State :=
  if s.nodeState ≠ stUncast then s.repairErr rpState
  else if s.msys.repair.isSome then s.repairErr rpBusy
  else if op = 0 ∨ 7 ≤ op then s.repairErr rpRange
  else
    let s := s.wrBit MEM_REP_STAT_BUSY true
    let s := s.wr MEM_REP_STAT_CODE 0
    { s with msys := { s.msys with
      repair := some (op, (s.word MEM_REP_SEL_STACK.addr).toNat, s.rd MEM_REP_DATA) } }

/-- REMAP (R467). -/
def execRemap (t : Nat) (path : Path) (s : State) : Host.Outcome State Fault Refusal :=
  let _ := path
  .next ((s.at t).cmd none (fun s => s.repairStart 1))
/-- UNMAP (R467). -/
def execUnmap (t : Nat) (path : Path) (s : State) : Host.Outcome State Fault Refusal :=
  let _ := path
  .next ((s.at t).cmd none (fun s => s.repairStart 2))
/-- SPPR (R467). -/
def execSppr (t : Nat) (path : Path) (s : State) : Host.Outcome State Fault Refusal :=
  let _ := path
  .next ((s.at t).cmd none (fun s => s.repairStart 3))
/-- HPPR (R467). -/
def execHppr (t : Nat) (path : Path) (s : State) : Host.Outcome State Fault Refusal :=
  let _ := path
  .next ((s.at t).cmd none (fun s => s.repairStart 4))
/-- RD1500 (R467). -/
def execRd1500 (t : Nat) (path : Path) (s : State) : Host.Outcome State Fault Refusal :=
  let _ := path
  .next ((s.at t).cmd none (fun s => s.repairStart 5))
/-- WR1500 (R467). -/
def execWr1500 (t : Nat) (path : Path) (s : State) : Host.Outcome State Fault Refusal :=
  let _ := path
  .next ((s.at t).cmd none (fun s => s.repairStart 6))
/-- REPAIR_OP_RESERVED: OP 0 or 7 to 15 (R471). -/
def execRepairOpReserved (t : Nat) (path : Path) (op : Nat) (s : State) : Host.Outcome State Fault Refusal :=
  let _ := path
  .next ((s.at t).cmd none (fun s => if op % 16 = 0 ∨ 7 ≤ op % 16 then s.repairStart (op % 16) else s))

/-- What a completed repair does to data (R469): what lies in a remapped line, or, as the spec gives no map of rows to addresses,
anywhere in the group of a repaired row, is undefined until it is written (log 31). A check line holds no data byte. -/
def State.repairData (s : State) (g line : Nat) : State := s.undefine (some (g, line)) 0 0

/-- The REPAIR record (R468, R553). -/
def State.repairHall (s : State) (op sel arg : Nat) : State :=
  s.hall 0x16 ([BitVec.ofNat 8 (sel % 8), BitVec.ofNat 8 (sel / 8 % 16), BitVec.ofNat 8 op, BitVec.ofNat 8 (sel / 128 % 2)] ++
    leBytes 4 arg)

/-- The effect of a repair that completed (R467 to R469). -/
def State.repairDone (s : State) (op sel arg result : Nat) : State :=
  let h := sel % 8
  let g := 16 * h + sel / 8 % 16
  let bank := sel / 128 % 128
  let s := s.raise MEM_REP_STAT_DONE
  let s := s.out (.repair h (if op = 6 then sel / 65536 % 256 else if op = 5 then arg % 256 else op) arg)
  let s := if op = 5 then s else s.repairHall op sel arg
  let k := arg % 128
  let moved (s : State) : State := if k < 64 then s.repairData g k else s
  match op with
  | 1 => moved { s with msys := { s.msys with remapped := (g, k) :: s.msys.remapped } }
  | 2 => if s.msys.remapped.contains (g, k) then moved { s with msys := { s.msys with remapped := s.msys.remapped.erase (g, k) } } else s
  | 3 => ({ s with msys := { s.msys with rows := (g, bank, arg, false) :: s.msys.rows } }).repairData g 64
  | 4 => ({ s with msys := { s.msys with rows := (g, bank, arg, true) :: s.msys.rows } }).repairData g 64
  | 5 => s.wr MEM_REP_DATA result
  | _ => s

/-- A repair command completes: a symbol out of range by itself; else the stack's answer, `answer` 0 done, 1 no spare left, 2 none
within 10 ms, 3 a bank or row that the stack does not have (R468). -/
def State.repairComplete (s : State) (answer result spares : Nat) : State :=
  match s.msys.repair with
  | none => s
  | some (op, sel, arg) =>
    let s := { s with msys := { s.msys with repair := none } }
    let s := (s.wrBit MEM_REP_STAT_BUSY false).wr MEM_REP_STAT_SPARES spares
    if (op = 1 ∨ op = 2) ∧ 67 < arg % 128 then s.repairErr rpRange
    else if answer = 2 then (s.repairErr rpStack).fault .mem 1 rpStack mNone
    else if answer = 1 ∧ (op = 1 ∨ op = 3 ∨ op = 4) then s.repairErr rpNospare
    else if answer = 3 ∧ (op = 3 ∨ op = 4) then s.repairErr rpRange
    else s.repairDone op sel arg result

/-- REPAIR_COMPLETE (R468). -/
def execRepairComplete (t answer result spares : Nat) (s : State) : Host.Outcome State Fault Refusal :=
  .next ((s.at t).repairComplete answer result spares)

end Sys2Proof.Machine
end

