-- ==== Sys2Proof/Machine/CollBase.lean ====
section
/-! DEFINITION. The CRUC section (R223, R227, R228), groups and ranks (R224 to R226), the element map (R237), and the orders in
which an axis accumulates (R236, R239, R419, R420). Everything here is a function of an image, so CHECK reads a staged one with
the same words. -/

namespace Sys2Proof.Machine

/-- The next multiple of 64. -/
def up64 (n : Nat) : Nat := (n + 63) / 64 * 64

/-! ### Declared endpoints -/

/-- Entry k of the PORT section: USE, WIDTH, FEC, REACH, INITQ, INITM (R353). -/
def portEntry (img : List Byte) (k : Nat) : Nat × Nat × Nat × Nat × Nat × Nat :=
  let p := sect img tyPORT
  let o := 64 + 16 * k
  (leAt p o 1, leAt p (o + 1) 1, leAt p (o + 2) 1, leAt p (o + 4) 2, leAt p (o + 6) 2, leAt p (o + 8) 2)

/-- The endpoint-port indexes at which a declared endpoint of the image begins (R25, R26). -/
def imgEndpoints (img : List Byte) : List Nat :=
  (List.range 128).filter (fun n =>
    let e := portEntry img (epPort n)
    e.1 == 1 && decide (0 < e.2.1) && n % e.2.1 == 0)

/-! ### Descriptors -/

def cruc (img : List Byte) : List Byte := sect img tyCRUC
def nGrp (img : List Byte) : Nat := leAt (cruc img) 0 4
def nCol (img : List Byte) : Nat := leAt (cruc img) 4 4

/-- A field of group descriptor i (R223). -/
def grpF (img : List Byte) (i o n : Nat) : Nat := leAt (cruc img) (64 + 32 * i + o) n

/-- A field of collective descriptor d (R228). -/
def colF (img : List Byte) (d o n : Nat) : Nat := leAt (cruc img) (up64 (64 + 32 * nGrp img) + 128 * d + o) n

def colGroup (img : List Byte) (d : Nat) : Nat := colF img d 0 2
def colOp (img : List Byte) (d : Nat) : Nat := colF img d 2 1
/-- FUNC, taken as SUM where R228 says it is ignored. -/
def colFunc (img : List Byte) (d : Nat) : Nat :=
  match colOp img d with | 2 | 3 | 5 | 6 => 0 | _ => colF img d 3 1
def colMode (img : List Byte) (d : Nat) : Nat := colF img d 4 1
/-- The data format and the result format. -/
def colFmt (img : List Byte) (d : Nat) : Fmt := (Fmt.ofCode (colF img d 5 1 % 16)).getD .int8
def colRes (img : List Byte) (d : Nat) : Fmt := (Fmt.ofCode (colF img d 5 1 / 16)).getD .int8
def colChunk (img : List Byte) (d : Nat) : Nat := 2 ^ (12 + colF img d 6 1)
def colCount (img : List Byte) (d : Nat) : Nat := colF img d 8 8
def colMembers (img : List Byte) (d : Nat) : Nat := colF img d 16 4
def colRoot (img : List Byte) (d : Nat) : Nat := colF img d 20 4
def colFirst (img : List Byte) (d : Nat) : Nat := colF img d 40 8
def colEvery (img : List Byte) (d : Nat) : Nat := colF img d 48 4
def colStartOff (img : List Byte) (d : Nat) : Nat := colF img d 52 4
def colRelOff (img : List Byte) (d : Nat) : Nat := colF img d 56 4
def colPeriod (img : List Byte) (d : Nat) : Nat := colF img d 60 4
def colHold (img : List Byte) (d : Nat) : Nat := colF img d 64 4
def colSyncIn (img : List Byte) (d : Nat) : Nat := colF img d 68 2
def colSyncOut (img : List Byte) (d : Nat) : Nat := colF img d 70 2
def colSyncVal (img : List Byte) (d : Nat) : Nat := colF img d 72 4
def colTemper (img : List Byte) (d : Nat) : Nat := colF img d 76 2
def colSrc (img : List Byte) (d : Nat) : Nat := colF img d 80 5
def colDst (img : List Byte) (d : Nat) (one : Bool) : Nat := colF img d (if one then 96 else 88) 5
def colTag (img : List Byte) (d : Nat) : Nat := colF img d 104 5
def colUp (img : List Byte) (d : Nat) : Nat := colF img d 112 4
def colDn (img : List Byte) (d : Nat) : Nat := colF img d 116 4

/-- Crucibles of a mask, from base `b`. -/
def maskCrus (m b : Nat) : List Nat := ((List.range 64).filter (fun i => m / 2 ^ i % 2 == 1)).map (· + b)

/-- The Crucible set on one die, and the whole set (R222, R228). -/
def colSetOn (img : List Byte) (d die : Nat) : List Nat := maskCrus (colF img d (24 + 8 * die) 8) (64 * die)
def colSet (img : List Byte) (d : Nat) : List Nat := colSetOn img d 0 ++ colSetOn img d 1

/-- The Crucible that serves cell i of a chunk on the die that receives it (R222); a set with no member on that die serves it on
the other (DEDUCED, log 20). -/
def colCru (img : List Byte) (d die i : Nat) : Nat :=
  let on := colSetOn img d die
  let l := if on = [] then colSet img d else on
  l.getD (i % l.length) 0

/-! ### Groups and ranks -/

/-- Whether axis a (0 to 3: W to Z; 4: N) spans (R223). -/
def grpSpan (img : List Byte) (g a : Nat) : Bool := grpF img g 0 1 / 2 ^ (if a = 4 then 0 else a + 1) % 2 == 1
def grpLo (img : List Byte) (g a : Nat) : Nat := grpF img g (4 + 4 * a) 1
def grpHi (img : List Byte) (g a : Nat) : Nat := grpF img g (5 + 4 * a) 1
def grpStride (img : List Byte) (g a : Nat) : Nat := grpF img g (6 + 4 * a) 1
def grpSelf (img : List Byte) (g : Nat) : Bool := grpF img g 23 1 % 2 == 1
/-- The aligned-integer block size of a group (R223). -/
def grpBlk (img : List Byte) (g : Nat) : Nat := 8 * 2 ^ (grpF img g 1 1)

/-- The test of R224 on one axis. -/
def grpHas (img : List Byte) (g a c : Nat) : Bool :=
  decide (grpLo img g a ≤ c ∧ c ≤ grpHi img g a) && (c - grpLo img g a) % grpStride img g a == 0

/-- Whether this node takes part (R224). -/
def grpTakes (img : List Byte) (g : Nat) : Bool := (List.range 4).all (fun a => grpHas img g a (imgCoord img a))

/-- The in-node members, in N rank order: endpoint indexes, then 128 for SELF (R224, R225). -/
def grpMembers (img : List Byte) (g : Nat) : List Nat :=
  ((imgEndpoints img).filter (grpHas img g 4)) ++ (if grpSelf img g then [128] else [])

/-- The in-node instances of a group: one, or with SPAN[0] = 0 one for each member (R223, R224). -/
def grpInsts (img : List Byte) (g : Nat) : List (List Nat) :=
  if grpSpan img g 4 then (if grpMembers img g = [] then [] else [grpMembers img g]) else (grpMembers img g).map (fun n => [n])

/-- m_a and r_a of R225. -/
def grpM (img : List Byte) (g a : Nat) : Nat :=
  if grpSpan img g a then (grpHi img g a - grpLo img g a) / grpStride img g a + 1 else 1
def grpR (img : List Byte) (g a : Nat) : Nat :=
  if grpSpan img g a then (imgCoord img a - grpLo img g a) / grpStride img g a else 0

/-- The logical rank of in-node rank `n` of this node, of `mn` members (R225). -/
def grpLogical (img : List Byte) (g mn n : Nat) : Nat :=
  n + mn * (grpR img g 0 + grpM img g 0 * (grpR img g 1 + grpM img g 1 * (grpR img g 2 + grpM img g 2 * grpR img g 3)))

/-- The in-node rank, and the torus rank on axis a, of a logical rank (R225). -/
def rankN (mn l : Nat) : Nat := l % mn
def rankA (img : List Byte) (g mn l a : Nat) : Nat :=
  let q := l / mn
  let d := (List.range a).foldl (fun d i => d * grpM img g i) 1
  q / d % grpM img g a

/-- The coordinate code of the node that holds a logical rank. -/
def rankCode (img : List Byte) (g mn l : Nat) : Nat :=
  coordCode (fun a => if grpSpan img g a then grpLo img g a + rankA img g mn l a * grpStride img g a else imgCoord img a)

/-- The spanning torus axes with more than one rank, in the order W to Z (R237). -/
def grpAxes (img : List Byte) (g : Nat) : List Nat := (List.range 4).filter (fun a => decide (1 < grpM img g a))

/-! ### The element map -/

/-- slice(n, m, r) of R237 with its unit u. -/
def mapSlice (u n m r : Nat) : Nat × Nat :=
  let q := u * (((n + u - 1) / u + m - 1) / m)
  (min (r * q) n, min (min (r * q) n + q) n)

/-- The elements of a path of slices in a chunk of n elements: first and count. -/
def mapPath (u : Nat) : List Nat → List Nat → Nat → Nat → Nat × Nat
  | m :: ms, r :: rs, lo, n =>
    let x := mapSlice u n m r
    mapPath u ms rs (lo + x.1) (x.2 - x.1)
  | _, _, lo, n => (lo, n)

/-! ### Rings and lines -/

/-- The cut list of an image without its section walk: codes (R399, R417). -/
def ringCut (img : List Byte) (a c : Nat) : Bool :=
  (imgCuts img).contains (coordCode (fun i => if i = a then c else imgCoord img i))

/-- Ranks of this node's ring on axis a that lie on uncut nodes. -/
def rankUncut (img : List Byte) (g a r : Nat) : Bool := !ringCut img a (grpLo img g a + r * grpStride img g a)

/-- The start of a gap of two or more consecutive cut coordinates of the ring of axis a: the last uncut one before it (R418). -/
def ringGap (img : List Byte) (a : Nat) : Option Nat :=
  let m := imgAxis img a
  (List.range m).find? (fun c => !ringCut img a c && ringCut img a ((c + 1) % m) && ringCut img a ((c + 2) % m) && decide (2 < m))

/-- The number of such gaps (R418). -/
def ringGaps (img : List Byte) (a : Nat) : Nat :=
  let m := imgAxis img a
  ((List.range m).filter (fun c => !ringCut img a c && ringCut img a ((c + 1) % m) && ringCut img a ((c + 2) % m) &&
    decide (2 < m))).length

/-- Ranks in line order on an open ring (R420): from the first coordinate after the gap upward, the gap last. -/
def lineOrder (img : List Byte) (g a e : Nat) : List Nat :=
  let m := imgAxis img a
  let gapLen := ((List.range m).takeWhile (fun i => ringCut img a ((e + 1 + i) % m))).length
  let cs := (List.range m).map (fun i => (e + 1 + gapLen + i) % m)
  (cs.filter (grpHas img g a)).map (fun c => (c - grpLo img g a) / grpStride img g a)

/-- The plan by which one slice accumulates: ranks of the first partial in order, ranks of the second, the rank that finishes,
and whether that one adds its own term before the second partial (R239, R419, R420). -/
structure RingPlan where
  left : List Nat
  right : List Nat
  fin : Nat
  ownFirst : Bool
deriving DecidableEq, Repr

/-- The plan of slice r on axis a for a chunk; `plus` for an even one (R236). -/
def ringPlan (img : List Byte) (g a : Nat) (plus : Bool) (r : Nat) : RingPlan :=
  let m := grpM img g a
  let up := rankUncut img g a
  match ringGap img a with
  | none =>
    let o := ((List.range m).map (fun i => if plus then (r + 1 + i) % m else (r + 2 * m - 1 - i) % m)).filter up
    ⟨o.dropLast, [], o.getLastD 0, false⟩
  | some e =>
    let o := lineOrder img g a e
    let before := (o.takeWhile (fun x => x != r)).filter up
    let after := ((o.dropWhile (fun x => x != r)).drop 1).filter up
    if up r then ⟨before, after.reverse, r, false⟩
    else ⟨before.dropLast, after.reverse, before.getLastD 0, true⟩

/-- Where a result slice goes from rank k on the way down (R236, R419, R420): the next uncut ranks that still lack it, for a slice
that rank `fin` finished. -/
def downNext (img : List Byte) (g a : Nat) (plus : Bool) (fin k : Nat) : List Nat :=
  let m := grpM img g a
  let up := rankUncut img g a
  match ringGap img a with
  | none =>
    let o := ((List.range m).map (fun i => if plus then (fin + i) % m else (fin + 2 * m - i) % m)).filter up
    ((o.dropWhile (fun x => x != k)).drop 1).take 1
  | some e =>
    let o := (lineOrder img g a e).filter up
    let pos (x : Nat) := (o.takeWhile (fun y => y != x)).length
    let nxt := if pos fin ≤ pos k then ((o.dropWhile (fun x => x != k)).drop 1).take 1 else []
    let prv := if pos k ≤ pos fin then ((o.takeWhile (fun x => x != k)).reverse).take 1 else []
    nxt ++ prv

/-! ### Geometry of a collective -/

/-- Elements per chunk, number of elements, number of chunks (R230, R237). -/
def colC (img : List Byte) (d : Nat) : Nat := colChunk img d * 8 / (colFmt img d).bits
def colE (img : List Byte) (d : Nat) : Nat := match colOp img d with | 5 | 6 => 0 | _ => colCount img d
/-- Bytes of the result of an ALLTOALL member (R230, R248). -/
def a2aBytes (img : List Byte) (d : Nat) : Nat :=
  let m := colMembers img d
  m * colCount img d + 256 * ((4 * m + 255) / 256) + 256 * ((m + 2047) / 2048)
/-- Chunks of a collective (R230); COUNT = 0 is taken as one empty chunk (DESIGN CHOICE, log 79). -/
def colChunks (img : List Byte) (d : Nat) : Nat :=
  let b := match colOp img d with
    | 5 => 1
    | 6 => a2aBytes img d
    | _ => (colCount img d * (colFmt img d).bits + 7) / 8
  max 1 ((b + colChunk img d - 1) / colChunk img d)
/-- Elements of chunk j. -/
def colN (img : List Byte) (d j : Nat) : Nat := min (colC img d) (colE img d - j * colC img d)

/-- The unit of the element map in a pass, and the elements of a chunk in it (R237, R242): exponent bytes are one a block. -/
def colU (img : List Byte) (d phase : Nat) : Nat := if phase = 0 ∧ colMode img d ≠ 0 then grpBlk img (colGroup img d) else 1
def colPN (img : List Byte) (d phase j : Nat) : Nat :=
  let b := grpBlk img (colGroup img d)
  if phase = 1 then (colN img d j + b - 1) / b else colN img d j

/-- Axis sizes of the hierarchy, in order. -/
def colMs (img : List Byte) (d : Nat) : List Nat := let g := colGroup img d; (grpAxes img g).map (grpM img g)

/-- First element and count of a path in a chunk (R237). -/
def colPath (img : List Byte) (d phase j : Nat) (path : List Nat) : Nat × Nat :=
  mapPath (colU img d phase) (colMs img d) path 0 (colPN img d phase j)

/-- Whether chunk j uses the + direction (R236). -/
def colPlus (j : Nat) : Bool := j % 2 == 0

/-- The plan of slice r on the axis of level `lv`. -/
def colPlan (img : List Byte) (d j lv r : Nat) : RingPlan :=
  let g := colGroup img d
  ringPlan img g ((grpAxes img g).getD lv 0) (colPlus j) r

/-- This node's rank on the axis of a level, and the size of that axis. -/
def colRank (img : List Byte) (d lv : Nat) : Nat := let g := colGroup img d; grpR img g ((grpAxes img g).getD lv 0)
def colM (img : List Byte) (d lv : Nat) : Nat := (colMs img d).getD lv 1

/-- The paths of chunk j that this node roots (R237, R419), in order of their elements. -/
def finPaths (img : List Byte) (d j : Nat) : List (List Nat) :=
  (List.range (colMs img d).length).foldl (fun ps lv =>
    ps.flatMap (fun p => ((List.range (colM img d lv)).filter (fun r => (colPlan img d j lv r).fin == colRank img d lv)).map
      (fun r => p ++ [r]))) [[]]

/-- Elements of this node's share in chunk j, and in the chunks before it (R237). -/
def shareN (img : List Byte) (d j : Nat) : Nat := ((finPaths img d j).map (fun p => (colPath img d 0 j p).2)).sum
def shareAt (img : List Byte) (d j : Nat) : Nat := ((List.range j).map (shareN img d)).sum
/-- The length of the share. -/
def shareS (img : List Byte) (d : Nat) : Nat := shareAt img d (colChunks img d)

/-- The part of the share of in-node rank r (R238): first element and end. -/
def rsPart (img : List Byte) (d mn r : Nat) : Nat × Nat := mapSlice (colU img d 0) (shareS img d) mn r

/-- ROOT's torus rank on the axis of a level, and its in-node rank. -/
def rootRank (img : List Byte) (d mn lv : Nat) : Nat :=
  let g := colGroup img d
  rankA img g mn (colRoot img d) ((grpAxes img g).getD lv 0)
/-- ROOT is a member of this node. -/
def rootHere (img : List Byte) (d mn : Nat) : Bool :=
  (List.range (colMs img d).length).all (fun lv => rootRank img d mn lv == colRank img d lv)

/-- Whether rank q's term exists at a level (R238): only ROOT contributes to a BROADCAST. -/
def termThere (img : List Byte) (d mn lv q : Nat) : Bool :=
  colOp img d != 3 ||
  (q == rootRank img d mn lv &&
   (List.range (colMs img d).length).all (fun l => decide (l ≤ lv) || rootRank img d mn l == colRank img d l))

end Sys2Proof.Machine
end

