-- ==== Sys2Proof/Machine/Update.lean ====
section
/-! DEFINITION. The arithmetic of the Temper stage (R264 to R271): binary32 rules with rounding to nearest even, stochastic
narrowing, the generator; and the same rules in binary64 for Assay (R274). -/

namespace Sys2Proof.Machine

/-! ### The generator -/

/-- mix of R270. -/
def mix64 (x : BitVec 64) : BitVec 64 :=
  let x := x ^^^ (x >>> 32)
  let x := x * 0xd6e8feb86659fd93
  let x := x ^^^ (x >>> 32)
  let x := x * 0xd6e8feb86659fd93
  x ^^^ (x >>> 32)

/-- gen of R270. -/
def gen64 (seed step tensor index : Nat) : Nat :=
  let x := mix64 (BitVec.ofNat 64 seed ^^^ 0x9e3779b97f4a7c15)
  let x := mix64 (x ^^^ BitVec.ofNat 64 step)
  (mix64 (x ^^^ BitVec.ofNat 64 (tensor * 2 ^ 40 + index))).toNat

/-! ### The operations of a rule -/

/-- The operations that R264 and R265 name, over one kind of value. -/
structure FOps (α : Type) where
  add : α → α → α
  sub : α → α → α
  mul : α → α → α
  div : α → α → α
  sqrt : α → α
  fma : α → α → α → α
  neg : α → α
  scaleb : α → Int → α
  one : α

/-- scaleb in binary32 (R264). -/
def scaleb32 (x : Nat) (n : Int) : Nat :=
  if isNan32 x then x else (ofNum32 .rne ((f32.decode x).scale n)).1

/-- binary32, as strict mode rounds to nearest even (R136). -/
def ops32 : FOps Nat where
  add a b := (add32 .rne a b).1
  sub a b := (sub32 .rne a b).1
  mul a b := (mul32 .rne a b).1
  div a b := (div32 .rne a b).1
  sqrt a := (sqrt32 .rne a).1
  fma a b c := (fma32 .rne a b c).1
  neg a := (a + 2 ^ 31) % 2 ^ 32
  scaleb := scaleb32
  one := 0x3F800000

/-- The binary64 layout. -/
def f64 : FltFmt := ⟨52, 11, 1023, .ieee, 0x7FEFFFFFFFFFFFFF, 0x7FF8000000000000⟩

/-- A value rounded to binary64, to nearest even. -/
def rnd64 (v : Num) : Num :=
  match v with
  | .fin n m e => if m = 0 then v else f64.decode (f64.strictRound .rne n m e).1
  | x => x

/-- Exact sum of two values, then rounded to binary64. -/
def addNum64 (x y : Num) : Num :=
  match x, y with
  | .nan _, _ | _, .nan _ => .nan false
  | .inf a, .inf b => if a = b then .inf a else .nan false
  | .inf a, _ | _, .inf a => .inf a
  | .fin n m e, .fin n' m' e' =>
    let sg (n : Bool) (m : Nat) : Int := if n then -(m : Int) else m
    rnd64 (Dy.add ⟨sg n m, e⟩ ⟨sg n' m', e'⟩).num

/-- Product of two values, unrounded. -/
def mulNum (x y : Num) : Num :=
  match x, y with
  | .nan _, _ | _, .nan _ => .nan false
  | a, b => (exactMul a b).getD (.nan false)

/-- Quotient rounded to binary64. -/
def divNum64 (x y : Num) : Num :=
  match x, y with
  | .nan _, _ | _, .nan _ => .nan false
  | .inf _, .inf _ => .nan false
  | .inf a, .fin n _ _ => .inf (a != n)
  | .fin n _ _, .inf b => .fin (n != b) 0 0
  | .fin n m e, .fin n' m' e' =>
    if m' = 0 then (if m = 0 then .nan false else .inf (n != n'))
    else if m = 0 then .fin (n != n') 0 0
    else
      let k := Nat.log2 m' + 70
      let q := m * 2 ^ k
      rnd64 (.fin (n != n') (2 * (q / m') + (if q % m' = 0 then 0 else 1)) (e - e' - k - 1))

/-- Square root rounded to binary64. -/
def sqrtNum64 (x : Num) : Num :=
  match x with
  | .fin n m e =>
    if m = 0 then x else if n then .nan false
    else
      let (m, e) := if e % 2 = 0 then (m, e) else (2 * m, e - 1)
      let v := m * 2 ^ 120
      let r := isqrtBits 120 v 0
      rnd64 (.fin false (2 * r + (if r * r = v then 0 else 1)) ((e - 120) / 2 - 1))
  | .inf false => .inf false
  | _ => .nan false

/-- binary64, each operation rounded to nearest even (R274). -/
def ops64 : FOps Num where
  add := addNum64
  sub a b := addNum64 a b.neg
  mul a b := rnd64 (mulNum a b)
  div := divNum64
  sqrt := sqrtNum64
  fma a b c := addNum64 (mulNum a b) c
  neg := Num.neg
  scaleb x n := rnd64 (x.scale n)
  one := .fin false 1 0

/-! ### Layer constants and rules -/

/-- pow32 over the bits of t, most significant first (R264); `n` is the number of bits left. -/
def powBits {α : Type} (o : FOps α) (b : α) (t : Nat) : Nat → α → α
  | 0, r => r
  | n + 1, r =>
    let r := o.mul r r
    powBits o b t n (if t / 2 ^ n % 2 = 1 then o.mul r b else r)

/-- pow32(b, t) of R264. -/
def powN {α : Type} (o : FOps α) (b : α) (t : Nat) : α := powBits o b t (Nat.log2 t + 1) o.one

/-- The per-layer constants of R264. -/
structure Consts (α : Type) where
  lr : α
  wd : α
  b1 : α
  b2 : α
  eps : α
  k : Int
  lrs : α
  c1 : α
  c2 : α
  d1 : α
  d2 : α

def mkConsts {α : Type} (o : FOps α) (lr wd b1 b2 eps : α) (k : Int) (t : Nat) : Consts α :=
  let bc1 := o.sub o.one (powN o b1 t)
  let bc2 := o.sub o.one (powN o b2 t)
  { lr := lr, wd := wd, b1 := b1, b2 := b2, eps := eps, k := k
    lrs := o.scaleb lr (-k)
    c1 := o.scaleb (o.sub o.one b1) k
    c2 := o.scaleb (o.sub o.one b2) (2 * k)
    d1 := o.scaleb (o.div o.one bc1) (-k)
    d2 := o.scaleb (o.div o.one bc2) (-2 * k) }

/-- The rule sgdm (R265): w, m. -/
def ruleSgdm {α : Type} (o : FOps α) (c : Consts α) (g w m : α) : α × α :=
  let g := o.fma c.wd w g
  let m := o.fma c.b1 m (o.scaleb g c.k)
  (o.fma (o.neg c.lrs) m w, m)

/-- The moments and the update u of adamw (R265): u, m, v. -/
def adamU {α : Type} (o : FOps α) (c : Consts α) (g w m v : α) : α × α × α :=
  let m := o.fma c.b1 m (o.mul c.c1 g)
  let v := o.fma c.b2 v (o.mul c.c2 (o.mul g g))
  let u := o.mul (o.div m (o.add (o.sqrt (o.mul v c.d2)) c.eps)) c.d1
  (o.fma c.wd w u, m, v)

/-- The rule adamw with the ratio r_t (R265, R266): w, m, v. -/
def ruleAdam {α : Type} (o : FOps α) (c : Consts α) (r g w m v : α) : α × α × α :=
  let (u, m, v) := adamU o c g w m v
  (o.fma (o.mul (o.neg c.lr) r) u w, m, v)

/-- An element of a stored format as binary32, exactly. -/
def to32 (f : Fmt) (c : Nat) : Nat :=
  if f = .fp32 then c % 2 ^ 32
  else match f.decode c with
    | .nan _ => 0x7FC00000
    | v => (ofNum32 .rne v).1

/-! ### Narrowing -/

/-- sr32 of R271: stochastic narrowing with 24 random bits. -/
def sr32 (f : Fmt) (pol : NumPolicy) (rnd x : Nat) : Nat × Flags :=
  if f = .fp32 then (x, 0)
  else match f.flt with
    | none => (0, 0)
    | some p =>
      match f32.decode x with
      | .nan _ => (p.nanCode, tInvalid)
      | .inf n => p.tensorOverflow pol n
      | .fin n m e =>
        if m = 0 then (0, 0)
        else
          let overT := match p.decode p.maxCode with | .fin _ mm me => !magLe m e mm me | _ => false
          if overT then p.tensorOverflow pol n
          else
            let lo := (p.round .rtz false m e).code
            let val (c : Nat) : Dy := match p.decode c with | .fin _ a b => ⟨a, b⟩ | _ => ⟨0, 0⟩
            let x := Dy.add ⟨m, e⟩ ⟨-(val lo).m, (val lo).e⟩
            let gap := Dy.add (val (lo + 1)) ⟨-(val lo).m, (val lo).e⟩
            let c :=
              if x.m = 0 then lo
              else
                let q := min x.e gap.e
                let f24 := x.m * 2 ^ (x.e - q).toNat * 2 ^ 24 / (gap.m * 2 ^ (gap.e - q).toNat)
                if (rnd : Int) < f24 then lo + 1 else lo
            if c = 0 then (0, 0)
            else if pol.subn && c < 2 ^ p.frac then (0, tFlush)
            else (p.signed n c, 0)

/-- The 24 bits of a draw (R271). -/
def draw24 (seed t tensor buf e : Nat) : Nat := gen64 seed t (4 * tensor + buf) e / 2 ^ 40

/-! ### Layer entries -/

/-- Field of layer entry l of a TEMPER part (R255, R257). -/
def layerF (nump : List Byte) (l o n : Nat) : Nat := leAt nump (64 + 64 + 64 * leAt nump 72 2 + 64 * l + o) n

/-- The constants of a layer in binary32 (R264). -/
def layerConsts (nump : List Byte) (l lr wd : Nat) (k : Int) (t : Nat) : Consts Nat :=
  mkConsts ops32 lr wd (layerF nump l 24 4) (layerF nump l 28 4) (layerF nump l 32 4) k t

/-- The layer constants that R265 takes, as binary64 values (R274): those the step computed (R264), exactly. -/
def Consts.wide (c : Consts Nat) : Consts Num :=
  let f := f32.decode
  { lr := f c.lr, wd := f c.wd, b1 := f c.b1, b2 := f c.b2, eps := f c.eps, k := c.k, lrs := f c.lrs, c1 := f c.c1, c2 := f c.c2
    d1 := f c.d1, d2 := f c.d2 }

/-- What one element's update gives: the stored codes of w, m and v, the binary32 values before narrowing, flags, whether the
gradient was not finite, and whether an update was rounded to zero (R265, R267, R277). -/
structure Updated where
  w : Nat
  m : Nat
  v : Nat
  w32 : Nat
  m32 : Nat
  v32 : Nat
  flags : Flags
  nonfin : Bool
  zero : Bool

/-- One element (R265, R267, R269, R271, R277): `rule` 0 SGDM, else ADAMW with its ratio; k is the latched scale, kst the one that
the copy was written with; g is the gradient in binary32, w, m and v the stored codes. -/
def updateElem (rule : Nat) (c : Consts Nat) (k kst : Int) (ratio : Nat) (wf sf : Fmt) (pol : NumPolicy)
    (seed t tensor e : Nat) (g w m v : Nat) : Updated :=
  if isNan32 g ∨ g % 2 ^ 31 = 0x7F800000 then ⟨w, m, v, w, m, v, tInvalid, true, false⟩
  else
    let d := k - kst
    let m0 := if d = 0 then to32 sf m else scaleb32 (to32 sf m) d
    let v0 := if d = 0 then to32 sf v else scaleb32 (to32 sf v) (2 * d)
    let w0 := to32 wf w
    let (w1, m1, v1) := if rule = 0 then
        let x := ruleSgdm ops32 c g w0 m0
        (x.1, x.2, v0)
      else ruleAdam ops32 c ratio g w0 m0 v0
    let (wc, f0) := sr32 wf pol (draw24 seed t tensor 0 e) w1
    let (mc, f1) := sr32 sf pol (draw24 seed t tensor 1 e) m1
    let (vc, f2) := if rule = 0 then (v, 0) else sr32 sf pol (draw24 seed t tensor 2 e) v1
    ⟨wc, mc, vc, w1, m1, v1, f0 ||| f1 ||| f2, false, w1 != w0 && wc == w⟩

end Sys2Proof.Machine
end

