-- ==== Sys2Proof/Machine/Assay.lean ====
section
/-! DEFINITION. Assay: which results are sampled (R272), the wide path of a MAC tile (R273), and the end of a comparison (R275). -/

namespace Sys2Proof.Machine

/-- Whether a draw samples its item, and the Anvil or lane element group it names (R272, R280). -/
def State.drawn (s : State) (step tensor index : Nat) : Option Nat :=
  let r := s.rd NUM_ASSAY_RATE
  if r = 31 then none
  else
    let n := min r 16
    let x := gen64 (s.rd64 NUM_TSEED_LO) step tensor index
    if x % 2 ^ n = 0 then some (x / 2 ^ 58) else none

/-- A comparison begins. -/
def State.addSample (s : State) (x : Sample) : State :=
  { s with temper := { s.temper with samples := s.temper.samples ++ [x] } }

/-- The exact sum of the slice products of a group, and of their magnitudes (R273). -/
def GroupIn.exact (kind : PairKind) (fast : Bool) (g : GroupIn) : Dy × Dy :=
  g.pairs.foldl (fun a p =>
    (kind.passes fast).foldl (fun a ij =>
      let x := kind.sliceOf p.2.1.1 p.2.1.2 ij.1
      let y := kind.sliceOf p.2.2.1 p.2.2.2 ij.2
      let m : Int := ((x.1 * y.1 : Nat) : Int)
      (Dy.add a.1 ⟨if p.1 then -m else m, x.2 + y.2⟩, Dy.add a.2 ⟨m, x.2 + y.2⟩)) a) (⟨0, 0⟩, ⟨0, 0⟩)

/-- Whether the difference of two finite values is at most `n` times 2^q. -/
def within (x y : Dy) (n : Nat) (q : Int) : Bool :=
  let d := Dy.add x ⟨-y.m, y.e⟩
  magLe d.m.natAbs d.e n q

/-- The test of R273 for an FP32 accumulator; `g1` is G + 1, `r` the sum of magnitudes. -/
def passFp32 (tol g1 : Nat) (narrow wide : Num) (r : Dy) : Bool :=
  match narrow, wide with
  | .nan _, .nan _ => true
  | .inf a, .inf b => a == b
  | .fin n m e, .fin n' m' e' =>
    let sg (n : Bool) (m : Nat) : Int := if n then -(m : Int) else m
    if r.m = 0 then !n && m == 0
    else within ⟨sg n m, e⟩ ⟨sg n' m', e'⟩ (tol * g1) (leadExp r.m.natAbs r.e - 23)
  | _, _ => false

/-- The test of R274 for a binary32 value against its binary64 value, in ulps of binary32 at the latter. -/
def passUlps (ttol : Nat) (narrow : Nat) (wide : Num) : Bool :=
  match f32.decode narrow, wide with
  | .nan _, .nan _ => true
  | .inf a, .inf b => a == b
  | .fin n m e, .fin n' m' e' =>
    let sg (n : Bool) (m : Nat) : Int := if n then -(m : Int) else m
    let q : Int := if m' = 0 then -149 else max (leadExp m' e') (-126) - 23
    within ⟨sg n m, e⟩ ⟨sg n' m', e'⟩ ttol q
  | _, _ => false

/-- The values of one updated element beside their binary64 values (R274): nothing for a gradient that is not finite. -/
def wideElem (rule : Nat) (r : Updated) (c : Consts Num) (ratio g w m v : Nat) : List (Nat × Num) :=
  let dn := f32.decode
  if r.nonfin then []
  else if rule = 0 then
    let o := ruleSgdm ops64 c (dn g) (dn w) (dn m)
    [(r.w32, o.1), (r.m32, o.2)]
  else
    let o := ruleAdam ops64 c (dn ratio) (dn g) (dn w) (dn m) (dn v)
    [(r.w32, o.1), (r.m32, o.2.1), (r.v32, o.2.2)]

/-- A sampled round of updates (R272, R274): the first value that fails, or else the first. -/
def State.sampleElems (s : State) (l unit step : Nat) (checks : List (Nat × Num)) : State :=
  let bad := checks.find? (fun k => !passUlps (s.rd NUM_ASSAY_TTOL) k.1 k.2)
  let k := bad.getD (checks.headD (0, .fin false 0 0))
  s.addSample ⟨l, unit, 1, step, bad.isSome, k.1, (ofNum32 .rne k.2).1⟩

/-- ASSAY_COMPARE of logical Bench l: its oldest comparison ends (R275); an injection inverts bit 0 of the wide value (R528). -/
def State.assayCompare (s : State) (l : Nat) : State :=
  match s.temper.samples.find? (fun x => x.bench == l) with
  | none => s
  | some x =>
    let s := { s with temper := { s.temper with samples := s.temper.samples.erase x } }
    let s := s.add64 NUM_ASSAY_N_LO 1
    let (hit, s) := s.takeInj 9 l
    let wide := if hit then (if x.wide % 2 = 1 then x.wide - 1 else x.wide + 1) else x.wide
    if x.fail || hit then
      let s := s.inc NUM_ASSAY_FAIL
      let s := if s.bit NUM_ASSAY_CAP_VALID then s
        else
          let s := ((s.wr NUM_ASSAY_CAP_INDEX l).wr NUM_ASSAY_CAP_UNIT x.unit).wr NUM_ASSAY_CAP_KIND x.kind
          ((s.wrBit NUM_ASSAY_CAP_VALID true).wr NUM_ASSAY_NARROW x.narrow).wr NUM_ASSAY_WIDE wide
      let s := s.flag { cls := .num, level := if s.bit NUM_ASSAY_ACTION then 2 else 1, code := 0, master := mBench l, acc := 6
                        addr := 0, tick := s.now, inj := hit, conseq := false }
      s.hall 0x11 (leBytes 2 l ++ [BitVec.ofNat 8 x.unit, BitVec.ofNat 8 x.kind] ++ leBytes 4 x.narrow ++ leBytes 4 wide ++
        leBytes 8 x.step)
    else s

/-- ASSAY_COMPARE (R275). -/
def execAssayCompare (t l : Nat) (s : State) : Host.Outcome State Fault Refusal := .next ((s.at t).assayCompare l)

end Sys2Proof.Machine
end

