-- ==== Sys2Proof/Machine/Mill.lean ====
section
/-! DEFINITION. What the stream commands share: the Bench as stored, its kernel image and descriptors, slot fields, the
footprints and waits of R181 and R182, mover cells (R362), stream errors (R214), flags (R142), fold switches (R158). -/

namespace Sys2Proof.Machine

/-- Logical Bench `l`. -/
def State.bench (s : State) (l : Nat) : Bench := Sparse.get (fun _ => Bench.init) s.benches l

/-- Store logical Bench `l`. -/
def State.setBench (s : State) (l : Nat) (b : Bench) : State :=
  { s with benches := Sparse.set (fun _ => Bench.init) s.benches l b }

/-- The number of logical Benches of the Casting in force (R157). -/
def State.benchN (s : State) : Nat := kernN s.cst.img

/-- The KERN section in force. -/
def State.kern (s : State) : List Byte := sect s.cst.img tyKERN

/-- The image of the Bench's active bank (R206). -/
def State.kimg (s : State) (b : Bench) : List Byte :=
  let k := if b.active then b.k1 else b.k0
  if k.valid then kernImage s.kern k.img else []

/-- Bits `lo` to `lo + n - 1` of a slot word or operand register. -/
def bitsOf (w : BitVec 64) (lo n : Nat) : Nat := w.toNat / 2 ^ lo % 2 ^ n

/-- The value of a 4-bit index source (R177); none for the reserved 12 to 14. -/
def BRegs.src (r : BRegs) (i : Nat) : Option Word :=
  if i < 8 then some (r.ix.getD i 0)
  else if i < 12 then some (BitVec.ofNat 32 (r.li.getD (i - 8) 0))
  else if i = 15 then some 0
  else none

/-- Number of code words of the kernel image: ENTRY, code start and code end as word indexes (R173). -/
def kEntry (k : List Byte) : Nat := leAt k 16 4 / 8
def kCodeStart (k : List Byte) : Nat := leAt k 8 4 / 8
def kCodeEnd (k : List Byte) : Nat := (leAt k 8 4 + leAt k 12 4) / 8
def kDescs (k : List Byte) : Nat := leAt k 6 2
/-- The 64-bit word at a word index of a bank. -/
def kWord (k : List Byte) (i : Nat) : BitVec 64 := BitVec.ofNat 64 (leAt k (8 * i) 8)

/-- A tile descriptor (R184). -/
structure Desc where
  base : Nat
  sbase : Nat
  rows : Nat
  cols : Nat
  stride : Nat
  step : Nat
  fmt : Nat
  sdesc : Nat
deriving DecidableEq, Repr

/-- Descriptor `i` of a kernel image (R173, R184). -/
def kDesc (k : List Byte) (i : Nat) : Desc :=
  let o := 64 + 32 * i
  ⟨leAt k o 5, leAt k (o + 8) 5, leAt k (o + 16) 2, leAt k (o + 18) 2, leAt k (o + 20) 4, leAt k (o + 24) 4,
   leAt k (o + 28) 1 % 16, leAt k (o + 29) 1⟩

/-- Element bits of a format code; 0 for a reserved one (R112). -/
def fmtBits (c : Nat) : Nat := match Fmt.ofCode c with | some f => f.bits | none => 0

/-- DIR and block size of a scale descriptor (R118). -/
def sdDir (sd : Nat) : Nat := sd / 4 % 4
def sdSize (sd : Nat) : Nat := 8 * 2 ^ (sd % 4)

/-- The number of scale blocks over `rows × cols` elements as stored (R118, R119). -/
def scaleBlocks (sd rows cols : Nat) : Nat :=
  match sdDir sd with
  | 0 => 0
  | 1 => rows * (cols / sdSize sd)
  | 2 => rows / sdSize sd * cols
  | _ => 1

/-- The scale block of element (r, c): its place in the scale array (R117, R119). -/
def scaleIndex (sd cols r c : Nat) : Nat :=
  match sdDir sd with
  | 1 => r * (cols / sdSize sd) + c / sdSize sd
  | 2 => r / sdSize sd * cols + c
  | _ => 0

/-- Whether the stored extents are whole multiples of SIZE, and whether the format may carry a scale at all (R119). -/
def sdescOk (sd rows cols : Nat) (f : Fmt) : Bool :=
  decide (sd < 16) &&
  match sdDir sd with
  | 0 => true
  | d =>
    (f == .int4 || f == .int8 || f == .e2m1 || f == .e4m3 || f == .e5m2 || f == .bf16) &&
    (match d with | 1 => cols % sdSize sd == 0 | 2 => rows % sdSize sd == 0 | _ => true)

/-- Row length in bytes (R185). -/
def Desc.rb (d : Desc) : Nat := d.cols * fmtBits d.fmt / 8
/-- Cells of the dense tile in the bench store (R185). -/
def Desc.tileCells (d : Desc) : Nat := (d.rows * d.rb + 255) / 256
/-- Cells of the scale array (R185). -/
def Desc.scaleCells (d : Desc) : Nat := (scaleBlocks d.sdesc d.rows d.cols + 255) / 256

/-- The data spans of a tile at an index-source value (R185): address and bytes. -/
def Desc.dataSpans (d : Desc) (ix : Nat) : List (Nat × Nat) :=
  let b := d.base + ix * d.step
  if d.stride = d.rb then [(b, d.rows * d.rb)] else (List.range d.rows).map (fun i => (b + i * d.stride, d.rb))

/-- The scale span of a tile (R185). -/
def Desc.scaleSpans (d : Desc) (ix : Nat) : List (Nat × Nat) :=
  if sdDir d.sdesc = 0 then [] else [(d.sbase + ix * d.step, 256 * d.scaleCells)]

/-- All spans of a tile. -/
def Desc.spans (d : Desc) (ix : Nat) : List (Nat × Nat) := d.dataSpans ix ++ d.scaleSpans ix

/-- Whether every span starts on a cell, is whole cells long and ends below 2^40 (R185, R189). -/
def spansOk (l : List (Nat × Nat)) : Bool :=
  l.all (fun x => x.1 % 256 == 0 && x.2 % 256 == 0 && decide (0 < x.2) && decide (x.1 + x.2 ≤ 2 ^ 40))

/-! ### The bench store -/

/-- The default byte of a bench store (R590). -/
def benchFill (f : Option Nat) (a : Nat) : Byte := match f with | none => 0 | some c => Config.stageCell a c

/-- One byte of the bench store. An operand register may name bytes past its 256 KiB, which only a MAC can read: the spec
gives them no value (log 3). -/
def Bench.byte (b : Bench) (a : Nat) : Byte :=
  if a < 2 ^ 18 then Sparse.get (benchFill b.fill) b.store a else Config.pastStore a

/-- `n` bytes of the bench store from byte `a`. -/
def Bench.bytes (b : Bench) (a : Nat) : Nat → List Byte
  | 0 => []
  | n + 1 => b.byte a :: Bench.bytes b (a + 1) n

/-- Whether a range of the bench store holds a word with more than two bad symbols (R148). -/
def Bench.bad (b : Bench) (a n : Nat) : Bool :=
  b.damage.any (fun e => decide (2 < e.2.length) && decide (e.1 < a + n ∧ a < e.1 + 32))

/-- Write bytes of the bench store: the words written are valid codewords again. -/
def Bench.write (b : Bench) (a : Nat) (bs : List Byte) : Bench :=
  { b with
    store := Sparse.setList (benchFill b.fill) b.store a bs
    damage := b.damage.filter (fun e => !(decide (e.1 < a + bs.length ∧ a < e.1 + 32))) }

/-- The words of the bench store that a write meets under an armed injection of kind 2 (R528). -/
def State.injectBench (s : State) (l : Nat) (a n : Nat) : State :=
  if s.bit FLT_INJ_LEFT_ARMED && s.rd FLT_INJ_KIND == 2 && s.rd FLT_INJ_INDEX == l then
    let ws := (List.range ((a + n + 31) / 32 - a / 32)).map (fun i => (a / 32 + i) * 32)
    let hit := ws.take (s.rd FLT_INJ_LEFT_LEFT)
    let syms := match s.rd FLT_INJ_SYM with | 0 => [32] | 1 => [32, 33] | _ => [32, 33, 34, 35]
    let b := s.bench l
    let left := s.rd FLT_INJ_LEFT_LEFT - hit.length
    let s := s.setBench l { b with damage := hit.foldl (fun d w => Sparse.put d w syms) b.damage }
    let s := s.wr FLT_INJ_LEFT_LEFT left
    if left = 0 then s.wrBit FLT_INJ_LEFT_ARMED false else s
  else s

/-- Write the bench store of logical Bench `l`. -/
def State.benchWrite (s : State) (l a : Nat) (bs : List Byte) : State :=
  (s.setBench l ((s.bench l).write a bs)).injectBench l a bs.length

/-! ### Flags -/

/-- Set flags of a physical Bench; the first invalid operation of the unit since the apply is a NUM note (R142, R143). -/
def State.benchFlags (s : State) (l : Nat) (f : Flags) : State :=
  if f = 0 then s
  else
    let p := s.physOf l
    let a := (NUM_BFLAGS_T_INVALID p).addr
    let s := s.raiseBits a (f.setWidth 32)
    if f &&& (tInvalid ||| sInvalid) ≠ 0 ∧ p ∉ s.mill.noted then
      let s := { s with mill := { s.mill with noted := p :: s.mill.noted } }
      s.fault .num 0 0 (mBench l) 6
    else s

/-- A Bench met an exponent byte 0xFF (R135). AI_NAN reads 0 in NUM_BFLAGS (R142), so no flag shows it; the unit's first since the apply is
a NUM alert (R143; that the Bench of the round is the unit is the model's, log 85). -/
def State.benchAiNan (s : State) (l : Nat) : State :=
  let p := 8192 + s.physOf l
  if p ∈ s.mill.noted then s
  else ({ s with mill := { s.mill with noted := p :: s.mill.noted } }).fault .num 1 0 (mBench l) 6

/-! ### Mover cells -/

/-- The switch die over which memory at an address is reached (R161). -/
def reachDie (a : Nat) : Nat := if a < hbmEnd then a / stackSize / 4 else (a - ingotBase) / 2 ^ 28

/-- The dies that spans are reached over. -/
def spanReach (l : List (Nat × Nat)) : List Nat := (List.range 2).filter (fun d => l.any (fun x => reachDie x.1 == d || reachDie (x.1 + x.2 - 1) == d))

/-- A mover of Bench `l` takes the cell of each die that its transfer passes through, held until the slot completes (R362; one cell a die
is the model's, log 78); where a die has none, it takes nothing and tries again (R364). -/
def State.moverTake (s : State) (l id pos : Nat) (spans : List (Nat × Nat)) : Bool × State :=
  let ds := spanReach spans
  match ds.find? (fun d => (s.grant1 d .milm 0 0).isNone) with
  | some d => (false, s.poolFail d)
  | none => (true, ds.foldl (fun s d =>
      match (s.grant1 d .milm 0 0).bind (fun sh => s.allocCell d (reqOther d (s.physOf l / 256)) [(.mover l, .milm, sh)] false) with
      | some (c, s) => { s with mill := { s.mill with transit := s.mill.transit ++ [(l, id, pos, c)] } }
      | none => s) s)

/-- The mover cells of Bench `l`'s slots that `p` names, by bundle and place, are released. -/
def State.moverFree (s : State) (l : Nat) (p : Nat → Nat → Bool) : State :=
  let out := s.mill.transit.filter (fun e => e.1 == l && p e.2.1 e.2.2.1)
  let s := { s with mill := { s.mill with transit := s.mill.transit.filter (fun e => !(e.1 == l && p e.2.1 e.2.2.1)) } }
  out.foldl (fun s e => s.releaseCell e.2.2.2 (.mover l)) s

/-! ### Stream errors -/

/-- Class of a stream error code (R214). -/
def streamClass (code : Nat) : FClass := match code with | 9 => .sec | 10 => .mem | _ => .sw

/-- A stream error (R214): the Bench stops at bundle `id`, later issued bundles are discarded, and the fault of the code
is raised. `slot` 8 is the header. An earlier bundle of a Bench in state error may still fault: MIL_BPC and MIL_BERR then name it, and its
fault is raised too (DESIGN CHOICE, log 78), but the Bench counts once (R217). -/
def State.streamError (s : State) (l id pc slot code : Nat) (acc : Nat := 6) (addr : Nat := 0) : State :=
  let s := s.moverFree l (fun i _ => decide (id ≤ i))
  let b := s.bench l
  let s := s.setBench l { b with st := .error, flight := b.flight.filter (fun x => decide (x.id < id)), pc := pc, waitc := none }
  let s := s.wr (MIL_BERR_CODE l) code
  let s := s.wr (MIL_BERR_SLOT l) slot
  let s := if b.st = .error then s else s.inc MIL_ERR_COUNT
  let s := if s.bit MIL_ERR_FIRST_VALID then s else (s.wr MIL_ERR_FIRST_LBENCH l).wrBit MIL_ERR_FIRST_VALID true
  s.fault (streamClass code) 2 code (mBench l) acc addr

/-! ### Slots -/

/-- What a slot reads and writes: cells as (first, count), flags, and its accumulator set (R181). -/
structure Foot where
  rd : List (Nat × Nat)
  wr : List (Nat × Nat)
  fr : List Nat
  fw : List Nat
  set : Option Nat
deriving DecidableEq, Repr

/-- No footprint. -/
def Foot.none : Foot := ⟨[], [], [], [], Option.none⟩

/-- The cells that `n` bytes from byte `a` touch. -/
def cellsOf (a n : Nat) : List (Nat × Nat) := if n = 0 then [] else [(a / 256, (a + n + 255) / 256 - a / 256)]

/-- The fields of an operand register (R178). -/
def orCell (o : BitVec 64) : Nat := bitsOf o 0 10
def orExt (o : BitVec 64) : Nat := bitsOf o 10 16
def orLines (o : BitVec 64) : Nat := bitsOf o 26 7
def orFmt (o : BitVec 64) : Nat := bitsOf o 33 4
def orSdesc (o : BitVec 64) : Nat := bitsOf o 37 8
def orSoff (o : BitVec 64) : Nat := bitsOf o 45 13

/-- The byte of the scale array of an operand. -/
def orScaleAt (o : BitVec 64) : Nat := 256 * orCell o + 32 * orSoff o

/-- Cells of an operand with its scales. -/
def orCells (o : BitVec 64) : List (Nat × Nat) :=
  cellsOf (256 * orCell o) ((orLines o * orExt o * fmtBits (orFmt o) + 7) / 8) ++
  cellsOf (orScaleAt o) (scaleBlocks (orSdesc o) (orLines o) (orExt o))

/-- Bytes per element that a drain writes, times 8 (R192). -/
def drainBits (raw : Bool) (ty : AccType) (ofmt : Nat) : Nat :=
  if raw then (match ty with | .int64 => 64 | _ => 32) else fmtBits ofmt

/-- Whether an ACC slot moves raw accumulators: RAW, or a MERGE (R192, R193). -/
def accRaw (w : BitVec 64) : Bool := bitsOf w 47 1 == 1 || bitsOf w 0 4 == 3

/-- Bytes of a drain's data, and of its scales (R192). -/
def drainBytes (w : BitVec 64) (ty : AccType) : Nat × Nat :=
  let n := bitsOf w 33 7 * bitsOf w 40 7
  let raw := accRaw w
  ((n * drainBits raw ty (bitsOf w 15 4) + 7) / 8,
   if raw then 0 else scaleBlocks (bitsOf w 19 8) (bitsOf w 33 7) (bitsOf w 40 7))

/-- Cells of a drain, padding included (R189, R192). -/
def drainCells (w : BitVec 64) (ty : AccType) : Nat :=
  let (n, sc) := drainBytes w ty
  (n + 255) / 256 + (sc + 255) / 256

/-- The set a MAC or ACC slot names. -/
def Bench.set (b : Bench) (y : Nat) : AccSet := if y = 1 then b.setY else b.setX

/-- Bytes of the elements of a VEC operand (R194). -/
def vecBytes (vl bits : Nat) : Nat := (vl * bits + 7) / 8

/-- The footprint of a slot under its snapshot (R181). -/
def slotFoot (k : List Byte) (r : BRegs) (pos : Nat) (w : BitVec 64) : Foot :=
  let op := bitsOf w 0 4
  match pos with
  | 0 => if op < 2 then
      let d := kDesc k (bitsOf w 4 8)
      { Foot.none with wr := [(bitsOf w 16 10, d.tileCells + d.scaleCells)] } else Foot.none
  | 1 =>
      let d := kDesc k (bitsOf w 4 8)
      { Foot.none with rd := [(bitsOf w 16 10, d.tileCells + d.scaleCells)] }
  | 2 => { Foot.none with
      rd := orCells (r.or.getD (bitsOf w 4 4) 0) ++ orCells (r.or.getD (bitsOf w 8 4) 0)
      set := some (bitsOf w 12 1) }
  | 3 =>
      let y := bitsOf w 4 1
      -- raw accumulators are taken at their widest: an earlier MACZ may still change the set's type
      let c := [(bitsOf w 5 10, drainCells w .int64)]
      match op with
      | 1 => { Foot.none with set := some y }
      | 3 => { Foot.none with rd := c, set := some y }
      | _ => { Foot.none with wr := c, set := some y }
  | 4 =>
      let vop := bitsOf w 0 6
      let at' (lo bits : Nat) := cellsOf (32 * bitsOf w lo 13) (vecBytes r.vl bits)
      let fb := fmtBits (bitsOf w 59 4)
      if vop = 0xB then { Foot.none with rd := at' 20 32, fw := [bitsOf w 46 4] }
      else if vop = 0xC then { Foot.none with rd := at' 20 32, wr := at' 7 fb }
      else if vop = 0xD then { Foot.none with rd := at' 20 fb, wr := at' 7 32 }
      else if vop = 7 then { Foot.none with rd := at' 20 32, wr := at' 7 32 }
      else if vop = 3 then { Foot.none with rd := at' 20 32 ++ at' 33 32 ++ at' 46 32, wr := at' 7 32 }
      else { Foot.none with rd := at' 20 32 ++ at' 33 32, wr := at' 7 32 }
  | 5 => match op with
      | 3 | 5 => { Foot.none with fw := [bitsOf w 4 4] }
      | 4 => { Foot.none with fr := [bitsOf w 8 4, bitsOf w 12 4], fw := [bitsOf w 4 4] }
      | _ => Foot.none
  | 6 => if op = 3 then { Foot.none with fw := [bitsOf w 16 4] } else Foot.none
  | _ => Foot.none

/-- Whether two cell lists meet. -/
def cellsMeet (x y : List (Nat × Nat)) : Bool :=
  x.any (fun p => y.any (fun q => decide (p.1 < q.1 + q.2 ∧ q.1 < p.1 + p.2)))

/-- Whether a slot must wait for an earlier one that has not completed (R181). -/
def Foot.waitsFor (f e : Foot) : Bool :=
  cellsMeet e.wr (f.rd ++ f.wr) || cellsMeet e.rd f.wr ||
  e.fw.any (fun x => x ∈ f.fr ++ f.fw) ||
  (e.set.isSome && e.set == f.set)

/-- The memory spans of a LOAD or STORE slot (R182). -/
def slotSpans (k : List Byte) (r : BRegs) (pos : Nat) (w : BitVec 64) : List (Nat × Nat) :=
  if pos = 1 ∨ (pos = 0 ∧ bitsOf w 0 4 < 2) then
    (kDesc k (bitsOf w 4 8)).spans ((r.src (bitsOf w 12 4)).getD 0).toNat
  else []

/-- Whether a LOAD must wait for an earlier STORE whose spans overlap its own (R182). -/
def spansMeet (x y : List (Nat × Nat)) : Bool :=
  x.any (fun p => y.any (fun q => decide (p.1 < q.1 + q.2 ∧ q.1 < p.1 + p.2)))

/-- Every slot in flight, in program order: by bundle, and within one by place (DEDUCED, log 4). -/
def Bench.slots (b : Bench) : List (Bundle × Slot) := b.flight.flatMap (fun u => u.slots.map (fun x => (u, x)))

/-- Whether a slot, which reads registers `r`, waits for an earlier one in flight (R181, R182). -/
def slotBehind (k : List Byte) (r : BRegs) (x : Slot) (e : Bundle × Slot) : Bool :=
  e.2.phase != .complete &&
  ((slotFoot k r x.pos x.word).waitsFor (slotFoot k e.1.regs e.2.pos e.2.word) ||
   (x.pos == 0 && e.2.pos == 1 && spansMeet (slotSpans k r 0 x.word) (slotSpans k e.1.regs 1 e.2.word)))

/-- Whether a slot in flight waits for none before it (R181, R182). -/
def State.slotClear (s : State) (b : Bench) (u : Bundle) (x : Slot) : Bool :=
  let k := s.kimg b
  b.slots.all (fun e =>
    !(decide (e.1.id < u.id) || (e.1.id == u.id && decide (e.2.pos < x.pos))) || !slotBehind k u.regs x e)

/-- The operation code of a slot word: six bits in VEC, four elsewhere. -/
def slotOp (pos : Nat) (w : BitVec 64) : Nat := if pos = 4 then bitsOf w 0 6 else bitsOf w 0 4

/-- Whether a slot writes registers or flags after its bundle (R180). -/
def slotWrites (pos : Nat) (w : BitVec 64) : Bool :=
  match pos with
  | 0 => decide (bitsOf w 0 4 < 2) && bitsOf w 30 1 == 1
  | 4 => bitsOf w 0 6 == 0xB
  | 5 => true
  | 6 => bitsOf w 0 4 == 3
  | _ => false

/-- The slots that one mover takes in order (R150): LD and LDB, which write the bench store. -/
def sameMover (pos op op' : Nat) : Bool := op == op' || (pos == 0 && decide (op < 2) && decide (op' < 2))

/-- The oldest slot of a place and operation that has not started and may start now: its waits are over, no earlier one waits for its
mover, and lower slots of its bundle that write registers have written (R150, R180, R181). -/
def State.nextSlot (s : State) (b : Bench) (pos op : Nat) : Option (Bundle × Slot) :=
  match b.slots.find? (fun e => e.2.pos == pos && sameMover pos op (slotOp pos e.2.word) && e.2.phase == .waiting) with
  | none => none
  | some (u, x) =>
    if slotOp pos x.word == op && s.slotClear b u x &&
      (!slotWrites pos x.word || u.slots.all (fun y => !(decide (y.pos < pos) && slotWrites y.pos y.word && y.phase == .waiting)))
    then some (u, x) else none

/-- Set how far a slot is. -/
def Bench.mark (b : Bench) (id pos : Nat) (p : SlotPhase) : Bench :=
  { b with flight := b.flight.map (fun u =>
      if u.id = id then { u with slots := u.slots.map (fun x => if x.pos = pos then { x with phase := p } else x) } else u) }

/-- Set how far a slot of logical Bench `l` is. -/
def State.markSlot (s : State) (l id pos : Nat) (p : SlotPhase) : State := s.setBench l ((s.bench l).mark id pos p)

/-- Whether the Bench's issued slots may act: the job runs, the Bench is of the Casting and its Hall is On (R155, R215). A
folded-out Bench's issued slots go on (DEDUCED from R181, log 10: folding changes no bit). -/
def State.benchActs (s : State) (l : Nat) : Bool :=
  s.inForce && !s.quenched && s.bit TG_STATUS_STARTED && decide (l < s.benchN) &&
  s.rd (PWR_STATE_STATE (s.physOf l / 32)) == 0 &&
  (match (s.bench l).st with | .running | .waiting | .foldedOut | .drained | .brk | .error => true | _ => false)

/-- A stream row: the slot that the row performs on logical Bench `l`, if one is ready. -/
def State.ready? (s : State) (l pos op : Nat) : Option (Bundle × Slot) :=
  if s.benchActs l then s.nextSlot (s.bench l) pos op else none

/-! ### Fold switches -/

/-- Whether a folded-out logical Bench is ready to run (R158). -/
def State.foldReady (s : State) (l : Nat) : Bool :=
  let b := s.bench l
  b.st == .foldedOut && !b.atSeam &&
  (match b.waitc with | none => true | some (c, v) => decide (v ≤ s.rd (MIL_SYNC c)))

/-- The next hosted logical Bench that is ready, in increasing index and wrapping to the lowest (R158). -/
def State.foldNext (s : State) (l : Nat) : Option Nat :=
  let hs := s.coHosted l
  ((hs.filter (fun j => decide (l < j))) ++ (hs.filter (fun j => decide (j < l)))).find? s.foldReady

/-- The logical Bench that runs, or ran last, on the physical Bench of `l` (R169). -/
def State.resident (s : State) (l : Nat) : Option Nat := (s.mill.ran.find? (fun e => e.1 == s.physOf l)).map (·.2)

/-- Logical Bench `l` is the one that its physical Bench runs. -/
def State.setRan (s : State) (l : Nat) : State :=
  let p := s.physOf l
  { s with mill := { s.mill with ran := (p, l) :: s.mill.ran.filter (fun e => e.1 ≠ p) } }

/-- Whether the logical Bench that a physical Bench runs leaves it to another (R158): it is at its SEAM bundle, drained, stopped, at a
break, or waits on a counter that is too low. A DRAINW is no such wait (DEDUCED, log 78). -/
def State.yields (s : State) (j : Nat) : Bool :=
  let b := s.bench j
  match b.st with
  | .running => false
  | .waiting => b.atSeam || (match b.waitc with | some (c, v) => decide (s.rd (MIL_SYNC c) < v) | none => false)
  | _ => true

/-- The physical Bench of `l` switches, where the one it runs leaves it and another is ready (R158, R159). -/
def State.foldTry (s : State) (l : Nat) : State :=
  match s.resident l with
  | none => s
  | some r =>
    match (if s.yields r then s.foldNext r else none) with
    | none => s
    | some j =>
      let b := s.bench r
      let s := s.setBench r { b with st := match b.st with | .running | .waiting => .foldedOut | x => x }
      let c := s.bench j
      ((s.setBench j { c with st := if c.waitc.isSome then .waiting else .running }).setRan j).inc MIL_FOLDS

/-- At the start of an epoch each physical Bench runs the lowest-indexed hosted logical Bench that has code to run (R158). That return is
no switch that MIL_FOLDS counts (DESIGN CHOICE, log 78). -/
def State.foldStart (s : State) : State :=
  (List.range s.benchN).foldl (fun s l =>
    let b := s.bench l
    match b.st with
    | .running | .waiting | .foldedOut =>
      let first := (s.coHosted l).find? (fun j =>
        match (s.bench j).st with | .running | .waiting | .foldedOut => true | _ => false)
      if first = some l then (s.setBench l { b with st := .running }).setRan l else s.setBench l { b with st := .foldedOut }
    | _ => s) s

end Sys2Proof.Machine
end

