-- ==== Sys2Proof/Machine/MillStream.lean ====
section
/-! DEFINITION. The front end of a Bench: issue, skipping, breaks, completion and retirement of bundles (R179 to R183, R200
to R207, R212, R214). -/

namespace Sys2Proof.Machine

/-- The loop levels and the next bundle address after the code up to `pc` has run (R201): a level whose END is reached
repeats its body or is left. -/
def loopNext : List LoopLevel → Nat → List LoopLevel × Nat
  | [], pc => ([], pc)
  | v :: vs, pc =>
    if v.stop = pc then
      if v.iter + 1 < v.count then ({ v with iter := v.iter + 1 } :: vs, v.start) else loopNext vs pc
    else (v :: vs, pc)

/-- LI0 to LI3: the iteration numbers of the active levels, outermost first (R201). -/
def Bench.li (b : Bench) : List Nat := b.loops.reverse.map (·.iter)

/-- The registers that the slots of the next bundle read (R180). -/
def Bench.snapshot (b : Bench) : BRegs := { b.regs with li := b.li }

/-- The slots of a bundle: their places in SLOTS order and their words (R179). -/
def bundleSlots (k : List Byte) (pc : Nat) (slots : Nat) : List Slot :=
  ((List.range 8).filter (fun i => slots / 2 ^ i % 2 == 1)).mapIdx (fun n i => ⟨i, kWord k (pc + 1 + n), .waiting⟩)

/-- Whether a 4-bit field names an index source (R177). -/
def srcOk (i : Nat) : Bool := decide (i < 12) || i == 15

/-- Whether a slot word uses no reserved bit, operation or index source (R177, R186, R188, R190, R192, R194, R196, R197,
R199). -/
def slotLegal (pos : Nat) (w : BitVec 64) : Bool :=
  let op := bitsOf w 0 4
  match pos with
  | 0 => match op with
    | 0 => bitsOf w 31 33 == 0 && srcOk (bitsOf w 12 4)
    | 1 => bitsOf w 31 1 == 0 && bitsOf w 40 24 == 0 && srcOk (bitsOf w 12 4)
    | 2 => bitsOf w 5 11 == 0 && bitsOf w 28 36 == 0
    | _ => false
  | 1 => op == 0 && bitsOf w 26 38 == 0 && srcOk (bitsOf w 12 4)
  | 2 => decide (op < 2) && bitsOf w 13 2 != 3 && bitsOf w 56 8 == 0
  | 3 => decide (op < 4) && bitsOf w 48 16 == 0
  | 4 => decide (bitsOf w 0 6 < 14) && bitsOf w 63 1 == 0
  | 5 => decide (op < 10) && bitsOf w 16 16 == 0 &&
    (match op with | 1 | 2 | 3 => srcOk (bitsOf w 8 4) | _ => true)
  | 6 => decide (op < 4) && bitsOf w 20 12 == 0
  | _ => match op with
    | 0 | 2 | 3 | 5 => bitsOf w 4 60 == 0
    | 1 => bitsOf w 21 11 == 0 && srcOk (bitsOf w 17 4)
    | 4 => bitsOf w 4 20 == 0
    | _ => false

/-- Whether every slot in flight has completed. -/
def Bench.settled (b : Bench) : Bool := b.slots.all (fun e => e.2.phase == .complete)

/-- The retire-count break is enabled and the bundle that will retire as number MIL_BRK_RET has issued (R212). -/
def State.retBreakHolds (s : State) (l : Nat) (b : Bench) : Bool :=
  s.bit (MIL_BCTL_RET_EN l) && !b.flight.isEmpty && b.ret + b.flight.length == s.rd64 (MIL_BRK_RET_LO l)

/-- Whether issue is held whatever the next bundle is (R180, R197, R204, R206, R212): 768 bundles are in flight, a MOVE or
CTRL slot has not acted yet, a WAITC or DRAINW is not over, the SEAM bundle is reached, or the retire-count break holds. -/
def State.issueHeld (s : State) (l : Nat) (b : Bench) : Bool :=
  decide (768 ≤ b.flight.length) || b.atSeam || s.retBreakHolds l b ||
  b.slots.any (fun e => e.2.phase == .waiting &&
    (e.2.pos == 5 || e.2.pos == 7 || (e.2.pos == 6 && (bitsOf e.2.word 0 4 == 0 || bitsOf e.2.word 0 4 == 2))))

/-- The flags that slots in flight still have to write (R181). -/
def Bench.flagsPending (b : Bench) : List Nat :=
  b.slots.flatMap (fun e => if e.2.phase = .complete then [] else (slotFoot [] e.1.regs e.2.pos e.2.word).fw)

/-- SETOR of a LOAD slot takes effect after the bundle (R180, R186); a descriptor that the LOAD stops on sets nothing. -/
def setOr (k : List Byte) (ors : List (BitVec 64)) (x : Slot) : List (BitVec 64) :=
  let w := x.word
  if x.pos = 0 ∧ bitsOf w 0 4 < 2 ∧ bitsOf w 30 1 = 1 ∧ bitsOf w 4 8 < kDescs k then
    let d := kDesc k (bitsOf w 4 8)
    let soff := 8 * d.tileCells % 8192
    if 64 < d.rows then ors
    else ors.set (bitsOf w 26 4) (BitVec.ofNat 64
      (bitsOf w 16 10 + d.cols * 2 ^ 10 + d.rows * 2 ^ 26 + d.fmt * 2 ^ 33 + d.sdesc * 2 ^ 37 + soff * 2 ^ 45))
  else ors

/-- A bundle retires: the retire count and the retire-count break (R207, R212). -/
def State.retireOne (s : State) (l : Nat) : State :=
  let b := s.bench l
  let ret := (b.ret + 1) % 2 ^ 64
  let s := s.setBench l { b with ret := ret }
  if s.bit (MIL_BCTL_RET_EN l) ∧ ret = s.rd64 (MIL_BRK_RET_LO l) then
    let s := s.raise (MIL_BCTL_HIT_RET l)
    let b := s.bench l
    match b.st with
    | .running | .waiting | .foldedOut | .drained => (s.setBench l { b with st := .brk }).foldTry l
    | _ => s
  else s

/-- A bundle whose predicate fails is skipped (R200): none of its slots act, a LOOP continues at its END, and it retires
as the order allows. The END is not judged under R202 (DESIGN CHOICE, log 78). -/
def State.skipBundle (s : State) (l next : Nat) (xs : List Slot) : State :=
  let b := s.bench l
  let cont := match xs.find? (fun x => x.pos == 7 && bitsOf x.word 0 4 == 1) with
    | some x => bitsOf x.word 4 13
    | none => next
  let (loops, pc) := loopNext b.loops cont
  let b := { b with loops := loops, pc := pc, nextId := b.nextId + 1, resumed := false }
  if b.flight.isEmpty then (s.setBench l b).retireOne l
  else s.setBench l { b with flight := b.flight ++ [⟨b.nextId - 1, (s.bench l).pc, next, b.snapshot, []⟩] }

/-- The bundle at PC issues whole (R180): its slots wait in flight with the registers as they stand before it. -/
def State.issueBundle (s : State) (l next : Nat) (xs : List Slot) : State :=
  let b := s.bench l
  let isLoop := xs.any (fun x => x.pos == 7 && bitsOf x.word 0 4 == 1)
  let (loops, pc) := if isLoop then (b.loops, next) else loopNext b.loops next
  let u : Bundle := ⟨b.nextId, b.pc, next, b.snapshot, xs⟩
  s.setBench l { b with
    flight := b.flight ++ [u], nextId := b.nextId + 1, loops := loops, pc := pc, resumed := false
    regs := { b.regs with or := xs.foldl (setOr (s.kimg b)) b.regs.or } }

/-- What a fetched bundle does: tag break, header checks, skipping, slot checks, the waits that hold issue (R181, R182, R204 to R206), or
issue. -/
def State.issueFetched (s : State) (l : Nat) : State :=
  let b := s.bench l
  let k := s.kimg b
  let h := kWord k b.pc
  let xs := bundleSlots k b.pc (bitsOf h 0 8)
  let next := b.pc + 1 + xs.length
  let err (slot code : Nat) := s.streamError l b.nextId b.pc slot code
  let mask := s.rd (MIL_BRK_TAG_MASK l)
  let psense := bitsOf h 12 2
  if kCodeEnd k < next then err 8 7
  else if s.bit (MIL_BCTL_TAG_EN l) && !b.resumed &&
      (bitsOf h 16 16 &&& mask) == (s.rd (MIL_BRK_TAG_VALUE l) &&& mask) then
    ((s.setBench l { b with st := .brk, resumed := true }).raise (MIL_BCTL_HIT_TAG l)).foldTry l
  else if psense = 3 ∨ bitsOf h 14 2 ≠ 0 ∨ bitsOf h 32 32 ≠ 0 then err 8 1
  else if (match b.loops with | v :: _ => decide (b.pc < v.stop ∧ v.stop < next) | [] => false) then err 8 5
  else if psense ≠ 0 ∧ bitsOf h 8 4 ∈ b.flagsPending then s
  else if psense ≠ 0 ∧ b.regs.pf.getD (bitsOf h 8 4) false ≠ (psense == 1) then s.skipBundle l next xs
  else if xs.any (fun x => x.pos == 5 && bitsOf x.word 0 4 == 4) ∧ b.flagsPending ≠ [] then s
  else match xs.find? (fun x => !slotLegal x.pos x.word) with
  | some x => err x.pos 1
  | none =>
    let sameSet := match xs.find? (fun x => x.pos == 2), xs.find? (fun x => x.pos == 3) with
      | some m, some a => bitsOf m.word 12 1 == bitsOf a.word 4 1
      | _, _ => false
    if sameSet then err 3 4
    else if xs.any (fun x => x.pos == 7 && (bitsOf x.word 0 4 == 2 || bitsOf x.word 0 4 == 3)) && !b.settled then s
    else if xs.any (fun x => b.slots.any (slotBehind k b.snapshot x)) then s
    else s.issueBundle l next xs

/-- BUNDLE_ISSUE (R180, R200, R202, R206, R212, R214). -/
def State.bundleIssue (s : State) (l : Nat) : State :=
  let b := s.bench l
  if s.benchActs l && b.st == .running && !s.issueHeld l b && !s.bit DET_STAT_HELD then
    let k := s.kimg b
    if b.pc < kCodeStart k ∨ kCodeEnd k ≤ b.pc then s.streamError l b.nextId b.pc 8 7 else s.issueFetched l
  else s

/-- BUNDLE_ISSUE: the Bench issues the next bundle in program order when run-ahead and the waits allow (R180). -/
def execBundleIssue (t l : Nat) (s : State) : Host.Outcome State Fault Refusal :=
  .next ((s.at t).bundleIssue l)

/-- Whether a slot is one whose operation ends on its own after it is performed (R207): LD, LDB, ST, MAC, ACC, VEC. -/
def completesAlone (pos : Nat) (w : BitVec 64) : Bool :=
  match pos with | 0 => decide (bitsOf w 0 4 < 2) | 1 | 2 | 3 | 4 => true | _ => false

/-- Whether an ST still waits at its release gate (R203). -/
def State.gated (s : State) (l id pos : Nat) : Bool :=
  s.tg.gates.any (fun g => g.kind == 0 && g.unit == l && match g.act with
    | .store _ b p | .post _ b p => b == id && p == pos)

/-- The oldest performed slot of place `pos` completes (R207). -/
def State.slotComplete (s : State) (l pos : Nat) : State :=
  if s.benchActs l then
    match (s.bench l).slots.find? (fun e => e.2.pos == pos && e.2.phase == .performed && completesAlone pos e.2.word &&
        !s.gated l e.1.id pos) with
    | some (u, _) => (s.markSlot l u.id pos .complete).moverFree l (fun i q => i == u.id && q == pos)
    | none => s
  else s

/-- SLOT_COMPLETE: an issued slot completes once its operation has finished (R207). -/
def execSlotComplete (t l pos : Nat) (s : State) : Host.Outcome State Fault Refusal :=
  .next ((s.at t).slotComplete l pos)

/-- The oldest bundle in flight retires once all its slots have completed (R207). -/
def State.bundleRetire (s : State) (l : Nat) : State :=
  if s.benchActs l then
    let b := s.bench l
    match b.flight with
    | u :: us =>
      if u.slots.all (fun x => x.phase == .complete) then (s.setBench l { b with flight := us }).retireOne l else s
    | [] => s
  else s

/-- BUNDLE_RETIRE: a bundle retires when its slots have completed and every earlier bundle has retired (R207). -/
def execBundleRetire (t l : Nat) (s : State) : Host.Outcome State Fault Refusal :=
  .next ((s.at t).bundleRetire l)

/-- A Bench at a break, its Hall On, continues (R212, R610): as it stood before the break, and folded out where its physical Bench runs
another. -/
def State.resumeBench (s : State) (l : Nat) : State :=
  let b := s.bench l
  if b.st = .brk ∧ s.domOn (s.physOf l / 32) = true then
    let st : BState :=
      if b.halted then .drained
      else if s.resident l ≠ some l then .foldedOut
      else if b.atSeam || b.waitc.isSome then .waiting else .running
    (s.setBench l { b with st := st }).foldTry l
  else s

/-- BREAK_RESUME: RESUME is written to MIL_BCTL of one logical Bench, or of every one by the broadcast instance (R212,
R213, R218). -/
def execBreakResume (t : Nat) (bench : Option Nat) (s : State) : Host.Outcome State Fault Refusal :=
  .next ((s.at t).cmd none (fun s => match bench with
    | some l => s.resumeBench l
    | none => (List.range s.benchN).foldl State.resumeBench s))

end Sys2Proof.Machine
end

