-- ==== Sys2Proof/Machine/MillMove.lean ====
section
/-! DEFINITION. LOAD and STORE slots: LD, LDB, KLD, ST (R182, R184 to R189, R208, R209), and host reloads (R210, R211). -/

namespace Sys2Proof.Machine

/-- The guild master of logical Bench `l` (R165, R546). -/
def gBench (l : Nat) : GMaster := ⟨1, l⟩

/-- The first span that the guild table refuses (R165, R188). -/
def State.refusedSpan (s : State) (m : GMaster) (acc : GAcc) (l : List (Nat × Nat)) : Option (Nat × Nat) :=
  l.find? (fun x => !s.granted m acc x.1 x.2)

/-- Read spans one after another; none once one gives no data, with its address. -/
def State.readSpans (s : State) (m : Master) : List (Nat × Nat) → Except Nat (List Byte) × State
  | [] => (.ok [], s)
  | x :: xs =>
    match s.memRead m x.1 x.2 with
    | (none, s) => (.error (s.badAddr x.1 x.2), s)
    | (some bs, s) =>
      match State.readSpans s m xs with
      | (.ok r, s) => (.ok (bs ++ r), s)
      | (.error a, s) => (.error a, s)

/-- Bytes padded with zeros to whole cells. -/
def padCells (bs : List Byte) : List Byte := slice bs 0 ((bs.length + 255) / 256 * 256)

/-- Whether a LOAD or STORE slot breaks R189: its descriptor, its spans, or its bench-store range. -/
def tileBad (k : List Byte) (r : BRegs) (w : BitVec 64) : Bool :=
  let d := kDesc k (bitsOf w 4 8)
  decide (kDescs k ≤ bitsOf w 4 8) ||
  !spansOk (d.spans ((r.src (bitsOf w 12 4)).getD 0).toNat) ||
  decide (1024 < bitsOf w 16 10 + d.tileCells + d.scaleCells)

/-- The spans of a LOAD or STORE slot: data and scales (R185). -/
def State.tileSpans (s : State) (l : Nat) (u : Bundle) (x : Slot) : List (Nat × Nat) × List (Nat × Nat) :=
  let d := kDesc (s.kimg (s.bench l)) (bitsOf x.word 4 8)
  let ix := ((u.regs.src (bitsOf x.word 12 4)).getD 0).toNat
  (d.dataSpans ix, d.scaleSpans ix)

/-- What stops an LD before it moves a cell (R186, R189, R165): the descriptor, the format, the guild. -/
def State.loadRefused (s : State) (l : Nat) (u : Bundle) (x : Slot) : Option State :=
  let k := s.kimg (s.bench l)
  let d := kDesc k (bitsOf x.word 4 8)
  let (data, sc) := s.tileSpans l u x
  if tileBad k u.regs x.word then some (s.streamError l u.id u.pc x.pos 3)
  else if (Fmt.ofCode d.fmt).isNone ∨ (bitsOf x.word 30 1 = 1 ∧ 64 < d.rows) then some (s.streamError l u.id u.pc x.pos 2)
  else (s.refusedSpan (gBench l) .r (data ++ sc)).map (fun r => (s.deny (gBench l) .r r.1 r.2).streamError l u.id u.pc x.pos 9 0 r.1)

/-- The cells of a tile as the inbound mover reads them for master `m`: the dense tile, then its scale cells. What another unit writes at
the same time without a WAITC reads as memory holds it at this instant (R182; DESIGN CHOICE, log 78). -/
def State.readTile (s : State) (m : Master) (sp : List (Nat × Nat) × List (Nat × Nat)) : Except Nat (List Byte) × State :=
  match s.readSpans m sp.1 with
  | (.error a, s) => (.error a, s)
  | (.ok data, s) =>
    match s.readSpans m sp.2 with
    | (.error a, s) => (.error a, s)
    | (.ok sc, s) => (.ok (padCells data ++ sc), s)

/-- A tile that was read lands in the bench store of logical Bench `l`, or stops its stream (R186, R214). -/
def State.landTile (s : State) (l : Nat) (u : Bundle) (x : Slot) (r : Except Nat (List Byte)) : State :=
  match r with
  | .error a => s.streamError l u.id u.pc x.pos 10 0 a
  | .ok bs => (s.benchWrite l (256 * bitsOf x.word 16 10) bs).markSlot l u.id x.pos .performed

/-- One LD of logical Bench `l` (R186, R189): checks, the guild, the mover's cells, the read, and the dense tile in the bench store with
its scale cells after it. -/
def State.loadTile (s : State) (l : Nat) (u : Bundle) (x : Slot) : State :=
  match s.loadRefused l u x with
  | some t => t
  | none =>
    let sp := s.tileSpans l u x
    match s.moverTake l u.id x.pos (sp.1 ++ sp.2) with
    | (false, s) => s
    | (true, s) =>
      let (r, s) := s.readTile (mBench l) sp
      s.landTile l u x r

/-- LD of a ready slot. -/
def State.opLd (s : State) (l : Nat) : State :=
  match s.ready? l 0 0 with
  | none => s
  | some (u, x) => s.loadTile l u x

/-- LD: a tile is copied into the bench store (R186). -/
def execLd (l : Nat) (s : State) : Host.Outcome State Fault Refusal := .next (s.opLd l)

/-- The fold depth F (R157). -/
def State.foldDepth (s : State) : Nat := if s.physN = 0 then 0 else (s.benchN + s.physN - 1) / s.physN

/-- The members of a broadcast group in the Hall of logical Bench `l` (R153, R187). -/
def State.hallMembers (s : State) (g l : Nat) : List Nat :=
  (kernMembers s.kern g).filter (fun j => s.physOf j / 32 == s.physOf l / 32)

/-- A member's LDB of the group that may start now. -/
def State.ldbReady (s : State) (g j : Nat) : Option (Bundle × Slot) :=
  match s.ready? j 0 1 with
  | some (u, x) => if bitsOf x.word 32 8 = g then some (u, x) else none
  | none => none

/-- The Hall broadcast (R153, R187): the spans of the first member are read once, for it and for every member whose LDB names the same
ones; another span is read by its own member (log 78). -/
def State.broadcast (s : State) (g : Nat) : List Nat → List ((List (Nat × Nat) × List (Nat × Nat)) × Except Nat (List Byte)) → State
  | [], _ => s
  | j :: js, got =>
    match s.ldbReady g j with
    | none => State.broadcast s g js got
    | some (u, x) =>
      match s.loadRefused j u x with
      | some t => State.broadcast t g js got
      | none =>
        let sp := s.tileSpans j u x
        match got.find? (fun e => e.1 == sp) with
        | some (_, r) => State.broadcast (s.landTile j u x r) g js got
        | none =>
          match s.moverTake j u.id x.pos (sp.1 ++ sp.2) with
          | (false, s) => State.broadcast s g js got
          | (true, s) =>
            let (r, s) := s.readTile (mBench j) sp
            State.broadcast (s.landTile j u x r) g js ((sp, r) :: got)

/-- LDB of a ready slot (R187): at fold depth 1 every member of the Hall is loaded at once, as soon as all have issued;
folded, it runs as an LD. -/
def State.opLdb (s : State) (l : Nat) : State :=
  match s.ready? l 0 1 with
  | none => s
  | some (u, x) =>
    let g := bitsOf x.word 32 8
    if !kernInGroup s.kern g l then s.streamError l u.id u.pc x.pos 8
    else if s.foldDepth = 1 then
      let ms := s.hallMembers g l
      if ms.all (fun j => (s.ldbReady g j).isSome) then s.broadcast g ms [] else s
    else s.loadTile l u x

/-- Logical Bench `l` waits for a rendezvous (R187): an LDB of it could start, and another member of its Hall has not issued it. It counts
as waiting on a SYNC condition (R158), and its state shows so; of the waits that hold issue (R206) it is none (DEDUCED, log 78). -/
def State.rendezvous (s : State) (l : Nat) : Bool :=
  s.foldDepth == 1 &&
  match s.ready? l 0 1 with
  | none => false
  | some (_, x) =>
    let g := bitsOf x.word 32 8
    kernInGroup s.kern g l && (s.hallMembers g l).any (fun j => (s.ldbReady g j).isNone)

/-- LDB: a tile is loaded by Hall broadcast (R187). -/
def execLdb (l : Nat) (s : State) : Host.Outcome State Fault Refusal := .next (s.opLdb l)

/-! ### Kernel banks -/

/-- A kernel bank of a Bench. -/
def Bench.bank (b : Bench) (k1 : Bool) : Bank := if k1 then b.k1 else b.k0

/-- A kernel bank set. -/
def Bench.setBank (b : Bench) (k1 : Bool) (v : Bank) : Bench := if k1 then { b with k1 := v } else { b with k0 := v }

/-- A reload into the inactive bank starts (R209): the armed mark is cleared and the bank holds no complete image until it
ends. -/
def Bench.startReload (b : Bench) (host : Bool) : Bench :=
  let v := b.bank (!b.active)
  { b.setBank (!b.active) { v with valid := false, reload := some host } with armed := false }

/-- The banks swap (R204, R209): the Bench continues at ENTRY of the new active bank with no loop active. -/
def State.swapBanks (s : State) (l : Nat) : State :=
  let b := s.bench l
  let b := { b with active := !b.active, armed := false, loops := [] }
  s.setBench l { b with pc := kEntry (s.kimg b) }

/-- The RELOAD record (R211, R553). -/
def reloadBody (who : Nat) (bank : Bool) (img count : Nat) : List Byte :=
  leBytes 2 who ++ [if bank then 1 else 0, 0] ++ leBytes 2 img ++ [0, 0] ++ leBytes 8 count

/-- A reload that a later one overwrites is never swapped in: its record, under the logical Bench or 0xFFFF, is dropped (R211). -/
def State.dropSwap (s : State) (l : Nat) (bank : Bool) : State :=
  { s with mill := { s.mill with swaps := s.mill.swaps.filter (fun e => !(e.1 == l && e.2.1 == bank)) } }

/-- The reload of logical Bench `l`'s inactive bank ends with image `img` (R209): the bank is armed; a drained Bench swaps
at once. -/
def State.endReload (s : State) (l img : Nat) : State :=
  let b := s.bench l
  let v : Bank := ⟨img, true, none⟩
  let s := s.setBench l { b.setBank (!b.active) v with armed := true }
  if b.halted then
    let s := s.swapBanks l
    s.setBench l { s.bench l with restart := true }
  else s

/-- KLD of a ready slot (R208 to R210). -/
def State.opKld (s : State) (l : Nat) : State :=
  match s.ready? l 0 2 with
  | none => s
  | some (u, x) =>
    let b := s.bench l
    let bank := bitsOf x.word 4 1 == 1
    if kernImgs s.kern ≤ bitsOf x.word 16 12 then s.streamError l u.id u.pc x.pos 11
    else if bank = b.active then (s.markSlot l u.id x.pos .complete).fault .sw 0 12 (mBench l) 6
    else if (b.bank bank).reload.isSome then s
    else ((s.setBench l (b.startReload false)).dropSwap l bank).markSlot l u.id x.pos .performed

/-- KLD: the inactive kernel bank is reloaded from the library (R208). -/
def execKld (l : Nat) (s : State) : Host.Outcome State Fault Refusal := .next (s.opKld l)

/-- A refused GO (R217). -/
def State.reloadRefused (s : State) (code : Nat) : State :=
  (s.raise MIL_RLD_STAT_REFUSED).wr MIL_RLD_STAT_CODE code

/-- MIL_RLD_CMD.GO (R208, R210, R217). -/
def State.reloadGo (s : State) (p : Path) : State :=
  let bank := s.bit MIL_RLD_SEL_BANK
  let lib := s.rd MIL_RLD_SEL_LIB
  let all := s.bit MIL_RLD_SEL_ALL
  let one := s.rd MIL_RLD_SEL_LBENCH
  let named := if all then List.range s.benchN else if one < s.benchN then [one] else []
  if s.nodeState ≠ stCast then s.reloadRefused 0x22
  else if s.bit MIL_RLD_STAT_BUSY then s.reloadRefused 0x21
  else if kernImgs s.kern ≤ lib then s.reloadRefused 0x0B
  else
    let isActive (l : Nat) := (s.bench l).active == bank
    let act := named.filter isActive
    let go := named.filter (fun l => !isActive l)
    if go.any (fun l => ((s.bench l).bank bank).reload.isSome) then s.reloadRefused 0x21
    else
      let s := act.foldl (fun s _ => s.swNote 12 p.master) s
      let s := if all then s.wr MIL_RLD_STAT_SKIPPED act.length else s
      if !all && act ≠ [] then s.reloadRefused 0x0C
      else
        let s := go.foldl (fun s l => (s.setBench l ((s.bench l).startReload true)).dropSwap l bank) s
        let s := if all then s.dropSwap 0xFFFF bank else s
        if go = [] then s.raise MIL_RLD_STAT_DONE
        else { s.wrBit MIL_RLD_STAT_BUSY true with mill := { s.mill with reload := some ⟨all, one, bank, lib, go, none⟩ } }

/-- RELOAD_GO: the host writes MIL_RLD_CMD.GO (R210). -/
def execReloadGo (t : Nat) (p : Path) (s : State) : Host.Outcome State Fault Refusal :=
  .next ((s.at t).cmd none (fun s => s.reloadGo p))

/-- A host reload of logical Bench `l` ends (R209 to R211). Its record waits for the seam of its swap; where a drained
Bench swaps at once it is written now, once for each seam count. -/
def State.hostReloadEnd (s : State) (l : Nat) (r : HostReload) : State :=
  let drained := (s.bench l).halted
  let s := s.endReload l r.lib
  let who := if r.all then 0xFFFF else l
  let n := s.rd64 TG_SEAM_LO
  let s :=
    if drained then (if r.noted = some n then s else s.hall 0xE (reloadBody who r.bank r.lib n))
    else { s with mill := { s.mill with swaps := (s.mill.swaps.filter (fun e => e ≠ (who, r.bank, r.lib))) ++ [(who, r.bank, r.lib)] } }
  let r := { r with left := r.left.filter (fun j => j ≠ l), noted := if drained then some n else r.noted }
  if r.left = [] then
    let s := (s.wrBit MIL_RLD_STAT_BUSY false).raise MIL_RLD_STAT_DONE
    { s with mill := { s.mill with reload := none } }
  else { s with mill := { s.mill with reload := some r } }

/-- RELOAD_COMPLETE of logical Bench `l` (R209). -/
def State.reloadComplete (s : State) (l : Nat) : State :=
  let b := s.bench l
  if s.inForce && decide (l < s.benchN) then
    match (b.bank (!b.active)).reload with
    | some true =>
      match s.mill.reload with
      | some r => if l ∈ r.left then s.hostReloadEnd l r else s
      | none => s
    | some false =>
      match b.slots.find? (fun e => e.2.pos == 0 && bitsOf e.2.word 0 4 == 2 && e.2.phase == .performed) with
      | some (u, x) => (s.markSlot l u.id 0 .complete).endReload l (bitsOf x.word 16 12)
      | none => s
    | none => s
  else s

/-- RELOAD_COMPLETE: the library image is written and the bank armed (R209). -/
def execReloadComplete (t l : Nat) (s : State) : Host.Outcome State Fault Refusal :=
  .next ((s.at t).reloadComplete l)

/-! ### STORE -/

/-- Cut bytes into the spans of a tile. -/
def cutSpans : List (Nat × Nat) → List Byte → List (Nat × List Byte)
  | [], _ => []
  | x :: xs, bs => (x.1, bs.take x.2) :: cutSpans xs (bs.drop x.2)

/-- The bytes an ST writes, span by span: the dense tile, then the scale cells that follow its last cell (R185, R188). -/
def stWrites (b : Bench) (d : Desc) (ix cell : Nat) : List (Nat × List Byte) :=
  cutSpans (d.dataSpans ix) (b.bytes (256 * cell) (d.rows * d.rb)) ++
  cutSpans (d.scaleSpans ix) (b.bytes (256 * (cell + d.tileCells)) (256 * d.scaleCells))

/-- The spans of an ST are written (R188). -/
def State.storeSpans (s : State) (l : Nat) (ws : List (Nat × List Byte)) : State :=
  ws.foldl (fun s w => (s.memWrite (mBench l) w.1 w.2).2) s

/-- A result of a unit waits at its release gate (R103, R203). -/
def State.hold (s : State) (kind unit rel : Nat) (act : GateAct) : State :=
  { s with tg := { s.tg with gates := s.tg.gates ++ [⟨kind, unit, rel, s.now, act⟩] } }

/-- ST of a ready slot (R188, R189, R203): checks, every span against the guild, the read of the bench store; the cells
leave at once, or wait for the release tick in force. -/
def State.opSt (s : State) (l : Nat) : State :=
  match s.ready? l 1 0 with
  | none => s
  | some (u, x) =>
    let b := s.bench l
    let k := s.kimg b
    let w := x.word
    let d := kDesc k (bitsOf w 4 8)
    let ix := ((u.regs.src (bitsOf w 12 4)).getD 0).toNat
    let cell := bitsOf w 16 10
    if tileBad k u.regs w then s.streamError l u.id u.pc x.pos 3
    else if (Fmt.ofCode d.fmt).isNone then s.streamError l u.id u.pc x.pos 2
    else match s.refusedSpan (gBench l) .w (d.spans ix) with
      | some r => (s.deny (gBench l) .w r.1 r.2).streamError l u.id u.pc x.pos 9 3 r.1
      | none =>
        if b.bad (256 * cell) (256 * (d.tileCells + d.scaleCells)) then s.streamError l u.id u.pc x.pos 10 0
        else
          match s.moverTake l u.id x.pos (d.spans ix) with
          | (false, s) => s
          | (true, s) =>
            let ws := stWrites b d ix cell
            let s := s.markSlot l u.id x.pos .performed
            match u.regs.rel with
            | some rel => s.hold 0 l rel (.store ws u.id x.pos)
            | none => s.storeSpans l ws

/-- ST: a bench-store tile is written to memory (R188). -/
def execSt (l : Nat) (s : State) : Host.Outcome State Fault Refusal := .next (s.opSt l)

end Sys2Proof.Machine
end

