-- ==== Sys2Proof/Machine/MillTensor.lean ====
section
/-! DEFINITION. MAC and ACC slots: MAC, MACZ, DRAIN, CLEAR, DRAINK, MERGE (R146, R147, R190 to R193). -/

namespace Sys2Proof.Machine

/-- The numeric policy in force (R141). -/
def State.policy (s : State) : NumPolicy :=
  ⟨s.bit NUM_POLICY_OVF, s.bit NUM_POLICY_SUBN, Rm.ofCode (s.rd NUM_POLICY_STRICT_RM)⟩

/-- The accumulator type that an ACC field names (R190). -/
def accTypeOf (c : Nat) : AccType := match c with | 0 => .fp32 | 1 => .int32 | _ => .int64

/-- One accumulator of a set. -/
def AccSet.get (a : AccSet) (i : Nat) : Int := Sparse.get (fun _ => (0 : Int)) a.vals i

/-- One accumulator set. -/
def AccSet.put (a : AccSet) (i : Nat) (v : Int) : AccSet := { a with vals := Sparse.set (fun _ => (0 : Int)) a.vals i v }

/-- The Bench with an accumulator set replaced. -/
def Bench.setAcc (b : Bench) (y : Nat) (a : AccSet) : Bench := if y = 1 then { b with setY := a } else { b with setX := a }

/-- The operand that an operand register describes: its lines, each of EXT elements with their scales applied (R119, R178). -/
structure Operand where
  fmt : Fmt
  lines : Nat
  ext : Nat
  data : List Nat
  scales : List Nat
  sdesc : Nat

/-- Read an operand from the bench store. -/
def Bench.operand (b : Bench) (o : BitVec 64) (f : Fmt) : Operand :=
  let n := orLines o * orExt o
  { fmt := f, lines := orLines o, ext := orExt o, sdesc := orSdesc o
    data := unpackElems f (b.bytes (256 * orCell o) ((n * f.bits + 7) / 8)) n
    scales := (b.bytes (orScaleAt o) (scaleBlocks (orSdesc o) (orLines o) (orExt o))).map (·.toNat) }

/-- Element `k` of a line, as an exact value with its block's scale. -/
def Operand.at (a : Operand) (line k : Nat) : Num :=
  (a.fmt.decode (a.data.getD (line * a.ext + k) 0)).withScale
    (if sdDir a.sdesc = 0 then none else some (a.scales.getD (scaleIndex a.sdesc a.ext line k) 0))

/-- The groups of one output over indices `k` to `k + n - 1` (R126, R128, R145). -/
def macGroups (a b : Operand) (i j g : Nat) : Nat → Nat → Nat → List (List (Num × Num))
  | 0, _, _ => []
  | fuel + 1, k, n =>
    if n = 0 then []
    else
      let m := min g n
      ((List.range m).map (fun x => (a.at i (k + x), b.at j (k + x)))) :: macGroups a b i j g fuel (k + m) (n - m)

/-- One output of a MAC: its accumulator after every group in increasing order, and the flags raised (R128). -/
def macOne (ty : AccType) (lsb : Int) (kind : PairKind) (fast : Bool) (acc : Int) (gs : List (List (Num × Num))) :
    Int × Flags :=
  gs.foldl (fun r g => let (v, f) := accGroup ty lsb kind fast r.1 g; (v, r.2 ||| f)) (acc, 0)

/-- The bench tile of a MAC: outputs (i, j) for the lines of both operands; the others receive zero products (R147, R190). -/
def macTile (a b : Operand) (kind : PairKind) (fast : Bool) (koff n : Nat) (set : AccSet) : AccSet × Flags :=
  ((List.range a.lines).flatMap (fun i => (List.range b.lines).map (fun j => (i, j)))).foldl (fun r ij =>
    let (v, f) := macOne set.ty set.lsb kind fast (r.1.get (64 * ij.1 + ij.2)) (macGroups a b ij.1 ij.2 kind.group n koff n)
    (r.1.put (64 * ij.1 + ij.2) v, r.2 ||| f)) (set, 0)

/-- Whether a MAC slot is a FORMAT error (R122, R127, R191). -/
def macBad (w : BitVec 64) (oa ob : BitVec 64) (set : AccSet) : Bool :=
  let z := bitsOf w 0 4 == 1
  let ty := accTypeOf (bitsOf w 13 2)
  let k := bitsOf w 24 16
  let koff := bitsOf w 40 16
  let bad (o : BitVec 64) :=
    orLines o == 0 || decide (64 < orLines o) || orExt o == 0 || decide (orExt o < koff + k)
  match Fmt.ofCode (orFmt oa), Fmt.ofCode (orFmt ob) with
  | some fa, some fb =>
    (pairKind fa fb).isNone || bad oa || bad ob || k == 0 || koff % 64 != 0 ||
    !sdescOk (orSdesc oa) (orLines oa) (orExt oa) fa || !sdescOk (orSdesc ob) (orLines ob) (orExt ob) fb ||
    (ty == .int32 && !((fa == .int4 || fa == .int8) && (fb == .int4 || fb == .int8) &&
      sdDir (orSdesc oa) == 0 && sdDir (orSdesc ob) == 0)) ||
    (!z && (ty != set.ty || (ty == .int64 && sext 8 (bitsOf w 16 8) != set.lsb)))
  | _, _ => true

/-- The wide path of one output (R273): whether it passes, the narrow value and the wide one. An INT64 value is compared with the exact sum
of untruncated products, as the rule says, and shown truncated to its count of 2^LSB (DESIGN CHOICE, log 83). -/
def wideOne (ty : AccType) (lsb : Int) (kind : PairKind) (fast : Bool) (tol : Nat) (start narrow : Int)
    (gs : List (List (Num × Num))) : Bool × Nat × Nat :=
  let gi := gs.map GroupIn.ofPairs
  match ty with
  | .fp32 =>
    let inf (p : GroupIn → Bool) : Bool := gi.any p
    let s0 := f32.decode start.toNat
    let nan := inf (·.nan) || (match s0 with | .nan _ => true | _ => false)
    let pos := inf (·.posInf) || (match s0 with | .inf false => true | _ => false)
    let neg := inf (·.negInf) || (match s0 with | .inf true => true | _ => false)
    let special : Option Num :=
      if nan || (pos && neg) then some (.nan false) else if pos then some (.inf false) else if neg then some (.inf true) else none
    let st : Dy := match s0 with | .fin n m e => ⟨if n then -(m : Int) else m, e⟩ | _ => ⟨0, 0⟩
    let sums := gi.map (GroupIn.exact kind fast)
    let wide := sums.foldl (fun a x => Dy.add a x.1) st
    let r := sums.foldl (fun a x => Dy.add a x.2) ⟨st.m.natAbs, st.e⟩
    (passFp32 tol (gs.length + 1) (f32.decode narrow.toNat) (special.getD wide.num) r,
     narrow.toNat, (ofNum32 .rne (special.getD wide.num)).1)
  | _ =>
    let q : Int := if ty = .int64 then lsb else 0
    let wide := gi.foldl (fun a g => Dy.add a (g.exact kind fast).1) ⟨start, q⟩
    let sat := (macOne ty lsb kind fast start gs).2 &&& tSaturate ≠ 0
    (within ⟨narrow, q⟩ wide 0 0 || sat || gi.any (fun g => g.nan || g.posInf || g.negInf), toBits 32 narrow,
      toBits 32 (truncGrid wide.m wide.e q))

/-- A sampled MAC tile (R272, R273): the outputs of the Anvil that the draw chose, the first one that fails or else the first. -/
def State.sampleMac (s : State) (l unit : Nat) (a b : Operand) (kind : PairKind) (fast : Bool) (koff n : Nat) (old new : AccSet) :
    State :=
  let gr := unit / 8
  let gc := unit % 8
  let outs := (List.range 64).map (fun i => (8 * gr + i / 8, 8 * gc + i % 8))
  let rs := outs.map (fun ij =>
    let gs := if ij.1 < a.lines ∧ ij.2 < b.lines then macGroups a b ij.1 ij.2 kind.group n koff n else []
    wideOne new.ty new.lsb kind fast (s.rd NUM_ASSAY_TOL) (old.get (64 * ij.1 + ij.2)) (new.get (64 * ij.1 + ij.2)) gs)
  let bad := rs.find? (fun r => !r.1)
  let r := bad.getD (rs.headD (true, 0, 0))
  s.addSample ⟨l, unit, 0, s.rd64 TG_SEAM_LO, bad.isSome, r.2.1, r.2.2⟩

/-- A ready MAC or MACZ (R190). A MACZ first sets the set to +0 with its type; its LSB is recorded for INT64. -/
def State.macSlot (s : State) (l : Nat) (u : Bundle) (x : Slot) : State :=
  let b := s.bench l
  let w := x.word
  let oa := u.regs.or.getD (bitsOf w 4 4) 0
  let ob := u.regs.or.getD (bitsOf w 8 4) 0
  let y := bitsOf w 12 1
  if macBad w oa ob (b.set y) then s.streamError l u.id u.pc x.pos 2
  else if (orCells oa ++ orCells ob).any (fun c => b.bad (256 * c.1) (256 * c.2)) then s.streamError l u.id u.pc x.pos 10 0
  else
    match Fmt.ofCode (orFmt oa), Fmt.ofCode (orFmt ob) with
    | some fa, some fb =>
      match pairKind fa fb with
      | some kind =>
        let ty := accTypeOf (bitsOf w 13 2)
        let set := if bitsOf w 0 4 = 1
          then (⟨ty, if ty = .int64 then sext 8 (bitsOf w 16 8) else 0, []⟩ : AccSet) else b.set y
        let fast := bitsOf w 15 1 == 1 && s.bit NUM_POLICY_FAST_ALLOW
        let old := set
        let (set, f) := macTile (b.operand oa fa) (b.operand ob fb) kind fast (bitsOf w 40 16) (bitsOf w 24 16) set
        let s := s.setBench l { b.setAcc y set with macs := b.macs + 1 }
        let s := match s.drawn (s.rd64 TG_SEAM_LO) 0xFFFFFF (l * 2 ^ 30 + b.macs) with
          | some unit =>
            s.sampleMac l unit (b.operand oa fa) (b.operand ob fb) kind fast (bitsOf w 40 16) (bitsOf w 24 16) old set
          | none => s
        (s.benchFlags l f).markSlot l u.id x.pos .performed
      | none => s
    | _, _ => s

def State.opMac (s : State) (l op : Nat) : State :=
  match s.ready? l 2 op with
  | none => s
  | some (u, x) => s.macSlot l u x

/-- MAC: adds a bench tile product into an accumulator set (R190). -/
def execMac (l : Nat) (s : State) : Host.Outcome State Fault Refusal := .next (s.opMac l 0)

/-- MACZ: sets the set to +0 with this type, then adds (R190). -/
def execMacz (l : Nat) (s : State) : Host.Outcome State Fault Refusal := .next (s.opMac l 1)

/-! ### ACC -/

/-- Whether an ACC drain or merge is a FORMAT error (R192). -/
def accBad (w : BitVec 64) : Bool :=
  let rows := bitsOf w 33 7
  let cols := bitsOf w 40 7
  rows == 0 || decide (64 < rows) || cols == 0 || decide (64 < cols) ||
  (!accRaw w && (match Fmt.ofCode (bitsOf w 15 4) with
    | none => true
    | some f => f.isAi || !sdescOk (bitsOf w 19 8) rows cols f))

/-- The indices of a drain's values in the set, row by row. -/
def accIndices (rows cols : Nat) : List Nat :=
  (List.range rows).flatMap (fun i => (List.range cols).map (fun j => 64 * i + j))

/-- The block scales, element codes and flags of a scaled drain (R120, R192). -/
def drainScaled (f : Fmt) (sd rows cols : Nat) (vs : List Num) : List Nat × List Nat × Flags :=
  let idx (n : Nat) := scaleIndex sd cols (n / cols) (n % cols)
  let blocks := (List.range (scaleBlocks sd rows cols)).map (fun b =>
    scaleBlock f ((List.range vs.length).filterMap (fun n => if idx n = b then vs[n]? else none)))
  let code (n : Nat) :=
    let place := ((List.range n).filter (fun i => idx i == idx n)).length
    ((blocks.getD (idx n) (0, [], 0)).2.1).getD place 0
  (blocks.map (·.1), (List.range vs.length).map code, blocks.foldl (fun a b => a ||| b.2.2) 0)

/-- The bytes a drain writes, padding included, and its flags (R130, R192). -/
def drainOut (a : AccSet) (w : BitVec 64) (pol : NumPolicy) : List Byte × Flags :=
  let rows := bitsOf w 33 7
  let cols := bitsOf w 40 7
  let vs := (accIndices rows cols).map a.get
  if accRaw w then
    (padCells (vs.flatMap (fun v => if a.ty = .int64 then leBytes 8 (toBits 64 v) else leBytes 4 (toBits 32 v))), 0)
  else match Fmt.ofCode (bitsOf w 15 4) with
    | none => ([], 0)
    | some f =>
      let sd := bitsOf w 19 8
      if sdDir sd = 0 then
        let rs := vs.map (fun v => accDrain a.ty a.lsb f (bitsOf w 27 6) pol v)
        (padCells (packElems f (rs.map (·.1))), rs.foldl (fun x r => x ||| r.2) 0)
      else
        let (sc, codes, fl) := drainScaled f sd rows cols (vs.map (accValue a.ty a.lsb))
        (padCells (packElems f codes) ++ padCells (sc.map (BitVec.ofNat 8)), fl)

/-- The checks that DRAIN, DRAINK and MERGE share (R189, R192); the error code, if any. -/
def accError (w : BitVec 64) (ty : AccType) : Option Nat :=
  if accBad w then some 2
  else if 1024 < bitsOf w 5 10 + drainCells w ty then some 3
  else none

/-- A ready DRAIN or DRAINK (R192); `keep` leaves the values. -/
def State.opDrain (s : State) (l op : Nat) (keep : Bool) : State :=
  match s.ready? l 3 op with
  | none => s
  | some (u, x) =>
    let b := s.bench l
    let w := x.word
    let y := bitsOf w 4 1
    let a := b.set y
    match accError w a.ty with
    | some c => s.streamError l u.id u.pc x.pos c
    | none =>
      let (bs, f) := drainOut a w s.policy
      let s := s.benchWrite l (256 * bitsOf w 5 10) bs
      let s := if keep then s else s.setBench l ((s.bench l).setAcc y { a with vals := [] })
      (s.benchFlags l f).markSlot l u.id x.pos .performed

/-- DRAIN: converts and writes an accumulator set, then sets it to +0 (R192). -/
def execDrain (l : Nat) (s : State) : Host.Outcome State Fault Refusal := .next (s.opDrain l 0 false)

/-- DRAINK: converts and writes, the values kept (R192). -/
def execDraink (l : Nat) (s : State) : Host.Outcome State Fault Refusal := .next (s.opDrain l 2 true)

/-- CLEAR of a ready slot: the set is +0 and keeps its type (R192). -/
def State.opClear (s : State) (l : Nat) : State :=
  match s.ready? l 3 1 with
  | none => s
  | some (u, x) =>
    let b := s.bench l
    let y := bitsOf x.word 4 1
    (s.setBench l (b.setAcc y { b.set y with vals := [] })).markSlot l u.id x.pos .performed

/-- CLEAR: sets an accumulator set to +0 (R192). -/
def execClear (l : Nat) (s : State) : Host.Outcome State Fault Refusal := .next (s.opClear l)

/-- The raw value number `n` of a merge source (R192, R193). -/
def rawAt (ty : AccType) (bs : List Byte) (n : Nat) : Int :=
  match ty with
  | .fp32 => (leAt bs (4 * n) 4 : Nat)
  | .int32 => sext 32 (leAt bs (4 * n) 4)
  | .int64 => sext 64 (leAt bs (8 * n) 8)

/-- MERGE of a ready slot (R193). -/
def State.opMerge (s : State) (l : Nat) : State :=
  match s.ready? l 3 3 with
  | none => s
  | some (u, x) =>
    let b := s.bench l
    let w := x.word
    let y := bitsOf w 4 1
    let a := b.set y
    match accError w a.ty with
    | some c => s.streamError l u.id u.pc x.pos c
    | none =>
      let n := (drainBytes w a.ty).1
      if b.bad (256 * bitsOf w 5 10) n then s.streamError l u.id u.pc x.pos 10 0
      else
        let bs := b.bytes (256 * bitsOf w 5 10) n
        let (a, f) := ((accIndices (bitsOf w 33 7) (bitsOf w 40 7)).zipIdx).foldl (fun (r : AccSet × Flags) e =>
          let (v, f) := accMerge a.ty (r.1.get e.1) (rawAt a.ty bs e.2)
          (r.1.put e.1 v, r.2 ||| f)) (a, (0 : Flags))
        ((s.setBench l (b.setAcc y a)).benchFlags l f).markSlot l u.id x.pos .performed

/-- MERGE: adds a raw image from the bench store into a set (R193). -/
def execMerge (l : Nat) (s : State) : Host.Outcome State Fault Refusal := .next (s.opMerge l)

end Sys2Proof.Machine
end

