-- ==== Sys2Proof/Machine/MillVec.lean ====
section
/-! DEFINITION. VEC slots (R136, R137, R194, R195, R630). -/

namespace Sys2Proof.Machine

/-- Byte address of a VEC operand field (R194). -/
def vecAt (w : BitVec 64) (lo : Nat) : Nat := 32 * bitsOf w lo 13

/-- Whether two byte ranges overlap. -/
def overlap (a n b m : Nat) : Bool := decide (a < b + m ∧ b < a + n)

/-- The ranges of a VEC slot: sources, and the destination if it has one. -/
def vecRanges (w : BitVec 64) (srcs : List (Nat × Nat)) (dst : Option (Nat × Nat)) (vl : Nat) : Bool :=
  let r (p : Nat × Nat) := (vecAt w p.1, vecBytes vl p.2)
  let inStore (p : Nat × Nat) := decide ((r p).1 + (r p).2 ≤ 2 ^ 18)
  srcs.all inStore &&
  match dst with
  | none => true
  | some d => inStore d && srcs.all (fun p => (r p).1 == (r d).1 || !overlap (r p).1 (r p).2 (r d).1 (r d).2)

/-- The elements of a VEC source. -/
def Bench.vecSrc (b : Bench) (w : BitVec 64) (lo : Nat) (f : Fmt) (vl : Nat) : List Nat :=
  unpackElems f (b.bytes (vecAt w lo) (vecBytes vl f.bits)) vl

/-- Whether a source range of a slot has an uncorrectable word. -/
def Bench.vecDamaged (b : Bench) (w : BitVec 64) (srcs : List (Nat × Nat)) (vl : Nat) : Bool :=
  srcs.any (fun p => b.bad (vecAt w p.1) (vecBytes vl p.2))

/-- The bytes of a VEC result; half a byte that holds no element keeps its value (DEDUCED, log 11). -/
def Bench.vecBytesOut (b : Bench) (w : BitVec 64) (f : Fmt) (cs : List Nat) : List Byte :=
  if f.bits = 4 ∧ cs.length % 2 = 1 then
    let old := (b.byte (vecAt w 7 + cs.length / 2)).toNat / 16
    packElems f (cs ++ [old])
  else packElems f cs

/-- A ready VEC slot that writes elements: checks, then `f` over the sources. The FMT field of an operation that converts nothing is not
read: a reserved or aligned-integer code there stops nothing (DESIGN CHOICE, log 77). -/
def State.vecSlot (s : State) (l : Nat) (u : Bundle) (x : Slot) (srcs : List (Nat × Fmt)) (dst : Fmt)
    (f : List Nat → Nat × Flags) : State :=
  let b := s.bench l
  let w := x.word
  let vl := u.regs.vl
  let sr := srcs.map (fun p => (p.1, p.2.bits))
  if !vecRanges w sr (some (7, dst.bits)) vl then s.streamError l u.id u.pc x.pos 2
  else if b.vecDamaged w sr vl then s.streamError l u.id u.pc x.pos 10 0
  else
    let cols := srcs.map (fun p => b.vecSrc w p.1 p.2 vl)
    let rs := (List.range vl).map (fun i => f (cols.map (fun c => c.getD i 0)))
    let s := s.benchWrite l (vecAt w 7) (b.vecBytesOut w dst (rs.map (·.1)))
    (s.benchFlags l (rs.foldl (fun a r => a ||| r.2) 0)).markSlot l u.id x.pos .performed

/-- A ready binary32 operation of two sources. -/
def State.vec2 (s : State) (l op : Nat) (f : Rm → Nat → Nat → Nat × Flags) : State :=
  match s.ready? l 4 op with
  | none => s
  | some (u, x) => s.vecSlot l u x [(20, .fp32), (33, .fp32)] .fp32 (fun a => f s.policy.rm (a.getD 0 0) (a.getD 1 0))

/-- ADD (R194). -/
def execAdd (l : Nat) (s : State) : Host.Outcome State Fault Refusal := .next (s.vec2 l 0 add32)
/-- SUB (R194). -/
def execSub (l : Nat) (s : State) : Host.Outcome State Fault Refusal := .next (s.vec2 l 1 sub32)
/-- MUL (R194). -/
def execMul (l : Nat) (s : State) : Host.Outcome State Fault Refusal := .next (s.vec2 l 2 mul32)

/-- FMA of a ready slot. -/
def State.opFma (s : State) (l : Nat) : State :=
  match s.ready? l 4 3 with
  | none => s
  | some (u, x) => s.vecSlot l u x [(20, .fp32), (33, .fp32), (46, .fp32)] .fp32
      (fun a => fma32 s.policy.rm (a.getD 0 0) (a.getD 1 0) (a.getD 2 0))

/-- FMA (R194). -/
def execFma (l : Nat) (s : State) : Host.Outcome State Fault Refusal := .next (s.opFma l)
/-- MIN (R194). -/
def execMin (l : Nat) (s : State) : Host.Outcome State Fault Refusal := .next (s.vec2 l 4 (fun _ => min32))
/-- MAX (R194). -/
def execMax (l : Nat) (s : State) : Host.Outcome State Fault Refusal := .next (s.vec2 l 5 (fun _ => max32))
/-- DIV (R194). -/
def execDiv (l : Nat) (s : State) : Host.Outcome State Fault Refusal := .next (s.vec2 l 6 div32)

/-- SQRT of a ready slot. -/
def State.opSqrt (s : State) (l : Nat) : State :=
  match s.ready? l 4 7 with
  | none => s
  | some (u, x) => s.vecSlot l u x [(20, .fp32)] .fp32 (fun a => sqrt32 s.policy.rm (a.getD 0 0))

/-- SQRT (R194). -/
def execSqrt (l : Nat) (s : State) : Host.Outcome State Fault Refusal := .next (s.opSqrt l)
/-- CMPLT (R194). -/
def execCmplt (l : Nat) (s : State) : Host.Outcome State Fault Refusal := .next (s.vec2 l 8 (fun _ => cmplt32))
/-- CMPEQ (R194). -/
def execCmpeq (l : Nat) (s : State) : Host.Outcome State Fault Refusal := .next (s.vec2 l 9 (fun _ => cmpeq32))
/-- CMPLE (R194). -/
def execCmple (l : Nat) (s : State) : Host.Outcome State Fault Refusal := .next (s.vec2 l 10 (fun _ => cmple32))

/-- Write a predicate flag. -/
def Bench.setPf (b : Bench) (i : Nat) (v : Bool) : Bench := { b with regs := { b.regs with pf := b.regs.pf.set i v } }

/-- Whether a binary32 code is non-zero or a NaN: anything but a zero. -/
def anyCode (c : Nat) : Bool := c % 2 ^ 31 != 0

/-- ANY of a ready slot: PF[C] = 1 when an element of a is non-zero or NaN (R194). -/
def State.opAny (s : State) (l : Nat) : State :=
  match s.ready? l 4 11 with
  | none => s
  | some (u, x) =>
    let b := s.bench l
    let w := x.word
    let vl := u.regs.vl
    if !vecRanges w [(20, 32)] none vl then s.streamError l u.id u.pc x.pos 2
    else if b.vecDamaged w [(20, 32)] vl then s.streamError l u.id u.pc x.pos 10 0
    else
      (s.setBench l (b.setPf (bitsOf w 46 4) ((b.vecSrc w 20 .fp32 vl).any anyCode))).markSlot l u.id x.pos .performed

/-- ANY (R194). -/
def execAny (l : Nat) (s : State) : Host.Outcome State Fault Refusal := .next (s.opAny l)

/-- The format of a conversion; none is a FORMAT error (R195, R214). CVTF and CVTT alone are judged so (DESIGN CHOICE, log 77). -/
def convFmt (w : BitVec 64) : Option Fmt :=
  match Fmt.ofCode (bitsOf w 59 4) with
  | some f => if f.isAi then none else some f
  | none => none

/-- CVTF of a ready slot: binary32 to FMT, strict or under R130. -/
def State.opCvtf (s : State) (l : Nat) : State :=
  match s.ready? l 4 12 with
  | none => s
  | some (u, x) =>
    match convFmt x.word with
    | none => s.streamError l u.id u.pc x.pos 2
    | some f =>
      let strict := bitsOf x.word 6 1 == 1
      s.vecSlot l u x [(20, .fp32)] f (fun a =>
        let v := f32.decode (a.getD 0 0)
        if strict then f.strictOfNum s.policy.rm v else f.ofNum s.policy v)

/-- CVTF (R194, R630). -/
def execCvtf (l : Nat) (s : State) : Host.Outcome State Fault Refusal := .next (s.opCvtf l)

/-- CVTT of a ready slot: FMT to binary32, strict or under R130. -/
def State.opCvtt (s : State) (l : Nat) : State :=
  match s.ready? l 4 13 with
  | none => s
  | some (u, x) =>
    match convFmt x.word with
    | none => s.streamError l u.id u.pc x.pos 2
    | some f =>
      let strict := bitsOf x.word 6 1 == 1
      s.vecSlot l u x [(20, f)] .fp32 (fun a =>
        let v := f.decode (a.getD 0 0)
        if strict then Fmt.fp32.strictOfNum s.policy.rm v else Fmt.fp32.ofNum s.policy v)

/-- CVTT (R194, R630). -/
def execCvtt (l : Nat) (s : State) : Host.Outcome State Fault Refusal := .next (s.opCvtt l)

end Sys2Proof.Machine
end

