-- ==== Sys2Proof/Machine/MillScalar.lean ====
section
/-! DEFINITION. MOVE slots (R171, R196). -/

namespace Sys2Proof.Machine

/-- The IMM field of a MOVE slot. -/
def mvImm (w : BitVec 64) : Nat := bitsOf w 32 32
/-- The D, S and X fields of a MOVE slot. -/
def mvD (w : BitVec 64) : Nat := bitsOf w 4 4
def mvS (w : BitVec 64) : Nat := bitsOf w 8 4
def mvX (w : BitVec 64) : Nat := bitsOf w 12 4

/-- A ready MOVE slot: a FORMAT error when `f` gives nothing, else the registers that `f` gives; the slot is complete
(R180, R196, R207). -/
def State.opMove (s : State) (l op : Nat) (f : Bundle → BitVec 64 → BRegs → Option BRegs) : State :=
  match s.ready? l 5 op with
  | none => s
  | some (u, x) =>
    let b := s.bench l
    match f u x.word b.regs with
    | none => s.streamError l u.id u.pc x.pos 2
    | some r => (s.setBench l { b with regs := r }).markSlot l u.id x.pos .complete

/-- Write an index register; D above 7 is a FORMAT error. -/
def moveIx (w : BitVec 64) (r : BRegs) (v : Word) : Option BRegs :=
  if 7 < mvD w then none else some { r with ix := r.ix.set (mvD w) v }

/-- SETI: IX[D] = IMM. -/
def execSeti (l : Nat) (s : State) : Host.Outcome State Fault Refusal :=
  .next (s.opMove l 0 (fun _ w r => moveIx w r (BitVec.ofNat 32 (mvImm w))))

/-- ADDI: IX[D] = S + IMM. -/
def execAddi (l : Nat) (s : State) : Host.Outcome State Fault Refusal :=
  .next (s.opMove l 1 (fun u w r => moveIx w r ((u.regs.src (mvS w)).getD 0 + BitVec.ofNat 32 (mvImm w))))

/-- MULI: IX[D] = S × IMM. -/
def execMuli (l : Nat) (s : State) : Host.Outcome State Fault Refusal :=
  .next (s.opMove l 2 (fun u w r => moveIx w r ((u.regs.src (mvS w)).getD 0 * BitVec.ofNat 32 (mvImm w))))

/-- The comparison that X names (R196). -/
def cmpRel (x : Nat) (a b : Word) : Option Bool :=
  match x with
  | 0 => some (a == b)
  | 1 => some (a != b)
  | 2 => some (a.ult b)
  | 3 => some (!a.ult b)
  | _ => none

/-- CMPI: PF[D] = (S cmp IMM). -/
def execCmpi (l : Nat) (s : State) : Host.Outcome State Fault Refusal :=
  .next (s.opMove l 3 (fun u w r =>
    (cmpRel (mvX w) ((u.regs.src (mvS w)).getD 0) (BitVec.ofNat 32 (mvImm w))).map
      (fun v => { r with pf := r.pf.set (mvD w) v })))

/-- The operation that IMM[1:0] names (R196). -/
def plogOp (i : Nat) (a b : Bool) : Bool :=
  match i with | 0 => a && b | 1 => a || b | 2 => a != b | _ => !a

/-- PLOG: PF[D] = PF[S] op PF[X]. -/
def execPlog (l : Nat) (s : State) : Host.Outcome State Fault Refusal :=
  .next (s.opMove l 4 (fun u w r =>
    let v := plogOp (mvImm w % 4) (u.regs.pf.getD (mvS w) false) (u.regs.pf.getD (mvX w) false)
    some { r with pf := r.pf.set (mvD w) v }))

/-- PSET: PF[D] = IMM[0]. -/
def execPset (l : Nat) (s : State) : Host.Outcome State Fault Refusal :=
  .next (s.opMove l 5 (fun _ w r => some { r with pf := r.pf.set (mvD w) (mvImm w % 2 == 1) }))

/-- SETVL: VL = IMM, 1 to 65,536. -/
def execSetvl (l : Nat) (s : State) : Host.Outcome State Fault Refusal :=
  .next (s.opMove l 6 (fun _ w r =>
    if mvImm w = 0 ∨ 65536 < mvImm w then none else some { r with vl := mvImm w }))

/-- The low bit and width of the operand-register field that X names (R178, R196). -/
def orField (x : Nat) : Option (Nat × Nat) :=
  match x with
  | 0 => some (0, 10) | 1 => some (10, 16) | 2 => some (26, 7) | 3 => some (33, 4) | 4 => some (37, 8) | 5 => some (45, 13)
  | _ => none

/-- A field of a 64-bit register replaced. -/
def setBits (o : BitVec 64) (lo n v : Nat) : BitVec 64 :=
  (o &&& ~~~(BitVec.ofNat 64 ((2 ^ n - 1) * 2 ^ lo))) ||| BitVec.ofNat 64 (v * 2 ^ lo)

/-- ORSET: a field of OR[D] = IMM. -/
def execOrset (l : Nat) (s : State) : Host.Outcome State Fault Refusal :=
  .next (s.opMove l 7 (fun _ w r =>
    match orField (mvX w) with
    | none => none
    | some (lo, n) =>
      if 2 ^ n ≤ mvImm w then none
      else some { r with or := r.or.set (mvD w) (setBits (r.or.getD (mvD w) 0) lo n (mvImm w)) }))

/-- ORCPY: OR[D] = OR[S]. The copy reads OR[S] as it stands before the bundle (R180). -/
def execOrcpy (l : Nat) (s : State) : Host.Outcome State Fault Refusal :=
  .next (s.opMove l 8 (fun u w r => some { r with or := r.or.set (mvD w) (u.regs.or.getD (mvS w) 0) }))

/-- The feature values (R171), the Bench index and count apart. -/
def featVal (l n i : Nat) : Nat :=
  match i with
  | 0 => 1 | 1 => 1024 | 2 => 1024 | 3 => 768 | 4 => 256 | 5 => 4096 | 6 => l | 7 => n | 8 => 65536 | 9 => 4
  | 10 => 16 | 11 => 16 | 12 => 8 | 13 => 256 | 14 => 4096 | _ => 64

/-- FEAT: IX[D] = feature value IMM; an index above 15 is a FORMAT error. -/
def execFeat (l : Nat) (s : State) : Host.Outcome State Fault Refusal :=
  .next (s.opMove l 9 (fun _ w r =>
    if 15 < mvImm w then none else moveIx w r (BitVec.ofNat 32 (featVal l s.benchN (mvImm w)))))

end Sys2Proof.Machine
end

