-- ==== Sys2Proof/Machine/MillCtrl.lean ====
section
/-! DEFINITION. SYNC and CTRL slots (R197 to R205). -/

namespace Sys2Proof.Machine

/-- A unit adds 1 to a sync counter, saturating (R197); a folded-out Bench whose wait that ends may be switched in (R158). -/
def State.postSync (s : State) (c : Nat) : State :=
  let s := s.inc (MIL_SYNC c)
  ((List.range s.benchN).filter (fun l => let b := s.bench l; b.st == .foldedOut && (b.waitc.map (·.1)) == some c)).foldl State.foldTry s

def syncCtr (w : BitVec 64) : Nat := bitsOf w 4 12
def syncVal (w : BitVec 64) : Nat := bitsOf w 32 32

/-- Whether every slot before place `pos` of bundle `id` that `p` names has completed. -/
def Bench.earlierDone (b : Bench) (id pos : Nat) (p : Slot → Bool) : Bool :=
  b.slots.all (fun e => !(decide (e.1.id < id) || (e.1.id == id && decide (e.2.pos < pos))) || !p e.2 || e.2.phase == .complete)

/-- A Bench that waited goes on: it runs, or stays folded out until the physical Bench switches to it (R158). -/
def State.wakeBench (s : State) (l : Nat) : State :=
  let b := s.bench l
  match b.st with
  | .waiting => s.setBench l { b with st := .running, waitc := none }
  | .foldedOut => (s.setBench l { b with waitc := none }).foldTry l
  | _ => s.setBench l { b with waitc := none }

/-- WAITC of a ready slot (R197): the wait ends when the counter is high enough; until then no bundle issues and the
physical Bench may switch (R158). -/
def State.opWaitc (s : State) (l : Nat) : State :=
  match s.ready? l 6 0 with
  | none => s
  | some (u, x) =>
    let c := syncCtr x.word
    let v := syncVal x.word
    if v ≤ s.rd (MIL_SYNC c) then (s.markSlot l u.id x.pos .complete).wakeBench l
    else
      let b := s.bench l
      (s.setBench l { b with st := match b.st with | .running => .waiting | y => y, waitc := some (c, v) }).foldTry l

/-- WAITC: no later bundle issues until counter CTR ≥ VALUE (R197). -/
def execWaitc (l : Nat) (s : State) : Host.Outcome State Fault Refusal := .next (s.opWaitc l)

/-- POST of a ready slot (R197, R203): after every earlier ST, 1 is added to the counter, at its release tick where one
is in force. -/
def State.opPost (s : State) (l : Nat) : State :=
  match s.ready? l 6 1 with
  | none => s
  | some (u, x) =>
    if (s.bench l).earlierDone u.id x.pos (fun y => y.pos == 1) then
      match u.regs.rel with
      | some rel => (s.markSlot l u.id x.pos .performed).hold 0 l rel (.post (syncCtr x.word) u.id x.pos)
      | none => (s.postSync (syncCtr x.word)).markSlot l u.id x.pos .complete
    else s

/-- POST: adds 1 to a sync counter (R197). -/
def execPost (l : Nat) (s : State) : Host.Outcome State Fault Refusal := .next (s.opPost l)

/-- DRAINW of a ready slot (R197). -/
def State.opDrainw (s : State) (l : Nat) : State :=
  match s.ready? l 6 2 with
  | none => s
  | some (u, x) =>
    if (s.bench l).earlierDone u.id x.pos (fun _ => true) then (s.markSlot l u.id x.pos .complete).wakeBench l
    else
      let b := s.bench l
      match b.st with
      | .running => s.setBench l { b with st := .waiting }
      | _ => s

/-- DRAINW: no later bundle issues until every earlier slot has completed (R197). -/
def execDrainw (l : Nat) (s : State) : Host.Outcome State Fault Refusal := .next (s.opDrainw l)

/-- TESTC of a ready slot (R197). -/
def State.opTestc (s : State) (l : Nat) : State :=
  match s.ready? l 6 3 with
  | none => s
  | some (u, x) =>
    let b := s.bench l
    (s.setBench l (b.setPf (bitsOf x.word 16 4) (decide (syncVal x.word ≤ s.rd (MIL_SYNC (syncCtr x.word)))))).markSlot
      l u.id x.pos .complete

/-- TESTC: PF[P] = (counter CTR ≥ VALUE), no wait (R197). -/
def execTestc (l : Nat) (s : State) : Host.Outcome State Fault Refusal := .next (s.opTestc l)

/-! ### CTRL -/

/-- NOP of a ready slot. -/
def State.opNop (s : State) (l : Nat) : State :=
  match s.ready? l 7 0 with
  | none => s
  | some (u, x) => s.markSlot l u.id x.pos .complete

/-- NOP (R199). -/
def execNop (l : Nat) (s : State) : Host.Outcome State Fault Refusal := .next (s.opNop l)

/-- The LOOP of a ready slot (R201, R202): the count is latched as it stands before the bundle. -/
def State.opLoop (s : State) (l : Nat) : State :=
  match s.ready? l 7 1 with
  | none => s
  | some (u, x) =>
    let b := s.bench l
    let w := x.word
    let stop := bitsOf w 4 13
    let csrc := bitsOf w 17 4
    let count := if csrc = 15 then bitsOf w 32 32 else ((u.regs.src csrc).getD 0).toNat
    let outer := match b.loops with | v :: _ => decide (v.stop < stop) | [] => false
    if stop < u.next ∨ outer = true ∨ kCodeEnd (s.kimg b) < stop then s.streamError l u.id u.pc x.pos 5
    else
      let s := s.markSlot l u.id x.pos .complete
      let b := s.bench l
      if count = 0 ∨ stop = u.next then
        let (loops, pc) := loopNext b.loops stop
        s.setBench l { b with loops := loops, pc := pc }
      else if 4 ≤ b.loops.length then s.streamError l u.id u.pc x.pos 6
      else s.setBench l { b with loops := ⟨u.next, stop, count, 0⟩ :: b.loops, pc := u.next }

/-- LOOP: repeats the body COUNT times (R201). -/
def execLoop (l : Nat) (s : State) : Host.Outcome State Fault Refusal := .next (s.opLoop l)

/-- SEAM of a ready slot (R204): the Bench has reached its SEAM bundle for the epoch; the physical Bench may switch. -/
def State.opSeam (s : State) (l : Nat) : State :=
  match s.ready? l 7 2 with
  | none => s
  | some (u, x) =>
    if (s.bench l).earlierDone u.id x.pos (fun _ => true) then
      let s := s.markSlot l u.id x.pos .performed
      let b := s.bench l
      (s.setBench l { b with atSeam := true, st := match b.st with | .running => .waiting | y => y }).foldTry l
    else s

/-- SEAM_CMD: the Bench reaches its SEAM bundle (R204). -/
def execSeamCmd (l : Nat) (s : State) : Host.Outcome State Fault Refusal := .next (s.opSeam l)

/-- HALT of a ready slot (R205): the stream is drained. -/
def State.opHalt (s : State) (l : Nat) : State :=
  match s.ready? l 7 3 with
  | none => s
  | some (u, x) =>
    if (s.bench l).earlierDone u.id x.pos (fun _ => true) then
      let s := s.markSlot l u.id x.pos .complete
      let b := s.bench l
      (s.setBench l { b with halted := true, st := match b.st with | .running | .waiting | .foldedOut => .drained | y => y }).foldTry l
    else s

/-- HALT: the stream is drained (R205). -/
def execHalt (l : Nat) (s : State) : Host.Outcome State Fault Refusal := .next (s.opHalt l)

/-- RELEASE of a ready slot (R203): the release tick is the epoch's scheduled start plus OFFSET. -/
def State.opRelease (s : State) (l : Nat) : State :=
  match s.ready? l 7 4 with
  | none => s
  | some (u, x) =>
    let b := s.bench l
    (s.setBench l { b with regs := { b.regs with rel := some (s.tg.epochStart + bitsOf x.word 24 40) } }).markSlot
      l u.id x.pos .complete

/-- RELEASE: sets the release tick of later ST and POST (R203). -/
def execRelease (l : Nat) (s : State) : Host.Outcome State Fault Refusal := .next (s.opRelease l)

/-- BRK of a ready slot (R205, R212): a break with cause SW. -/
def State.opBrk (s : State) (l : Nat) : State :=
  match s.ready? l 7 5 with
  | none => s
  | some (u, x) =>
    let s := s.markSlot l u.id x.pos .complete
    let b := s.bench l
    match b.st with
    | .running | .waiting | .foldedOut => ((s.setBench l { b with st := .brk }).raise (MIL_BCTL_HIT_SW l)).foldTry l
    | _ => s

/-- BRK: stops the Bench as a break with cause SW (R205). -/
def execBrk (l : Nat) (s : State) : Host.Outcome State Fault Refusal := .next (s.opBrk l)

end Sys2Proof.Machine
end

