-- ==== Sys2Proof/Machine/Rs.lean ====
section
/-! DEFINITION. The two forward error correction codes of a port (R20, R327, R328): decoding of a codeword, the second decode of a
stomped one (R478), and what a slot's codewords give. -/

namespace Sys2Proof.Machine

/-- A systematic Reed-Solomon code with generator roots α^0 to α^(n - k - 1), α = 2: bits of a symbol, field polynomial, symbols of a
codeword, message symbols, and whether the first symbol is that of the highest power. -/
structure RsCode where
  m : Nat
  poly : Nat
  n : Nat
  k : Nat
  high : Bool
deriving DecidableEq, Repr

/-- Light FEC: RS(132,128) over GF(2^8), x^8 + x^4 + x^3 + x^2 + 1 (R327). Symbol s is that of x^s: with the other order a stomped
codeword would lie within two symbols of another codeword, and R478 could not tell it (DEDUCED, log 71). -/
def lightFec : RsCode := ⟨8, 0x11D, 132, 128, false⟩

/-- Heavy FEC: RS(544,514) over GF(2^10) (R327); the field polynomial x^10 + x^3 + 1, the generator roots and the order of the symbols
are those of IEEE 802.3 (PRESUMED, log 71). -/
def heavyFec : RsCode := ⟨10, 0x409, 544, 514, true⟩

/-- The code of a port. -/
def fecOf (heavy : Bool) : RsCode := if heavy then heavyFec else lightFec

/-- Bits of a message. -/
def RsCode.bits (c : RsCode) : Nat := c.m * c.k

/-- Times α in the field. -/
def RsCode.dbl (c : RsCode) (a : Nat) : Nat := if 2 ^ c.m ≤ 2 * a then Nat.xor (2 * a) c.poly else 2 * a

/-- The product of two field elements, over the bits of the second. -/
def RsCode.mulGo (c : RsCode) : Nat → Nat → Nat → Nat
  | 0, _, _ => 0
  | n + 1, a, b => Nat.xor (if b % 2 = 1 then a else 0) (c.mulGo n (c.dbl a) (b / 2))
def RsCode.mul (c : RsCode) (a b : Nat) : Nat := c.mulGo c.m a b

/-- α^i. -/
def RsCode.alpha (c : RsCode) : Nat → Nat
  | 0 => 1
  | i + 1 => c.dbl (c.alpha i)

/-- The inverse of a field element other than 0: its power 2^m - 2. -/
def RsCode.inv (c : RsCode) (a : Nat) : Nat :=
  ((List.range (c.m - 1)).foldl (fun (r : Nat × Nat) _ => let q := c.mul r.2 r.2; (c.mul r.1 q, q)) (1, a)).1

/-- A polynomial, lowest power first, at a point. -/
def RsCode.eval (c : RsCode) (p : List Nat) (x : Nat) : Nat := p.reverse.foldl (fun a b => Nat.xor (c.mul a x) b) 0

/-- The syndromes of a received word. -/
def RsCode.syndromes (c : RsCode) (w : List Nat) : List Nat :=
  (List.range (c.n - c.k)).map (fun j => c.eval (if c.high then w.reverse else w) (c.alpha j))

/-- The symbol of power `p`. -/
def RsCode.place (c : RsCode) (p : Nat) : Nat := if c.high then c.n - 1 - p else p

/-- Sum of two polynomials, the second times `f` and shifted by `n`. -/
def RsCode.addShift (c : RsCode) (p q : List Nat) (f n : Nat) : List Nat :=
  let r := List.replicate n 0 ++ q.map (c.mul f)
  (List.range (max p.length r.length)).map (fun i => Nat.xor (p.getD i 0) (r.getD i 0))

/-- The error locator (Berlekamp and Massey): the connection polynomial and its length after every syndrome. -/
def RsCode.locator (c : RsCode) (syn : List Nat) : List Nat × Nat :=
  let r := (List.range syn.length).foldl (fun (a : List Nat × List Nat × Nat × Nat × Nat) n =>
    let (p, old, len, gap, b) := a
    let d := (List.range (len + 1)).foldl (fun x i => Nat.xor x (c.mul (p.getD i 0) (if i ≤ n then syn.getD (n - i) 0 else 0))) 0
    if d = 0 then (p, old, len, gap + 1, b)
    else
      let q := c.addShift p old (c.mul d (c.inv b)) gap
      if 2 * len ≤ n then (q, p, n + 1 - len, 1, d) else (q, old, len, gap + 1, b)) ([1], [1], 0, 1, 1)
  (r.1, r.2.2.1)

/-- A word corrected (R20, R328): none where no codeword lies within t symbols of it. -/
def RsCode.correct (c : RsCode) (w : List Nat) : Option (List Nat) :=
  let syn := c.syndromes w
  if w.length ≠ c.n then none
  else if syn.all (fun x => x == 0) = true then some w
  else
    let (lam, len) := c.locator syn
    let omega := (List.range (c.n - c.k)).map (fun i =>
      (List.range (i + 1)).foldl (fun a j => Nat.xor a (c.mul (lam.getD j 0) (syn.getD (i - j) 0))) 0)
    let deriv := (List.range lam.length).filterMap (fun i => if i = 0 then none else some (if i % 2 = 1 then lam.getD i 0 else 0))
    let order := 2 ^ c.m - 1
    let places := (List.range c.n).filter (fun p => c.eval lam (c.alpha ((order - p) % order)) == 0)
    if 2 * len ≤ c.n - c.k ∧ places.length = len then
      let fixed := places.foldl (fun (w : List Nat) p =>
        let x := c.alpha ((order - p) % order)
        let e := c.mul (c.alpha p) (c.mul (c.eval omega x) (c.inv (c.eval deriv x)))
        w.set (c.place p) (Nat.xor (w.getD (c.place p) 0) e)) w
      if (c.syndromes fixed).all (fun x => x == 0) = true then some fixed else none
    else none

/-- What the decoder makes of a codeword (R332, R478). -/
inductive CwOut where
  | clean | corrected | uncorrectable | stomped
deriving DecidableEq, Repr

/-- A word with every check symbol inverted bit by bit (R478). -/
def RsCode.stomp (c : RsCode) (w : List Nat) : List Nat := w.take c.k ++ (w.drop c.k).map (fun x => Nat.xor x (2 ^ c.m - 1))

/-- A received codeword: its outcome and its message as used (R478). -/
def RsCode.receive (c : RsCode) (w : List Nat) : CwOut × List Nat :=
  match c.correct w with
  | some v => (if v = w then .clean else .corrected, v.take c.k)
  | none =>
    match c.correct (c.stomp w) with
    | some v => (.stomped, v.take c.k)
    | none => (.uncorrectable, w.take c.k)

/-- The worse of what two codewords of one unit make of it. -/
def CwOut.join (a b : CwOut) : CwOut :=
  if a = .uncorrectable ∨ b = .uncorrectable then .uncorrectable
  else if a = .stomped ∨ b = .stomped then .stomped
  else if a = .corrected ∨ b = .corrected then .corrected else .clean

/-- The codewords that hold bits `lo` to `hi - 1` of the stream (R327). -/
def RsCode.span (c : RsCode) (lo hi : Nat) : List Nat := (List.range ((hi - 1) / c.bits + 1 - lo / c.bits)).map (fun i => lo / c.bits + i)

/-- The units of a slot as decoded, each with what became of the codewords that hold it. -/
def slotUnits (x : SlotRx) (heavy : Bool) : List (List Byte × CwOut) :=
  let c := fecOf heavy
  let got := x.words.map c.receive
  let base := 128 * x.unit / c.bits
  let bits := (got.flatMap (·.2)).reverse.foldl (fun a y => a * 2 ^ c.m + y % 2 ^ c.m) 0
  (List.range 17).map (fun i =>
    let lo := 128 * (x.unit + i)
    (leBytes 16 (bits / 2 ^ (lo - base * c.bits) % 2 ^ 128),
      (c.span lo (lo + 128)).foldl (fun a j => a.join ((got.map (·.1)).getD (j - base) .uncorrectable)) .clean))

/-- What became of the codewords that ended since the slot before, in order (R357). -/
def slotEnded (x : SlotRx) (heavy : Bool) : List CwOut :=
  let c := fecOf heavy
  let base := 128 * x.unit / c.bits
  let from' := 128 * (if x.unit % 2024 = 1 then x.unit - 1 else x.unit)
  ((x.words.map (fun w => (c.receive w).1)).zipIdx).filterMap (fun e =>
    let stop := (base + e.2 + 1) * c.bits
    if from' < stop ∧ stop ≤ 128 * (x.unit + 17) then some e.1 else none)

end Sys2Proof.Machine
end

