-- ==== Sys2Proof/Machine/Route.lean ====
section
/-! DEFINITION. Label tables (R399 to R405), packet routing (R408 to R412), fences (R414 to R416) and the relay of ACKs
(R342, R406). -/

namespace Sys2Proof.Machine

/-! ### The MAND section -/

/-- A label entry (R400). -/
structure Label where
  act : Nat
  isLocal : Bool
  anyIn : Bool
  altV : Bool
  vcs : Nat
  inPort : Nat
  port : Nat
  altPort : Nat
  win : Nat
  a : Nat
  b : Nat
deriving DecidableEq, Repr

/-- The MAND section in force. -/
def State.mand (s : State) : List Byte := sect s.cst.img tyMAND

/-- Entry L of a MAND section; none past NENT or where ACT is INVALID (R399, R403). -/
def mandEntry (m : List Byte) (l : Nat) : Option Label :=
  if l < leAt m 0 4 then
    let o := 64 + 16 * l
    let f := leAt m (o + 1) 1
    let e : Label := ⟨leAt m o 1, f % 2 == 1, f / 2 % 2 == 1, f / 4 % 2 == 1, leAt m (o + 2) 1, leAt m (o + 3) 1,
      leAt m (o + 4) 1, leAt m (o + 5) 1, leAt m (o + 6) 2, leAt m (o + 8) 4, leAt m (o + 12) 4⟩
    if e.act = 0 then none else some e
  else none

/-- Copy entry i: PORT, ALTPORT, OUT, ALTOUT (R401). -/
def mandCopy (m : List Byte) (i : Nat) : Nat × Nat × Nat × Nat :=
  let base := (64 + 16 * leAt m 0 4 + 63) / 64 * 64
  let v := leAt m (base + 8 * i) 8
  (v % 256, v / 256 % 256, v / 2 ^ 16 % 2 ^ 20, v / 2 ^ 36 % 2 ^ 20)

/-- The copies of an MCAST entry (R400). -/
def Label.copies (e : Label) : List Nat := (List.range (e.a / 2 ^ 20)).map (fun i => e.a % 2 ^ 20 + i)

/-! ### Fences -/

/-- A local endpoint is fenced, by the endpoint-port index of its lowest port (R414). -/
def State.epFenced (s : State) (n : Nat) : Bool := s.rd (RT_EFENCE (n / 32)) / 2 ^ (n % 32) % 2 == 1

/-- An entry of the fence list (R416). -/
def State.listFenced (s : State) (kind arg : Nat) : Bool :=
  (List.range 256).any (fun i => s.bit (RT_FLIST_VALID i) && s.rd (RT_FLIST_KIND i) == kind && s.rd (RT_FLIST_ARG i) == arg)

/-- The width of the endpoint at a port: the declared one, or while uncast what the endpoint itself declared (R25, R347, R355). -/
def State.epWidth (s : State) (k : Nat) : Nat :=
  max 1 (if s.rd (LK_CFG_WIDTH k) = 0 then s.rd (LK_PEER_WIDTH k) else s.rd (LK_CFG_WIDTH k))

/-- The endpoint of an endpoint port, by the index of its lowest port; and the ports of endpoint `n`, none where no endpoint's lowest
port has that index (R25, R26). -/
def State.epOf (s : State) (k : Nat) : Nat := epIdx k / s.epWidth k * s.epWidth k
def State.epPorts (s : State) (n : Nat) : List Nat :=
  if n % s.epWidth (epPort n) = 0 ∧ s.portUse (epPort n) = true then
    (List.range (s.epWidth (epPort n))).map (fun i => epPort (n + i))
  else []

/-- Whether an addr20 names an endpoint of this node; its index n (R408). -/
def addrN (a : Nat) : Nat := a / 4096 % 128
def addrNode (a : Nat) : Bool := a / 2 ^ 19 % 2 == 1
def addrCode (a : Nat) : Nat := a % 4096

/-- Whether an endpoint address is fenced, here or in the list (R414). -/
def State.addrFenced (s : State) (a : Nat) : Bool :=
  !addrNode a &&
  ((addrCode a == s.selfCode && s.epFenced (addrN a)) || s.listFenced 1 a)

/-- Whether a node is fenced or cut (R410, R417). -/
def State.nodeGone (s : State) (c : Nat) : Bool := s.listFenced 2 c || (s.inForce && (imgCuts s.cst.img).contains c)

/-- Entries and copies whose primary port is `k` switch to their alternates, each counted (R405). -/
def State.altSwitch (s : State) (k : Nat) : State :=
  if s.inForce then
    let m := s.mand
    let es := (List.range (leAt m 0 4)).filter (fun l => !s.fab.altEnt.contains l &&
      match mandEntry m l with
      | some e => e.act == 1 && e.altV && e.port == k
      | none => false)
    let cs := (List.range (leAt m 4 4)).filter (fun i => !s.fab.altCopy.contains i &&
      let c := mandCopy m i
      c.1 == k && c.2.1 != k)
    let s := { s with fab := { s.fab with altEnt := s.fab.altEnt ++ es, altCopy := s.fab.altCopy ++ cs } }
    s.addSat RT_ALTSW (es.length + cs.length)
  else s

/-- A FENCE hallmark (R415, R553). -/
def State.fenceHall (s : State) (kind arg : Nat) (auto : Bool) (remove : Bool) : State :=
  s.hall 0x10 ([BitVec.ofNat 8 kind, if remove then 1 else 0, 0, 0] ++ leBytes 4 arg) auto

/-- The PORT fence of one port (R377, R414): its copies go at once, dropped-fenced, its entries switch, and what its transmit unit
recorded expires, as the copies take other paths (R405, R482). -/
def State.fencePort1 (s : State) (k : Nat) (auto : Bool) : State :=
  if s.portFenced k then s
  else
    let f := RT_PFENCE (k / 32)
    let s := s.wr f (s.rd f + 2 ^ (k % 32))
    let (n, s) := s.dropCopies k true
    let s := (s.addSat (BP_DFENCE (dieOf k)) n).expireRecs (256 + k) (fun _ => true)
    (s.altSwitch k).fenceHall 3 k auto false

/-- An entry is added to the fence list (R416); a full list sets FULL and, for the node's own fences, raises a LINK fault. -/
def State.fenceList (s : State) (kind arg : Nat) (auto : Bool) : State :=
  if s.listFenced kind arg then s
  else match (List.range 256).find? (fun i => !s.bit (RT_FLIST_VALID i)) with
    | none =>
      let s := s.raise RT_FSTAT_FULL
      if auto then s.fault .link 2 0 mNone else s
    | some i =>
      let s := ((s.wr (RT_FLIST_KIND i) kind).wr (RT_FLIST_ARG i) arg).wrBit (RT_FLIST_AUTO i) auto
      ((s.wrBit (RT_FLIST_VALID i) true).inc RT_FSTAT_COUNT).fenceHall kind arg auto false

/-- Streams that terminate at an endpoint's ports fail at once (R414). -/
def State.failAt (s : State) (ks : List Nat) : State :=
  (s.fab.txs.filter (fun x => ks.contains x.port && !x.failed)).foldl State.endStream s

/-- The ENDPOINT fence of a local endpoint (R414). -/
def State.fenceEndpoint (s : State) (n : Nat) (auto : Bool) : State :=
  if s.epFenced n then s
  else
    let f := RT_EFENCE (n / 32)
    let s := s.wr f (s.rd f + 2 ^ (n % 32))
    let ks := s.epPorts n
    let s := ks.foldl (fun s k => s.fencePort1 k auto) s
    (s.failAt ks).fenceHall 1 (s.selfCode + 4096 * n) auto false

/-- A NODE fence (R414): every local port whose partner, as LK_PEER names it since its last IDENT0, is that node is fenced. -/
def State.fenceNode (s : State) (c : Nat) (auto : Bool) : State :=
  let ks := fabricPorts.filter (fun k => s.rd (LK_PEER_PVER k) != 0 && s.rd (LK_PEER_COORD k) == c)
  let s := ks.foldl (fun s k => s.fencePort1 k auto) s
  s.fenceList 2 c auto

/-- A PORT fence with what the node adds itself (R35, R415): the endpoint of an endpoint port, the neighbour all of whose ports
are fenced. -/
def State.fencePort (s : State) (k : Nat) (auto : Bool) : State :=
  let s := s.fencePort1 k auto
  if s.inForce then
    if isEndpoint k then (if s.rd (LK_CFG_WIDTH k) = 0 then s else s.fenceEndpoint (s.epOf k) true)
    else
      let near := (s.dirPorts (dirOf k) 1).filter s.portUse
      if near ≠ [] ∧ near.all s.portFenced = true then s.fenceNode (stepCode s.axis s.selfCode (dirOf k) 1) true else s
  else s

/-- A fence by kind and argument, as RT_FADD names it (R414, R422); kind 0 has no effect. -/
def State.addFence (s : State) (kind arg : Nat) (auto : Bool) : State :=
  match kind with
  | 1 => if addrCode arg = s.selfCode then s.fenceEndpoint (addrN arg) auto else s.fenceList 1 arg auto
  | 2 => s.fenceNode (addrCode arg) auto
  | 3 => s.fencePort (arg % 256) auto
  | _ => s

/-! ### Packet routing -/

/-- Where a packet goes next (R410). -/
inductive Hop where
  | service
  | port (k : Nat)
  | unreachable
deriving DecidableEq, Repr

/-- Ports of a direction of one kind that are up and unfenced, in increasing offset (R410). -/
def State.upPorts (s : State) (d dist : Nat) : List Nat :=
  (s.dirPorts d dist).filter (fun k => s.portUp k && !s.portFenced k)

/-- pick of R410. -/
def pickPort (cand : List Nat) (src dst : Nat) : Hop :=
  match cand[(src + dst) % (if cand.length = 0 then 1 else cand.length)]? with
  | some k => .port k
  | none => .unreachable

/-- The candidates of one try of R410: direction `d`, remaining distance `dist`. -/
def State.hopCands (s : State) (d dist : Nat) : List Nat :=
  let gone (k : Nat) := s.nodeGone (stepCode s.axis s.selfCode d k)
  let cand :=
    if 2 ≤ dist ∧ gone 1 = true then s.upPorts d 2
    else if dist = 1 ∧ gone 1 = true then []
    else s.upPorts d 1
  if cand = [] ∧ 2 ≤ dist ∧ gone 2 = false then s.upPorts d 2 else cand

/-- The next hop of a packet (R410). -/
def State.route (s : State) (src dst : Nat) : Hop :=
  if addrCode dst = s.selfCode then
    if addrNode dst then .service
    else pickPort ((s.epPorts (addrN dst)).filter (fun k => s.portUp k && !s.portFenced k)) src dst
  else
    match (List.range 4).find? (fun a => codeCoord dst a ≠ s.coord a) with
    | none => .unreachable
    | some a =>
      let m := s.axis a
      let f := (codeCoord dst a + m - s.coord a) % (if m = 0 then 1 else m)
      let (d, dist) := if f < m - f then (2 * a, f) else (2 * a + 1, m - f)
      let o := if d % 2 = 0 then d + 1 else d - 1
      let c1 := s.hopCands d dist
      if c1 ≠ [] then pickPort c1 src dst else pickPort (s.hopCands o (m - dist)) src dst

/-- The VC of a packet on its next hop (R411): the lower one on entering an axis, the upper one from the wrap link on. -/
def State.hopVc (s : State) (ingress : Option Nat) (egress vc : Nat) : Nat :=
  let low := vc / 2 * 2
  if isEndpoint egress then low
  else
    let d := dirOf egress
    let stays := match ingress with
      | some k => !isEndpoint k && dirOf k / 2 == d / 2
      | none => false
    let c := s.coord (d / 2)
    let n := codeCoord (s.portReach egress) (d / 2)
    let wraps := if d % 2 = 0 then decide (n < c) else decide (c < n)
    if wraps then low + 1 else if stays then vc else low

/-! ### ACKs -/

/-- The FWD entry that an ACK on port `k` for stream `x` matches (R406). -/
def State.ackEntry (s : State) (k x : Nat) : Option (Nat × Label) :=
  let m := s.mand
  match (List.range (leAt m 0 4)).find? (fun l =>
    match mandEntry m l with
    | some e => e.act == 1 && !e.isLocal &&
        (if s.fab.altEnt.contains l then e.altPort == k && e.b % 2 ^ 20 == x else e.port == k && e.a % 2 ^ 20 == x)
    | none => false) with
  | some l => (mandEntry m l).map (fun e => (l, e))
  | none => none

/-- ACK is received (R339, R341, R342, R406): it advances a sending stream of this node, or is relayed toward the sender, or is
discarded. -/
def State.ackRx (s : State) (k body : Nat) : State :=
  let stream := body / 2 ^ 8 % 2 ^ 20
  let lbl := body / 2 ^ 28 % 2 == 1
  let vc := body / 2 ^ 29 % 8
  let next := body / 2 ^ 32 % 2 ^ 16
  let nak := body / 2 ^ 48 % 2 == 1
  let room := body / 2 ^ 49 % 2 ^ 16
  let s := if nak then s.inc (LK_NAK k) else s
  if lbl then
    match s.fab.txs.find? (fun x => x.port == k && x.lbl && x.key == stream && x.vc == vc && !x.failed) with
    | some x => s.ackStream x next nak room
    | none =>
      match s.ackEntry k stream with
      | some (l, e) => s.queueAck e.inPort l true vc next nak room
      | none => s
  else
    if addrNode stream && addrCode stream == s.selfCode then
      match s.fab.txs.find? (fun x => !x.lbl && x.vc / 2 == vc / 2 && !x.failed) with
      | some x => s.ackStream x next nak room
      | none => s
    else match s.route (s.selfCode + 2 ^ 19) stream with
      | .port j => s.queueAck j stream false vc next nak room
      | _ => s

/-! ### Discards -/

/-- The first discard since the apply is captured, with an SW note (R398, R423). -/
def State.rtFirst (s : State) (cause k : Nat) : State :=
  if s.bit RT_FIRST_VALID then s
  else
    let s := ((s.wr RT_FIRST_CAUSE cause).wr RT_FIRST_PORT k).wrBit RT_FIRST_VALID true
    s.fault .sw 0 cause (mPort k) 4

/-- A label flit is discarded (R398, R403). -/
def State.rejLabel (s : State) (cause k : Nat) : State := (s.inc RT_LREJ).rtFirst cause k

/-- A packet flit is discarded (R398, R408, R409). -/
def State.rejPacket (s : State) (cause k : Nat) : State := (s.inc RT_PREJ).rtFirst cause k

end Sys2Proof.Machine
end

