-- ==== Sys2Proof/Machine/DetLog.lean ====
section
/-! DEFINITION. The input and output sums (R492), and what the replay log does with an accepted item (R501 to R504, R507). -/

namespace Sys2Proof.Machine

/-- h of R492 as a number: port code, 16 header bytes, payload. -/
def sumHash (p : Nat) (head data : List Byte) : Nat := ofLeBytes (sha256 (leBytes 2 p ++ head ++ data))

/-- Add an item to the input sum. -/
def State.addIn (s : State) (p : Nat) (head data : List Byte) : State :=
  { s with det := { s.det with insum := (s.det.insum + sumHash p head data) % 2 ^ 256 } }

/-- Add an item to the output sum. -/
def State.addOut (s : State) (p : Nat) (head data : List Byte) : State :=
  { s with det := { s.det with outsum := (s.det.outsum + sumHash p head data) % 2 ^ 256 } }

/-- The log's base and size in bytes (R509). -/
def State.logBase (s : State) : Nat := s.rd64 DET_LBASE_LO / 2 ^ 20 % 2 ^ 20 * 2 ^ 20
def State.logSize (s : State) : Nat := s.rd DET_LSIZE_SIZE * 2 ^ 20

/-- Whether the log lies in HBM outside every reserved region (R509). -/
def State.logOk (s : State) : Bool :=
  let n := s.logSize
  decide (1 ≤ s.rd DET_LSIZE_SIZE ∧ s.rd DET_LSIZE_SIZE ≤ 65536 ∧ s.logBase + n ≤ hbmEnd) &&
    !(s.reserved.any (meets s.logBase n))

/-- A port is recorded, replayed and verified (R501): every port under SCOPE 1, endpoint ports and host ports under SCOPE 0. -/
def State.detPort (s : State) (p : Nat) : Bool := decide (256 ≤ p) || isEndpoint p || s.bit DET_RCTL_SCOPE

/-- Entries are lost: a gap begins or goes on, and the first one is reported (R504). -/
def State.logLost (s : State) (n : Nat) : State :=
  let first := !s.det.gapNoted
  let s := (s.addSat DET_LOST n).raise DET_STAT_GAP
  let (k, at') := s.det.gap.getD (0, s.rd64 TG_SEAM_LO)
  let s := { s with det := { s.det with gap := some (k + n, at'), gapNoted := true } }
  if first then s.fault .sw 1 0 mNone else s

/-- A gap ends, with the next entry or with recording: it is hallmarked with the entries lost (R504, R553; log 62). -/
def State.logGap (s : State) : State :=
  match s.det.gap with
  | none => s
  | some (k, at') =>
    ({ s with det := { s.det with gap := none } }).hall 0x18 (leBytes 4 k ++ leBytes 4 0 ++ leBytes 8 at')

/-- The log is full: recording stops (R504). -/
def State.recordFull (s : State) : State :=
  ({ s.logGap with det := { s.logGap.det with logDone := true } }.raise DET_STAT_FULL).fault .sw 1 0 mNone

/-- The bytes of a log entry without its payload (R502). -/
def logEntry (tick : Nat) (head : List Byte) (port flag pdig : Nat) : List Byte :=
  leBytes 8 tick ++ slice head 0 16 ++ leBytes 2 port ++ [BitVec.ofNat 8 flag, 0] ++ leBytes 4 pdig

/-- One entry is written, after the head and around it again under WRAP (R502, R504). -/
def State.logWrite (s : State) (tick : Nat) (head : List Byte) (port : Nat) (data : Option (List Byte)) (pdig : Nat) : State :=
  let flag := (if data.isSome then 1 else 0) + (if s.det.gap.isSome then 2 else 0)
  let bs := logEntry tick head port flag pdig ++ data.getD []
  let cap := s.logSize - 256
  let wrap := s.bit DET_RCTL_WRAP
  if s.det.logDone then s
  else if cap < s.det.pos + bs.length ∧ !wrap then s.recordFull
  else
    let pos := if cap < s.det.pos + bs.length then 0 else s.det.pos
    let (_, s) := s.memWrite mNone (s.logBase + 256 + pos) bs
    let s := s.logGap
    { s with det := { s.det with pos := pos + bs.length } }.add64 DET_LPOS_LO bs.length

/-- The log entry at a place past the head: its head bytes, port, flags, payload digest and length. -/
def State.logAt (s : State) (pos : Nat) : List Byte × Nat × Nat × Nat × Nat :=
  let b := s.bytesAt (s.logBase + 256 + pos) 32
  let fl := leAt b 26 1
  (slice b 8 16, leAt b 24 2, fl, leAt b 28 4, 32 + (if fl % 2 = 1 then 256 else 0))

/-- The next entry of a port from a place on (R507). -/
def State.logFind (s : State) (port : Nat) : Nat → Nat → Option Nat
  | 0, _ => none
  | fuel + 1, pos =>
    if s.logSize - 256 < pos + 32 then none
    else
      let (_, p, _, _, n) := s.logAt pos
      if p = port then some pos else State.logFind s port fuel (pos + n)

/-- A header with STAMP, CMARK and HCRC masked (R507). -/
def maskHead (h : List Byte) : List Byte :=
  (h.zipIdx).map (fun b => if b.2 = 7 ∨ 8 ≤ b.2 then 0 else if b.2 = 0 then b.1 &&& 0xBF else b.1)

/-- The first difference of a port (R507): an SW note, comparison of the port stops, and the first of all is captured (log 62). -/
def State.diverge (s : State) (port : Nat) : State :=
  let s := { s with det := { s.det with stopped := port :: s.det.stopped } }
  let s := (s.raise DET_STAT_DIVERGED).fault .sw 0 0 mNone
  if s.bit DET_DIV_VALID then s
  else ((s.wr DET_DIV_PORT port).wrBit DET_DIV_VALID true).wr64 DET_DIVSEAM_LO (s.rd64 TG_SEAM_LO)

/-- Verify mode compares an accepted item with the next log entry of its port (R507). -/
def State.logVerify (s : State) (port : Nat) (head data : List Byte) (flit : Bool) : State :=
  if s.det.stopped.contains port then s
  else
    let frm := ((s.det.vpos.find? (fun e => e.1 == port)).map (·.2)).getD 0
    let same (pos : Nat) : Bool :=
      let (h, _, _, d, _) := s.logAt pos
      (if flit then maskHead h == maskHead head else h == head) && d == touchCrc 0 data
    let setPos (v : Nat) : List (Nat × Nat) := (s.det.vpos.filter (fun e => e.1 ≠ port)) ++ [(port, v)]
    match s.logFind port (s.logSize / 32) frm with
    | some pos =>
      if same pos then
        let (_, _, _, _, n) := s.logAt pos
        ({ s with det := { s.det with vpos := setPos (pos + n) } }).add64 DET_LPOS_LO n
      else s.diverge port
    | none => s.diverge port

/-- An item is accepted on a port (R492, R503, R507): the input sum of endpoint and host ports, then the log. `head` is the flit
header as received or the address and length of a host write, `room` whether the log could take it (R504). -/
def State.accept (s : State) (port : Nat) (sumHead head data : List Byte) (flit room : Bool) : State :=
  let s := if 256 ≤ port ∨ isEndpoint port = true then s.addIn port sumHead data else s
  if s.detPort port = false then s
  else
    match s.rd DET_STAT_MODE with
    | 1 =>
      let n := s.rd64 TG_SEAM_LO
      let pay := s.bit DET_RCTL_PAYLOAD && decide (s.rd64 DET_FFROM_LO ≤ n ∧ n < s.rd64 DET_FTO_LO)
      if room then s.logWrite s.now head port (if pay then some data else none) (touchCrc 0 data)
      else if s.det.logDone then s else s.logLost 1
    | 3 => s.logVerify port head data flit
    | _ => s

/-- A flit is accepted. -/
def State.acceptFlit (s : State) (k : Nat) (f : Flit) (room : Bool) : State :=
  s.accept k f.sumHeader f.header f.data true room

end Sys2Proof.Machine
end

