-- ==== Sys2Proof/Machine/Time.lean ====
section
/-! DEFINITION. The time grid (03): following the parent, link delays, PPS and time of day, and the barrier start. -/

namespace Sys2Proof.Machine

/-! ### Registers that hold signed values -/

/-- A signed value in 32 bits. -/
def toWord32 (v : Int) : Nat := (v % 2 ^ 32).toNat

/-- Clamp a value to plus or minus `n`. -/
def clampInt (n v : Int) : Int := max (-n) (min n v)

/-- The slew of a first-order loop with time constant 2^20 ticks, in parts per billion, at most 100 ppm (R80, R85; the law of
the loop is DEDUCED from its time constant, log 13). -/
def slewOf (offset : Int) : Int := clampInt 100000 (offset * 1000000000 / 2 ^ 26)

/-! ### Following the parent -/

/-- The offset of a cast node beyond 16 ticks (R86). -/
def State.offsetCheck (s : State) (o : Int) : State :=
  let beyond := decide (1024 < o.natAbs)
  if s.inForce && beyond && !s.tg.offLost then
    let s := { s with tg := { s.tg with offLost := true } }
    (s.wrBit TG_STATUS_TIMING_LOST true).fault .time 1 0 mTime
  else { s with tg := { s.tg with offLost := s.tg.offLost && beyond } }

/-- A barrier word from the port that the node takes time from: sync state, counter, offset, slew, hops (R80, R81, R85, R86). -/
def State.followParent (s : State) (k hops : Nat) (o : Int) : State :=
  let s := (s.setTimePort k).wr TG_STATUS_HOPS (min 31 (hops + 1))
  let sync := s.rd TG_STATUS_SYNC
  let uncast := s.nodeState == stUncast
  let sync := if sync = syLocked then (if uncast && decide (4096 < o.natAbs) then syAcquire else syLocked) else syAcquire
  -- the words in ACQUIRE whose offset is within 0.25 tick
  let run := if sync = syAcquire ∧ o.natAbs ≤ 16 then s.tg.lockRun + 1 else 0
  let locked := decide (1024 ≤ run)
  -- a step is whole ticks forward, in ACQUIRE while UNCAST only
  let step := if sync = syAcquire ∧ uncast = true ∧ 0 < o then o.toNat / 64 else 0
  let o : Int := o - 64 * step
  let s := if step = 0 then s else s.at (s.now + step)
  let s := { s with tg := { s.tg with lockRun := if locked then 0 else run } }
  let s := s.wr TG_STATUS_SYNC (if locked then syLocked else sync)
  let s := (s.wr TG_OFFSET (toWord32 o)).wr TG_SLEW (toWord32 (slewOf o))
  s.offsetCheck o

/-! ### Link delays -/

/-- A link delay is recorded, in 1/64 tick (R88); above the reach the port goes down with cause REACH (R350). -/
def State.recordDelay (s : State) (k : Nat) (d : Int) : State :=
  let v := (d / 2).toNat
  let p := s.port k
  let s := s.setPort k { p with measAt := some s.now }
  let s := (s.wr (TG_LDLY_DELAY k) (min v (2 ^ 30 - 1))).wrBit (TG_LDLY_VALID k) true
  if 64 * (8 * s.rd (LK_CFG_REACH k) + 64) < v then s.portDown k 11 else s

/-- LDLY_MEASURE: the two-way exchange of a fabric link, with its four stamps in 1/64 tick (R88). -/
def State.ldlyMeasure (s : State) (k t1 t2 t3 t4 : Nat) : State :=
  if 4 ≤ s.rd (LK_STAT_STATE k) then s.recordDelay k ((t4 : Int) - t1 - ((t3 : Int) - t2)) else s

def execLdlyMeasure (t k t1 t2 t3 t4 : Nat) (s : State) : Host.Outcome State Fault Refusal :=
  .next ((s.at t).ldlyMeasure k t1 t2 t3 t4)

/-- Whether a measurement is due: none since the link came up, or 2^24 ticks passed (R88). -/
def State.measureDue (s : State) (k : Nat) : Bool :=
  !s.bit (TG_LDLY_VALID k) || (match (s.port k).measAt with | none => true | some m => decide (m + 2 ^ 24 ≤ s.now))

/-- BARRIER is received at `arr`, in 1/64 tick (R85, R88, R337). -/
def State.barrierRx (s : State) (k body arr : Nat) : State :=
  let f (lo n : Nat) := body / 2 ^ lo % 2 ^ n
  let p := s.port k
  let s := s.setPort k { p with rxBar := some (f 15 3, arr) }
  let s :=
    if f 21 1 = 1 ∧ s.measureDue k = true then
      match p.sentAt.find? (fun e => e.1 == f 18 3) with
      | some (_, t1) => s.recordDelay k ((arr : Int) - t1 - f 92 26)
      | none => s
    else s
  if s.follows && s.timePort == some k then
    s.followParent k (f 10 5) ((f 22 70 : Int) + s.rd (TG_LDLY_DELAY k) - arr)
  else s

/-- TIMEINFO is received from the port that the node takes time from (R84, R337). -/
def State.timeinfoRx (s : State) (k body : Nat) : State :=
  if s.follows && s.timePort == some k then
    let tai := body / 2 ^ 72 % 2 ^ 48
    { s with tg := { s.tg with phase := some (body / 2 ^ 8 % 2 ^ 64), tai := if tai = 0 then none else some tai } }
  else s

/-- TECHO is received at `arr` (R338). -/
def State.techoRx (s : State) (k body arr : Nat) : State :=
  let eseq := body / 2 ^ 8 % 8
  if isEndpoint k then
    match (s.port k).sentAt.find? (fun e => e.1 == eseq) with
    | some (_, t1) => s.recordDelay k ((arr : Int) - t1 - (body / 2 ^ 11 % 2 ^ 26 : Nat))
    | none => s
  else s

/-! ### PPS and time of day -/

/-- The root follows PPS_IN: FLAGS[1] of the Casting that named it (R41, R87; log 12). -/
def State.ppsRoot (s : State) : Bool := s.isRoot && s.tg.pps

/-- Ticks between PPS edges. -/
def ppsTicks : Nat := 1600000000

/-- PPS_IN_EDGE (R87): the edge is the new phase, and its TAI seconds follow from those of the last one. How the slew follows from the
interval is the model's choice (DESIGN CHOICE, log 75): the slew before, less the interval's error in parts per billion. -/
def State.ppsIn (s : State) : State :=
  if s.ppsRoot then
    let s := match s.tg.ppsEdge with
      | some e =>
        let cur : Int := (BitVec.ofNat 32 (s.rd TG_SLEW)).toInt
        s.wr TG_SLEW (toWord32 (clampInt 100000 (cur - ((s.now - e : Nat) - (ppsTicks : Int)) * 10 / 16)))
      | none => s
    let past := s.now - s.tg.phase.getD s.now
    let tai := s.tg.tai.map (fun v => v + (past + ppsTicks / 2) / ppsTicks)
    let s := { s with tg := { s.tg with ppsEdge := some s.now, phase := some s.now, tai := tai } }
    (s.wrBit TG_STATUS_PPS_OK true).wr TG_STATUS_SYNC syLocked
  else s

def execPpsInEdge (t : Nat) (s : State) : Host.Outcome State Fault Refusal := .next (s.at t).ppsIn

/-- PPS_IN_LOSS: no edge for 2 s (R87). -/
def State.ppsLoss (s : State) : State :=
  let since := s.tg.ppsEdge.getD (s.rd64 CST_SINCE_LO)
  if s.ppsRoot && decide (since + 2 * ppsTicks ≤ s.now) && s.rd TG_STATUS_SYNC != syHoldover then
    ((s.wrBit TG_STATUS_PPS_OK false).wr TG_STATUS_SYNC syHoldover).fault .time 1 0 mTime
  else s

def execPpsInLoss (t : Nat) (s : State) : Host.Outcome State Fault Refusal := .next (s.at t).ppsLoss

/-- The root's PPS phase, 0 when the root has none (R87). -/
def State.phase (s : State) : Nat := s.tg.phase.getD 0

/-- Whether PPS_OUT may pulse (R91). -/
def State.ppsMay (s : State) : Bool := s.bit TG_CTRL_PPS_OUT_EN && (s.rd TG_STATUS_SYNC != syFree || s.isRoot)

/-- PPS_OUT is low where it may not pulse (R91). -/
def State.ppsGate (s : State) : State := if s.ppsMay then s else { s with tg := { s.tg with ppsHigh := none } }

/-- PPS_OUT_START: a tick that lies a multiple of 1,600,000,000 from the phase (R91). -/
def State.ppsOutStart (s : State) : State :=
  let on := s.ppsMay
  if ((s.now : Int) - s.phase) % ppsTicks = 0 ∧ s.tg.ppsHigh = none ∧ on = true then
    let tai := (s.tg.tai.map (· + (s.now - s.phase) / ppsTicks)).getD 0
    let s := { s with tg := { s.tg with ppsHigh := some s.now, todDue := some s.now } }
    (s.wr64 TG_PPS_TICK_LO s.now).wr64 TG_PPS_TAI_LO tai
  else s

def execPpsOutStart (t : Nat) (s : State) : Host.Outcome State Fault Refusal := .next (s.at t).ppsOutStart

/-- PPS_OUT_END: 1,600,000 ticks later (R91). -/
def State.ppsOutEnd (s : State) : State :=
  match s.tg.ppsHigh with
  | some p => if p + 1600000 ≤ s.now then { s with tg := { s.tg with ppsHigh := none } } else s
  | none => s

def execPpsOutEnd (t : Nat) (s : State) : Host.Outcome State Fault Refusal := .next (s.at t).ppsOutEnd

/-- A TOD frame (R92). -/
def todFrame (flags tai tick : Nat) : List Byte :=
  let b := [0x54, 0x44, 1, BitVec.ofNat 8 flags] ++ leBytes 8 tai ++ leBytes 8 tick ++ [0, 0]
  b ++ leBytes 2 (touchCrc 3 b)

/-- TOD_OUT_FRAME: between 10 ms and 500 ms after a pulse begins (R92). -/
def State.todOut (s : State) : State :=
  match s.tg.todDue with
  | none => s
  | some p =>
    if s.bit TG_CTRL_TOD_OUT_EN && decide (p + 16000000 ≤ s.now ∧ s.now ≤ p + 800000000) then
      let tai := s.rd64 TG_PPS_TAI_LO
      let fl := (if tai = 0 then 0 else 1) + (if s.rd TG_STATUS_SYNC = syLocked ∨ s.isRoot = true then 2 else 0)
      let s := { s with tg := { s.tg with todDue := none } }
      s.out (.tod (todFrame fl tai p))
    else s

def execTodOutFrame (t : Nat) (s : State) : Host.Outcome State Fault Refusal := .next (s.at t).todOut

/-- TOD_IN_FRAME: a frame with a wrong TMAGIC or CRC is counted; a good one gives the root its TAI seconds (R87, R92). -/
def State.todIn (s : State) (fr : List Byte) : State :=
  if leAt fr 0 2 ≠ 0x4454 ∨ leAt fr 22 2 ≠ touchCrc 3 (slice fr 0 22) then s.inc TG_TOD_BAD
  else if s.ppsRoot && leAt fr 3 1 % 2 == 1 then { s with tg := { s.tg with tai := some (leAt fr 4 8) } }
  else s

def execTodInFrame (t : Nat) (fr : List Byte) (s : State) : Host.Outcome State Fault Refusal := .next ((s.at t).todIn fr)

/-- REF_IN_LOSS: the reference stopped for more than 10 µs, so the node is quenched. -/
def State.refLoss (s : State) : State := s.fault .time 3 0 mTime

def execRefInLoss (t : Nat) (s : State) : Host.Outcome State Fault Refusal := .next (s.at t).refLoss

/-! ### Barrier start -/

/-- The SEAM section in force (R97). -/
def State.seamSect (s : State) : List Byte := sect s.cst.img tySEAM
def seamBase (m : List Byte) : Nat := leAt m 0 8
def seamEntries (m : List Byte) : Nat := leAt m 8 4
def seamMode (m : List Byte) : Nat := leAt m 12 4
def seamStartTick (m : List Byte) : Nat := leAt m 16 8
/-- Entry i: LENGTH, REPEAT, EFLAGS. -/
def seamEntry (m : List Byte) (i : Nat) : Nat × Nat × Nat :=
  (leAt m (32 + 16 * i) 8, leAt m (40 + 16 * i) 4, leAt m (44 + 16 * i) 4)

/-- The first 4 bytes of the SHA-384 digest of the SEAM section, byte 0 lowest (R93, R336). -/
def State.seamDigest (s : State) : Nat := leAt (sha384 s.seamSect) 0 4

/-- The children of this node: the uncut nodes whose parent it is (R82, R93). -/
def State.children (s : State) : List Nat :=
  let cuts := imgCuts s.cst.img
  let cand := (List.range 8).flatMap (fun d => [stepCode s.axis s.selfCode d 1, stepCode s.axis s.selfCode d 2])
  (cand.filter (fun c => c != s.selfCode && !cuts.contains c &&
    parentCode s.axis cuts c s.rootCode == some s.selfCode)).eraseDups

/-- The parent of this node (R82). -/
def State.parent (s : State) : Option Nat := parentCode s.axis (imgCuts s.cst.img) s.selfCode s.rootCode

/-- A barrier event is queued on the first port that reaches a node (R336, R337). -/
def State.sendEvent (s : State) (node evt arg : Nat) : State :=
  match fabricPorts.find? (fun k => decide (4 ≤ s.rd (LK_STAT_STATE k)) && s.portReach k == node) with
  | some k => s.queueSym k 2 3 (evt * 2 ^ 8 + arg % 2 ^ 64 * 2 ^ 16)
  | none => s

/-- The READY kept from a node. -/
def State.readyOf (s : State) (c : Nat) : Option Ready := s.tg.readies.find? (fun r => r.node == c)

/-- The first epoch, or the one after a hold, is still to begin (R93, R498). -/
def State.awaitsStart (s : State) : Bool :=
  s.nodeState == stCast && !s.quenched && s.tg.start.isNone &&
    (!s.bit TG_STATUS_STARTED || s.tg.continuing)

/-- A node that is ready (R93): for the first epoch in START_MODE 0 (R96), and after CONTINUE in either (R498). -/
def State.isReady (s : State) : Bool :=
  s.awaitsStart && (seamMode s.seamSect == 0 || s.tg.continuing) &&
  (s.isRoot || s.rd TG_STATUS_SYNC == syLocked) &&
  s.children.all (fun c => match s.readyOf c with | some r => r.dig == s.seamDigest | none => false)

/-- The entry of the epoch `i` epochs after the first one, walking the entries from `e` (R97): LENGTH and EFLAGS; none in the final
epoch without end (R101). -/
def epochFrom (m : List Byte) : Nat → Nat → Nat → Option (Nat × Nat)
  | 0, _, _ => none
  | n + 1, e, i =>
    let (len, rep, fl) := seamEntry m e
    if rep = 0 ∨ i < rep then some (len, fl) else epochFrom m n (e + 1) (i - rep)

/-- The epoch with seam count `n` (R99). -/
def epochOf (m : List Byte) (n : Nat) : Option (Nat × Nat) := epochFrom m (seamEntries m) 0 (n - seamBase m)

/-- TG_NEXT where no seam is scheduled (R111). -/
def noSeam : Nat := 2 ^ 64 - 1

/-- The seam that ends the epoch which begins at tick `start` is scheduled (R71, R99). -/
def State.schedule (s : State) (start : Nat) : State :=
  s.wr64 TG_NEXT_LO (match epochOf s.seamSect (s.rd64 TG_SEAM_LO) with | some (len, _) => start + len | none => noSeam)

/-- START is forwarded to the children, and the kept READY events end (R93); the start tick schedules the first seam (R71). -/
def State.forwardStart (s : State) (start : Nat) : State :=
  let s := (s.children.foldl (fun s c => s.sendEvent c 2 start) s).schedule start
  { s with tg := { s.tg with readies := [], sentReady := false, start := some start } }

/-- NODE_READY: a ready node sends READY to its parent; the ready root chooses the start tick (R93). -/
def State.nodeReady (s : State) : State :=
  if s.isReady && !s.tg.sentReady then
    if s.isRoot then
      let lead := s.rd TG_BAR_LEAD
      s.forwardStart (s.now + (if lead = 0 then 4096 else lead))
    else match s.parent with
      | some c => ({ s with tg := { s.tg with sentReady := true } }).sendEvent c 1 s.seamDigest
      | none => s
  else s

def execNodeReady (t : Nat) (s : State) : Host.Outcome State Fault Refusal := .next (s.at t).nodeReady

/-- A child's READY is judged against the node's own SEAM digest (R94). -/
def State.judgeReady (s : State) (r : Ready) : State :=
  if s.inForce && s.children.contains r.node && r.dig != s.seamDigest then s.fault .cast 1 0 mCast else s

/-- READY arrives on port `k` with a digest (R93, R94): kept per sending node; discarded from a node that is no child. -/
def State.readyRx (s : State) (k dig : Nat) : State :=
  let c := s.portReach k
  if isEndpoint k || (s.inForce && !s.children.contains c) then s
  else
    let r : Ready := ⟨c, k, dig⟩
    let s := { s with tg := { s.tg with readies := s.tg.readies.filter (fun (x : Ready) => decide (x.node ≠ c)) ++ [r] } }
    s.judgeReady r

/-- START arrives on port `k` (R95): taken only from the parent, after this node has sent READY. -/
def State.startRx (s : State) (k start : Nat) : State :=
  if !isEndpoint k && s.parent == some (s.portReach k) && s.tg.sentReady then s.forwardStart start
  else if s.tg.ignoredNoted || !s.inForce then s
  else ({ s with tg := { s.tg with ignoredNoted := true } }).fault .time 0 0 mTime

/-- A BAREVT symbol (R336). -/
def State.barevtRx (s : State) (k body : Nat) : State :=
  match body / 2 ^ 8 % 4 with
  | 1 => s.readyRx k (body / 2 ^ 16 % 2 ^ 32)
  | 2 => s.startRx k (body / 2 ^ 16 % 2 ^ 64)
  | _ => s

end Sys2Proof.Machine
end

