-- ==== Sys2Proof/Machine/Tx.lean ====
section
/-! DEFINITION. The sending side of a port: control positions, idle slots, the choice of a flit (R326 to R330, R371 to R376,
R438 to R440), and what the node's own units inject (R339, R374, R407). -/

namespace Sys2Proof.Machine

/-! ### Control traffic -/

/-- Ticks of a frame, rounded up: 298.18 ns with Light FEC, 306.02 ns with Heavy (R328). -/
def State.frameTicks (s : State) (k : Nat) : Nat := if s.heavy k then 490 else 478

/-- The node remembers the departures of its last eight measurement words. -/
def Port.sentWord (p : Port) (at64 : Nat) : Port :=
  { p with barSeq := (p.barSeq + 1) % 128
           sentAt := (p.sentAt.filter (fun e => e.1 ≠ p.barSeq % 8)) ++ [(p.barSeq % 8, at64)] }

/-- A BARRIER leaves at `at64`, in 1/64 tick (R84, R337): it answers the partner's last one; TIMEINFO is queued after every
sixteenth. -/
def State.sendBarrier (s : State) (k at64 : Nat) : State :=
  let p := s.port k
  let (ev, eseq, turn) := match p.rxBar with
    | some (q, a) => (1, q, (at64 - a) % 2 ^ 26)
    | none => (0, 0, 0)
  let hops := if s.isRoot then 0 else s.rd TG_STATUS_HOPS
  let body := s.rd TG_STATUS_SYNC * 2 ^ 8 + hops * 2 ^ 10 + p.barSeq % 8 * 2 ^ 15 + eseq * 2 ^ 18 + ev * 2 ^ 21 +
    at64 % 2 ^ 70 * 2 ^ 22 + turn * 2 ^ 92
  let s := (s.setPort k { p.sentWord at64 with rxBar := none }).sendSym k 1 body
  if (p.barSeq + 1) % 16 = 0 then
    s.queueSym k 2 2 (s.phase % 2 ^ 64 * 2 ^ 8 + s.tg.tai.getD 0 % 2 ^ 48 * 2 ^ 72)
  else s

/-- A TIME symbol leaves (R90, R338). -/
def State.sendTime (s : State) (k at64 : Nat) : State :=
  let p := s.port k
  let body := s.rd TG_STATUS_SYNC * 2 ^ 8 + p.barSeq % 8 * 2 ^ 10 + (if s.bit (TG_LDLY_VALID k) then 2 ^ 13 else 0) +
    at64 % 2 ^ 70 * 2 ^ 14 + s.rd (TG_LDLY_DELAY k) % 2 ^ 26 * 2 ^ 84 + s.epochTag * 2 ^ 110
  (s.setPort k (p.sentWord at64)).sendSym k 4 body

/-- Up to `n` queued symbols leave; IDLE fills the rest (R326, R330). -/
def State.sendQueued (s : State) (k n : Nat) : State :=
  let p := s.port k
  let (out, rest) := ctrlTake n p.ctrl
  let s := s.setPort k { p with ctrl := rest }
  let s := out.foldl (fun s c => s.sendCtrl k c) s
  (List.range (n - out.length)).foldl (fun s _ => s.sendSym k 0 0) s

/-- Whether the stream of units runs on a port: from IDENT on, while its transmitter sends it (R318, R323, R346). -/
def State.streams (s : State) (k : Nat) : Bool := decide (4 ≤ s.rd (LK_STAT_STATE k)) && s.txOn k

/-- CONTROL_POSITION: the symbol of the frame's control position, each 2,024th unit (R326), which leaves `sub` 1/64 ticks past the tick
(R329). -/
def State.controlPosition (s : State) (k sub : Nat) : State :=
  if s.streams k = true ∧ (s.port k).txUnit % 2024 = 0 then
    let f := (s.port k).frame
    let at64 := 64 * s.now + sub % 64
    if isEndpoint k then (if f % 8 = 0 then s.sendTime k at64 else s.sendQueued k 1)
    else if f % 2 = 0 then s.sendBarrier k at64 else s.sendQueued k 1
  else s


/-- An idle slot: 17 control symbols (R326). -/
def State.idleSlot (s : State) (k : Nat) : State := (s.out (.idle k)).sendQueued k 17

/-- A symbol that entered the queue a frame ago still waits (R330). -/
def State.mustIdle (s : State) (k : Nat) : Bool :=
  (s.port k).ctrl.any (fun c => decide (c.since + s.frameTicks k ≤ s.now))

/-- Whether the next unit of a port begins a slot (R326). -/
def State.atSlot (s : State) (k : Nat) : Bool := (s.port k).txUnit % 2024 != 0

/-- FORCED_IDLE_SLOT (R330). -/
def State.forcedIdle (s : State) (k : Nat) : State :=
  if s.streams k && s.atSlot k && s.mustIdle k then s.idleSlot k else s

def execForcedIdleSlot (t k : Nat) (s : State) : Host.Outcome State Fault Refusal := .next ((s.at t).forcedIdle k)

/-! ### Queues and lists -/

/-- Replace a queue of a port. -/
def Port.setQueue (p : Port) (q : Nat) (l : List QEnt) : Port := { p with queues := p.queues.set q l }

/-- The entries of the packet at the tail of a list of flits: back to the one with FIDX 0. -/
def lastOf {α : Type} (flit : α → Flit) (l : List α) : List α :=
  let r := l.reverse
  let body := r.takeWhile (fun e => decide ((flit e).fidx ≠ 0))
  (body ++ (r.drop body.length).take 1).reverse

/-- The entries of the packet at the tail of a queue. -/
def lastPacket (l : List QEnt) : List QEnt := lastOf QEnt.flit l

/-- The list of a port that counts for guard bands: the one in force (R424, R429). -/
def Port.closes (p : Port) (q : Nat) : Bool := match p.glist with | some g => hasClosing g.ents q | none => false

/-- The longest open run of a queue in the list in force (R431). -/
def Port.longestRun (p : Port) (q : Nat) : Nat :=
  match p.glist with | some g => (cyclicRuns g.ents q).foldl max 0 | none => 0

/-- An oversize packet is counted and captured (R431). -/
def State.countOversize (s : State) (k q : Nat) : State :=
  let s := s.inc (GT_OVERSIZE k)
  if s.bit GT_FIRST_VALID then s
  else
    let s := (((s.wr GT_FIRST_CAUSE 2).wr GT_FIRST_QUEUE q).wr GT_FIRST_PORT k).wrBit GT_FIRST_VALID true
    s.fault .sw 0 2 (mPort k)

/-- What goes of a list whose last flit belongs to an oversize packet: the packet so far, or that flit alone past MAXF, where the others
have gone (R431). -/
def oversizeTail {α : Type} (flit : α → Flit) (maxf : Nat) (l : List α) : List α :=
  if l.getLast?.any (fun e => decide (maxf < (flit e).fidx)) then l.drop (l.length - 1) else lastOf flit l

/-- An oversize packet is dropped whole, those of its flits that have yet to arrive among them (R431). -/
def State.dropOversize (s : State) (k q : Nat) (f : Flit) : State :=
  let p := s.port k
  let l := p.queues.getD q []
  let gone := oversizeTail QEnt.flit (s.maxf k q) l
  let s := s.setPort k (p.setQueue q (l.take (l.length - gone.length)))
  let s := gone.foldl (fun s e => s.releaseEnt k q e.cell) s
  let its (o : OpenPkt) : Bool := o.egress == some k && o.vc == q &&
    gone.any (fun e => e.flit.lbl == o.lbl && e.flit.epoch == o.epoch && e.flit.stamp == o.stamp)
  let s := allPorts.foldl (fun s j =>
    let r := s.port j
    match r.openRx with
    | some o => if its o then s.setPort j { r with openRx := some { o with drop := some .oversize } } else s
    | none => s) s
  if f.fidx ≤ s.maxf k q then s.countOversize k q else s

/-- Whether the flit that entered a queue last shows its packet, of `n` flits so far, to be oversize (R431). -/
def State.oversize (s : State) (k q n : Nat) (f : Flit) : Bool :=
  let p := s.port k
  p.closes q && (decide (s.maxf k q ≤ f.fidx) || (f.last && decide (p.longestRun q < packetTime (s.heavy k) n)))

/-- The copies of a packet on port `k`, with label `o`, of a die's multicast list are dropped with flit `f`, where it shows the packet to
be oversize; each later flit of the packet goes the same way, and the first one counts (R431). -/
def State.dropMulti (s : State) (d k o : Nat) (f : Flit) : State :=
  let q := f.vc
  let mine (m : MEnt) : Bool := m.cell.1 == d && m.flit.vc == q && m.flit.lbl == f.lbl && m.flit.epoch == f.epoch &&
    m.flit.stamp == f.stamp && m.pend.any (fun x => x.1 == k && x.2.1 == o)
  let gone := oversizeTail MEnt.flit (s.maxf k q) (s.fab.mqs.filter mine)
  if s.oversize k q gone.length f then
    let mqs := (s.fab.mqs.map (fun m => if gone.contains m then { m with pend := m.pend.filter (fun x => x.1 ≠ k) } else m)).filter (fun m => m.pend ≠ [])
    let s := gone.foldl (fun s m => s.releaseEnt k q m.cell) { s with fab := { s.fab with mqs := mqs } }
    if f.fidx ≤ s.maxf k q then s.countOversize k q else s
  else s

/-- A copy enters a queue (R371); an oversize packet is dropped when it shows (R431). -/
def State.enqueue (s : State) (k q : Nat) (e : QEnt) : State :=
  let p := s.port k
  let l := p.queues.getD q [] ++ [e]
  let s := s.setPort k (p.setQueue q l)
  let s := { s with fab := { s.fab with chg := e.cell :: s.fab.chg } }
  if s.oversize k q (lastPacket l).length e.flit then s.dropOversize k q e.flit else s

/-- The sending stream of a port, label or destination, and VC, opened on demand (R339, R342, R412), with the window and the unit of the
Casting in force (R349). -/
def State.txStream (s : State) (unit : StreamUnit) (k : Nat) (lbl : Bool) (key vc w : Nat) : TxStream × State :=
  match s.fab.txs.find? (fun x => x.port == k && x.lbl == lbl && x.key == key && x.vc == vc && !x.failed) with
  | some y => let x := { y with unit := unit, w := w }; (x, if x = y then s else s.setTx x)
  | none =>
    let x : TxStream := ⟨s.fab.nextStream, unit, k, lbl, key, vc, w, 0, none, 0, [], [], s.now, 0, false⟩
    let keep := s.fab.txs.filter (fun y => !(y.failed && y.port == k && y.lbl == lbl && y.key == key && y.vc == vc))
    (x, { s with fab := { s.fab with txs := keep ++ [x], nextStream := s.fab.nextStream + 1 } })

/-- The copies of a flit for the ports of one die: one shared cell with a multicast descriptor, or none (R365, R367, R374): whether the
die took them. `r` is the requester, on die `from'`; `acct` the account that a copy on a port takes; `v` the VC of a class Q or M flit that
comes with a credit (R366), 0 on the second die that stores it. -/
def State.shareDie (s : State) (d from' r : Nat) (v : Option Nat) (f : Flit) (acct : Nat → Acct) (own : Bool) (copies : List (Nat × Nat × Option Nat)) :
    Bool × State :=
  let mine := copies.filter (fun c => dieOf c.1 == d)
  if mine = [] then (true, s)
  else
    let refused (s : State) : Bool × State := (false, mine.foldl (fun s c => s.inc (SW_PDROP c.1)) (s.poolFail d))
    let ask := mine.map (fun c => acct c.1)
    let got :=
      if s.multiUse d < 65536 then (if v.isNone then s.grantAll d ask [] else some (ask.map (fun a => (a, false)))) else none
    match got with
    | none => refused s
    | some parts =>
      let (ok, s) := s.crossDie from' d
      if ok then
        let holds := (mine.zip parts).map (fun c => (Owner.queue c.1.1 f.vc, c.2.1, c.2.2))
        match s.allocCell d (reqOn d from' r) holds true (v.getD 0) with
        | none => refused s
        | some (cell, s) =>
          let s := { s with fab := { s.fab with mqs := s.fab.mqs ++ [⟨f, s.now, cell, mine, own⟩] } }
          (true, mine.foldl (fun s c => s.dropMulti d c.1 c.2.1 f) s)
      else (false, s)

/-- The ports and labels of an entry's copies now: alternates where the primary is fenced (R404, R405). -/
def State.copyPorts (s : State) (e : Label) : List (Nat × Nat) :=
  e.copies.filterMap (fun i =>
    let (p, a, o, ao) := mandCopy s.mand i
    let alt := s.fab.altCopy.contains i || (s.portFenced p && a != p)
    let (k, l) := if alt then (a, ao) else (p, o)
    if s.portFenced k then none else some (k, l))

/-- The port and label of a FWD entry now; none when there is no unfenced one (R404, R405). -/
def State.fwdPort (s : State) (l : Nat) (e : Label) : Option (Nat × Nat) :=
  let alt := s.fab.altEnt.contains l || (s.portFenced e.port && e.altV)
  let (k, o) := if alt then (e.altPort, e.b % 2 ^ 20) else (e.port, e.a % 2 ^ 20)
  if s.portFenced k then none else some (k, o)

/-- A flit of a unit of this node enters a queue on die `from'`: in a cell of the queue's account, or where there is none in the
unit's own buffer (log 14); one of class Q or M has no account to take (R362). -/
def State.enqueueOwn (s : State) (from' r k vc : Nat) (f : Flit) (stream : Option Nat) : State :=
  let d := dieOf k
  let put (s : State) (c : Nat × Nat) : State := s.enqueue k vc ⟨f, s.now, c, stream, true⟩
  if 4 ≤ vc then put (s.crossDie from' d).2 (noCell d)
  else
    match s.grant1 d (.queue k vc) 0 0 with
    | none => put (s.poolFail d) (noCell d)
    | some sh =>
      let (ok, s) := s.crossDie from' d
      if ok then
        match s.allocCell d (reqOn d from' r) [(.queue k vc, .queue k vc, sh)] false with
        | none => put s (noCell d)
        | some (c, s) => put s c
      else s

/-- The sending stream of a label, for the data classes: class Q and M flits go by credit (R334, R407). -/
def State.labelStream (s : State) (unit : StreamUnit) (k o vc w : Nat) : Option Nat × State :=
  if vc < 4 then let (x, s) := s.txStream unit k true o vc w; (some x.id, s) else (none, s)

/-- A unit of this node, on die `from'`, injects a flit on a LOCAL entry (R407), on the copies whose ports `keep` names. Where a die has no
room for the shared cell, its copies wait one by one in the unit's own buffer (log 14). -/
def State.injectLabel (s : State) (unit : StreamUnit) (l vc from' r : Nat) (last : Bool) (fidx : Nat) (data : List Byte) (chk : Check)
    (keep : Nat → Bool := fun _ => true) : State :=
  let f (o : Nat) : Flit := ⟨vc, true, false, last, fidx, o, s.epochTag, 0, 0, data, chk⟩
  match mandEntry s.mand l with
  | none => s
  | some e =>
    if !e.isLocal then s
    else if e.act = 2 then
      let s := if s.copyPorts e = [] then s.inc RT_NOROUTE else s
      let (cs, s) := ((s.copyPorts e).filter (fun c => keep c.1)).foldl (fun (a : List (Nat × Nat × Option Nat) × State) c =>
        let (x, s) := a.2.labelStream unit c.1 c.2 vc e.win
        (a.1 ++ [(c.1, c.2, x)], s)) ([], s)
      [0, 1].foldl (fun s d =>
        let one (s : State) : State :=
          (cs.filter (fun c => dieOf c.1 == d)).foldl (fun s c => s.enqueueOwn from' r c.1 vc (f c.2.1) c.2.2) s
        if 4 ≤ vc then one s
        else
          let (ok, t) := s.shareDie d from' r none (f 0) (fun k => .queue k vc) true cs
          if ok then t else one t) s
    else if e.act = 1 then
      match s.fwdPort l e with
      | none => s.inc RT_NOROUTE
      | some (k, o) =>
        if !keep k then s else
        let (x, s) := s.labelStream unit k o vc e.win
        s.enqueueOwn from' r k vc (f o) x
    else s

/-! ### The choice of a flit -/

/-- A candidate of a queue (R375, R376, R345, R341): a flit to resend or to replay, a copy of the queue, or one of the multicast
list. -/
inductive Cand where
  | resend (x : TxStream) (f : Flit)
  | replay (f : Flit)
  | uni (e : QEnt)
  | multi (m : MEnt) (label : Nat) (stream : Option Nat)
deriving DecidableEq, Repr

/-- The flit of a candidate, with the label of its copy. -/
def Cand.flit (c : Cand) : Flit :=
  match c with | .resend _ f => f | .replay f => f | .uni e => e.flit | .multi m l _ => { m.flit with addr := if m.flit.lbl then l else m.flit.addr }

/-- The tick at which its cell arrived, and its cell. -/
def Cand.arr (c : Cand) : Option Nat := match c with | .uni e => some e.arr | .multi m _ _ => some m.arr | _ => none
def Cand.cell (c : Cand) : Nat × Nat := match c with | .uni e => e.cell | .multi m _ _ => m.cell | _ => noCell 0

/-- Whether a unit of this node injects it, and whether it was sent before. -/
def Cand.own (c : Cand) : Bool := match c with | .uni e => e.own | .multi m _ _ => m.own | _ => false
def Cand.again (c : Cand) : Bool := match c with | .resend _ _ | .replay _ => true | _ => false

/-- MQn of a port's die, and the copies for the port that a part of it has (R375). -/
def State.mqOf (s : State) (k q : Nat) : List MEnt := s.fab.mqs.filter (fun m => m.flit.vc == q && m.cell.1 == dieOf k)
def pendFor (k : Nat) (l : List MEnt) : List Cand :=
  l.filterMap (fun m => (m.pend.find? (fun x => x.1 == k)).map (fun x => .multi m x.2.1 x.2.2))

/-- The copies for port `k` among the first four cells of MQn, in list order (R375, R376). -/
def State.multiOf (s : State) (k q : Nat) : List Cand := pendFor k ((s.mqOf k q).take 4)

/-- The copies that wait in a queue. -/
def State.uniOf (s : State) (k q : Nat) : List Cand := ((s.port k).queues.getD q []).map .uni

/-- The head copy of a queue: the earlier of the unicast head and the port's first copy in MQn (R375, R376). -/
def State.headOf (s : State) (k q : Nat) : Option Cand :=
  match (s.uniOf k q).head?, (s.multiOf k q).head? with
  | some e, some m => if e.arr.getD 0 ≤ m.arr.getD 0 then some e else some m
  | some e, none => some e
  | none, m => m

/-- The sending stream that a copy belongs to. -/
def State.candStream (s : State) (c : Cand) : Option TxStream :=
  let find (i : Nat) := s.fab.txs.find? (fun x => x.id == i)
  match c with
  | .uni e => e.stream.bind find
  | .multi _ _ i => i.bind find
  | .resend x _ => some x
  | .replay _ => none

/-- The first flit that a stream resends, where its window lets it (R339, R341). -/
def State.againOf (s : State) (x : TxStream) : Option Cand :=
  (x.again.head?.bind (fun a => x.held.find? (fun h => h.1.alive == a && s.txMay x a))).map (fun h => .resend x h.1)

/-- The flit that flit replay resends next (R345). -/
def Port.replayNext (p : Port) : Option Flit := if 0 < p.txAgain then p.txHeld[p.txHeld.length - p.txAgain]? else none

/-- The candidate of a queue while no packet is in progress (R341, R345, R376). -/
def State.candOf (s : State) (k q : Nat) : Option Cand :=
  if q < 4 then
    match (s.fab.txs.filter (fun x => x.port == k && x.vc == q)).findSome? s.againOf with
    | some c => some c
    | none => s.headOf k q
  else if 0 < (s.port k).txAgain then
    match (s.port k).replayNext with
    | some f => if f.vc = q then some (.replay f) else none
    | none => none
  else s.headOf k q

/-- Whether a copy belongs to the packet in progress (R333): a unit's own flits take EPOCH and STAMP at departure. -/
def OpenTx.holds (o : OpenTx) (c : Cand) : Bool :=
  let f := c.flit
  f.lbl == o.lbl && f.addr == o.addr && (if c.own then f.fidx == o.fidx else f.epoch == o.epoch && f.stamp == o.stamp)

/-- The next flit of the packet in progress: one that its stream resends, one that the replay has, else its next copy (R333, R341,
R345). -/
def State.candOpen (s : State) (k : Nat) (o : OpenTx) : Option Cand :=
  let again := if o.q < 4 then
      (s.fab.txs.filter (fun x => x.port == k && x.vc == o.q && x.lbl == o.lbl && x.key == o.addr)).findSome? s.againOf
    else ((s.port k).replayNext).map .replay
  match again with
  | some c => some c
  | none =>
    let l := (s.uniOf k o.q ++ s.multiOf k o.q).filter o.holds
    l.find? (fun c => l.all (fun d => decide (c.arr.getD 0 ≤ d.arr.getD 0)))

/-- Whether a flit of the packet in progress may still arrive: its packet is open at an ingress port. -/
def State.moreComing (s : State) (k : Nat) (o : OpenTx) : Bool :=
  allPorts.any (fun i => (s.port i).openRx.any (fun r => r.lbl == o.lbl && r.epoch == o.epoch && r.stamp == o.stamp && r.vc == o.q &&
    r.drop.isNone && !r.bad && (r.egress == some k || (r.copies.getD []).contains (k, o.addr))))

/-- Window or credit of a candidate (R339, R341, R344, R345). -/
def State.hasRoom (s : State) (k q : Nat) (c : Cand) : Bool :=
  let p := s.port k
  let free := s.rd DET_STAT_MODE == 2 && isEndpoint k
  c.again ||
    (if q < 4 then (match s.candStream c with | some x => s.txMay x x.next && !x.failed && x.again.isEmpty | none => true)
    else free || (decide (0 < p.avail q) && decide (p.txHeld.length < 15)))

/-- The flits of a candidate's packet that are in the queue, or are sent again with it, and whether its last one is (R430). -/
def State.packetLen (s : State) (k q : Nat) (c : Cand) : Nat × Bool :=
  let f := c.flit
  let same (d : Flit) : Bool := d.lbl == f.lbl && d.addr == f.addr && d.epoch == f.epoch && d.stamp == f.stamp
  let wait : List Flit := (match c with | .multi _ _ _ => pendFor k (s.mqOf k q) | _ => s.uniOf k q).map Cand.flit
  let l : List Flit := (match c with
    | .resend x _ => x.again.filterMap (fun a => (x.held.find? (fun h => h.1.alive == a)).map (·.1))
    | .replay _ => (s.port k).txHeld.drop ((s.port k).txHeld.length - (s.port k).txAgain)
    | _ => []) ++ wait
  let l := l.filter same
  let n := (l.takeWhile (fun d => !d.last)).length
  if n < l.length then (n + 1, true) else (n, c.again)

/-- Whether a list that begins at S closes a queue that is open until then (R435). -/
def Port.endsAtS (p : Port) (q : Nat) : Bool :=
  match p.gnext with | some g => p.openAt q (g.start - 1) && !p.openAt q g.start | none => false

/-- Whether the gate lets the candidate's packet begin now (R424, R429, R430). A queue of the list in force with a closing waits for the
whole packet; one that closes only where a new list begins does not, and keeps its whole guard band until its packet is known. -/
def State.gateLets (s : State) (k q : Nat) (c : Cand) : Bool :=
  let p := s.port k
  if p.closes q || p.endsAtS q then
    let (n, whole) := s.packetLen k q c
    let n := if whole then n else max n (s.maxf k q)
    (whole || !p.closes q) && (List.range (packetTime (s.heavy k) n)).all (fun i => p.openAt q (s.now + i))
  else p.openAt q s.now

/-- The shaper lets the queue send (R438, R440). -/
def State.shaperLets (s : State) (k q : Nat) : Bool := let x := (s.port k).shaper q; !x.en || decide (0 < x.tok)

/-- Whether a queue is eligible (R438). -/
def State.eligible (s : State) (k q : Nat) : Option Cand :=
  match s.candOf k q with
  | none => none
  | some c => if s.gateLets k q c && s.shaperLets k q && s.hasRoom k q c then some c else none

/-- The weight of Q2 to Q7; 0 acts as 1 (R446). -/
def State.weight (s : State) (k q : Nat) : Nat :=
  max 1 (match q with
    | 2 => s.rd (GT_WFQ0_W2 k) | 3 => s.rd (GT_WFQ0_W3 k) | 4 => s.rd (GT_WFQ0_W4 k) | 5 => s.rd (GT_WFQ0_W5 k)
    | 6 => s.rd (GT_WFQ1_W6 k) | _ => s.rd (GT_WFQ1_W7 k))

/-- Start tags: a queue that becomes eligible takes max(V, F), with the weight it has then; one that is not eligible has none (R439). -/
def State.startTags (s : State) (k : Nat) : State :=
  let p := s.port k
  let tags := (List.range 8).map (fun q =>
    if q < 2 then none
    else if (s.eligible k q).isSome then some ((p.stag.getD q none).getD (max p.v (p.f.getD q 0)))
    else none)
  let wts := (List.range 8).map (fun q => if (tags.getD q none).isSome ∧ p.stag.getD q none = none then s.weight k q else p.wts.getD q 1)
  s.setPort k { p with stag := tags, wts := wts }

/-- The queue that the port serves: Q1, then Q0, then the lowest start tag, the lower index on a tie (R438, R439). -/
def State.pickQueue (s : State) (k : Nat) : Option Nat :=
  if (s.eligible k 1).isSome then some 1
  else if (s.eligible k 0).isSome then some 0
  else
    ((List.range 8).foldl (fun (a : Option (Nat × Nat)) q =>
      match (s.port k).stag.getD q none, a with
      | some t, none => some (t, q)
      | some t, some b => if t < b.1 then some (t, q) else some b
      | none, a => a) none).map (·.2)

/-! ### Sending -/

/-- The copy is taken from its queue or list; a dequeue is a change of its cell (R386). -/
def State.takeCopy (s : State) (k q : Nat) (c : Cand) : State :=
  let s := if c.again then s else { s with fab := { s.fab with chg := c.cell :: s.fab.chg } }
  match c with
  | .uni e => let p := s.port k; s.setPort k (p.setQueue q ((p.queues.getD q []).erase e))
  | .multi m _ _ =>
    let mqs := (s.fab.mqs.map (fun x => if x.cell = m.cell then { x with pend := x.pend.filter (fun y => y.1 ≠ k) } else x)).filter
      (fun x => x.pend ≠ [])
    { s with fab := { s.fab with mqs := mqs } }
  | _ => s

/-- Copies past SW_QAGE at the head of a queue are dropped, unicast and multicast, `n` at most (R373). -/
def State.ageQueue (s : State) (k q : Nat) : Nat → State
  | 0 => s
  | n + 1 =>
    let age := s.rd SW_QAGE
    match s.headOf k q with
    | none => s
    | some c =>
      if age ≠ 0 ∧ c.arr.getD 0 + age < s.now then
        State.ageQueue (((s.takeCopy k q c).releaseEnt k q c.cell).inc (BP_AGED (dieOf k))) k q n
      else s

/-- Every queue of a port. -/
def State.agePort (s : State) (k : Nat) : State :=
  (List.range 8).foldl (fun s q => s.ageQueue k q (((s.port k).queues.getD q []).length + s.fab.mqs.length)) s

/-- A flit leaves the port: its check is verified, it is stomped where it fails, and it counts in the output sum at its first
transmission (R476 to R478, R482, R492, R506). -/
def State.emitFlit (s : State) (k : Nat) (f : Flit) (again : Bool) : State :=
  let u := tmTx k
  let key := tmKey f.vc (if f.isData then f.addr else 0)
  let bad := s.tmMismatch u f.data f.check
  let s := if bad then (s.tmFailing u 2).tmRecord u key f.alive f.data true else s
  let stomp := bad || f.check.fail
  let s := if stomp then s.inc (TM_STOMP u) else s.tmResolve u key f.alive f.data
  let s := if isEndpoint k && !again then s.addOut k f.sumHeader f.data else s
  if s.rd DET_STAT_MODE = 2 ∧ isEndpoint k = true then (if s.streams k then s.idleSlot k else s)
  else
    let (hit, s) := s.takeInj 6 k
    let h := f.header
    let h := if hit then h.set 7 (~~~(h.getD 7 0)) else h
    let s := (s.out (.flit k f.vc h f.data stomp)).unitsSent k 17
    if stomp then
      let p := s.port k
      let stop := if s.heavy k then ((128 * p.txUnit - 1) / 5140 * 5140 + 5140 + 127) / 128 else ((p.txUnit - 1) / 8 + 1) * 8
      s.setPort k { p with stompEnd := stop }
    else s

/-- The flit as it leaves: its stream's number, CMARK where the queue is deeper than QMARK, and for a unit's own flit EPOCH and STAMP of
the tick at which its packet departs (R102, R108, R331, R339, R372). -/
def State.dress (s : State) (k q : Nat) (c : Cand) : Flit × State :=
  let f := c.flit
  if c.again then (f, s)
  else
    let f := match (s.port k).openTx with
      | some o => if c.own then { f with epoch := o.epoch, stamp := o.stamp } else f
      | none => if c.own then { f with epoch := s.epochTag, stamp := s.now } else f
    let f := match s.candStream c with | some x => { f with alive := x.next } | none => f
    let m := s.rd (SW_QMARK_QMARK (s.qProfile k q))
    if m ≠ 0 ∧ m < s.depth k q then ({ f with cmark := true }, s.inc (SW_PMARK k)) else (f, s)

/-- What the port and the stream keep of a flit that left, and the release of its cell (R339, R344, R345, R370, R506). -/
def State.afterSend (s : State) (k q : Nat) (c : Cand) (f : Flit) : State :=
  let replay := s.rd DET_STAT_MODE == 2 && isEndpoint k
  match c with
  | .resend x _ => s.setTx { x with again := x.again.drop 1 }
  | .replay _ => let p := s.port k; s.setPort k { p with txAgain := p.txAgain - 1 }
  | _ =>
    let s := match s.candStream c with
      | some x =>
        let x := { x with next := (x.next + 1) % 2 ^ 16, held := x.held ++ [(f, c.cell)], adv := if x.held = [] then s.now else x.adv }
        let s := s.setTx x
        let s := if x.copies then s else s.releaseEnt k q c.cell
        if replay then s.ackStream x x.next false (s.txWindow x) else s
      | none => s.releaseEnt k q c.cell
    if q < 4 ∨ replay = true then s
    else
      let p := s.port k
      let i := q - 4
      s.setPort k { p with sent := p.sent.set i ((p.sent.getD i 0 + 1) % 2 ^ 16), txHeld := p.txHeld ++ [f]
                           lackAt := if p.txHeld = [] then s.now else p.lackAt }

/-- The port sends the candidate of queue `q` (R333, R371 to R373, R439, R440, R442). -/
def State.sendCand (s : State) (k q : Nat) (c : Cand) : State :=
  let first := (s.port k).openTx = none
  let (f, s) := s.dress k q c
  let s := s.takeCopy k q c
  let s := s.emitFlit k f c.again
  let s := match c.arr with | some a => s.takeDelay k q a | none => s
  let s := s.charge k q first
  let s := s.afterSend k q c f
  let p := s.port k
  let cost := (272 + (if first then s.rd (GT_OVH_OVH k) else 0)) * 2 ^ 16 / p.wts.getD q 1
  let st := (p.stag.getD q none).getD p.v
  let p := if q < 2 then p
    else if first then { p with v := st, f := p.f.set q (st + cost), stag := p.stag.set q none }
    else { p with f := p.f.set q (p.f.getD q 0 + cost) }
  s.setPort k { p with openTx := if f.last then none else some ⟨q, f.lbl, f.addr, f.epoch, f.stamp, f.fidx + 1⟩ }

/-- The queue that the port picks sends (R438). -/
def State.sendPicked (s : State) (k : Nat) : State :=
  let s := s.startTags k
  match (s.pickQueue k).bind (fun q => (s.candOf k q).map (fun c => (q, c))) with
  | some (q, c) => s.sendCand k q c
  | none => s.idleSlot k

/-- TX_SLOT: the slot carries the next flit of the packet in progress, else the flit of the queue served, else symbols
(R326, R330, R333, R438, R478). An endpoint's flits go in replay whether or not its port is up (R506). -/
def State.txSlot (s : State) (k : Nat) : State :=
  let s := s.agePort k
  let replay := s.rd DET_STAT_MODE == 2 && isEndpoint k && s.bit TG_STATUS_STARTED
  if !(s.streams k && s.atSlot k) && !(replay && !s.streams k) then s
  else if !s.portUp k && !replay then s.idleSlot k
  else if s.mustIdle k || decide ((s.port k).txUnit < (s.port k).stompEnd) then s.idleSlot k
  else
    match (s.port k).openTx with
    | some o =>
      match s.candOpen k o with
      | some c => if s.hasRoom k o.q c then s.sendCand k o.q c else s.idleSlot k
      | none =>
        if s.moreComing k o then s.idleSlot k
        else (s.setPort k { s.port k with openTx := none }).sendPicked k
    | none => s.sendPicked k

def execTxSlot (t k : Nat) (s : State) : Host.Outcome State Fault Refusal := .next ((s.at t).txSlot k)

end Sys2Proof.Machine
end

