-- ==== Sys2Proof/Machine/Rx.lean ====
section
/-! DEFINITION. The receiving side of a port: slots and symbols (R332, R333, R335), stream ends (R340), label and packet switching
(R398, R403, R404, R408, R409), admission (R363 to R366). -/

namespace Sys2Proof.Machine

/-! ### Stream ends -/

/-- The terminating end queues an ACK (R340, R406): on the arrival port of a label stream, toward the source of a packet stream
(R412). -/
def State.sendAck (s : State) (x : RxStream) (nak : Bool) : State :=
  let s := s.setRx { x with acc := 0, nak := if nak then some (x.n, s.now) else x.nak }
  if x.lbl then s.queueAck x.port x.key true x.vc x.n nak x.room
  else
    match s.route (s.selfCode + 2 ^ 19) x.key with
    | .port j => s.queueAck j x.key false (x.vc / 2 * 2) x.n nak x.room
    | _ => s

/-- A gap at a stream's end: counted, with a NAK unless one was sent for this N within two frames (R340). -/
def State.gapAt (s : State) (k : Nat) (x : RxStream) : State :=
  let s := (s.setRx x).inc (LK_GAP k)
  let again := match x.nak with
    | some (n, t) => n == x.n && decide (s.now < t + 2 * s.frameTicks k)
    | none => false
  if again then s else s.sendAck x true

/-- The flit with ALIVE = N is accepted: N moves on, and every 64th is acknowledged (R340). -/
def State.endTake (s : State) (x : RxStream) : State :=
  let x := { x with n := (x.n + 1) % 2 ^ 16, acc := x.acc + 1, nak := none, took := [], room := x.room - 1 }
  if 64 ≤ x.acc then s.sendAck x false else s.setRx x

/-- A data-class flit at its stream's terminating end (R340, R479); `ordered` says that it keeps the order of its packet (R333). `act` hands
it on: none when it is taken, else the dies that have stored it while another refused it, and then it is discarded as a gap (log 72). An
item of the replay log was accepted, under whatever number its stream then had (R505). -/
def State.endFlit (s : State) (k : Nat) (lbl : Bool) (key vc room : Nat) (f : Flit) (ordered : Bool)
    (act : List Nat → State → Option (List Nat) × State) : State :=
  match s.rxEntry k lbl key vc room with
  | none => (s.inc (TM_ENT_NOENT k)).tmFirst k 6
  | some (x, s) =>
    let replayed := s.rd DET_STAT_MODE == 2 && s.detPort k
    let x := { x with lastFlit := s.now, room := room, n := if replayed then f.alive else x.n }
    let d := (f.alive + 2 ^ 16 - x.n) % 2 ^ 16
    if f.check.fail then (s.inc (LK_GAP k)).sendAck x true
    else if d = 0 then
      if ordered || replayed then
        match act x.took s with
        | (none, s) => s.endTake x
        | (some took, s) => s.gapAt k { x with took := took }
      else s.setRx x
    else if d < 2 ^ 15 then s.gapAt k x
    else (s.inc (LK_GAP k)).sendAck x false

/-- What is due within two frames: ACKs of accepted flits, a zero ROOM repeated, LACK, and freed credits (R340, R344, R345). -/
def State.flushDue (s : State) (k : Nat) : State :=
  let f := (s.port k).frame
  let xs := s.fab.rxs.filter (fun x => x.port == k && (decide (0 < x.acc) || (x.room == 0 && f % 64 == 0)))
  let s := xs.foldl (fun s x => s.sendAck x false) s
  let p := s.port k
  let s := if 0 < p.rxAcc then (s.setPort k { p with rxAcc := 0 }).queueLack k p.rxSeq else s
  (List.range 4).foldl (fun s i =>
    let p := s.port k
    let n := p.freed.getD i 0
    if n ≠ p.freedSent.getD i 0 then (s.setPort k { p with freedSent := p.freedSent.set i n }).queueCredit k (i + 4) false n
    else s) s

/-- CONTROL_POSITION with what is due by then (R329, R330). -/
def State.controlFrame (s : State) (k sub : Nat) : State :=
  (if s.portUp k && s.streams k && !s.atSlot k then s.flushDue k else s).controlPosition k sub

def execControlPosition (t k sub : Nat) (s : State) : Host.Outcome State Fault Refusal := .next ((s.at t).controlFrame k sub)

/-! ### Units of this node -/

/-- Entries of a list of handed flits for one label and port. -/
def waitingFor {α : Type} (l : List (Nat × Nat × α)) (lab k : Nat) : Nat := (l.filter (fun e => e.1 == lab && e.2.1 == k)).length

/-- ROOM of a TERM entry (R340, R404): WIN less the flits that still wait for the unit. -/
def State.termRoom (s : State) (l k : Nat) (e : Label) : Nat :=
  let w := match e.port with
    | 1 => waitingFor s.fab.collIn l k
    | 2 => waitingFor s.fab.stockIn l k
    | _ => (s.fab.mgmtIn.filter (fun x => x.1 == l && x.2.1 && x.2.2.1 == k)).length
  e.win - w

/-- A flit is handed to the unit that TKIND names (R404). -/
def State.hand (s : State) (l k : Nat) (e : Label) (f : Flit) : State :=
  match e.port with
  | 1 => { s with fab := { s.fab with collIn := s.fab.collIn ++ [(l, k, f)] } }
  | 2 => { s with fab := { s.fab with stockIn := s.fab.stockIn ++ [(l, k, f, s.now)] } }
  | _ => { s with fab := { s.fab with mgmtIn := s.fab.mgmtIn ++ [(l, true, k, f)] } }

/-! ### Admission -/

/-- A class Q or M flit that arrived on VC `v` of port `k` takes a cell of the credit reserve of that port, held for queue `q` of
port `owner` (R366). -/
def State.credCell (s : State) (k v owner q die : Nat) : (Nat × Nat) × State :=
  match s.allocCell die (reqOn die (dieOf k) (reqPort k)) [(.queue owner q, .cred k, false)] false v with
  | some (c, s) => (c, s)
  | none => (noCell die, s)

/-- A refused flit of class C or B is dropped and counted (R364). -/
def State.dropFor (s : State) (j : Nat) : State := (s.poolFail (dieOf j)).inc (SW_PDROP j)

/-- A label flit enters the egress queue of port `j` (R363, R364, R366, R383). -/
def State.admitLabel (s : State) (k j : Nat) (f : Flit) : State :=
  let q := f.vc
  let d := dieOf j
  if f.isData then
    match s.grant1 d (.queue j q) 0 0 with
    | none => s.dropFor j
    | some sh =>
      let (ok, s) := s.crossDie (dieOf k) d
      if ok then
        match s.allocCell d (reqOn d (dieOf k) (reqPort k)) [(.queue j q, .queue j q, sh)] false with
        | some (c, s) => s.enqueue j q ⟨f, s.now, c, none, false⟩
        | none => s.dropFor j
      else s
  else
    let (ok, s) := s.crossDie (dieOf k) d
    if ok then
      let (c, s) := s.credCell k q j q d
      s.enqueue j q ⟨f, s.now, c, none, false⟩
    else s

/-- The 16 cells that a packet of class C or B asks for at its head (R366). -/
def State.packetCells (s : State) (k j q : Nat) : Option (List (Nat × Nat) × State) :=
  let d := dieOf j
  match s.grantAll d (List.replicate 16 (.queue j q)) [] with
  | none => none
  | some parts =>
    parts.foldl (fun (r : Option (List (Nat × Nat) × State)) pt =>
      match r with
      | none => none
      | some (cs, t) =>
        match t.allocCell d (reqOn d (dieOf k) (reqPort k)) [(.queue j q, .queue j q, pt.2)] false with
        | some (c, t) => some (cs ++ [c], t)
        | none => none) (some ([], s))

/-! ### Labels -/

/-- The ports and labels that a replicated flit goes to now, and how many of its packet's copies a fence stopped (R405): a copy that
switches to its alternate begins there with the next packet. -/
def State.copiesNow (s : State) (k : Nat) (f : Flit) (e : Label) : List (Nat × Nat) × Nat :=
  let now := s.copyPorts e
  match if f.fidx = 0 then none else (s.port k).openRx.bind (·.copies) with
  | none => (now, 0)
  | some l => (now.filter (fun c => l.contains c), (l.filter (fun c => !now.contains c)).length)

/-- The copy streams of an entry, opened on demand (R342, R404). -/
def State.openCopies (s : State) (l vc : Nat) (e : Label) (cs : List (Nat × Nat)) : List (Nat × Nat × Option Nat) × State :=
  cs.foldl (fun (a : List (Nat × Nat × Option Nat) × State) c =>
    let (x, t) := a.2.labelStream (.copy l) c.1 c.2 vc e.win
    (a.1 ++ [(c.1, c.2, x)], t)) ([], s)

/-- A replicated flit is stored on each die that has copies and has not stored it yet (R374): the dies that have it, and whether all
do. -/
def State.replicate (s : State) (k : Nat) (f : Flit) (e : Label) (took : List Nat) : List Nat × Bool × State :=
  let (ports, gone) := s.copiesNow k f e
  let (cs, s) := s.openCopies f.addr f.vc e ports
  let s := if cs = [] then s.inc RT_NOROUTE else s
  let s := s.addSat RT_DFENCE gone
  let acct (j : Nat) : Acct := if f.isData then .queue j f.vc else .cred k
  [dieOf k, 1 - dieOf k].foldl (fun (r : List Nat × Bool × State) d =>
    if took.contains d then r
    else
      let first := (ports.any (fun c => dieOf c.1 == dieOf k)) == (d == dieOf k)
      let v := if f.isData then none else some (if first then f.vc else 0)
      let (ok, t) := r.2.2.shareDie d (dieOf k) (reqPort k) v f acct false cs
      (if ok then r.1 ++ [d] else r.1, r.2.1 && ok, t)) (took, true, s)

/-- The Crucible that ingests the next flit of label `l` from port `k` for descriptor `d`, after those that wait (R222). -/
def State.cruNext (s : State) (d l k : Nat) : Nat :=
  let img := s.cst.img
  let n := (s.coll.insts.findSome? (fun i =>
    if i.desc = d ∧ l = colUp img d then (i.mem.zip i.ins).findSome? (fun m => if (s.epPorts m.1).contains k then some m.2.cells else none)
    else none)).getD 0
  colCru img d (dieOf k) ((n + waitingFor s.fab.collIn l k) % (colChunk img d / 256))

/-- The Crucible unit judges the flit that its stream's end would accept: a cell check that does not match makes it failing, and a good copy
resolves a record (R476, R481, R482). -/
def State.cruJudge (s : State) (k : Nat) (e : Label) (f : Flit) : Flit × State :=
  let n := ((s.fab.rxs.find? (fun x => x.port == k && x.lbl && x.key == f.addr && x.vc == f.vc)).map (·.n)).getD 0
  if e.port ≠ 1 ∨ f.alive ≠ n ∨ f.check.fail = true then (f, s)
  else
    let u := tmCru (s.cruNext (e.a % 2 ^ 16) f.addr k)
    let key := tmKey f.vc f.addr
    if s.tmMismatch u f.data f.check then
      ({ f with check := { f.check with fail := true } }, (s.tmFailing u 2).tmRecord u key f.alive f.data true)
    else (f, s.tmResolve u key f.alive f.data)

/-- A label flit that R403 lets through (R404, R405, R414); `ordered` says that it keeps the order of its packet. -/
def State.labelFlit (s : State) (k : Nat) (f : Flit) (e : Label) (room ordered : Bool) : State :=
  let l := f.addr
  match e.act with
  | 1 =>
    if !ordered then s else
    match s.fwdPort l e with
    | none => s.inc RT_NOROUTE
    | some (j, o) =>
      let inProgress := (s.port k).openRx.bind (·.egress)
      let s := if f.isData then s else s.acceptFlit k f room
      if f.fidx ≠ 0 ∧ inProgress.isSome ∧ inProgress ≠ some j then s.inc RT_DFENCE
      else if f.fidx ≠ 0 ∧ ((s.port k).openRx.bind (·.drop)) = some .oversize then s
      else s.admitLabel k j { f with addr := o }
  | 2 =>
    let act (took : List Nat) (s : State) : Option (List Nat) × State :=
      let (took, all, s) := s.replicate k f e took
      if all then (none, s.acceptFlit k f room) else (some took, s)
    if f.isData then s.endFlit k true l f.vc 32768 f ordered act else if ordered then (act [] s).2 else s
  | _ =>
    let act (s : State) : State := (s.acceptFlit k f room).hand l k e f
    let (f, s) := if f.isData && ordered then s.cruJudge k e f else (f, s)
    if f.isData then s.endFlit k true l f.vc (s.termRoom l k e) f ordered (fun _ s => (none, act s)) else if ordered then act s else s

/-- Why a flit with LBL = 1 is discarded, if it is (R398, R403). -/
def State.labelFault (s : State) (k : Nat) (f : Flit) : Option Nat :=
  if s.nodeState = stUncast then some 1
  else if s.nodeState = stApplying ∨ s.quenched = true then some 4
  else
    match mandEntry s.mand f.addr with
    | none => some 1
    | some e =>
      if e.isLocal then some 1
      else if (if e.anyIn then !(isEndpoint k && s.portUse k) else k != e.inPort) then some 2
      else if e.vcs / 2 ^ f.vc % 2 = 0 then some 3
      else none

/-- A flit with LBL = 1 (R398, R403). -/
def State.rxLabel (s : State) (k : Nat) (f : Flit) (room ordered : Bool) : State :=
  match s.labelFault k f, mandEntry s.mand f.addr with
  | some c, _ => s.rejLabel c k
  | none, none => s
  | none, some e =>
    if isEndpoint k && s.epFenced (s.epOf k) then s.inc RT_DFENCE else s.labelFlit k f e room ordered

/-! ### Packets -/

/-- The source word of a packet's first flit (R408). -/
def srcWord (f : Flit) : Nat := leAt f.data 0 4

/-- A packet flit for this node's management service (R408, R409, R412, R567). -/
def State.toService (s : State) (k : Nat) (f : Flit) (src : Nat) (room ordered : Bool) : State :=
  let room' := 64 - (s.fab.mgmtIn.filter (fun x => !x.2.1 && x.1 == src)).length
  let act (s : State) : State :=
    let s := s.acceptFlit k f room
    { s with fab := { s.fab with mgmtIn := s.fab.mgmtIn ++ [(src, false, k, f)] } }
  if f.isData then s.endFlit k false src (f.vc / 2 * 2) room' f ordered (fun _ s => (none, act s)) else if ordered then act s else s

/-- The packet that a port receives, changed. -/
def State.setOpen (s : State) (k : Nat) (f : OpenPkt → OpenPkt) : State :=
  s.setPort k { s.port k with openRx := (s.port k).openRx.map f }

/-- A packet flit goes to port `j` on the VC of its hop, in a cell that its packet reserved or in one of the ingress port's
credit reserve (R366, R383, R411). -/
def State.forward (s : State) (k j : Nat) (f : Flit) (o : OpenPkt) (room : Bool) : State :=
  let v := f.vc
  let f := { f with vc := o.vc }
  if f.isData then
    match o.cells with
    | [] => s.inc (SW_PDROP j)
    | c :: cs =>
      let s := s.setOpen k (fun o => { o with cells := cs })
      let (ok, s) := s.crossDie (dieOf k) (dieOf j)
      if ok then s.enqueue j o.vc ⟨f, s.now, c, none, false⟩ else s.releaseCell c (.queue j o.vc)
  else
    let s := s.acceptFlit k { f with vc := v } room
    let (ok, s) := s.crossDie (dieOf k) (dieOf j)
    if ok then
      let (c, s) := s.credCell k v j o.vc (dieOf j)
      s.enqueue j o.vc ⟨f, s.now, c, none, false⟩
    else s

/-- The rest of a packet is dropped as its first flit was. -/
def State.dropRest (s : State) (k : Nat) (d : DropAs) : State := s.setOpen k (fun o => { o with drop := some d })

/-- A flit of a packet that is dropped (R364, R366, R398, R410, R414, R431). -/
def State.countDrop (s : State) (k : Nat) (d : DropAs) : State :=
  match d with
  | .rejected => s.inc RT_PREJ
  | .noRoom j => s.inc (SW_PDROP j)
  | .fenced => s.inc RT_DFENCE
  | .noRoute => (s.inc RT_NOROUTE).rtFirst 7 k
  | .oversize => s

/-- Where the first flit of a packet sends it (R408 to R411, R414): the packet with its egress or its drop noted, and the node's
own service where the destination is here. -/
def State.openPacket (s : State) (k : Nat) (f : Flit) (room : Bool) : State :=
  let w := srcWord f
  let src := w % 2 ^ 20
  let s := s.setOpen k (fun o => { o with src := src })
  let dropped (s : State) (d : DropAs) : State := s.dropRest k d
  if isEndpoint k && s.nodeValid && w != s.selfCode + 4096 * s.epOf k then
    let s := s.rejPacket 6 k
    dropped (if s.firstTime 2 then (s.note1 2).fault .sec 0 6 (mPort k) 4 else s) .rejected
  else if s.nodeValid = false then
    if addrNode f.addr then s.toService k f src room true else dropped (s.rejPacket 8 k) .rejected
  else if s.addrFenced f.addr || s.addrFenced src || s.listFenced 2 (addrCode f.addr) then dropped (s.countDrop k .fenced) .fenced
  else
    match s.route src f.addr with
    | .service => s.toService k f src room true
    | .unreachable => dropped (s.countDrop k .noRoute) .noRoute
    | .port j =>
      let vc := s.hopVc (some k) j f.vc
      let aim (cs : List (Nat × Nat)) (o : OpenPkt) : OpenPkt := { o with vc := vc, egress := some j, cells := cs }
      let go (s : State) (cs : List (Nat × Nat)) : State :=
        let s := s.setOpen k (aim cs)
        match (s.port k).openRx with
        | some o => s.forward k j f o room
        | none => s
      if f.isData then
        match s.packetCells k j vc with
        | none => dropped (s.dropFor j) (.noRoom j)
        | some (cs, s) => go s cs
      else go s []

/-- A later flit of a packet follows the first one (R333); one that the sender resends after its packet was broken off here asks for cells
anew (log 72). -/
def State.nextFlit (s : State) (k : Nat) (f : Flit) (o : OpenPkt) (room ordered : Bool) : State :=
  match o.drop, o.egress with
  | some d, _ => s.countDrop k d
  | none, none => s.toService k f o.src room ordered
  | none, some j =>
    if !ordered then s
    else if s.portFenced j then s.inc RT_DFENCE
    else if f.isData && o.cells.isEmpty then
      match s.packetCells k j o.vc with
      | none => (s.dropFor j).dropRest k (.noRoom j)
      | some (cs, s) => s.forward k j f { o with cells := cs } room
    else s.forward k j f o room

/-- A flit with LBL = 0 in the node's state (R398). -/
def State.rxPacket (s : State) (k : Nat) (f : Flit) (first room : Bool) : State :=
  let applying := s.nodeState == stApplying
  if f.isData && (applying || (s.inForce && !s.quenched && !s.bit RT_MODE_PKTDATA)) then (s.rejPacket 5 k).dropRest k .rejected
  else if applying then
    let (c, s) := s.credCell k f.vc k f.vc (dieOf k)
    { s with fab := { s.fab with heldRx := s.fab.heldRx ++ [(k, f, c)] } }
  else if first then s.openPacket k f room
  else
    match (s.port k).openRx with
    | some o => s.nextFlit k f o room true
    | none => s

/-! ### Packet order -/

/-- A bad slot (R332, R345). -/
def State.badSlot (s : State) (k : Nat) : State := (s.inc (LK_BAD k)).askRetry k

/-- A packet as its first flit opens it; the egress or copies of a label are those of now (R405). -/
def State.newOpen (s : State) (k : Nat) (f : Flit) : OpenPkt :=
  let e := if f.lbl ∧ s.labelFault k f = none then mandEntry s.mand f.addr else none
  let egress := e.bind (fun e => if e.act = 1 then (s.fwdPort f.addr e).map (·.1) else none)
  let copies := e.bind (fun e => if e.act = 2 then some (s.copyPorts e) else none)
  ⟨f.vc, f.lbl, f.addr, f.epoch, f.stamp, 0, false, f.vc, 0, egress, copies, none, []⟩

/-- Whether a flit shares what all flits of a packet share (R333). -/
def OpenPkt.has (o : OpenPkt) (f : Flit) : Bool :=
  f.vc == o.inVc && f.lbl == o.lbl && f.addr == o.addr && f.epoch == o.epoch && f.stamp == o.stamp

/-- A flit in the order of its packet goes on to switching; the packet closes with LAST (R333). -/
def State.switchFlit (s : State) (k : Nat) (f : Flit) (first room : Bool) : State :=
  let s := if first then s.setPort k { s.port k with openRx := some (s.newOpen k f) } else s
  let s := if f.lbl then s.rxLabel k f room true else s.rxPacket k f first room
  let s := s.setOpen k (fun o => { o with fidx := f.fidx + 1, bad := false })
  if f.last then s.closePacket k false else s

/-- A flit that breaks the order of its packet: a bad slot (R333), and a gap at its stream's end where that is here (R340). -/
def State.badFlit (s : State) (k : Nat) (f : Flit) : State :=
  let s := s.badSlot k
  if !f.isData then s
  else if f.lbl then (if (s.labelFault k f).isNone then s.rxLabel k f true false else s)
  else
    match (s.port k).openRx with
    | some o => if o.has f && o.drop.isNone && o.egress.isNone then s.toService k f o.src true false else s
    | none => s

/-- A later flit with no packet of its own in progress: one that a sender resends takes its packet up again, and a label needs no more
than itself; any other is out of order (R333, R340, R345; log 72). -/
def State.lateFlit (s : State) (k : Nat) (f : Flit) (room : Bool) : State :=
  let p := s.port k
  match p.keptRx.find? (fun o => o.has f && decide (f.fidx ≤ o.fidx)) with
  | some o => (s.setPort k { p with openRx := some o, keptRx := p.keptRx.erase o }).switchFlit k f false room
  | none =>
    if f.lbl && f.isData then (s.setPort k { p with openRx := some (s.newOpen k f) }).switchFlit k f false room
    else s.badFlit k f

/-- A flit that the receive unit has judged, class Q and M past replay and credits, enters packet order (R333). -/
def State.orderFlit (s : State) (k : Nat) (f : Flit) (room : Bool) : State :=
  if f.fidx = 15 ∧ f.last = false then (s.badFlit k f).setOpen k (fun o => { o with bad := true })
  else if f.fidx = 0 then
    let s := match (s.port k).openRx with
      | some o => (if o.has f then s else s.inc (LK_BAD k)).closePacket k (!o.has f)
      | none => s
    s.switchFlit k f true room
  else
    match (s.port k).openRx with
    | some o =>
      if o.has f then
        if f.fidx < o.fidx ∨ (f.fidx = o.fidx ∧ o.bad = false) then s.switchFlit k f false room
        else (s.badFlit k f).setOpen k (fun o => { o with bad := true })
      else ((s.inc (LK_BAD k)).closePacket k true).lateFlit k f room
    | none => s.lateFlit k f room

/-- At the end of the apply the packets held are switched, each port's in order, and the packet in progress on a port goes on
(R398). -/
def State.switchHeld (s : State) : State :=
  let l := s.fab.heldRx
  let s := { s with fab := { s.fab with heldRx := [] } }
  ((l.map (·.1)).eraseDups).foldl (fun s k =>
    let now := (s.port k).openRx
    let s := (l.filter (fun e => e.1 == k)).foldl (fun s e =>
      let (_, f, c) := e
      let s := s.releaseCell c (.queue k f.vc)
      let n := s.credCells k f.vc
      let first := f.fidx == 0
      let s := if first then s.setPort k { s.port k with openRx := some (s.newOpen k f) } else s
      let s := (s.rxPacket k f first true).setOpen k (fun o => { o with fidx := f.fidx + 1 })
      let s := if f.last then s.closePacket k false else s
      if n < s.credCells k f.vc then s else s.freeCredit k f.vc) s
    if now.any (fun o => decide (o.inVc < 4)) then s.setPort k { s.port k with openRx := now } else s) s

/-- A class Q or M flit (R344, R345): it takes a credit, free again at once where no cell keeps the flit. -/
def State.rxReplayed (s : State) (k : Nat) (f : Flit) (failing room : Bool) : State :=
  let p := s.port k
  let i := f.vc - 4
  let init := if f.vc < 6 then s.rd (LK_CREDIT_INITQ k) else s.rd (LK_CREDIT_INITM k)
  if p.rxDiscard then s
  else if init ≤ p.used.getD i 0 then
    let s := if p.overT then s else (s.setPort k { p with overT := true }).fault .link 1 0 (mPort k) 4
    s.badSlot k
  else if failing then s.badSlot k
  else
    let n := (p.rxSeq + 1) % 256
    let p := { p with rxSeq := n, rxAcc := p.rxAcc + 1, used := p.used.set i (p.used.getD i 0 + 1) }
    let s := if 4 ≤ p.rxAcc then (s.setPort k { p with rxAcc := 0 }).queueLack k n else s.setPort k p
    let m := s.credCells k f.vc
    let s := s.orderFlit k f room
    if m < s.credCells k f.vc then s else s.freeCredit k f.vc

/-- A flit slot: the receive unit's judgment (R477, R481, R482), then its class. -/
def State.rxFlit (s : State) (k : Nat) (h data : List Byte) (unc stomp room : Bool) : State :=
  let failing := unc || stomp
  match parseFlit h data ⟨0, 0, false, false⟩ with
  | none => s.badSlot k
  | some f =>
    let key := tmKey f.vc (if f.isData then f.addr else 0)
    let item := if f.isData then f.alive else (s.port k).rxSeq
    let s :=
      if unc then (s.tmFailing k 1).tmRecord k key item data false
      else if stomp then (s.inc (TM_FAIL k)).fault .link 0 0 (mUnit k)
      else s.tmResolve k key item data
    let (c, s) := s.genCheck k data failing
    let f := { f with check := c }
    if f.isData then s.orderFlit k f room else s.rxReplayed k f failing room

/-! ### Symbols -/

/-- The body of a unit in absolute bit places (R335). -/
def symBody (u : List Byte) : Nat := unitField u 8 112 * 2 ^ 8

/-- A port whose partner proves to be a fenced node is fenced (R414). -/
def State.fencePeer (s : State) (k : Nat) : State :=
  if !isEndpoint k && decide (4 ≤ s.rd (LK_STAT_STATE k)) && s.rd (LK_PEER_ROLE k) == 0 && s.listFenced 2 (s.rd (LK_PEER_COORD k)) then s.fencePort1 k true
  else s

/-- A control symbol of one of the given types is received at `sub` 1/64 ticks past the tick (R335, R336). -/
def State.rxSymbol (s : State) (k : Nat) (allowed : List Nat) (u : List Byte) (sub : Nat) : State :=
  if s.rd (LK_STAT_STATE k) < 4 then s
  else
    match symType u with
    | none => s.inc (LK_CSYM k)
    | some ty =>
      let b := symBody u
      if !allowed.contains ty then s
      else
        match ty with
        | 1 => s.barrierRx k b (64 * s.now + sub % 64)
        | 2 => s.timeinfoRx k b
        | 3 => s.barevtRx k b
        | 5 => s.techoRx k b (64 * s.now + sub % 64)
        | 8 => s.ackRx k b
        | 9 => s.creditRx k b
        | 10 => s.lackRx k (b / 2 ^ 8 % 256)
        | 11 => s.retryRx k (b / 2 ^ 8 % 256)
        | 12 => s.replayRx k (b / 2 ^ 8 % 256)
        | 16 => (s.identRx k 16 b).fencePeer k
        | 17 => s.identRx k 17 b
        | 18 => s.identRx k 18 b
        | 19 => s.linkupRx k
        | 20 => s.linkdownRx k
        | _ => s

/-- Every symbol type. -/
def allTypes : List Nat := List.range 21

/-- BARRIER_RX (R85, R337). -/
def execBarrierRx (t k : Nat) (u : List Byte) (sub : Nat) (s : State) : Host.Outcome State Fault Refusal :=
  .next ((s.at t).rxSymbol k [1] u sub)
/-- TIMEINFO_RX (R84, R337). -/
def execTimeinfoRx (t k : Nat) (u : List Byte) (s : State) : Host.Outcome State Fault Refusal :=
  .next ((s.at t).rxSymbol k [2] u 0)
/-- TECHO_RX (R338). -/
def execTechoRx (t k : Nat) (u : List Byte) (sub : Nat) (s : State) : Host.Outcome State Fault Refusal :=
  .next ((s.at t).rxSymbol k [5] u sub)
/-- READY_RX: a BAREVT symbol that carries READY (R93, R94). -/
def execReadyRx (t k : Nat) (u : List Byte) (s : State) : Host.Outcome State Fault Refusal :=
  .next (if symBody u / 2 ^ 8 % 4 = 1 ∨ symType u = none then (s.at t).rxSymbol k [3] u 0 else s.at t)
/-- START_RX: a BAREVT symbol that carries START (R93, R95). -/
def execStartRx (t k : Nat) (u : List Byte) (s : State) : Host.Outcome State Fault Refusal :=
  .next (if symBody u / 2 ^ 8 % 4 = 2 ∨ symType u = none then (s.at t).rxSymbol k [3] u 0 else s.at t)
/-- ACK_RX (R339, R341, R406). -/
def execAckRx (t k : Nat) (u : List Byte) (s : State) : Host.Outcome State Fault Refusal :=
  .next ((s.at t).rxSymbol k [8] u 0)
/-- CREDIT_RX (R344). -/
def execCreditRx (t k : Nat) (u : List Byte) (s : State) : Host.Outcome State Fault Refusal :=
  .next ((s.at t).rxSymbol k [9] u 0)
/-- LACK_RX (R345). -/
def execLackRx (t k : Nat) (u : List Byte) (s : State) : Host.Outcome State Fault Refusal :=
  .next ((s.at t).rxSymbol k [10] u 0)
/-- RETRY_RX (R345). -/
def execRetryRx (t k : Nat) (u : List Byte) (s : State) : Host.Outcome State Fault Refusal :=
  .next ((s.at t).rxSymbol k [11] u 0)
/-- REPLAY_RX (R345). -/
def execReplayRx (t k : Nat) (u : List Byte) (s : State) : Host.Outcome State Fault Refusal :=
  .next ((s.at t).rxSymbol k [12] u 0)
/-- IDENT_RX (R347, R348). -/
def execIdentRx (t k : Nat) (u : List Byte) (s : State) : Host.Outcome State Fault Refusal :=
  .next ((s.at t).rxSymbol k [16, 17, 18] u 0)
/-- LINKUP (R346, R347). -/
def execLinkup (t k : Nat) (u : List Byte) (s : State) : Host.Outcome State Fault Refusal :=
  .next ((s.at t).rxSymbol k [19] u 0)
/-- LINKDOWN_RX (R350). -/
def execLinkdownRx (t k : Nat) (u : List Byte) (s : State) : Host.Outcome State Fault Refusal :=
  .next ((s.at t).rxSymbol k [20] u 0)

/-- Codewords that ended with a slot are counted; 64 uncorrectable ones in a row take the port down (R350, R357). -/
def State.countWords (s : State) (k : Nat) (ws : List CwOut) : State :=
  ws.foldl (fun s w =>
    let p := s.port k
    match w with
    | .uncorrectable =>
      let s := (s.setPort k { p with badRun := p.badRun + 1 }).inc (LK_UNCORR k)
      if 64 ≤ p.badRun + 1 ∧ 4 ≤ s.rd (LK_STAT_STATE k) then s.portDown k 5 else s
    | .corrected =>
      let n := min (s.rd64 (LK_CORR_LO k) + 1) (2 ^ 64 - 1)
      (s.setPort k { p with badRun := 0 }).wr64 (LK_CORR_LO k) n
    | _ => s.setPort k { p with badRun := 0 }) s

/-- SLOT_RECEIVE: an idle slot's symbols, a flit, or a bad slot (R326, R332, R335), out of the codewords that the port's FEC decodes
(R327). -/
def State.slotReceive (s : State) (k : Nat) (x : SlotRx) : State :=
  if s.rd (LK_STAT_STATE k) < 4 then s
  else
    let units := slotUnits x (s.heavy k)
    let s := s.countWords k (slotEnded x (s.heavy k))
    match units with
    | [] => s.badSlot k
    | (h, w) :: rest =>
      if s.rd (LK_STAT_STATE k) < 4 then s
      else if w = .uncorrectable then s.badSlot k
      else if unitField h 0 2 = 2 then
        units.foldl (fun s u => if u.2 = .uncorrectable then s.inc (LK_CSYM k) else s.rxSymbol k allTypes u.1 0) s
      else if s.portUp k then
        s.rxFlit k h (rest.flatMap (·.1)) (rest.any (fun u => u.2 == .uncorrectable)) (rest.any (fun u => u.2 == .stomped)) x.logOk
      else s.badSlot k

def execSlotReceive (t k : Nat) (x : SlotRx) (s : State) : Host.Outcome State Fault Refusal :=
  .next ((s.at t).slotReceive k x)

end Sys2Proof.Machine
end

