-- ==== Sys2Proof/Machine/Late.lean ====
section
/-! DEFINITION. Release gates and late steps (R103 to R107), and the record of a failed split request (R535). -/

namespace Sys2Proof.Machine

/-- Whether a result that became ready at tick `ready` may leave now, with release tick `rel` (R103). -/
def State.mayRelease (s : State) (rel ready : Nat) : Bool := decide (rel ≤ s.now) && (decide (ready ≤ rel) || decide (ready < s.now))

/-- Whether a result that leaves now is late (R105). -/
def State.isLate (s : State) (rel : Nat) : Bool := decide (rel < s.now)

/-- The unit whose result is late, by the kinds of TG_LATE_UNIT: its Bench, collective, stage or Stock engine raised the check (R516,
DEDUCED, log 70). -/
def gateMaster (kind unit : Nat) : Master :=
  match kind with
  | 0 => mBench unit
  | 1 => mDesc unit
  | 2 => mTemper unit
  | 3 => mStock unit
  | _ => mNone

/-- A result that became ready at tick `ready` leaves its release gate (R100, R103 to R105): its slack, or the late step. -/
def State.release (s : State) (kind unit rel ready : Nat) : State :=
  let s := { s with tg := { s.tg with lastRelease := max s.tg.lastRelease s.now } }
  if s.isLate rel then
    let first := s.rd TG_LATE_COUNT == 0
    let s := (s.inc TG_LATE_COUNT).wr TG_SLACK_MIN 0
    if first then
      let s := s.wr TG_LATE_UNIT (kind * 2 ^ 28 + unit)
      let s := (s.wr64 TG_LATE_REL_LO rel).wr64 TG_LATE_ACT_LO s.now
      (s.wrBit TG_STATUS_TIMING_LOST true).fault .sched 0 0 (gateMaster kind unit)
    else s
  else s.wr TG_SLACK_MIN (min (s.rd TG_SLACK_MIN) (rel - ready))

/-- The act of a Bench's gate (R188, R197, R203). -/
def State.gateAct (s : State) (l : Nat) (a : GateAct) : State :=
  match a with
  | .store ws b p => (s.storeSpans l ws).markSlot l b p .performed
  | .post c b p => (s.postSync c).markSlot l b p .complete

/-- The least of a list by a key; the first where several have it. -/
def leastBy {α : Type} (key : α → Nat) : List α → Option α
  | [] => none
  | x :: xs => match leastBy key xs with
    | some y => if key y < key x then some y else some x
    | none => some x

/-- The memory targets that a held result writes. -/
def Gate.targets (g : Gate) : List (Option Nat) := match g.act with | .store ws _ _ => ws.map (fun w => targetOf w.1) | .post _ _ _ => []

/-- Whether an earlier ST of the same Bench to a target of this one is still held: transfers of one mover to one destination complete in
the order issued (R150). -/
def State.behindStore (s : State) (g : Gate) : Bool :=
  (s.tg.gates.takeWhile (fun e => e ≠ g)).any (fun e => e.kind == g.kind && e.unit == g.unit && e.targets.any g.targets.contains)

/-- RESULT_RELEASE of a unit: of the held results that may leave, the one with the earliest release tick leaves (R103). -/
def State.resultRelease (s : State) (kind unit : Nat) : State :=
  match leastBy (·.rel) (s.tg.gates.filter (fun g =>
      g.kind == kind && g.unit == unit && s.mayRelease g.rel g.ready && !s.behindStore g)) with
  | none => s
  | some g =>
    let s := { s with tg := { s.tg with gates := s.tg.gates.erase g } }
    (s.release g.kind g.unit g.rel g.ready).gateAct g.unit g.act

/-- RESULT_RELEASE: a result leaves at its release tick, or at the first tick after it is ready (R103). -/
def execResultRelease (t kind unit : Nat) (s : State) : Host.Outcome State Fault Refusal :=
  .next ((s.at t).resultRelease kind unit)

/-! ### Split requests -/

/-- The memory targets of a span: HBM groups, and Ingot dies (R535). -/
def spanGroups (a n : Nat) : List Nat :=
  (List.range 8).flatMap (fun h =>
    let lo := max a (h * stackSize)
    let hi := min (a + n) ((h + 1) * stackSize)
    if lo < hi then (List.range (min 16 ((hi - 1) / 256 - lo / 256 + 1))).map (fun i => groupOf (lo / 256 * 256 + 256 * i)) else [])
def spanDies (a n : Nat) : List Nat :=
  (List.range 2).filter (fun d => decide (0 < n ∧ a < ingotBase + (d + 1) * 2 ^ 28 ∧ ingotBase + d * 2 ^ 28 < a + n))

/-- Bits of a list of bit numbers. -/
def bitMask (l : List Nat) : Nat := l.eraseDups.foldl (fun m i => m + 2 ^ i) 0

/-- A split request failed (R535): its record, the first one kept in FLT_SPLIT_INFO, always hallmarked. `spans` are its parts,
`bad` the spans that failed. -/
def State.splitFail (s : State) (m : Master) (status seam : Nat) (spans bad : List (Nat × Nat)) : State :=
  let gs (l : List (Nat × Nat)) := (l.flatMap (fun x => spanGroups x.1 x.2)).eraseDups
  let ds (l : List (Nat × Nat)) := (l.flatMap (fun x => spanDies x.1 x.2)).eraseDups
  let map := bitMask (gs bad)
  let ing := bitMask (ds bad)
  let parts := min 255 ((gs spans).length + (ds spans).length)
  let s :=
    if s.bit FLT_SPLIT_INFO_VALID then s
    else
      let s := ((s.wr FLT_SPLIT_INFO_MASTER m.code).wr FLT_SPLIT_INFO_STATUS status).wr FLT_SPLIT_INFO_ING ing
      let s := ((s.wr FLT_SPLIT_INFO_PARTS parts).raise FLT_SPLIT_INFO_VALID).wr64 FLT_SPLIT_SEAM_LO seam
      (List.range 4).foldl (fun s i => s.wr (FLT_SPLIT_MAP i) (map / 2 ^ (32 * i) % 2 ^ 32)) s
  s.hall 0x15 (leBytes 2 m.code ++ [BitVec.ofNat 8 status, BitVec.ofNat 8 ing] ++ leBytes 8 seam ++ leBytes 16 map)

/-- Contexts that Stock pooling holds on Crucible c (R288). -/
def State.stockCtx (s : State) (c : Nat) : Nat := (s.stock.lookups.filter (fun x => x.cru == c)).length

/-! ### Cells handed to units -/

/-- A unit of this node has taken a flit of label `l`, or of the packets from source `l`, that came in on port `k`: its end has room for
one more, and an ACK says so when ROOM rises from 0 (R340). -/
def State.tookFlit (s : State) (l k : Nat) (lbl : Bool := true) : State :=
  match s.fab.rxs.find? (fun x => x.port == k && x.lbl == lbl && x.key == l) with
  | none => s
  | some x =>
    let s := s.setRx { x with room := x.room + 1 }
    if x.room = 0 then s.sendAck { x with room := 1 } false else s

/-- Flags of a Crucible, with the notes of first occurrences since the apply (R142, R143). -/
def State.cruFlags (s : State) (c : Nat) (f : Flags) : State :=
  let f := f &&& 0x1F
  if f = 0 then s
  else
    let a := (NUM_CFLAGS_T_INVALID c).addr
    let s := s.raiseBits a (f.setWidth 32)
    let s := if f &&& tInvalid ≠ 0 ∧ 2048 + c ∉ s.mill.noted then
        ({ s with mill := { s.mill with noted := (2048 + c) :: s.mill.noted } }).fault .num 0 0 (mCrucible c) 6
      else s
    if f &&& aiNan ≠ 0 ∧ 4096 + c ∉ s.mill.noted then
      ({ s with mill := { s.mill with noted := (4096 + c) :: s.mill.noted } }).fault .num 1 0 (mCrucible c) 6
    else s

end Sys2Proof.Machine
end

