-- ==== Sys2Proof/Machine/TemperBase.lean ====
section
/-! DEFINITION. The TEMPER part (R255, R256), the state copies (R259), and what a collective has to know of its stage. -/

namespace Sys2Proof.Machine

def nump (img : List Byte) : List Byte := sect img tyNUMP
/-- Stage descriptors and layer entries of an image (R140, R255): none where the section is its head alone. -/
def nStg (img : List Byte) : Nat := leAt (nump img) 72 2
def nLayer (img : List Byte) : Nat := leAt (nump img) 74 2
/-- A field of stage descriptor s (R256). -/
def stgF (img : List Byte) (s o n : Nat) : Nat := leAt (nump img) (128 + 64 * s + o) n

def stgRule (img : List Byte) (s : Nat) : Nat := stgF img s 0 1
def stgW (img : List Byte) (s : Nat) : Fmt := (Fmt.ofCode (stgF img s 1 1)).getD .fp32
def stgS (img : List Byte) (s : Nat) : Fmt := (Fmt.ofCode (stgF img s 2 1)).getD .fp32
def stgGroup (img : List Byte) (s : Nat) : Nat := stgF img s 4 2
def stgLayer0 (img : List Byte) (s : Nat) : Nat := stgF img s 6 2
def stgNl (img : List Byte) (s : Nat) : Nat := stgF img s 8 2
def stgAg (img : List Byte) (s : Nat) : Nat := stgF img s 10 2
def stgNorm (img : List Byte) (s : Nat) : Nat := stgF img s 12 2
def stgSync (img : List Byte) (s : Nat) : Nat := stgF img s 14 2
def stgCopy (img : List Byte) (s : Nat) (one : Bool) : Nat := stgF img s (if one then 24 else 16) 5
def stgTag (img : List Byte) (s : Nat) : Nat := stgF img s 32 5
def stgStep0 (img : List Byte) (s : Nat) : Nat := stgF img s 40 8
def stgRelOff (img : List Byte) (s : Nat) : Nat := stgF img s 48 4
def stgPeriod (img : List Byte) (s : Nat) : Nat := stgF img s 52 4
def stgBcell (img : List Byte) (s : Nat) : Nat := stgF img s 56 2

/-- The stage that a REDUCESCATTER feeds, if any (R228, R238). -/
def colStage (img : List Byte) (d : Nat) : Option Nat :=
  if colOp img d = 1 ∧ colTemper img d ≠ 0xFFFF then some (colTemper img d) else none

/-- The stage whose updated weights an ALLGATHER takes, and the one whose norms an ALLREDUCE sums (R256). -/
def agStage (img : List Byte) (d : Nat) : Option Nat := (List.range (nStg img)).find? (fun s => stgAg img s == d)
def normStage (img : List Byte) (d : Nat) : Option Nat :=
  (List.range (nStg img)).find? (fun s => stgRule img s == 2 && stgNorm img s == d)

/-- The REDUCESCATTER of a stage (R258). -/
def stgDesc (img : List Byte) (s : Nat) : Option Nat := (List.range (nCol img)).find? (fun d => colStage img d == some s)

/-- Bytes of an array of n elements of a format, up to whole cells (R259). -/
def arrBytes (f : Fmt) (n : Nat) : Nat := ((n * f.bits + 7) / 8 + 255) / 256 * 256

/-- Offsets of the arrays of a copy of S elements and its size (R259): moment, second moment, end. -/
def copyM (img : List Byte) (s S : Nat) : Nat := arrBytes (stgW img s) S
def copyV (img : List Byte) (s S : Nat) : Nat := copyM img s S + arrBytes (stgS img s) S
def copySize (img : List Byte) (s S : Nat) : Nat :=
  if stgRule img s = 0 then copyV img s S else copyV img s S + arrBytes (stgS img s) S

/-- The spans of a stage on this node (R260). -/
def stgSpans (img : List Byte) (s S : Nat) : List (Nat × Nat) :=
  if S = 0 then [(stgTag img s, 16)]
  else [(stgCopy img s false, copySize img s S), (stgCopy img s true, copySize img s S), (stgTag img s, 16)]

/-- A step of a stage stops (R259, R263): its status is recorded, and nothing else of it stays. -/
def State.temperStop (s : State) (stage status : Nat) : State :=
  let s := (s.wr (NUM_TSTAT_STATE stage) 0).wr (NUM_TSTAT_STATUS stage) status
  { s with temper := { s.temper with
      steps := s.temper.steps.filter (fun x => x.stage ≠ stage)
      slices := s.temper.slices.filter (fun x => x.1 ≠ stage) } }

end Sys2Proof.Machine
end

