-- ==== Sys2Proof/Machine/Coll.lean ====
section
/-! DEFINITION. Collectives (07): the arithmetic of the Crucibles (R239 to R242), what goes to endpoints and to other nodes (R235, R236,
R244), and how an instance ends (R233 to R235, R251). -/

namespace Sys2Proof.Machine

/-! ### Arithmetic -/

/-- Order of two values that are no NaNs, zeros of both signs equal (R241). -/
def Num.lt (x y : Num) : Bool :=
  let sg (n : Bool) (m : Nat) : Int := if n then -(m : Int) else m
  match x, y with
  | .inf a, .inf b => a && !b
  | .inf a, _ => a
  | _, .inf b => !b
  | .fin n m e, .fin n' m' e' =>
    let q := min e e'
    decide (sg n m * 2 ^ (e - q).toNat < sg n' m' * 2 ^ (e' - q).toNat)
  | _, _ => false

/-- MAX or MIN of two codes of one format (R241): a NaN gives the canonical NaN, a zero is +0. -/
def extremeOf (f : Fmt) (mx : Bool) (x y : Nat) : Nat × Flags :=
  match f.decode x, f.decode y with
  | .nan _, _ | _, .nan _ =>
    let (c, fl) := f.ofNum ⟨false, false, .rne⟩ (.nan false)
    (c, fl ||| tInvalid)
  | a, b =>
    let c := if mx then (if a.lt b then y else x) else (if b.lt a then y else x)
    match f.decode c with
    | .fin _ 0 _ => (0, 0)
    | _ => (c, 0)

/-- A value divided by a whole number, exact enough for one rounding to any format (R240). -/
def Num.divNat (v : Num) (d : Nat) : Num :=
  match v with
  | .fin n m e =>
    let k := 256 + Nat.log2 (d + 1)
    let x := m * 2 ^ k
    .fin n (2 * (x / d) + (if x % d = 0 then 0 else 1)) (e - k - 1)
  | x => x

/-- What one step of a pass does with two elements (R134, R135, R239, R241). -/
def combineElem (img : List Byte) (d phase : Nat) (pol : NumPolicy) (x y : Nat) : Nat × Flags :=
  if phase = 1 then (max x y, 0)
  else match colMode img d with
    | 1 => ((x + y) % 2 ^ 48, 0)
    | 2 => ((x + y) % 2 ^ 64, 0)
    | 3 => ((x + y) % 2 ^ 80, 0)
    | _ => match colFunc img d with
      | 2 => extremeOf (colFmt img d) true x y
      | 3 => extremeOf (colFmt img d) false x y
      | _ => dataAdd (colFmt img d) pol x y

/-- Width w and container bits of the aligned integers of a descriptor (R133). -/
def colW (img : List Byte) (d : Nat) : Nat := match colMode img d with | 1 => 24 | 2 => 40 | _ => 56
def colBox (img : List Byte) (d : Nat) : Nat := match colMode img d with | 1 => 48 | 2 => 64 | _ => 80

/-- Bits of an element as it travels: exponent bytes, containers, or the data format; results in the result format. -/
def colBits (img : List Byte) (d phase : Nat) (down : Bool) : Nat :=
  if phase = 1 then 8
  else if down then (colRes img d).bits
  else if colMode img d = 0 then (colFmt img d).bits else colBox img d

/-- The root's element (R135, R240, R242): the final value, AVG's division, the result format. `byte` is the combined exponent
byte of its block. -/
def rootElem (img : List Byte) (d : Nat) (pol : NumPolicy) (byte x : Nat) : Nat × Flags :=
  let rf := colRes img d
  let n := colMembers img d
  if colMode img d = 0 then
    let f := colFmt img d
    if colFunc img d = 1 then rf.ofNum pol ((f.decode x).divNat n)
    else if f = rf then (x, 0) else rf.ofNum pol (f.decode x)
  else
    let w := colW img d
    let sum := sext (colBox img d) x
    if colFunc img d = 1 ∧ byte ≠ 0 ∧ byte ≠ 0xFF then
      rf.ofNum pol ((Num.ofInt sum ((byte : Int) - 127 - (w : Int) + 2)).divNat n)
    else aiResult w byte rf pol sum

/-- The numeric policy in force (R141). -/
def State.numPol (s : State) : NumPolicy :=
  ⟨s.bit NUM_POLICY_OVF, s.bit NUM_POLICY_SUBN, Rm.ofCode (s.rd NUM_POLICY_STRICT_RM)⟩

/-- Flags of a vector operation go to the Crucibles that served its cells (R222). -/
def State.vecFlags (s : State) (d die bits : Nat) (fs : List Flags) : State :=
  (fs.zipIdx.filter (fun x => x.1 ≠ 0)).foldl (fun s x => s.cruFlags (colCru s.cst.img d die (x.2 * bits / 2048)) x.1) s

/-- Beats of the Crucibles that serve the cells of a vector (R222, R254). -/
def State.vecBeats (s : State) (d die bits n : Nat) : State :=
  (List.range ((n * bits + 2047) / 2048)).foldl (fun s i => s.add64 (CRU_CBEATS_LO (colCru s.cst.img d die i)) 1) s

/-- Two vectors combined element by element; an absent one adds nothing (R238). -/
def State.combine (s : State) (d phase die : Nat) (x y : Option (List Nat)) : Option (List Nat) × State :=
  match x, y with
  | none, v | v, none => (v, s)
  | some a, some b =>
    let img := s.cst.img
    let rs := (a.zip b).map (fun p => combineElem img d phase s.numPol p.1 p.2)
    (some (rs.map (·.1)), s.vecFlags d die (colBits img d phase false) (rs.map (·.2)))

/-! ### Geometry of an instance -/

/-- Members of the instance in this node, M_N (R225). -/
def CollInst.mn (i : CollInst) : Nat := i.mem.length

/-- The logical rank of an in-node rank of this instance. -/
def CollInst.logical (i : CollInst) (img : List Byte) (r : Nat) : Nat := grpLogical img (colGroup img i.desc) i.mn r

/-! ### Instances in the state -/

/-- Replace an instance. -/
def State.setInst (s : State) (i : CollInst) : State :=
  { s with coll := { s.coll with insts := s.coll.insts.map (fun x => if x.desc = i.desc ∧ x.g = i.g then i else x) } }

/-- The instance of a descriptor and in-node instance. -/
def State.inst? (s : State) (d g : Nat) : Option CollInst := s.coll.insts.find? (fun x => x.desc == d && x.g == g)

/-- Contexts held on Crucible c by running instances and by Stock pooling (R221, R288). -/
def State.ctxOf (s : State) (c : Nat) : Nat :=
  ((s.coll.insts.filter (fun i => !i.waiting && (colSet s.cst.img i.desc).contains c)).length) + s.stockCtx c

/-- The context and hold registers follow the instances (R252 to R254). -/
def State.cruSync (s : State) : State :=
  let s := (List.range 128).foldl (fun s c => s.wr (CRU_CSTAT_CTX c) (s.ctxOf c)) s
  let s := s.wr CRU_ACTIVE_INUSE ((List.range 128).map s.ctxOf).sum
  let h0 := s.acctUse 0 .cru
  let h1 := s.acctUse 1 .cru
  let s := (s.wr CRU_HOLD_S0_CELLS h0).wr CRU_HOLD_S1_CELLS h1
  (s.wr CRU_HOLDPK_S0_PEAK (max h0 (s.rd CRU_HOLDPK_S0_PEAK))).wr CRU_HOLDPK_S1_PEAK (max h1 (s.rd CRU_HOLDPK_S1_PEAK))

/-- The cells that an instance holds are released (R251). -/
def State.dropHolds (s : State) (i : CollInst) : State := i.holds.foldl (fun s h => s.releaseCell h.cell (.cru i.desc)) s

/-! ### Delivery -/

/-- Cut bytes into flits of 256, the last padded with zeros (R237). -/
def toFlits (bs : List Byte) : List (List Byte) :=
  (List.range ((bs.length + 255) / 256)).map (fun i => slice bs (256 * i) 256)

/-- The die of an axis's ports (R22): W and X on S0, Y and Z on S1. -/
def axisDie (a : Nat) : Nat := a / 2

/-- The die that receives a member's cells: SELF's are read on S0 (log 20). -/
def memDie (n : Nat) : Nat := if n = 128 then 0 else n / 64

/-- The die on which the last in-node addition is done, that of a level's steps, and that of the root's rounding (R222). -/
def CollInst.inDie (i : CollInst) : Nat := (i.mem.map memDie).getLastD 0
def levelDie (img : List Byte) (d lv : Nat) : Nat := axisDie ((grpAxes img (colGroup img d)).getD lv 0)
def CollInst.valDie (i : CollInst) (img : List Byte) (lv : Nat) : Nat := if lv = 0 then i.inDie else levelDie img i.desc (lv - 1)
def CollInst.rootDie (i : CollInst) (img : List Byte) : Nat := i.valDie img (colMs img i.desc).length

/-- Flits of a collective leave the Crucibles of a die on label `l`, each a packet of its own, with the check of its Crucible (R235, R407,
R475; log 21). -/
def State.collFlits (s : State) (d die vc : Nat) (l : Nat → Option Nat) (keep : Nat → Bool) (bs : List Byte) : State :=
  (toFlits bs).zipIdx.foldl (fun s x =>
    match l x.2 with
    | none => s
    | some l =>
      let c := colCru s.cst.img d die x.2
      let (chk, s) := s.genCheck (tmCru c) x.1 false
      s.injectLabel (.coll d) l vc (c / 64) (reqCru c) true 0 x.1 chk keep) s

/-- Data for endpoint members goes out on LABEL_DN in VC1 (R235, R244). -/
def State.sendDown (s : State) (d die : Nat) (keep : Nat → Bool) (bs : List Byte) : State :=
  s.collFlits d die 1 (fun _ => some (colDn s.cst.img d)) keep bs

/-- The Mandrels on which a unit may inject toward the ports of `ports` on a VC: LOCAL FWD entries (R400, R407). -/
def State.mandrels (s : State) (vc : Nat) (ports : List Nat) : List Nat :=
  (List.range (leAt s.mand 0 4)).filter (fun l =>
    match mandEntry s.mand l with
    | some e => e.isLocal && e.act == 1 && e.vcs / 2 ^ vc % 2 == 1 && ports.contains e.port
    | none => false)

/-- A slice, a share or a segment goes to another node in whole flits, on the Mandrels of the Casting that leave by `ports` (R236, R237,
R246); no rule says which of them takes a flit (log 20). `key` names where it goes. -/
def State.sendNode (s : State) (d die vc key : Nat) (ports : List Nat) (bs : List Byte) : State :=
  let ls := s.mandrels vc ports
  s.collFlits d die vc (fun i => ls[Config.stepMandrel d key i % (if ls.length = 0 then 1 else ls.length)]?) (fun _ => true)
    (if bs = [] then [0] else bs)

/-- The ports by which a step leaves in a direction: the neighbour ports, or across a cut node the skip ports (R236, R419). -/
def State.stepPorts (s : State) (a : Nat) (plus : Bool) : List Nat :=
  let dir := 2 * a + (if plus then 0 else 1)
  s.dirPorts dir (if (imgCuts s.cst.img).contains (stepCode s.axis s.selfCode dir 1) then 2 else 1)

/-- Elements of `n` bits each as bytes, back to back, and `k` of them again (R116, R242). -/
def packCodes (n : Nat) (l : List Nat) : List Byte := if n = 4 then packElems .e2m1 l else l.flatMap (leBytes (n / 8))
def unpackCodes (n : Nat) (bs : List Byte) (k : Nat) : List Nat :=
  if n = 4 then unpackElems .e2m1 bs k else (List.range k).map (fun i => leAt bs (i * (n / 8)) (n / 8))

/-- Whether port k belongs to endpoint index n (R25). -/
def State.portOf (s : State) (n k : Nat) : Bool := (s.epPorts n).contains k

/-- Bytes dropped of an in-node sender's segments (R247). -/
def CollInst.dropOf (i : CollInst) (r : Nat) : Nat := ((i.dropped.filter (fun x => x.1 == r)).map (·.2)).sum

/-- The completion marker of R235. -/
def collMarker (d status seam drop : Nat) : List Byte :=
  leBytes 2 d ++ [BitVec.ofNat 8 status] ++ List.replicate 5 0 ++ leBytes 8 seam ++ leBytes 8 drop ++ List.replicate 232 0

/-- Markers go to every reachable endpoint member (R235, R251). -/
def State.sendMarkers (s : State) (i : CollInst) (status : Nat) : State :=
  i.mem.zipIdx.foldl (fun s x =>
    if x.1 = 128 ∨ s.epFenced x.1 = true then s
    else s.sendDown i.desc (i.rootDie s.cst.img) (s.portOf x.1) (collMarker i.desc status i.seam (i.dropOf x.2))) s

/-- The master of a collective's accesses: the first Crucible of its set (R231, R516; DEDUCED, log 20). -/
def State.collMaster (s : State) (d : Nat) : Master := mCrucible ((colSet s.cst.img d).getD 0 0)

/-- An instance ends: its contexts and cells are free. -/
def State.endInst (s : State) (i : CollInst) : State :=
  let s := s.dropHolds i
  let s := { s with coll := { s.coll with insts := s.coll.insts.filter (fun x => !(x.desc == i.desc && x.g == i.g)) } }
  (s.wr (CRU_DSTAT_CTX i.desc) 0).cruSync

/-- The memory spans that an instance reads or writes here (R230, R231). -/
def selfSpans (img : List Byte) (i : CollInst) : List (Nat × Nat) × List (Nat × Nat) :=
  let d := i.desc
  match i.mem.findIdx? (fun n => n == 128) with
  | none => ([], [])
  | some r =>
    let (lo, hi) := rsPart img d i.mn r
    let isRoot := i.logical img r == colRoot img d
    let full (f : Fmt) (n : Nat) : Nat := (n * f.bits + 7) / 8
    let src := match colOp img d with
      | 0 | 1 | 4 => full (colFmt img d) (colCount img d)
      | 2 => full (colFmt img d) (hi - lo)
      | 3 => if isRoot then full (colFmt img d) (colCount img d) else 0
      | 6 => 256
      | _ => 0
    let res := match colOp img d with
      | 0 | 2 | 3 => full (colRes img d) (colCount img d)
      | 1 => if colTemper img d = 0xFFFF then full (colRes img d) (hi - lo) else 0
      | 4 => if isRoot then full (colRes img d) (colCount img d) else 0
      | 6 => a2aBytes img d
      | _ => 0
    let up (n : Nat) : Nat := (n + 255) / 256 * 256
    ((if src = 0 then [] else [(colSrc img d, up src)]),
     (if res = 0 then [] else [(colDst img d false, up res), (colDst img d true, up res), (colTag img d, 16)]))

/-- An instance fails (R251): counted, captured, hallmarked, its members told, its resources freed, the split recorded (R535).
`bad` is the span that failed; a failed check of a cell, in a span without a poisoned word or in none at all, is an injection's work (R529;
log 61). -/
def State.failOne (s : State) (i : CollInst) (status : Nat) (bad : Option (Nat × Nat × Nat)) (lane : Option Nat := none) : State :=
  let d := i.desc
  let s := (s.wr (CRU_DSTAT_STATUS d) status).inc CRU_FAILS
  let s := if s.bit CRU_FIRST_VALID then s
    else ((s.wr CRU_FIRST_DESC d).wr CRU_FIRST_STATUS status).wrBit CRU_FIRST_VALID true
  let s := s.hall 0x14 (leBytes 2 d ++ [BitVec.ofNat 8 status, 0] ++ leBytes 8 i.seam)
  let (acc, a) := match bad with | some (a, n, acc) => (acc, if status = 4 then s.badAddr a n else a) | none => (7, 0)
  let parts : List (Nat × Nat) := match bad with
    | some (a, n, _) => if status = 4 then (s.badWords a n).map (fun w => (w, 1)) else [(a, n)]
    | none => []
  let s := match status with
    | 3 => s.faultConseq .link 2 3 (s.collMaster d)
    | 4 => match lane with
      | some c => s.fault .num 2 4 (mCrucible c) 6
      | none => s.fault .mem 2 4 (s.collMaster d) acc a (bad.all (fun (b : Nat × Nat × Nat) => (s.badWords b.1 b.2.1).isEmpty))
    | 5 => s.fault .sec 2 5 (s.collMaster d) acc a
    | _ => s
  let (r, w) := selfSpans s.cst.img i
  let s := if status = 6 then s
    else s.splitFail (mDesc d) status i.seam (r ++ w) parts
  (s.sendMarkers i status).endInst i

/-- With a REDUCESCATTER that feeds a stage the step stops with the same status, and AG fails with it or is not started (R263). -/
def State.failInst (s : State) (i : CollInst) (status : Nat) (bad : Option (Nat × Nat × Nat)) (lane : Option Nat := none) : State :=
  let img := s.cst.img
  let s := s.failOne i status bad lane
  match colStage img i.desc with
  | none => s
  | some st =>
    let s := s.temperStop st status
    let ag := stgAg img st
    if ag = 0xFFFF then s
    else match s.inst? ag i.g with
      | some a => s.failOne a status none lane
      | none =>
        let rest := s.coll.started.filter (fun e => !(e.1 == ag && e.2.1 == i.g))
        { s with coll := { s.coll with started := rest ++ [(ag, i.g, i.seam)] } }

/-- What NORM brought back, for the stage that waits for it (R266). -/
def State.normBack (s : State) (i : CollInst) : State :=
  match normStage s.cst.img i.desc with
  | none => s
  | some _ =>
    let v := (List.range (colChunks s.cst.img i.desc)).flatMap (fun j =>
      ((i.down.find? (fun x => x.phase == 0 && x.chunk == j && x.path == [])).bind (·.vec)).getD [])
    { s with temper := { s.temper with normOut := s.temper.normOut.filter (fun x => x.1 ≠ i.desc) ++ [(i.desc, v)] } }

/-- An instance completes at the release of its last chunk (R233 to R235). -/
def State.completeInst (s : State) (i : CollInst) : State :=
  let img := s.cst.img
  let d := i.desc
  let (_, w) := selfSpans img i
  let (ok, s) :=
    if w = [] then (true, s)
    else s.memWrite (s.collMaster d) (colTag img d)
      (leBytes 8 i.seam ++ [if i.dst1 then 1 else 0] ++ List.replicate 7 0)
  if !ok then s.failInst i 4 (some (colTag img d, 16, 1))
  else
    let s := (((s.wr (CRU_DSTAT_STATUS d) 2).inc (CRU_DRUNS d)).wr64 (CRU_DSEAM_LO d) i.seam).normBack i
    let s := if colSyncOut img d = 0xFFFF then s else s.postSync (colSyncOut img d)
    (s.sendMarkers i 2).endInst i

end Sys2Proof.Machine
end

