-- ==== Sys2Proof/Machine/CollPath.lean ====
section
/-! DEFINITION. The path of a chunk through the hierarchy (R236 to R243), the segments of an ALLTOALL (R246 to R248), and the owner-pool
cells that an instance holds (R220). -/

namespace Sys2Proof.Machine

/-! ### The chunks of an instance -/

/-- Codes of elements `lo` to `hi` of a member's contribution. -/
def memElems (f : Fmt) (x : CollIn) (lo hi : Nat) : List Nat := (unpackElems f x.bytes hi).drop lo

/-- Whether a member's contribution reaches element `hi`. -/
def hasElems (f : Fmt) (x : CollIn) (hi : Nat) : Bool := decide (hi * f.bits ≤ 8 * x.bytes.length)

/-- The block exponent bytes of a list of codes (R134). -/
def blockBytes (f : Fmt) (blk : Nat) (cs : List Nat) : List Nat :=
  (List.range ((cs.length + blk - 1) / blk)).map (fun i => aiByte (((cs.drop (blk * i)).take blk).map f.decode))

/-- A known value on the way down. -/
def CollInst.downAt (i : CollInst) (phase j : Nat) (path : List Nat) : Option (List Nat) :=
  (i.down.find? (fun v => v.phase == phase && v.chunk == j && v.path == path)).bind (·.vec)
def CollInst.upAt (i : CollInst) (phase j : Nat) (path : List Nat) : Option CollVal :=
  i.up.find? (fun v => v.phase == phase && v.chunk == j && v.path == path)

/-- What one member adds to the node value of chunk j in a pass (R134, R135, R242). -/
def memberVec (img : List Byte) (i : CollInst) (phase j : Nat) (x : CollIn) : List Nat :=
  let d := i.desc
  let f := colFmt img d
  let lo := j * colC img d
  let cs := memElems f x lo (lo + colN img d j)
  let blk := grpBlk img (colGroup img d)
  if colMode img d = 0 then cs
  else if phase = 1 then blockBytes f blk cs
  else
    let bytes := (i.downAt 1 j []).getD []
    cs.zipIdx.map (fun c => toBits (colBox img d) (aiInt (colW img d) (bytes.getD (c.2 / blk) 0) (f.decode c.1)))

/-- The node value of chunk j, once every contribution it needs has arrived: none before, some none where no member here
contributes (R238, R239, R242). -/
def State.nodeVec (s : State) (i : CollInst) (phase j : Nat) : Option (Option (List Nat) × State) :=
  let img := s.cst.img
  let d := i.desc
  let f := colFmt img d
  let hi := j * colC img d + colN img d j
  let ms := i.mem.zip i.ins
  if (normStage img d).isSome then
    (s.temper.normIn.find? (fun x => x.1 == d)).map (fun x => (some ((x.2.drop (j * colC img d)).take (colN img d j)), s))
  else match colOp img d with
  | 5 => if i.ins.all (·.arrived) then some (some [], s) else none
  | 3 =>
    if rootHere img d i.mn then
      match i.ins[rankN i.mn (colRoot img d)]? with
      | some x => if hasElems f x hi then some (some (memberVec img i phase j x), s) else none
      | none => some (none, s)
    else some (none, s)
  | _ =>
    if i.ins.all (fun x => hasElems f x hi) then
      let norm (v : List Nat) : List Nat :=
        if phase = 0 ∧ colMode img d = 0 ∧ 2 ≤ colFunc img d then
          v.map (fun x => (extremeOf f (colFunc img d == 2) x x).1) else v
      some (ms.foldl (fun (a : Option (List Nat) × State) m =>
        let v := memberVec img i phase j m.2
        match a.1 with
        | none => (some (norm v), a.2)
        | some _ => a.2.combine d phase (memDie m.1) a.1 (some v)) (none, s))
    else none

/-- An exponent byte 0xFF was combined (R253). -/
def State.sawNan (s : State) (d phase : Nat) (v : List Nat) : State :=
  if phase = 1 ∧ v.contains 0xFF = true then s.raise (CRU_DSTAT_AI_NAN d) else s

/-- The node value enters the hierarchy (R236, R242): pass 2 of an aligned-integer chunk waits for its start. -/
def State.collEnter (s : State) (i : CollInst) (phase j : Nat) : CollInst × State :=
  let img := s.cst.img
  let d := i.desc
  if (i.upAt phase j []).isSome || colOp img d == 2 || colOp img d == 6 then (i, s)
  else if phase = 0 && colMode img d != 0 && colOp img d != 5 && !i.pass2.contains j then (i, s)
  else match s.nodeVec i phase j with
    | none => (i, s)
    | some (v, s) => ({ i with up := i.up ++ [⟨phase, j, [], v⟩] }, s.sawNan d phase (v.getD []))

/-- A partial that a step of slice r waits for: an empty slice brings nothing but a barrier's marker. -/
def CollInst.partIn (i : CollInst) (img : List Byte) (phase j : Nat) (path : List Nat) (r side : Nat) (lv : Nat) (from' : List Nat) :
    Option (Option (List Nat)) :=
  if !from'.any (termThere img i.desc i.mn lv) then some none
  else match i.parts.find? (fun p => p.phase == phase && p.chunk == j && p.path == path && p.slice == r && p.side == side) with
    | some p => some (some p.vec)
    | none =>
      if (colPath img i.desc phase j (path ++ [r])).2 = 0 ∧ colOp img i.desc ≠ 5 then some (some []) else none

/-- A step of slice r at a level, if its inputs are there (R239, R419, R420): this node's part in the plan. -/
def State.collStep (s : State) (i : CollInst) (v : CollVal) (r : Nat) : CollInst × State :=
  let img := s.cst.img
  let d := i.desc
  let lv := v.path.length
  let k := colRank img d lv
  let plan := colPlan img d v.chunk lv r
  let lo := (colPath img d v.phase v.chunk v.path).1
  let x := colPath img d v.phase v.chunk (v.path ++ [r])
  let own := v.vec.map (fun l => (l.drop (x.1 - lo)).take x.2)
  let die := levelDie img d lv
  let axis := (grpAxes img (colGroup img d)).getD lv 0
  let inp (side : Nat) (from' : List Nat) := i.partIn img v.phase v.chunk v.path r side lv from'
  let mark (side : Nat) (i : CollInst) : CollInst := { i with steps := i.steps ++ [(v.phase, v.chunk, v.path, r, side)] }
  let done (side : Nat) : Bool := i.steps.contains (v.phase, v.chunk, v.path, r, side)
  if k = plan.fin then
    if done 2 then (i, s)
    else match inp 0 plan.left, inp 1 plan.right with
      | some a, some b =>
        let (t, s) := if plan.ownFirst then s.combine d v.phase die a own else s.combine d v.phase die a b
        let (t, s) := if plan.ownFirst then s.combine d v.phase die t b else s.combine d v.phase die t own
        let i := mark 2 i
        ({ i with up := i.up ++ [⟨v.phase, v.chunk, v.path ++ [r], t⟩] }, s.sawNan d v.phase (t.getD []))
      | _, _ => (i, s)
  else
    let go (side : Nat) (l : List Nat) (is : CollInst × State) : CollInst × State :=
      match l.findIdx? (fun q => q == k) with
      | none => is
      | some n =>
        if is.1.steps.contains (v.phase, v.chunk, v.path, r, side) then is
        else match is.1.partIn img v.phase v.chunk v.path r side lv (l.take n) with
          | none => is
          | some a =>
            let (t, s) := is.2.combine d v.phase die a own
            let i := mark side is.1
            match t with
            | none => (i, s)
            | some t =>
              let plus := if (ringGap img axis).isSome then side == 0 else colPlus v.chunk
              let vc := if v.phase = 1 ∨ colOp img d = 5 then 1 else 0
              (i, if x.2 = 0 ∧ colOp img d ≠ 5 then s
                else (s.sawNan d v.phase t).sendNode d die vc (8 * axis + l.getD (n + 1) plan.fin) (s.stepPorts axis plus)
                  (packCodes (colBits img d v.phase false) t))
    go 1 plan.right (go 0 plan.left (i, s))

/-- All steps of one level of a chunk. -/
def State.collLevel (s : State) (i : CollInst) (phase j lv : Nat) : CollInst × State :=
  let vs := i.up.filter (fun v => v.phase == phase && v.chunk == j && v.path.length == lv)
  vs.foldl (fun is v => (List.range (colM s.cst.img i.desc lv)).foldl (fun is r => is.2.collStep is.1 v r) is) (i, s)

/-- A result that this node has now goes on down its axis (R236, R419, R420). -/
def State.collDownSend (s : State) (i : CollInst) (phase j : Nat) (path : List Nat) (v : List Nat) : State :=
  let img := s.cst.img
  let d := i.desc
  match path.getLast? with
  | none => s
  | some r =>
    let lv := path.length - 1
    let g := colGroup img d
    if v = [] ∧ colOp img d ≠ 5 then s
    else if phase = 0 ∧ (colOp img d = 1 ∨ colOp img d = 4) then s
    else
      let axis := (grpAxes img g).getD lv 0
      let pos (x : Nat) : Nat := ((lineOrder img g axis ((ringGap img axis).getD 0)).takeWhile (fun y => y != x)).length
      (downNext img g axis (colPlus j) (colPlan img d j lv r).fin (colRank img d lv)).foldl
        (fun s q =>
          let plus := if (ringGap img axis).isSome then decide (pos (colRank img d lv) < pos q) else colPlus j
          s.sendNode d (levelDie img d lv) 1 (8 * axis + q) (s.stepPorts axis plus) (packCodes (colBits img d phase true) v)) s

/-- A result is known here (R236, R240). -/
def State.collKnow (s : State) (i : CollInst) (phase j : Nat) (path : List Nat) (v : List Nat) : CollInst × State :=
  if (i.downAt phase j path).isSome then (i, s)
  else
    let i := { i with down := i.down ++ [⟨phase, j, path, some v⟩] }
    (i, (s.sawNan i.desc phase v).collDownSend i phase j path v)

/-- Whether one member alone contributes, as far as this node can tell: the others are cut (R241, R419). -/
def CollInst.lone (i : CollInst) (img : List Byte) : Bool :=
  let g := colGroup img i.desc
  i.mn == 1 && (grpAxes img g).all (fun a => ((List.range (grpM img g a)).filter (rankUncut img g a)).length == 1)

/-- The roots' values (R240, R242): the final value of each path that this node roots. Where no addition saw a lone contribution, MAX or MIN
judges it here (R241). -/
def State.collRoot (s : State) (i : CollInst) (phase j : Nat) : CollInst × State :=
  let img := s.cst.img
  let d := i.desc
  let n := (colMs img d).length
  (i.up.filter (fun v => v.phase == phase && v.chunk == j && v.path.length == n)).foldl (fun is v =>
    match v.vec with
    | none => is
    | some xs =>
      if (is.1.downAt phase j v.path).isSome then is
      else if phase = 1 then is.2.collKnow is.1 1 j v.path xs
      else
        let blk := grpBlk img (colGroup img d)
        let lo := (colPath img d 0 j v.path).1
        let bytes := (is.1.downAt 1 j []).getD []
        let rs := xs.zipIdx.map (fun x => rootElem img d is.2.numPol (bytes.getD ((lo + x.2) / blk) 0) x.1)
        let only := colMode img d == 0 && decide (2 ≤ colFunc img d ∧ colOp img d ≠ 3) && is.1.lone img
        let fs := if only then xs.map (fun x => (extremeOf (colFmt img d) (colFunc img d == 2) x x).2) else []
        let s := is.2.vecFlags d (is.1.rootDie img) (colFmt img d).bits fs
        let s := s.vecFlags d (is.1.rootDie img) (colRes img d).bits (rs.map (·.2))
        s.collKnow is.1 0 j v.path (rs.map (·.1))) (i, s)

/-- Results of whole paths are put together from their slices, level by level upward (R236). -/
def State.collJoin (s : State) (i : CollInst) (phase j : Nat) : CollInst × State :=
  let img := s.cst.img
  let d := i.desc
  let levels := (List.range (colMs img d).length).reverse
  levels.foldl (fun is lv =>
    let ps := ((is.1.down.filter (fun v => v.phase == phase && v.chunk == j && decide (lv < v.path.length))).map
      (fun v => v.path.take lv)).eraseDups
    ps.foldl (fun is p =>
      if (is.1.downAt phase j p).isSome then is
      else
        let parts := (List.range (colM img d lv)).map (fun r =>
          match is.1.downAt phase j (p ++ [r]) with
          | some v => some v
          | none => if (colPath img d phase j (p ++ [r])).2 = 0 ∧ colOp img d ≠ 5 then some [] else none)
        if parts.all (·.isSome) then is.2.collKnow is.1 phase j p (parts.flatMap (fun x => x.getD [])) else is) is) (i, s)

/-- ALLGATHER: the share of chunk j, once the members' parts that hold it have come, or the stage's updated weights (R261), in the
result format (R238); a conversion's flags go to the Crucibles of the member's die (R222). -/
def State.collGather (s : State) (i : CollInst) (j : Nat) : CollInst × State :=
  let img := s.cst.img
  let d := i.desc
  let f := colFmt img d
  let at0 := shareAt img d j
  let n := shareN img d j
  let fed (p : Nat) : Option Nat :=
    (s.temper.fed.find? (fun x => x.1 == d && decide (x.2.1 ≤ p ∧ p < x.2.1 + x.2.2.length))).map (fun x => x.2.2.getD (p - x.2.1) 0)
  let parts : List (Nat × Option (List Nat)) := if (agStage img d).isSome then
      let l := (List.range n).map (fun k => fed (at0 + k))
      [(0, if l.all (·.isSome) then some (l.map (·.getD 0)) else none)]
    else (i.mem.zip i.ins).zipIdx.map (fun x =>
      let (lo, hi) := rsPart img d i.mn x.2
      let a := max lo at0
      let b := min hi (at0 + n)
      (memDie x.1.1, if b ≤ a then some [] else if hasElems f x.1.2 (b - lo) then some (memElems f x.1.2 (a - lo) (b - lo)) else none))
  if (finPaths img d j).all (fun p => (i.downAt 0 j p).isSome) then (i, s)
  else if parts.all (·.2.isSome) then
    let conv (c : Nat) : Nat × Flags := if f = colRes img d then (c, 0) else (colRes img d).ofNum s.numPol (f.decode c)
    let done := parts.map (fun x => (x.1, (x.2.getD []).map conv))
    let s := done.foldl (fun s x => s.vecFlags d x.1 (colRes img d).bits (x.2.map (·.2))) s
    let all := done.flatMap (fun x => x.2.map (·.1))
    ((finPaths img d j).foldl (fun (a : Nat × CollInst × State) p =>
      let m := (colPath img d 0 j p).2
      (a.1 + m, a.2.2.collKnow a.2.1 0 j p ((all.drop a.1).take m))) (0, i, s)).2
  else (i, s)

/-- A chunk's result is ready here (R233, R238). -/
def State.collReady (s : State) (i : CollInst) (j : Nat) : CollInst × State :=
  let img := s.cst.img
  let d := i.desc
  let fin := finPaths img d j
  let mine := fin.all (fun p => (i.downAt 0 j p).isSome || ((colPath img d 0 j p).2 == 0 && colOp img d != 5))
  if i.ready.any (fun r => r.1 == j) then (i, s)
  else match colOp img d with
    | 1 =>
      if mine then
        let i := { i with ready := i.ready ++ [(j, s.now)] }
        match colStage img d with
        | none => (i, s)
        | some st =>
          let v := (finPaths img d j).flatMap (fun p => (i.downAt 0 j p).getD [])
          (i, { s with temper := { s.temper with slices := s.temper.slices ++ [(st, i.seam, j, v)] } })
      else (i, s)
    | 4 =>
      if rootHere img d i.mn then
        if (i.downAt 0 j []).isSome then ({ i with ready := i.ready ++ [(j, s.now)] }, s) else (i, s)
      else if mine then
        let dst := rankCode img (colGroup img d) i.mn (colRoot img d)
        let s := fin.foldl (fun s p =>
          let v := (i.downAt 0 j p).getD []
          if v = [] then s else s.sendNode d (i.rootDie img) 1 dst fabricPorts (packCodes (colBits img d 0 true) v)) s
        ({ i with ready := i.ready ++ [(j, s.now)] }, s)
      else (i, s)
    | _ => if (i.downAt 0 j []).isSome then ({ i with ready := i.ready ++ [(j, s.now)] }, s) else (i, s)

/-- Everything that a chunk can do in a pass, from the contributions to the results (R236). -/
def State.collPass (s : State) (i : CollInst) (phase j : Nat) : CollInst × State :=
  let img := s.cst.img
  let d := i.desc
  let (i, s) := s.collEnter i phase j
  let (i, s) := (List.range (colMs img d).length).foldl (fun is lv => is.2.collLevel is.1 phase j lv) (i, s)
  let (i, s) := s.collRoot i phase j
  let (i, s) := if colOp img d = 2 ∧ phase = 0 then s.collGather i j else (i, s)
  let (i, s) := if phase = 0 ∧ colOp img d = 1 then (i, s) else s.collJoin i phase j
  if phase = 0 then s.collReady i j else (i, s)

/-! ### ALLTOALL -/

/-- The rows of an ALLTOALL result that receive rank r reads in bytes `lo` to `hi` (R248): the senders whose slots or lengths they
hold. -/
def a2aSenders (img : List Byte) (d lo hi : Nat) : List Nat :=
  let m := colMembers img d
  let slots := m * colCount img d
  if hi ≤ slots then (List.range m).filter (fun x => decide (x * colCount img d < hi ∧ lo < (x + 1) * colCount img d))
  else List.range m

/-- Where the drop map lies in an ALLTOALL result (R248). -/
def a2aMapAt (img : List Byte) (d : Nat) : Nat :=
  let m := colMembers img d
  m * colCount img d + 256 * ((4 * m + 255) / 256)

/-- The whole result of in-node rank r as it stands (R248). -/
def a2aResult (img : List Byte) (i : CollInst) (r : Nat) : List Byte :=
  let d := i.desc
  let m := colMembers img d
  let n := colCount img d
  let data (x : Nat) : List Byte := ((i.segs.find? (fun e => e.1 == r && e.2.1 == x)).map (·.2.2.2)).getD []
  let slots := (List.range m).flatMap (fun x => slice (data x) 0 n)
  let lens := (List.range m).flatMap (fun x => leBytes 4 (data x).length)
  let map := (List.range ((m + 7) / 8)).map (fun b =>
    BitVec.ofNat 8 (((List.range 8).filter (fun j => i.drops.contains (r, 8 * b + j))).foldl (fun a j => a + 2 ^ j) 0))
  slots ++ slice lens 0 (256 * ((4 * m + 255) / 256)) ++ slice map 0 (256 * ((m + 2047) / 2048))

/-- A sender's segment is whole (R246, R247): forwarded, stored for a member of this node, or discarded. -/
def State.a2aSegment (s : State) (i : CollInst) (die r dest len : Nat) (data : List Byte) : CollInst × State :=
  let img := s.cst.img
  let d := i.desc
  let src := i.logical img r
  let drop (n : Nat) (i : CollInst) (s : State) : CollInst × State :=
    if n = 0 then (i, s)
    else ({ i with dropped := i.dropped ++ [(r, n)] }, (s.add64 (CRU_DDROP_LO d) n).raise (CRU_DSTAT_DROPPED d))
  let mark (i : CollInst) : CollInst := { i with drops := i.drops ++ [(r, dest)] }
  let node := rankCode img (colGroup img d) i.mn dest
  let self := coordCode (imgCoord img)
  if colMembers img d ≤ dest then drop len i s
  else if i.served.contains (r, dest) then drop len (mark i) s
  else if (imgCuts img).contains node then drop len (mark { i with served := i.served ++ [(r, dest)] }) s
  else
    let i := { i with served := i.served ++ [(r, dest)] }
    let kept := data.take (min len (colCount img d))
    let overT := len - colCount img d
    let (i, s) := drop overT (if 0 < overT then mark i else i) s
    if node = self then ({ i with segs := i.segs ++ [(rankN i.mn dest, src, die, kept)] }, s)
    else (i, s.sendNode d die 0 dest fabricPorts (leBytes 4 dest ++ leBytes 4 kept.length ++ kept))

/-- Bytes of a contribution flit go on a segment, or begin one (R246). -/
def State.a2aFlit (s : State) (i : CollInst) (die r : Nat) (data : List Byte) : CollInst × State :=
  let x := i.ins.getD r .init
  let (dest, len, got) := match x.seg with
    | some (dest, len, got) => (dest, len, got ++ data)
    | none => (leAt data 0 4, leAt data 4 4, data.drop 8)
  if len ≤ got.length then
    s.a2aSegment { i with ins := i.ins.set r { x with seg := none } } die r dest len (got.take len)
  else ({ i with ins := i.ins.set r { x with seg := some (dest, len, got) } }, s)

/-- Chunks of an ALLTOALL whose senders have all sent (R248): a cut sender sends nothing (DEDUCED, log 22). The chunks of a member's own drop
map wait until it has sent its own segments. -/
def State.a2aReady (s : State) (i : CollInst) : CollInst :=
  let img := s.cst.img
  let d := i.desc
  let m := colMembers img d
  let cut (x : Nat) : Bool := (imgCuts img).contains (rankCode img (colGroup img d) i.mn x)
  let has (r x : Nat) : Bool := cut x || i.segs.any (fun e => e.1 == r && e.2.1 == x)
  let sent (r : Nat) : Bool := (List.range m).all (fun x => i.served.contains (r, x))
  (List.range (colChunks img d)).foldl (fun i j =>
    let lo := j * colChunk img d
    let hi := min (lo + colChunk img d) (a2aBytes img d)
    if i.ready.any (fun r => r.1 == j) then i
    else if (List.range i.mn).all (fun r => (a2aSenders img d lo hi).all (has r) && (decide (hi ≤ a2aMapAt img d) || sent r)) then
      { i with ready := i.ready ++ [(j, s.now)] }
    else i) i

/-! ### Owner-pool cells -/

/-- Cells of `n` elements of `b` bits. -/
def cellsIn (b n : Nat) : Nat := (n * b + 2047) / 2048

/-- Cells of a chunk. -/
def colCells (img : List Byte) (d : Nat) : Nat := colChunk img d / 256

/-- The chunk that position `p` of the share lies in (R237). -/
def shareChunk (img : List Byte) (d p : Nat) : Nat := ((List.range (colChunks img d)).find? (fun j => decide (p < shareAt img d (j + 1)))).getD 0

/-- The results of chunk j that this node roots are known here. -/
def CollInst.rooted (i : CollInst) (img : List Byte) (j : Nat) : Bool :=
  (finPaths img i.desc j).all (fun p => (i.downAt 0 j p).isSome || ((colPath img i.desc 0 j p).2 == 0 && colOp img i.desc != 5))

/-- The dies of the cells that hold contributions to chunk j (R220, R239, R243): a cell for each that waits for its turn, and one for the
partial of those that had theirs; where nothing is added before pass 2, or at all, one for each. -/
def CollInst.inNeed (i : CollInst) (img : List Byte) (j : Nat) : List Nat :=
  let d := i.desc
  let ms := (i.mem.zip i.ins).map (fun m => (memDie m.1, m.2.cells))
  match colOp img d with
  | 2 =>
    let per := 2048 / (colFmt img d).bits
    (ms.zipIdx).flatMap (fun m =>
      let (lo, hi) := rsPart img d i.mn m.2
      ((List.range m.1.2).filter (fun c =>
        let a := shareChunk img d (lo + c * per)
        shareChunk img d (min hi (lo + (c + 1) * per) - 1) == j &&
          (List.range (j + 1 - a)).any (fun k => !i.rooted img (a + k)))).map (fun _ => m.1.1))
  | op =>
    if (i.upAt 0 j []).isSome then []
    else
      let n := colCells img d
      let top := min (n * (j + 1)) ((ms.map (·.2)).foldl max 0)
      (List.range (top - n * j)).flatMap (fun c =>
        let has := ms.map (fun m => (m.1, decide (n * j + c < m.2)))
        if colMode img d = 0 ∧ op ≠ 3 then
          let turn := has.takeWhile (·.2)
          (turn.getLast?.map (·.1)).toList ++ ((has.drop turn.length).filter (·.2)).map (·.1)
        else (has.filter (·.2)).map (·.1))

/-- The dies of the cells that hold values on their way up (R220): slices that no step has taken on yet, and partials that arrived. -/
def CollInst.upNeed (i : CollInst) (img : List Byte) (j : Nat) : List Nat :=
  let d := i.desc
  let gone (ph : Nat) (path : List Nat) (r : Nat) (side : Option Nat) : Bool := i.steps.any (fun t =>
    t.1 == ph && t.2.1 == j && t.2.2.1 == path && t.2.2.2.1 == r && (side.isNone || t.2.2.2.2 == 2 || side == some t.2.2.2.2))
  (i.up.filter (fun v => v.chunk == j && decide (v.path.length < (colMs img d).length) && v.vec.isSome)).flatMap (fun v =>
    (List.range (colM img d v.path.length)).flatMap (fun r =>
      if gone v.phase v.path r none then []
      else List.replicate (cellsIn (colBits img d v.phase false) (colPath img d v.phase j (v.path ++ [r])).2) (i.valDie img v.path.length))) ++
  (i.parts.filter (fun p => p.chunk == j && !gone p.phase p.path p.slice (some p.side))).flatMap (fun p =>
    List.replicate (cellsIn (colBits img d p.phase false) p.vec.length) (levelDie img d p.path.length))

/-- The dies of the cells that hold results of chunk j until they are of no more use here (R220): exponent bytes until the chunk is rooted,
elements until they are released, sent on to ROOT's node, or taken by a stage. -/
def CollInst.downNeed (i : CollInst) (img : List Byte) (j : Nat) : List Nat :=
  let d := i.desc
  let handed := (colStage img d).isSome || (colOp img d == 4 && !rootHere img d i.mn)
  let spent (v : CollVal) : Bool :=
    if v.phase = 1 then i.rooted img j else i.released.contains j || (handed && i.ready.any (fun r => r.1 == j))
  let part (v : CollVal) : Bool := i.down.any (fun w =>
    w.phase == v.phase && w.chunk == j && decide (w.path.length < v.path.length) && v.path.take w.path.length == w.path)
  (i.down.filter (fun v => v.chunk == j && !part v && !spent v)).flatMap (fun v =>
    List.replicate (cellsIn (colBits img d v.phase true) (v.vec.getD []).length) (i.rootDie img))

/-- The dies of the cells that hold segments of an ALLTOALL: in progress, or for a member until the chunks they lie in are released. -/
def CollInst.segNeed (i : CollInst) (img : List Byte) : List Nat :=
  let d := i.desc
  let w := colChunk img d
  ((i.mem.zip i.ins).flatMap (fun m =>
    match m.2.seg with
    | some (_, _, got) => List.replicate ((got.length + 263) / 256) (memDie m.1)
    | none => [])) ++
  i.segs.flatMap (fun e =>
    let lo := e.2.1 * colCount img d
    let n := e.2.2.2.length
    if (List.range ((lo + n + w - 1) / w - lo / w)).all (fun k => i.released.contains (lo / w + k)) then []
    else List.replicate ((n + 7) / 256 + 1) e.2.2.1)

/-- The cells that an instance needs for chunk j, by die (R220): all those of an ALLTOALL count under chunk 0. -/
def CollInst.need (i : CollInst) (img : List Byte) (j : Nat) : List Nat :=
  let rx := (i.rx.filter (fun x => x.chunk == j)).flatMap (fun x => List.replicate ((x.bytes.length + 255) / 256) x.die)
  if colOp img i.desc = 6 then (if j = 0 then i.segNeed img ++ rx else [])
  else i.inNeed img j ++ i.upNeed img j ++ i.downNeed img j ++ rx

/-- `n` more cells of die `d` are taken for chunk j; the instance and state without the last that the pool does not have. -/
def State.takeCells (d j : Nat) : Nat → CollInst → State → Option (CollInst × State)
  | 0, i, s => some (i, s)
  | n + 1, i, s =>
    let c := colCru s.cst.img i.desc d i.holds.length
    match s.grant1 d .cru 0 0 with
    | none => none
    | some sh =>
      match s.allocCell d (reqOn d (c / 64) (reqCru c)) [(.cru i.desc, .cru, sh)] false with
      | none => none
      | some (cell, s) => State.takeCells d j n { i with holds := i.holds ++ [⟨j, cell⟩] } s

/-- The cells of chunk j on a die become as many as it needs (R220): the others are read and released. The answer names the span of a cell
that memory did not give (R251); none where the pool has too few. -/
def State.fitDie (s : State) (i : CollInst) (j die : Nat) : Option (CollInst × Option (Nat × Nat × Nat) × State) :=
  let want := ((i.need s.cst.img j).filter (fun x => x == die)).length
  let mine := i.holds.filter (fun h => h.chunk == j && h.cell.1 == die)
  let out := mine.take (mine.length - want)
  let (bad, s) := out.foldl (fun (r : Option (Nat × Nat × Nat) × State) h =>
    let a := ingotBase + die * 2 ^ 28 + 256 * h.cell.2
    let (ok, t) := r.2.readWords (s.collMaster i.desc) 0 (wordsOf a 256)
    (if ok then r.1 else some (a, 256, 0), t.releaseCell h.cell (.cru i.desc))) (none, s)
  let i := { i with holds := i.holds.filter (fun h => !out.contains h) }
  (State.takeCells die j (want - mine.length) i s).map (fun x => (x.1, bad, x.2))

/-- The cells of chunk j on both dies: the die whose pool has too few, otherwise. -/
def State.fit (s : State) (i : CollInst) (j : Nat) : Except Nat (CollInst × Option (Nat × Nat × Nat) × State) :=
  match s.fitDie i j 0 with
  | none => .error 0
  | some (i, b0, s) =>
    match s.fitDie i j 1 with
    | none => .error 1
    | some (i, b1, s) => .ok (i, (match b0 with | some _ => b0 | none => b1), s)

/-- Everything that chunk j can do in a pass (R219, R236). -/
def State.collTurn (s : State) (i : CollInst) (phase j : Nat) : CollInst × State :=
  if colOp s.cst.img i.desc = 6 then (s.a2aReady i, s) else s.collPass i phase j

/-- An instance goes on to `i` in `t`, and then chunk j does what it can. Where a pool has no cell for that, nothing of it happens, and the
state stays `s` (R220, R364). A cell held whose check is wrong, or that memory does not give, fails the instance (R251, R476). -/
def State.collGo (s t : State) (i : CollInst) (phase j : Nat) : State :=
  if i.bad.contains j then
    (t.tmFailing (tmCru (colCru s.cst.img i.desc (i.rootDie s.cst.img) 0)) 2).failInst i 4 none
  else match t.fit i j with
    | .error d => s.poolFail d
    | .ok (i, b0, t) =>
      let (i, t) := ((t.setInst i).cruSync).collTurn i phase j
      match t.fit i j with
      | .error d => s.poolFail d
      | .ok (i, b1, t) =>
        let t := (t.setInst i).cruSync
        match b0, b1 with
        | none, none => t
        | some x, _ | none, some x => t.failInst i 4 (some x)

/-- Every chunk of an instance does what it can, of an aligned-integer one first its exponent bytes. -/
def State.collAll (s : State) (d g : Nat) : State :=
  let img := s.cst.img
  let one (s : State) (phase j : Nat) : State :=
    match s.inst? d g with
    | some i => s.collGo s i phase j
    | none => s
  if colOp img d = 6 then one s 0 0
  else (List.range (colChunks img d)).foldl (fun s j =>
    one (if colMode img d = 0 ∨ colOp img d = 5 ∨ colOp img d = 2 then s else one s 1 j) 0 j) s

end Sys2Proof.Machine
end

