-- ==== Sys2Proof/Machine/CollRun.lean ====
section
/-! DEFINITION. The commands of collectives (07): starts and contributions (R231, R232), cells (R219), pass 2 (R243), releases (R233), fences,
seams and quenches (R250, R251). -/

namespace Sys2Proof.Machine

/-! ### The commands -/

/-- Whether an instance of descriptor d runs in the epoch of seam count n (R231). -/
def colRuns (img : List Byte) (d n : Nat) : Bool :=
  decide (colFirst img d ≤ n) &&
  (if colEvery img d = 0 then n == colFirst img d else (n - colFirst img d) % colEvery img d == 0)

/-- An epoch of the job runs: cast or draining, started, not quenched, not held (R497), and not past the last seam of a drain (R63). -/
def State.jobRuns (s : State) : Bool :=
  s.inForce && !s.quenched && s.bit TG_STATUS_STARTED && !s.bit DET_STAT_HELD && !s.cst.seamDone

/-- The instances that this epoch still has to start (R231). -/
def State.collDue (s : State) : List (Nat × Nat) :=
  let img := s.cst.img
  let n := s.rd64 TG_SEAM_LO
  (List.range (nCol img)).flatMap (fun d =>
    let g := colGroup img d
    if grpTakes img g && colRuns img d n then
      ((List.range (grpInsts img g).length).filter (fun i => !s.coll.started.contains (d, i, n))).map (fun i => (d, i))
    else [])

/-- The spans of an instance are checked against the guild tables, with the Crucible set as master (R231), and those of its stage
with the Bench group (R260). -/
def State.collGuild (s : State) (i : CollInst) : Option (GMaster × (Nat × Nat) × GAcc) :=
  let (r, w) := selfSpans s.cst.img i
  let m : GMaster := ⟨3, i.desc⟩
  match r.find? (fun x => !s.granted m .r x.1 x.2) with
  | some x => some (m, x, .r)
  | none =>
    match w.find? (fun x => !s.granted m .w x.1 x.2) with
    | some x => some (m, x, .w)
    | none =>
      match colStage s.cst.img i.desc with
      | none => none
      | some st =>
        let b : GMaster := ⟨2, stgGroup s.cst.img st⟩
        let l := stgSpans s.cst.img st (shareS s.cst.img i.desc)
        match l.find? (fun x => !s.granted b .r x.1 x.2) with
        | some x => some (b, x, .r)
        | none => (l.find? (fun x => !s.granted b .w x.1 x.2)).map (fun x => (b, x, .w))

/-- Every Crucible of the set has a free context (R221). -/
def State.ctxFree (s : State) (d : Nat) : Bool := (colSet s.cst.img d).all (fun c => decide (s.ctxOf c < 32))

/-- An instance opens its contexts and runs (R231, R234). -/
def State.collOpen (s : State) (i : CollInst) : State :=
  let img := s.cst.img
  let d := i.desc
  let i := { i with waiting := false }
  let s := s.setInst i
  let s := ((s.wr (CRU_DSTAT_STATUS d) 1).wr (CRU_DSTAT_CTX d) (colSet img d).length).wr (CRU_DLATE d) 0
  let s := (s.wr64 (CRU_DDROP_LO d) 0).cruSync
  match s.collGuild i with
  | some (m, x, acc) => (s.deny m acc x.1 x.2).failInst i 5 (some (x.1, x.2, if acc = .r then 0 else 3))
  | none =>
    let (_, w) := selfSpans img i
    if w = [] then s.collAll d i.g
    else match s.memRead (s.collMaster d) (colTag img d) 16 with
      | (none, s) => s.failInst i 4 (some (colTag img d, 16, 0))
      | (some bs, s) =>
        let i := { i with dst1 := leAt bs 8 1 % 2 == 0 }
        (s.setInst i).collAll d i.g

/-- Whether an instance depends on a fenced element (R250): an endpoint of its members (kind 1), or a node (kind 2) of its members or that
a ring step or a segment passes, which is one that agrees with members on every axis but one (DEDUCED, log 23). A cut node is no part. -/
def CollInst.dependsOn (i : CollInst) (img : List Byte) (kind arg : Nat) : Bool :=
  let g := colGroup img i.desc
  let code := arg % 4096
  let member (a : Nat) : Bool := if grpSpan img g a then grpHas img g a (codeCoord code a) else codeCoord code a == imgCoord img a
  let self := code == coordCode (imgCoord img)
  let n := arg / 4096 % 128
  match kind with
  | 1 => (List.range 4).all member && (if self || !grpSpan img g 4 then i.mem.contains n else grpHas img g 4 n)
  | 2 => !self && !(imgCuts img).contains code &&
      ((List.range 4).all member || (grpAxes img g).any (fun a => (List.range 4).all (fun b => b == a || member b)))
  | _ => false

/-- Instances that depend on a fenced element stop at once (R250). -/
def State.collFence (s : State) (kind arg : Nat) : State :=
  { s with coll := { s.coll with insts := s.coll.insts.map (fun i =>
      if i.dependsOn s.cst.img kind arg then { i with stopped := true } else i) } }

/-- The fences that elements of collectives stand under: local endpoints, and the list (R414, R416). -/
def State.fences (s : State) : List (Nat × Nat) :=
  ((List.range 128).filter s.epFenced).map (fun n => (1, s.selfCode + 4096 * n)) ++
  ((List.range 256).filter (fun i => s.bit (RT_FLIST_VALID i))).map (fun i => (s.rd (RT_FLIST_KIND i), s.rd (RT_FLIST_ARG i)))

/-- Every fence in force stops the instances that depend on it (R250). -/
def State.collFences (s : State) : State := s.fences.foldl (fun s f => s.collFence f.1 f.2) s

/-- COLLECTIVE_START of descriptor d: an instance starts at START_OFF, or waits for a free context (R221, R231). -/
def State.collStart (s : State) (d g : Nat) : State :=
  let img := s.cst.img
  if !s.jobRuns then s
  else match s.inst? d g with
    | some i => if i.waiting && !i.stopped && s.ctxFree d then s.collOpen i else s
    | none =>
      if s.collDue.contains (d, g) && decide (s.tg.epochStart + colStartOff img d ≤ s.now) then
        let mem := (grpInsts img (colGroup img d)).getD g []
        let n := s.rd64 TG_SEAM_LO
        let i : CollInst :=
          { desc := d, g := g, mem := mem, seam := n, start := s.tg.epochStart, waiting := true
            ins := mem.map (fun _ => .init), pass2 := [], up := [], parts := [], steps := [], down := [], rx := [], holds := [], bad := []
            ready := [], released := [], segs := [], drops := [], served := [], dropped := [], dst1 := false, stopped := false }
        let rest := s.coll.started.filter (fun e => !(e.1 == d && e.2.1 == g))
        let s := ({ s with coll := ⟨s.coll.insts ++ [i], rest ++ [(d, g, n)]⟩ } : State).collFences
        if s.ctxFree d ∧ (s.inst? d g).any (fun x => !x.stopped) = true then s.collOpen i else s
      else s

/-- COLLECTIVE_START (R231). -/
def execCollectiveStart (t d g : Nat) (s : State) : Host.Outcome State Fault Refusal := .next ((s.at t).collStart d g)

/-- An instance that runs. -/
def State.running? (s : State) (d g : Nat) : Option CollInst :=
  if s.jobRuns then (s.inst? d g).filter (fun i => !i.waiting && !i.stopped) else none

/-- Contribution bytes that an in-node member still owes (R229, R232). -/
def CollInst.owes (i : CollInst) (img : List Byte) (r : Nat) : Nat :=
  let d := i.desc
  let (lo, hi) := rsPart img d i.mn r
  let n := if (normStage img d).isSome ∨ (agStage img d).isSome then 0 else match colOp img d with
    | 0 | 1 | 4 => colCount img d
    | 2 => hi - lo
    | 3 => if i.logical img r = colRoot img d then colCount img d else 0
    | _ => 0
  (n * (colFmt img d).bits + 7) / 8 - (i.ins.getD r .init).bytes.length

/-- Contributions that wait in the hold (R239, R243): for their turn, which cell c of a rank has once every rank up to it has brought its
cell c; or of an aligned-integer chunk for pass 2. -/
def CollInst.waits (i : CollInst) (img : List Byte) : Nat :=
  let d := i.desc
  if colMode img d ≠ 0 ∧ colOp img d ≠ 2 then
    (i.ins.map (fun x => ((List.range x.cells).filter (fun c => (i.upAt 0 (c / colCells img d) []).isNone)).length)).sum
  else if colOp img d = 0 ∨ colOp img d = 1 ∨ colOp img d = 4 then
    let ns := i.ins.map (·.cells)
    (ns.foldl (fun (m : Nat × Nat) n => (min m.1 n, m.2 + (n - m.1))) (ns.headD 0, 0)).2
  else 0

/-- A cell of a contribution is ingested (R219, R220): `bs` go on what rank r brought, `good` where its cell check is right; the instance
fails where it is not (R476). The hold bounds the contributions that wait (R228,
R243; log 20); one that does not wait makes its Crucible `cru` emit a cell with its check (R475). -/
def State.ingest (s t : State) (i : CollInst) (r cru : Nat) (bs : List Byte) (good : Bool := true) : State :=
  let img := s.cst.img
  let d := i.desc
  let x := i.ins.getD r .init
  let i' := { i with ins := i.ins.set r { x with bytes := x.bytes ++ bs, cells := x.cells + 1 } }
  let wait := decide (i.waits img < i'.waits img)
  if wait && decide (colHold img d < i'.waits img) then s
  else
    let t := t.add64 (CRU_CBEATS_LO cru) 1
    if !good && t.tmOn (tmCru cru) then (t.tmFailing (tmCru cru) 2).failInst i 4 none
    else if colOp img d = 2 then
      let (lo, hi) := rsPart img d i.mn r
      let per := 2048 / (colFmt img d).bits
      let a := shareChunk img d (lo + x.cells * per)
      let b := shareChunk img d (min hi (lo + (x.cells + 1) * per) - 1)
      ((List.range (b + 1 - a)).map (a + ·) ++ [b]).foldl (fun u j =>
        match u.inst? d i.g with
        | some k => u.collGo u k 0 j
        | none => u) (s.collGo t i' 0 b)
    else
      let j := x.cells / colCells img d
      let (chk, t) := if wait then (coreCheck [], t) else t.genCheck (tmCru cru) bs false
      let i' := if !wait && t.tmMismatch (tmCru cru) bs chk then { i' with bad := j :: i'.bad } else i'
      s.collGo t i' (if colMode img d = 0 then 0 else 1) j

/-- Whether the next cell of SELF may be read: its data are free to read, and it has its turn, or is to wait in the hold (R231, R239). -/
def CollInst.selfMay (i : CollInst) (img : List Byte) (r : Nat) : Bool :=
  let x := i.ins.getD r .init
  x.arrived && decide (0 < i.owes img r) &&
  (colMode img i.desc != 0 || decide (2 ≤ colOp img i.desc ∧ colOp img i.desc ≤ 3) || (i.ins.take r).all (fun y => decide (x.cells < y.cells)))

/-- The next cell of SELF is read and ingested (R231). -/
def State.selfCell (s : State) (i : CollInst) (r : Nat) : State :=
  let img := s.cst.img
  let d := i.desc
  let x := i.ins.getD r .init
  let a := colSrc img d + 256 * x.cells
  let n := min 256 (i.owes img r)
  match s.memReadChk (s.collMaster d) a n with
  | (none, _, s) => s.failInst i 4 (some (a, n, 0))
  | (some bs, good, t) => s.ingest t i r (colCru img d 0 (x.cells % colCells img d)) bs good

/-- The next ALLTOALL segment at SRC, back to back and each from a cell boundary, is read and sent on or stored (R246). -/
def State.selfSegment (s : State) (i : CollInst) (r : Nat) : State :=
  let img := s.cst.img
  let d := i.desc
  let m : GMaster := ⟨3, d⟩
  let x := i.ins.getD r .init
  let a := colSrc img d + 256 * x.cells
  if !s.granted m .r a 256 then (s.deny m .r a 256).failInst i 5 (some (a, 256, 0))
  else match s.memReadChk (s.collMaster d) a 256 with
    | (none, _, s) => s.failInst i 4 (some (a, 256, 0))
    | (some h, good, t) =>
      let len := leAt h 4 4
      let span := (8 + len + 255) / 256 * 256
      if !t.granted m .r a span then (t.deny m .r a span).failInst i 5 (some (a, span, 0))
      else match t.memReadChk (s.collMaster d) (a + 256) (span - 256) with
        | (none, _, t) => t.failInst i 4 (some (a, span, 0))
        | (some more, good', t) =>
          let u := tmCru (colCru img d 0 0)
          if !(good && good') && t.tmOn u then (t.tmFailing u 2).failInst i 4 none else
          let bs := slice (h ++ more) 8 len
          let i := { i with ins := i.ins.set r { x with cells := x.cells + span / 256, segs := x.segs + 1 } }
          let (i, t) := (t.vecBeats d 0 8 span).a2aSegment i 0 r (leAt h 0 4) len bs
          s.collGo t i 0 0

/-- What SELF may contribute now is read, up to `n` cells or segments of it (R231): the next is tried while the last was taken. -/
def State.pullSelf (d g : Nat) : Nat → State → State
  | 0, s => s
  | n + 1, s =>
    match s.inst? d g with
    | none => s
    | some i =>
      match i.mem.findIdx? (fun k => k == 128) with
      | none => s
      | some r =>
        let x := i.ins.getD r .init
        let go := if colOp s.cst.img d = 6 then x.arrived && decide (x.segs < colMembers s.cst.img d) else i.selfMay s.cst.img r
        if !go then s
        else
          let t := if colOp s.cst.img d = 6 then s.selfSegment i r else s.selfCell i r
          if (t.inst? d g).any (fun k => decide (x.cells < (k.ins.getD r .init).cells)) then State.pullSelf d g n t else t

/-- SELF goes on as far as it can. -/
def State.collPull (s : State) (d g : Nat) : State :=
  State.pullSelf d g (max (colMembers s.cst.img d) (colChunks s.cst.img d * colCells s.cst.img d)) s

/-- SELF_CONTRIBUTION_READ (R231): once SYNC_IN has reached SYNC_IN_VAL. What cannot be read yet, for its turn or for want of a cell, is read
when a cell of the instance comes next, or with the next such command. -/
def State.collSelf (s : State) (d g : Nat) : State :=
  let img := s.cst.img
  match s.running? d g with
  | none => s
  | some i =>
    match i.mem.findIdx? (fun n => n == 128) with
    | none => s
    | some r =>
      let x := i.ins.getD r .init
      let sync := colSyncIn img d
      if !x.arrived && sync != 0xFFFF && decide (s.rd (MIL_SYNC sync) < colSyncVal img d) then s
      else
        let i := { i with ins := i.ins.set r { x with arrived := true } }
        if colOp img d = 5 then (if x.arrived then s else s.collGo s i 0 0) else (s.setInst i).collPull d g

/-- SELF_CONTRIBUTION_READ (R231). -/
def execSelfContributionRead (t d g : Nat) (s : State) : Host.Outcome State Fault Refusal := .next ((s.at t).collSelf d g)

/-- A flit of elements beyond COUNT is discarded and counted; the first since the apply is alerted (R232). -/
def State.collExcess (s : State) (d : Nat) : State :=
  let s := s.addSat CRU_EXCESS (2048 / (colFmt s.cst.img d).bits)
  if s.firstTime 4 then (s.note1 4).fault .sw 1 0 (mDesc d) 4 else s

/-- A contribution flit of in-node rank r that arrives after the instance of its epoch has completed is beyond COUNT (R232). -/
def State.collAfter (s : State) (d g r : Nat) : State :=
  let img := s.cst.img
  let n := ((grpInsts img (colGroup img d)).getD g []).getD r 128
  let seam := s.rd64 TG_SEAM_LO
  if s.jobRuns && (s.inst? d g).isNone && s.coll.started.contains (d, g, seam) && decide (colOp img d < 5) && decide (n ≠ 128) then
    match s.fab.collIn.find? (fun e => e.1 == colUp img d && s.portOf n e.2.1) with
    | none => s
    | some e =>
      if e.2.2.epoch = seam % 256 then
        (({ s with fab := { s.fab with collIn := s.fab.collIn.erase e } }).tookFlit e.1 e.2.1).collExcess d
      else s
  else s

/-- The next contribution flit of in-node rank r (R219, R220, R232). -/
def State.collMember (s : State) (i : CollInst) (r : Nat) : State :=
  let img := s.cst.img
  let d := i.desc
  let n := i.mem.getD r 128
  match s.fab.collIn.find? (fun e => e.1 == colUp img d && s.portOf n e.2.1) with
  | none => s
  | some e =>
    let (l, k, f) := e
    if n = 128 then s
    else
      let took (s : State) : State :=
        ({ s with fab := { s.fab with collIn := s.fab.collIn.erase e } }).tookFlit l k
      if f.epoch ≠ i.seam % 256 then
        let s := (took s).inc CRU_BADTAG
        if s.firstTime 3 then (s.note1 3).fault .sw 0 0 (mDesc d) 4 else s
      else
        let x := i.ins.getD r .init
        let die := dieOf k
        let cru := colCru img d die (x.cells % colCells img d)
        match colOp img d with
        | 5 => s.collGo (took s) { i with ins := i.ins.set r { x with arrived := true } } 0 0
        | 6 =>
          let (i, t) := (took s).a2aFlit { i with ins := i.ins.set r { x with cells := x.cells + 1 } } die r f.data
          s.collGo (t.add64 (CRU_CBEATS_LO cru) 1) i 0 0
        | _ =>
          let owe := i.owes img r
          if owe = 0 then (took s).collExcess d
          else (s.ingest (took s) i r cru (f.data.take owe)).collPull d i.g

/-- The next flit of label `l` from port `k`, where a TERM entry hands it to descriptor d and it is no contribution (R404). -/
def State.nodeFlit (s : State) (d l k : Nat) : Option (Nat × Nat × Flit) :=
  match mandEntry s.mand l with
  | some e =>
    if e.act = 3 ∧ e.port = 1 ∧ e.a % 2 ^ 16 = d ∧ l ≠ colUp s.cst.img d then s.fab.collIn.find? (fun x => x.1 == l && x.2.1 == k) else none
  | none => none

/-- A flit from another node is ingested (R219, R236, R246): it goes on what came of `x`, of `n` bytes in all; `whole` takes the bytes once
they are there. A flit of another epoch is discarded (DEDUCED, log 20). -/
def State.nodeCell (s : State) (i : CollInst) (l k : Nat) (x : CollRx) (n : List Byte → Nat) (had : Bool)
    (whole : CollInst → State → List Byte → CollInst × State) : State :=
  let img := s.cst.img
  match s.nodeFlit i.desc l k with
  | none => s
  | some e =>
    let t := ({ s with fab := { s.fab with collIn := s.fab.collIn.erase e } }).tookFlit l k
    if e.2.2.epoch ≠ i.seam % 256 ∨ had = true then t
    else
      let same (y : CollRx) : Bool := { y with bytes := [], die := 0 } == { x with bytes := [], die := 0 }
      let old := ((i.rx.find? same).map (·.bytes)).getD []
      let got := old ++ e.2.2.data
      let t := t.add64 (CRU_CBEATS_LO (colCru img i.desc x.die (old.length / 256))) 1
      let i := { i with rx := i.rx.filter (fun y => !same y) }
      let (i, t) := if n got ≤ got.length then whole i t (got.take (n got)) else ({ i with rx := i.rx ++ [{ x with bytes := got }] }, t)
      (s.collGo t i x.phase x.chunk).collPull i.desc i.g

/-- CRUCIBLE_CELL: what reaches a Crucible of an instance (R219). -/
def State.collCell (s : State) (d g : Nat) (ev : CruEv) : State :=
  let img := s.cst.img
  match s.running? d g with
  | none => match ev with | .member r => s.collAfter d g r | _ => s
  | some i =>
    match ev with
    | .member r => s.collMember i r
    | .ring ph j path r side l k =>
      let bits := colBits img d ph false
      let m := (colPath img d ph j (path ++ [r])).2
      let had := i.parts.any (fun q => q.phase == ph && q.chunk == j && q.path == path && q.slice == r && q.side == side)
      s.nodeCell i l k ⟨0, ph, j, path, r, side, levelDie img d path.length, []⟩ (fun _ => (m * bits + 7) / 8) had
        (fun i t bs => ({ i with parts := i.parts ++ [⟨ph, j, path, r, side, unpackCodes bits bs m⟩] }, t))
    | .down ph j path l k =>
      let bits := colBits img d ph true
      let m := (colPath img d ph j path).2
      s.nodeCell i l k ⟨1, ph, j, path, 0, 0, levelDie img d (path.length - 1), []⟩ (fun _ => (m * bits + 7) / 8) (i.downAt ph j path).isSome
        (fun i t bs => t.collKnow i ph j path (unpackCodes bits bs m))
    | .share j path l k =>
      let bits := colBits img d 0 true
      let m := (colPath img d 0 j path).2
      if colOp img d = 4 ∧ rootHere img d i.mn = true then
        s.nodeCell i l k ⟨2, 0, j, path, 0, 0, i.rootDie img, []⟩ (fun _ => (m * bits + 7) / 8) (i.downAt 0 j path).isSome
          (fun i t bs => ({ i with down := i.down ++ [⟨0, j, path, some (unpackCodes bits bs m)⟩] }, t))
      else s
    | .segment src l k =>
      if colOp img d = 6 then
        s.nodeCell i l k ⟨3, 0, 0, [], src, 0, dieOf k, []⟩ (fun bs => 8 + leAt bs 4 4) false
          (fun i t bs =>
            let dest := leAt bs 0 4
            if rankCode img (colGroup img d) i.mn dest = coordCode (imgCoord img) ∧ dest < colMembers img d then
              ({ i with segs := i.segs ++ [(rankN i.mn dest, src, dieOf k, (bs.drop 8).take (colCount img d))] }, t)
            else (i, t))
      else s
    | .mismatch c => if (colSet img d).contains c then s.failInst i 4 none (some c) else s

/-- CRUCIBLE_CELL (R219). -/
def execCrucibleCell (t d g : Nat) (ev : CruEv) (s : State) : Host.Outcome State Fault Refusal :=
  .next ((s.at t).collCell d g ev)

/-- PASS2_START of chunk j: its combined exponent bytes are back (R243). -/
def State.collPass2 (s : State) (d g j : Nat) : State :=
  match s.running? d g with
  | none => s
  | some i =>
    if colMode s.cst.img d ≠ 0 ∧ (i.downAt 1 j []).isSome ∧ i.pass2.contains j = false then
      (s.collGo s { i with pass2 := i.pass2 ++ [j] } 0 j).collPull d g
    else s

/-- PASS2_START (R243). -/
def execPass2Start (t d g j : Nat) (s : State) : Host.Outcome State Fault Refusal := .next ((s.at t).collPass2 d g j)

/-! ### Release -/

/-- The share of chunk j of this node: its elements in order (R237). -/
def CollInst.shareOf (i : CollInst) (img : List Byte) (j : Nat) : List Nat :=
  (finPaths img i.desc j).flatMap (fun p => (i.downAt 0 j p).getD [])

/-- What in-node rank r receives of chunk j, and at which byte of its result (R229, R238, R248). -/
def CollInst.partOf (i : CollInst) (img : List Byte) (j r : Nat) : Nat × List Byte :=
  let d := i.desc
  let rf := colRes img d
  match colOp img d with
  | 1 =>
    if (colStage img d).isSome then (0, []) else
    let (lo, hi) := rsPart img d i.mn r
    let at0 := shareAt img d j
    let xs := i.shareOf img j
    let a := max lo at0
    let b := min hi (at0 + xs.length)
    if b ≤ a then (0, []) else ((a - lo) * rf.bits / 8, packElems rf ((xs.drop (a - at0)).take (b - a)))
  | 4 => if i.logical img r = colRoot img d then (j * colC img d * rf.bits / 8, packElems rf ((i.downAt 0 j []).getD []))
         else (0, [])
  | 5 => (0, [])
  | 6 =>
    let lo := j * colChunk img d
    (lo, ((a2aResult img i r).drop lo).take (colChunk img d))
  | _ => (j * colC img d * rf.bits / 8, packElems rf ((i.downAt 0 j []).getD []))

/-- A chunk leaves toward the members (R233, R234): into the copy that CUR does not name, and to the endpoints. -/
def State.collDeliver (s : State) (i : CollInst) (j : Nat) : Bool × Nat × State :=
  let img := s.cst.img
  let d := i.desc
  let each := colOp img d == 1 || colOp img d == 4 || colOp img d == 6
  let eps := i.mem.zipIdx.filter (fun x => x.1 != 128)
  let s :=
    if each then eps.foldl (fun s x => s.sendDown d (i.rootDie img) (s.portOf x.1) (i.partOf img j x.2).2) s
    else match eps with
      | [] => s
      | x :: _ => s.sendDown d (i.rootDie img) (fun k => eps.any (fun e => s.portOf e.1 k)) (i.partOf img j x.2).2
  match i.mem.findIdx? (fun n => n == 128) with
  | none => (true, 0, s)
  | some r =>
    let (o, bs) := i.partOf img j r
    let a := colDst img d i.dst1 + o
    if bs = [] then (true, a, s) else
    let (ok, s) := s.cruWrite (colCru img d 0 0) (s.collMaster d) a bs
    (ok, a, s)

/-- The release tick of chunk j (R233). -/
def CollInst.relAt (i : CollInst) (img : List Byte) (j : Nat) : Nat := i.start + colRelOff img i.desc + j * colPeriod img i.desc

/-- The chunk that leaves next, and since when it is ready: the first that is ready, not released, and may leave (R233, R249). -/
def State.nextChunk (s : State) (i : CollInst) : Option (Nat × Nat) :=
  let img := s.cst.img
  (List.range (colChunks img i.desc)).findSome? (fun j =>
    if i.released.contains j then none
    else (i.ready.find? (fun r => r.1 == j)).filter (fun r => s.mayRelease (i.relAt img j) r.2))

/-- CHUNK_RELEASE: a result chunk leaves at its release tick; the last one completes the instance (R233). With TEMPER set the stage has
taken the share, and the slice it makes is what leaves (R261). -/
def State.chunkRelease (s : State) (d g : Nat) : State :=
  let img := s.cst.img
  match s.running? d g with
  | none => s
  | some i =>
    match s.nextChunk i with
    | none => s
    | some (j, rdy) =>
      let rel := i.relAt img j
      let s := s.release 1 d rel rdy
      let s := if s.isLate rel then (s.inc (CRU_DLATE d)).raise (CRU_DSTAT_LATE d) else s
      let i := { i with released := i.released ++ [j] }
      if i.bad.contains j then s.collGo s i 0 j
      else
        let (ok, a, s) := (s.setInst i).collDeliver i j
        if !ok then s.failInst i 4 (some (a, 256, 3))
        else if colChunks img d ≤ i.released.length then
          match s.fit i j with
          | .ok (i, some bad, s) => s.failInst i 4 (some bad)
          | .ok (i, none, s) => (s.setInst i).completeInst i
          | .error _ => s.completeInst i
        else
          let s := s.collGo s i 0 j
          if (agStage img d).isSome then s.collAll d g else s.collPull d g

/-- CHUNK_RELEASE (R233). -/
def execChunkRelease (t d g : Nat) (s : State) : Host.Outcome State Fault Refusal := .next ((s.at t).chunkRelease d g)

/-! ### Fences, seams, quenches -/

/-- The instances of a list that still run fail with a status (R251): one that fails beside its REDUCESCATTER fails once. -/
def State.failThose (s : State) (l : List CollInst) (status : Nat) : State :=
  l.foldl (fun s i =>
    match s.inst? i.desc i.g with
    | some i => s.failInst i status none
    | none => s) s

/-- At a seam the stopped instances are recorded as failed with status FENCED (R250). -/
def State.collSeam (s : State) : State := s.failThose (s.coll.insts.filter (fun i => i.stopped)) 3

/-- A quench stops every running instance with status QUENCHED (R251, R521). -/
def State.collQuench (s : State) : State := s.failThose s.coll.insts 6

/-- Whether results of this epoch are still to be released by collectives (R100, R233, R250). -/
def State.collPending (s : State) : Bool := !(s.collDue = []) || s.coll.insts.any (fun i => !i.stopped)

end Sys2Proof.Machine
end

