-- ==== Sys2Proof/Machine/Temper.lean ====
section
/-! DEFINITION. Temper steps (R261 to R267, R269, R277, R278). -/

namespace Sys2Proof.Machine

/-- The running step of a stage. -/
def State.step? (s : State) (st : Nat) : Option TStep := s.temper.steps.find? (fun x => x.stage == st)

/-- Replace the step of a stage. -/
def State.setStep (s : State) (x : TStep) : State :=
  { s with temper := { s.temper with steps := s.temper.steps.map (fun y => if y.stage = x.stage then x else y) } }

/-- A step fails of itself (R263, R526, R535): AG fails with the same status. -/
def State.stepFail (s : State) (x : TStep) (m : Master) (acc addr n : Nat) : State :=
  let img := s.cst.img
  let status := 4
  let s := s.temperStop x.stage status
  let s := s.fault .mem 2 status m acc (s.badAddr addr n)
  let s := s.splitFail (mTemper x.stage) status x.seam (stgSpans img x.stage (shareS img x.desc))
    ((s.badWords addr n).map (fun w => (w, 1)))
  let ag := stgAg img x.stage
  if ag = 0xFFFF then s
  else match s.inst? ag 0 with
    | some a => s.failOne a status none
    | none =>
      let rest := s.coll.started.filter (fun e => !(e.1 == ag && e.2.1 == 0))
      { s with coll := { s.coll with started := rest ++ [(ag, 0, x.seam)] } }

/-- A signed 8-bit value. -/
def sgn8 (v : Nat) : Int := sext 8 v

/-- TEMPER_STEP_START: the first chunk of a step has reached the stage, which latches its hyperparameters (R261). -/
def State.temperStart (s : State) (st : Nat) : State :=
  let img := s.cst.img
  match s.temper.slices.find? (fun x => x.1 == st), stgDesc img st with
  | some (_, seam, _, _), some d =>
    if !s.jobRuns || (s.step? st).isSome then s
    else
      let layers := (List.range (stgNl img st)).map (fun i =>
        let l := stgLayer0 img st + i
        (⟨l, s.rd (NUM_TLR l), s.rd (NUM_TWD l), sgn8 (s.rd (NUM_TLAYER_LSCALE l))⟩ : TLayer))
      let x : TStep :=
        { stage := st, desc := d, seam := seam, start := s.tg.epochStart, step := s.rd64 (NUM_TSTEP_LO st) + 1, layers := layers
          cur := false, phase2 := false, done1 := [], done2 := [], sums := layers.map (fun _ => (0, 0))
          ratio := layers.map (fun _ => 0x3F800000), ready := [], released := [], slices := [], held := [], changed := [] }
      let s := { s with temper := { s.temper with steps := s.temper.steps ++ [x] } }
      let s := (s.wr (NUM_TSTAT_STATE st) 1).wr (NUM_TSTAT_STATUS st) 1
      match s.memRead (mTemper st) (stgTag img st) 16 with
      | (none, s) => s.stepFail x (mTemper st) 0 (stgTag img st) 16
      | (some bs, s) => s.setStep { x with cur := leAt bs 8 1 % 2 == 1 }
  | _, _ => s

/-- TEMPER_STEP_START (R261). -/
def execTemperStepStart (t st : Nat) (s : State) : Host.Outcome State Fault Refusal := .next ((s.at t).temperStart st)

/-- Whether a Bench may run work of a stage (R262): drained, or waiting at WAITC, DRAINW or SEAM. -/
def State.benchIdle (s : State) (l : Nat) : Bool :=
  let b := s.bench l
  match b.st with
  | .drained | .waiting => true
  | .foldedOut => b.atSeam || b.waitc.isSome
  | _ => false


/-- The elements of this node's slice of chunk j: their indexes in the vector, in share order (R237, R261). -/
def sliceElems (img : List Byte) (d j : Nat) : List Nat :=
  (finPaths img d j).flatMap (fun p =>
    let (lo, n) := colPath img d 0 j p
    (List.range n).map (fun i => j * colC img d + lo + i))

/-- Rounds of the step before chunk j (R261). -/
def roundsBefore (img : List Byte) (d j : Nat) : Nat := ((List.range j).map (fun k => (shareN img d k + 63) / 64)).sum

/-- The layer of an element, by its place among the stage's layers (R257, R258). -/
def TStep.layerOf (x : TStep) (np : List Byte) (e : Nat) : Nat :=
  (x.layers.findIdx? (fun l => decide (layerF np l.idx 0 8 ≤ e ∧ e < layerF np l.idx 0 8 + layerF np l.idx 8 8))).getD 0

/-- The cells that a stage uses in a Bench hold its own data: their contents are open (R262; log 3). -/
def State.useCells (s : State) (l bcell : Nat) : State :=
  let bs := (List.range 16384).map (fun i => Config.stageCell i s.free)
  (s.setBench l ((s.bench l).write (256 * bcell) bs)).freeNext

/-- What a stage read for one slice: gradients, and the stored w, m, v (R261). -/
structure SliceIn where
  pos : Nat
  g : List Nat
  w : List Nat
  m : List Nat
  v : List Nat

/-- The members of a Bench group in increasing order, and the one that takes round q (R261). -/
def State.roundBench (s : State) (g q : Nat) : Nat :=
  let ms := kernMembers s.kern g
  ms.getD (q % ms.length) 0

/-- The Benches that run the rounds of a slice of n elements whose first round is round q0 of the step (R261). -/
def State.roundBenches (s : State) (g q0 n : Nat) : List Nat := ((List.range ((n + 63) / 64)).map (fun i => s.roundBench g (q0 + i))).eraseDups

/-- Rounds of n elements: first element and count. -/
def roundsOf (n : Nat) : List (Nat × Nat) := (List.range ((n + 63) / 64)).map (fun i => (64 * i, min 64 (n - 64 * i)))

/-- An array of n elements read in lane rounds, each by its Bench (R261, R516): the master and span that memory failed
otherwise. Round 0 of it is round q0 of the step. -/
def State.roundsRead (s : State) (g q0 a n bits : Nat) : Except (Master × Nat × Nat) (List Byte) × State :=
  (roundsOf n).foldl (fun (r : Except (Master × Nat × Nat) (List Byte) × State) e =>
    match r.1 with
    | .error _ => r
    | .ok bs =>
      let m := mBench (r.2.roundBench g (q0 + e.1 / 64))
      let x := a + e.1 * bits / 8
      let k := e.2 * bits / 8
      match r.2.memRead m x k with
      | (some b, s) => (.ok (bs ++ b), s)
      | (none, s) => (.error (m, x, k), s)) (.ok [], s)

/-- The same for a write. -/
def State.roundsWrite (s : State) (g q0 a n bits : Nat) (bs : List Byte) : Option (Master × Nat × Nat) × State :=
  (roundsOf n).foldl (fun (r : Option (Master × Nat × Nat) × State) e =>
    match r.1 with
    | some _ => r
    | none =>
      let m := mBench (r.2.roundBench g (q0 + e.1 / 64))
      let x := a + e.1 * bits / 8
      let k := e.2 * bits / 8
      let (ok, s) := r.2.memWrite m x (slice bs (e.1 * bits / 8) k)
      (if ok then none else some (m, x, k), s)) (none, s)

/-- The slice of chunk j and the current copy's elements for it; what memory failed otherwise. -/
def State.sliceRead (s : State) (x : TStep) (j : Nat) (sl : List Nat) : Except (Master × Nat × Nat) SliceIn × State :=
  let img := s.cst.img
  let st := x.stage
  let n := sl.length
  let S := shareS img x.desc
  let pos := shareAt img x.desc j
  let base := stgCopy img st x.cur
  let wf := stgW img st
  let sf := stgS img st
  let g := stgGroup img st
  let q0 := roundsBefore img x.desc j
  let (w, s) := s.roundsRead g q0 (base + pos * wf.bits / 8) n wf.bits
  let (m, s) := s.roundsRead g q0 (base + copyM img st S + pos * sf.bits / 8) n sf.bits
  let (v, s) := if stgRule img st = 0 then (.ok [], s) else s.roundsRead g q0 (base + copyV img st S + pos * sf.bits / 8) n sf.bits
  match w, m, v with
  | .ok w, .ok m, .ok v =>
    let gf := colRes img x.desc
    (.ok ⟨pos, sl.map (to32 gf), unpackElems wf w n, unpackElems sf m n, if stgRule img st = 0 then [] else unpackElems sf v n⟩, s)
  | .error a, _, _ => (.error a, s)
  | _, .error a, _ => (.error a, s)
  | _, _, .error a => (.error a, s)

/-- A list of codes at an index. -/
def at0 (l : List Nat) (i : Nat) : Nat := l.getD i 0

/-- A sampled round is compared with binary64 (R274). -/
def State.sampleRound (s : State) (x : TStep) (l unit : Nat) (us : List (Nat × Nat × Updated)) (si : SliceIn) : State :=
  let img := s.cst.img
  let sf := stgS img x.stage
  s.sampleElems l unit x.step (us.flatMap (fun u =>
    let (idx, li, r) := u
    let ly := x.layers.getD li ⟨0, 0, 0, 0⟩
    let d := ly.k - sgn8 (s.rd (NUM_TLAYER_KST ly.idx))
    let st (n : Int) (c : Nat) : Nat := if d = 0 then to32 sf c else scaleb32 (to32 sf c) (n * d)
    wideElem (stgRule img x.stage) r (layerConsts (nump img) ly.idx ly.lr ly.wd ly.k x.step).wide
      (x.ratio.getD li 0x3F800000) (at0 si.g idx) (to32 (stgW img x.stage) (at0 si.w idx)) (st 1 (at0 si.m idx))
      (st 2 (at0 si.v idx))))

/-- The updated elements of a slice: their index in it, their layer, the update (R261, R265). -/
def State.sliceUpdate (s : State) (x : TStep) (j : Nat) (si : SliceIn) : List (Nat × Nat × Updated) :=
  let img := s.cst.img
  let np := nump img
  let st := x.stage
  let consts := x.layers.map (fun l => layerConsts np l.idx l.lr l.wd l.k x.step)
  (sliceElems img x.desc j).zipIdx.map (fun (e : Nat × Nat) =>
    let li := x.layerOf np e.1
    let ly := x.layers.getD li ⟨0, 0, 0, 0⟩
    let c := consts.getD li (layerConsts np ly.idx ly.lr ly.wd ly.k x.step)
    (e.2, li, updateElem (stgRule img st) c ly.k (sgn8 (s.rd (NUM_TLAYER_KST ly.idx))) (x.ratio.getD li 0x3F800000) (stgW img st)
      (stgS img st) s.policy (s.rd64 NUM_TSEED_LO) x.step (layerF np ly.idx 40 2) (e.1 - layerF np ly.idx 0 8)
      (at0 si.g e.2) (at0 si.w e.2) (at0 si.m e.2) (at0 si.v e.2)))

/-- What a slice's updates count (R267, R277): flags by round, non-finite elements, updates rounded to zero. -/
def State.sliceCounts (s : State) (x : TStep) (j : Nat) (us : List (Nat × Nat × Updated)) : State :=
  let img := s.cst.img
  let g := stgGroup img x.stage
  let q0 := roundsBefore img x.desc j
  us.foldl (fun s u =>
    let (idx, li, r) := u
    let s := s.benchFlags (s.roundBench g (q0 + idx / 64)) r.flags
    let s := if r.nonfin then s.inc NUM_TNONFIN else s
    if r.zero then s.inc (NUM_TZERO ((x.layers.getD li ⟨0, 0, 0, 0⟩).idx)) else s) s

/-- Sampled rounds of a slice (R272). -/
def State.sliceSamples (s : State) (x : TStep) (j : Nat) (us : List (Nat × Nat × Updated)) (si : SliceIn) : State :=
  let img := s.cst.img
  let q0 := roundsBefore img x.desc j
  (List.range ((us.length + 63) / 64)).foldl (fun s i =>
    let l := s.roundBench (stgGroup img x.stage) (q0 + i)
    match s.drawn x.step 0xFFFFFE (l * 2 ^ 30 + q0 + i) with
    | some unit => s.sampleRound x l unit (us.filter (fun u => u.1 / 64 == i)) si
    | none => s) s

/-- The new values of a slice go to the inactive copy (R259, R261): what memory failed, if anything. -/
def State.sliceWrite (s : State) (x : TStep) (j : Nat) (si : SliceIn) (us : List (Nat × Nat × Updated)) :
    Option (Master × Nat × Nat) × State :=
  let img := s.cst.img
  let st := x.stage
  let S := shareS img x.desc
  let base := stgCopy img st (!x.cur)
  let wf := stgW img st
  let sf := stgS img st
  let arrs : List (Nat × Nat × List Byte) :=
    [(base + si.pos * wf.bits / 8, wf.bits, packElems wf (us.map (fun u => u.2.2.w))),
     (base + copyM img st S + si.pos * sf.bits / 8, sf.bits, packElems sf (us.map (fun u => u.2.2.m)))] ++
    (if stgRule img st = 0 then [] else
      [(base + copyV img st S + si.pos * sf.bits / 8, sf.bits, packElems sf (us.map (fun u => u.2.2.v)))])
  arrs.foldl (fun (r : Option (Master × Nat × Nat) × State) a =>
    match r.1 with
    | some _ => r
    | none => r.2.roundsWrite (stgGroup img st) (roundsBefore img x.desc j) a.1 us.length a.2.1 a.2.2) (none, s)

/-- The phase that writes, on chunk j (R261). -/
def State.temperWrite (s : State) (x : TStep) (j : Nat) (si : SliceIn) : State :=
  let us := s.sliceUpdate x j si
  let s := (s.sliceCounts x j us).sliceSamples x j us si
  match s.sliceWrite x j si us with
  | (some a, s) => s.stepFail x a.1 1 a.2.1 a.2.2
  | (none, s) =>
    let held := (x.held ++ us.map (fun u => u.2.1)).eraseDups
    let ch := (x.changed ++ (us.filter (fun u => u.2.2.w != at0 si.w u.1)).map (fun u => u.2.1)).eraseDups
    s.setStep { x with done2 := x.done2 ++ [j], ready := x.ready ++ [(j, s.now)], held := held, changed := ch
                       slices := x.slices ++ [(j, us.map (fun u => u.2.2.w))] }

/-- A binary32 square as an integer on the grid 2^q (R266): an infinity or NaN converts as R130 says, at 128 bits (DEDUCED, log 24). -/
def normInt (x : Nat) (q : Int) : Int :=
  match f32.decode x with
  | .fin n m e => (roundInt .rne n m (e - q)).1
  | .inf _ => 2 ^ 127 - 1
  | .nan _ => 0

/-- Phase 1 of TRUST on chunk j (R266): the sums of w^2 and u^2 by layer. -/
def State.temperNorms (s : State) (x : TStep) (si : SliceIn) (j : Nat) : List (Int × Int) :=
  let img := s.cst.img
  let np := nump img
  let st := x.stage
  let wf := stgW img st
  let sf := stgS img st
  let consts := x.layers.map (fun l => layerConsts np l.idx l.lr l.wd l.k x.step)
  (sliceElems img x.desc j).zipIdx.foldl (fun sums (e : Nat × Nat) =>
    let li := x.layerOf np e.1
    let ly := x.layers.getD li ⟨0, 0, 0, 0⟩
    let g := at0 si.g e.2
    let c := consts.getD li (layerConsts np ly.idx ly.lr ly.wd ly.k x.step)
    let d := ly.k - sgn8 (s.rd (NUM_TLAYER_KST ly.idx))
    let m0 := if d = 0 then to32 sf (at0 si.m e.2) else scaleb32 (to32 sf (at0 si.m e.2)) d
    let v0 := if d = 0 then to32 sf (at0 si.v e.2) else scaleb32 (to32 sf (at0 si.v e.2)) (2 * d)
    let w := to32 wf (at0 si.w e.2)
    let (u, _, _) := adamU ops32 c g w m0 v0
    let q := sgn8 (layerF np ly.idx 43 1)
    let p := sums.getD li (0, 0)
    sums.set li (p.1 + normInt (ops32.mul w w) q, p.2 + normInt (ops32.mul u u) q)) x.sums

/-- The sums of all chunks go to NORM, saturated to INT64 (R266). -/
def State.temperToNorm (s : State) (x : TStep) : State :=
  let img := s.cst.img
  let norm := stgNorm img x.stage
  let v := x.sums.flatMap (fun p => [satInt 64 p.1, satInt 64 p.2])
  let s := if v.any (·.2) then s.benchFlags (s.roundBench (stgGroup img x.stage) 0) tSaturate else s
  let s := { s with temper := { s.temper with
    normIn := s.temper.normIn.filter (fun (e : Nat × List Nat) => decide (e.1 ≠ norm)) ++ [(norm, v.map (fun (e : Int × Bool) => toBits 64 e.1))] } }
  let s := s.wr (NUM_TSTAT_STATE x.stage) 2
  if (s.running? norm 0).isSome then s.collAll norm 0 else s

/-- TEMPER_CHUNK: the stage runs its rule on the slice of chunk j (R261, R266). -/
def State.temperChunk (s : State) (st j : Nat) : State :=
  let img := s.cst.img
  match s.step? st, s.temper.slices.find? (fun x => x.1 == st && x.2.2.1 == j) with
  | some x, some (_, _, _, sl) =>
    let trust1 := stgRule img st == 2 && !x.phase2
    let ls := s.roundBenches (stgGroup img st) (roundsBefore img x.desc j) sl.length
    if !s.jobRuns || !ls.all s.benchIdle || (if trust1 then x.done1 else x.done2).contains j then s
    else match s.sliceRead x j sl with
      | (.error a, s) => s.stepFail x a.1 0 a.2.1 a.2.2
      | (.ok si, s) =>
        let s := ls.foldl (fun s l => s.useCells l (stgBcell img st)) s
        if trust1 then
          let x := { x with sums := s.temperNorms x si j, done1 := x.done1 ++ [j] }
          let s := s.setStep x
          if x.done1.length = colChunks img x.desc then s.temperToNorm x else s
        else s.temperWrite x j si
  | _, _ => s

/-- TEMPER_CHUNK (R261). -/
def execTemperChunk (t st j : Nat) (s : State) : Host.Outcome State Fault Refusal := .next ((s.at t).temperChunk st j)

/-- The ratio r_t of a layer from its returned norms (R266). -/
def trustRatio (np : List Byte) (l : Nat) (w u : Nat) : Nat :=
  let q := sgn8 (layerF np l 43 1)
  let n (c : Nat) : Nat := (ofNum32 .rne (Num.ofInt (sext 64 c) q)).1
  if n w % 2 ^ 31 = 0 ∨ n u % 2 ^ 31 = 0 then 0x3F800000
  else (min32 (ops32.div (ops32.sqrt (n w)) (ops32.sqrt (n u))) (layerF np l 36 4)).1

/-- TEMPER_PHASE2_START: NORM is complete (R266). -/
def State.temperPhase2 (s : State) (st : Nat) : State :=
  let img := s.cst.img
  match s.step? st, s.temper.normOut.find? (fun x => x.1 == stgNorm img st) with
  | some x, some (_, v) =>
    if !s.jobRuns || x.phase2 || stgRule img st != 2 || x.done1.length != colChunks img x.desc then s
    else
      let ratio := x.layers.zipIdx.map (fun (l : TLayer × Nat) => trustRatio (nump img) l.1.idx (v.getD (2 * l.2) 0) (v.getD (2 * l.2 + 1) 0))
      (s.setStep { x with phase2 := true, ratio := ratio }).wr (NUM_TSTAT_STATE st) 3
  | _, _ => s

/-- TEMPER_PHASE2_START (R266). -/
def execTemperPhase2Start (t st : Nat) (s : State) : Host.Outcome State Fault Refusal := .next ((s.at t).temperPhase2 st)

/-- The watch of one layer at the completion of a step (R277, R278): all-zero steps in a row. A layer is reported once until RUN has been 0;
one whose RUN a seam finds past a lower SILENT_RUN is reported at its next all-zero step (DEDUCED, log 84). -/
def State.watchLayer (s : State) (m : Master) (l step : Nat) (changed : Bool) : State :=
  let mark (s : State) (f : List Nat → List Nat) : State := { s with temper := { s.temper with silent := f s.temper.silent } }
  if changed then mark (s.wr (NUM_TLAYER_RUN l) 0) (fun k => k.filter (fun x => x ≠ l))
  else
    let s := s.inc (NUM_TLAYER_RUN l)
    let n := s.rd NUM_WATCH_SILENT_RUN
    if n ≠ 0 ∧ n ≤ s.rd (NUM_TLAYER_RUN l) ∧ s.temper.silent.contains l = false then
      let s := mark s (fun k => l :: k)
      let s := (s.raise (NUM_TLAYER_SILENT l)).inc NUM_TSILENT_COUNT
      let s := if s.bit NUM_TSILENT_VALID then s else (s.wr NUM_TSILENT_FIRST l).wrBit NUM_TSILENT_VALID true
      (s.fault .num 1 0 m 6).hall 0x12 (leBytes 2 l ++ [0, 0] ++ leBytes 8 step)
    else s

/-- A step completes at the release of its last slice (R261). -/
def State.stepComplete (s : State) (x : TStep) : State :=
  let img := s.cst.img
  let st := x.stage
  let tag := leBytes 8 x.step ++ [if x.cur then 0 else 1] ++ List.replicate 7 0
  let (ok, s) := s.memWrite (mTemper st) (stgTag img st) tag
  if !ok then s.stepFail x (mTemper st) 1 (stgTag img st) 16
  else
    let s := s.wr64 (NUM_TSTEP_LO st) x.step
    let s := if stgSync img st = 0xFFFF then s else s.postSync (stgSync img st)
    let s := x.layers.zipIdx.foldl (fun (s : State) (l : TLayer × Nat) =>
      let s := s.wr (NUM_TLAYER_KST l.1.idx) (toBits 8 l.1.k)
      if x.held.contains l.2 then s.watchLayer (mTemper st) l.1.idx x.step (x.changed.contains l.2) else s) s
    s.temperStop st 2

/-- The release tick of the slice of chunk j (R261). -/
def TStep.relAt (x : TStep) (img : List Byte) (j : Nat) : Nat := x.start + stgRelOff img x.stage + j * stgPeriod img x.stage

/-- The slice that leaves next, and since when it is ready: the first that is ready, not released, and may leave (R261). -/
def State.nextSlice (s : State) (x : TStep) : Option (Nat × Nat) :=
  (List.range (colChunks s.cst.img x.desc)).findSome? (fun j =>
    if x.released.contains j then none
    else (x.ready.find? (fun r => r.1 == j)).filter (fun r => s.mayRelease (x.relAt s.cst.img j) r.2))

/-- TEMPER_SLICE_RELEASE: an updated slice leaves at its release tick (R261). -/
def State.temperRelease (s : State) (st : Nat) : State :=
  let img := s.cst.img
  match s.step? st with
  | none => s
  | some x =>
    match (if s.jobRuns then s.nextSlice x else none) with
    | none => s
    | some (j, rdy) =>
        let s := s.release 2 st (x.relAt img j) rdy
        let x := { x with released := x.released ++ [j] }
        let s := s.setStep x
        let ag := stgAg img st
        let w := ((x.slices.find? (fun e => e.1 == j)).map (·.2)).getD []
        let s :=
          if ag = 0xFFFF then s
          else
            let s := { s with temper := { s.temper with fed := s.temper.fed ++ [(ag, shareAt img x.desc j, w)] } }
            if (s.running? ag 0).isSome then s.collAll ag 0 else s
        if colChunks img x.desc ≤ x.released.length then s.stepComplete x else s

/-- TEMPER_SLICE_RELEASE (R261). -/
def execTemperSliceRelease (t st : Nat) (s : State) : Host.Outcome State Fault Refusal := .next ((s.at t).temperRelease st)

/-- Whether the REDUCESCATTER that feeds a stage was stopped by a fence: the step ends with it at the seam (R250, R263). -/
def State.stageStopped (s : State) (st : Nat) : Bool := s.coll.insts.any (fun i => i.stopped && colStage s.cst.img i.desc == some st)

/-- Whether a step holds the seam (R263). -/
def State.temperPending (s : State) : Bool :=
  s.temper.steps.any (fun x => !s.stageStopped x.stage) || s.temper.slices.any (fun x => !s.stageStopped x.1)

end Sys2Proof.Machine
end

