-- ==== Sys2Proof/Machine/Stock.lean ====
section
/-! DEFINITION. Stock tables (09): the STCK section, lookups and their responses, gradients, the sparse update and its commit. -/

namespace Sys2Proof.Machine

/-! ### The STCK section (R281, R282) -/

def stck (img : List Byte) : List Byte := sect img tySTCK
def nTab (img : List Byte) : Nat := leAt (stck img) 0 4
def nPin (img : List Byte) : Nat := leAt (stck img) 8 4
/-- A field of table descriptor t (R282). -/
def tabF (img : List Byte) (t o n : Nat) : Nat := leAt (stck img) (64 + 160 * t + o) n
/-- Entry i of the pin list (R281). -/
def pinRow (img : List Byte) (i : Nat) : Nat := leAt (stck img) (up64 (64 + 160 * nTab img) + 4 * i) 4

def tabRows (img : List Byte) (t : Nat) : Nat := tabF img t 0 4
def tabD (img : List Byte) (t : Nat) : Nat := tabF img t 4 2
def tabFmt (c : Nat) : Fmt := (Fmt.ofCode c).getD .fp32
def tabR (img : List Byte) (t : Nat) : Fmt := tabFmt (tabF img t 6 1 % 16)
def tabO (img : List Byte) (t : Nat) : Fmt := tabFmt (tabF img t 6 1 / 16)
def tabS (img : List Byte) (t : Nat) : Fmt := tabFmt (tabF img t 69 1 % 16)
def tabP (img : List Byte) (t : Nat) : Fmt := tabFmt (tabF img t 69 1 / 16)
def tabPool (img : List Byte) (t : Nat) : Nat := tabF img t 7 1
def tabBase (img : List Byte) (t : Nat) : Nat := tabF img t 8 8
def tabStride (img : List Byte) (t : Nat) : Nat := tabF img t 16 4
def tabCache (img : List Byte) (t : Nat) : Nat := tabF img t 20 1
def tabCrows (img : List Byte) (t : Nat) : Nat := tabF img t 24 4
def tabPins (img : List Byte) (t : Nat) : List Nat := (List.range (tabF img t 32 4)).map (fun i => pinRow img (tabF img t 28 4 + i))
def tabLat (img : List Byte) (t : Nat) : Nat := tabF img t 36 4
def tabCrus (img : List Byte) (t : Nat) : List Nat := maskCrus (tabF img t 40 8) 0 ++ maskCrus (tabF img t 48 8) 64
def tabLkEnd (img : List Byte) (t : Nat) : Nat := tabF img t 56 4
def tabUpdOff (img : List Byte) (t : Nat) : Nat := tabF img t 60 4
def tabUpdRel (img : List Byte) (t : Nat) : Nat := tabF img t 64 4
def tabRule (img : List Byte) (t : Nat) : Nat := tabF img t 68 1
/-- Width of the aligned integers of a table's gradient sums (R133, R282). -/
def tabW (img : List Byte) (t : Nat) : Nat := match tabF img t 70 1 with | 1 => 24 | 2 => 40 | _ => 56
def tabBlk (img : List Byte) (t : Nat) : Nat := 8 * 2 ^ tabF img t 71 1
def tabM (img : List Byte) (t : Nat) : Nat := tabF img t 72 8
def tabV (img : List Byte) (t : Nat) : Nat := tabF img t 80 8
def tabStrideS (img : List Byte) (t : Nat) : Nat := tabF img t 88 4
def tabLogCells (img : List Byte) (t : Nat) : Nat := tabF img t 92 4
def tabLog (img : List Byte) (t : Nat) : Nat := tabF img t 96 8
def tabScratch (img : List Byte) (t : Nat) : Nat := tabF img t 104 8
def tabMax (img : List Byte) (t : Nat) : Nat := tabF img t 112 4
def tabLayer (img : List Byte) (t : Nat) : Nat := tabF img t 116 2
def tabGroup (img : List Byte) (t : Nat) : Nat := tabF img t 118 2
def tabProj (img : List Byte) (t : Nat) : Option Nat := let g := tabF img t 120 2; if g = 0xFFFF then none else some g
def tabDout (img : List Byte) (t : Nat) : Nat := tabF img t 122 2
def tabPbase (img : List Byte) (t : Nat) : Nat := tabF img t 128 8
def tabTag (img : List Byte) (t : Nat) : Nat := tabF img t 136 8
def tabStep0 (img : List Byte) (t : Nat) : Nat := tabF img t 144 8

/-- Address and bytes of row r, and of its state rows (R283). -/
def rowAt (img : List Byte) (t r : Nat) : Nat := tabBase img t + r * tabStride img t
def rowBytes (img : List Byte) (t : Nat) : Nat := tabD img t * (tabR img t).bits / 8
def stateBytes (img : List Byte) (t : Nat) : Nat := tabD img t * (tabS img t).bits / 8

/-- A span cut where HBM stacks meet, each part in one target (R546). -/
def cutStacks (a n : Nat) : List (Nat × Nat) :=
  if n = 0 then []
  else (List.range ((a + n - 1) / stackSize - a / stackSize + 1)).map (fun i =>
    let lo := max a ((a / stackSize + i) * stackSize)
    (lo, min (a + n) ((a / stackSize + i + 1) * stackSize) - lo))

/-- The table's rows; its log, its scratch and its state rows (R285, R295). The spec gives scratch no size: it is taken as what
the parts of R295 put there for MAXTOUCH rows (log 27). -/
def rowSpans (img : List Byte) (t : Nat) : List (Nat × Nat) := cutStacks (tabBase img t) (tabRows img t * tabStride img t)
def scratchRow (img : List Byte) (t : Nat) : Nat :=
  tabD img t * (tabW img t + 24) / 8 + rowBytes img t + (if tabRule img t = 2 then 2 else 1) * stateBytes img t
def scratchBytes (img : List Byte) (t n : Nat) : Nat := (n * scratchRow img t + 255) / 256 * 256
def stateSpans (img : List Byte) (t : Nat) : List (Nat × Nat) :=
  let n := tabRows img t * tabStrideS img t
  cutStacks (tabM img t) n ++ (if tabRule img t = 2 then cutStacks (tabV img t) n else [])
def updSpans (img : List Byte) (t : Nat) : List (Nat × Nat) :=
  (if tabLogCells img t = 0 then [] else [(tabLog img t, 256 * tabLogCells img t)]) ++
  (if tabMax img t = 0 then [] else [(tabScratch img t, scratchBytes img t (tabMax img t))]) ++ rowSpans img t ++ stateSpans img t

/-! ### Requests (R284) -/

/-- A request as its packet spells it. -/
structure Request where
  label : Nat
  port : Nat
  vc : Nat
  epoch : Nat
  arrived : Nat
  flits : Nat
  data : List Byte
deriving DecidableEq, Repr

def Request.kind (q : Request) : Nat := leAt q.data 0 1
def Request.mode (q : Request) : Nat := leAt q.data 1 1
def Request.table (q : Request) : Nat := leAt q.data 2 2
def Request.id (q : Request) : Nat := leAt q.data 4 4
def Request.bags (q : Request) : Nat := leAt q.data 8 2
def Request.len (q : Request) : Nat := leAt q.data 10 2
def Request.gfmt (q : Request) : Nat := leAt q.data 12 1

/-- Bytes of an index entry: WSUM carries a weight with each. -/
def Request.entrySize (q : Request) : Nat := if q.mode = 2 then 8 else 4

/-- Entry i of bag b: its row and weight. -/
def Request.entry (q : Request) (b i : Nat) : Nat × Nat :=
  let o := 32 + (b * q.len + i) * q.entrySize
  (leAt q.data o 4, leAt q.data (o + 4) 4)

/-- The entries of bag b that are no padding. -/
def Request.bag (q : Request) (b : Nat) : List (Nat × Nat) :=
  ((List.range q.len).map (q.entry b)).filter (fun e => e.1 != 0xFFFFFFFF)

/-- Non-padding entries of all bags. -/
def Request.entries (q : Request) : List (Nat × Nat) := (List.range q.bags).flatMap q.bag

/-- Where a GRAD's vectors begin: the next 32-byte boundary (R284). -/
def Request.gradAt (q : Request) : Nat := (32 + q.bags * q.len * q.entrySize + 31) / 32 * 32

/-- Bytes of the payload that the header calls for (R284). -/
def Request.size (q : Request) (d : Nat) : Nat :=
  if q.kind = 1 then q.gradAt + q.bags * d * (tabFmt q.gfmt).bits / 8 else 32 + q.bags * q.len * q.entrySize

/-- The first whole request of a stream: its flits up to the one with LAST. -/
def State.stockPacket (s : State) (l k vc : Nat) : Option (Request × List (Nat × Nat × Flit × Nat)) :=
  let mine := s.fab.stockIn.filter (fun e => e.1 == l && e.2.1 == k && e.2.2.1.vc == vc)
  let head := mine.takeWhile (fun e => !e.2.2.1.last)
  match mine.drop head.length with
  | [] => none
  | z :: _ =>
    let all := head ++ [z]
    let f := (all.headD z).2.2.1
    some (⟨l, k, vc, f.epoch, z.2.2.2, all.length, all.flatMap (fun e => e.2.2.1.data)⟩, all)

/-- The whole requests of a stream that wait. -/
def State.stockWaiting (s : State) (vc : Nat) : List Request :=
  let keys := ((s.fab.stockIn.filter (fun e => e.2.2.1.vc == vc)).map (fun e => (e.1, e.2.1))).eraseDups
  keys.filterMap (fun e => (s.stockPacket e.1 e.2 vc).map (·.1))

/-- A request leaves ingress: its flits are taken (R340). -/
def State.stockTake (s : State) (q : Request) (es : List (Nat × Nat × Flit × Nat)) : State :=
  let s := { s with fab := { s.fab with stockIn := es.foldl (fun l e => l.erase e) s.fab.stockIn } }
  es.foldl (fun s _ => s.tookFlit q.label q.port) s

/-! ### Checks (R285, R286, R298) -/

/-- A field against this chapter (R284, R298); `kind` is the one that the request's VC carries. -/
def fieldBad (img : List Byte) (kind : Nat) (q : Request) : Bool :=
  let t := q.table
  q.kind != kind || decide (nTab img ≤ t) || decide (2 < q.mode) || tabPool img t / 2 ^ q.mode % 2 == 0 ||
  (kind == 1 && (tabRule img t == 0 || !(q.gfmt == 5 || q.gfmt == 6 || q.gfmt == 7))) ||
  (slice q.data 13 19).any (fun b => b != 0) || q.bags == 0 || q.len == 0 ||
  q.flits != (q.size (tabD img t) + 255) / 256

/-- The endpoint that sent a request, as a guild master (R408, R546). -/
def State.stockAsker (s : State) (q : Request) : GMaster := ⟨0, s.selfCode + 4096 * s.epOf q.port⟩

/-- The first span of a list that the guild tables refuse. -/
def State.refusedOf (s : State) (m : GMaster) (acc : GAcc) (l : List (Nat × Nat)) : Option (Nat × Nat) :=
  l.find? (fun x => !s.granted m acc x.1 x.2)

/-- Cells and rows of a table's log. -/
def State.logOf (s : State) (t : Nat) : List (Nat × List Nat) := ((s.stock.logs.find? (fun e => e.1 == t)).map (·.2)).getD []
def State.logUsed (s : State) (t : Nat) : Nat := ((s.logOf t).map (·.1)).sum
def State.logRows (s : State) (t : Nat) : List Nat := ((s.logOf t).flatMap (·.2)).eraseDups

/-- Whether a GRAD does not fit the log (R294). -/
def State.logFull (s : State) (q : Request) : Bool :=
  let img := s.cst.img
  let t := q.table
  decide (tabLogCells img t < s.logUsed t + q.flits) ||
  decide (tabMax img t < (s.logRows t ++ q.entries.map (·.1)).eraseDups.length)

/-- The status of a request of a kind (R298); where several causes hold, the one that stands first here (log 26). -/
def State.stockStatus (s : State) (kind : Nat) (q : Request) : Nat :=
  let img := s.cst.img
  let t := q.table
  let late := if kind = 0 then tabLkEnd img t != 0 && decide (s.tg.epochStart + tabLkEnd img t ≤ q.arrived)
    else decide (s.tg.epochStart + tabUpdOff img t ≤ q.arrived)
  if s.quenched then 7
  else if q.epoch ≠ s.epochTag then 5
  else if fieldBad img kind q then 2
  else if q.entries.any (fun e => decide (tabRows img t ≤ e.1)) then 1
  else if (s.refusedOf (s.stockAsker q) (if kind = 0 then .r else .w) (rowSpans img t)).isSome then 4
  else if late then 3
  else if s.bit (STK_TSTAT_TORN t) then 9
  else if kind = 1 ∧ s.logFull q = true then 6
  else 0

/-! ### Responses (R290, R291) -/

/-- The response header (R290). -/
def stockHead (q : Request) (status count seam : Nat) : List Byte :=
  [BitVec.ofNat 8 q.kind, BitVec.ofNat 8 status] ++ leBytes 2 q.table ++ leBytes 4 q.id ++ leBytes 2 q.bags ++ leBytes 2 0 ++
    leBytes 4 count ++ leBytes 8 seam ++ leBytes 8 0

/-- A response leaves on the return label of its request's label, in packets of up to 16 flits (R284, R290). -/
def State.stockSend (s : State) (l vc : Nat) (payload : List Byte) : State :=
  match mandEntry s.mand l with
  | none => s
  | some e =>
    let fs := toFlits payload
    fs.zipIdx.foldl (fun s x =>
      s.injectLabel .stock (e.b % 2 ^ 20) vc 0 (reqOther 0 4) (x.2 % 16 == 15 || x.2 + 1 == fs.length) (x.2 % 16) x.1
        (coreCheck x.1)) s

/-- The reaction to a refusal (R298): the first since the apply of a status where the table says so. -/
def State.stockFault (s : State) (kind status t : Nat) : State :=
  let m := mStock t
  let acc := if kind = 0 then 0 else 3
  let first := !s.stock.noted.contains status
  let once (s' : State) : State :=
    if first then { s' with stock := { s'.stock with noted := status :: s'.stock.noted } } else s
  match status with
  | 1 | 2 | 5 => once (s.fault .sw 0 status m 4)
  | 3 => once (s.fault .sched 0 status m 4)
  | 4 => s.fault .sec 1 status m acc
  | 6 => s.fault .sw 1 status m 4
  | 9 => once (s.fault .cast 1 status m 4)
  | _ => s

/-- A request is refused (R285, R291, R298): counted, captured, answered at once by its header. -/
def State.stockRefuse (s : State) (kind : Nat) (q : Request) (status : Nat) : State :=
  let t := q.table
  let s := s.inc STK_REFUSE
  let s := if t < nTab s.cst.img then s.inc (STK_TREF t) else s
  let s := if s.bit STK_FIRST_VALID then s
    else ((s.wr STK_FIRST_TABLE t).wr STK_FIRST_STATUS status).wrBit STK_FIRST_VALID true
  let s := if status = 4 then
      let acc := if kind = 0 then GAcc.r else .w
      match s.refusedOf (s.stockAsker q) acc (rowSpans s.cst.img t) with
      | some x => s.deny (s.stockAsker q) acc x.1 x.2
      | none => s
    else s
  (s.stockFault kind status t).stockSend q.label q.vc (stockHead q status 0 (s.rd64 TG_SEAM_LO))

/-! ### The Ingot cache (R292, R293) -/

def State.cacheOf (s : State) (t : Nat) : List CRow := ((s.stock.cache.find? (fun e => e.1 == t)).map (·.2)).getD []
def State.setCache (s : State) (t : Nat) (l : List CRow) : State :=
  { s with stock := { s.stock with cache := s.stock.cache.filter (fun e => e.1 ≠ t) ++ [(t, l)] } }

/-- The switch die whose controller serves an address (R299): H0 to H3 the west one, on S0. -/
def stockDie (a : Nat) : Nat := if a < 4 * stackSize then 0 else 1

/-- A row is admitted, in cells of the Stock owner pool; not, when the pool has none (R292, R364). -/
def State.cacheAdmit (s : State) (t r : Nat) (pinned : Bool) : State :=
  let img := s.cst.img
  let d := stockDie (rowAt img t r)
  match s.grantAll d (List.replicate ((rowBytes img t + 255) / 256) .stk) [] with
  | none => s.poolFail d
  | some parts =>
    let got := parts.foldl (fun (x : Option (List (Nat × Nat) × State)) p =>
      match x with
      | none => none
      | some (cs, u) => (u.allocCell d (reqOther d 4) [(.stock t, .stk, p.2)] false).map (fun c => (cs ++ [c.1], c.2))) (some ([], s))
    match got with
    | none => s.poolFail d
    | some (cs, u) => u.setCache t (u.cacheOf t ++ [(⟨r, pinned, u.stock.reads, cs⟩ : CRow)])

/-- Cells of a cached row are released. -/
def State.cacheDrop (s : State) (t : Nat) (x : CRow) : State :=
  (x.cells.foldl (fun s c => s.releaseCell c (.stock t)) s).setCache t ((s.cacheOf t).erase x)

/-- A dynamic row after a miss (R292): when its places are full the least recently read one leaves. -/
def State.cacheMiss (s : State) (t r : Nat) : State :=
  let img := s.cst.img
  let room := tabCrows img t - (tabPins img t).length
  if tabCache img t ≠ 2 ∨ room = 0 then s
  else
    let dyn := (s.cacheOf t).filter (fun x => !x.pinned)
    let oldest := dyn.foldl (fun (a : Option CRow) x => match a with
      | none => some x
      | some y => if x.used < y.used then some x else some y) none
    let s := if room ≤ dyn.length then (match oldest with | some x => s.cacheDrop t x | none => s) else s
    s.cacheAdmit t r false

/-- Pinned rows are loaded during the apply (R292). -/
def State.cachePins (s : State) : State :=
  let img := s.cst.img
  (List.range (nTab img)).foldl (fun s t =>
    if tabCache img t = 0 then s else (tabPins img t).foldl (fun s r => s.cacheAdmit t r true) s) s

/-- A row is read for a lookup (R293): from the Ingot or from HBM; its element codes, or none on a MEM error. -/
def State.readRow (s : State) (t r : Nat) : Option (List Nat) × State :=
  let img := s.cst.img
  let a := rowAt img t r
  let n := rowBytes img t
  let s := { s with stock := { s.stock with reads := s.stock.reads + 1 } }
  let cache := s.cacheOf t
  if cache.any (fun x => x.row == r) then
    let touch (x : CRow) : CRow := if x.row = r then { x with used := s.stock.reads } else x
    let s := (s.setCache t (cache.map touch)).add64 (STK_THIT_LO t) 1
    (some (unpackElems (tabR img t) (s.bytesAt a n) (tabD img t)), s)
  else
    let s := s.add64 (STK_TMISS_LO t) 1
    match s.memRead (mStock t) a n with
    | (none, s) => (none, s)
    | (some bs, s) => (some (unpackElems (tabR img t) bs (tabD img t)), s.cacheMiss t r)

/-! ### Lookups -/

/-- T_INVALID where a binary32 operation of the pooling is invalid (R142; DEDUCED, log 28). -/
def poolFlag (f : Flags) : Flags := if f &&& sInvalid ≠ 0 then tInvalid else 0

/-- One bag pooled in binary32 (R288): its accumulators and flags, or the address of the row that memory failed. -/
def State.poolBag (s : State) (t mode : Nat) (es : List (Nat × Nat)) : Except Nat (List Nat × Flags) × State :=
  let img := s.cst.img
  let f := tabR img t
  let r := es.foldl (fun (a : Except Nat (List Nat × Flags) × State) e =>
    match a.1 with
    | .error _ => a
    | .ok (acc, fl) =>
      match a.2.readRow t e.1 with
      | (none, s) => (.error (rowAt img t e.1), s)
      | (some row, s) =>
        let step (x c : Nat) : Nat × Flags := if mode = 2 then fma32 .rne e.2 (to32 f c) x else add32 .rne x (to32 f c)
        let xs := (acc.zip row).map (fun p => step p.1 p.2)
        (.ok (xs.map (·.1), xs.foldl (fun g x => g ||| poolFlag x.2) fl), s)) (.ok (List.replicate (tabD img t) 0, 0), s)
  match r with
  | (.ok (acc, fl), s) =>
    if mode = 1 ∧ 0 < es.length then
      let n := (ofNum32 .rne (Num.ofInt es.length 0)).1
      let xs := acc.map (fun x => div32 .rne x n)
      (.ok (xs.map (·.1), xs.foldl (fun g x => g ||| poolFlag x.2) fl), s)
    else (.ok (acc, fl), s)
  | e => e

/-- All bags of a request. -/
def State.poolAll (s : State) (q : Request) : Except Nat (List (List Nat) × Flags) × State :=
  (List.range q.bags).foldl (fun (a : Except Nat (List (List Nat) × Flags) × State) b =>
    match a.1 with
    | .error _ => a
    | .ok (vs, fl) =>
      match a.2.poolBag q.table q.mode (q.bag b) with
      | (.error e, s) => (.error e, s)
      | (.ok (v, g), s) => (.ok (vs ++ [v], fl ||| g), s)) (.ok ([], 0), s)

/-- Vectors converted from binary32 under R130: codes and flags. -/
def convAll (f : Fmt) (pol : NumPolicy) (vs : List (List Nat)) : List (List Nat) × Flags :=
  let rs := vs.map (fun v => v.map (fun x => f.ofNum pol (f32.decode x)))
  (rs.map (fun v => v.map (·.1)), rs.foldl (fun a v => v.foldl (fun a x => a ||| x.2) a) 0)

/-- The projection of pooled bags on one Bench (R289): binary32 results and flags; the span that memory failed otherwise. -/
def State.project (s : State) (t : Nat) (vs : List (List Nat)) : Except (Nat × Nat) (List (List Nat) × Flags) × State :=
  let img := s.cst.img
  let f := tabP img t
  let d := tabD img t
  let n := d * tabDout img t * f.bits / 8
  match s.memRead (mStock t) (tabPbase img t) n with
  | (none, s) => (.error (tabPbase img t, n), s)
  | (some bs, s) =>
    let a : Operand := ⟨f, vs.length, d, vs.flatten, [], 0⟩
    let b : Operand := ⟨f, tabDout img t, d, unpackElems f bs (d * tabDout img t), [], 0⟩
    match pairKind f f with
    | none => (.ok ([], 0), s)
    | some kind =>
      let rs := (List.range vs.length).map (fun i => (List.range (tabDout img t)).map (fun j =>
        macOne .fp32 0 kind false 0 (macGroups a b i j kind.group d 0 d)))
      (.ok (rs.map (fun v => v.map (fun x => x.1.toNat)), rs.foldl (fun g v => v.foldl (fun g x => g ||| x.2) g) 0), s)

/-- The Bench that takes the next projection of a table (R289). -/
def State.projBench (s : State) (t g : Nat) : Nat :=
  s.roundBench g (((s.stock.turn.find? (fun e => e.1 == t)).map (·.2)).getD 0)

/-- A lookup that memory failed (R298, R526): status MEM, and the fault that quenches the job. -/
def State.lookupMem (s : State) (q : Request) (a n : Nat) : State :=
  (s.fault .mem 2 8 (mStock q.table) 0 (s.badAddr a n)).stockRefuse 0 q 8

/-- An accepted LOOKUP is pooled, projected where the table says so, and its response waits at its gate (R288 to R291). -/
def State.lookupRun (s : State) (q : Request) (cru : Nat) : State :=
  let img := s.cst.img
  let t := q.table
  let count := q.entries.length
  match s.poolAll q with
  | (.error a, s) => s.lookupMem q a (rowBytes img t)
  | (.ok (vs, fl), s) =>
    let s := s.add64 (CRU_CBEATS_LO cru) (count * ((rowBytes img t + 255) / 256) + q.bags)
    let s := s.cruFlags cru fl
    let done (s : State) (out : List (List Nat)) : State :=
      let bytes := stockHead q 0 count (s.rd64 TG_SEAM_LO) ++ out.flatMap (packElems (tabO img t))
      let x : Lookup := ⟨t, cru, q.label, q.arrived, s.now, bytes, q.vc⟩
      ({ s with stock := { s.stock with lookups := s.stock.lookups ++ [x] } }).cruSync
    match tabProj img t with
    | none =>
      let (out, g) := convAll (tabO img t) s.policy vs
      done (s.cruFlags cru g) out
    | some grp =>
      let l := s.projBench t grp
      let (ps, g) := convAll (tabP img t) s.policy vs
      let s := s.cruFlags cru g
      let turn := ((s.stock.turn.find? (fun e => e.1 == t)).map (·.2)).getD 0 + 1
      let rest := s.stock.turn.filter (fun e => e.1 ≠ t)
      let s := { s with stock := { s.stock with turn := rest ++ [(t, turn)] } }
      match s.project t ps with
      | (.error a, s) => s.lookupMem q a.1 a.2
      | (.ok (rs, g), s) =>
        let (out, h) := convAll (tabO img t) s.policy rs
        done (s.benchFlags l (g ||| h)) out

/-- Whether a request of the next epoch waits for the seam (R286). -/
def State.stockEarly (s : State) (q : Request) : Bool := q.epoch == (s.epochTag + 1) % 256 && !s.quenched

/-- STOCK_LOOKUP: the next whole LOOKUP request of label l on port k (R284 to R291). It waits while every context of the table's
Crucibles is taken, or while the Bench of its projection is busy. `mism`: the two lanes of the Crucible that pools it differ (R527). -/
def State.stockLookup (s : State) (l k : Nat) (mism : Bool) : State :=
  let img := s.cst.img
  match s.stockPacket l k 2 with
  | none => s
  | some (q, es) =>
    if !(s.inForce && s.bit TG_STATUS_STARTED && !s.bit DET_STAT_HELD) || s.stockEarly q then s
    else
      let st := s.stockStatus 0 q
      if st ≠ 0 then (s.stockTake q es).stockRefuse 0 q st
      else
        let t := q.table
        let idle := match tabProj img t with | none => true | some g => s.benchIdle (s.projBench t g)
        match (tabCrus img t).find? (fun c => decide (s.ctxOf c < 32)) with
        | some c =>
          if !idle then s
          else if mism then ((s.stockTake q es).fault .num 2 8 (mCrucible c) 6).stockRefuse 0 q 8
          else (s.stockTake q es).lookupRun q c
        | none => s

/-- STOCK_LOOKUP (R288). -/
def execStockLookup (t l k : Nat) (mism : Bool) (s : State) : Host.Outcome State Fault Refusal :=
  .next ((s.at t).stockLookup l k mism)

/-- LOOKUP_RESPONSE of a table: of the responses that may leave, at the arrival of their request plus RESP_LAT, the oldest leaves
(R291). -/
def State.lookupResponse (s : State) (t : Nat) : State :=
  let rel (x : Lookup) : Nat := x.arrived + tabLat s.cst.img t
  match leastBy (·.arrived) (s.stock.lookups.filter (fun x => x.table == t && s.mayRelease (rel x) x.ready)) with
  | none => s
  | some x =>
    let s := s.release 3 t (rel x) x.ready
    let s := if s.isLate (rel x) then s.raise (STK_TSTAT_LATE t) else s
    let s := { s with stock := { s.stock with lookups := s.stock.lookups.erase x } }
    ((s.add64 (STK_TLOOK_LO t) 1).stockSend x.label x.vc x.payload).cruSync

/-- LOOKUP_RESPONSE (R291). -/
def execLookupResponse (t tab : Nat) (s : State) : Host.Outcome State Fault Refusal := .next ((s.at t).lookupResponse tab)

/-- STOCK_GRAD: the next whole GRAD request of label l on port k is appended to the log and answered (R290, R294). -/
def State.stockGrad (s : State) (l k : Nat) : State :=
  let img := s.cst.img
  match s.stockPacket l k 3 with
  | none => s
  | some (q, es) =>
    if !(s.inForce && s.bit TG_STATUS_STARTED && !s.bit DET_STAT_HELD) || s.stockEarly q then s
    else
      let st := s.stockStatus 1 q
      let s := s.stockTake q es
      if st ≠ 0 then s.stockRefuse 1 q st
      else
        let t := q.table
        let (_, s) := s.memWrite (mStock t) (tabLog img t + 256 * s.logUsed t) q.data
        let log := s.logOf t ++ [(q.flits, (q.entries.map (·.1)).eraseDups)]
        let rest := s.stock.logs.filter (fun e => e.1 ≠ t)
        let s := { s with stock := { s.stock with logs := rest ++ [(t, log)] } }
        (s.wr (STK_TLOG_CELLS t) (s.logUsed t)).stockSend q.label q.vc (stockHead q 0 q.entries.length (s.rd64 TG_SEAM_LO))

/-- STOCK_GRAD (R294). -/
def execStockGrad (t l k : Nat) (s : State) : Host.Outcome State Fault Refusal := .next ((s.at t).stockGrad l k)

/-! ### The update (R295) -/

/-- The contributions of a logged GRAD: row and gradient in binary32, in order (R294). -/
def Request.contribs (q : Request) (d : Nat) : List (Nat × List Nat) :=
  let f := tabFmt q.gfmt
  (List.range q.bags).flatMap (fun b =>
    let es := q.bag b
    let g := (unpackElems f (slice q.data (q.gradAt + b * d * f.bits / 8) (d * f.bits / 8)) d).map (to32 f)
    let n := (ofNum32 .rne (Num.ofInt es.length 0)).1
    es.map (fun e => (e.1, match q.mode with
      | 0 => g
      | 1 => g.map (fun x => (div32 .rne x n).1)
      | _ => g.map (fun x => (mul32 .rne e.2 x).1))))

/-- The gradient of a row: its contributions summed as aligned integers by block, converted once to binary32 (R134, R135, R295). -/
def rowGrad (img : List Byte) (t : Nat) (pol : NumPolicy) (cs : List (List Nat)) : List (Nat × Flags) :=
  let blk := tabBlk img t
  let w := tabW img t
  (List.range (tabD img t)).map (fun e =>
    let b := e / blk
    let byte := aiByte (cs.flatMap (fun c => ((c.drop (b * blk)).take blk).map f32.decode))
    let sum := (cs.map (fun c => aiInt w byte (f32.decode (c.getD e 0)))).sum
    aiResult w byte .fp32 pol (sext (w + 24) (toBits (w + 24) sum)))

/-- The update stops before its commit, or with it (R297, R535): its status, and the table torn. -/
def State.updateStop (s : State) (t seam status : Nat) (bad : List (Nat × Nat)) : State :=
  let torn := s.stock.updates.any (fun u => u.table == t && u.commit)
  let s := (s.wr (STK_TSTAT_STATUS t) status).wr (STK_TSTAT_PHASE t) 0
  let s := if torn then s.wrBit (STK_TSTAT_TORN t) true else s
  let s := { s with stock := { s.stock with
    updates := s.stock.updates.filter (fun u => u.table ≠ t)
    logs := s.stock.logs.filter (fun e => e.1 ≠ t), overT := t :: s.stock.overT } }
  let s := s.wr (STK_TLOG_CELLS t) 0
  if status = 7 then s else s.splitFail (mStock t) status seam (updSpans s.cst.img t) bad

/-- What memory failed of an update (R526). -/
def State.updateMem (s : State) (t seam : Nat) (m : Master) (acc a n : Nat) : State :=
  (s.fault .mem 2 8 m acc (s.badAddr a n)).updateStop t seam 8 ((s.badWords a n).map (fun w => (w, 1)))

/-- The rule on one row (R295): its new w, m and v, the updates, or what memory failed. `q0` is the row's first round. -/
def State.rowUpdate (s : State) (t step r q0 lr wd : Nat) (k : Int) (gs : List Nat) :
    Except (Master × Nat × Nat) (List (Nat × Updated × List (Nat × Num))) × State :=
  let img := s.cst.img
  let d := tabD img t
  let g := tabGroup img t
  let ly := tabLayer img t
  let wf := tabR img t
  let sf := tabS img t
  let rule := tabRule img t - 1
  let (w, s) := s.roundsRead g q0 (rowAt img t r) d wf.bits
  let (m, s) := s.roundsRead g q0 (tabM img t + r * tabStrideS img t) d sf.bits
  let (v, s) := if rule = 0 then (.ok [], s) else s.roundsRead g q0 (tabV img t + r * tabStrideS img t) d sf.bits
  match w, m, v with
  | .ok w, .ok m, .ok v =>
    let ws := unpackElems wf w d
    let ms := unpackElems sf m d
    let vs := if rule = 0 then [] else unpackElems sf v d
    let c := layerConsts (nump img) ly lr wd k step
    let c64 := (layerConsts (nump img) ly lr wd k step).wide
    let kst := sgn8 (s.rd (NUM_TLAYER_KST ly))
    let st (n : Int) (x : Nat) : Nat := if k - kst = 0 then to32 sf x else scaleb32 (to32 sf x) (n * (k - kst))
    (.ok ((List.range d).map (fun e =>
      let u := updateElem rule c k kst 0x3F800000 wf sf s.policy (s.rd64 NUM_TSEED_LO) step (layerF (nump img) ly 40 2)
        (r * d + e) (at0 gs e) (at0 ws e) (at0 ms e) (at0 vs e)
      (e, u, wideElem rule u c64 0x3F800000 (at0 gs e) (to32 wf (at0 ws e)) (st 1 (at0 ms e)) (st 2 (at0 vs e))))), s)
  | .error a, _, _ => (.error a, s)
  | _, .error a, _ => (.error a, s)
  | _, _, .error a => (.error a, s)

/-- What the updates of a row count (R135, R267, R272, R277), by lane round. -/
def State.rowCounts (s : State) (t step q0 : Nat) (gf : List Flags) (us : List (Nat × Updated × List (Nat × Num))) : State :=
  let img := s.cst.img
  let g := tabGroup img t
  let s := us.foldl (fun s u =>
    let l := s.roundBench g (q0 + u.1 / 64)
    let gf := gf.getD u.1 0
    let s := s.benchFlags l (u.2.1.flags ||| (gf &&& ~~~aiNan))
    let s := if gf &&& aiNan = 0 then s else s.benchAiNan l
    let s := if u.2.1.nonfin then s.inc NUM_TNONFIN else s
    if u.2.1.zero then s.inc (NUM_TZERO (tabLayer img t)) else s) s
  (List.range ((us.length + 63) / 64)).foldl (fun s i =>
    let l := s.roundBench g (q0 + i)
    match s.drawn step 0xFFFFFE (l * 2 ^ 30 + q0 + i) with
    | some unit => s.sampleElems l unit step ((us.filter (fun u => u.1 / 64 == i)).flatMap (fun u => u.2.2))
    | none => s) s

/-- The rows of an update, one after another in increasing order (R295): new w, m, v as bytes, and whether a stored weight
changed. -/
def State.updateRows (s : State) (t step lr wd : Nat) (k : Int) (cs : List (Nat × List Nat)) :
    List Nat → Nat → List (Nat × List Byte × List Byte × List Byte) × Bool →
    Except (Master × Nat × Nat) (List (Nat × List Byte × List Byte × List Byte) × Bool) × State
  | [], _, out => (.ok out, s)
  | r :: rs, q0, out =>
    let img := s.cst.img
    let gs := rowGrad img t s.policy ((cs.filter (fun c => c.1 == r)).map (·.2))
    match s.rowUpdate t step r q0 lr wd k (gs.map (·.1)) with
    | (.error a, s) => (.error a, s)
    | (.ok us, s) =>
      let s := s.rowCounts t step q0 (gs.map (·.2)) us
      let wb := packElems (tabR img t) (us.map (fun u => u.2.1.w))
      let old := s.bytesAt (rowAt img t r) (rowBytes img t)
      let mb := packElems (tabS img t) (us.map (fun u => u.2.1.m))
      let vb := if tabRule img t = 2 then packElems (tabS img t) (us.map (fun u => u.2.1.v)) else []
      State.updateRows s t step lr wd k cs rs (q0 + (tabD img t + 63) / 64) (out.1 ++ [(r, wb, mb, vb)], out.2 || wb != old)

/-- The rows touched, in increasing order. -/
def rowsOf (cs : List (Nat × List Nat)) : List Nat := ((cs.map (·.1)).eraseDups).mergeSort (fun a b => decide (a ≤ b))

/-- The requests that a table's log holds, as bytes read from it. -/
def logRequests (bs : List Byte) : List (Nat × List Nat) → Nat → List Request
  | [], _ => []
  | e :: es, o => ⟨0, 0, 3, 0, 0, e.1, slice bs (256 * o) (256 * e.1)⟩ :: logRequests bs es (o + e.1)

/-- Whether the table still has requests of this epoch that it must take before its update (R287, R294). -/
def State.stockOwes (s : State) (t : Nat) : Bool :=
  let img := s.cst.img
  (s.stockWaiting 2 ++ s.stockWaiting 3).any (fun q =>
    q.table == t && q.epoch == s.epochTag && decide (q.arrived < s.tg.epochStart + tabUpdOff img t))

/-- Whether a table has an update to run in this epoch (R295). -/
def State.updateDue (s : State) (t : Nat) : Bool :=
  tabRule s.cst.img t != 0 && !s.stock.overT.contains t && s.logOf t != [] && !s.bit (STK_TSTAT_TORN t)

/-- The contributions of the requests in a table's log, whose bytes are `bs` (R294, R295). -/
def State.logContribs (s : State) (t : Nat) (bs : List Byte) : List (Nat × List Nat) :=
  (logRequests bs (s.logOf t) 0).flatMap (fun q => q.contribs (tabD s.cst.img t))

/-- The Benches that run the lane rounds of a table's update (R261, R295). -/
def State.updateBenches (s : State) (t : Nat) : List Nat :=
  let img := s.cst.img
  let rows := rowsOf (s.logContribs t (s.bytesAt (tabLog img t) (256 * s.logUsed t)))
  s.roundBenches (tabGroup img t) 0 (64 * (rows.length * ((tabD img t + 63) / 64)))

/-- STOCK_UPDATE_START: the passes and the rule of the update of a table (R295), once the Benches of its lane rounds are idle (R262). -/
def State.updateStart (s : State) (t : Nat) : State :=
  let img := s.cst.img
  if !s.jobRuns || decide (nTab img ≤ t) || !s.updateDue t || s.stock.updates.any (fun u => u.table == t) || s.stockOwes t ||
      !(s.updateBenches t).all s.benchIdle || decide (s.now < s.tg.epochStart + tabUpdOff img t) then s
  else
    let seam := s.rd64 TG_SEAM_LO
    let m : GMaster := ⟨2, tabGroup img t⟩
    let sp := updSpans img t
    let bad := match s.refusedOf m .r sp with
      | some x => some (GAcc.r, x)
      | none => (s.refusedOf m .w sp).map (fun x => (GAcc.w, x))
    match bad with
    | some (acc, x) =>
      let s := (s.deny m acc x.1 x.2).fault .sec 1 4 (mStock t) (if acc = .r then 0 else 3)
      s.updateStop t seam 4 [x]
    | none =>
      let n := 256 * s.logUsed t
      match s.memRead (mStock t) (tabLog img t) n with
      | (none, s) => s.updateMem t seam (mStock t) 0 (tabLog img t) n
      | (some bs, s) =>
        let cs := s.logContribs t bs
        let rows := rowsOf cs
        let ly := tabLayer img t
        let step := s.rd64 (STK_TSTEP_LO t) + 1
        let k := sgn8 (s.rd (NUM_TLAYER_LSCALE ly))
        match s.updateRows t step (s.rd (NUM_TLR ly)) (s.rd (NUM_TWD ly)) k cs rows 0 ([], false) with
        | (.error a, s) => s.updateMem t seam a.1 0 a.2.1 a.2.2
        | (.ok (out, changed), s) =>
          let size := scratchBytes img t rows.length
          let junk := (List.range size).map (fun i => Config.stageCell i s.free)
          let (_, s) := s.memWrite (mStock t) (tabScratch img t) junk
          let u : Update := ⟨t, seam, s.tg.epochStart, step, k, out, 0, changed, false, none⟩
          ({ s.freeNext with stock := { s.stock with updates := s.stock.updates ++ [u] } }).wr (STK_TSTAT_PHASE t) 2

/-- STOCK_UPDATE_START (R295). -/
def execStockUpdateStart (t tab : Nat) (s : State) : Host.Outcome State Fault Refusal := .next ((s.at t).updateStart tab)

/-! ### The commit (R296) -/

/-- The table tag word (R296). -/
def tabTagWord (step : Nat) (commit : Bool) : List Byte := leBytes 8 step ++ [if commit then 1 else 0] ++ List.replicate 7 0

/-- One row goes from scratch to the table and its state (R295); what memory failed, if anything. -/
def State.commitRow (s : State) (u : Update) (i : Nat) : Option (Nat × Nat × Nat) × State :=
  let img := s.cst.img
  let t := u.table
  let n := scratchRow img t
  let a := tabScratch img t + i * n
  match s.memRead (mStock t) a n, u.rows[i]? with
  | (none, s), _ => (some (0, a, n), s)
  | (_, s), none => (none, s)
  | (some _, s), some (r, w, m, v) =>
    let ws : List (Nat × List Byte) :=
      [(rowAt img t r, w), (tabM img t + r * tabStrideS img t, m)] ++
      (if tabRule img t = 2 then [(tabV img t + r * tabStrideS img t, v)] else [])
    ws.foldl (fun (x : Option (Nat × Nat × Nat) × State) e =>
      match x.1 with
      | some _ => x
      | none =>
        let (ok, s) := x.2.memWrite (mStock t) e.1 e.2
        (if ok then none else some (1, e.1, e.2.length), s)) (none, s)

/-- Up to n rows of a commit. -/
def State.commitRows (s : State) (u : Update) : Nat → Except (Nat × Nat × Nat) Update × State
  | 0 => (.ok u, s)
  | n + 1 =>
    if u.rows.length ≤ u.copied then (.ok u, s)
    else match s.commitRow u u.copied with
      | (some a, s) => (.error a, s)
      | (none, s) => State.commitRows s { u with copied := u.copied + 1 } n

/-- Replace the update of a table. -/
def State.setUpdate (s : State) (u : Update) : State :=
  { s with stock := { s.stock with updates := s.stock.updates.map (fun x => if x.table = u.table then u else x) } }

/-- The commit is over (R296): the tag word with COMMIT = 0, the step count, the watch of its layer (R269, R278). -/
def State.commitEnd (s : State) (u : Update) : State :=
  let img := s.cst.img
  let t := u.table
  let (ok, s) := s.memWrite (mStock t) (tabTag img t) (tabTagWord u.step false)
  if !ok then s.updateMem t u.seam (mStock t) 1 (tabTag img t) 16
  else
    let s := (s.wr64 (STK_TSTEP_LO t) u.step).wr (STK_TTOUCH t) u.rows.length
    let s := s.wr (NUM_TLAYER_KST (tabLayer img t)) (toBits 8 u.k)
    let s := s.watchLayer (mStock t) (tabLayer img t) u.step u.changed
    let s := (s.wr (STK_TSTAT_STATUS t) 0).wr (STK_TSTAT_PHASE t) 0
    let s := { s with stock := { s.stock with logs := s.stock.logs.filter (fun e => e.1 ≠ t) } }
    (s.wr (STK_TLOG_CELLS t) 0).setUpdate { u with commit := false, doneAt := some s.now }

/-- STOCK_COMMIT of a table: the tag word with COMMIT = 1 first, then up to n rows; after the last one the commit is over (R296). -/
def State.stockCommit (s : State) (t n : Nat) : State :=
  let img := s.cst.img
  match s.stock.updates.find? (fun u => u.table == t) with
  | none => s
  | some u =>
    if !s.jobRuns || u.doneAt.isSome then s
    else
      let (ok, s) := if u.commit then (true, s) else s.memWrite (mStock t) (tabTag img t) (tabTagWord u.step true)
      if !ok then s.updateMem t u.seam (mStock t) 1 (tabTag img t) 16
      else
        let u := { u with commit := true }
        let s := (s.setUpdate u).wr (STK_TSTAT_PHASE t) 3
        match s.commitRows u n with
        | (.error a, s) => s.updateMem t u.seam (mStock t) a.1 a.2.1 a.2.2
        | (.ok u, s) => if u.rows.length ≤ u.copied then s.commitEnd u else s.setUpdate u

/-- STOCK_COMMIT (R296). -/
def execStockCommit (t tab n : Nat) (s : State) : Host.Outcome State Fault Refusal := .next ((s.at t).stockCommit tab n)

/-- STOCK_UPDATE_RELEASE: the completion is released at the epoch's start plus UPD_REL (R296). -/
def State.updateRelease (s : State) (t : Nat) : State :=
  match s.stock.updates.find? (fun u => u.table == t) with
  | none => s
  | some u =>
    match u.doneAt with
    | none => s
    | some rdy =>
      let rel := u.start + tabUpdRel s.cst.img t
      if s.mayRelease rel rdy then
        let s := s.release 3 t rel rdy
        let s := if s.isLate rel then s.raise (STK_TSTAT_LATE t) else s
        { s with stock := { s.stock with updates := s.stock.updates.filter (fun x => x.table ≠ t), overT := t :: s.stock.overT } }
      else s

/-- STOCK_UPDATE_RELEASE (R296). -/
def execStockUpdateRelease (t tab : Nat) (s : State) : Host.Outcome State Fault Refusal := .next ((s.at t).updateRelease tab)

/-! ### Seams and quenches -/

/-- Whether an update of this epoch holds the seam (R100). -/
def State.stockPending (s : State) : Bool :=
  !s.stock.updates.isEmpty || (List.range (nTab s.cst.img)).any s.updateDue

/-- At a seam the log holds nothing of the epoch that ended (R294). -/
def State.stockSeam (s : State) : State :=
  let s := s.stock.logs.foldl (fun s e => s.wr (STK_TLOG_CELLS e.1) 0) s
  { s with stock := { s.stock with logs := [], overT := [] } }

/-- A quench stops every update; one in its commit leaves its table torn (R297, R521). -/
def State.stockQuench (s : State) : State :=
  s.stock.updates.foldl (fun s u => if u.doneAt.isSome then s else s.updateStop u.table u.seam 7 []) s

end Sys2Proof.Machine
end

