-- ==== Sys2Proof/Machine/CheckA.lean ====
section
/-! DEFINITION. CHECK (R60, R631), first part: the header and directory, and the own rules of PORT, POOL, MAND and GILD. Every rule is
a function of the image and of what the node itself is. -/

namespace Sys2Proof.Machine

/-- Whether bytes `a` to `b - 1` are all 0. -/
def zerosIn (bs : List Byte) (a b : Nat) : Bool := leAt bs a (b - a) == 0

/-! ### Header and directory -/

/-- TYPEs this stepping knows (R45). -/
def knownType (t : Nat) : Bool := decide (1 ≤ t ∧ t ≤ 11)

/-- Directory entry i obeys R43 by itself. -/
def dirEntryOk (img : List Byte) (i : Nat) : Bool :=
  let (ty, _, fl, o, n) := imgDir img i
  decide (fl < 2) && zerosIn img (280 + 32 * i) (288 + 32 * i) && o % 4096 == 0 &&
    decide (4096 ≤ o ∧ 1 ≤ n ∧ o + n ≤ leAt img 8 8 - 4096) && (fl == 0 || knownType ty)

/-- Two sections of one TYPE, or that overlap (R44). -/
def dirClash (img : List Byte) (i j : Nat) : Bool :=
  let (ti, _, _, oi, ni) := imgDir img i
  let (tj, _, _, oj, nj) := imgDir img j
  ti == tj || decide (oi < oj + nj ∧ oj < oi + ni)

/-- The header and the directory (R40, R41, R43, R44): code DIRECTORY. -/
def directoryOk (img : List Byte) : Bool :=
  let n := imgDirCount img
  decide (1 ≤ n ∧ n ≤ 120 ∧ imgFlags img < 4) && zerosIn img 33 40 && zerosIn img 76 256 &&
  (if imgMapInv img then imgHallMap img == 0 && decide (1 ≤ imgMinHalls img ∧ imgMinHalls img ≤ 32) else imgMinHalls img == 0) &&
  (List.range n).all (dirEntryOk img) &&
  (List.range n).all (fun i => (List.range i).all (fun j => !dirClash img i j)) &&
  [tyPORT, tyNUMP, tySEAM].all (fun t => (imgSection img t).isSome)

/-- The axis sizes, COORD and TROOT (R27, R41): code AXIS. -/
def axesOk (img : List Byte) : Bool :=
  (List.range 4).all (fun a =>
    decide (1 ≤ imgAxis img a ∧ imgAxis img a ≤ 8 ∧ imgCoord img a < imgAxis img a ∧ imgRoot img a < imgAxis img a))

/-- The scale class (R29): code SCALE. -/
def scaleOk (img : List Byte) : Bool := imgScale img == 1 || (imgScale img == 0 && decide (imgNodes img ≤ 64))

/-- The map rule on an enabled-Hall mask (R61): code MAP. -/
def mapOk (img : List Byte) (mask : Nat) : Bool :=
  if imgMapInv img then decide (imgMinHalls img ≤ (maskHalls mask).length) else imgHallMap img == mask

/-! ### PORT -/

/-- Port k is in use under an image's PORT section. -/
def imgUse (img : List Byte) (k : Nat) : Bool := (portEntry img k).1 == 1

/-- The entry of port k (R25, R28, R353), with the reach of the ordering code. -/
def portEntryOk (img : List Byte) (reach k : Nat) : Bool :=
  let p := sect img tyPORT
  let o := 64 + 16 * k
  let (use, width, fec, rch, iq, im) := portEntry img k
  leAt p (o + 3) 1 == 0 && zerosIn p (o + 10) (o + 16) && decide (use ≤ 1) &&
  (use == 0 ||
    (decide (fec ≤ 1 ∧ 1 ≤ rch ∧ rch ≤ reach ∧ 1 ≤ iq ∧ iq ≤ 4095 ∧ 1 ≤ im ∧ im ≤ 4095) &&
     (if isEndpoint k then
        (width == 1 || width == 2 || width == 4) &&
        (List.range width).all (fun i =>
          let e := portEntry img (epPort (epIdx k / width * width + i))
          e.1 == 1 && e.2.1 == width)
      else width == 0 && decide (1 < imgAxis img (dirOf k / 2)))))

/-- The reach of the ordering code in metres (R353). -/
def optReach (fr : Bool) : Nat := if fr then 2000 else 500

/-- The own rules of PORT. -/
def portOk (img : List Byte) (fr : Bool) : Bool :=
  let p := sect img tyPORT
  decide (64 + 16 * 256 ≤ p.length) && leAt p 0 4 == 256 && zerosIn p 4 64 && allPorts.all (portEntryOk img (optReach fr))

/-! ### POOL -/

/-- PCELLS of die d under an image: without a POOL section its reset value (R389, R392). -/
def imgPcells (img : List Byte) (d : Nat) : Nat :=
  match imgSection img tyPOOL with | none => 1048576 | some p => leAt p (4 * d) 4

/-- The owner fields of die d: CRU_MIN, CRU_MAX, MILM_MIN, MILM_MAX, STK_MIN, STK_MAX (R389). -/
def poolOwner (p : List Byte) (d i : Nat) : Nat := leAt p (16 + 24 * d + 4 * i) 4
/-- QMIN, QMAX, QMARK of profile i. -/
def poolProf (p : List Byte) (i j : Nat) : Nat := leAt p (64 + 16 * i + 4 * j) 4
/-- The profile of queue n of port k. -/
def poolQ (p : List Byte) (k n : Nat) : Nat := leAt p (320 + 8 * k) 4 / 16 ^ n % 16

/-- The own rules of POOL (R389, R390). -/
def poolOk (img : List Byte) : Bool :=
  match imgSection img tyPOOL with
  | none => true
  | some p =>
    let np := leAt p 15 1
    decide (2368 ≤ p.length ∧ 1 ≤ np ∧ np ≤ 16) &&
    (List.range 16).all (fun i => zerosIn p (76 + 16 * i) (80 + 16 * i) && (decide (i < np) || zerosIn p (64 + 16 * i) (76 + 16 * i))) &&
    allPorts.all (fun k => zerosIn p (324 + 8 * k) (328 + 8 * k) && (List.range 8).all (fun n => decide (poolQ p k n < np))) &&
    (List.range 2).all (fun d =>
      let c := leAt p (4 * d) 4
      c % 1024 == 0 && decide (65536 ≤ c ∧ c ≤ 1048576) &&
      (List.range 3).all (fun i => decide (poolOwner p d (2 * i) ≤ poolOwner p d (2 * i + 1) ∧ poolOwner p d (2 * i + 1) ≤ c)) &&
      (List.range np).all (fun i => decide (poolProf p i 0 ≤ poolProf p i 1 ∧ poolProf p i 1 ≤ c)))

/-- The rules of POOL that read PORT (R390): minima and credit reserves fit, and queue bounds of in-use ports. -/
def poolPortOk (img : List Byte) : Bool :=
  match imgSection img tyPOOL with
  | none => true
  | some p => (List.range 2).all (fun d =>
    let c := leAt p (4 * d) 4
    let ks := allPorts.filter (fun k => dieOf k == d && imgUse img k)
    let need := ks.foldl (fun a k =>
      let (_, _, _, _, iq, im) := portEntry img k
      a + 2 * iq + 2 * im + ((List.range 4).map (fun n => poolProf p (poolQ p k n) 0)).sum) 0
    decide (need + poolOwner p d 0 + poolOwner p d 2 + poolOwner p d 4 ≤ c) &&
    ks.all (fun k => (List.range 4).all (fun n => decide (16 ≤ poolProf p (poolQ p k n) 1))))

/-! ### MAND -/

/-- Parts of a MAND section: where copies and cuts begin, and its end (R399). -/
def mandCopyOff (m : List Byte) : Nat := up64 (64 + 16 * leAt m 0 4)
def mandCutOff (m : List Byte) : Nat := up64 (mandCopyOff m + 8 * leAt m 4 4)

/-- VCS names VCs of one class (R402). -/
def oneClass (v : Nat) : Bool := (List.range 4).any (fun c => v / 4 ^ c % 4 * 4 ^ c == v)

/-- Label entry L by itself (R400, R402): its ranges and reserved fields. -/
def labelOk (m : List Byte) (l : Nat) : Bool :=
  let o := 64 + 16 * l
  match leAt m o 1 with
  | 0 => true
  | act =>
    match mandEntry m l with
    | none => false
    | some e =>
      decide (act ≤ 3 ∧ leAt m (o + 1) 1 < 8) && oneClass e.vcs && decide (1 ≤ e.win ∧ e.win ≤ 32768) &&
      (match act with
       | 1 => decide (e.a < 2 ^ 20 ∧ e.b < 2 ^ 20)
       | 2 => e.port == 0 && e.altPort == 0 && e.b == 0 && decide (1 ≤ e.a / 2 ^ 20 ∧ e.a % 2 ^ 20 + e.a / 2 ^ 20 ≤ leAt m 4 4)
       | _ => decide (1 ≤ e.port ∧ e.port ≤ 3) && e.altPort == 0 && decide (e.a < 2 ^ 16 ∧ e.b < 2 ^ 20) &&
         (e.b == 0xFFFFF || (match mandEntry m e.b with
           | some r => r.isLocal && (r.act == 1 || r.act == 2)
           | none => false)))

/-- The label entries of a section. -/
def mandLabels (m : List Byte) : List Label := (List.range (leAt m 0 4)).filterMap (mandEntry m)
def mandCopies (m : List Byte) : List (Nat × Nat × Nat × Nat) := (List.range (leAt m 4 4)).map (mandCopy m)

/-- Pairs (port, label) that egress streams use, on primary and on alternate ports (R402). A copy whose ALTPORT is its PORT has no
alternate (R401). -/
def mandPairs (m : List Byte) : List (Nat × Nat) :=
  ((mandLabels m).filter (fun e => e.act == 1)).map (fun e => (e.port, e.a)) ++ (mandCopies m).map (fun c => (c.1, c.2.2.1))
def mandAltPairs (m : List Byte) : List (Nat × Nat) :=
  ((mandLabels m).filter (fun e => e.act == 1 && e.altV)).map (fun e => (e.altPort, e.b)) ++
  ((mandCopies m).filter (fun c => c.2.1 != c.1)).map (fun c => (c.2.1, c.2.2.2))

/-- No element occurs twice. -/
def noRepeat {α : Type} [BEq α] : List α → Bool
  | [] => true
  | x :: xs => !xs.contains x && noRepeat xs

/-- A cut entry lies inside the axis sizes (R417). -/
def cutInside (img m : List Byte) (i : Nat) : Bool :=
  (List.range 4).all (fun a => decide (leAt m (mandCutOff m + 4 * i + a) 1 < imgAxis img a))

/-- The own rules of MAND (R399 to R402, R417). -/
def mandOk (img : List Byte) : Bool :=
  match imgSection img tyMAND with
  | none => true
  | some m =>
    let nent := leAt m 0 4
    let ncopy := leAt m 4 4
    let ncut := leAt m 8 2
    decide (nent ≤ 1048575 ∧ ncopy ≤ 1048576 ∧ ncut ≤ 256 ∧ mandCutOff m + 4 * ncut ≤ m.length ∧ leAt m 10 1 ≤ 1) &&
    zerosIn m 11 12 && zerosIn m 16 64 &&
    (List.range nent).all (labelOk m) && (List.range ncopy).all (fun i => leAt m (mandCopyOff m + 8 * i + 7) 1 == 0) &&
    noRepeat (mandPairs m) && noRepeat (mandAltPairs m) &&
    (List.range ncut).all (cutInside img m) && !(imgCuts img).contains (coordCode (imgCoord img))

/-- Alive entries that the terminating Mandrel streams of a section need on a port: one for each data VC of a label (R406, R479). -/
def mandEntries (img m : List Byte) (k : Nat) : Nat :=
  ((mandLabels m).filter (fun e => e.act != 1 && !e.isLocal && (if e.anyIn then isEndpoint k && imgUse img k else e.inPort == k))).foldl
    (fun n e => n + ((List.range 4).filter (fun v => e.vcs / 2 ^ v % 2 == 1)).length) 0

/-- The rules of MAND that read PORT: every port named is in use (R402), and no port needs more than 1,536 alive entries (R479). -/
def mandPortOk (img : List Byte) : Bool :=
  match imgSection img tyMAND with
  | none => true
  | some m =>
    (mandLabels m).all (fun e => (e.isLocal || e.anyIn || imgUse img e.inPort) && (e.act != 1 || imgUse img e.port) &&
      (e.act != 1 || !e.altV || imgUse img e.altPort)) &&
    (mandCopies m).all (fun c => imgUse img c.1 && imgUse img c.2.1) && allPorts.all (fun k => decide (mandEntries img m k ≤ 1536))

/-! ### GILD -/

/-- The address range of a target (R447, R546). -/
def targetRange (t : Nat) : Nat × Nat :=
  if t < 2 then (ingotBase + t * 2 ^ 28, ingotBase + (t + 1) * 2 ^ 28) else ((t - 2) * stackSize, (t - 1) * stackSize)

/-- The staging area (R53, R450). -/
def stagingArea : Nat × Nat := (0x8F8000000, 0x8000000)

/-- TARGET, BASE and LEN of region i. -/
def gildReg (g : List Byte) (i : Nat) : Nat × Nat × Nat :=
  let o := 64 + 32 * i
  (leAt g o 1, leAt g (o + 8) 8, leAt g (o + 16) 8)

/-- Region i by itself (R547). -/
def gildRegOk (g : List Byte) (i : Nat) : Bool :=
  let o := 64 + 32 * i
  let (t, b, n) := gildReg g i
  let cnt := leAt g (o + 1) 1
  decide (t ≤ 9 ∧ 1 ≤ cnt ∧ cnt ≤ 64) && zerosIn g (o + 2) (o + 4) && zerosIn g (o + 24) (o + 32) &&
  b % 256 == 0 && n % 256 == 0 && decide (256 ≤ n ∧ leAt g (o + 4) 4 + cnt ≤ leAt g 4 4) &&
  decide ((targetRange t).1 ≤ b ∧ b + n ≤ (targetRange t).2) && !meets b n stagingArea

/-- Grant i by itself (R547). -/
def gildGrantOk (g : List Byte) (i : Nat) : Bool :=
  let o := gildGrantsOff g + 16 * i
  decide (leAt g o 1 ≤ 5 ∧ leAt g (o + 1) 1 < 8 ∧ leAt g (o + 4) 4 ≤ leAt g (o + 8) 4) && zerosIn g (o + 2) (o + 4) &&
    zerosIn g (o + 12) (o + 16)

/-- The own rules of GILD (R547). -/
def gildOk (img : List Byte) : Bool :=
  match imgSection img tyGILD with
  | none => true
  | some g =>
    let nreg := leAt g 0 4
    let ngr := leAt g 4 4
    decide (nreg ≤ 40960 ∧ ngr ≤ 65536 ∧ gildGrantsOff g + 16 * ngr ≤ g.length) && zerosIn g 8 64 &&
    (List.range ngr).all (gildGrantOk g) && (List.range nreg).all (gildRegOk g) &&
    (List.range 10).all (fun t => decide (((List.range nreg).filter (fun i => (gildReg g i).1 == t)).length ≤ 4096)) &&
    (List.range nreg).all (fun i => (List.range i).all (fun j =>
      let (t, b, n) := gildReg g i
      let (t', b', n') := gildReg g j
      t != t' || !meets b n (b', n')))

/-- The rule of GILD that reads POOL (R547): no region covers pooled cells. -/
def gildPoolOk (img : List Byte) : Bool :=
  let g := sect img tyGILD
  (List.range (leAt g 0 4)).all (fun i =>
    let (t, b, _) := gildReg g i
    decide (2 ≤ t ∨ ingotBase + t * 2 ^ 28 + 256 * imgPcells img t ≤ b))

end Sys2Proof.Machine
end

