-- ==== Sys2Proof/Machine/CheckB.lean ====
section
/-! DEFINITION. CHECK (R60, R631), second part: the rules of CRUC and STCK, and the address rule of R451 on an image. -/

namespace Sys2Proof.Machine

/-! ### Addresses (R451) -/

/-- The areas that a KERN section reserves (R450, R547): the kernel library, and the largest fold save area. -/
def kernAreas (img : List Byte) : List (Nat × Nat) :=
  match imgSection img tyKERN with
  | none => []
  | some k =>
    let n := (k.length + 0xFFFFF) / 0x100000 * 0x100000
    let f := foldBytes (kernN img) (imgMinP img)
    (0x3F00000000 - n, n) :: (if f = 0 then [] else [(hbmEnd - f, f)])

/-- Whether a span may be named by a section (R451): mapped, no pooled cell under the image's POOL, no reserved region. -/
def spanOk (img : List Byte) (x : Nat × Nat) : Bool :=
  match targetOf x.1 with
  | none => false
  | some t =>
    let lo := if t < 2 then (targetRange t).1 + 256 * imgPcells img t else (targetRange t).1
    decide (lo ≤ x.1 ∧ x.1 + x.2 ≤ (targetRange t).2) && !((stagingArea :: kernAreas img).any (meets x.1 x.2))

/-! ### CRUC -/

/-- Group descriptor g by itself (R223). -/
def grpOk (img : List Byte) (g : Nat) : Bool :=
  decide (grpF img g 0 1 < 32 ∧ grpF img g 1 1 < 4) && grpF img g 2 2 == 0 && grpF img g 24 8 == 0 &&
  (List.range 4).all (fun a => decide (1 ≤ grpStride img g a ∧ grpStride img g a ≤ 7) && grpF img g (7 + 4 * a) 1 == 0) &&
  decide (grpLo img g 4 ≤ 127 ∧ grpHi img g 4 ≤ 127 ∧ 1 ≤ grpStride img g 4 ∧ grpStride img g 4 ≤ 64 ∧ grpF img g 23 1 < 2)

/-- Formats that data-format mode adds in (R131). -/
def dataModeFmt (c : Nat) : Bool := c == 1 || c == 3 || c == 4 || c == 5 || c == 6 || c == 7 || c == 11 || c == 12
/-- Formats of aligned-integer contributions and results (R135, R230). -/
def aiModeFmt (c : Nat) : Bool := decide (3 ≤ c ∧ c ≤ 7)

/-- A sync counter, or none (R230, R256). -/
def syncOk (c : Nat) : Bool := decide (c < 4096) || c == 0xFFFF

/-- Collective descriptor d by itself, with the group it names (R228, R230). -/
def colOk (img : List Byte) (d : Nat) : Bool :=
  let g := colGroup img d
  let f := colF img d 5 1 % 16
  let r := colF img d 5 1 / 16
  let op := colOp img d
  let self := grpSelf img g
  let dst := self && !(op == 1 && colTemper img d != 0xFFFF)
  decide (g < nGrp img ∧ op ≤ 6 ∧ colF img d 3 1 ≤ 3 ∧ colMode img d ≤ 3 ∧ colF img d 6 1 ≤ 8) &&
  colF img d 7 1 == 0 && colF img d 78 2 == 0 && colF img d 120 8 == 0 &&
  (if colMode img d = 0 then dataModeFmt f && (r == f || (f == 7 && (r == 5 || r == 6)))
   else aiModeFmt f && aiModeFmt r && (decide (colF img d 3 1 ≤ 1) || op == 3)) &&
  (op != 6 || (colCount img d % 256 == 0 && decide (256 ≤ colCount img d ∧ colCount img d ≤ 1048576))) &&
  (List.range 5).all (fun a => decide (grpLo img g a ≤ grpHi img g a ∧ (a = 4 ∨ grpHi img g a < imgAxis img a))) &&
  decide (colStartOff img d < colRelOff img d) && colSet img d != [] &&
  syncOk (colSyncIn img d) && syncOk (colSyncOut img d) && colTag img d % 16 == 0 &&
  (!self || colSrc img d % 256 == 0) && (!dst || (colDst img d false % 256 == 0 && colDst img d true % 256 == 0))

/-- The own rules of CRUC (R223, R227 to R230). -/
def crucOk (img : List Byte) : Bool :=
  match imgSection img tyCRUC with
  | none => true
  | some c =>
    decide (nGrp img ≤ 1024 ∧ nCol img ≤ 1024 ∧ up64 (64 + 32 * nGrp img) + 128 * nCol img ≤ c.length ∧ 64 ≤ c.length) &&
    zerosIn c 8 64 && (List.range (nGrp img)).all (grpOk img) && (List.range (nCol img)).all (colOk img)

/-- The rule of MAND that reads CRUC (R402): TIDX names a descriptor. -/
def mandCrucOk (img : List Byte) : Bool :=
  let m := sect img tyMAND
  (mandLabels m).all (fun e => e.act != 3 || e.port != 1 || decide (e.a < nCol img))

/-- A ring over which a spanning axis of a collective of this node can be reduced (R418). -/
def ringOk (img : List Byte) (a : Nat) : Bool :=
  decide (ringGaps img a ≤ 1) && (List.range (imgAxis img a)).any (fun c => !ringCut img a c)

/-- The rule on rings and cuts (R402, R418). -/
def ringsOk (img : List Byte) : Bool :=
  (List.range (nCol img)).all (fun d =>
    let g := colGroup img d
    !grpTakes img g || (List.range 4).all (fun a => !grpSpan img g a || ringOk img a))

/-- Members of an in-node instance of a group (R225). -/
def grpMn (img : List Byte) (g : Nat) : Nat :=
  if grpSpan img g 4 then (grpMembers img g).length else min 1 (grpMembers img g).length

/-- What a cut list rules out (R421). -/
def cutColOk (img : List Byte) (d : Nat) : Bool :=
  let g := colGroup img d
  let cuts := imgCuts img
  let inGroup (c : Nat) : Bool := (List.range 4).all (fun a => grpHas img g a (codeCoord c a))
  (colFunc img d != 1 || !cuts.any inGroup) &&
  (!(colOp img d == 3 || colOp img d == 4) || !grpTakes img g || !cuts.contains (rankCode img g (grpMn img g) (colRoot img d)))

def cutsOk (img : List Byte) : Bool := imgCuts img == [] || (List.range (nCol img)).all (cutColOk img)

/-- The rules on members (R226, R230), which read PORT. -/
def colMembersOk (img : List Byte) (d : Nat) : Bool :=
  let g := colGroup img d
  let mn := grpMn img g
  let total := mn * ((List.range 4).map (grpM img g)).foldl (· * ·) 1
  decide (colRoot img d < colMembers img d) &&
  (!grpTakes img g || decide (1 ≤ mn ∧ mn ≤ 128 ∧ total ≤ 524288 ∧ colMembers img d = total))

def membersOk (img : List Byte) : Bool := (List.range (nCol img)).all (colMembersOk img)

/-- An instance before it runs: what `selfSpans` asks of it. -/
def CollInst.blank (d g : Nat) (mem : List Nat) : CollInst :=
  { desc := d, g := g, mem := mem, seam := 0, start := 0, waiting := false, ins := [], pass2 := [], up := [], parts := []
    steps := [], down := [], rx := [], holds := [], bad := [], ready := [], released := [], segs := [], drops := [], served := [], dropped := []
    dst1 := false, stopped := false }

/-- The addresses that this node uses (R230), which read POOL and KERN. -/
def colAddrOk (img : List Byte) (d : Nat) : Bool :=
  let g := colGroup img d
  !grpTakes img g ||
  ((grpInsts img g).zipIdx).all (fun m =>
    let (r, w) := selfSpans img (CollInst.blank d m.2 m.1)
    (r ++ w).all (spanOk img))

def crucAddrOk (img : List Byte) : Bool := (List.range (nCol img)).all (colAddrOk img)

/-- The lengths of the epochs from seam count `n` on in which a descriptor with FIRST and EVERY runs (R97, R99, R231). -/
def runsBetween (first every a : Nat) (b : Option Nat) : Bool :=
  let x := if every = 0 then first else first + (a - first + every - 1) / every * every
  decide (a ≤ x) && (match b with | none => true | some b => decide (x < b))

/-- Whether a tick offset lies below the length of every epoch in which instances run (R230, R258). -/
def windowOk (m : List Byte) (first every off : Nat) : Nat → Nat → Bool
  | 0, _ => true
  | fuel + 1, n =>
    let i := seamEntries m - (fuel + 1)
    let (len, rep, _) := seamEntry m i
    let stop := if rep = 0 then none else some (n + rep)
    (!runsBetween first every n stop || decide (off < len)) && windowOk m first every off fuel (n + rep)

def fitsSeams (img : List Byte) (first every off : Nat) : Bool :=
  let m := sect img tySEAM
  windowOk m first every off (seamEntries m) (seamBase m)

/-- The release windows of CRUC (R230), which read SEAM. -/
def crucSeamOk (img : List Byte) : Bool :=
  (List.range (nCol img)).all (fun d =>
    fitsSeams img (colFirst img d) (colEvery img d) (colRelOff img d + (colChunks img d - 1) * colPeriod img d))

/-! ### STCK -/

/-- Table descriptor t by itself (R282, R283). -/
def tabOk (img : List Byte) (t : Nat) : Bool :=
  let f (o n : Nat) := tabF img t o n
  let fl (c : Nat) := c == 7 || c == 5 || c == 6
  let rf := f 6 1 % 16
  let rule := tabRule img t
  let hbm (b n : Nat) := decide (b + n ≤ hbmEnd)
  let blk := 8 * 2 ^ f 71 1
  decide (1 ≤ f 0 4 ∧ f 0 4 ≤ 2 ^ 32 - 2 ∧ 8 ≤ f 4 2 ∧ f 4 2 ≤ 1024 ∧ f 4 2 % 8 = 0) &&
  decide (3 ≤ rf ∧ rf ≤ 7) && fl (f 6 1 / 16) && decide (f 7 1 < 8 ∧ f 8 8 % 64 = 0 ∧ f 16 4 % 64 = 0 ∧ rowBytes img t ≤ f 16 4) &&
  decide (f 20 1 ≤ 2) && f 21 3 == 0 && decide (f 32 4 ≤ f 24 4 ∧ f 28 4 + f 32 4 ≤ nPin img) &&
  (tabPins img t).all (fun r => decide (r < f 0 4)) && decide (f 56 4 ≠ 0 ∨ rule = 0) && decide (rule ≤ 2) &&
  hbm (f 8 8) (f 0 4 * f 16 4) && f 124 4 == 0 && f 152 8 == 0 && f 136 8 % 16 == 0 &&
  (f 120 2 == 0xFFFF ||
    ((f 69 1 / 16 == 5 || f 69 1 / 16 == 3 || f 69 1 / 16 == 4) && decide (8 ≤ f 122 2 ∧ f 122 2 ≤ 1024 ∧ f 122 2 % 8 = 0))) &&
  (rule == 0 ||
    (decide (f 56 4 ≤ f 60 4) && fl (f 69 1 % 16) && decide (f 69 1 / 16 < 13) && decide (1 ≤ f 70 1 ∧ f 70 1 ≤ 3 ∧ f 71 1 ≤ 3 ∧ f 4 2 % blk = 0) &&
     decide (f 88 4 % 64 = 0 ∧ f 92 4 ≤ 131072 ∧ f 96 8 % 256 = 0 ∧ f 104 8 % 256 = 0) &&
     hbm (f 72 8) (f 0 4 * f 88 4) && (rule != 2 || hbm (f 80 8) (f 0 4 * f 88 4))))

/-- SHARES of the section (R299, R301): SH_BURN at least 1, the sum at most 256. -/
def sharesOk (v : Nat) : Bool :=
  decide (1 ≤ v / 2 ^ 24 ∧ v % 256 + v / 256 % 256 + v / 2 ^ 16 % 256 + v / 2 ^ 24 ≤ 256)

/-- The own rules of STCK (R281 to R283, R301). -/
def stckOk (img : List Byte) : Bool :=
  match imgSection img tySTCK with
  | none => true
  | some x =>
    let tabs := 64 + 160 * nTab img
    decide (nTab img ≤ 256 ∧ (x.length = up64 tabs + 4 * nPin img ∨ (nPin img = 0 ∧ x.length = tabs))) && zerosIn x 12 64 &&
    sharesOk (leAt x 4 4) && (List.range (nTab img)).all (tabOk img)

/-- Every span that a table names (R283, R289, R294, R451). -/
def tabSpans (img : List Byte) (t : Nat) : List (Nat × Nat) :=
  let proj := match tabProj img t with
    | none => []
    | some _ =>
      let n := (tabD img t * tabDout img t * (tabP img t).bits / 8 + 255) / 256 * 256
      if n = 0 then [] else [(tabPbase img t, n)]
  (if tabRule img t = 0 then rowSpans img t else updSpans img t) ++ proj ++ [(tabTag img t, 16)]

/-- The addresses and groups of STCK, which read POOL and KERN. -/
def stckKernOk (img : List Byte) : Bool :=
  (List.range (nTab img)).all (fun t =>
    (tabSpans img t).all (spanOk img) &&
    (tabRule img t == 0 || decide (tabGroup img t < kernGroups (sect img tyKERN))) &&
    (match tabProj img t with | none => true | some g => decide (g < kernGroups (sect img tyKERN))))

/-- The windows of STCK (R283), which read SEAM. -/
def stckSeamOk (img : List Byte) : Bool :=
  let m := sect img tySEAM
  (List.range (nTab img)).all (fun t => tabRule img t == 0 ||
    (List.range (seamEntries m)).all (fun i => decide (tabUpdRel img t < (seamEntry m i).1)))

end Sys2Proof.Machine
end

