-- ==== Sys2Proof/Machine/CheckC.lean ====
section
/-! DEFINITION. CHECK (R60, R631), third part: the rules of GATE, NUMP, KERN, SEAM and FLDS, and the order in which the first failure is
reported. -/

namespace Sys2Proof.Machine

/-! ### GATE -/

/-- A shaper's words lie within their register ranges (R444, R446). -/
def shaperOk (cfg burst : Nat) : Bool := cfg / 2 ^ 21 % 1024 == 0 && decide (burst < 2 ^ 24)

/-- Record i by itself (R432, R443, R444). -/
def gateRecOk (g : List Byte) (i : Nat) : Bool :=
  let o := gateRec g i
  let len := leAt g (o + 2) 2
  let ents := gateEnts g o
  decide (o + 128 + 8 * len ≤ g.length ∧ leAt g o 2 < 256 ∧ len ≤ 1024 ∧ leAt g (o + 20) 1 ≤ 1) &&
  zerosIn g (o + 21) (o + 24) && zerosIn g (o + 31) (o + 32) && zerosIn g (o + 96) (o + 128) &&
  (List.range 6).all (fun q => decide (1 ≤ leAt g (o + 24 + q) 1)) &&
  (List.range 8).all (fun q => shaperOk (leAt g (o + 32 + 8 * q) 4) (leAt g (o + 36 + 8 * q) 4)) &&
  (List.range len).all (fun j => zerosIn g (o + 133 + 8 * j) (o + 136 + 8 * j)) &&
  (len == 0 || (ents.all (fun e => decide (1 ≤ e.1)) && (ents.map (·.1)).sum == cycleOf (leAt g (o + 16) 4)))

/-- The own rules of GATE. -/
def gateOk (img : List Byte) : Bool :=
  match imgSection img tyGATE with
  | none => true
  | some g =>
    let n := leAt g 0 4
    decide (64 ≤ g.length ∧ n ≤ 256 ∧ 128 ≤ leAt g 4 4) && zerosIn g 8 64 && (List.range n).all (gateRecOk g) &&
    noRepeat ((List.range n).map (fun i => leAt g (gateRec g i) 2))

/-- The rules of GATE that read PORT (R444): the port is in use, and open runs hold the guard band at the port's FEC. -/
def gatePortOk (img : List Byte) : Bool :=
  let g := sect img tyGATE
  (List.range (leAt g 0 4)).all (fun i =>
    let o := gateRec g i
    let k := leAt g o 2
    let heavy := (portEntry img k).2.2.1 == 1
    let maxf (q : Nat) := leAt g (o + 4) 4 / 16 ^ q % 16 + 1
    let ents := gateEnts g o
    imgUse img k && (List.range 8).all (fun q => !hasClosing ents q ||
      (cyclicRuns ents q).all (fun r => decide (packetTime heavy (maxf q) ≤ r))))

/-! ### NUMP -/

/-- Stage s by itself (R256, R258). -/
def stgOk (img : List Byte) (s : Nat) : Bool :=
  let f (o n : Nat) := stgF img s o n
  decide (f 0 1 ≤ 2 ∧ 3 ≤ f 1 1 ∧ f 1 1 ≤ 7 ∧ 5 ≤ f 2 1 ∧ f 2 1 ≤ 7 ∧ 1 ≤ f 8 2 ∧ f 6 2 + f 8 2 ≤ nLayer img) &&
  f 3 1 == 0 && f 58 6 == 0 && syncOk (f 14 2) && decide (f 16 8 % 256 = 0 ∧ f 24 8 % 256 = 0 ∧ f 32 8 % 16 = 0 ∧ f 56 2 + 64 ≤ 1024) &&
  (f 0 1 == 2 || f 12 2 == 0xFFFF)

/-- Layer l by itself (R257). -/
def layerOk (n : List Byte) (l : Nat) : Bool :=
  decide (1 ≤ layerF n l 8 8) && layerF n l 44 20 == 0 && decide (layerF n l 42 1 < 64 ∨ 192 ≤ layerF n l 42 1)

/-- The own rules of NUMP (R140, R255 to R258). -/
def numpOk (img : List Byte) : Bool :=
  let n := nump img
  let sver := (((List.range (imgDirCount img)).map (imgDir img)).find? (fun e => e.1 == tyNUMP)).map (fun e => e.2.1)
  sver == some 1 && decide (64 ≤ n.length) && zerosIn n 4 64 &&
  (n.length == 64 ||
    (decide (128 ≤ n.length ∧ nStg img ≤ 64 ∧ nLayer img ≤ 4096 ∧ 128 + 64 * nStg img + 64 * nLayer img ≤ n.length) &&
     zerosIn n 84 128 && (List.range (nStg img)).all (stgOk img) && (List.range (nLayer img)).all (layerOk n) &&
     noRepeat ((List.range (nLayer img)).map (fun l => layerF n l 40 2))))

/-- A REDUCESCATTER names a stage that exists (R228). -/
def crucNumpOk (img : List Byte) : Bool :=
  (List.range (nCol img)).all (fun d => match colStage img d with | none => true | some s => decide (s < nStg img))

/-- The layer of a table (R283). -/
def stckNumpOk (img : List Byte) : Bool :=
  let n := nump img
  (List.range (nTab img)).all (fun t => tabRule img t == 0 ||
    (let l := tabLayer img t
     decide (l < nLayer img) && layerF n l 0 8 == 0 && layerF n l 8 8 == tabRows img t * tabD img t &&
     (List.range (nStg img)).all (fun s => decide (l < stgLayer0 img s ∨ stgLayer0 img s + stgNl img s ≤ l))))

/-- The layers of a stage cover elements 0 to n - 1 in entry order (R258). -/
def layersCover (np : List Byte) : List Nat → Nat → Nat → Bool
  | [], a, n => a == n
  | l :: ls, a, n => layerF np l 0 8 == a && layersCover np ls (a + layerF np l 8 8) n

/-- The rules of a stage that read CRUC (R258). -/
def stgCrucOk (img : List Byte) (s : Nat) : Bool :=
  match (List.range (nCol img)).filter (fun d => colStage img d == some s) with
  | [d] =>
    let same (x : Nat) : Bool := decide (x < nCol img) && colGroup img x == colGroup img d && colFirst img x == colFirst img d &&
      colEvery img x == colEvery img d
    let ag := stgAg img s
    let nm := stgNorm img s
    layersCover (nump img) ((List.range (stgNl img s)).map (fun i => stgLayer0 img s + i)) 0 (colCount img d) &&
    (colRes img d == .bf16 || colRes img d == .fp16 || colRes img d == .fp32) &&
    (ag == 0xFFFF || (same ag && colOp img ag == 2 && colCount img ag == colCount img d && colFmt img ag == stgW img s)) &&
    (stgRule img s != 2 || (same nm && colOp img nm == 0 && colFunc img nm == 0 && colMode img nm == 0 && colFmt img nm == .int64 &&
      colCount img nm == 2 * stgNl img s))
  | _ => false

def numpCrucOk (img : List Byte) : Bool := (List.range (nStg img)).all (stgCrucOk img)

/-- The addresses and groups of the stages, which read POOL, CRUC and KERN (R260, R451). -/
def numpKernOk (img : List Byte) : Bool :=
  (List.range (nStg img)).all (fun s => decide (stgGroup img s < kernGroups (sect img tyKERN)) &&
    (match stgDesc img s with
     | none => true
     | some d => !grpTakes img (colGroup img d) || (stgSpans img s (shareS img d)).all (spanOk img)))

/-- The steps lie within their epochs (R258). -/
def numpSeamOk (img : List Byte) : Bool :=
  (List.range (nStg img)).all (fun s => match stgDesc img s with
    | none => true
    | some d => fitsSeams img (colFirst img d) (colEvery img d) (stgRelOff img s + (colChunks img d - 1) * stgPeriod img s))

/-! ### KERN -/

/-- A tile descriptor (R119, R175, R184, R185). -/
def descOk (k : List Byte) (i : Nat) : Bool :=
  let o := 64 + 32 * i
  let d := kDesc k i
  let dir := sdDir d.sdesc
  decide (leAt k (o + 28) 1 < 16) && leAt k (o + 5) 3 == 0 && leAt k (o + 30) 2 == 0 &&
  (dir == 0 || leAt k (o + 13) 3 == 0) &&
  (match Fmt.ofCode d.fmt with
   | none => false
   | some f => decide (1 ≤ d.rows ∧ 1 ≤ d.cols ∧ (f.bits ≠ 4 ∨ d.cols % 2 = 0)) && sdescOk d.sdesc d.rows d.cols f) &&
  spansOk (d.spans 0)

/-- A library image (R172, R173) under a contract level. -/
def kimgOk (level : Nat) (k : List Byte) : Bool :=
  let n := leAt k 6 2
  let co := leAt k 8 4
  let cl := leAt k 12 4
  let en := leAt k 16 4
  leAt k 0 4 == 0x4E4B5A54 && decide (leAt k 4 2 ≤ level ∧ n ≤ 256 ∧ co % 8 = 0 ∧ 64 + 32 * n ≤ co ∧ cl % 8 = 0 ∧ co + cl ≤ k.length) &&
  decide (en % 8 = 0 ∧ co ≤ en ∧ en < co + cl) && zerosIn k 20 64 && (List.range n).all (descOk k)

/-- The own rules of KERN (R172 to R175). -/
def kernOk (img : List Byte) (level : Nat) : Bool :=
  match imgSection img tyKERN with
  | none => true
  | some k =>
    let nlb := leAt k 0 4
    let nimg := kernImgs k
    let stop := kernDirOff k + 8 * nimg
    decide (1 ≤ nlb ∧ nlb ≤ 1024 ∧ 1 ≤ nimg ∧ nimg ≤ 4096 ∧ kernGroups k ≤ 256 ∧ stop ≤ k.length) && zerosIn k 12 64 &&
    (List.range nlb).all (fun l =>
      let a := leAt k (64 + 4 * l) 2
      let b := leAt k (66 + 4 * l) 2
      decide (a < nimg) && (b == 0xFFFF || decide (b < nimg))) &&
    (List.range nimg).all (fun i =>
      let o := leAt k (kernDirOff k + 8 * i) 4
      let n := leAt k (kernDirOff k + 8 * i + 4) 4
      decide (o % 8 = 0 ∧ 64 ≤ n ∧ n ≤ 65536 ∧ stop ≤ o ∧ o + n ≤ k.length) && kimgOk level (kernImage k i))

/-- The rule of GILD that reads KERN (R547). -/
def gildKernOk (img : List Byte) : Bool :=
  let g := sect img tyGILD
  (List.range (leAt g 0 4)).all (fun i =>
    let (_, b, n) := gildReg g i
    !((kernAreas img).any (meets b n)))

/-! ### SEAM -/

/-- The own rules of SEAM (R97). -/
def seamOk (img : List Byte) : Bool :=
  let m := sect img tySEAM
  let n := seamEntries m
  decide (32 ≤ m.length ∧ 1 ≤ n ∧ n ≤ 4096 ∧ 32 + 16 * n ≤ m.length ∧ seamMode m ≤ 1) && zerosIn m 24 32 &&
  (seamMode m == 0 || (List.range 4).all (fun a => imgAxis img a == 1)) &&
  (List.range n).all (fun i =>
    let (len, rep, fl) := seamEntry m i
    decide (4096 ≤ len ∧ len ≤ 2 ^ 40 ∧ fl < 2) && (decide (1 ≤ rep) || i + 1 == n))

/-! ### FLDS -/

/-- Blocks in which an entry may lie (R47, R605). -/
def fldsBlock (a : Nat) : Bool := decide (a < 0x3000000) && !decide (0xC0000 ≤ a ∧ a < 0x180000)

/-- The bits of a register that a FLDS entry may cover: RW fields, and with AT not C-class ones (R47). -/
def fldsBits (a : Nat) (live : Bool) : Nat :=
  match findReg a with
  | none => 0
  | some r => r.flds.foldl (fun m f => if f.acc = .rw ∧ (live = false ∨ f.app ≠ .c) then Nat.lor m ((2 ^ f.width - 1) * 2 ^ f.lo) else m) 0

/-- An entry obeys R46 and R47. -/
def fldsEntryOk (x : List Byte) (i : Nat) : Bool :=
  let (a, _, m, t) := fldsEntry x i
  a % 4 == 0 && fldsBlock a && Nat.land m (fldsBits a (decide (0 < t))) == m

/-- The own rules of FLDS. -/
def fldsOk (img : List Byte) : Bool :=
  match imgSection img tyFLDS with
  | none => true
  | some x => x.length % 16 == 0 && (List.range (x.length / 16)).all (fldsEntryOk x)

/-- A word after the FLDS entries of one AT (R46, R47): the later entry decides a bit. -/
def fldsWord (x : List Byte) (a t w : Nat) : Nat :=
  (List.range (x.length / 16)).foldl (fun w i =>
    let (b, v, m, u) := fldsEntry x i
    if b = a ∧ u = t then Nat.lor (Nat.land w (m ^^^ 0xFFFFFFFF)) (Nat.land v m) else w) w

/-- The rule of POOL that reads FLDS (R390): ingest reservations and guaranteed accesses fit a beat. -/
def poolFldsOk (img : List Byte) : Bool :=
  match imgSection img tyPOOL with
  | none => true
  | some p =>
    let w := fldsWord (sect img tyFLDS) MIL_ING_RES_RES_S0.addr 0 (regReset MIL_ING_RES_RES_S0.addr).toNat
    let sum := leAt p 12 1 + leAt p 13 1 + leAt p 14 1
    let res (f : Fld) := min 16 (f.get (BitVec.ofNat 32 w))
    decide (sum + 2 * res MIL_ING_RES_RES_S0 ≤ 127 ∧ sum + 2 * res MIL_ING_RES_RES_S1 ≤ 127)

/-! ### The order of failures (R631) -/

/-- What the node itself is, as CHECK reads it: ordering code, contract level, enabled-Hall mask. -/
structure CheckEnv where
  fr : Bool
  level : Nat
  mask : Nat

/-- Codes of R76 that CHECK reports. -/
def ceDirectory : Nat := 8
def ceContract : Nat := 9
def ceScale : Nat := 0xA
def ceAxis : Nat := 0xB
def ceMap : Nat := 0xC

/-- The checks in their order: whether each holds, its code and its DETAIL (R57, R61, R76, R631). -/
def checkList (e : CheckEnv) (img : List Byte) : List (Bool × Nat × Nat) :=
  [ (directoryOk img, ceDirectory, 0), (axesOk img, ceAxis, 0), (scaleOk img, ceScale, 0)
  , (decide (imgContract img ≤ e.level), ceContract, 0), (mapOk img e.mask, ceMap, (maskHalls e.mask).length)
  , (portOk img e.fr, ceSection, tyPORT), (poolOk img, ceSection, tyPOOL), (poolPortOk img, ceSection, tyPOOL)
  , (mandOk img, ceSection, tyMAND), (mandPortOk img, ceSection, tyMAND), (gildOk img, ceSection, tyGILD)
  , (gildPoolOk img, ceSection, tyGILD), (crucOk img, ceSection, tyCRUC), (mandCrucOk img && ringsOk img, ceSection, tyMAND)
  , (cutsOk img && membersOk img, ceSection, tyCRUC), (stckOk img, ceSection, tySTCK), (gateOk img, ceSection, tyGATE)
  , (gatePortOk img, ceSection, tyGATE), (numpOk img, ceSection, tyNUMP), (crucNumpOk img, ceSection, tyCRUC)
  , (stckNumpOk img, ceSection, tySTCK), (numpCrucOk img, ceSection, tyNUMP), (kernOk img e.level, ceSection, tyKERN)
  , (gildKernOk img, ceSection, tyGILD), (crucAddrOk img, ceSection, tyCRUC), (stckKernOk img, ceSection, tySTCK)
  , (numpKernOk img, ceSection, tyNUMP), (seamOk img, ceSection, tySEAM), (crucSeamOk img, ceSection, tyCRUC)
  , (stckSeamOk img, ceSection, tySTCK), (numpSeamOk img, ceSection, tyNUMP), (fldsOk img, ceSection, tyFLDS)
  , (poolFldsOk img, ceSection, tyPOOL) ]

/-- The first failure of a list of checks: its code and DETAIL. -/
def firstFail : List (Bool × Nat × Nat) → Option (Nat × Nat)
  | [] => none
  | c :: cs => if c.1 then firstFail cs else some c.2

/-- The node as CHECK sees it. -/
def State.checkEnv (s : State) : CheckEnv := ⟨s.bit MGT_ID_OPT, s.rd MIL_FEAT0_CONTRACT, s.hallMap⟩

/-- CHECK of an image (R60, R631): none where it passes. -/
def State.checkImage (s : State) (img : List Byte) : Option (Nat × Nat) := firstFail (checkList s.checkEnv img)

/-- The re-check of R62: the map rule and the contract, in the order of R631. -/
def State.recheck (s : State) (img : List Byte) : Option (Nat × Nat) :=
  firstFail [(decide (imgContract img ≤ s.rd MIL_FEAT0_CONTRACT), ceContract, 0), (mapOk img s.hallMap, ceMap, (maskHalls s.hallMap).length)]

end Sys2Proof.Machine
end

