-- ==== Sys2Proof/Machine/Fence.lean ====
section
/-! DEFINITION. Fence commands (R415, R416, R422). -/

namespace Sys2Proof.Machine

/-- FENCE_ADD: RT_FADD (R414, R416, R422): a list that is full refuses the add and sets FULL; collective instances that depend on
the element stop (R250). -/
def State.fenceAdd (s : State) (kind arg : Nat) : State := (s.addFence (kind % 4) (arg % 2 ^ 20) false).collFences

def execFenceAdd (t kind arg : Nat) (s : State) : Host.Outcome State Fault Refusal :=
  .next ((s.at t).cmd none (fun s => s.fenceAdd kind arg))

/-- One bit of a fence map clears; the removal is hallmarked (R415). -/
def State.unfence (s : State) (f : Fld) (bit kind arg : Nat) : State :=
  if s.rd f / 2 ^ bit % 2 = 1 then (s.wr f (s.rd f - 2 ^ bit)).fenceHall kind arg false true else s

/-- A fence is removed by kind and argument (R416, R422). -/
def State.delFence (s : State) (kind arg : Nat) : State :=
  match kind with
  | 3 => let k := arg % 256; s.unfence (RT_PFENCE (k / 32)) (k % 32) 3 k
  | 1 | 2 =>
    if kind = 1 ∧ addrCode arg = s.selfCode then
      let n := addrN arg
      s.unfence (RT_EFENCE (n / 32)) (n % 32) 1 arg
    else
      let arg := if kind = 2 then addrCode arg else arg
      match (List.range 256).find? (fun i => s.bit (RT_FLIST_VALID i) && s.rd (RT_FLIST_KIND i) == kind && s.rd (RT_FLIST_ARG i) == arg) with
      | none => s
      | some i =>
        let s := s.setWord (RT_FLIST_VALID i).addr 0
        (s.wr RT_FSTAT_COUNT (s.rd RT_FSTAT_COUNT - 1)).fenceHall kind arg false true
  | _ => s

/-- FENCE_DEL: RT_FDEL, accepted only while the node is uncast (R416). -/
def State.fenceDel (s : State) (path : Path) (kind arg : Nat) : State :=
  if s.nodeState ≠ stUncast then s.writeRefused ceSealed path.master
  else s.delFence (kind % 4) (arg % 2 ^ 20)

def execFenceDel (t : Nat) (path : Path) (kind arg : Nat) (s : State) : Host.Outcome State Fault Refusal :=
  .next ((s.at t).cmd none (fun s => s.fenceDel path kind arg))

/-- The causes of R350 after which the node fences a port itself (R415): LANE, TXDIS, DECODE, REPLAY, TIMEOUT, REACH. -/
def fenceCauses : List Nat := [3, 4, 5, 6, 9, 11]

/-- AUTO_FENCE of port k: down for DELAY ticks with such a cause, on a cast node (R415). -/
def State.autoFence (s : State) (k : Nat) : State :=
  match (s.port k).downAt with
  | some d =>
    if s.inForce && !s.portUp k && fenceCauses.contains (s.rd (LK_STAT_CAUSE k)) &&
        decide (d + s.rd RT_FCTL_DELAY ≤ s.now) && !s.portFenced k then (s.fencePort k true).collFences
    else s
  | none => s

def execAutoFence (t k : Nat) (s : State) : Host.Outcome State Fault Refusal := .next ((s.at t).autoFence k)

end Sys2Proof.Machine
end

