-- ==== Sys2Proof/Machine/Lanes.lean ====
section
/-! DEFINITION. Lanes and optical engines (10): sweeps and adaptation (R307 to R315), alignment (R316, R317), patterns and checkers
(R318 to R320), transmitter disables and engine faults (R323). Figures of merit, symbols and words are what the receiver
measures: operands (log 1). -/

namespace Sys2Proof.Machine

/-- The port of a lane. -/
def lanePort (k : Nat) : Nat := k / 4

/-- ADAPTING of a lane (R325): a sweep runs, or the main code walks to its target. -/
def State.laneSync (s : State) (k : Nat) : State :=
  s.wrBit (LN_STAT_ADAPTING k) ((s.lane k).sweep.isSome || s.rd (LN_STAT_MAIN k) != s.rd (LN_PEAK_CODE k))

/-- A full sweep begins (R310, R312): `data` on the data sampler. -/
def State.startSweep (s : State) (k : Nat) (data : Bool) : State :=
  (s.setLane k { s.lane k with sweep := some (data, s.now, s.rd (LN_STAT_MAIN k)) }).laneSync k

/-- A lane is marked as failed (R314): FAILED and a LINK alert. -/
def State.laneFailed (s : State) (k : Nat) : State :=
  let p := lanePort k
  let s := s.wrBit (LN_STAT_FAILED k) true
  if s.nodeQuenched then s.faultConseq .link 1 3 (mPort p) 4 else s.fault .link 1 3 (mPort p) 4

/-- The port of failed lanes goes down with cause LANE (R314). -/
def State.laneDown (s : State) (p : Nat) : State := if s.rd (LK_STAT_STATE p) = 0 then s else s.portDown p 3

/-- A lane fails (R314). -/
def State.laneFail (s : State) (k : Nat) : State := (s.laneFailed k).laneDown (lanePort k)

/-- SIG_RISE of a lane (R310, R317): with ADAPT_EN a full sweep starts; `valid` says whether the signal has all four levels
(R309). -/
def State.sigRise (s : State) (k : Nat) (valid : Bool) : State :=
  if s.domOn (laneDom k) && !s.bit (LN_STAT_SIG k) then
    let s := ((s.wrBit (LN_STAT_SIG k) true).wrBit (LN_STAT_FOM_VALID k) valid).wr (LN_STAT_SLIPS k) 0
    let s := s.setLane k { s.lane k with swept := false, hits := 0 }
    let s := if s.bit (LN_CTRL_ADAPT_EN k) then s.startSweep k true else s
    s.trySignal (lanePort k)
  else s

def execSigRise (t k : Nat) (valid : Bool) (s : State) : Host.Outcome State Fault Refusal := .next ((s.at t).sigRise k valid)

/-- SIG_FALL of a lane (R309, R314). -/
def State.sigFall (s : State) (k : Nat) : State :=
  if s.bit (LN_STAT_SIG k) then
    let s := ((s.wrBit (LN_STAT_SIG k) false).wrBit (LN_STAT_FOM_VALID k) false).wrBit (LN_STAT_MATCH k) false
    let s := (s.setLane k { s.lane k with sweep := none, swept := false, hits := 0 }).laneSync k
    if s.portUp (lanePort k) then s.laneFail k else s
  else s

def execSigFall (t k : Nat) (s : State) : Host.Outcome State Fault Refusal := .next ((s.at t).sigFall k)

/-- A write refused because the lane's port is up (R320). -/
def State.patRefused (s : State) (m : Master) (k : Nat) : State := (s.raise (LN_STAT_PAT_REF k)).swNote 0 m

/-- SWEEP: a full sweep on the data sampler (R310, R320). -/
def State.sweepWrite (s : State) (m : Master) (k : Nat) : State :=
  if s.portUp (lanePort k) then s.patRefused m k
  else if s.domOn (laneDom k) then s.startSweep k true else s

def execSweep (t : Nat) (path : Path) (k : Nat) (s : State) : Host.Outcome State Fault Refusal := .next ((s.at t).cmd (some (32 + k / 128)) (fun s => s.sweepWrite path.master k))

/-- The figure of merit of a dwell (R308): the least of the three eyes' floor(256 h / Δ), limited to 255; a closed eye gives 0. -/
def eyeFom (e : Eye) : Nat :=
  let g (h : Nat) : Nat := if e.delta = 0 then 0 else 256 * h / e.delta
  Nat.min 255 (Nat.min (g e.h0) (Nat.min (g e.h1) (g e.h2)))

/-- Whether the host wrote the target of a lane in this instant: its write decides (R315). -/
def State.hostCode (s : State) (k : Nat) : Bool := (s.lane k).hostAt == some s.now

/-- Distance of two codes. -/
def codeDist (a b : Nat) : Nat := (a - b) + (b - a)

/-- The code that a sweep chooses (R310): the highest figure, then the nearest to the main code at the start, then the lowest. -/
def sweepBest (main : Nat) (figs : List Nat) : Nat × Nat :=
  (figs.zipIdx).foldl (fun (b : Nat × Nat) f =>
    if b.1 < f.1 ∨ (b.1 = f.1 ∧ codeDist f.2 main < codeDist b.2 main) then f else b) (figs.headD 0, 0)

/-- SWEEP_COMPLETE of a lane: 32 dwells have passed, with the eyes at codes 0 to 31 (R310, R312, R314). A sweep on the shadow sampler
moves nothing where the signal lost its four levels (R309) or ADAPT_EN is 0 by now (R315). -/
def State.sweepComplete (s : State) (k : Nat) (figs : List Eye) : State :=
  match (s.lane k).sweep with
  | none => s
  | some (data, t0, main) =>
    if s.now < t0 + 524288 ∨ s.domOn (laneDom k) = false then s
    else
      let (fom, code) := sweepBest main ((List.range 32).map (fun c => ((figs[c]?).map eyeFom).getD 0))
      let s := s.setLane k { s.lane k with sweep := none, swept := true }
      let still := !data && !(s.bit (LN_STAT_FOM_VALID k) && s.bit (LN_CTRL_ADAPT_EN k))
      let s := if still || s.hostCode k then s else s.wr (LN_PEAK_CODE k) code
      let s := if still then s else s.wrBit (LN_STAT_FAILED k) (fom < s.rd LN_CFG_FOM_FAIL)
      (((s.laneSync k).tryAlign (lanePort k)).tryUp (lanePort k))

def execSweepComplete (t k : Nat) (figs : List Eye) (s : State) : Host.Outcome State Fault Refusal :=
  .next ((s.at t).sweepComplete k figs)

/-- The background step (R311): which neighbour of the main code the target moves toward. -/
def windowNeighbour (hyst c lo f hi : Nat) : Option Nat :=
  let good (x : Nat) : Bool := decide (f < x ∧ f + hyst ≤ x)
  let down := decide (0 < c) && good lo
  let up := decide (c < 31) && good hi
  if down && up then (if lo < hi then some (c + 1) else some (c - 1))
  else if down then some (c - 1)
  else if up then some (c + 1)
  else none

/-- One code from `t` toward `n`. -/
def oneToward (t n : Nat) : Nat := if t < n then t + 1 else if n < t then t - 1 else t

/-- ADAPT_WINDOW of a lane: whether the signal has all four levels, and the eyes at the code below the main code, at it, and
above it (R309, R311 to R315). WIN applies from the next window (R324). -/
def State.adaptWindow (s : State) (k : Nat) (valid : Bool) (lo f hi : Eye) : State :=
  let p := lanePort k
  let s := if s.bit (LN_STAT_SIG k) then s.wrBit (LN_STAT_FOM_VALID k) valid else s
  let x := s.lane k
  if !s.portUp p || decide (s.now < x.window + 2 ^ (16 + min 10 x.win)) then s
  else if s.bit (LN_STAT_FOM_VALID k) = false then s.setLane k { x with window := s.now, win := s.rd LN_CFG_WIN }
  else
    let f := eyeFom f
    let en := s.bit (LN_CTRL_ADAPT_EN k)
    let ra := if s.bit (LK_CFG_FEC p) then s.rd LN_CFG_RA_HEAVY else s.rd LN_CFG_RA_LIGHT
    let s := (s.wr (LN_STAT_FOM k) f).wr (LN_FOMLOG_MIN k) (min f (s.rd (LN_FOMLOG_MIN k)))
    let x := { x with window := s.now, win := s.rd LN_CFG_WIN, low := if f < ra then x.low + 1 else 0, bad := if f < s.rd LN_CFG_FOM_FAIL then x.bad + 1 else 0 }
    let s := s.setLane k x
    let s :=
      if en && !s.hostCode k then
        match windowNeighbour (s.rd LN_CFG_HYST) (s.rd (LN_STAT_MAIN k)) (eyeFom lo) f (eyeFom hi) with
        | some n => s.wr (LN_PEAK_CODE k) (oneToward (s.rd (LN_PEAK_CODE k)) n)
        | none => s
      else s
    let s :=
      if en && decide (2 ≤ x.low) && x.sweep.isNone then
        let s := (s.setLane k { x with low := 0, noted := true }).inc (LN_FOMLOG_READAPTS k)
        let s := if x.noted then s else s.fault .link 0 0 (mPort p) 4
        s.startSweep k false
      else s.laneSync k
    if 4 ≤ x.bad then (s.setLane k { s.lane k with bad := 0 }).laneFail k else s

def execAdaptWindow (t k : Nat) (valid : Bool) (lo f hi : Eye) (s : State) : Host.Outcome State Fault Refusal :=
  .next ((s.at t).adaptWindow k valid lo f hi)

/-- PEAK_STEP of a lane: the main code moves one step toward its target (R307). -/
def State.peakStep (s : State) (k : Nat) : State :=
  let x := s.lane k
  let c := s.rd (LN_STAT_MAIN k)
  let t := s.rd (LN_PEAK_CODE k)
  let data := match x.sweep with | some (d, _) => d | none => false
  if s.domOn (laneDom k) && c != t && !data && decide (x.stepped + 1024 ≤ s.now) then
    ((s.setLane k { x with stepped := s.now }).wr (LN_STAT_MAIN k) (oneToward c t)).laneSync k
  else s

def execPeakStep (t k : Nat) (s : State) : Host.Outcome State Fault Refusal := .next ((s.at t).peakStep k)

/-- PEAK_CODE_WRITE: the target code (R315). -/
def State.peakCode (s : State) (k code : Nat) : State :=
  ((s.setLane k { s.lane k with hostAt := some s.now }).wr (LN_PEAK_CODE k) (code % 32)).laneSync k

def execPeakCodeWrite (t k code : Nat) (s : State) : Host.Outcome State Fault Refusal := .next ((s.at t).cmd none (fun s => s.peakCode k code))

/-- SLIP: the word boundary moves one symbol later (R317, R320). -/
def State.slip (s : State) (m : Master) (k : Nat) : State :=
  if s.portUp (lanePort k) then s.patRefused m k
  else if s.domOn (laneDom k) then
    ((s.wr (LN_STAT_SLIPS k) ((s.rd (LN_STAT_SLIPS k) + 1) % 64)).setLane k { s.lane k with hits := 0 }).wrBit (LN_STAT_MATCH k) false
  else s

def execSlip (t : Nat) (path : Path) (k : Nat) (s : State) : Host.Outcome State Fault Refusal := .next ((s.at t).cmd (some (32 + k / 128)) (fun s => s.slip path.master k))

/-- CLR: the checker's counters go to 0 (R319). -/
def State.clearChecker (s : State) (k : Nat) : State := ((s.wr64 (LN_SYM_LO k) 0).wr (LN_SERR k) 0).wr (LN_BERR k) 0

def execClr (t k : Nat) (s : State) : Host.Outcome State Fault Refusal := .next ((s.at t).cmd (some (32 + k / 128)) (fun s => s.clearChecker k))

/-- PATTERN_WRITE: TX_PAT and RX_PAT of a lane (R319, R320): the counters go to 0; another RX_PAT starts the checker and MATCH anew. -/
def State.patternWrite (s : State) (m : Master) (k tx rx : Nat) : State :=
  if s.portUp (lanePort k) && (tx % 8 != 0 || rx % 8 != 0) then s.patRefused m k
  else
    let old := s.rd (LN_CTRL_RX_PAT k)
    let s := (s.wr (LN_CTRL_TX_PAT k) (tx % 8)).wr (LN_CTRL_RX_PAT k) (rx % 8)
    let s := if old = rx % 8 then s
      else
        ((s.setLane k { s.lane k with hits := 0, run := 0, syms := 0, errs := [] }).wrBit (LN_STAT_MATCH k) false).wrBit (LN_STAT_LOCK k) false
    (s.clearChecker k).tryUp (lanePort k)

def execPatternWrite (t : Nat) (path : Path) (k tx rx : Nat) (s : State) : Host.Outcome State Fault Refusal :=
  .next ((s.at t).cmd none (fun s => s.patternWrite path.master k tx rx))

/-- The ALIGN word (R316). -/
def alignWord : Nat := 0xF00FCC33A55A69963C3C0FF096695AA5

/-- ALIGN_MATCH: one deserializer word of a lane with RX_PAT = ALIGN (R317). -/
def State.alignMatch (s : State) (k word : Nat) : State :=
  if s.rd (LN_CTRL_RX_PAT k) = 5 ∧ s.domOn (laneDom k) = true then
    let n := if word = alignWord then min 16 ((s.lane k).hits + 1) else 0
    (s.setLane k { s.lane k with hits := n }).wrBit (LN_STAT_MATCH k) (n = 16)
  else s

def execAlignMatch (t k word : Nat) (s : State) : Host.Outcome State Fault Refusal := .next ((s.at t).alignMatch k word)

/-- PRBS_SYMBOL_CHECK: one symbol under a PRBS pattern, with its bits in error after Gray decoding; none in error is a symbol that
agrees (R319). -/
def State.prbsCheck (s : State) (k bits : Nat) : State :=
  let pat := s.rd (LN_CTRL_RX_PAT k)
  let x := s.lane k
  if pat = 0 ∨ 3 < pat ∨ s.domOn (laneDom k) = false then s
  else if s.bit (LN_STAT_LOCK k) then
    let s := s.add64 (LN_SYM_LO k) 1
    let x := { x with syms := x.syms + 1 }
    if bits = 0 then s.setLane k x
    else
      let s := (s.inc (LN_SERR k)).addSat (LN_BERR k) bits
      let errs := x.errs.filter (fun e => decide (x.syms < e + 1024)) ++ [x.syms]
      if 64 ≤ errs.length then (s.setLane k { x with errs := [], run := 0, syms := 0 }).wrBit (LN_STAT_LOCK k) false
      else s.setLane k { x with errs := errs }
  else if bits = 0 then
    let n := x.run + 1
    if 1024 ≤ n then (s.setLane k { x with run := 0, syms := 0, errs := [] }).wrBit (LN_STAT_LOCK k) true
    else s.setLane k { x with run := n }
  else s.setLane k { x with run := 0 }

def execPrbsSymbolCheck (t k bits : Nat) (s : State) : Host.Outcome State Fault Refusal := .next ((s.at t).prbsCheck k bits)

/-- TX_DIS: transmitters of an engine's ports (R323). -/
def State.txDis (s : State) (n mask : Nat) : State :=
  let old := s.rd (LN_ECTRL_TX_DIS n)
  let s := s.wr (LN_ECTRL_TX_DIS n) (mask % 2 ^ 16)
  ((List.range 16).filter (fun j => mask / 2 ^ j % 2 == 1 && old / 2 ^ j % 2 == 0)).foldl (fun s j =>
    let k := 16 * n + j
    if s.portUp k then (s.portDown k 4).fault .link 1 4 (mPort k) 5 else s) s

def execTxDis (t n mask : Nat) (s : State) : Host.Outcome State Fault Refusal := .next ((s.at t).cmd none (fun s => s.txDis n mask))

/-- ENGINE_FAULT: FAULT is set and every affected lane of the engine fails (R323); a port goes down once however many of its lanes do. -/
def State.engineFault (s : State) (n mask : Nat) : State :=
  let lanes := ((List.range 64).filter (fun i => mask / 2 ^ i % 2 == 1)).map (fun i => 64 * n + i)
  (lanes.map lanePort).eraseDups.foldl State.laneDown (lanes.foldl State.laneFailed (s.raise (LN_ESTAT_FAULT n)))

def execEngineFault (t n mask : Nat) (s : State) : Host.Outcome State Fault Refusal := .next ((s.at t).engineFault n mask)

end Sys2Proof.Machine
end

