-- ==== Sys2Proof/Machine/PowerBase.lean ====
section
/-! DEFINITION. Power domains (21): what they need, what they keep, and their transitions. -/

namespace Sys2Proof.Machine

/-! ### Domains -/

/-- The states of a domain (R604). -/
def pwOn : Nat := 0
def pwRetain : Nat := 1
def pwOff : Nat := 2
def pwTransit : Nat := 3

/-- Causes of a change (R604). -/
def pcSequence : Nat := 0
def pcHost : Nat := 1
def pcApply : Nat := 2
def pcHallDis : Nat := 3
def pcFault : Nat := 4
def pcWarm : Nat := 5
def pcHall : Nat := 6

/-- The domains that must be On while `d` is (R593). -/
def powerNeeds (d : Nat) : List Nat :=
  if d < 32 then [40, 41, 42, 43]
  else if d < 36 then [40]
  else if d < 40 then [41]
  else match d with | 40 => [42] | 41 => [43] | 44 => [40] | 45 => [41] | 46 => [40] | 47 => [41] | _ => []

/-- The domains that require `d` (R593). -/
def powerUsers (d : Nat) : List Nat := (List.range 50).filter (fun e => (powerNeeds e).contains d)

/-- The state of a domain. -/
def State.dom (s : State) (d : Nat) : Nat := s.rd (PWR_STATE_STATE d)

/-- The ports whose lanes, switch core or engine domain d powers. -/
def domPorts (d : Nat) : List Nat :=
  if 32 ≤ d ∧ d < 40 then (List.range 32).map (fun i => 32 * (d - 32) + i)
  else if d = 40 ∨ d = 41 then (List.range 128).map (fun i => 128 * (d - 40) + i)
  else if d = 48 then allPorts else []

/-- A port that the Casting or ADMIN holds down (R594). -/
def State.portHeld (s : State) (k : Nat) : Bool := !s.portUse k || !s.bit (LK_CTRL_ADMIN k)

/-- Power of a domain in a state, in tenths of a watt (R588). -/
def State.domPower (s : State) (d st : Nat) : Nat :=
  let pick (a b c : Nat) : Nat := match st with | 0 => a | 1 => b | _ => c
  if d < 32 then pick 450 40 3
  else if d < 40 then pick 400 60 5
  else if d < 42 then pick 900 90 10
  else if d < 44 then pick 300 120 5
  else if d < 46 then pick 600 30 5
  else if d < 48 then pick 1400 140 10
  else if d = 48 then
    let dark := (List.range 16).filter (fun n => (List.range 16).all (fun i =>
      s.portHeld (16 * n + i) || s.rd (LN_ECTRL_TX_DIS n) / 2 ^ i % 2 == 1))
    pick (8800 - 470 * dark.length) 960 20
  else 150

/-! ### Contents (R590) -/

/-- A logical Bench as its Hall leaves it after Off (R590); one of a quenched job keeps the registers that R215 keeps until the next
apply (log 82). -/
def State.benchOff (s : State) (l : Nat) : State :=
  let b := s.bench l
  let off : Bench :=
    if b.st = .quenched ∨ b.st = .error then
      { Bench.init with
        st := b.st, pc := b.pc, ret := b.ret, nextId := b.nextId, loops := b.loops, flight := b.flight, active := b.active, armed := b.armed }
    else Bench.init
  (s.setBench l off).moverFree l (fun _ _ => true)

/-- The logical Benches whose state Hall h holds, on the mask of the last placement. -/
def State.hallBenches (s : State) (h : Nat) : List Nat :=
  let p := 32 * (maskHalls s.mill.map).length
  (List.range 1024).filter (fun l => p ≠ 0 && slotBench s.mill.map (l % p) / 32 == h)

/-- Lane k as after power-on: MAIN and CODE at their reset, no sweep (R590). -/
def State.laneOff (s : State) (k : Nat) : State :=
  ((s.resetWords [(LN_STAT_FOM k).addr, (LN_PEAK_CODE k).addr]).wr (LN_FOMLOG_MIN k) 255).setLane k Lane.init

/-- The memory of a span is zeros with valid check symbols (R456): what made parts of it undefined is forgotten, and the memory keeps
its canonical form. -/
def State.zeroSpan (s : State) (a n : Nat) : State :=
  let out (e : Nat) : Bool := !decide (a ≤ e ∧ e < a + n)
  let u := s.msys.undef.filter (fun e => out (match e.group with | some (g, _) => g / 16 * stackSize | none => e.lo))
  { s with
    mem := s.mem.filter (fun e => out e.1 && decide (e.2 ≠ memDefault u e.1))
    errs := s.errs.filter (fun e => out e.1)
    msys := { s.msys with undef := u, badChk := s.msys.badChk.filter out } }

/-- Cells and queues of a die as after power-on (R590). -/
def State.coreOff (s : State) (d : Nat) : State :=
  let s := { s with fab := { s.fab with
    cells := s.fab.cells.filter (fun c => c.die ≠ d)
    leaf0 := s.fab.leaf0.filter (fun c => c.1 ≠ d)
    mqs := s.fab.mqs.filter (fun m => m.cell.1 ≠ d)
    banks := s.fab.banks.filter (fun b => decide (b.1 / 16 ≠ d))
    chg := s.fab.chg.filter (fun c => c.1 ≠ d) }
                    mill := { s.mill with transit := s.mill.transit.filter (fun e => e.2.2.2.1 ≠ d) } }
  (domPorts (40 + d)).foldl (fun s k =>
    let p := s.port k
    s.setPort k { p with
      queues := List.replicate 8 [], openTx := none, keptRx := [], openRx := p.openRx.map (fun o => { o with cells := [] })
      v := 0, f := List.replicate 8 0, stag := List.replicate 8 none }) s

/-- What a domain that has gone Off has lost (R590). -/
def State.domLost (s : State) (d : Nat) : State :=
  if d < 32 then (s.hallBenches d).foldl State.benchOff s
  else if d < 40 then (List.range 128).foldl (fun s i => s.laneOff (128 * (d - 32) + i)) s
  else if d < 42 then s.coreOff (d - 40)
  else if d < 44 then s.zeroSpan (ingotBase + (d - 42) * 2 ^ 28) (2 ^ 28)
  else if d = 46 ∨ d = 47 then
    let mine (g : Nat) : Bool := g / 64 == d - 46
    let s := s.zeroSpan (4 * (d - 46) * stackSize) (4 * stackSize)
    { s with msys := { s.msys with
      remapped := s.msys.remapped.filter (fun r => !mine r.1), rows := s.msys.rows.filter (fun r => r.2.2.2 || !mine r.1) } }
  else s

/-- A domain stops working as it leaves On (R590, R591): receivers off, stacks not ready, lasers off, ports down. -/
def State.domStops (s : State) (d : Nat) : State :=
  let s := (domPorts d).foldl (fun s k => if s.rd (LK_STAT_STATE k) = 0 then s else s.portDown k 3) s
  if 32 ≤ d ∧ d < 40 then (List.range 128).foldl (fun s i => s.sigFall (128 * (d - 32) + i)) s
  else if d = 46 ∨ d = 47 then (List.range 4).foldl (fun s i => s.wrBit (MEM_HSTAT_READY (4 * (d - 46) + i)) false) s
  else if d = 48 then (List.range 16).foldl (fun s n => s.wrBit (LN_ESTAT_READY n) false) s
  else s

/-- A domain works once it is On: stacks ready, engines ready, ports may come up (R346, R472, R590). -/
def State.domWorks (s : State) (d : Nat) : State :=
  let s :=
    if d = 46 ∨ d = 47 then (List.range 4).foldl (fun s i => s.wrBit (MEM_HSTAT_READY (4 * (d - 46) + i)) true) s
    else if d = 48 then (List.range 16).foldl (fun s n => s.wrBit (LN_ESTAT_READY n) true) s
    else s
  (domPorts d).foldl State.trySignal s

/-! ### Transitions -/

/-- The running or waiting transition of a domain. -/
def State.transOf (s : State) (d : Nat) : Option Trans := s.pwr.trans.find? (fun x => x.dom == d)

/-- On power increases that begun within the last 10 µs, in tenths of a watt (R596). -/
def State.recentPower (s : State) : Nat := ((s.pwr.starts.filter (fun e => decide (s.now < e.1 + 16000))).map (·.2)).sum

/-- The state that a domain leaves: what it was before it went in transit. -/
def State.leaves (s : State) (d : Nat) : Nat := if s.bit (PWR_STATE_PGOOD d) then pwRetain else pwOff

/-- Whether a transition to On may begin now (R593, R596). -/
def State.mayStart (s : State) (x : Trans) : Bool :=
  (powerNeeds x.dom).all s.domOn &&
    decide (s.recentPower + (s.domPower x.dom pwOn - s.domPower x.dom (s.leaves x.dom)) ≤ 10000)

/-- A transition begins (R595, R596). -/
def State.startTrans (s : State) (x : Trans) : State :=
  let begin (y : Trans) : Trans := if y = x then { y with start := some s.now } else y
  let inc := s.domPower x.dom pwOn - s.domPower x.dom (s.leaves x.dom)
  let old := s.pwr.starts.filter (fun e => decide (s.now < e.1 + 16000))
  let s := { s with pwr := { s.pwr with
    trans := s.pwr.trans.map begin, starts := if x.target = pwOn then old ++ [(s.now, inc)] else old } }
  let on := s.domOn x.dom
  let s := (s.wr (PWR_STATE_STATE x.dom) pwTransit).wr (PWR_STATE_TARGET x.dom) x.target
  if on then s.domStops x.dom else s

/-- The first transition of its domain that waits to begin. -/
def State.waits (s : State) (x : Trans) : Bool := x.start.isNone && s.transOf x.dom == some x

/-- Transitions away from On never wait for power (R596); one that its users still hold On waits for them (R593), but
for that of a domain whose power-good fell (R602). -/
def State.startDown (s : State) (x : Trans) : State :=
  if s.waits x && x.target != pwOn && (x.cause == pcFault || (powerUsers x.dom).all (fun e => !s.domOn e)) then s.startTrans x else s

/-- The waiting transition to On that begins next: the lowest domain of those whose requirements are On (R593, R596). -/
def State.nextUp (s : State) : Option Trans :=
  (List.range 50).findSome? (fun d => s.pwr.trans.find? (fun x => x.dom == d && x.target == pwOn && s.waits x && (powerNeeds d).all s.domOn))

/-- Whatever may begin now begins: transitions away from On, then those to On in increasing domain. -/
def State.startUps (s : State) : Nat → State
  | 0 => s
  | n + 1 =>
    match s.nextUp with
    | none => s
    | some x => if s.mayStart x then State.startUps (s.startTrans x) n else s

def State.startTransitions (s : State) : State :=
  (s.pwr.trans.foldl State.startDown s).startUps 50

/-- DOMAIN_TRANSITION_START (R596). -/
def execDomainTransitionStart (t : Nat) (s : State) : Host.Outcome State Fault Refusal := .next (s.at t).startTransitions

/-- A transition of a domain is asked for (R594, R595): it waits behind the one in progress on the domain. -/
def State.askTrans (s : State) (d target cause : Nat) : State :=
  let s := s.wr (PWR_CTRL_REQ d) target
  { s with pwr := { s.pwr with trans := s.pwr.trans ++ [⟨d, target, cause, none⟩] } }

/-- The node itself moves a domain (R595): nothing where it already is there, or is on its way and nothing waits behind. -/
def State.nodeTrans (s : State) (d target cause : Nat) : State :=
  match (s.pwr.trans.filter (fun x => x.dom == d)).getLast? with
  | some x => if x.target = target then s else (s.askTrans d target cause).startTransitions
  | none => if s.dom d = target then s else (s.askTrans d target cause).startTransitions

/-- A domain enters its new state (R590, R597, R604). -/
def State.enterDom (s : State) (d target cause : Nat) : State :=
  let s := ((s.wr (PWR_STATE_STATE d) target).wr (PWR_STATE_TARGET d) 0).wr (PWR_STATE_CAUSE d) cause
  let s := s.wrBit (PWR_STATE_PGOOD d) (target ≠ pwOff)
  if target = pwOn then (s.inc (PWR_STATE_WAKES d)).domWorks d
  else if target = pwOff then s.domLost d
  else s

/-- The transition of domain d in progress ends (R597), and those that waited may begin. -/
def State.transDone (s : State) (d : Nat) : State :=
  match s.pwr.trans.find? (fun x => x.dom == d && x.start.isSome) with
  | none => s
  | some x =>
    let s := { s with pwr := { s.pwr with trans := s.pwr.trans.erase x } }
    (s.enterDom d x.target x.cause).startTransitions

/-- The enabled-Hall mask that the apply of an image leaves: its FLDS entries with AT = 0 may disable more Halls (R46, R154, R155). -/
def State.maskAfter (s : State) (img : List Byte) : Nat :=
  let x := sect img tyFLDS
  (List.range (x.length / 16)).foldl (fun m i =>
    let (a, v, k, t) := fldsEntry x i
    if a = MIL_HALL_DIS.addr ∧ t = 0 then m - Nat.land m (Nat.land v k) else m) s.hallMap

/-- Halls that the placement of an image needs On (R65, R157): on the mask that its apply leaves. -/
def State.hallsOf (s : State) (img : List Byte) : List Nat :=
  let hs := maskHalls (s.maskAfter img)
  hs.take ((min (kernN img) (32 * hs.length) + 31) / 32)

/-- The Halls of an image are brought On (R65, R595). -/
def State.wakeHalls (s : State) (img : List Byte) : State := (s.hallsOf img).foldl (fun s h => s.nodeTrans h pwOn pcApply) s

end Sys2Proof.Machine
end

