-- ==== Sys2Proof/Machine/CastBase.lean ====
section
/-! DEFINITION. Refusals in the staging path (R76), the end of a job (R63, R64), and the apply of a Casting (R65). -/

namespace Sys2Proof.Machine

/-! ### Phases and refusals -/

/-- The phases of the staging path (R56). -/
def phIdle : Nat := 0
def phFetch : Nat := 1
def phSign : Nat := 2
def phCheck : Nat := 3
def phStaged : Nat := 4

/-- CST_STATE.PHASE. -/
def State.phase? (s : State) : Nat := s.rd CST_STATE_PHASE

/-- A COMMIT is bound (R62). -/
def State.bound (s : State) : Bool := s.bit CST_STATE_COMMIT

/-- The phase changes; software learns of it from CST_STATE and MSI-X vector 2 (R67, R563). -/
def State.setPhase (s : State) (p : Nat) : State := (s.wr CST_STATE_PHASE p).msix 2

/-- CODE and DETAIL of a refusal (R76). -/
def State.cstErr (s : State) (code detail : Nat) : State := (s.wr CST_ERR_CODE code).wr CST_ERR_DETAIL detail

/-- A refused DISCARD, UNCAST or ABORT, and a refused OP 7 to 15 (R76). -/
def State.cmdRefused (s : State) (code : Nat) (m : Master) : State := (s.cstErr code 0).swNote code m

/-- A refused LOAD, COMMIT or apply (R76): `op` is the command that it refuses, `dig` the digest where one has been computed. -/
def State.refuseCast (s : State) (code detail op : Nat) (dig : List Byte) : State :=
  let s := (s.cstErr code detail).raise CST_ERR_LOAD_FAIL
  let s := s.fault .cast 1 code mCast
  s.hall 4 ([BitVec.ofNat 8 code, BitVec.ofNat 8 detail, BitVec.ofNat 8 op, 0] ++ slice dig 0 48)

/-- The command that a load or commit in progress answers to (R55). -/
def State.loadOp (s : State) : Nat := if s.cst.autoCommit then 3 else 1
def State.commitOp (s : State) : Nat := if s.cst.autoCommit then 3 else 2

/-- Nothing is staged any more (R54, R62): the phase is IDLE and no COMMIT is bound. -/
def State.dropStaged (s : State) : State :=
  let s := { s with cst := { s.cst with staged := [], autoCommit := false } }
  let s := s.wrBytes CST_STAGED_DIGEST (List.replicate 48 0)
  (s.wrBit CST_STATE_COMMIT false).setPhase phIdle

/-- A load in progress fails (R60, R76). -/
def State.loadFails (s : State) (code detail : Nat) (dig : List Byte) : State :=
  (s.refuseCast code detail s.loadOp dig).dropStaged

/-! ### The end of a job -/

/-- Data-class copies and label flits leave the node, and with them the cells of Crucibles, movers and Stock (R63, R64, R393). A label
stream goes on, with nothing held to resend (R349); one that failed, and every packet stream, is forgotten (R341, R412). -/
def State.dropJobData (s : State) : State :=
  let keepHold (h : Owner × Acct × Bool) : Bool := match h.1 with | .queue _ q => decide (4 ≤ q) | _ => false
  let s := s.setCells ((s.fab.cells.map (fun c => { c with holds := c.holds.filter keepHold })).filter (fun c => c.holds ≠ []))
  let txs := (s.fab.txs.filter (fun x => x.lbl && !x.failed)).map (fun x => { x with held := [], again := [] })
  let s := { s with fab := { s.fab with
    mqs := s.fab.mqs.filter (fun m => decide (4 ≤ m.flit.vc)), txs := txs, rxs := s.fab.rxs.filter (·.lbl)
    collIn := [], stockIn := [], mgmtIn := s.fab.mgmtIn.filter (fun m => !m.2.1) } }
  (s.fab.ports.map (·.1)).foldl (fun s k =>
    let p := s.port k
    let rx := p.openRx.map (fun o => if o.inVc < 4 then { o with drop := some .rejected, cells := [] } else o)
    s.setPort k { p with
      queues := List.replicate 4 [] ++ p.queues.drop 4, openTx := p.openTx.filter (fun t => decide (4 ≤ t.q)), openRx := rx
      keptRx := p.keptRx.filter (fun o => decide (4 ≤ o.inVc)) }) s

/-- The Benches stop. Their registers keep their values until the next apply (R215, R218); a reload in progress ends unfinished. Each
physical Bench keeps the store of the logical one it ran last (R169, log 32). -/
def State.benchesEnd (s : State) : State :=
  let p := s.physN
  let n := s.benchN
  let old := s
  let rest (l : Nat) (b : Bench) : Bench :=
    let from' := if l < p then old.bench ((old.resident l).getD l) else Bench.init
    { b with
      store := from'.store, damage := from'.damage, fill := from'.fill
      k0 := { b.k0 with reload := none }, k1 := { b.k1 with reload := none } }
  (s.benches.map (·.1) ++ List.range (if p < n then p else 0)).eraseDups.foldl (fun s l => s.setBench l (rest l (s.bench l))) s

/-- Host S-class writes that still pend are discarded and counted (R68, R70), gate commits among them (R437). -/
def State.dropPending (s : State) : State :=
  let s := s.addSat CST_SDISCARD s.cst.spend.length
  let s := allPorts.foldl (fun s k =>
    if s.cst.spend.any (fun w => w.addr == (GT_GCTL_COMMIT k).addr) then s.wrBit (GT_GSTAT_PEND k) false else s) s
  { s with cst := { s.cst with spend := [] } }

/-- The endpoint ports that replay held down come up again (R346, R501). -/
def State.endReplay (s : State) : State :=
  if s.rd DET_STAT_MODE = 2 then
    endpointPorts.foldl (fun s k => (s.wrBit (LK_STAT_HELD k) (!s.bit (LK_CTRL_ADMIN k) || !s.portUse k)).trySignal k) (s.wr DET_STAT_MODE 0)
  else s

/-- The job of the Casting in force ends: no unit of it runs, nothing of it waits (R63, R64, R70, R426, R496). -/
def State.jobEnds (s : State) : State :=
  let (n, p) := (s.benchN, s.physN)
  -- the fold save area becomes ordinary HBM again, and the spec does not say how it was laid out (R159, R450)
  let s := if s.inForce ∧ p < n then s.undefine none (hbmEnd - foldBytes n p) hbmEnd else s
  let s := s.stopLists.dropJobData.benchesEnd
  let s := { s with
    coll := ⟨[], []⟩, temper := ⟨[], [], [], [], [], [], []⟩, stock := ⟨[], [], [], 0, [], [], [], []⟩
    mill := { s.mill with reload := none, swaps := [], transit := [] }
    tg := { s.tg with start := none, continuing := false, sentReady := false, gates := [], overdue := [] }
    flt := { s.flt with quenchBy := none } }
  let s := (s.wrBit MIL_RLD_STAT_BUSY false).dropPending
  let s := ((s.wrBit TG_STATUS_STARTED false).wrBit TG_STATUS_ROOT false).wr64 TG_NEXT_LO noSeam
  let s := ((s.wr64 DET_PAUSE_LO 0).wrBit DET_STAT_HELD false).endReplay.logGap.wr DET_STAT_MODE 0
  let s := ((s.wrBit CST_STATE_QUENCHED false).wrBit CST_STATE_SCALE false).wrBit CST_STATE_MAPINV false
  let s := (s.wr CST_STATE_CONTRACT 0).wrBit CST_STATE_DRAIN_TO false
  let s := s.wrBytes CST_DIGEST (List.replicate 48 0)
  { s with cst := { s.cst with img := [], seamDone := false } }

/-- The pool fields of an uncast node (R392). -/
def State.poolReset (s : State) : State :=
  let die (d : Nat) : List Nat :=
    [(BP_PCELLS_PCELLS d).addr, (BP_CRU_MIN_MIN d).addr, (BP_CRU_MAX_MAX d).addr, (BP_MILM_MIN_MIN d).addr,
     (BP_MILM_MAX_MAX d).addr, (BP_STK_MIN_MIN d).addr, (BP_STK_MAX_MAX d).addr]
  let prof (i : Nat) : List Nat := [(SW_QMIN_QMIN i).addr, (SW_QMAX_QMAX i).addr, (SW_QMARK_QMARK i).addr]
  s.resetWords (die 0 ++ die 1 ++ (List.range 16).flatMap prof ++ allPorts.map (fun k => (SW_QPROF_PROF k).addr))

/-- The node becomes uncast (R51, R63, R392). -/
def State.toUncast (s : State) : State :=
  let n := s.cst.spend.length
  ((s.jobEnds.poolReset).wr64 TG_SEAM_LO 0).toNodeState stUncast n

/-! ### Step 1 of the apply -/

/-- The blocks and registers whose RO and W1C fields record events of the Casting in force (R65): those of the switch, routing, gates,
Crucibles, numerics, Stock, determinism, the streams, late steps and the epoch. -/
def eventReg (a : Nat) : Bool :=
  decide (0x180000 ≤ a ∧ a < 0x1C0000) || decide (0x800000 ≤ a ∧ a < 0x1800000) || decide (0x2000000 ≤ a ∧ a < 0x2800000) ||
  decide (0x1900000 ≤ a ∧ a < 0x2000000) || decide (TG_LATE_COUNT.addr ≤ a ∧ a < TG_LATE_LIMIT.addr) ||
  [MIL_FOLDS.addr, MIL_ERR_FIRST_VALID.addr, MIL_ERR_COUNT.addr, TG_SLACK_MIN.addr, TG_SEAM_LO.addr, TG_SEAM_HI.addr,
   TG_NEXT_LO.addr, TG_NEXT_HI.addr].contains a

/-- The register among them that the apply keeps: BP_FIRST, which only a power-on reset clears (R396). -/
def keptReg (a : Nat) : Bool := a == (BP_FIRST_VALID 0).addr || a == (BP_FIRST_VALID 1).addr

/-- Whether step 1 of the apply resets a field (R65): every C-class and S-class field, and the events of the last Casting. -/
def applyResets (a : Nat) (f : FldSpec) : Bool := f.app != .l || (f.acc != .rw && eventReg a && !keptReg a)

/-- A word with the fields that satisfy `p` at their reset values. -/
def resetFields (p : FldSpec → Bool) (a : Nat) (w : Word) : Word :=
  match findReg a with
  | none => w
  | some r =>
    let m := r.flds.foldl (fun (m : Word) f => if p f then m ||| Fld.mask ⟨a, f.lo, f.width⟩ else m) 0
    (w &&& ~~~m) ||| (regReset a &&& m)

/-- Fields that satisfy `p` take their reset values in every register. -/
def State.resetWhere (s : State) (p : Nat → FldSpec → Bool) : State :=
  s.regs.foldl (fun s e => s.setWord e.1 (resetFields (p e.1) e.1 (s.word e.1))) s

/-- The weighted-fair order of every port starts anew (R439). -/
def State.resetOrder (s : State) : State :=
  { s with fab := { s.fab with ports := s.fab.ports.map (fun e =>
    (e.1, { e.2 with v := 0, f := List.replicate 8 0, stag := List.replicate 8 none })) } }

/-- Step 1 (R65), with what the chapters name: fences (R416), injections (R529), first occurrences, alternates (R405), sums and
chain (R490, R492), the weighted-fair order (R439). -/
def State.applyStep1 (s : State) : State :=
  let s := (s.resetWhere applyResets).resetOrder
  let s := (s.wrBit TG_STATUS_TIMING_LOST false).wrBit TG_STATUS_STARTED false
  let s := (s.wr FLT_INJ_LEFT_LEFT 0).wrBit FLT_INJ_LEFT_ARMED false
  { s with
    det := { insum := 0, outsum := 0, pos := 0, gap := none, gapNoted := false, logDone := false, stopped := [], vpos := [], shift := none }
    mill := { s.mill with noted := [], transit := [] }
    fab := { s.fab with noted := [], leakNoted := [], altEnt := [], altCopy := [], leaf0 := s.fab.cells.map (fun c => (c.die, c.idx)) }
    mgt := { s.mgt with throttled := false }
    tg := { s.tg with ignoredNoted := false, offLost := false, lastRelease := 0, epochStart := 0 } }

/-! ### Step 2: the sections -/

/-- PORT (R353): LK_CFG and LK_CREDIT, each field truncated to its width. -/
def State.applyPort (s : State) : State :=
  allPorts.foldl (fun s k =>
    let (use, width, fec, reach, q, m) := portEntry s.cst.img k
    let s := ((s.wr (LK_CFG_USE k) use).wr (LK_CFG_WIDTH k) width).wr (LK_CFG_FEC k) fec
    ((s.wr (LK_CFG_REACH k) reach).wr (LK_CREDIT_INITQ k) q).wr (LK_CREDIT_INITM k) m) s

/-- POOL (R389). -/
def State.applyPool (s : State) : State :=
  match imgSection s.cst.img tyPOOL with
  | none => s
  | some p =>
    let s := ((s.wr SW_QAGE (leAt p 8 4)).wr SW_ING_W_W_PORT (leAt p 12 1)).wr SW_ING_W_W_CRU (leAt p 13 1)
    let s := s.wr SW_ING_W_W_STK (leAt p 14 1)
    let s := [0, 1].foldl (fun s d =>
      let o := poolOwner p d
      let s := (s.wr (BP_PCELLS_PCELLS d) (leAt p (4 * d) 4)).wr (BP_CRU_MIN_MIN d) (o 0)
      let s := ((s.wr (BP_CRU_MAX_MAX d) (o 1)).wr (BP_MILM_MIN_MIN d) (o 2)).wr (BP_MILM_MAX_MAX d) (o 3)
      (s.wr (BP_STK_MIN_MIN d) (o 4)).wr (BP_STK_MAX_MAX d) (o 5)) s
    let s := (List.range 16).foldl (fun s i =>
      ((s.wr (SW_QMIN_QMIN i) (poolProf p i 0)).wr (SW_QMAX_QMAX i) (poolProf p i 1)).wr (SW_QMARK_QMARK i) (poolProf p i 2)) s
    allPorts.foldl (fun s k => s.wr (SW_QPROF_PROF k) (leAt p (320 + 8 * k) 4)) s

/-- RT_NODE from COORD and AXES (R409), and MAND (R399); without it PKTDATA is 1 (R398). -/
def State.applyMand (s : State) : State :=
  let img := s.cst.img
  let s := (((s.wr RT_NODE_W (imgCoord img 0)).wr RT_NODE_X (imgCoord img 1)).wr RT_NODE_Y (imgCoord img 2)).wr RT_NODE_Z (imgCoord img 3)
  let s := (((s.wr RT_NODE_SW (imgAxis img 0)).wr RT_NODE_SX (imgAxis img 1)).wr RT_NODE_SY (imgAxis img 2)).wr RT_NODE_SZ (imgAxis img 3)
  match imgSection img tyMAND with
  | none => s
  | some m => ((s.wr RT_MODE_PKTDATA (leAt m 10 1)).wr RT_MODE_NCUT (leAt m 8 2)).wr RT_FCTL_DELAY (leAt m 12 4)

/-- STCK (R281, R292): shares, step counts, pinned rows. -/
def State.applyStck (s : State) : State :=
  match imgSection s.cst.img tySTCK with
  | none => s
  | some x =>
    let s := (s.setWord STK_SHARE_SH_STOCK.addr (BitVec.ofNat 32 (leAt x 4 4))).wr STK_STAT_NTAB (nTab s.cst.img)
    ((List.range (nTab s.cst.img)).foldl (fun s t => s.wr64 (STK_TSTEP_LO t) (tabStep0 s.cst.img t)) s).cachePins

/-- GATE (R443, R444): the lead and the port records. -/
def State.applyGate (s : State) : State :=
  match imgSection s.cst.img tyGATE with
  | none => s
  | some g => (List.range (leAt g 0 4)).foldl (fun s i => s.applyGateRec g (gateRec g i)) (s.wr GT_LEAD (leAt g 4 4))

/-- NUMP (R140, R255, R280). -/
def State.applyNump (s : State) : State :=
  let n := nump s.cst.img
  let s := s.setWord NUM_POLICY_FAST_ALLOW.addr (BitVec.ofNat 32 (leAt n 0 4))
  if n.length ≤ 64 then s
  else
    let s := (s.wr64 NUM_TSEED_LO (leAt n 64 8)).setWord NUM_ASSAY_RATE.addr (BitVec.ofNat 32 (leAt n 76 4))
    let s := s.setWord NUM_WATCH_SILENT_RUN.addr (BitVec.ofNat 32 (leAt n 80 4))
    let s := (List.range (nStg s.cst.img)).foldl (fun s st => s.wr64 (NUM_TSTEP_LO st) (stgStep0 s.cst.img st)) s
    (List.range (nLayer s.cst.img)).foldl (fun s l =>
      let k := layerF n l 42 1
      (((s.wr (NUM_TLR l) (layerF n l 16 4)).wr (NUM_TWD l) (layerF n l 20 4)).wr (NUM_TLAYER_LSCALE l) k).wr (NUM_TLAYER_KST l) k) s

/-- The physical Bench whose store logical Bench l takes over: its place on the last map (R157). -/
def oldPlace (oldMap newMap l : Nat) : Option Nat :=
  (List.range (32 * (maskHalls oldMap).length)).find? (fun i => slotBench oldMap i == slotBench newMap l)

/-- KERN (R157, R176, R178): the section in its area at the top of H6 (R450), each logical Bench on its place, with its banks. -/
def State.applyKern (s : State) : State :=
  let k := s.kern
  let s := (s.memWrite mCast (0x3F00000000 - (k.length + 0xFFFFF) / 0x100000 * 0x100000) k).2
  let n := s.benchN
  let new := s.hallMap
  let p := 32 * (maskHalls new).length
  let old := s
  let mk (l : Nat) : Bench :=
    let from' : Bench := match (if l < p then oldPlace old.mill.map new l else none) with
      | some i => old.bench i
      | none => if l < p then Bench.init else { Bench.init with fill := some (old.free + l) }
    let i0 := leAt k (64 + 4 * l) 2
    let i1 := leAt k (66 + 4 * l) 2
    { Bench.init with
      store := from'.store, damage := from'.damage, fill := from'.fill, k0 := ⟨i0, true, none⟩
      k1 := if i1 = 0xFFFF then ⟨0, false, none⟩ else ⟨i1, true, none⟩, armed := i1 != 0xFFFF, pc := kEntry (kernImage k i0) }
  let s := (List.range n).foldl (fun s l => s.setBench l (mk l)) { s with benches := [] }
  { s with free := s.free + (if p < n then 1 else 0), mill := { s.mill with map := new, ran := [] } }

/-! ### Around the apply -/

/-- Cells that moved from the pooled to the addressed region hold no defined contents (R393). -/
def State.movedCells (s : State) (old : List Nat) : State :=
  [0, 1].foldl (fun s d =>
    let lo := ingotBase + d * 2 ^ 28 + 256 * s.pcells d
    let hi := ingotBase + d * 2 ^ 28 + 256 * old.getD d 0
    if lo < hi then
      let s := s.undefine none lo hi
      { s with errs := s.errs.filter (fun e => !decide (lo ≤ e.1 ∧ e.1 < hi)) }
    else s) s

/-- A fault stops the apply, which fails (R57, R77): the node ends UNCAST, with C-class and S-class fields and tables at reset. -/
def State.applyStopped (s : State) : State :=
  let s := ((s.dropJobData.applyStep1.dropStaged).toUncast).raise CST_ERR_LOAD_FAIL
  (s.fault .cast 1 0 mCast).switchHeld

/-- Whether every Hall that the staged Casting places is On (R65). -/
def State.hallsReady (s : State) : Bool := (s.hallsOf s.cst.staged).all s.domOn

/-- APPLYING begins, or is refused by the second re-check (R62). -/
def State.beginApply (s : State) : State :=
  match s.recheck s.cst.staged with
  | some (c, d) =>
    let op := s.commitOp
    let dig := imgDigest s.cst.staged
    let s := if s.nodeState = stUncast then s else s.toUncast
    (s.refuseCast c d op dig).dropStaged
  | none =>
    let n := s.cst.spend.length
    (s.jobEnds.toNodeState stApplying n).wakeHalls s.cst.staged

end Sys2Proof.Machine
end

