-- ==== Sys2Proof/Machine/Faults.lean ====
section
/-! DEFINITION. The fault collector, its reactions, ERR_N and fault injection (18). -/

namespace Sys2Proof.Machine

/-! ### Quenches -/

/-- Every logical Bench that is not in state error becomes quenched (R215). -/
def State.quenchBenches (s : State) : State :=
  (List.range s.benchN).foldl (fun s l =>
    let b := s.bench l
    if b.st = .error then s else s.setBench l { b with st := .quenched }) s

/-- Every Temper step stops with the status QUENCHED, code 6 (R263). -/
def State.temperQuench (s : State) : State := s.temper.steps.foldl (fun s x => s.temperStop x.stage 6) s

/-- Quench-job (R521); nothing while no Casting is in force or the job is already quenched. -/
def State.quenchJob (s : State) (cls : FClass) (code : Nat) : State :=
  if s.inForce && !s.quenched then
    let s := (s.wrBit CST_STATE_QUENCHED true).wr64 TG_NEXT_LO noSeam
    let s := (((s.quenchBenches.collQuench).temperQuench).stockQuench).stopLists
    let s := { s with tg := { s.tg with gates := [] }, flt := { s.flt with quenchBy := some (cls, code) } }
    s.msix 2
  else s

/-- Quench-node (R522): quench-job, every port held down with cause HOST, and NODEQ and HOLD; an apply in progress stops (R77). -/
def State.quenchNode (s : State) (cls : FClass) (code : Nat) : State :=
  let s := if s.nodeState = stApplying then s.applyStopped else s
  let s := (s.quenchJob cls code).wrBit FLT_STAT_NODEQ true
  let s := allPorts.foldl (fun s k =>
    (if s.rd (LK_STAT_STATE k) = 0 then s else s.portDown k 1).wrBit (LK_STAT_HELD k) true) s
  s.wrBit FLT_CTRL_HOLD true

/-! ### ERR_N -/

/-- A qualifying fault is recorded (R523). -/
def State.errnFault (s : State) : State :=
  let n := match s.flt.errn with
    | .idle => .pulse s.now
    | .pulse _ => .pulse s.now
    | .gap since _ => .gap since true
  { s with flt := { s.flt with errn := n } }

/-- ERRN_PULSE_END: at least 1.0 µs after the last qualifying fault's record (R523). -/
def State.errnPulseEnd (s : State) : State :=
  match s.flt.errn with
  | .pulse since => if since + 1600 ≤ s.now then { s with flt := { s.flt with errn := .gap s.now false } } else s
  | _ => s

/-- ERRN_PULSE_END (R523). -/
def execErrnPulseEnd (t : Nat) (s : State) : Host.Outcome State Fault Refusal := .next (s.at t).errnPulseEnd

/-- ERRN_GAP_END: a fault recorded in the gap pulses now (R523). -/
def State.errnGapEnd (s : State) : State :=
  match s.flt.errn with
  | .gap since again =>
    if since + 1600 ≤ s.now then { s with flt := { s.flt with errn := if again then .pulse s.now else .idle } } else s
  | _ => s

/-- ERRN_GAP_END (R523). -/
def execErrnGapEnd (t : Nat) (s : State) : Host.Outcome State Fault Refusal := .next (s.at t).errnGapEnd

/-! ### The collector -/

/-- Whether report `x` is taken before `y` (R515): an earlier flag tick, then a lower class, master kind and index. -/
def reportBefore (x y : Report) : Bool :=
  decide (x.tick < y.tick) || (x.tick == y.tick &&
    (decide (x.cls.code < y.cls.code) || (x.cls == y.cls &&
      (decide (x.master.kind < y.master.kind) || (x.master.kind == y.master.kind && decide (x.master.idx < y.master.idx))))))

/-- The report that the collector takes next. -/
def nextReport : List Report → Option Report
  | [] => none
  | r :: rs => match nextReport rs with
    | none => some r
    | some q => if reportBefore q r then some q else some r

/-- Whether a report merges into a fault recorded within 256 ticks (R514). -/
def State.merges (s : State) (r : Report) : Bool :=
  s.flt.recent.any (fun e => e.cls == r.cls && e.code == r.code && e.addr == r.addr && decide (s.now ≤ e.tick + 256))

/-- The level at which a fault is recorded (R518). -/
def State.escalated (s : State) (r : Report) : Bool :=
  (r.level == 1 || r.level == 2) && !r.conseq && s.rd FLT_PEND_PEND / 2 ^ r.cls.code % 2 == 1

/-- A class becomes pending at a level (R517). -/
def State.setPend (s : State) (c level : Nat) : State :=
  let s := s.raiseBits FLT_PEND_PEND.addr (BitVec.ofNat 32 (2 ^ c))
  let lvl := s.rd FLT_PLVL_PLVL
  let cur := lvl / 4 ^ c % 4
  s.wr FLT_PLVL_PLVL (lvl - cur * 4 ^ c + max cur level * 4 ^ c)

/-- The first-error capture of a class (R516). -/
def State.capture (s : State) (r : Report) (level : Nat) (esc : Bool) : State :=
  let c := r.cls.code
  if s.bit (FLT_CAP_INFO_VALID c) then s
  else
    let s := s.wr (FLT_CAP_INFO_MASTER c) r.master.code
    let s := s.wr (FLT_CAP_INFO_TYPE c) r.acc
    let s := s.wr (FLT_CAP_INFO_LEVEL c) level
    let s := s.wrBit (FLT_CAP_INFO_ESC c) esc
    let s := s.wrBit (FLT_CAP_INFO_INJ c) r.inj
    let s := s.wr (FLT_CAP_INFO_CODE c) r.code
    let s := s.raise (FLT_CAP_INFO_VALID c)
    let s := s.wr64 (FLT_CAP_ADDR_LO c) r.addr
    s.wr64 (FLT_CAP_TICK_LO c) r.tick

/-- The FAULT record (R513, R553). -/
def State.faultHall (s : State) (r : Report) (level : Nat) (esc : Bool) : State :=
  s.hallKey 0 0xA ((if r.inj then 1 else 0) + (if esc then 2 else 0))
    ([BitVec.ofNat 8 r.cls.code, BitVec.ofNat 8 level, BitVec.ofNat 8 r.code, BitVec.ofNat 8 r.acc] ++
      leBytes 2 r.master.code ++ [0, 0] ++ leBytes 8 r.addr ++ leBytes 8 r.tick)

/-- The reactions of a level (R512, R521 to R524). -/
def State.react (s : State) (r : Report) (level : Nat) : State :=
  let s := if s.rd FLT_CTRL_ERRN_LVL ≤ level then s.errnFault else s
  let s := if s.rd FLT_CTRL_IRQ_LVL ≤ level ∧ s.rd FLT_IEN_IEN / 2 ^ r.cls.code % 2 = 1 then s.msix 0 else s
  if level = 2 then s.quenchJob r.cls r.code
  else if 3 ≤ level then s.quenchNode r.cls r.code
  else s

/-- A fault is recorded (R513 to R519). -/
def State.record (s : State) (r : Report) : State :=
  let c := r.cls.code
  let s := s.inc (FLT_CNT c)
  if s.merges r then s.inc FLT_MERGED
  else
    let old := s.flt.recent.filter (fun e => decide (s.now ≤ e.tick + 256))
    let s := { s with flt := { s.flt with recent := ⟨r.cls, r.code, r.addr, s.now⟩ :: old } }
    let esc := s.escalated r
    let level : Nat := if esc then r.level + 1 else r.level
    let s := if esc then s.inc FLT_ESC else s
    let s := if 1 ≤ level then s.setPend c level else s
    let s := (s.wr FLT_STAT_LCLASS c).wr FLT_STAT_LLEVEL level
    let s := s.capture r level esc
    (s.faultHall r level esc).react r level

/-- The collector takes the next report; `ext` is one that a checker with no row of its own flags now (R513; log 1). -/
def State.collect (s : State) (ext : Option Report) : State :=
  let s := match ext with | some r => s.flag { r with tick := s.now } | none => s
  match nextReport s.flt.reports with
  | none => s
  | some r => { s with flt := { s.flt with reports := s.flt.reports.erase r } }.record r

/-- FAULT_REPORT (R513). -/
def execFaultReport (t : Nat) (ext : Option Report) (s : State) : Host.Outcome State Fault Refusal := .next ((s.at t).collect ext)

/-- FLT_PEND is written (R520): classes recorded in the same instant stay pending (R10). -/
def State.faultAck (s : State) (mask : Nat) : State :=
  let keep (c : Nat) : Bool := (s.setNow FLT_PEND_PEND.addr).toNat / 2 ^ c % 2 == 1
  (List.range 9).foldl (fun s c =>
    if mask / 2 ^ c % 2 = 1 ∧ keep c = false then
      let pend := s.rd FLT_PEND_PEND
      let lvl := s.rd FLT_PLVL_PLVL
      let s := s.wr FLT_PEND_PEND (pend - pend / 2 ^ c % 2 * 2 ^ c)
      s.wr FLT_PLVL_PLVL (lvl - lvl / 4 ^ c % 4 * 4 ^ c)
    else s) s

/-- FAULT_ACK (R520). -/
def execFaultAck (t mask : Nat) (s : State) : Host.Outcome State Fault Refusal := .next ((s.at t).faultAck mask)

/-- VALID of a capture is written with 1 (R516, R539): re-armed, unless it was taken in the same instant (R10). -/
def State.captureRearm (s : State) (c : Nat) : State :=
  if 9 ≤ c ∨ s.setNow (FLT_CAP_INFO_VALID c).addr ≠ 0 then s else s.wrBit (FLT_CAP_INFO_VALID c) false

/-- CAPTURE_REARM (R516). -/
def execCaptureRearm (t c : Nat) (s : State) : Host.Outcome State Fault Refusal := .next ((s.at t).captureRearm c)

/-! ### Injection -/

/-- The INJECT record (R529, R553). -/
def State.injectHall (s : State) (off : Bool) : State :=
  s.hall 0x17 ([if off then 1 else 0, 0, 0, 0] ++ leBytes 4 (s.word FLT_INJ_KIND.addr).toNat)

/-- ARM (R529): COUNT 0 acts as 1. -/
def State.arm (s : State) : State :=
  ((s.wr FLT_INJ_LEFT_LEFT (max 1 (s.rd FLT_INJ_COUNT))).wrBit FLT_INJ_LEFT_ARMED true).injectHall false

/-- ARM (R529). -/
def execArm (t : Nat) (s : State) : Host.Outcome State Fault Refusal := .next (s.at t).arm

/-- An injection ends (R529). -/
def State.endInjection (s : State) : State := (s.wr FLT_INJ_LEFT_LEFT 0).wrBit FLT_INJ_LEFT_ARMED false

/-- DISARM (R529). -/
def State.disarm (s : State) : State := s.endInjection.injectHall true

/-- DISARM (R529). -/
def execDisarm (t : Nat) (s : State) : Host.Outcome State Fault Refusal := .next (s.at t).disarm

end Sys2Proof.Machine
end

