-- ==== Sys2Proof/Machine/Casting.lean ====
section
/-! DEFINITION. The commands of CST_CMD and the steps of a load, a commit and a drain (02). -/

namespace Sys2Proof.Machine

/-- A load is in FETCH, SIGN or CHECK (R52). -/
def State.loading (s : State) : Bool := s.phase? == phFetch || s.phase? == phSign || s.phase? == phCheck

/-- The host port over which a command's load fetches (R59). -/
def fetchPort (p : Path) : Path := match p with | .hp1 => .hp1 | _ => .hp0

/-- A LOAD, or a LOAD_COMMIT (R54, R59, R522). -/
def State.loadCmd (s : State) (p : Path) (commit : Bool) : State :=
  let op := if commit then 3 else 1
  if s.nodeQuenched || s.bound then s.refuseCast ceState 0 op []
  else if s.loading then s.refuseCast ceBusy 0 op []
  else
    let s := if s.phase? = phStaged then s.dropStaged else s
    let src := s.rd64 CST_SRC_LO / 4096 * 4096
    let s := { s with cst := { s.cst with staged := [], src := src, len := s.rd CST_LEN, port := fetchPort p, autoCommit := commit } }
    s.setPhase phFetch

/-- LOAD (R60). -/
def execLoad (t : Nat) (p : Path) (s : State) : Host.Outcome State Fault Refusal := .next ((s.at t).cmd none (fun s => s.loadCmd p false))

/-- LOAD_COMMIT (R55). -/
def execLoadCommit (t : Nat) (p : Path) (s : State) : Host.Outcome State Fault Refusal := .next ((s.at t).cmd none (fun s => s.loadCmd p true))

/-- The staged Casting is bound (R62). -/
def State.bind (s : State) : State := (s.wrBit CST_STATE_COMMIT true).msix 2

/-- COMMIT (R62, R76, R522). -/
def State.commitCmd (s : State) : State :=
  let dig := if s.phase? = phStaged then imgDigest s.cst.staged else []
  if s.nodeQuenched || s.bound then s.refuseCast ceState 0 2 dig
  else if s.phase? ≠ phStaged then s.refuseCast ceNostage 0 2 []
  else if s.nodeState = stUncast ∨ s.nodeState = stCast then s.bind
  else s.refuseCast ceState 0 2 dig

def execCommit (t : Nat) (s : State) : Host.Outcome State Fault Refusal := .next ((s.at t).cmd none (fun s => s.commitCmd))

/-- DISCARD (R55, R62, R76). -/
def State.discardCmd (s : State) (p : Path) : State :=
  if s.bound then s.cmdRefused ceState p.master
  else if s.phase? ≠ phStaged then s.cmdRefused ceNostage p.master
  else s.dropStaged

def execDiscard (t : Nat) (p : Path) (s : State) : Host.Outcome State Fault Refusal := .next ((s.at t).cmd none (fun s => s.discardCmd p))

/-- The node begins to drain (R63). -/
def State.startDrain (s : State) (toApply : Bool) : State :=
  let s := s.wrBit CST_STATE_DRAIN_TO toApply
  let s := { s with cst := { s.cst with drainStart := s.now, seamDone := false } }
  s.toNodeState stDraining 0

/-- UNCAST (R63). A cancelled commit leaves PHASE at STAGED, as R63 says of the Casting, where R62 says that PHASE returns to IDLE
(DESIGN CHOICE, log 74). -/
def State.uncastCmd (s : State) (p : Path) : State :=
  if s.nodeState = stApplying then s.cmdRefused ceState p.master
  else
    let cancel := s.bound
    let s := if cancel then
        ({ s.wrBit CST_STATE_COMMIT false with cst := { s.cst with autoCommit := false } }).msix 2
      else s
    if s.nodeState = stCast then s.startDrain false
    else if s.nodeState = stDraining ∧ cancel = true then s.wrBit CST_STATE_DRAIN_TO false
    else s

def execUncast (t : Nat) (p : Path) (s : State) : Host.Outcome State Fault Refusal := .next ((s.at t).cmd none (fun s => s.uncastCmd p))

/-- ABORT (R66). -/
def State.abortCmd (s : State) (p : Path) : State :=
  if s.nodeState ≠ stApplying ∧ s.loading = true then s.dropStaged else s.cmdRefused ceState p.master

def execAbort (t : Nat) (p : Path) (s : State) : Host.Outcome State Fault Refusal := .next ((s.at t).cmd none (fun s => s.abortCmd p))

/-- CST_OP_RESERVED: OP 7 to 15 (R76). -/
def execCstOpReserved (t : Nat) (p : Path) (op : Nat) (s : State) : Host.Outcome State Fault Refusal :=
  .next ((s.at t).cmd none (fun s => if 7 ≤ op ∧ op ≤ 15 then s.cmdRefused ceState p.master else s))

/-! ### The steps of a load -/

/-- FETCH_FIRST_PAGE: MAGIC and FORMAT, then LENGTH (R60, R631). -/
def State.firstPage (s : State) (page : List Byte) : State :=
  if s.phase? = phFetch ∧ s.cst.staged = [] ∧ s.repairing stagingArea.1 = false then
    let page := slice page 0 4096
    let n := leAt page 8 8
    if leAt page 0 4 ≠ 0x53435A54 ∨ leAt page 4 2 ≠ 1 then s.loadFails 3 0 []
    else if n ≠ s.cst.len ∨ n % 4096 ≠ 0 ∨ n < 12288 ∨ 134217728 < n then s.loadFails 4 0 []
    else { s with cst := { s.cst with staged := page } }
  else s

def execFetchFirstPage (t : Nat) (page : List Byte) (s : State) : Host.Outcome State Fault Refusal :=
  .next ((s.at t).firstPage page)

/-- FETCH_READ_FAIL: a host read failed; the kind is DETAIL 1 to 3 (R57, R60). -/
def State.fetchFail (s : State) (kind : Nat) : State := if s.phase? = phFetch then s.loadFails 5 kind [] else s

def execFetchReadFail (t kind : Nat) (s : State) : Host.Outcome State Fault Refusal := .next ((s.at t).fetchFail kind)

/-- FETCH_DONE: the rest of the image is in the staging area, and the digest is ready; SMAGIC and bytes 6 and 7 of the signature page
are checked (R40, R49, R60, R631). -/
def State.fetchDone (s : State) (rest : List Byte) : State :=
  if s.phase? = phFetch ∧ s.cst.staged.length = 4096 ∧ s.repairing stagingArea.1 = false then
    let img := s.cst.staged ++ slice rest 0 (s.cst.len - 4096)
    let sig := img.drop (img.length - 4096)
    let s := { s with cst := { s.cst with staged := img } }
    if leAt sig 0 4 ≠ 0x47535A54 ∨ leAt sig 6 2 ≠ 0 then s.loadFails 3 0 (imgDigest img)
    else s.setPhase phSign
  else s

def execFetchDone (t : Nat) (rest : List Byte) (s : State) : Host.Outcome State Fault Refusal := .next ((s.at t).fetchDone rest)

/-- The public key of slot i in a key block: x and y, big-endian (R542). -/
def slotKey (kb : List Byte) (i : Nat) : Nat × Nat := 
  (ofBeBytes (slice kb (32 + 112 * i) 48), ofBeBytes (slice kb (80 + 112 * i) 48))

/-- The state of a signing-key slot: 1 when enrolled (R542). -/
def State.slotState (s : State) (i : Nat) : Nat := s.rd SEC_SLOTS / 4 ^ i % 4

/-- SIGN_DONE (R50): SIGKEY where the slot holds no enrolled key, SIGNATURE where the signature does not verify. -/
def State.signDone (s : State) : State :=
  if s.phase? = phSign then
    let img := s.cst.staged
    let dig := imgDigest img
    let slot := imgKeySlot img
    let sig := img.drop (img.length - 4096)
    if 15 < slot ∨ s.slotState slot ≠ 1 then s.loadFails 6 0 dig
    else if ecdsaVerify (slotKey s.sec.keyBlock slot) dig (ofBeBytes (slice sig 8 48)) (ofBeBytes (slice sig 56 48)) then s.setPhase phCheck
    else s.loadFails 7 0 dig
  else s

def execSignDone (t : Nat) (s : State) : Host.Outcome State Fault Refusal := .next (s.at t).signDone

/-- CHECK_DONE (R60, R631): the first failure refuses the load; otherwise the Casting is STAGED, and a LOAD_COMMIT commits it. -/
def State.checkDone (s : State) : State :=
  if s.phase? = phCheck then
    let img := s.cst.staged
    match s.checkImage img with
    | some (c, d) => s.loadFails c d (imgDigest img)
    | none =>
      let s := (s.wrBytes CST_STAGED_DIGEST (imgDigest img)).setPhase phStaged
      if s.cst.autoCommit then
        if s.nodeState = stUncast ∨ s.nodeState = stCast then s.bind
        else ({ s with cst := { s.cst with autoCommit := false } }).refuseCast ceState 0 3 (imgDigest img)
      else s
  else s

def execCheckDone (t : Nat) (s : State) : Host.Outcome State Fault Refusal := .next (s.at t).checkDone

/-- COMMIT_RECHECK_DONE (R62, R63): refused, or on to APPLYING or DRAINING. -/
def State.recheckDone (s : State) : State :=
  if s.bound && (s.nodeState == stUncast || s.nodeState == stCast) then
    match s.recheck s.cst.staged with
    | some (c, d) =>
      let op := s.commitOp
      let dig := imgDigest s.cst.staged
      (s.refuseCast c d op dig).dropStaged
    | none => if s.nodeState = stUncast then s.beginApply else s.startDrain true
  else s

def execCommitRecheckDone (t : Nat) (s : State) : Host.Outcome State Fault Refusal := .next (s.at t).recheckDone

/-! ### The drain -/

/-- The current epoch has run to its seam, or none is to come (R63, R101): the seam is done, the node is in the final epoch, the first
epoch never began, or the job is held. -/
def State.epochOver (s : State) : Bool :=
  s.cst.seamDone || !s.bit TG_STATUS_STARTED || s.bit DET_STAT_HELD || s.rd64 TG_NEXT_LO == noSeam

/-- No Bench has work (R63): each is idle, drained or at its SEAM bundle, with nothing of it in flight past that. -/
def State.benchesIdle (s : State) : Bool :=
  (List.range s.benchN).all (fun l =>
    let b := s.bench l
    match b.st with
    | .idle | .drained => b.flight.isEmpty
    | .running | .waiting | .foldedOut => b.atSeam || !s.bit TG_STATUS_STARTED
    | _ => false)

/-- Every data-class window is acknowledged and every queue of the job is empty (R63, R342). -/
def State.queuesEmpty (s : State) : Bool :=
  s.fab.txs.all (fun x => x.held.isEmpty) && s.fab.mqs.all (fun m => decide (4 ≤ m.flit.vc)) &&
  s.fab.ports.all (fun e => (e.2.queues.take 4).all (fun q => q.isEmpty)) && s.fab.collIn.isEmpty && s.fab.stockIn.isEmpty &&
  s.stock.lookups.isEmpty

/-- The drain is complete (R63, R101). -/
def State.drained (s : State) : Bool :=
  s.quenched || (s.epochOver && s.queuesEmpty && s.benchesIdle && s.tg.gates.isEmpty &&
    (!s.bit TG_STATUS_STARTED || s.cst.seamDone || (!s.collPending && !s.temperPending && !s.stockPending)))

/-- The transition at the end of a drain (R63). -/
def State.endDrain (s : State) : State := if s.bit CST_STATE_DRAIN_TO then s.beginApply else s.toUncast

/-- DRAIN_DONE (R63, R64). -/
def State.drainDone (s : State) : State := if s.nodeState = stDraining ∧ s.drained = true then s.endDrain else s

def execDrainDone (t : Nat) (s : State) : Host.Outcome State Fault Refusal := .next (s.at t).drainDone

/-- The drain limit in ticks (R58). -/
def State.drainLimit (s : State) : Nat := 1600 * max 1 (s.rd CST_DRAIN_LIMIT)

/-- DRAIN_LIMIT_EXPIRY (R64): the job is quenched with a CAST fault, and the transition completes. -/
def State.drainExpiry (s : State) : State :=
  if s.nodeState = stDraining ∧ s.cst.drainStart + s.drainLimit ≤ s.now then
    ((s.fault .cast 2 0 mCast).quenchJob .cast 0).endDrain
  else s

def execDrainLimitExpiry (t : Nat) (s : State) : Host.Outcome State Fault Refusal := .next (s.at t).drainExpiry

end Sys2Proof.Machine
end

