-- ==== Sys2Proof/Machine/Security.lean ====
section
/-! DEFINITION. Keys, attestation, guild windows, the clear, and the hallmark chain (19). -/

namespace Sys2Proof.Machine

/-! ### Key blocks -/

/-- The reserved bytes of a key block are 0 (R542). -/
def kbReserved (kb : List Byte) : Bool :=
  leAt kb 6 2 == 0 && leAt kb 12 4 == 0 && leAt kb 1904 2096 == 0 &&
  (List.range 16).all (fun i => leAt kb (17 + 112 * i) 15 == 0)

/-- KB_VER (R542). -/
def kbVer (kb : List Byte) : Nat := leAt kb 8 4

/-- The digest of the OWNER key of a block (R540). -/
def kbOwner (kb : List Byte) : List Byte := sha384 (slice kb 1808 96)

/-- Whether a key block's signature verifies under its own OWNER (R543). -/
def kbSigned (kb : List Byte) : Bool :=
  ecdsaVerify (ofBeBytes (slice kb 1808 48), ofBeBytes (slice kb 1856 48)) (sha384 (slice kb 0 4000))
    (ofBeBytes (slice kb 4000 48)) (ofBeBytes (slice kb 4048 48))

/-- The code of the first condition of R543 that a block breaks, in the order of the codes; an OWN takes the block's own OWNER
(R544). -/
def State.kbFault (s : State) (own : Bool) (kb : List Byte) : Option Nat :=
  if leAt kb 0 4 ≠ 0x424B5A54 ∨ leAt kb 4 2 ≠ 1 ∨ kbReserved kb = false then some 3
  else if kbSigned kb = false then some 4
  else if own = false ∧ kbOwner kb ≠ s.sec.ownerDig then some 5
  else if kbVer kb < s.rd SEC_STAT_KBMIN ∨ kbVer kb = 0 ∨ 255 < kbVer kb then some 6
  else none

/-- The slot states of a key block as SEC_SLOTS codes them (R561). -/
def kbSlots (kb : List Byte) : Nat :=
  ((List.range 16).map (fun i => leAt kb (16 + 112 * i) 1 % 4 * 4 ^ i)).sum

/-- A key block is in force, or none is (R543, R544, R561). -/
def State.setKeyBlock (s : State) (kb : Option (List Byte)) : State :=
  let b := kb.getD []
  let s := { s with sec := { s.sec with keyBlock := b } }
  let s := (s.wrBit SEC_STAT_KBOK kb.isSome).wr SEC_STAT_KBVER (if kb.isSome then kbVer b else 0)
  let s := s.wr SEC_SLOTS (if kb.isSome then kbSlots b else 0)
  s.wrBytes SEC_KBDIG (if kb.isSome then sha384 b else List.replicate 48 0)

/-! ### Key commands -/

/-- Whether a key command or an attestation runs: SEC_KEYSTAT.BUSY (R561). -/
def State.keyBusy (s : State) : State := s.wrBit SEC_KEYSTAT_BUSY (s.sec.keyCmd.isSome || s.sec.attest)

/-- A key command is refused, or fails: ERR and CODE (R561), and a completion interrupt (R563). -/
def State.keyFails (s : State) (code : Nat) : State := ((s.raise SEC_KEYSTAT_ERR).wr SEC_KEYSTAT_CODE code).msix 2

/-- A key command completes (R561, R563). -/
def State.keyDone (s : State) : State := (s.raise SEC_KEYSTAT_DONE).msix 2

/-- A key command starts: SEC_KEYSRC is latched (R544). -/
def State.keyStart (s : State) (op : Nat) (p : Path) : State :=
  let c : KeyCmd := ⟨op, fetchPort p, s.rd64 SEC_KEYSRC_LO / 4096 * 4096⟩
  ({ s with sec := { s.sec with keyCmd := some c } }).keyBusy

/-- OWN (R544): the lowest code of the conditions that fail. -/
def State.ownCmd (s : State) (p : Path) : State :=
  if s.nodeState ≠ stUncast ∨ s.bit SEC_STAT_OWNED = true then s.keyFails 1
  else if s.sec.keyCmd.isSome then s.keyFails 2
  else if p ≠ .bc then s.keyFails 9
  else s.keyStart 1 .hp0

/-- OWN (R544, R567). -/
def execOwn (t : Nat) (p : Path) (s : State) : Host.Outcome State Fault Refusal := .next ((s.at t).ownCmd p)

/-- INSTALL and RAISE (R544, R545). -/
def State.installCmd (s : State) (p : Path) (op : Nat) : State :=
  if s.bit SEC_STAT_OWNED = false then s.keyFails 1
  else if s.sec.keyCmd.isSome || s.phase? == phSign then s.keyFails 2
  else s.keyStart op p

/-- INSTALL (R544). -/
def execInstall (t : Nat) (p : Path) (s : State) : Host.Outcome State Fault Refusal := .next ((s.at t).installCmd p 2)

/-- RAISE (R544). -/
def execRaise (t : Nat) (p : Path) (s : State) : Host.Outcome State Fault Refusal := .next ((s.at t).installCmd p 3)

/-- ATTEST latches the head, the count and the tick (R559). -/
def State.attestCmd (s : State) : State :=
  if s.sec.attest then s.keyFails 2
  else
    let s := (s.wrBytes SEC_ATT_DIG (s.rdBytes SEC_HEAD 8)).wr64 SEC_ATT_CNT_LO (s.rd64 SEC_HEADCNT_LO)
    let s := s.wr64 SEC_ATT_TICK_LO s.now
    ({ s with sec := { s.sec with attest := true } }).keyBusy

/-- ATTEST (R559). -/
def execAttest (t : Nat) (s : State) : Host.Outcome State Fault Refusal := .next (s.at t).attestCmd

/-- KEY_CMD_RESERVED: OP 5 to 15 (R561). -/
def execKeyCmdReserved (t op : Nat) (s : State) : Host.Outcome State Fault Refusal :=
  if 5 ≤ op ∧ op ≤ 15 then .next ((s.at t).keyFails 1) else .next (s.at t)

/-- The staged Casting whose slot is no longer enrolled is discarded under R76 (R545); a drain toward its apply ends UNCAST. -/
def State.revokeStaged (s : State) : State :=
  if s.phase? = phStaged ∧ s.nodeState ≠ stApplying ∧ s.slotState (imgKeySlot s.cst.staged) ≠ 1 then
    let op := s.commitOp
    (((s.refuseCast 6 0 op (imgDigest s.cst.staged)).dropStaged).wrBit CST_STATE_DRAIN_TO false)
  else s

/-- Bytes are written into the boot flash (R569). -/
def State.flashWrite (s : State) (a : Nat) (bs : List Byte) : State :=
  { s with mgt := { s.mgt with flash := Sparse.setList (fun _ => 0xFF) s.mgt.flash a bs } }

/-- A valid block takes effect: flash, fuses, slots, hallmark, and the staged Casting (R544, R545, R553). -/
def State.installBlock (s : State) (op : Nat) (kb : List Byte) : State :=
  let s := (s.flashWrite 0x1000 kb).setKeyBlock (some kb)
  let s := if op = 1 then
      ({ s with sec := { s.sec with ownerDig := kbOwner kb } }).wrBit SEC_STAT_OWNED true
    else if op = 3 then s.wr SEC_STAT_KBMIN (kbVer kb) else s
  let s := s.hall 2 ([BitVec.ofNat 8 op, 0] ++ leBytes 4 (s.rd SEC_SLOTS) ++ leBytes 2 (kbVer kb) ++ sha384 kb)
  if op = 1 then s else s.revokeStaged

/-- KEY_CMD_COMPLETE (R544): the block as fetched, none where the host read failed, and whether the flash took it. -/
def State.keyComplete (s : State) (block : Option (List Byte)) (flashOk : Bool) : State :=
  match s.sec.keyCmd with
  | none => s
  | some c =>
    let s := ({ s with sec := { s.sec with keyCmd := none } }).keyBusy
    match block with
    | none => s.keyFails 7
    | some b =>
      let kb := slice b 0 4096
      match s.kbFault (c.op == 1) kb with
      | some code => s.keyFails code
      | none => if flashOk then (s.installBlock c.op kb).keyDone else s.keyFails 8

/-- KEY_CMD_COMPLETE (R544). -/
def execKeyCmdComplete (t : Nat) (block : Option (List Byte)) (flashOk : Bool) (s : State) : Host.Outcome State Fault Refusal :=
  .next ((s.at t).keyComplete block flashOk)

/-- The message that an attestation signs (R559). -/
def State.attestMsg (s : State) : List Byte :=
  [0x54, 0x5A, 0x41, 0x54] ++ s.rdBytes SEC_ATT_DIG 8 ++ leBytes 8 (s.rd64 SEC_ATT_CNT_LO) ++ leBytes 8 (s.rd64 SEC_ATT_TICK_LO) ++
    s.rdBytes SEC_NONCE 4

/-- ATTEST_COMPLETE: r and s in SEC_ATT_SIG (R559); their value is free (log 3). -/
def State.attestComplete (s : State) : State :=
  if s.sec.attest then
    let dig := sha384 s.attestMsg
    let f := s.free
    let s := (List.range 24).foldl (fun s i => s.wr (SEC_ATT_SIG i) (Config.deviceSign dig f i % 2 ^ 32)) s
    (({ s.freeNext with sec := { s.sec with attest := false } }).keyBusy).keyDone
  else s

/-- ATTEST_COMPLETE (R559). -/
def execAttestComplete (t : Nat) (s : State) : Host.Outcome State Fault Refusal := .next (s.at t).attestComplete

/-! ### Guild refusals and the clear -/

/-- DENY_WINDOW_END (R550). -/
def execDenyWindowEnd (t : Nat) (s : State) : Host.Outcome State Fault Refusal := .next (s.at t).denyEnd

/-- The guild master of a host path (R546). -/
def pathMaster (p : Path) : GMaster := match p with | .hp0 => ⟨4, 0⟩ | .hp1 => ⟨4, 1⟩ | _ => ⟨5, 0⟩

/-- A host or board-controller span is refused (R550): the refusal, and a SEC fault at level alert. -/
def State.hostDeny (s : State) (p : Path) (acc : GAcc) (a n ty : Nat) : State :=
  (s.deny (pathMaster p) acc a n).fault .sec 1 0 p.master ty

/-- GO of SEC_CLR_CMD (R551, R69). -/
def State.clearGo (s : State) (p : Path) : State :=
  if s.bit SEC_CLR_CMD_BUSY then s.ruleRefused p.master
  else
    let a := s.rd64 SEC_CLR_BASE_LO / 256 * 256
    let n := s.rd SEC_CLR_LEN
    if s.granted (pathMaster p) .f a (256 * n) then
      ({ s with sec := { s.sec with clear := some (a, n) } }).wrBit SEC_CLR_CMD_BUSY true
    else (s.hostDeny p .f a (256 * n) 7).raise SEC_CLR_CMD_DENIED

/-- CLEAR_GO (R551). -/
def execClearGo (t : Nat) (p : Path) (s : State) : Host.Outcome State Fault Refusal := .next ((s.at t).clearGo p)

/-- A span becomes zeros with valid check symbols (R551, R456), word by word where an armed injection may meet them (R480, R528). -/
def State.clearSpan (s : State) (m : Master) (a n : Nat) : State :=
  let s := (s.newChecks a n).setBytes a (List.replicate n 0)
  let s := { s with errs := s.errs.filter (fun e => !decide (a ≤ e.1 ∧ e.1 < a + n)) }
  (wordsOf a n).foldl (fun s w => (s.groupAccess m w).injectWord w) s

/-- CLEAR_COMPLETE (R551, R553, R563). -/
def State.clearDone (s : State) : State :=
  match s.sec.clear with
  | none => s
  | some (a, n) =>
    if s.repairing a || s.repairing (a + 256 * n - 1) then s else
    let s := ({ s with sec := { s.sec with clear := none } }).clearSpan (mHost 0) a (256 * n)
    let s := s.hall 0x19 ([BitVec.ofNat 8 ((targetOf a).getD 0xFF), 0, 0, 0] ++ leBytes 4 n ++ leBytes 8 a)
    ((s.wrBit SEC_CLR_CMD_BUSY false).raise SEC_CLR_CMD_DONE).msix 2

/-- CLEAR_COMPLETE (R551). -/
def execClearComplete (t : Nat) (s : State) : Host.Outcome State Fault Refusal := .next (s.at t).clearDone

/-! ### The chain -/

/-- The 64 bytes of a record (R552). -/
def recBytes (prev : List Byte) (r : HRec) : List Byte :=
  prev ++ leBytes 8 r.tick ++ leBytes 2 r.ty ++ [BitVec.ofNat 8 r.cont, BitVec.ofNat 8 r.flags] ++ slice (r.body ++ List.replicate 20 0) 0 20

/-- Records the export queue holds (R556). -/
def queueMax : Nat := 16384

/-- A record enters the chain (R552, R555); the answer is its bytes. -/
def State.chainRec (s : State) (r : HRec) : List Byte × State :=
  let b := recBytes (s.rdBytes SEC_HEAD 8) r
  let s := (s.wrBytes SEC_HEAD (sha256 b)).wr64 SEC_HEADCNT_LO (s.rd64 SEC_HEADCNT_LO + 1)
  (b, { s with sec := { s.sec with lastCommit := some s.now } })

/-- A record is kept for export; the 16,128th raises a SEC fault at level quench-job (R557). -/
def State.keepRec (s : State) (b : List Byte) : State :=
  let s := { s with sec := { s.sec with queue := s.sec.queue ++ [b] } }
  if s.sec.queue.length = 16128 then s.fault .sec 2 0 mNone else s

/-- A record that cannot be kept is lost (R557). -/
def State.loseRec (s : State) (index : Nat) : State :=
  let l := match s.sec.lost with | some (i, n) => (i, n + 1) | none => (index, 1)
  ({ s with sec := { s.sec with lost := some l } }).raise SEC_STAT_LOSS

/-- The record that waits first, and the events without it. -/
def nextRec : List HGroup → Option (HRec × List HGroup)
  | [] => none
  | g :: gs => match g.recs with
    | [] => nextRec gs
    | r :: rs => some (r, if rs = [] then gs else { g with recs := rs } :: gs)

/-- The LOSS record (R553, R557); its TICK keeps the order of the chain (R554; log 33). -/
def State.lossRec (s : State) (i n : Nat) : HRec :=
  let tick := match nextRec s.sec.wait with | some (r, _) => min r.tick s.now | none => s.now
  ⟨tick, 0x1A, 0, 4, leBytes 8 i ++ leBytes 8 n⟩

/-- HALLMARK_COMMIT (R554): one record every 64 ticks; where records were lost and there is room again, and no event is in the
middle, the LOSS record goes first (R557). -/
def State.commitRec (s : State) : State :=
  let may := match s.sec.lastCommit with | some t => decide (t + 64 ≤ s.now) | none => true
  let room := decide (s.sec.queue.length < queueMax)
  if may = false then s
  else
    match s.sec.lost, nextRec s.sec.wait with
    | some (i, n), w =>
      let middle := match w with | some (r, _) => r.ty == 0 | none => false
      if room && !middle then
        let (b, s) := s.chainRec (s.lossRec i n)
        ({ s with sec := { s.sec with lost := none } }.inc SEC_QUEUE_LOSSES).keepRec b
      else match w with
        | none => s
        | some (r, rest) =>
          let idx := s.rd64 SEC_HEADCNT_LO
          let (_, s) := ({ s with sec := { s.sec with wait := rest } }).chainRec r
          s.loseRec idx
    | none, some (r, rest) =>
      let idx := s.rd64 SEC_HEADCNT_LO
      let (b, s) := ({ s with sec := { s.sec with wait := rest } }).chainRec r
      if room then s.keepRec b else s.loseRec idx
    | none, none => s

/-- HALLMARK_COMMIT (R554). -/
def execHallmarkCommit (t : Nat) (s : State) : Host.Outcome State Fault Refusal := .next (s.at t).commitRec

/-! ### Export -/

/-- The ring's size exponent, and that of the watermark (R562). -/
def State.ringSize (s : State) : Nat := min 24 (max 10 (s.rd SEC_EXPSIZE_SIZE))
def State.ringMark (s : State) : Nat := min s.ringSize (s.rd SEC_EXPCTL_WM)

/-- Unread records in the ring (R556). -/
def State.unread (s : State) : Nat := (s.rd64 SEC_EXPWR_LO + 2 ^ 64 - s.rd64 SEC_EXPRD_LO) % 2 ^ 64

/-- MSI-X vector 1 where the ring first holds 2^WM unread records since SEC_EXPRD changed (R556). -/
def State.exportMark (s : State) : State :=
  if s.bit SEC_EXPCTL_EN && !s.sec.marked && decide (2 ^ s.ringMark ≤ s.unread) then
    ({ s with sec := { s.sec with marked := true } }).out (.msix (s.rd SEC_EXPCTL_PORT) 1)
  else s

/-- SEC_EXPRD changes (R556). -/
def State.exportRead (s : State) : State := ({ s with sec := { s.sec with marked := false } }).exportMark

/-- HALLMARK_EXPORT (R556). -/
def State.exportRec (s : State) : State :=
  match s.sec.queue with
  | [] => s
  | b :: rest =>
    if s.bit SEC_EXPCTL_EN && decide (s.unread < 2 ^ s.ringSize) then
      let w := s.rd64 SEC_EXPWR_LO
      let s := s.out (.dma (s.rd SEC_EXPCTL_PORT) (s.rd64 SEC_EXPBASE_LO / 4096 * 4096 + 64 * (w % 2 ^ s.ringSize)) b)
      let s := { s with sec := { s.sec with queue := rest } }
      (s.wr64 SEC_EXPWR_LO (w + 1)).exportMark
    else s

/-- HALLMARK_EXPORT (R556). -/
def execHallmarkExport (t : Nat) (s : State) : Host.Outcome State Fault Refusal := .next (s.at t).exportRec

/-! ### The test port -/

/-- What an instruction of the IEEE 1149.1 test port acts as (20_management_monitors_reset, after R567's registers): boundary scan always, the
core wrappers' instructions while the node is unowned; on an owned node every other one acts as BYPASS. No row of the table shifts the port (log 81). -/
def State.tapActs (s : State) (i : TapInstr) : TapInstr :=
  match i with
  | .bypass | .idcode | .sample | .extest => i
  | .wrapper _ | .other _ => if s.bit SEC_STAT_OWNED then .bypass else i

end Sys2Proof.Machine
end

