-- ==== Sys2Proof/Machine/Mgmt.lean ====
section
/-! DEFINITION. Node memory through the host ports and the board controller (R564, R567), the boot flash (R583), port and Hall resets
(R579), MIL_HALL_DIS (R155), and the monitors with the throttle (R573 to R578). -/

namespace Sys2Proof.Machine

/-! ### BAR2 -/

/-- Whether a repair makes a span's access wait (R467). -/
def State.spanWaits (s : State) (a n : Nat) : Bool := s.repairing a || s.repairing (a + n - 1)

/-- The pieces of a span, cut at 256-byte cell boundaries: first address and bytes (R564). -/
def cellPieces (a n : Nat) : List (Nat × Nat) :=
  if n = 0 then []
  else (List.range ((a + n - 1) / 256 - a / 256 + 1)).map (fun i =>
    let lo := max a (256 * (a / 256 + i))
    (lo, min (a + n) (256 * (a / 256 + i + 1)) - lo))

/-- The path of a host port. -/
def hostPath (p : Nat) : Path := if p = 0 then .hp0 else .hp1

/-- The node memory address of a BAR2 offset (R564, R583). -/
def State.bar2Addr (s : State) (p off : Nat) : Nat := s.rd64 (MGT_APER_LO p) / 2 ^ 26 % 2 ^ 14 * 2 ^ 26 + off % 2 ^ 26

/-- One piece of a read (R564, R526): its bytes, none where it is refused or holds no data. -/
def State.hostReadPiece (s : State) (path : Path) (a n : Nat) : Option (List Byte) × State :=
  if s.granted (pathMaster path) .r a n then
    match s.memRead path.master a n with
    | (some bs, s) => (some bs, s)
    | (none, s) => (none, s.fault .mem 1 0 path.master 0 (s.badAddr a n))
  else (none, s.hostDeny path .r a n 0)

/-- The pieces of a read, in order; all of them give data or the access aborts. -/
def State.hostReadPieces (s : State) (path : Path) : List (Nat × Nat) → Option (List Byte) × State
  | [] => (some [], s)
  | (a, n) :: rest =>
    let (r, s) := s.hostReadPiece path a n
    let (q, s) := State.hostReadPieces s path rest
    (match r, q with | some x, some y => some (x ++ y) | _, _ => none, s)

/-- A host read of BAR2 (R564). -/
def State.bar2Read (s : State) (p off n : Nat) : State :=
  let a := s.bar2Addr p off
  let (r, s) := s.hostReadPieces (hostPath p) (cellPieces a n)
  match r with
  | some bs => s.out (.read (hostPath p) a (leAt bs 0 n))
  | none => s.out (.abort p)

/-- One piece of a host write (R564, R452); a write to an addressed Ingot cell counts in the input sum with the cell's bytes (R492), and
in the replay log where `room` says that it could take the entry (R503, R504). -/
def State.hostWritePiece (s : State) (p : Nat) (a : Nat) (bs : List Byte) (room : Bool) : State :=
  let path := hostPath p
  if s.granted (pathMaster path) .w a bs.length then
    match s.memWrite path.master a bs with
    | (true, s) =>
      if ingotBase ≤ a then
        let head := leBytes 8 a ++ leBytes 4 bs.length ++ leBytes 4 0
        s.accept (256 + p) head head (s.bytesAt (a / 256 * 256) 256) false room
      else s
    | (false, s) => s.fault .mem 1 0 path.master 1 (s.badAddr a bs.length)
  else s.hostDeny path .w a bs.length 3

/-- A host write of BAR2 (R564). -/
def State.bar2Write (s : State) (p off : Nat) (bs : List Byte) (room : Bool) : State :=
  let a := s.bar2Addr p off
  (cellPieces a bs.length).foldl (fun s e => s.hostWritePiece p e.1 (slice bs (e.1 - a) e.2) room) s

/-- BAR2_ACCESS (R564): a read of `n` bytes where there are no data, else a write of the data; it waits, without effect so far, while a
repair runs on its stack (R467, log 90). -/
def execBar2Access (t p off n : Nat) (data : Option (List Byte)) (room : Bool) (s : State) : Host.Outcome State Fault Refusal :=
  let s := s.at t
  let k := match data with | none => n | some bs => bs.length
  .next (if s.spanWaits (s.bar2Addr (p % 2) off) k then s
    else match data with
    | none => s.bar2Read (p % 2) off n
    | some bs => s.bar2Write (p % 2) off bs room)

/-! ### The board controller's window -/

/-- The address of the next access through MGT_BCDATA (R567, R583). -/
def State.bcAddr (s : State) : Nat := s.rd64 MGT_BCADDR_LO / 4 % 2 ^ 38 * 4

/-- MGT_BCADDR advances (R567). -/
def State.bcAdvance (s : State) : State := s.add64 MGT_BCADDR_LO 4

/-- An access through MGT_BCDATA fails (R567). -/
def State.bcFails (s : State) (code : Nat) : State := (s.raise MGT_BCSTAT_ERR).wr MGT_BCSTAT_CODE code

/-- The code of a refused access: 3 where the address is unmapped, 1 where a guild refuses it (R583). -/
def State.bcDeny (s : State) (acc : GAcc) (a ty : Nat) : State :=
  let code := if s.mapped a 4 then 1 else 3
  (s.hostDeny .bc acc a 4 ty).bcFails code

/-- A read of MGT_BCDATA: its value (R567). -/
def State.bcRead (s : State) : Nat × State :=
  let a := s.bcAddr
  let (r, s) := s.hostReadPiece .bc a 4
  match r with
  | some bs => (leAt bs 0 4, s.bcAdvance)
  | none =>
    let code := if s.granted (pathMaster .bc) .r a 4 then 2 else if s.mapped a 4 then 1 else 3
    (0xFFFFFFFF, (s.bcFails code).bcAdvance)

/-- BCDATA_READ (R567); it waits while a repair runs on its stack (R467, log 90). -/
def execBcdataRead (t : Nat) (p : Path) (s : State) : Host.Outcome State Fault Refusal :=
  let s := s.at t
  if s.spanWaits s.bcAddr 4 then .next s
  else
    let (v, s) := s.bcRead
    .next (s.out (.read p MGT_BCDATA.addr v))

/-- A write of MGT_BCDATA (R567). -/
def State.bcWrite (s : State) (v : Nat) : State :=
  let a := s.bcAddr
  let s :=
    if s.granted (pathMaster .bc) .w a 4 then
      match s.memWrite mBoard a (leBytes 4 v) with
      | (true, s) => s
      | (false, s) => (s.fault .mem 1 0 mBoard 1 (s.badAddr a 4)).bcFails 2
    else s.bcDeny .w a 3
  s.bcAdvance

/-- BCDATA_WRITE (R567); it waits while a repair runs on its stack (R467, log 90). -/
def execBcdataWrite (t v : Nat) (s : State) : Host.Outcome State Fault Refusal :=
  let s := s.at t
  .next (if s.spanWaits s.bcAddr 4 then s else s.bcWrite v)

/-! ### The boot flash -/

/-- A byte of the boot flash; a byte never written is erased, 0xFF (PRESUMED, log 34). -/
def State.flashAt (s : State) (a : Nat) : Byte := Sparse.get (fun _ => 0xFF) s.mgt.flash a

/-- `n` bytes of the flash from `a`. -/
def State.flashBytes (s : State) (a n : Nat) : List Byte := (List.range n).map (fun i => s.flashAt (a + i))

/-- Whether MGT_FL_CMD may not write a span (R569): the key block, the certificate, the slot that was booted. -/
def State.flashProtected (s : State) (a n : Nat) : Bool :=
  let slot := if s.bit MGT_BOOT_SLOT then 0x1100000 else 0x100000
  decide (a < 0x4000 ∧ 0x1000 < a + n) || (s.ready && decide (a < slot + 0x1000000 ∧ slot < a + n))

/-- A flash command ends in an error (R583, R563). -/
def State.flashFails (s : State) (code : Nat) : State := ((s.raise MGT_FL_STAT_ERR).wr MGT_FL_STAT_CODE code).msix 2

/-- A flash command is written (R583): the lowest code of what refuses it, else it runs. -/
def State.flashCmdWrite (s : State) (op : Nat) : State :=
  let a := s.rd MGT_FL_ADDR_ADDR
  let n := if op = 3 then 65536 else 256
  if op ≠ 1 ∧ s.flashProtected (a / n * n) n = true then s.flashFails 1
  else if s.bit MGT_FL_STAT_BUSY then s.flashFails 2
  else if a % n ≠ 0 then s.flashFails 3
  else
    let c : FlashCmd := ⟨op, a, s.rdBytes MGT_FL_BUF 64⟩
    ({ s with mgt := { s.mgt with flashCmd := some c } }).wrBit MGT_FL_STAT_BUSY true

/-- FLASH_READ (R583). -/
def execFlashRead (t : Nat) (s : State) : Host.Outcome State Fault Refusal := .next ((s.at t).flashCmdWrite 1)
/-- FLASH_PROGRAM (R583). -/
def execFlashProgram (t : Nat) (s : State) : Host.Outcome State Fault Refusal := .next ((s.at t).flashCmdWrite 2)
/-- FLASH_ERASE (R583). -/
def execFlashErase (t : Nat) (s : State) : Host.Outcome State Fault Refusal := .next ((s.at t).flashCmdWrite 3)

/-- FLASH_COMPLETE (R583): `ok` says whether the device did it; what an erase or a program that failed leaves is free (log 3). -/
def State.flashDone (s : State) (ok : Bool) : State :=
  match s.mgt.flashCmd with
  | none => s
  | some c =>
    let s := ({ s with mgt := { s.mgt with flashCmd := none } }).wrBit MGT_FL_STAT_BUSY false
    if ok then
      let s := match c.op with
        | 1 => s.wrBytes MGT_FL_BUF (s.flashBytes c.addr 256)
        | 2 => s.flashWrite c.addr c.data
        | _ => { s with mgt := { s.mgt with flash := s.mgt.flash.filter (fun e => !decide (c.addr ≤ e.1 ∧ e.1 < c.addr + 65536)) } }
      (s.raise MGT_FL_STAT_DONE).msix 2
    else
      let s := if c.op = 1 then s
        else (s.flashWrite c.addr ((List.range (if c.op = 3 then 65536 else 256)).map
          (fun i => Config.undefByte (2 ^ 40 + c.addr + i) s.free))).freeNext
      s.flashFails 4

/-- FLASH_COMPLETE (R583). -/
def execFlashComplete (t : Nat) (ok : Bool) (s : State) : Host.Outcome State Fault Refusal := .next ((s.at t).flashDone ok)

/-! ### Port and Hall resets -/

/-- GO of MGT_PRST (R579, R357). -/
def State.portReset (s : State) (k : Nat) : State :=
  let s := s.takeDown k 13
  let s := s.resetWords [(LK_CORR_LO k).addr, (LK_CORR_HI k).addr, (LK_UNCORR k).addr, (LK_BAD k).addr, (LK_REPLAY k).addr,
    (LK_NAK k).addr, (LK_GAP k).addr, (LK_CSYM k).addr]
  ((lanesOf k).foldl State.clearChecker s).trySignal k

/-- PORT_RESET (R579). -/
def execPortReset (t k : Nat) (s : State) : Host.Outcome State Fault Refusal := .next ((s.at t).portReset (k % 256))

/-- The job is quenched because of a Hall, where it places a logical Bench there and is not quenched yet; an SW fault reports it where
`sw` says so (R155). -/
def State.hallQuench (s : State) (h : Nat) (sw : Bool) : State :=
  if s.hallPlaced h && !s.quenched then
    let s := if sw then s.fault .sw 2 0 (mHall h) else s
    s.quenchJob (if sw then .sw else .pwr) 0
  else s

/-- GO of MGT_HRST (R579, R580): the Hall turns Off and then On. -/
def State.hallReset (s : State) (h : Nat) : State :=
  if s.hallOn h = false then s.raise MGT_HRST_REF
  else
    let s := s.hallQuench h true
    let s := s.resetWords ((List.range 32).map (fun b => (NUM_BFLAGS_T_INVALID (32 * h + b)).addr))
    (s.nodeTrans h pwOff pcHall).nodeTrans h pwOn pcHall

/-- HALL_RESET (R579). -/
def execHallReset (t h : Nat) (s : State) : Host.Outcome State Fault Refusal := .next ((s.at t).hallReset (h % 32))

/-- A change of the enabled-Hall mask is hallmarked (R156), and marks the run key (R488, R508). -/
def State.mapChanged (s : State) (old cause : Nat) : State :=
  if s.hallMap = old then s
  else
    let s := s.hall 0xB (leBytes 4 old ++ leBytes 4 s.hallMap ++ [BitVec.ofNat 8 cause, 0, 0, 0])
    if s.bit DET_STAT_RKVALID then s.wrBit DET_STAT_MAPCHG true else s

/-- Bits of MIL_HALL_DIS are set (R155): the mask changes, the job is quenched where it must be, and the Halls turn Off. -/
def State.disableHalls (s : State) (mask mapCause cause : Nat) (sw : Bool) : State :=
  let dis := (s.word MIL_HALL_DIS.addr).toNat
  let new := (maskHalls mask).filter (fun h => dis / 2 ^ h % 2 = 0)
  let old := s.hallMap
  let s := new.foldl (fun s h => s.hallQuench h sw) s
  let s := (s.setWord MIL_HALL_DIS.addr (BitVec.ofNat 32 dis ||| BitVec.ofNat 32 mask)).mapChanged old mapCause
  new.foldl (fun s h => s.nodeTrans h pwOff cause) s

/-- MIL_HALL_DIS is written (R155). -/
def State.hallDisWrite (s : State) (m : Master) (v : Nat) : State :=
  let s := s.disableHalls v 1 pcHallDis true
  let dis := s.word MIL_HALL_DIS.addr
  let clear := dis &&& ~~~(BitVec.ofNat 32 v)
  if clear = 0 then s
  else match s.disp .c with
    | .refuse code => s.writeRefused code m
    | _ =>
      let old := s.hallMap
      (s.setWord MIL_HALL_DIS.addr (BitVec.ofNat 32 v)).mapChanged old 1

/-- HALL_DISABLE (R155). -/
def execHallDisable (t : Nat) (p : Path) (v : Nat) (s : State) : Host.Outcome State Fault Refusal :=
  .next ((s.at t).cmd none (fun s => s.hallDisWrite p.master v))

/-! ### Monitors -/

/-- A signed 16-bit value of a field. -/
def signed16 (n : Nat) : Int := if n < 2 ^ 15 then n else (n : Int) - 2 ^ 16

/-- The domain on whose state a temperature sensor's checks rest (R573, R599). -/
def tempDom (i : Nat) : Option Nat :=
  if i < 64 then some (i / 2) else if i < 80 then some 40 else if i < 96 then some 41 else if i < 112 then some 48 else none

/-- The domain whose rail a voltage monitor reads (R573). -/
def voltDom (i : Nat) : Option Nat :=
  if i < 50 then some i else if i < 66 then some 48 else if i < 82 then some (46 + (i - 66) / 8)
  else if i < 90 then some (i - 50) else none

/-- The domain of a speed monitor; the ring oscillators of the Mill dies have none (R573). -/
def speedDom (i : Nat) : Option Nat :=
  if i < 32 then some i else if i < 48 then none else if i < 56 then some 40 else some 41

/-- The die of a speed monitor, M0 to M3, S0, S1. -/
def speedDie (i : Nat) : Nat := if i < 32 then i / 8 else if i < 48 then (i - 32) / 4 else if i < 56 then 4 else 5

/-- Whether the domain of a monitor is On. -/
def State.monOn (s : State) (d : Option Nat) : Bool := d.all s.domOn

/-- The reading that a temperature sensor shows, in 1/8 °C: that of a Hall that is Off is 0 (R599). -/
def State.tempShown (s : State) (m : MonSample) (i : Nat) : Int :=
  if i < 64 ∧ s.dom (i / 2) = pwOff then 0 else m.temps.getD i 0

/-- A value as a 16-bit field. -/
def field16 (x : Int) : Nat := (x % 2 ^ 16).toNat

/-- The readings are recorded (R582, R603, R604, R324, R325, R472). -/
def State.recordSample (s : State) (m : MonSample) : State :=
  let s := (List.range 128).foldl (fun s i =>
    let v := s.tempShown m i
    let s := s.wr (MGT_TEMP_TEMP i) (field16 v)
    s.wr (MGT_TEMP_PEAK i) (field16 (max v (signed16 (s.rd (MGT_TEMP_PEAK i)))))) s
  let s := (List.range 16).foldl (fun s n =>
    let v := m.temps.getD (96 + n) 0
    let s := s.wr (LN_ETEMP_TEMP n) (field16 v)
    s.wr (LN_ETEMP_PEAKT n) (field16 (max v (signed16 (s.rd (LN_ETEMP_PEAKT n)))))) s
  let s := (List.range 96).foldl (fun s i => s.wr (MGT_VMON_MV i) (m.volts.getD i 0)) s
  let s := (List.range 64).foldl (fun s i =>
    if i < 32 ∧ s.domOn i = false then s.wr (MGT_SPD_RATE i) 0
    else
      let v := m.speeds.getD i 0
      (s.wr (MGT_SPD_RATE i) v).wr (MGT_SPD_MIN i) (min v (s.rd (MGT_SPD_MIN i)))) s
  let s := (List.range 8).foldl (fun s h =>
    let v := m.stackT.getD h 0
    let s := (s.wr (MEM_HTEMP_TEMP h) v).wr (MEM_HTEMP_PEAK h) (max v (s.rd (MEM_HTEMP_PEAK h)))
    s.wrBit (MEM_HSTAT_DOUBLE h) (decide (85 < v))) s
  let s := (s.wr MGT_POWER_WATTS m.watts).wr MGT_POWER_PEAK (max m.watts (s.rd MGT_POWER_PEAK))
  let s := (s.wr PWR_IIN_AMPS m.amps).wr PWR_IIN_PEAK (max m.amps (s.rd PWR_IIN_PEAK))
  let s := (List.range 50).foldl (fun s d =>
    let v := m.doms.getD d 0
    (s.wr (PWR_DW_WATTS d) v).wr (PWR_DW_PEAK d) (max v (s.rd (PWR_DW_PEAK d)))) s
  let s := m.optics.zipIdx.foldl (fun s x =>
    if x.2 < 1024 then (s.wr (LN_OPT_RXPWR x.2) (field16 x.1.1)).wr (LN_OPT_TXPWR x.2) (field16 x.1.2) else s) s
  m.stackNotes.zipIdx.foldl (fun s x =>
    if x.2 < 8 then (s.addSat (MEM_HSTAT_SEV x.2) x.1.1).addSat (MEM_HSTAT_CAPAR x.2) x.1.2 else s) s

/-- CRIT in force, in °C (R582). -/
def State.critTemp (s : State) : Nat := min 110 (s.rd MGT_TLIM_CRIT)

/-- Whether a voltage reading lies outside its window (R574, R599); nothing where the monitor is not checked. -/
def State.voltBad (s : State) (m : MonSample) (i : Nat) : Option Bool :=
  let v := m.volts.getD i 0
  match (voltDom i).map s.dom with
  | some 1 => some (decide (v < 520 ∨ 580 < v))
  | some 2 => none
  | some 3 => none
  | _ => some (decide (v < s.rd (MGT_VLIM_LO i) ∨ s.rd (MGT_VLIM_HI i) < v))

/-- Whether the die of a speed monitor has run at step 0 for 2^20 ticks (R575). -/
def State.longAtZero (s : State) (kd : Nat → Nat) (d : Nat) : Bool :=
  kd d == 0 && decide (s.mgt.lastStep.getD d 0 + 2 ^ 20 ≤ s.now)

/-- The throttle step of die d: M0 to M3, S0, S1 (R582). -/
def dieStep (d : Nat) : Fld := { MGT_THRSTAT_K_M0 with lo := 4 * d }

/-- One condition of R574: its row, the monitor, whether it holds (nothing where it is not checked), and its level. -/
structure MonCond where
  row : Nat
  idx : Nat
  holds : Option Bool
  level : Nat

/-- The conditions of R574 on a sample, but for the one on a throttled die; of two of one monitor the graver comes first, for R514 merges
the other with it (log 70). -/
def State.monConds (s : State) (m : MonSample) : List MonCond :=
  let temp (i : Nat) : Int := s.tempShown m i
  let on (d : Option Nat) (b : Bool) : Option Bool := if s.monOn d then some b else none
  [90, 91, 92, 93].map (fun i => ⟨1, i, some (decide (m.volts.getD i 0 < 4700 ∨ 5400 < m.volts.getD i 0)), 3⟩) ++
  (List.range 96).map (fun i => ⟨0, i, s.voltBad m i, 1⟩) ++
  (List.range 96 ++ (List.range 8).map (· + 120)).map (fun i => ⟨2, i, on (tempDom i) (decide (8 * (s.critTemp : Int) ≤ temp i)), 3⟩) ++
  (List.range 16).map (fun n => ⟨3, 96 + n, on (some 48) (decide (8 * 90 ≤ temp (96 + n))), 1⟩) ++
  (List.range 8).map (fun h => ⟨5, h, on (some (46 + h / 4)) (decide (105 ≤ m.stackT.getD h 0)), 3⟩) ++
  (List.range 8).map (fun h => ⟨4, h, on (some (46 + h / 4)) (decide (95 < m.stackT.getD h 0)), 2⟩) ++
  (List.range 64).map (fun i => ⟨7, i, on (speedDom i)
    (decide (m.speeds.getD i 0 < 1700) && s.longAtZero (fun d => s.rd (dieStep d)) (speedDie i)), 1⟩)

/-- The monitor that a condition's fault names (R516, R573): for a stack's reading, the interposer sensor beside it (DEDUCED, log 70). -/
def condMon (row i : Nat) : Nat := if row = 4 ∨ row = 5 then 112 + i else i

/-- A condition is judged: its fault when it first arises (R574), OUT for a voltage, FLOOR for a floor breach. -/
def State.judgeCond (s : State) (c : MonCond) : State :=
  let was := s.mgt.overT.contains (c.row, c.idx)
  match c.holds with
  | none => s
  | some false => { s with mgt := { s.mgt with overT := s.mgt.overT.filter (fun e => e ≠ (c.row, c.idx)) } }
  | some true =>
    let s := if c.row = 0 then s.raise (MGT_VMON_OUT c.idx) else if c.row = 7 then s.raise MGT_THRSTAT_FLOOR else s
    if was then s
    else
      let s := { s with mgt := { s.mgt with overT := (c.row, c.idx) :: s.mgt.overT } }
      s.fault .pwr c.level 0 (mPower (condMon c.row c.idx))

/-! ### The throttle -/

/-- The largest step of die d (R582). -/
def State.maxStep (s : State) (d : Nat) : Nat := min 10 (if d < 4 then s.rd MGT_THR_MAXSTEP_M else s.rd MGT_THR_MAXSTEP_S)

/-- The sensors of die d that take part: those of its Halls that are not Off, or of the switch die (R577, R599). -/
def State.dieSensors (s : State) (d : Nat) : List Nat :=
  if d < 4 then (List.range 16).map (· + 16 * d) |>.filter (fun i => s.dom (i / 2) ≠ pwOff)
  else (List.range 16).map (· + 16 * d)

/-- The first speed monitor of die d (R573), which a fault names where no one sensor raised it (DEDUCED, log 70). -/
def dieMon (d : Nat) : Nat := if d < 4 then 32 + 4 * d else 48 + 8 * (d - 4)

/-- A downward step of a die to step `k` with a cause, raised by monitor `mon` (R577, R578). -/
def State.stepDown (s : State) (d k cause mon : Nat) : State :=
  let s := ((s.wr (dieStep d) k).wr MGT_THRSTAT_CAUSE cause).addSat MGT_THRCNT (k - s.rd (dieStep d))
  let s := if s.mgt.throttled then s else s.fault .pwr 0 0 (mPower mon)
  { s with mgt := { s.mgt with throttled := true, lastStep := s.mgt.lastStep.set d s.now, calmSince := s.mgt.calmSince.set d none } }

/-- The three rules of R577 for one die. -/
def State.throttleDie (s : State) (m : MonSample) (d : Nat) : State :=
  let lim := s.maxStep d
  let auto := s.bit MGT_THR_AUTO
  let thr : Int := 8 * (s.rd MGT_TLIM_THR : Int)
  let plim := min 3400 (s.rd MGT_PLIM_PLIM)
  let temps := (s.dieSensors d).map (fun i => s.tempShown m i)
  let hot := auto && temps.any (fun x => decide (thr ≤ x))
  let first := ((s.dieSensors d).find? (fun i => decide (thr ≤ s.tempShown m i))).getD (dieMon d)
  let overT := auto && decide (d < 4 ∧ plim < m.watts)
  let force := min lim (s.rd MGT_THR_FORCE)
  let s := if lim < s.rd (dieStep d) then s.wr (dieStep d) lim else s
  let s := if hot && decide (s.rd (dieStep d) < lim) then s.stepDown d (s.rd (dieStep d) + 1) 1 first else s
  let s := if overT && decide (s.rd (dieStep d) < lim) then s.stepDown d (s.rd (dieStep d) + 1) 2 (dieMon d) else s
  let s := if s.rd (dieStep d) < force then s.stepDown d force 3 (dieMon d) else s
  let k := s.rd (dieStep d)
  let calm := temps.all (fun x => decide (x < thr - 8 * (s.rd MGT_TLIM_HYS : Int))) && decide (m.watts + 100 ≤ plim) && decide (force < k)
  let s : State := match s.mgt.calmSince.getD d none with
    | some c =>
      if calm = false then { s with mgt := { s.mgt with calmSince := s.mgt.calmSince.set d none } }
      else if max c (s.mgt.lastStep.getD d 0) + 2 ^ 20 ≤ s.now then
        let t := s.wr (dieStep d) (k - 1)
        { t with mgt := { t.mgt with lastStep := t.mgt.lastStep.set d t.now } }
      else s
    | none => if calm then { s with mgt := { s.mgt with calmSince := s.mgt.calmSince.set d (some s.now) } } else s
  let stuck := (hot || overT || force == lim) && decide (0 < s.rd (dieStep d)) && s.rd (dieStep d) == lim
  match stuck, s.mgt.maxSince.getD d none with
  | false, _ =>
    { s with mgt := { s.mgt with maxSince := s.mgt.maxSince.set d none, overT := s.mgt.overT.filter (fun e => e ≠ (6, d)) } }
  | true, none => { s with mgt := { s.mgt with maxSince := s.mgt.maxSince.set d (some s.now) } }
  | true, some c =>
    if c + 2 ^ 20 ≤ s.now ∧ s.mgt.overT.contains (6, d) = false then
      ({ s with mgt := { s.mgt with overT := (6, d) :: s.mgt.overT } }).fault .pwr 1 0 (mPower (dieMon d))
    else s

/-- MONITOR_SAMPLE (R573 to R578). -/
def State.monitorSample (s : State) (m : MonSample) : State :=
  let s := s.recordSample m
  let s := (s.monConds m).foldl State.judgeCond s
  (List.range 6).foldl (fun s d => s.throttleDie m d) s

/-- MONITOR_SAMPLE (R573). -/
def execMonitorSample (t : Nat) (m : MonSample) (s : State) : Host.Outcome State Fault Refusal := .next ((s.at t).monitorSample m)

end Sys2Proof.Machine
end

