-- ==== Sys2Proof/Machine/Power.lean ====
section
/-! DEFINITION. Power requests and faults (21), the power-on sequence, boot and the node's resets (R571, R579, R600, R620). -/

namespace Sys2Proof.Machine

/-! ### Requests -/

/-- Whether a domain is On, or on its way there. -/
def State.domUp (s : State) (d : Nat) : Bool :=
  s.dom d == pwOn || (s.dom d == pwTransit && s.rd (PWR_STATE_TARGET d) == pwOn)

/-- The lowest code of R594 that refuses a request for state `q` (3 is no state); none where it is accepted or the domain is there. -/
def State.powerRefusal (s : State) (d q : Nat) : Option Nat :=
  if 49 ≤ d then some 6
  else if s.dom d = pwTransit ∨ (s.transOf d).isSome = true then some 1
  else if s.dom d = q then none
  else if d < 32 ∧ ((s.hallOn d = false ∧ q ≠ pwOff) ∨ (s.hallPlaced d = true ∧ (q = pwRetain ∨ q = pwOff))) then some 2
  else if q = 3 ∨ (s.dom d = pwOff ∧ q = pwRetain) then some 3
  else if (q = pwOn ∧ (powerNeeds d).all s.domOn = false) ∨ (q ≠ pwOn ∧ s.dom d = pwOn ∧ (powerUsers d).any s.domUp = true) then some 4
  else if q ≠ pwOn ∧ ((32 ≤ d ∧ d < 40) ∨ d = 48) ∧ (domPorts d).any (fun k => !s.portHeld k) = true then some 5
  else if (q ≠ pwOn ∧ ((40 ≤ d ∧ d < 48 ∧ s.nodeState ≠ stUncast) ∨ s.nodeQuenched = true)) ∨ (q = pwOn ∧ s.pwr.faulted.contains d = true) then
    some 7
  else none

/-- A request written to PWR_CTRL (R594, R595). -/
def State.powerReq (s : State) (m : Master) (d q : Nat) : State :=
  match s.powerRefusal d q with
  | some c =>
    let s := ((s.wr PWR_ERR_CODE c).wr PWR_ERR_DOMAIN d).raise PWR_ERR_REF
    s.ruleRefused m
  | none => if s.dom d = q then s.wr (PWR_CTRL_REQ d) q else (s.askTrans d q pcHost).startTransitions

/-- POWER_REQ_ON (R594). -/
def execPowerReqOn (t : Nat) (p : Path) (d : Nat) (s : State) : Host.Outcome State Fault Refusal :=
  .next ((s.at t).cmd none (fun s => s.powerReq p.master d pwOn))
/-- POWER_REQ_RETAIN (R594). -/
def execPowerReqRetain (t : Nat) (p : Path) (d : Nat) (s : State) : Host.Outcome State Fault Refusal :=
  .next ((s.at t).cmd none (fun s => s.powerReq p.master d pwRetain))
/-- POWER_REQ_OFF (R594). -/
def execPowerReqOff (t : Nat) (p : Path) (d : Nat) (s : State) : Host.Outcome State Fault Refusal :=
  .next ((s.at t).cmd none (fun s => s.powerReq p.master d pwOff))
/-- POWER_REQ_ILLEGAL (R594). -/
def execPowerReqIllegal (t : Nat) (p : Path) (d : Nat) (s : State) : Host.Outcome State Fault Refusal :=
  .next ((s.at t).cmd none (fun s => s.powerReq p.master d 3))

/-! ### The sequence -/

/-- The groups of domains that come On before memory is trained, in order (R600). -/
def coreGroups : List (List Nat) := [[42, 43], [40, 41], [44, 45], (List.range 8).map (· + 32)]

/-- The order in which domains turn Off (R601). -/
def downOrder : List Nat := List.range 32 ++ [48] ++ (List.range 8).map (· + 32) ++ [44, 45, 46, 47, 40, 41, 42, 43]

/-- Whether every core domain is On. -/
def State.coreOn (s : State) : Bool := coreGroups.all (fun g => g.all s.domOn)

/-- The sequence goes on (R600): the domains of the first group that is not all On are brought On. -/
def State.advanceSeq (s : State) : State :=
  if s.pwr.input && s.mgt.booting && s.mgt.train && !s.mgt.held then
    match coreGroups.find? (fun g => !g.all s.domOn) with
    | none => s
    | some g => g.foldl (fun s d => s.nodeTrans d pwOn pcSequence) (s.wr PWR_SEQ_STEP 3)
  else s

/-- DOMAIN_TRANSITION_DONE (R597, R600). -/
def execDomainTransitionDone (t d : Nat) (s : State) : Host.Outcome State Fault Refusal := .next ((s.at t).transDone d).advanceSeq

/-- The state right after power-on reset (R12, R78, R580): what the part keeps without power is its fuses, its boot flash, the rows it has
repaired for good, and the level of RST_N; the model's own records stay. -/
def State.powerReset (s : State) : State :=
  let r := State.reset
  let t : State := { r with
    pending := s.pending, outs := s.outs, free := s.free
    sec := { r.sec with ownerDig := s.sec.ownerDig, fwKeyDig := s.sec.fwKeyDig, fwKey := s.sec.fwKey }
    mgt := { r.mgt with flash := s.mgt.flash, rstLow := s.mgt.rstLow }
    msys := { r.msys with rows := s.msys.rows.filter (fun e => e.2.2.2) } }
  let t := ((t.wr MGT_ID_OPT (s.rd MGT_ID_OPT)).wr MGT_SERIAL_LO (s.rd MGT_SERIAL_LO)).wr MGT_SERIAL_HI (s.rd MGT_SERIAL_HI)
  let t := ((t.wr SEC_STAT_OWNED (s.rd SEC_STAT_OWNED)).wr SEC_STAT_KBMIN (s.rd SEC_STAT_KBMIN)).wr SEC_STAT_FWMIN (s.rd SEC_STAT_FWMIN)
  t.setWord MIL_HALL_FUSE.addr (s.word MIL_HALL_FUSE.addr)

/-- The power-on reset, and the sequence up to the domains that come first (R600); RST_N low holds boot before the fuse read (R620). -/
def State.powerOn (s : State) : State :=
  let s := s.powerReset
  let held := s.mgt.rstLow.isSome
  let s := { s with pwr := { s.pwr with input := true }, mgt := { s.mgt with held := held, booting := !held, train := true } }
  let s := (s.wrBit PWR_SEQ_UVLO true).wr PWR_SEQ_STEP 1
  let s := ((s.wr (PWR_STATE_STATE 49) pwOn).wrBit (PWR_STATE_PGOOD 49) true).inc (PWR_STATE_WAKES 49)
  s.advanceSeq

/-- POWER_ON_SEQUENCE (R600): the tick counter starts at 0 (R79). -/
def execPowerOnSequence (s : State) : Host.Outcome State Fault Refusal := .next (if s.pwr.input then s else s.powerOn)

/-- POWER_DOWN (R601): every domain is Off, PD49 last, and every content is lost. -/
def State.powerDown (s : State) : State :=
  (s.powerReset.wr (PWR_STATE_STATE 49) pwOff)

/-- POWER_DOWN (R601). -/
def execPowerDown (t : Nat) (s : State) : Host.Outcome State Fault Refusal :=
  let _ := t
  .next (if s.pwr.input then s.powerDown else s)

/-! ### Boot -/

/-- First byte of a firmware slot (R569). -/
def slotBase (b : Bool) : Nat := if b then 0x1100000 else 0x100000

/-- The firmware that a slot holds: its header's LENGTH bounds it (R570). -/
def State.fwImage (s : State) (b : Bool) : List Byte :=
  let n := leAt (s.flashBytes (slotBase b) 256) 8 4
  s.flashBytes (slotBase b) n

/-- Whether an image verifies under the firmware key, the one whose digest the fuses hold (R540, R541, R570). -/
def State.fwSigned (s : State) (img : List Byte) : Bool :=
  let n := img.length
  let key := s.sec.fwKey
  decide (sha384 key = s.sec.fwKeyDig) &&
    ecdsaVerify (ofBeBytes (slice key 0 48), ofBeBytes (slice key 48 48)) (sha384 (img.take (n - 96))) (ofBeBytes (slice img (n - 96) 48))
      (ofBeBytes (slice img (n - 48) 48))

/-- Why a slot's image is not accepted, as FAILA and FAILB code it (R570, R571, R581); `readOk` says whether the flash could be read. -/
def State.fwFault (s : State) (b readOk : Bool) : Nat :=
  let h := s.flashBytes (slotBase b) 256
  let n := leAt h 8 4
  if readOk = false then 5
  else if leAt h 0 4 ≠ 0x57465A54 ∨ leAt h 4 2 ≠ 1 then 1
  else if n < 4096 ∨ 16777216 < n ∨ n % 4096 ≠ 0 then 2
  else
    let img := s.fwImage b
    if s.fwSigned img = false then 3
    else if leAt h 23 1 < s.rd SEC_STAT_FWMIN then 4 else 0

/-- Version and digest of an accepted image (R570). -/
def State.fwVersion (s : State) (b : Bool) : Nat := leAt (s.flashBytes (slotBase b) 256) 16 8
def State.fwDigest (s : State) (b : Bool) : List Byte :=
  let img := s.fwImage b
  sha384 (img.take (img.length - 96))

/-- The BOOT record, before any other of its tick (R553, R555). -/
def State.bootHall (s : State) (version : Nat) (dig : List Byte) : State :=
  s.hallKey 0 1 0 (leBytes 8 version ++ leBytes 4 (s.rd MGT_SERIAL_LO) ++ leBytes 4 (s.rd MGT_SERIAL_HI) ++ dig ++
    [if s.mgt.warm then 1 else 0, 0, 0, 0])

/-- The fuses are read (R156): a mask that differs from the one before the reset is hallmarked. -/
def State.readFuses (s : State) : State := s.mapChanged s.mgt.maskWas 0

/-- Memory is trained and zero, and the domains left come On: HBM, optics, the enabled Halls (R571, R600). -/
def State.trainAll (s : State) : State :=
  let ds := [46, 47, 48] ++ maskHalls s.hallMap
  let s := ds.foldl (fun s d => if s.domOn d then s else (s.wr (PWR_CTRL_REQ d) pwOn).enterDom d pwOn pcSequence) s
  let s := (List.range 32).foldl (fun s h => if s.hallOn h then s else s.wr (PWR_CTRL_REQ h) pwOff) s
  let conf := s.flashBytes 0 4096
  let s := if s.mgt.warm then s
    else (List.range 96).foldl (fun s i => s.setWord (MGT_VLIM_LO i).addr (BitVec.ofNat 32 (Config.windowOf conf i))) s
  s.wr PWR_SEQ_STEP 7

/-- The key block is read at boot (R543): none is in force where it is invalid or the node is unowned, with a SEC alert. -/
def State.bootKeys (s : State) : State :=
  let kb := s.flashBytes 0x1000 4096
  let why := if s.bit SEC_STAT_OWNED then s.kbFault false kb else some 0
  match why with
  | none => s.setKeyBlock (some kb)
  | some c => (s.setKeyBlock none).fault .sec 1 c mNone

/-- The firmware of slot `b` runs (R571). -/
def State.bootSlot (s : State) (b fallback : Bool) : State :=
  let v := s.fwVersion b
  let s := (s.setWord MGT_FWVER_LO_BUILD.addr (BitVec.ofNat 32 v)).setWord MGT_FWVER_HI_MINORH.addr (BitVec.ofNat 32 (v / 2 ^ 32))
  let s := (s.wrBit MGT_BOOT_SLOT b).wrBit MGT_BOOT_FALLBACK fallback
  let s := (s.bootHall v (s.fwDigest b)).readFuses
  let s := if s.mgt.train then s.trainAll else s
  let s := s.bootKeys
  let s := (s.wr MGT_BOOT_STATE 4).wrBit MGT_BOOT_READY true
  { s with mgt := { s.mgt with booting := false, train := false } }

/-- BOOTFAIL (R572): only PD49 stays On. -/
def State.bootFail (s : State) : State :=
  let s := (s.wr MGT_BOOT_STATE 5).wrBit MGT_BOOT_FALLBACK true
  let s := ((s.bootHall 0 (List.replicate 48 0)).readFuses).fault .sec 1 0 mNone
  let s := { s with mgt := { s.mgt with booting := false } }
  downOrder.foldl (fun s d => s.nodeTrans d pwOff pcSequence) s

/-- Boot, whole (R571): `okA` and `okB` say whether the flash gave each slot. -/
def State.boot (s : State) (okA okB : Bool) : State :=
  if s.mgt.booting && !s.mgt.held && (!s.mgt.train || s.coreOn) then
    let first := decide (s.fwVersion false < s.fwVersion true)
    let ok (b : Bool) : Bool := if b then okB else okA
    let failFld (b : Bool) : Fld := if b then MGT_BOOT_FAILB else MGT_BOOT_FAILA
    let c := s.fwFault first (ok first)
    let s := s.wr (failFld first) c
    if c = 0 then s.bootSlot first false
    else
      let c := s.fwFault (!first) (ok (!first))
      let s := s.wr (failFld (!first)) c
      if c = 0 then s.bootSlot (!first) true else s.bootFail
  else s

/-- BOOT (R571). -/
def execBoot (t : Nat) (okA okB : Bool) (s : State) : Host.Outcome State Fault Refusal := .next ((s.at t).boot okA okB)

/-! ### Warm reset -/

/-- Fields that a warm reset keeps (R536, R558, R580): the FLT block but NODEQ and HOLD, the SEC block but the export fields, the MGT RW
fields and the part's identity, the domains' states, and what counts or was captured since power-on. -/
def warmKeeps (a : Nat) (f : FldSpec) : Bool :=
  let is (x : Fld) : Bool := a == x.addr && f.lo == x.lo
  let fam (x : Fld) (n stride : Nat) : Bool := decide (x.addr ≤ a ∧ a < x.addr + n * stride) && (a - x.addr) % stride == 0 && f.lo == x.lo
  if 0x100000 ≤ a ∧ a < 0x140000 then !(is FLT_STAT_NODEQ || is FLT_CTRL_HOLD)
  else if 0x140000 ≤ a ∧ a < 0x180000 then
    !(a == SEC_EXPCTL_EN.addr || a == SEC_EXPSIZE_SIZE.addr || a == SEC_EXPBASE_LO.addr || a == SEC_EXPBASE_HI.addr ||
      a == SEC_EXPRD_LO.addr || a == SEC_EXPRD_HI.addr)
  else if a < 0x40000 then
    f.acc == .rw || decide (a < MGT_FWVER_LO_BUILD.addr) || a == MGT_FEAT0_PORTS.addr || a == MGT_FEAT1_TSENS.addr ||
    is MGT_RSTCAUSE_WARMS || is MGT_POWER_PEAK || is MGT_THRCNT || fam (MGT_TEMP_PEAK 0) 128 4 || fam (MGT_SPD_MIN 0) 64 4
  else if a < 0x80000 then
    !(a == PWR_ERR_CODE.addr || is PWR_IIN_AMPS || fam (PWR_DW_WATTS 0) 50 4)
  else
    a == MIL_HALL_FUSE.addr || is CST_CASTS || fam (STK_TSTAT_TORN 0) 256 64 || fam (LN_ETEMP_PEAKT 0) 16 16 || fam (LN_ESTAT_READY 0) 16 16 ||
    fam (LN_FOMLOG_READAPTS 0) 1024 64 || is LK_SUM_DOWNS || fam (LK_STAT_DOWNS 0) 256 64 || a == MEM_BPASS_PASS_I.addr ||
    (decide (0x2800000 ≤ a) && (a == MEM_UE_INFO_MASTER.addr || a == MEM_UE_ADDR_LO.addr || a == MEM_UE_ADDR_HI.addr || a == MEM_UE_TICK_LO.addr ||
      a == MEM_UE_TICK_HI.addr || fam (MEM_ICE 0) 2 16 || fam (MEM_IUE 0) 2 16 || fam (MEM_HCE 0) 8 16 || fam (MEM_HUE 0) 8 16 ||
      fam (MEM_HTEMP_PEAK 0) 8 16 || (decide ((MEM_HSTAT_READY 0).addr ≤ a ∧ a < (MEM_HSTAT_READY 0).addr + 128) &&
        (a - (MEM_HSTAT_READY 0).addr) % 16 == 0))) ||
    a == TM_FIRST_UNIT.addr || a == (BP_FIRST_VALID 0).addr || a == (BP_FIRST_VALID 1).addr

/-- Whether a boot from here brings the domains On: one that has not got through yet, or that failed (R572). -/
def State.bootsFull (s : State) : Bool := s.mgt.train || s.rd MGT_BOOT_STATE == 5

/-- Every Hall passes through Off, and back to On where it is enabled (R600). -/
def State.cycleHalls (s : State) : State :=
  (List.range 32).foldl (fun s h =>
    let s := s.nodeTrans h pwOff pcWarm
    if s.hallOn h then s.nodeTrans h pwOn pcWarm else s) s

/-- A reset during the commit of a table leaves it torn (R297). -/
def State.tornReset (s : State) : State :=
  s.stock.updates.foldl (fun s u => if u.commit && u.doneAt.isNone then s.wrBit (STK_TSTAT_TORN u.table) true else s) s

/-- The fields and units that a warm reset clears (R536, R537, R580). -/
def State.warmClear (s : State) : State :=
  let s := s.tornReset
  let cells := [s.pcells 0, s.pcells 1]
  let s := allPorts.foldl (fun s k =>
    if s.rd (LK_STAT_STATE k) = 0 then s else (s.inc (LK_STAT_DOWNS k)).inc LK_SUM_DOWNS) s
  let s := (s.resetWhere (fun a f => !warmKeeps a f)).movedCells cells
  let r := State.reset
  { s with
    cst := r.cst, tg := r.tg, det := r.det, benches := r.benches, mill := r.mill, fab := r.fab, coll := r.coll, temper := r.temper
    stock := r.stock, flt := { s.flt with quenchBy := none }
    mgt := { s.mgt with flashCmd := none, lastStep := r.mgt.lastStep, maxSince := r.mgt.maxSince, calmSince := r.mgt.calmSince
                        throttled := false }
    pwr := { s.pwr with faulted := [] }, msys := { s.msys with repair := none } }

/-- A warm reset (R579, R580): `held` says that RST_N holds it (R620). -/
def State.warmReset (s : State) (cause : Nat) (held : Bool) : State :=
  let full := s.bootsFull
  let map := s.hallMap
  let s := s.warmClear
  let s := s.endInjection
  let s := (s.wr MGT_RSTCAUSE_CAUSE cause).inc MGT_RSTCAUSE_WARMS
  let s := { s with mgt := { s.mgt with held := held, booting := !held, warm := true, train := full, maskWas := map } }
  if full then s.advanceSeq else s.cycleHalls

/-- WARM_RESET_WRITE (R579): OP and KEY of MGT_RST. -/
def State.rstWrite (s : State) (p : Path) (op key : Nat) : State :=
  if key ≠ 0x5A then s.ruleRefused p.master
  else if op = 1 then s.warmReset (if p = .bc then 3 else 2) s.mgt.held
  else s

/-- WARM_RESET_WRITE (R579). -/
def execWarmResetWrite (t : Nat) (p : Path) (op key : Nat) (s : State) : Host.Outcome State Fault Refusal :=
  .next ((s.at t).rstWrite p op key)

/-- RST_N_ASSERT: RST_N has been low for 10 µs (R620). -/
def State.rstAssert (s : State) : State :=
  let s := { s with mgt := { s.mgt with rstLow := some s.now } }
  if s.pwr.input then s.warmReset 1 true else s

/-- RST_N_ASSERT (R620). -/
def execRstNAssert (t : Nat) (s : State) : Host.Outcome State Fault Refusal := .next (s.at t).rstAssert

/-- RST_N_RELEASE: the held reset ends, and boot starts (R620). -/
def State.rstRelease (s : State) : State :=
  let was := s.mgt.held
  let s := { s with mgt := { s.mgt with rstLow := none, held := false, booting := s.mgt.booting || was } }
  if was then s.advanceSeq else s

/-- RST_N_RELEASE (R620). -/
def execRstNRelease (t : Nat) (s : State) : Host.Outcome State Fault Refusal := .next (s.at t).rstRelease

/-! ### Domain faults -/

/-- Power-good falls on a domain that should be On or Retain (R602). -/
def State.goodLoss (s : State) (d : Nat) : State :=
  if 49 ≤ d then (if s.pwr.input then s.powerOn else s)
  else if s.bit (PWR_STATE_PGOOD d) = false then s
  else
    let s := s.wrBit (PWR_STATE_PGOOD d) false
    let s := { s with pwr := { s.pwr with faulted := if s.pwr.faulted.contains d then s.pwr.faulted else d :: s.pwr.faulted } }
    if d < 32 then
      let job := s.hallPlaced d && !s.quenched
      (s.disableHalls (2 ^ d) 2 pcFault false).fault .pwr (if job then 2 else 1) 0 (mHall d)
    else
      let s := s.nodeTrans d pwOff pcFault
      if d < 40 then s.fault .pwr 1 0 (mPower d) else (s.fault .pwr 3 0 (mPower d)).quenchNode .pwr 0

/-- POWER_GOOD_LOSS (R602). -/
def execPowerGoodLoss (t d : Nat) (s : State) : Host.Outcome State Fault Refusal := .next ((s.at t).goodLoss d)

/-- INPUT_OVERCURRENT (R602): every Mill die steps to its largest step. -/
def State.overcurrent (s : State) : State :=
  let s := (List.range 4).foldl (fun s d => if s.rd (dieStep d) < s.maxStep d then s.stepDown d (s.maxStep d) 2 (dieMon d) else s) s
  (s.fault .pwr 3 0 (mPower 0)).quenchNode .pwr 0

/-- INPUT_OVERCURRENT (R602). -/
def execInputOvercurrent (t : Nat) (s : State) : Host.Outcome State Fault Refusal := .next (s.at t).overcurrent

end Sys2Proof.Machine
end

