-- ==== Sys2Proof/Machine/Regview.lean ====
section
/-! DEFINITION. What a register shows (R7 to R16, R605 to R610): the domain that holds an instance's live state, the fields that are
formed when they are read, and the word that a read returns. -/

namespace Sys2Proof.Machine

/-- The place of an address in a family of instances: its index (R606). -/
def instIdx (f : Fld) (stride n a : Nat) : Option Nat :=
  if f.addr ≤ a ∧ (a - f.addr) % stride = 0 ∧ (a - f.addr) / stride < n then some ((a - f.addr) / stride) else none

/-! ### Live state (R610) -/

/-- The domain of a Touchmark unit (R474, R610). -/
def unitDom (u : Nat) : Nat :=
  if u < 256 then 32 + u / 32 else if u < 512 then 32 + (u - 256) / 32 else if u < 640 then 44 + (u - 512) / 64 else 46 + (u - 640) / 64

/-- Whether an address lies in a range, and its distance from the base. -/
def inSpan (a base size : Nat) : Bool := decide (base ≤ a ∧ a < base + size)

/-- The domain that holds the live state of the instance at an address (R610); none is PD49. -/
def State.liveDom (s : State) (a : Nat) : Option Nat :=
  if inSpan a 0x1C1000 0x6000 then some (unitDom ((a - 0x1C1000) / 0x20))
  else if inSpan a 0x200400 0x100 then some 48
  else if inSpan a 0x210000 0x10000 then some (32 + (a - 0x210000) / 0x2000)
  else if inSpan a 0x410000 0x4000 then some (32 + (a - 0x410000) / 0x800)
  else if inSpan a 0x800100 0x100 then some (40 + (a - 0x800100) / 0x80)
  else if inSpan a 0x810000 0x4000 then some (40 + (a - 0x810000) / 0x2000)
  else if inSpan a 0x1010000 0x20000 then some (40 + (a - 0x1010000) / 0x10000)
  else if inSpan a 0x1200000 0x200000 then some (40 + (a - 0x1200000) / 0x100000)
  else if inSpan a 0x1600000 0x800 then some (44 + (a - 0x1600000) / 0x400)
  else if inSpan a 0x1802000 0x1000 then some ((a - 0x1802000) / 0x80)
  else if inSpan a 0x1900000 0x10000 then some (s.physOf ((a - 0x1900000) / 0x40) / 32)
  else if inSpan a 0x2001000 0x1000 then some ((a - 0x2001000) / 0x80)
  else if inSpan a 0x2002000 0x200 then some (44 + (a - 0x2002000) / 0x100)
  else if inSpan a 0x2800100 0x20 then some (42 + (a - 0x2800100) / 0x10)
  else if inSpan a 0x2800200 0x80 then some (46 + (a - 0x2800200) / 0x40)
  else if inSpan a 0x2801000 0x200 then some (46 + (a - 0x2801000) / 0x100)
  else none

/-- Whether the live state of the instance at an address is there (R610). -/
def State.liveOn (s : State) (a : Nat) : Bool := (s.liveDom a).all s.domOn

/-- The RO fields that describe live state, each by its first instance and the strides of its indexes (R590, R610); every other RO
field is a count, a peak or a capture, a feature value or placement, and reads normally. -/
def liveRo : List (Fld × List (Nat × Nat)) :=
  [(TM_ENT_USED 0, [(32, 768)]),
   (LN_ESTAT_READY 0, [(16, 16)]), (LN_ETEMP_TEMP 0, [(16, 16)]),
   (LN_STAT_FOM 0, [(64, 1024)]), (LN_STAT_FOM_VALID 0, [(64, 1024)]), (LN_STAT_SIG 0, [(64, 1024)]), (LN_STAT_MATCH 0, [(64, 1024)]),
   (LN_STAT_LOCK 0, [(64, 1024)]), (LN_STAT_ADAPTING 0, [(64, 1024)]), (LN_STAT_FAILED 0, [(64, 1024)]),
   (LN_STAT_MAIN 0, [(64, 1024)]), (LN_STAT_SLIPS 0, [(64, 1024)]), (LN_OPT_RXPWR 0, [(64, 1024)]), (LN_OPT_TXPWR 0, [(64, 1024)])] ++
  [(LK_STAT_STATE 0, [(64, 256)]), (LK_STAT_HELD 0, [(64, 256)]), (LK_STAT_PCAST 0, [(64, 256)]), (LK_WIN_EWIN 0, [(64, 256)]),
   (LK_PEER_ROLE 0, [(64, 256)]), (LK_PEER_DIR 0, [(64, 256)]), (LK_PEER_OFFSET 0, [(64, 256)]), (LK_PEER_COORD 0, [(64, 256)]),
   (LK_PEER_WIDTH 0, [(64, 256)]), (LK_PEER_PIDX 0, [(64, 256)]), (LK_PEER_PVER 0, [(64, 256)])] ++
  [(BP_FREE_CELLS 0, [(128, 2)]), (BP_SHSIZE_CELLS 0, [(128, 2)]), (BP_SHUSE_CELLS 0, [(128, 2)]), (BP_CRED_CELLS 0, [(128, 2)]),
   (BP_CRU_USE_USE 0, [(128, 2)]), (BP_MILM_USE_USE 0, [(128, 2)]), (BP_STK_USE_USE 0, [(128, 2)]), (BP_MDESC_USED 0, [(128, 2)]),
   (BP_AUD_STATE 0, [(128, 2)]), (SW_PSTAT_USE 0, [(64, 256)]), (SW_PSTAT_KEPT 0, [(64, 256)]),
   (SW_QDEPTH_DEPTH 0 0, [(64, 256), (4, 8)])] ++
  [(GT_GSTAT_ACTIVE 0, [(512, 256)]), (GT_GSTAT_PEND 0, [(512, 256)]), (GT_GSTAT_ALEN 0, [(512, 256)]), (GT_GSTART_LO 0, [(512, 256)]),
   (GT_GSTART_HI 0, [(512, 256)]), (GT_ACYCLE 0, [(512, 256)]), (GT_SHP_TOK 0 0, [(512, 256), (16, 8)])] ++
  [(CRU_CSTAT_CTX 0, [(16, 128)]), (CRU_CSTAT_INSET 0, [(16, 128)]),
   (MIL_BENCH_MAP_LOGICAL 0, [(4, 1024)]), (MIL_BENCH_MAP_HOSTED 0, [(4, 1024)]), (MIL_BENCH_MAP_RUN 0, [(4, 1024)]),
   (MIL_BSTAT_STATE 0, [(64, 1024)]), (MIL_BSTAT_ACTIVE 0, [(64, 1024)]), (MIL_BSTAT_ARMED 0, [(64, 1024)]),
   (MIL_BSTAT_RELOAD 0, [(64, 1024)]), (MIL_BSTAT_LEVELS 0, [(64, 1024)]), (MIL_BSTAT_INFLIGHT 0, [(64, 1024)]),
   (MIL_BPC_PC 0, [(64, 1024)]), (MIL_BBANK_K0_IMG 0, [(64, 1024)]), (MIL_BBANK_K0_V 0, [(64, 1024)]),
   (MIL_BBANK_K1_IMG 0, [(64, 1024)]), (MIL_BBANK_K1_V 0, [(64, 1024)])] ++
  [(MEM_HTEMP_TEMP 0, [(16, 8)]), (MEM_HSTAT_READY 0, [(16, 8)]), (MEM_HSTAT_DOUBLE 0, [(16, 8)])]

/-- The bits of the register at an address that show live state (R610). -/
def liveMask (a : Nat) : Word :=
  liveRo.foldl (fun m e => if RegSpec.hits ⟨e.1.addr, e.2, []⟩ a then m ||| e.1.mask else m) 0

/-! ### Fields formed when they are read -/

/-- The number of elements of a list that satisfy a condition, as it is shown. -/
def countOf {α : Type} (l : List α) (p : α → Bool) : Nat := (l.filter p).length

/-- Fields of MGT, PWR, TG, CST and FLT that are formed when they are read (R58, R111, R538, R594, R604). -/
def State.shownCore (s : State) (a : Nat) : List (Fld × Nat) :=
  let doms := List.range 50
  if a = TG_NOW_LO.addr then [(TG_NOW_LO, s.now % 2 ^ 32)]
  else if a = TG_NOW_HI.addr then [(TG_NOW_HI, s.now / 2 ^ 32 % 2 ^ 32)]
  else if a = CST_PROGRESS.addr then [(CST_PROGRESS, if s.phase? = phFetch then s.cst.staged.length
    else if s.nodeState = stApplying then min s.cst.len (Config.appliedBytes s.now) else 0)]
  else if a = CST_SPEND.addr then [(CST_SPEND, s.cst.spend.length)]
  else if a = FLT_STAT_JOBQ.addr then
    [(FLT_STAT_JOBQ, if s.quenched then 1 else 0),
     (FLT_STAT_ERRN, if s.bit FLT_CTRL_HOLD then 1 else match s.flt.errn with | .pulse _ => 1 | _ => 0),
     (FLT_STAT_PULSE, if s.flt.errn = .idle then 0 else 1)]
  else if a = SEC_QUEUE_WAIT.addr then [(SEC_QUEUE_WAIT, s.sec.queue.length)]
  else if a = DET_STAT_PAUSEPEND.addr then [(DET_STAT_PAUSEPEND, if s.rd64 DET_PAUSE_LO = 0 then 0 else 1)]
  else if a = PWR_SUM_ON.addr then
    [(PWR_SUM_ON, countOf doms (fun d => s.dom d == pwOn)), (PWR_SUM_RETAIN, countOf doms (fun d => s.dom d == pwRetain)),
     (PWR_SUM_OFF, countOf doms (fun d => s.dom d == pwOff)), (PWR_SUM_TRANSIT, countOf doms (fun d => s.dom d == pwTransit))]
  else match instIdx (PWR_STATE_STATE 0) 4 50 a with
    | some d => [(PWR_STATE_LOCKED d, if (s.powerRefusal d pwRetain).isSome && (s.powerRefusal d pwOff).isSome then 1 else 0)]
    | none => []

/-- Fields of TM, LN and LK (R324, R354, R485). -/
def State.shownLink (s : State) (a : Nat) : List (Fld × Nat) :=
  let lanes := List.range 1024
  if a = TM_SUM_ENABLED.addr then
    [(TM_SUM_ENABLED, countOf (List.range 768) (fun u => s.bit (TM_CFG_EN u) && s.domOn (unitDom u)))]
  else if a = LN_SUM_UP.addr then
    [(LN_SUM_UP, countOf lanes (fun k => s.portUp (k / 4))),
     (LN_SUM_FAILED, countOf lanes (fun k => s.bit (LN_STAT_FAILED k) && s.domOn (32 + k / 128)))]
  else if a = LK_SUM_UP.addr then [(LK_SUM_UP, countOf allPorts s.portUp)]
  else match instIdx (TM_ENT_USED 0) 32 768 a, instIdx (LN_ESTAT_CLASS 0) 16 16 a with
    | some u, _ => [(TM_ENT_USED u, if u < 256 then countOf s.fab.rxs (fun x => x.port == u) else 0)]
    | _, some n => [(LN_ESTAT_CLASS n, s.rd MGT_ID_OPT)]
    | _, _ => []

/-- The pool fields of die d at one of its addresses (R396). -/
def State.shownPool (s : State) (d a : Nat) : List (Fld × Nat) :=
  if a = (BP_FREE_CELLS d).addr then [(BP_FREE_CELLS d, s.freeCells d)]
  else if a = (BP_SHSIZE_CELLS d).addr then [(BP_SHSIZE_CELLS d, s.sharedSize d)]
  else if a = (BP_SHUSE_CELLS d).addr then [(BP_SHUSE_CELLS d, s.sharedUse d)]
  else if a = (BP_CRED_CELLS d).addr then [(BP_CRED_CELLS d, s.credTotal d)]
  else if a = (BP_CRU_USE_USE d).addr then [(BP_CRU_USE_USE d, s.acctUse d .cru)]
  else if a = (BP_MILM_USE_USE d).addr then [(BP_MILM_USE_USE d, s.acctUse d .milm)]
  else if a = (BP_STK_USE_USE d).addr then [(BP_STK_USE_USE d, s.acctUse d .stk)]
  else if a = (BP_MDESC_USED d).addr then [(BP_MDESC_USED d, s.multiUse d)]
  else if a = (BP_AUD_STATE d).addr && !(s.scaleLarge && s.bit SW_AUD_EN) then [(BP_AUD_STATE d, 0)]
  else []

/-- Fields of SW and BP, RT and GT (R396, R397, R422, R446). -/
def State.shownFab (s : State) (a : Nat) : List (Fld × Nat) :=
  if a = RT_NODE_VALID.addr then [(RT_NODE_VALID, if s.nodeValid then 1 else 0)]
  else if inSpan a 0x800100 0x100 then s.shownPool ((a - 0x800100) / 0x80) a
  else if inSpan a 0x810000 0x4000 then
    let k := (a - 0x810000) / 0x40
    let o := (a - 0x810000) % 0x40
    if a = (SW_PSTAT_USE k).addr then
      [(SW_PSTAT_USE k, (List.range 4).foldl (fun n q => n + s.acctUse (dieOf k) (.queue k q)) 0)]
    else if 0x10 ≤ o ∧ o < 0x30 then [(SW_QDEPTH_DEPTH k ((o - 0x10) / 4), s.depth k ((o - 0x10) / 4))]
    else []
  else if inSpan a 0x1010000 0x20000 then
    let k := (a - 0x1010000) / 0x200
    let o := (a - 0x1010000) % 0x200
    if 0x40 ≤ o ∧ o < 0xC0 ∧ o % 16 = 8 then
      let q := (o - 0x40) / 16
      [(GT_SHP_TOK k q, toWord32 (((s.port k).shaper q).tok))]
    else []
  else []

/-- The fields of MIL_BENCH_MAP[i] (R169): the logical Bench that runs, or ran last, and 0 where it hosts none. -/
def State.shownMap (s : State) (i : Nat) : List (Fld × Nat) :=
  let hosted := if s.inForce then (List.range s.benchN).filter (fun j => s.physOf j == i) else []
  let ran := (s.mill.ran.find? (fun e => e.1 == i && hosted.contains e.2)).map (·.2)
  [(MIL_BENCH_MAP_LOGICAL i, ran.getD (hosted.headD 0)), (MIL_BENCH_MAP_HOSTED i, hosted.length),
   (MIL_BENCH_MAP_ENABLED i, if s.hallOn (i / 32) then 1 else 0),
   (MIL_BENCH_MAP_RUN i, if ran.any (fun j => !s.yields j) then 1 else 0)]

/-- The fields of one logical Bench (R218). -/
def State.shownBench (s : State) (l : Nat) : List (Fld × Nat) :=
  let b := s.bench l
  let off := if b.active then b.k0 else b.k1
  [(MIL_BSTAT_STATE l, if b.st = .running ∧ s.rendezvous l = true then 2 else b.st.code), (MIL_BSTAT_ACTIVE l, if b.active then 1 else 0), (MIL_BSTAT_ARMED l, if b.armed then 1 else 0),
   (MIL_BSTAT_RELOAD l, if off.reload.isSome then 1 else 0), (MIL_BSTAT_LEVELS l, b.loops.length),
   (MIL_BSTAT_INFLIGHT l, b.flight.length), (MIL_BPC_PC l, b.pc), (MIL_BRET_LO l, b.ret % 2 ^ 32), (MIL_BRET_HI l, b.ret / 2 ^ 32 % 2 ^ 32),
   (MIL_BBANK_K0_IMG l, b.k0.img), (MIL_BBANK_K0_V l, if b.k0.valid then 1 else 0), (MIL_BBANK_K1_IMG l, b.k1.img),
   (MIL_BBANK_K1_V l, if b.k1.valid then 1 else 0)]

/-- Fields of CRU and MIL (R168, R169, R216, R218, R252, R254). -/
def State.shownMill (s : State) (a : Nat) : List (Fld × Nat) :=
  let n := if s.inForce then s.benchN else 0
  if a = CRU_ACTIVE_INUSE.addr then
    [(CRU_ACTIVE_INUSE, (((List.range 128).filter (fun c => s.domOn (44 + c / 64))).map s.ctxOf).sum)]
  else if inSpan a 0x1600000 0x800 then
    let c := (a - 0x1600000) / 0x10
    [(CRU_CSTAT_INSET c, if s.inForce && (List.range (nCol s.cst.img)).any (fun d => (colSet s.cst.img d).contains c) then 1 else 0)]
  else if a = MIL_HALL_MAP.addr then [(MIL_HALL_MAP, s.hallMap)]
  else if a = MIL_PLACE_PBENCH.addr then
    [(MIL_PLACE_PBENCH, s.physN), (MIL_PLACE_FOLD, if s.physN = 0 then 0 else (n + s.physN - 1) / s.physN)]
  else if a = MIL_LBENCH_LBENCH.addr then [(MIL_LBENCH_LBENCH, n)]
  else if inSpan a 0x1802000 0x1000 then s.shownMap ((a - 0x1802000) / 4)
  else if inSpan a 0x1900000 0x10000 then s.shownBench ((a - 0x1900000) / 0x40)
  else []

/-- The window of table t (R302): its lookups, gradients only, its update, its commit. -/
def State.tabPhase (s : State) (t : Nat) : Nat :=
  match s.stock.updates.find? (fun u => u.table == t) with
  | some u => if u.commit then 3 else 2
  | none =>
    let k := tabLkEnd s.cst.img t
    if s.jobRuns && decide (t < nTab s.cst.img ∧ k ≠ 0 ∧ s.tg.epochStart + k ≤ s.now) then 1 else 0

/-- The 10 flags of NUM_FLAGS_SUM: those of every unit whose domain is On (R143, R610). -/
def State.flagsSum (s : State) : Nat :=
  let b := (List.range 1024).foldl (fun m i => if s.domOn (i / 32) then m ||| s.word (NUM_BFLAGS_T_INVALID i).addr else m) (0 : Word)
  let c := (List.range 128).foldl (fun m i => if s.domOn (44 + i / 64) then m ||| s.word (NUM_CFLAGS_T_INVALID i).addr else m) b
  c.toNat % 2 ^ 10

/-- Fields of NUM and STK (R143, R302). -/
def State.shownNum (s : State) (a : Nat) : List (Fld × Nat) :=
  if a = NUM_FLAGS_SUM_T_INVALID.addr then [({ NUM_FLAGS_SUM_T_INVALID with width := 10 }, s.flagsSum)]
  else match instIdx (STK_TSTAT_PHASE 0) 64 256 a with
    | some t => [(STK_TSTAT_PHASE t, s.tabPhase t)]
    | none => []

/-- The fields of the register at an address that are formed when they are read. -/
def State.shown (s : State) (a : Nat) : List (Fld × Nat) :=
  (if a < 0x1C0000 then s.shownCore a
  else if a < 0x800000 then s.shownLink a
  else if a < 0x1400000 then s.shownFab a
  else if a < 0x2000000 then s.shownMill a
  else s.shownNum a).filter (fun e => e.1.addr == a)

/-- The word with its pending S-class writes: a read returns the last value written (R14). -/
def State.withPend (s : State) (a : Nat) (w : Word) : Word :=
  match s.cst.spend.find? (fun x => x.addr == a) with
  | some x => (w &&& ~~~(BitVec.ofNat 32 x.mask)) ||| (BitVec.ofNat 32 x.value &&& BitVec.ofNat 32 x.mask)
  | none => w

/-- The bits of a register's fields that satisfy `p`. -/
def RegSpec.bits (r : RegSpec) (p : FldSpec → Bool) : Word :=
  r.flds.foldl (fun m f => if p f then m ||| Fld.mask ⟨0, f.lo, f.width⟩ else m) 0

/-- What a register shows (R9 to R16, R607, R610): reserved bits and WO fields read 0. -/
def State.regView (s : State) (a : Nat) : Nat :=
  match findReg a with
  | none => 0
  | some r =>
    let w := s.withPend a (s.word a)
    let w := (s.shown a).foldl (fun w e => e.1.put w e.2) w
    let w := w &&& r.bits (fun f => f.acc != .wo)
    (if s.liveOn a then w else w &&& ~~~(liveMask a)).toNat

/-! ### Reads -/

/-- The low words of the 64-bit values that are not written by software (R8), each by its first instance and strides. -/
def lowRo : List (Nat × List (Nat × Nat)) :=
  [(MGT_SERIAL_LO.addr, []), (MGT_FWVER_LO_BUILD.addr, []), (TG_NOW_LO.addr, []), (TG_SEAM_LO.addr, []), (TG_NEXT_LO.addr, []),
   (TG_LATE_REL_LO.addr, []), (TG_LATE_ACT_LO.addr, []), (TG_PPS_TICK_LO.addr, []), (TG_PPS_TAI_LO.addr, []), (CST_SINCE_LO.addr, []),
   (FLT_SPLIT_SEAM_LO.addr, []), ((FLT_CAP_ADDR_LO 0).addr, [(32, 9)]), ((FLT_CAP_TICK_LO 0).addr, [(32, 9)])] ++
  [(SEC_EXPWR_LO.addr, []), (SEC_HEADCNT_LO.addr, []), (SEC_ATT_CNT_LO.addr, []), (SEC_ATT_TICK_LO.addr, []), (DET_LPOS_LO.addr, []),
   (DET_DIVSEAM_LO.addr, []), ((LN_SYM_LO 0).addr, [(64, 1024)]), ((LK_CORR_LO 0).addr, [(64, 256)]), ((SW_D2D_LO 0).addr, [(128, 2)]),
   ((GT_GSTART_LO 0).addr, [(512, 256)]), ((CRU_DSEAM_LO 0).addr, [(32, 1024)]), ((CRU_DDROP_LO 0).addr, [(32, 1024)])] ++
  [((CRU_CBEATS_LO 0).addr, [(16, 128)]), ((MIL_BRET_LO 0).addr, [(64, 1024)]), (NUM_ASSAY_N_LO.addr, []),
   ((NUM_TSTEP_LO 0).addr, [(32, 64)]), ((STK_TLOOK_LO 0).addr, [(64, 256)]), ((STK_THIT_LO 0).addr, [(64, 256)]),
   ((STK_TMISS_LO 0).addr, [(64, 256)]), ((STK_TSTEP_LO 0).addr, [(64, 256)]), (MEM_UE_ADDR_LO.addr, []), (MEM_UE_TICK_LO.addr, [])]

/-- The low words of the 64-bit RW values (R609); MIL_BRK_RET has its broadcast instance too (R213). -/
def lowRw : List (Nat × List (Nat × Nat)) :=
  [(CST_SRC_LO.addr, []), (DET_PAUSE_LO.addr, []), (DET_LBASE_LO.addr, []), (DET_FFROM_LO.addr, []), (DET_FTO_LO.addr, []),
   (SEC_KEYSRC_LO.addr, []), (SEC_EXPBASE_LO.addr, []), (SEC_EXPRD_LO.addr, []), (SEC_CLR_BASE_LO.addr, []),
   ((MGT_APER_LO 0).addr, [(8, 2)]), (MGT_BCADDR_LO.addr, []), ((GT_GBASE_LO 0).addr, [(512, 256)]),
   ((MIL_BRK_RET_LO 0).addr, [(64, 1025)]), (NUM_TSEED_LO.addr, [])]

/-- Whether an address is one of a list of low words. -/
def hitsLow (l : List (Nat × List (Nat × Nat))) (a : Nat) : Bool := l.any (fun e => RegSpec.hits ⟨e.1, e.2, []⟩ a)

/-- Whether the block of an address answers before READY: MGT, FLT and SEC (R571). -/
def earlyBlock (a : Nat) : Bool := decide (a < 0x40000) || decide (0x100000 ≤ a ∧ a < 0x180000)

/-- A read of the register window on a path (R7, R8, R565, R571, R607): the value, and the holding copy of the high word. The
management service keeps no copy (R565, R568). -/
def State.readReg (s : State) (p : Path) (a size : Nat) : Nat × State :=
  if size ≠ 4 ∨ a % 4 ≠ 0 then (0, s.fault .sw 0 0 p.master 0)
  else if !s.ready && !earlyBlock a then (0, s)
  else if a = MGT_BCDATA.addr then s.bcRead
  else
    let held := s.cst.heldHigh.find? (fun e => e.1 == p && e.2.1 == a)
    let rest := s.cst.heldHigh.filter (fun e => e.1 != p)
    match held with
    | some e => (e.2.2, { s with cst := { s.cst with heldHigh := rest } })
    | none =>
      let v := s.regView a
      if p != .ms && (hitsLow lowRo a || hitsLow lowRw a) then
        (v, { s with cst := { s.cst with heldHigh := rest ++ [(p, a + 4, s.regView (a + 4))] } })
      else (v, s)

end Sys2Proof.Machine
end

