-- ==== Sys2Proof/Machine/Apply.lean ====
section
/-! DEFINITION. Registers whose write acts by a rule of their own, as a register write and a FLDS entry share it, and the apply of a Casting
(R46, R65). -/

namespace Sys2Proof.Machine

/-! ### Fields that act when they are set -/

/-- A word with some bits taken from a value. -/
def State.putBits (s : State) (a : Nat) (m v : Word) : State := s.setWord a ((s.word a &&& ~~~m) ||| (v &&& m))

/-- The bits of RW and W1C fields that a register's own command handles (below). -/
def ownBits (a : Nat) : Word :=
  let all : Word := 0xFFFFFFFF
  if [MGT_BCDATA.addr, FLT_PEND_PEND.addr, DET_PAUSE_LO.addr, DET_PAUSE_HI.addr, MIL_HALL_DIS.addr, MEM_BCTL_EN_I.addr].contains a then all
  else if (instIdx (PWR_CTRL_REQ 0) 4 50 a).isSome || (instIdx (FLT_CAP_INFO_VALID 0) 32 9 a).isSome ||
      (instIdx (LN_ECTRL_TX_DIS 0) 16 16 a).isSome || (instIdx (LN_CTRL_TX_PAT 0) 64 1024 a).isSome ||
      (instIdx (LN_PEAK_CODE 0) 64 1024 a).isSome || (instIdx (LK_CTRL_ADMIN 0) 64 256 a).isSome then all
  else if (instIdx (TM_CFG_EN 0) 32 768 a).isSome then (TM_CFG_EN 0).mask
  else 0

/-- Bit `i` of a value. -/
def vBit (v i : Nat) : Bool := v / 2 ^ i % 2 == 1

/-- LN_CTRL (R310, R317 to R320): on a lane whose port is up, a write that sets a pattern, SLIP or SWEEP changes nothing. -/
def State.laneCtrl (s : State) (p : Master) (k v : Nat) : State :=
  if s.portUp (lanePort k) && (v % 64 ≠ 0 || vBit v 8 || vBit v 9) then s.patRefused p k
  else
    let s := (s.patternWrite p k (v % 8) (v / 8 % 8)).wrBit (LN_CTRL_ADAPT_EN k) (vBit v 6)
    let d := some (32 + k / 128)
    let s := if vBit v 8 then s.cmd d (fun s => s.slip p k) else s
    let s := if vBit v 9 then s.cmd d (fun s => s.sweepWrite p k) else s
    if vBit v 10 then s.cmd d (fun s => s.clearChecker k) else s

/-- LK_CTRL (R346, R355). -/
def State.linkCtrl (s : State) (p : Master) (k v : Nat) : State :=
  let s := s.admin p k (vBit v 0)
  let d := some (32 + k / 32)
  let s := if vBit v 1 then s.cmd d (fun s => s.alignedWrite k) else s
  if vBit v 2 then s.cmd d (fun s => s.retrain k) else s

/-- The Halls, domains, lanes, ports and units whose RW fields a write of `v` acts on (R155, R307, R346, R355, R463, R484, R567, R594): a
register write, or a FLDS entry (R46). -/
def State.ownWrite (s : State) (m : Master) (a v : Nat) : State :=
  if a = MGT_BCDATA.addr then s.bcWrite v
  else if a = MIL_HALL_DIS.addr then s.hallDisWrite m v
  else if a = MEM_BCTL_EN_I.addr then s.burnishCtrl v
  else match instIdx (PWR_CTRL_REQ 0) 4 50 a, instIdx (TM_CFG_EN 0) 32 768 a, instIdx (LN_ECTRL_TX_DIS 0) 16 16 a with
    | some d, _, _ => s.powerReq m d (v % 4)
    | _, some u, _ => s.tmEnable u (vBit v 0)
    | _, _, some n => s.txDis n (v % 2 ^ 16)
    | _, _, _ =>
      match instIdx (LN_CTRL_TX_PAT 0) 64 1024 a, instIdx (LN_PEAK_CODE 0) 64 1024 a, instIdx (LK_CTRL_ADMIN 0) 64 256 a with
      | some k, _, _ => s.laneCtrl m k v
      | _, some k, _ => s.peakCode k (v % 32)
      | _, _, some k => s.linkCtrl m k v
      | _, _, _ => s

/-- What a change of stored fields brings with it: the pooled region (R393), the auditor (R386), PPS_OUT (R91, R110). -/
def State.fieldEffects (s old : State) (a : Nat) : State :=
  if a = (BP_PCELLS_PCELLS 0).addr ∨ a = (BP_PCELLS_PCELLS 1).addr then s.movedCells [old.pcells 0, old.pcells 1]
  else if a = SW_AUD_EN.addr then
    (if s.bit SW_AUD_EN then s else (s.wr (BP_AUD_STATE 0) 0).wr (BP_AUD_STATE 1) 0)
  else if a = TG_CTRL_PPS_OUT_EN.addr ∨ a = RT_NODE_W.addr then s.ppsGate
  else s

/-! ### Holds -/

/-- Whether seam s is a save seam (R496). -/
def isSave (m : List Byte) (n : Nat) : Bool := match epochOf m (n - 1) with | some (_, fl) => fl % 2 == 1 | none => false

/-- DET_PAUSE: a hold is requested at a later save seam, or refused (R496). -/
def State.detPause (s : State) (m : Master) (n : Nat) : State :=
  if s.inForce && decide (s.rd64 TG_SEAM_LO < n) && isSave s.seamSect n then s.wr64 DET_PAUSE_LO n
  else s.writeRefused ceState m

def execDetPause (t : Nat) (p : Path) (n : Nat) (s : State) : Host.Outcome State Fault Refusal :=
  .next ((s.at t).cmd none (fun s => s.detPause p.master n))

/-! ### FLDS -/

/-- The bits that a FLDS entry selects take its value (R46): in a register whose fields act when they are set, as a write of them acts
(log 73). -/
def State.setFields (s : State) (a v m : Nat) : State :=
  let own := ownBits a &&& BitVec.ofNat 32 m
  let t := s.putBits a (BitVec.ofNat 32 m &&& ~~~own) (BitVec.ofNat 32 v)
  let w := ((t.word a &&& ~~~own) ||| (BitVec.ofNat 32 v &&& own)).toNat
  let t :=
    if own = 0 then t
    else if a = DET_PAUSE_LO.addr then t.detPause mCast (w + 2 ^ 32 * t.rd DET_PAUSE_HI)
    else if a = DET_PAUSE_HI.addr then t.detPause mCast (t.rd DET_PAUSE_LO + 2 ^ 32 * w)
    else t.ownWrite mCast a w
  t.fieldEffects s a

/-- The FLDS entries of one AT, in order: 0 is step 3 of the apply, n the n-th seam (R46, R65). -/
def State.applyFlds (s : State) (at' : Nat) : State :=
  let x := sect s.cst.img tyFLDS
  (List.range (x.length / 16)).foldl (fun s i =>
    let (a, v, m, t) := fldsEntry x i
    if t = at' then s.setFields a v m else s) s

/-! ### The apply -/

/-- Step 4: SEAM arms the first seam (R97 to R99). -/
def State.applySeam (s : State) : State :=
  let m := s.seamSect
  let s := s.wr64 TG_SEAM_LO (seamBase m)
  if seamMode m = 1 then ({ s with tg := { s.tg with start := some (seamStartTick m) } }).schedule (seamStartTick m) else s

/-- The node counts from REF_IN alone, with no correction (R81). -/
def State.freeRun (s : State) : State :=
  let s := { (s.wr TG_STATUS_SYNC syFree).wr TG_SLEW 0 with tg := { s.tg with lockRun := 0 } }
  s.ppsGate

/-- The time root that the Casting names (R37, R41, R87, R109); `was` says whether this node was the last one. -/
def State.applyRoot (s : State) (was : Bool) : State :=
  let img := s.cst.img
  let root := coordCode (imgRoot img)
  let isRoot := root == coordCode (imgCoord img)
  let pps := imgFlags img / 2 % 2 == 1
  let keep := was && s.tg.pps && pps
  let s := { s with tg := { s.tg with root := some root, pps := pps } }
  let s := s.wrBit TG_STATUS_ROOT isRoot
  if isRoot then
    let s := (((s.wr TG_STATUS_HOPS 0).wr TG_STATUS_PARENT_DIR 0).wr TG_STATUS_PARENT_PORT 0).wr TG_OFFSET 0
    if keep then s
    else ({ s.wrBit TG_STATUS_PPS_OK false with tg := { s.tg with phase := none, tai := none, ppsEdge := none } }).freeRun
  else
    let s := s.wrBit TG_STATUS_PPS_OK false
    if was then s.freeRun else s.ppsGate

/-- The GUARD records of guard values that the apply sets (R276, R278, R554). -/
def State.applyGuards (s : State) (assay watch : Nat) : State :=
  let a := NUM_ASSAY_RATE.addr
  let w := NUM_WATCH_SILENT_RUN.addr
  let s := if 12 < s.rd NUM_ASSAY_RATE then
      s.hallAfter 3 0xC (leBytes 4 a ++ leBytes 4 assay ++ leBytes 4 (s.word a).toNat) else s
  if s.rd NUM_WATCH_SILENT_RUN = 0 then
    s.hallAfter 3 0xC (leBytes 4 w ++ leBytes 4 watch ++ leBytes 4 (s.word w).toNat) else s

/-- The queues of every port that is down, UP being the only other state here (R385), are flushed as R384 flushes them (R394): copies
flushed on each die. -/
def State.flushDown (s : State) : List Nat × State :=
  (allPorts.filter (fun k => !s.portUp k)).foldl (fun (r : List Nat × State) k =>
    let (n, t) := r.2.dropCopies k false
    let (m, t) := t.dropCred k
    (r.1.set (dieOf k) (r.1.getD (dieOf k) 0 + n + m), t)) ([0, 0], s)

/-- Ports after the apply (R349, R348): those whose LK_CFG changed go down; on the others of the fabric the node sends its IDENT
symbols again, and judges the partner's. -/
def State.applyPorts (s : State) (before : List Word) : State :=
  allPorts.foldl (fun s k =>
    if s.word (LK_CFG_USE k).addr ≠ before.getD k 0 then s.cfgChanged k
    else if !isEndpoint k && decide (4 ≤ s.rd (LK_STAT_STATE k)) then (s.queueIdent k).identJudge k
    else if isEndpoint k && s.rd (LK_STAT_STATE k) == 5 then s.identJudge k
    else s) s

/-- Steps 1 to 4 of the apply (R65). KERN comes after the FLDS entries, on which its placement rests: a Hall that they disable takes no part
in it (R154; DESIGN CHOICE, log 73). -/
def State.applySteps (s : State) : State :=
  let old := [s.pcells 0, s.pcells 1]
  let (n, s) := s.flushDown
  let s := { s with cst := { s.cst with img := s.cst.staged } }
  let s := s.dropJobData.applyStep1
  let s := (s.addSat (BP_FLUSH 0) (n.getD 0 0)).addSat (BP_FLUSH 1) (n.getD 1 0)
  let s := ((s.applyPort.applyPool.movedCells old).applyMand).applyStck
  ((s.applyGate.applyNump.applyFlds 0).applyKern).applySeam

/-- The Casting is in force (R56, R65): hallmark, digest, counters, state. -/
def State.castInForce (s : State) (assay watch : Nat) : State :=
  let img := s.cst.img
  let dig := imgDigest img
  let s := s.hall 3 (dig ++ leBytes 8 (imgSeq img) ++ leBytes 8 (imgJob img) ++ [BitVec.ofNat 8 (imgKeySlot img), 0, 0, 0])
  let s := (s.applyGuards assay watch).wrBytes CST_DIGEST dig
  let s := (s.wr CST_STATE_SCALE (imgScale img)).wrBit CST_STATE_MAPINV (imgMapInv img)
  let s := ((s.wr CST_STATE_CONTRACT (imgContract img)).inc CST_CASTS).dropStaged
  s.toNodeState stCast 0

/-- The apply of the staged Casting, whole (R65). -/
def State.applyWhole (s : State) : State :=
  let before := allPorts.map (fun k => s.word (LK_CFG_USE k).addr)
  let assay := (s.word NUM_ASSAY_RATE.addr).toNat
  let watch := (s.word NUM_WATCH_SILENT_RUN.addr).toNat
  let was := s.isRoot
  let s := (s.applySteps.applyRoot was).castInForce assay watch
  let s := ((s.applyPorts before).switchHeld).takeSectLists 1 0
  s.tg.readies.foldl State.judgeReady s

/-- APPLY_COMPLETE (R65): once the Halls it needs are On. -/
def State.applyComplete (s : State) : State := if s.nodeState = stApplying ∧ s.hallsReady = true then s.applyWhole else s

def execApplyComplete (t : Nat) (s : State) : Host.Outcome State Fault Refusal := .next (s.at t).applyComplete

end Sys2Proof.Machine
end

