-- ==== Sys2Proof/Machine/Grid.lean ====
section
/-! DEFINITION. Seams (R72 to R75, R99 to R101), the first epoch and the run key (R95, R98, R486 to R488), overdue steps (R107),
holds (R496 to R498) and replay (R505, R506). -/

namespace Sys2Proof.Machine

/-! ### Epoch boundaries of the Benches -/

/-- The slots of a SEAM bundle end, armed banks swap (R204); the swapped Benches. -/
def State.seamSwap (s : State) : List Nat × State :=
  (List.range s.benchN).foldl (fun (r : List Nat × State) l =>
    let s := r.2
    let b := s.bench l
    let done (x : Slot) : Slot := if x.pos = 7 ∧ x.phase = .performed ∧ bitsOf x.word 0 4 = 2 then { x with phase := .complete } else x
    let b := { b with flight := b.flight.map (fun u => { u with slots := u.slots.map done }) }
    let s := s.setBench l b
    if b.armed then
      let s := s.swapBanks l
      (r.1 ++ [l], if b.halted then s.setBench l { s.bench l with restart := true } else s)
    else (r.1, s)) ([], s)

/-- A new epoch begins on the Benches (R158, R203, R204, R209): those at their SEAM bundle go on, and drained ones that were given code
start at its ENTRY. -/
def State.epochBenches (s : State) : State :=
  let s := (List.range s.benchN).foldl (fun s l =>
    let b := s.bench l
    let st : BState := match b.st with
      | .idle => .running
      | .waiting => if b.atSeam then .running else .waiting
      | .drained => if b.restart then .running else .drained
      | x => x
    s.setBench l { b with st := st, atSeam := false, restart := false, halted := b.halted && !b.restart, macs := 0, regs := { b.regs with rel := none } }) s
  s.foldStart

/-! ### Changes at a seam -/

/-- A guard value that a seam applies is hallmarked after the seam's record (R276, R278, R554). -/
def State.seamGuards (s : State) (assay watch : Option Word) : State :=
  let a := NUM_ASSAY_RATE.addr
  let w := NUM_WATCH_SILENT_RUN.addr
  let s := match assay with
    | some old => if 12 < s.rd NUM_ASSAY_RATE then
        s.hallAfter 6 0xC (leBytes 4 a ++ leBytes 4 old.toNat ++ leBytes 4 (s.word a).toNat) else s
    | none => s
  match watch with
  | some old => if s.rd NUM_WATCH_SILENT_RUN = 0 then
      s.hallAfter 6 0xC (leBytes 4 w ++ leBytes 4 old.toNat ++ leBytes 4 (s.word w).toNat) else s
  | none => s

/-- One pending host S-class write applies (R72): a gate commit takes its list into force (R433, R436). -/
def State.applyWrite (s : State) (w : SWrite) : State :=
  if (0x1000000 ≤ w.addr ∧ w.addr < 0x1400000) then
    match allPorts.find? (fun k => (GT_GCTL_COMMIT k).addr == w.addr) with
    | some k => s.commitList k
    | none => s
  else s.setWord w.addr ((s.word w.addr &&& ~~~(BitVec.ofNat 32 w.mask)) ||| BitVec.ofNat 32 w.value)

/-- Address, value and mask of the writes that a seam applies (R490, R553). -/
def writeBytes (ws : List SWrite) : List Byte := ws.flatMap (fun w => leBytes 4 w.addr ++ leBytes 4 w.value ++ leBytes 4 w.mask)

/-- Host reloads whose swap applies at this seam, by logical Bench (R211, R490). -/
def State.swapped (s : State) (ls : List Nat) : List (Nat × Bool × Nat) :=
  s.mill.swaps.flatMap (fun e =>
    (ls.filter (fun l => (e.1 == l || e.1 == 0xFFFF) && (s.bench l).active == e.2.1 && ((s.bench l).bank e.2.1).img == e.2.2)).map
      (fun l => (l, e.2.1, e.2.2)))

/-- The control chain after a seam with changes (R490). -/
def State.chainSeam (s : State) (n : Nat) (ws : List SWrite) (sw : List (Nat × Bool × Nat)) : Bool × State :=
  if ws = [] ∧ sw = [] then (false, s)
  else
    let rec' := leBytes 8 n ++ writeBytes ws ++ sw.flatMap (fun e => leBytes 4 e.1 ++ [if e.2.1 then 1 else 0] ++ leBytes 2 e.2.2)
    (true, s.wrBytes DET_CTL (sha384 (s.rdBytes DET_CTL 12 ++ rec')))

/-- The first save seam after `n`, walking the entries from `e`, which begins with epoch `b` (R496). -/
def nextSave (m : List Byte) : Nat → Nat → Nat → Nat → Option Nat
  | 0, _, _, _ => none
  | k + 1, e, b, n =>
    let (_, rep, fl) := seamEntry m e
    if fl % 2 = 1 ∧ (rep = 0 ∨ max n b < b + rep) then some (max n b + 1)
    else if rep = 0 then none
    else nextSave m k (e + 1) (b + rep) n

/-- The save seam that a hold may name after count `n`. -/
def saveAfter (m : List Byte) (n : Nat) : Option Nat := nextSave m (seamEntries m) 0 (seamBase m) n

/-- The job is held (R497): hallmarked with the run key, the chain and the sums of the ended epoch. -/
def State.holdNow (s : State) (n : Nat) : State :=
  let s := ((s.wrBit DET_STAT_HELD true).wr64 DET_PAUSE_LO 0).inc DET_HOLDS
  let s := { s.wr64 TG_NEXT_LO noSeam with tg := { s.tg with start := none, continuing := false } }
  s.hall 8 (leBytes 8 n ++ s.rdBytes DET_RKEY 12 ++ s.rdBytes DET_CTL 12 ++ s.rdBytes DET_INSUM 8 ++ s.rdBytes DET_OUTSUM 8)

/-- Every logical Bench is at rest (R497). -/
def State.benchesRest (s : State) : Bool :=
  (List.range s.benchN).all (fun l => let b := s.bench l; b.st == .drained || (b.atSeam && b.loops.isEmpty))

/-- A place of the replay log holds no entry to inject before the next marker: an entry without a payload, or after a gap (R505). -/
def State.logStops (s : State) : Nat → Nat → Bool
  | 0, _ => false
  | fuel + 1, pos =>
    if s.logSize - 256 < pos + 32 then true
    else
      let (_, port, fl, _, n) := s.logAt pos
      if port = 0xFFFF then false
      else if fl % 2 = 0 ∨ fl / 2 % 2 = 1 then true
      else State.logStops s fuel (pos + n)

/-- The place after the marker of seam n in the replay log, from a place on, with its scheduled tick (R505). -/
def State.logMarker (s : State) (n : Nat) : Nat → Nat → Option (Nat × Nat)
  | 0, _ => none
  | fuel + 1, pos =>
    if s.logSize - 256 < pos + 32 then none
    else
      let (h, port, _, _, len) := s.logAt pos
      if port = 0xFFFF ∧ leAt h 0 8 = n then some (pos + len, leAt h 8 8) else State.logMarker s n fuel (pos + len)

/-- Whether replay stops at seam n (R505). -/
def State.replayStops (s : State) (n : Nat) : Bool :=
  s.rd DET_STAT_MODE == 2 && (match s.logMarker n (s.logSize / 32) s.det.pos with
    | some (p, _) => s.logStops (s.logSize / 32) p
    | none => true)

/-- The hold that seam n brings, where it was asked for or replay stops (R497, R505): held, or moved to the next save seam. -/
def State.seamHold (s : State) (n : Nat) : State :=
  if s.replayStops n then s.holdNow n
  else if s.rd64 DET_PAUSE_LO = n ∧ n ≠ 0 then
    if s.benchesRest then s.holdNow n
    else (s.wr64 DET_PAUSE_LO ((saveAfter s.seamSect n).getD 0)).fault .sw 0 0 mNone
  else s

/-! ### SEAM -/

/-- Whether the seam that ends the epoch may occur now (R100, R101, R158). -/
def State.seamMay (s : State) : Bool :=
  let sched := s.rd64 TG_NEXT_LO
  s.jobRuns && sched != noSeam && decide (sched ≤ s.now) && (s.now == sched || decide (s.tg.lastRelease < s.now)) &&
    s.tg.gates.isEmpty && !s.collPending && !s.temperPending && !s.stockPending &&
    s.stock.lookups.all (fun x => decide (sched < x.arrived + tabLat s.cst.img x.table)) &&
    (List.range s.benchN).all (fun l => let b := s.bench l; b.st != .brk && (b.atSeam || b.st == .drained))

/-- The sums of the epoch that ends (R492). -/
def State.seamSums (s : State) : State :=
  let s := (s.wrBytes DET_INSUM (leBytes 32 s.det.insum)).wrBytes DET_OUTSUM (leBytes 32 s.det.outsum)
  { s with det := { s.det with insum := 0, outsum := 0 } }

/-- What goes to 0 or ends at every seam (R198, R250, R261, R294). -/
def State.seamClears (s : State) : State :=
  let s := s.resetWords ((s.regs.filter (fun e => decide ((MIL_SYNC 0).addr ≤ e.1 ∧ e.1 < (MIL_SYNC 4096).addr))).map (·.1))
  let s := s.collSeam.stockSeam
  { s with temper := { s.temper with fed := [], normIn := [], normOut := [] } }

/-- The changes of a seam (R46, R72): FLDS entries that name it, then the pending writes that came 64 ticks before it; the writes
applied. -/
def State.seamChanges (s : State) (n sched : Nat) : List SWrite × State :=
  let ws := s.cst.spend.filter (fun w => decide (w.tick + 64 ≤ sched))
  let keep := s.cst.spend.filter (fun w => !decide (w.tick + 64 ≤ sched))
  let s := s.applyFlds (n - seamBase s.seamSect)
  (ws, ws.foldl State.applyWrite { s with cst := { s.cst with spend := keep } })

/-- A word that a seam sets by an FLDS entry or a pending write: its old value. -/
def State.seamSets (s : State) (n : Nat) (ws : List SWrite) (a : Nat) (old : Word) : Option Word :=
  let x := sect s.cst.img tyFLDS
  let at' := n - seamBase s.seamSect
  if ws.any (fun w => w.addr == a) || (List.range (x.length / 16)).any (fun i => let e := fldsEntry x i; e.1 == a && e.2.2.2 == at')
  then some old else none

/-- The SEAM record (R74, R100, R553). -/
def State.seamHall (s : State) (n sched : Nat) (ws : List SWrite) (chain : Bool) : State :=
  let dig := if ws = [] then List.replicate 32 0 else sha256 (writeBytes ws)
  s.hall 6 (leBytes 8 n ++ leBytes 8 sched ++ leBytes 8 s.now ++ leBytes 4 ws.length ++
    leBytes 4 (s.rd TG_STATUS_TIMING_LOST + (if chain then 2 else 0)) ++ dig)

/-- The epoch after seam n begins at its scheduled tick (R99, R101); none begins in a drain or a hold. -/
def State.nextEpoch (s : State) (n sched : Nat) : State :=
  let s := { s with tg := { s.tg with epochStart := sched, lastRelease := 0 } }
  if s.nodeState = stDraining then
    { s.wr64 TG_NEXT_LO noSeam with cst := { s.cst with seamDone := true } }
  else if s.bit DET_STAT_HELD then s
  else
    let s := s.epochBenches
    match epochOf s.seamSect n with
    | some (len, _) => s.wr64 TG_NEXT_LO (sched + len)
    | none => s.wr64 TG_NEXT_LO noSeam

/-- SEAM (R72, R100, R204, R490, R492, R497). -/
def State.seam (s : State) : State :=
  if s.seamMay then
    let sched := s.rd64 TG_NEXT_LO
    let n := s.rd64 TG_SEAM_LO + 1
    let s := if sched < s.now then s.release 4 0 sched s.now else s
    let oldA := s.word NUM_ASSAY_RATE.addr
    let oldW := s.word NUM_WATCH_SILENT_RUN.addr
    let s := s.wr64 TG_SEAM_LO n
    let (ws, s) := s.seamChanges n sched
    let (ls, s) := s.seamSwap
    let sw := s.swapped ls
    let (chain, s) := s.chainSeam n ws sw
    let s := (s.seamSums.seamHall n sched ws chain).seamGuards (s.seamSets n ws NUM_ASSAY_RATE.addr oldA)
      (s.seamSets n ws NUM_WATCH_SILENT_RUN.addr oldW)
    let (now', later) := s.mill.swaps.partition (fun e => sw.any (fun w => (e.1 == w.1 || e.1 == 0xFFFF) && e.2 == w.2))
    let s := now'.foldl (fun s e => s.hall 0xE (reloadBody e.1 e.2.1 e.2.2 n)) s
    let s : State := { s with mill := { s.mill with swaps := later } }
    let s : State := s.seamClears
    let s : State := if s.rd DET_STAT_MODE = 1 then s.logWrite s.now (leBytes 8 n ++ leBytes 8 sched) 0xFFFF none 0 else s
    (s.seamHold n).nextEpoch n sched
  else s

def execSeam (t : Nat) (s : State) : Host.Outcome State Fault Refusal := .next (s.at t).seam

/-! ### The first epoch -/

/-- The run-key record with given MAP bytes (R486). -/
def State.runKeyRecord (s : State) (map : List Byte) : List Byte :=
  leBytes 4 0x4B525A54 ++ leBytes 2 1 ++ leBytes 2 0 ++ imgDigest s.cst.img ++ leBytes 8 ((s.word MGT_FWVER_LO_BUILD.addr).toNat + 2 ^ 32 * (s.word MGT_FWVER_HI_MINORH.addr).toNat) ++ map ++
    s.rdBytes DET_INDIG 12 ++ leBytes 8 (s.rd64 NUM_TSEED_LO) ++ leBytes 4 (s.word NUM_POLICY_FAST_ALLOW.addr).toNat ++ leBytes 4 0

/-- The run key and the bit key are formed (R487, R488). -/
def State.formRunKey (s : State) : State :=
  let r := s.runKeyRecord (sha256 (leBytes 4 (2 ^ 32 - 1 - s.hallMap)))
  let key := sha384 r
  let bkey := if imgMapInv s.cst.img then sha384 (s.runKeyRecord (List.replicate 32 0)) else key
  let s := (s.wrBytes DET_RKEY key).wrBytes DET_BKEY bkey
  ((s.wrBit DET_STAT_RKVALID true).wrBit DET_STAT_MAPCHG false).hall 7 (key ++ bkey ++ r)

/-- The head of a log (R502). -/
def State.logHead (s : State) (start : Nat) : List Byte :=
  leBytes 4 0x4C525A54 ++ leBytes 2 1 ++ leBytes 2 (s.rd DET_RCTL_SCOPE) ++ s.rdBytes DET_RKEY 12 ++ leBytes 8 start ++
    leBytes 8 (s.rd64 DET_FFROM_LO) ++ leBytes 8 (s.rd64 DET_FTO_LO) ++ List.replicate 176 0

/-- The mode of DET_RCTL engages at the start tick (R501, R502, R505, R509). -/
def State.engageMode (s : State) (start : Nat) : State :=
  let m := s.rd DET_RCTL_MODE
  if m = 0 then s
  else if s.logOk = false then s.fault .sw 1 0 mNone
  else
    let s := s.wr DET_STAT_MODE m
    match m with
    | 1 => (s.memWrite mNone s.logBase (s.logHead start)).2
    | 2 =>
      let s := endpointPorts.foldl (fun s k => if s.rd (LK_STAT_STATE k) = 0 then s.wrBit (LK_STAT_HELD k) true else s.portDown k 2) s
      match s.logMarker (s.rd64 TG_SEAM_LO) (s.logSize / 32) 0 with
      | some (p, ts) => { s with det := { s.det with pos := p, shift := some (ts, start) } }
      | none => s
    | _ => s

/-- A late start (R96, R98). -/
def State.lateStart? (s : State) (start : Nat) : State :=
  if start < s.now then (s.wrBit TG_STATUS_TIMING_LOST true).fault .time 1 0 mTime else s

/-- The schedule begins or goes on at tick `start` (R99, R158). -/
def State.beginEpochs (s : State) (start : Nat) : State :=
  let s := { s with tg := { s.tg with epochStart := start, lastRelease := 0, start := none, continuing := false } }
  (s.schedule start).epochBenches

/-- FIRST_EPOCH_START: the first epoch of a Casting, or the one after a hold (R95, R96, R98, R487, R498). -/
def State.firstEpoch (s : State) : State :=
  match s.tg.start with
  | none => s
  | some start =>
    if s.nodeState = stCast ∧ s.quenched = false ∧ start ≤ s.now then
      if s.bit TG_STATUS_STARTED then
        if s.bit DET_STAT_HELD && s.tg.continuing then
          let s := (s.lateStart? start).shiftLists (start - s.tg.epochStart)
          let s := (s.wrBit DET_STAT_HELD false).hall 9 (leBytes 8 (s.rd64 TG_SEAM_LO) ++ leBytes 8 start)
          s.beginEpochs start
        else s
      else
        let s := (s.lateStart? start).wrBit TG_STATUS_STARTED true
        let s := (s.formRunKey.engageMode start).takeSectLists 0 start
        let s := s.beginEpochs start
        if s.replayStops (s.rd64 TG_SEAM_LO) then s.holdNow (s.rd64 TG_SEAM_LO) else s
    else s

def execFirstEpochStart (t : Nat) (s : State) : Host.Outcome State Fault Refusal := .next (s.at t).firstEpoch

/-! ### Overdue steps -/

/-- Whether the unit of a kind still owes a result with release tick `rel` (R103, R107). -/
def State.owes (s : State) (kind unit rel : Nat) : Bool :=
  match kind with
  | 0 => s.tg.gates.any (fun g => g.kind == 0 && g.unit == unit && g.rel == rel) ||
      (decide (unit < s.benchN) && (let b := s.bench unit
        b.regs.rel == some rel && !(b.atSeam || b.st == .drained)))
  | 1 => s.coll.insts.any (fun i => i.desc == unit && !i.stopped &&
      (List.range (colChunks s.cst.img unit)).any (fun j => !i.released.contains j && i.relAt s.cst.img j == rel))
  | 2 => s.temper.steps.any (fun x => x.stage == unit &&
      (List.range (colChunks s.cst.img x.desc)).any (fun j => !x.released.contains j && x.relAt s.cst.img j == rel))
  | 3 => s.stock.updates.any (fun u => u.table == unit && u.start + tabUpdRel s.cst.img unit == rel) ||
      s.stock.lookups.any (fun x => x.table == unit && x.arrived + tabLat s.cst.img unit == rel)
  | _ => s.rd64 TG_NEXT_LO == rel && rel != noSeam

/-- OVERDUE_STEP: a result still unreleased TG_LATE_LIMIT ticks after its release tick is reported once (R107). -/
def State.overdueStep (s : State) (kind unit rel : Nat) : State :=
  if s.jobRuns && s.owes kind unit rel && decide (rel + s.rd TG_LATE_LIMIT ≤ s.now) && !s.tg.overdue.contains (kind, unit, rel) then
    ({ s with tg := { s.tg with overdue := (kind, unit, rel) :: s.tg.overdue } }).fault .sched 1 0 (gateMaster kind unit)
  else s

def execOverdueStep (t kind unit rel : Nat) (s : State) : Host.Outcome State Fault Refusal :=
  .next ((s.at t).overdueStep kind unit rel)

/-! ### Holds -/

/-- CONTINUE (R498): a held node becomes ready under R93 for the barrier whose start tick begins the next epoch, whatever its
START_MODE; a second one while that barrier is in progress is accepted and changes nothing (log 48). -/
def State.continueCmd (s : State) (p : Path) : State :=
  if s.bit DET_STAT_HELD then
    if s.tg.continuing then s
    else { s with tg := { s.tg with continuing := true, sentReady := false, start := none } }
  else s.writeRefused ceState p.master

def execContinue (t : Nat) (p : Path) (s : State) : Host.Outcome State Fault Refusal := .next ((s.at t).cmd none (fun s => s.continueCmd p))

/-- CANCEL: the hold request is cleared (R496). -/
def State.cancelCmd (s : State) : State := s.wr64 DET_PAUSE_LO 0

def execCancel (t : Nat) (s : State) : Host.Outcome State Fault Refusal := .next ((s.at t).cmd none (fun s => s.cancelCmd))

/-- DET_CMD op 3 to 15 (R508). -/
def execDetCmdReserved (t : Nat) (p : Path) (op : Nat) (s : State) : Host.Outcome State Fault Refusal :=
  .next ((s.at t).cmd none (fun s => if 3 ≤ op ∧ op ≤ 15 then s.writeRefused ceState p.master else s))

/-! ### Replay -/

/-- A flit of the log enters its port after the receive Touchmark (R505). -/
def State.injectFlit (s : State) (k : Nat) (head data : List Byte) : State :=
  match parseFlit head data ⟨0, 0, false, false⟩ with
  | none => s
  | some f =>
    let (c, s) := s.genCheck k data false
    s.orderFlit k { f with check := c } true

/-- A host write of the log is applied as one (R505): the bytes that its address and length name, within their cell. -/
def State.injectHost (s : State) (p : Nat) (head data : List Byte) : State :=
  let a := leAt head 0 8
  let n := leAt head 8 4
  let s := (s.memWrite (mHost p) a (slice data (a % 256) n)).2
  s.accept (256 + p) head head data false true

/-- REPLAY_INJECT: the next log entry is injected at its shifted tick; one that comes later is a slip (R505, R506). -/
def State.replayInject (s : State) : State :=
  match s.det.shift with
  | none => s
  | some (ts, start) =>
    let pos := s.det.pos
    if s.rd DET_STAT_MODE ≠ 2 ∨ s.jobRuns = false ∨ s.logSize - 256 < pos + 32 then s
    else
      let (h, port, fl, _, n) := s.logAt pos
      let tick := leAt (s.bytesAt (s.logBase + 256 + pos) 8) 0 8
      if port = 0xFFFF then { s with det := { s.det with pos := pos + n } }.add64 DET_LPOS_LO n
      else if fl % 2 = 0 ∨ fl / 2 % 2 = 1 ∨ s.now + ts < tick + start then s
      else
        let data := s.bytesAt (s.logBase + 256 + pos + 32) 256
        let s := { s with det := { s.det with pos := pos + n } }.add64 DET_LPOS_LO n
        let s := if tick + start < s.now + ts then
            ((s.inc DET_LOST).raise DET_STAT_DIVERGED).fault .sw 1 0 mNone else s
        if port < 256 then s.injectFlit port h data
        else if port < 258 then s.injectHost (port - 256) h data else s

def execReplayInject (t : Nat) (s : State) : Host.Outcome State Fault Refusal := .next (s.at t).replayInject

end Sys2Proof.Machine
end

