-- ==== Sys2Proof/Machine/Access.lean ====
section
/-! DEFINITION. Writes of the register window (R7 to R15, R68 to R71, R607 to R610), with the effect of each register that has one of its
own, and the accesses of host ports, the board controller and the management service (R8, R566, R568, R609). -/

namespace Sys2Proof.Machine

/-! ### Fields of a write -/

/-- The bits of a register whose fields have an access code and an apply class. -/
def RegSpec.kind (r : RegSpec) (acc : Acc) (app : App) : Word := r.bits (fun f => f.acc == acc && f.app == app)

/-- The ingest sum of a die with new values of SW_ING_W and MIL_ING_RES (R390, R391). -/
def ingestFits (w r : Word) : Bool :=
  let sum := SW_ING_W_W_PORT.get w + SW_ING_W_W_CRU.get w + SW_ING_W_W_STK.get w
  [MIL_ING_RES_RES_S0, MIL_ING_RES_RES_S1].all (fun f => decide (sum + 2 * min 16 (f.get r) ≤ 127))

/-- The shares of a value of STK_SHARE obey R301. -/
def sharesFit (w : Word) : Bool :=
  decide (STK_SHARE_SH_STOCK.get w + STK_SHARE_SH_MILL.get w + STK_SHARE_SH_REPLAY.get w + STK_SHARE_SH_BURN.get w ≤ 256) &&
  decide (1 ≤ STK_SHARE_SH_BURN.get w)

/-- What the rule of a register's own block refuses of a write: the bits it keeps and the code, 0 where the rule names none (R301,
R391, R437, R487, R501, R522, R529, R562; log 9). -/
def State.ownRule (s : State) (a : Nat) (v : Word) : Word × Nat :=
  let all : Word := 0xFFFFFFFF
  let started := s.bit TG_STATUS_STARTED
  let uncast := s.disp .c == .now
  if inSpan a (DET_INDIG 0).addr 0x30 then (if started then all else 0, ceState)
  else if inSpan a DET_RCTL_MODE.addr 0x20 then (if started then all else 0, ceBusy)
  else if a = FLT_CTRL_HOLD.addr then (if s.nodeQuenched && FLT_CTRL_HOLD.get v == 0 then FLT_CTRL_HOLD.mask else 0, 0)
  else if a = FLT_INJ_KIND.addr then (if s.bit FLT_INJ_LEFT_ARMED then all else 0, 0)
  else if [SEC_EXPSIZE_SIZE.addr, SEC_EXPBASE_LO.addr, SEC_EXPBASE_HI.addr].contains a then (if s.bit SEC_EXPCTL_EN then all else 0, 0)
  else if a = STK_SHARE_SH_STOCK.addr then (if uncast && !sharesFit v then all else 0, ceSection)
  else if a = SW_ING_W_W_PORT.addr then (if uncast && !ingestFits v (s.word MIL_ING_RES_RES_S0.addr) then all else 0, ceSection)
  else if a = MIL_ING_RES_RES_S0.addr then (if uncast && !ingestFits (s.word SW_ING_W_W_PORT.addr) v then all else 0, ceSection)
  else if inSpan a 0x1200000 0x200000 then (if s.bit (GT_GSTAT_PEND ((a - 0x1200000) / 0x2000)) then all else 0, ceBusy)
  else if inSpan a 0x1010000 0x20000 then
    let k := (a - 0x1010000) / 0x200
    let o := (a - 0x1010000) % 0x200
    (if s.bit (GT_GSTAT_PEND k) then (if o = 4 then (GT_GCTL_LEN k).mask else if 8 ≤ o ∧ o ≤ 0x10 then all else 0) else 0, ceBusy)
  else (0, 0)

/-- The fields of one register, each by its access code and apply class (R9, R68, R69): the refusals, and the state. -/
def State.fieldsWrite (s : State) (a : Nat) (v : Word) : List Nat × State :=
  match findReg a with
  | none => ([], s)
  | some r =>
    let (keep, code) := s.ownRule a v
    let may := ~~~(ownBits a)
    let l := r.kind .rw .l &&& may
    let c := r.kind .rw .c &&& may
    let p := r.kind .rw .s &&& may
    let refs := if keep &&& (l ||| c) = 0 then [] else [code]
    let s := if l = 0 then s else s.putBits a (l &&& ~~~keep) v
    let w1c := r.bits (fun f => f.acc == .w1c) &&& may
    let s := if w1c = 0 then s else s.setWord a (s.word a &&& ~~~(v &&& w1c &&& ~~~(s.setNow a)))
    let (refs, s) := if c = 0 then (refs, s) else match s.disp .c with
      | .refuse e => (e :: refs, s)
      | _ => (refs, s.putBits a (c &&& ~~~keep) v)
    if p = 0 then (refs, s)
    else match s.disp .s with
      | .now => (refs, s.putBits a p v)
      | .refuse e => (e :: refs, s)
      | .pend => match s.pendWrite a p.toNat v.toNat with
        | some s => (refs, s)
        | none => (ceSfull :: refs, s)

/-- A write was refused: once for the whole write, with the lowest code among the refusals of its fields (R69). -/
def State.refusedOnce (s : State) (p : Path) (refs : List Nat) : State :=
  match refs with
  | [] => s
  | e :: es =>
    match (e :: es).filter (fun x => x ≠ 0) with
    | [] => s.ruleRefused p.master
    | x :: xs => s.writeRefused (xs.foldl min x) p.master

/-! ### Registers with commands -/

/-- CST_CMD (R55). -/
def State.cstCmd (s : State) (p : Path) (op : Nat) : State :=
  match op with
  | 0 => s
  | 1 => s.loadCmd p false
  | 2 => s.commitCmd
  | 3 => s.loadCmd p true
  | 4 => s.discardCmd p
  | 5 => s.uncastCmd p
  | 6 => s.abortCmd p
  | _ => s.cmdRefused ceState p.master

/-- DET_CMD (R508). -/
def State.detCmd (s : State) (p : Path) (op : Nat) : State :=
  match op with
  | 0 => s
  | 1 => s.continueCmd p
  | 2 => s.cancelCmd
  | _ => s.writeRefused ceState p.master

/-- SEC_KEYCMD (R544, R561). -/
def State.keyCmdWrite (s : State) (p : Path) (op : Nat) : State :=
  match op with
  | 0 => s
  | 1 => s.ownCmd p
  | 2 => s.installCmd p 2
  | 3 => s.installCmd p 3
  | 4 => s.attestCmd
  | _ => s.keyFails 1

/-- The sample registers of a port are cleared (R446). -/
def State.clearSamples (s : State) (k : Nat) : State :=
  (List.range 8).foldl (fun s q => (((s.wr (GT_SDLAST k q) 0).wr (GT_SDMAX k q) 0).wr (GT_SLLAST k q) 0).wr (GT_SLMAX k q) 0) s

/-- Commands of MGT, PWR, CST, FLT, SEC and DET. -/
def State.cmdCore (s : State) (p : Path) (a v : Nat) : State :=
  if a = MGT_RST_OP.addr then s.rstWrite p (v % 16) (v / 256 % 256)
  else if a = MGT_PRST_GO.addr then (if vBit v 8 then s.portReset (v % 256) else s)
  else if a = MGT_HRST_GO.addr then (if vBit v 8 then s.hallReset (v % 32) else s)
  else if a = MGT_FL_CMD_OP.addr then (if 1 ≤ v % 8 ∧ v % 8 ≤ 3 then s.flashCmdWrite (v % 8) else s)
  else if a = CST_CMD_OP.addr then s.cstCmd p (v % 16)
  else if a = FLT_PEND_PEND.addr then s.faultAck (v % 512)
  else if a = FLT_INJ_CMD_ARM.addr then
    let s := if vBit v 0 then s.arm else s
    if vBit v 1 then s.disarm else s
  else if a = SEC_KEYCMD_OP.addr then s.keyCmdWrite p (v % 16)
  else if a = SEC_CLR_CMD_GO.addr then (if vBit v 0 then s.clearGo p else s)
  else if a = DET_CMD_OP.addr then s.detCmd p (v % 16)
  else match instIdx (FLT_CAP_INFO_VALID 0) 32 9 a with
    | some c => if vBit v 31 then s.captureRearm c else s
    | none => s.ownWrite p.master a v

/-- Commands of RT, GT, MIL and MEM. -/
def State.cmdUnits (s : State) (p : Path) (a v : Nat) : State :=
  if a = RT_FADD_KIND.addr then s.fenceAdd (v % 4) (v / 4 % 2 ^ 20)
  else if a = RT_FDEL_KIND.addr then s.fenceDel p (v % 4) (v / 4 % 2 ^ 20)
  else if a = MIL_RLD_CMD_GO.addr then (if vBit v 0 then s.reloadGo p else s)
  else if a = MEM_REP_CMD_OP.addr then s.repairStart (v % 16)
  else match instIdx (GT_GCTL_LEN 0) 512 256 a, instIdx (GT_SAMP_SP 0) 512 256 a, instIdx (MIL_BCTL_RET_EN 0) 64 1024 a with
    | some k, _, _ => if vBit v 16 then s.cmd (some (40 + k / 128)) (fun s => s.gateCommit p k) else s
    | _, some k, _ => if vBit v 9 then s.cmd (some (40 + k / 128)) (fun s => s.clearSamples k) else s
    | _, _, some l => if vBit v 2 then s.resumeBench l else s
    | _, _, _ => s.ownWrite p.master a v

/-- The command that a write of a register is (R9). -/
def State.command (s : State) (p : Path) (a v : Nat) : State :=
  if a < 0x1C0000 then s.cmdCore p a v else if a < 0x800000 then s.ownWrite p.master a v else s.cmdUnits p a v

/-- What a change of stored fields brings with it, where software writes them: also a port's configuration (R349, R356) and the export
ring (R556). -/
def State.afterWrite (s old : State) (a : Nat) : State :=
  let changed := s.word a != old.word a
  if a = SEC_EXPRD_LO.addr ∨ a = SEC_EXPRD_HI.addr then (if changed then s.exportRead else s)
  else match instIdx (LK_CFG_USE 0) 64 256 a, instIdx (LK_CREDIT_INITQ 0) 64 256 a with
    | some k, _ => if changed then s.cfgChanged k else s
    | _, some k => if changed then s.cfgChanged k else s
    | _, _ => s.fieldEffects old a

/-- One register of a write, but for its refusal. -/
def State.writeOne (s : State) (p : Path) (a v : Nat) : List Nat × State :=
  let old := s
  let (refs, s) := s.fieldsWrite a (BitVec.ofNat 32 v)
  (refs, (s.command p a v).afterWrite old a)

/-- Registers that one write sets in one instant (R213, R609): refused at most once. -/
def State.writeAll (s : State) (p : Path) (l : List (Nat × Nat)) : State :=
  let (refs, s) := l.foldl (fun (x : List Nat × State) e =>
    let (r, t) := x.2.writeOne p e.1 e.2
    (x.1 ++ r, t)) ([], s)
  s.refusedOnce p refs

/-- The broadcast instance of MIL_BRK_RET, MIL_BRK_TAG and MIL_BCTL stands for every logical Bench of the Casting (R213, R606). -/
def State.spread (s : State) (a v : Nat) : List (Nat × Nat) :=
  if inSpan a 0x1910018 0x10 then (List.range (if s.inForce then s.benchN else 0)).map (fun l => (a - 0x10000 + 0x40 * l, v))
  else [(a, v)]

/-- Ticks for which a low word is held: 1 ms (R609). -/
def heldTicks : Nat := 1600000

/-- The low word held for a path (R609), where it is not older than 1 ms. -/
def State.heldLow (s : State) (p : Path) (a : Nat) : Option Nat :=
  (s.cst.heldLow.find? (fun e => e.1 == p && e.2.1 == a && decide (s.now ≤ e.2.2.2 + heldTicks))).map (fun e => e.2.2.1)

/-- No low word is held for a path. -/
def State.dropLow (s : State) (p : Path) : State :=
  { s with cst := { s.cst with heldLow := s.cst.heldLow.filter (fun e => e.1 != p) } }

/-- A write of the register window on a path (R7 to R15, R68, R69, R607 to R609). -/
def State.regWrite (s : State) (p : Path) (a size v : Nat) : State :=
  let v := v % 2 ^ 32
  if size ≠ 4 ∨ a % 4 ≠ 0 then s.swNote 0 p.master
  else if !s.ready && !earlyBlock a then s
  else if hitsLow lowRw a then
    let s := s.dropLow p
    { s with cst := { s.cst with heldLow := s.cst.heldLow ++ [(p, a, v, s.now)] } }
  else if 4 ≤ a ∧ hitsLow lowRw (a - 4) = true then
    match s.heldLow p (a - 4) with
    | some lo =>
      let s := s.dropLow p
      if a = DET_PAUSE_HI.addr then s.detPause p.master (lo + 2 ^ 32 * v)
      else s.writeAll p (s.spread (a - 4) lo ++ s.spread a v)
    | none =>
      if a = DET_PAUSE_HI.addr then s.detPause p.master (s.rd DET_PAUSE_LO + 2 ^ 32 * v) else s.writeAll p (s.spread a v)
  else s.writeAll p (s.spread a v)

/-! ### Rows -/

/-- Whether the management service may not write a block: MGT, CST, FLT, SEC (R568, R605). -/
def protectedBlock (a : Nat) : Bool := decide (a < 0x40000) || decide (0xC0000 ≤ a ∧ a < 0x180000)

/-- REGISTER_WRITE (R68): a write of `size` bytes on a path; the management service reaches no protected block. -/
def execRegisterWrite (t : Nat) (p : Path) (addr size value : Nat) (s : State) : Host.Outcome State Fault Refusal :=
  .next (if p == .ms && protectedBlock addr then s.at t else (s.at t).regWrite p addr size value)

/-- LOW_WORD_READ (R8): a read of the register window on a path, with the holding copy of its high word; a read of any other
register differs only in that it captures nothing. -/
def execLowWordRead (t : Nat) (p : Path) (addr size : Nat) (s : State) : Host.Outcome State Fault Refusal :=
  let (v, s) := (s.at t).readReg p addr size
  .next (s.out (.read p addr v))

/-- HELD_LOW_WORD_EXPIRY (R609): low words held for 1 ms are discarded. -/
def execHeldLowWordExpiry (t : Nat) (p : Path) (s : State) : Host.Outcome State Fault Refusal :=
  let s := s.at t
  .next { s with cst := { s.cst with heldLow := s.cst.heldLow.filter (fun e => e.1 != p || decide (s.now < e.2.2.2 + heldTicks)) } }

/-- I3C_TRANSFER (R566): a transfer with a wrong packet error code has no effect. -/
def State.i3cTransfer (s : State) (x : I3c) : State :=
  if x.pecOk then
    match x.value with
    | some v => s.regWrite .bc x.addr 4 v
    | none => let (v, s) := s.readReg .bc x.addr 4; s.out (.read .bc x.addr v)
  else s

/-- I3C_TRANSFER (R566). -/
def execI3cTransfer (t : Nat) (x : I3c) (s : State) : Host.Outcome State Fault Refusal := .next ((s.at t).i3cTransfer x)

/-! ### The management service (R568) -/

/-- The node's own address as a sender: NODE = 1 and its coordinate (R408). -/
def State.nodeAddr (s : State) : Nat := s.selfCode + 2 ^ 19

/-- A response leaves (R568): a packet to the sender on VC6, or out of the arrival port while RT_NODE is not valid; for a label
request, on the entry's RET label. -/
def State.mgmtSend (s : State) (m : Nat × Bool × Nat × Flit) (body : List Byte) : State :=
  let data := leBytes 4 s.nodeAddr ++ body ++ List.replicate (252 - body.length) 0
  if m.2.1 then
    match mandEntry s.mand m.1 with
    | none => s
    | some e => s.injectLabel .mgmt (e.b % 2 ^ 20) m.2.2.2.vc 0 (reqOther 0 5) true 0 data (coreCheck data)
  else
    let f (vc : Nat) : Flit := ⟨vc, false, false, true, 0, m.1, s.epochTag, 0, 0, data, coreCheck data⟩
    let put (j vc : Nat) : State := s.enqueue j vc ⟨f vc, s.now, noCell (dieOf j), none, true⟩
    if s.nodeValid = false then put m.2.2.1 6
    else match s.route s.nodeAddr m.1 with
      | .port j => put j (s.hopVc none j 6)
      | .service => s
      | .unreachable => s.inc RT_NOROUTE

/-- The fields of a request (R568). -/
def mgmtOp (f : Flit) : Nat := leAt f.data 4 1
def mgmtAddr (f : Flit) : Nat := leAt f.data 8 4
def mgmtValue (f : Flit) : Nat := leAt f.data 12 4

/-- Whether a flit is a request: a packet of one flit that reads or writes (R568). -/
def isRequest (f : Flit) : Bool := f.fidx == 0 && f.last && decide (mgmtOp f < 2)

/-- The 12 bytes of a response. -/
def mgmtBody (f : Flit) (status value : Nat) : List Byte :=
  [BitVec.ofNat 8 (mgmtOp f), BitVec.ofNat 8 status] ++ slice f.data 6 2 ++ slice f.data 8 4 ++ leBytes 4 value

/-- Whether an address is that of a defined, aligned register (R568, R606). -/
def definedReg (a : Nat) : Bool := a % 4 == 0 && ((findReg a).isSome || inSpan a 0x1910018 0x10)

/-- A READ request is served (R568). -/
def State.mgmtRead (s : State) (f : Flit) : Nat × Nat × State :=
  if s.bit MGT_MSVC_RD = false then (1, 0, s)
  else if definedReg (mgmtAddr f) = false then (3, 0, s)
  else
    let (v, s) := s.readReg .ms (mgmtAddr f) 4
    (0, v, s.inc MGT_MSVC_CNT_READS)

/-- A WRITE request is served (R568): STATUS 4 where the write is refused. -/
def State.mgmtWrite (s : State) (f : Flit) : Nat × Nat × State :=
  let a := mgmtAddr f
  if s.bit MGT_MSVC_WR = false then (1, mgmtValue f, s)
  else if protectedBlock a then (2, mgmtValue f, s)
  else if definedReg a = false then (3, mgmtValue f, s)
  else
    let was := s.bit CST_ERR_WRITE_REF
    let s := (s.wrBit CST_ERR_WRITE_REF false).regWrite .ms a 4 (mgmtValue f)
    if s.bit CST_ERR_WRITE_REF then (4, mgmtValue f, s)
    else (0, mgmtValue f, (s.wrBit CST_ERR_WRITE_REF was).inc MGT_MSVC_CNT_WRITES)

/-- The management service takes the request at the front, where it is of kind `op`; a flit that is no request is discarded. -/
def State.mgmtServe (s : State) (op : Nat) (serve : State → Flit → Nat × Nat × State) : State :=
  match s.fab.mgmtIn with
  | [] => s
  | m :: rest =>
    let f := m.2.2.2
    let t := ({ s with fab := { s.fab with mgmtIn := rest } }).tookFlit m.1 m.2.2.1 m.2.1
    if isRequest f = false then t
    else if mgmtOp f = op then
      let (st, v, t) := serve t f
      t.mgmtSend m (mgmtBody f st v)
    else s

/-- READ (R568). -/
def execRead (t : Nat) (s : State) : Host.Outcome State Fault Refusal := .next ((s.at t).mgmtServe 0 State.mgmtRead)

/-- WRITE (R568). -/
def execWrite (t : Nat) (s : State) : Host.Outcome State Fault Refusal := .next ((s.at t).mgmtServe 1 State.mgmtWrite)

end Sys2Proof.Machine
end

