-- ==== Sys2Proof/Machine/Aud.lean ====
section
/-! DEFINITION. The leaked-buffer auditor (R386 to R388). -/

namespace Sys2Proof.Machine

/-- Whether the auditor runs (R386). -/
def State.audRuns (s : State) : Bool := s.scaleLarge && s.bit SW_AUD_EN

/-- GAP as it acts (R395). -/
def State.audGap (s : State) : Nat := 2 ^ min 30 (max 16 (s.rd SW_AUD_GAP))

/-- AUDITOR_SWEEP_START: the CHG bits of the die clear and marking begins, 2^GAP ticks after the last judge phase (R386). -/
def State.sweepStart (s : State) (d : Nat) : State :=
  let st := s.rd (BP_AUD_STATE d)
  if s.audRuns && (st == 0 || (st == 1 && decide (s.fab.audEnd.getD d 0 + s.audGap ≤ s.now))) then
    let s := { s with fab := { s.fab with chg := s.fab.chg.filter (fun c => c.1 ≠ d) } }
    s.wr (BP_AUD_STATE d) 2
  else s

def execAuditorSweepStart (t d : Nat) (s : State) : Host.Outcome State Fault Refusal := .next ((s.at t).sweepStart d)

/-- The references of R386: every list that names a cell, with the owner it stands for. A copy sent and held for its ACK stands for its
queue (R370; DEDUCED, log 72), as does one held while APPLYING (R398). -/
def State.cellRefs (s : State) : List ((Nat × Nat) × Owner) :=
  s.fab.ports.flatMap (fun e =>
    (e.2.queues.zipIdx).flatMap (fun q => q.1.map (fun x => (x.cell, Owner.queue e.1 q.2))) ++
    ((e.2.openRx.toList).flatMap (fun o => match o.egress with
      | some j => o.cells.map (fun c => (c, Owner.queue j o.vc))
      | none => []))) ++
  s.fab.mqs.flatMap (fun m => m.pend.map (fun x => (m.cell, Owner.queue x.1 m.flit.vc))) ++
  s.fab.txs.flatMap (fun x => if x.copies then x.held.map (fun h => (h.2, Owner.queue x.port x.vc)) else []) ++
  s.fab.heldRx.map (fun e => (e.2.2, Owner.queue e.1 e.2.1.vc)) ++
  s.mill.transit.map (fun e => (e.2.2.2, Owner.mover e.1)) ++
  s.coll.insts.flatMap (fun i => i.holds.map (fun h => (h.cell, Owner.cru i.desc))) ++
  s.stock.cache.flatMap (fun t => t.2.flatMap (fun r => r.cells.map (fun c => (c, Owner.stock t.1))))

/-- The holds and the extra owners that a judgment leaves: `n` owners, those that a list stands for first. -/
def PCell.trim (c : PCell) (refs : List Owner) (n : Nat) : PCell :=
  let holds := ((c.holds.filter (fun h => refs.contains h.1)) ++ (c.holds.filter (fun h => !refs.contains h.1))).take n
  { c with holds := holds, extra := n - holds.length }

/-- A LEAK or SURPLUS is counted, and the first one reported (R387). -/
def State.leak (s : State) (d i : Nat) : State :=
  let s := (s.inc (BP_LEAK d)).bpFirst d 4 i
  if s.fab.leakNoted.contains d then s
  else ({ s with fab := { s.fab with leakNoted := d :: s.fab.leakNoted } }).fault .mem 0 4 mNone

/-- One cell is judged (R387): its leaf bit, the references that marking counted, its owner count. -/
def State.judgeCell (s : State) (d i : Nat) (refs : List Owner) : State :=
  let r := refs.length
  let h := ((s.cellAt (d, i)).map (fun c => c.holds.length + c.extra)).getD 0
  if s.fab.chg.contains (d, i) then s
  else if s.fab.leaf0.contains (d, i) = false then
    if r + h = 0 then s
    else
      let s := { s with fab := { s.fab with leaf0 := (d, i) :: s.fab.leaf0 } }
      (s.bpFirst d 2 i).fault .mem 2 2 mNone
  else if r = 0 then
    let s := s.setCells (s.fab.cells.filter (fun c => !(c.die == d && c.idx == i)))
    ({ s with fab := { s.fab with leaf0 := s.fab.leaf0.erase (d, i) } }).leak d i
  else if r < h then (s.setCell (d, i) (fun c => c.trim refs r)).leak d i
  else if h < r then ((s.setCell (d, i) (fun c => c.trim refs r)).bpFirst d 3 i).fault .mem 1 3 mNone
  else s

/-- A number into a rising list. -/
def insertNat (n : Nat) : List Nat → List Nat
  | [] => [n]
  | m :: l => if n ≤ m then n :: m :: l else m :: insertNat n l

/-- The pooled cells of a die that a judgment may find other than free and unnamed, in index order. -/
def State.judged (s : State) (d : Nat) : List Nat :=
  let named := s.fab.cells.map (fun c => (c.die, c.idx)) ++ s.fab.leaf0 ++ s.cellRefs.map (·.1)
  (((named.filter (fun c => c.1 == d && decide (c.2 < s.pcells d))).map (·.2)).eraseDups).foldr insertNat []

/-- AUDITOR_MARK_DONE: marking has counted the references of every cell, and the cells are judged in index order (R386, R387). A cell of `moved`
changes before the judge phase, one cell per beat, comes to it, and so waits for the next sweep (log 92). -/
def State.markDone (s : State) (d : Nat) (moved : List Nat) : State :=
  if s.rd (BP_AUD_STATE d) = 2 then
    let refs := s.cellRefs
    ((s.judged d).filter (fun i => !moved.contains i)).foldl (fun s i => s.judgeCell d i ((refs.filter (fun e => e.1 == (d, i))).map (·.2))) (s.wr (BP_AUD_STATE d) 3)
  else s

def execAuditorMarkDone (t d : Nat) (moved : List Nat) (s : State) : Host.Outcome State Fault Refusal := .next ((s.at t).markDone d moved)

/-- AUDITOR_JUDGE_DONE: the gap before the next sweep begins (R386). -/
def State.judgeDone (s : State) (d : Nat) : State :=
  if s.rd (BP_AUD_STATE d) = 3 then
    let s := { s with fab := { s.fab with audEnd := s.fab.audEnd.set d s.now } }
    (s.inc (BP_AUD_SWEEPS d)).wr (BP_AUD_STATE d) 1
  else s

def execAuditorJudgeDone (t d : Nat) (s : State) : Host.Outcome State Fault Refusal := .next ((s.at t).judgeDone d)

end Sys2Proof.Machine
end

