-- ==== Sys2Proof/Machine/Dispatch.lean ====
section
/-! DEFINITION. The one dispatch: an arm for every command, each a direct call of its meaning. -/

namespace Sys2Proof.Machine

open Sys2Proof (Instr)

def exec (i : Instr) (s : State) : Host.Outcome State Fault Refusal :=
  match i with
  | .registerWrite t p addr size value => Sys2Proof.Machine.execRegisterWrite t p addr size value s
  | .load t p => Sys2Proof.Machine.execLoad t p s
  | .commit t => Sys2Proof.Machine.execCommit t s
  | .loadCommit t p => Sys2Proof.Machine.execLoadCommit t p s
  | .discard t p => Sys2Proof.Machine.execDiscard t p s
  | .uncast t p => Sys2Proof.Machine.execUncast t p s
  | .abort t p => Sys2Proof.Machine.execAbort t p s
  | .cstOpReserved t p op => Sys2Proof.Machine.execCstOpReserved t p op s
  | .fetchFirstPage t page => Sys2Proof.Machine.execFetchFirstPage t page s
  | .fetchReadFail t kind => Sys2Proof.Machine.execFetchReadFail t kind s
  | .fetchDone t rest => Sys2Proof.Machine.execFetchDone t rest s
  | .signDone t => Sys2Proof.Machine.execSignDone t s
  | .checkDone t => Sys2Proof.Machine.execCheckDone t s
  | .commitRecheckDone t => Sys2Proof.Machine.execCommitRecheckDone t s
  | .drainDone t => Sys2Proof.Machine.execDrainDone t s
  | .drainLimitExpiry t => Sys2Proof.Machine.execDrainLimitExpiry t s
  | .applyComplete t => Sys2Proof.Machine.execApplyComplete t s
  | .seam t => Sys2Proof.Machine.execSeam t s
  | .resultRelease t kind unit => Sys2Proof.Machine.execResultRelease t kind unit s
  | .overdueStep t kind unit rel => Sys2Proof.Machine.execOverdueStep t kind unit rel s
  | .barrierRx t k u sub => Sys2Proof.Machine.execBarrierRx t k u sub s
  | .timeinfoRx t k u => Sys2Proof.Machine.execTimeinfoRx t k u s
  | .ldlyMeasure t k t1 t2 t3 t4 => Sys2Proof.Machine.execLdlyMeasure t k t1 t2 t3 t4 s
  | .techoRx t k u sub => Sys2Proof.Machine.execTechoRx t k u sub s
  | .nodeReady t => Sys2Proof.Machine.execNodeReady t s
  | .readyRx t k u => Sys2Proof.Machine.execReadyRx t k u s
  | .startRx t k u => Sys2Proof.Machine.execStartRx t k u s
  | .firstEpochStart t => Sys2Proof.Machine.execFirstEpochStart t s
  | .ppsInEdge t => Sys2Proof.Machine.execPpsInEdge t s
  | .ppsInLoss t => Sys2Proof.Machine.execPpsInLoss t s
  | .ppsOutStart t => Sys2Proof.Machine.execPpsOutStart t s
  | .ppsOutEnd t => Sys2Proof.Machine.execPpsOutEnd t s
  | .todOutFrame t => Sys2Proof.Machine.execTodOutFrame t s
  | .todInFrame t fr => Sys2Proof.Machine.execTodInFrame t fr s
  | .hallDisable t p v => Sys2Proof.Machine.execHallDisable t p v s
  | .bundleIssue t l => Sys2Proof.Machine.execBundleIssue t l s
  | .slotComplete t l pos => Sys2Proof.Machine.execSlotComplete t l pos s
  | .bundleRetire t l => Sys2Proof.Machine.execBundleRetire t l s
  | .ld l => Sys2Proof.Machine.execLd l s
  | .ldb l => Sys2Proof.Machine.execLdb l s
  | .kld l => Sys2Proof.Machine.execKld l s
  | .st l => Sys2Proof.Machine.execSt l s
  | .mac l => Sys2Proof.Machine.execMac l s
  | .macz l => Sys2Proof.Machine.execMacz l s
  | .drain l => Sys2Proof.Machine.execDrain l s
  | .clear l => Sys2Proof.Machine.execClear l s
  | .draink l => Sys2Proof.Machine.execDraink l s
  | .merge l => Sys2Proof.Machine.execMerge l s
  | .add l => Sys2Proof.Machine.execAdd l s
  | .sub l => Sys2Proof.Machine.execSub l s
  | .mul l => Sys2Proof.Machine.execMul l s
  | .fma l => Sys2Proof.Machine.execFma l s
  | .min l => Sys2Proof.Machine.execMin l s
  | .max l => Sys2Proof.Machine.execMax l s
  | .div l => Sys2Proof.Machine.execDiv l s
  | .sqrt l => Sys2Proof.Machine.execSqrt l s
  | .cmplt l => Sys2Proof.Machine.execCmplt l s
  | .cmpeq l => Sys2Proof.Machine.execCmpeq l s
  | .cmple l => Sys2Proof.Machine.execCmple l s
  | .any l => Sys2Proof.Machine.execAny l s
  | .cvtf l => Sys2Proof.Machine.execCvtf l s
  | .cvtt l => Sys2Proof.Machine.execCvtt l s
  | .seti l => Sys2Proof.Machine.execSeti l s
  | .addi l => Sys2Proof.Machine.execAddi l s
  | .muli l => Sys2Proof.Machine.execMuli l s
  | .cmpi l => Sys2Proof.Machine.execCmpi l s
  | .plog l => Sys2Proof.Machine.execPlog l s
  | .pset l => Sys2Proof.Machine.execPset l s
  | .setvl l => Sys2Proof.Machine.execSetvl l s
  | .orset l => Sys2Proof.Machine.execOrset l s
  | .orcpy l => Sys2Proof.Machine.execOrcpy l s
  | .feat l => Sys2Proof.Machine.execFeat l s
  | .waitc l => Sys2Proof.Machine.execWaitc l s
  | .post l => Sys2Proof.Machine.execPost l s
  | .drainw l => Sys2Proof.Machine.execDrainw l s
  | .testc l => Sys2Proof.Machine.execTestc l s
  | .nop l => Sys2Proof.Machine.execNop l s
  | .loop l => Sys2Proof.Machine.execLoop l s
  | .seamCmd l => Sys2Proof.Machine.execSeamCmd l s
  | .halt l => Sys2Proof.Machine.execHalt l s
  | .release l => Sys2Proof.Machine.execRelease l s
  | .brk l => Sys2Proof.Machine.execBrk l s
  | .breakResume t bench => Sys2Proof.Machine.execBreakResume t bench s
  | .reloadGo t p => Sys2Proof.Machine.execReloadGo t p s
  | .reloadComplete t l => Sys2Proof.Machine.execReloadComplete t l s
  | .collectiveStart t d g => Sys2Proof.Machine.execCollectiveStart t d g s
  | .selfContributionRead t d g => Sys2Proof.Machine.execSelfContributionRead t d g s
  | .crucibleCell t d g ev => Sys2Proof.Machine.execCrucibleCell t d g ev s
  | .pass2Start t d g j => Sys2Proof.Machine.execPass2Start t d g j s
  | .chunkRelease t d g => Sys2Proof.Machine.execChunkRelease t d g s
  | .temperStepStart t st => Sys2Proof.Machine.execTemperStepStart t st s
  | .temperChunk t st j => Sys2Proof.Machine.execTemperChunk t st j s
  | .temperPhase2Start t st => Sys2Proof.Machine.execTemperPhase2Start t st s
  | .temperSliceRelease t st => Sys2Proof.Machine.execTemperSliceRelease t st s
  | .assayCompare t l => Sys2Proof.Machine.execAssayCompare t l s
  | .stockLookup t l k mism => Sys2Proof.Machine.execStockLookup t l k mism s
  | .lookupResponse t tab => Sys2Proof.Machine.execLookupResponse t tab s
  | .stockGrad t l k => Sys2Proof.Machine.execStockGrad t l k s
  | .stockUpdateStart t tab => Sys2Proof.Machine.execStockUpdateStart t tab s
  | .stockCommit t tab n => Sys2Proof.Machine.execStockCommit t tab n s
  | .stockUpdateRelease t tab => Sys2Proof.Machine.execStockUpdateRelease t tab s
  | .sigRise t k valid => Sys2Proof.Machine.execSigRise t k valid s
  | .sigFall t k => Sys2Proof.Machine.execSigFall t k s
  | .sweep t path k => Sys2Proof.Machine.execSweep t path k s
  | .sweepComplete t k figs => Sys2Proof.Machine.execSweepComplete t k figs s
  | .adaptWindow t k valid lo f hi => Sys2Proof.Machine.execAdaptWindow t k valid lo f hi s
  | .peakStep t k => Sys2Proof.Machine.execPeakStep t k s
  | .peakCodeWrite t k code => Sys2Proof.Machine.execPeakCodeWrite t k code s
  | .slip t path k => Sys2Proof.Machine.execSlip t path k s
  | .clr t k => Sys2Proof.Machine.execClr t k s
  | .patternWrite t path k tx rx => Sys2Proof.Machine.execPatternWrite t path k tx rx s
  | .txDis t n mask => Sys2Proof.Machine.execTxDis t n mask s
  | .engineFault t n mask => Sys2Proof.Machine.execEngineFault t n mask s
  | .controlPosition t k sub => Sys2Proof.Machine.execControlPosition t k sub s
  | .forcedIdleSlot t k => Sys2Proof.Machine.execForcedIdleSlot t k s
  | .txSlot t k => Sys2Proof.Machine.execTxSlot t k s
  | .slotReceive t k x => Sys2Proof.Machine.execSlotReceive t k x s
  | .ackRx t k u => Sys2Proof.Machine.execAckRx t k u s
  | .streamResendTimeout t n => Sys2Proof.Machine.execStreamResendTimeout t n s
  | .creditRx t k u => Sys2Proof.Machine.execCreditRx t k u s
  | .lackRx t k u => Sys2Proof.Machine.execLackRx t k u s
  | .retryRx t k u => Sys2Proof.Machine.execRetryRx t k u s
  | .replayRx t k u => Sys2Proof.Machine.execReplayRx t k u s
  | .replayTimeout t k sender => Sys2Proof.Machine.execReplayTimeout t k sender s
  | .admin t p k v => Sys2Proof.Machine.execAdmin t p k v s
  | .aligned t k => Sys2Proof.Machine.execAligned t k s
  | .retrain t k => Sys2Proof.Machine.execRetrain t k s
  | .deskewDone t k => Sys2Proof.Machine.execDeskewDone t k s
  | .startWordRx t k => Sys2Proof.Machine.execStartWordRx t k s
  | .identRx t k u => Sys2Proof.Machine.execIdentRx t k u s
  | .linkup t k u => Sys2Proof.Machine.execLinkup t k u s
  | .linkdownRx t k u => Sys2Proof.Machine.execLinkdownRx t k u s
  | .bringupTimeout t k => Sys2Proof.Machine.execBringupTimeout t k s
  | .auditorSweepStart t d => Sys2Proof.Machine.execAuditorSweepStart t d s
  | .auditorMarkDone t d moved => Sys2Proof.Machine.execAuditorMarkDone t d moved s
  | .auditorJudgeDone t d => Sys2Proof.Machine.execAuditorJudgeDone t d s
  | .fenceAdd t kind arg => Sys2Proof.Machine.execFenceAdd t kind arg s
  | .fenceDel t path kind arg => Sys2Proof.Machine.execFenceDel t path kind arg s
  | .autoFence t k => Sys2Proof.Machine.execAutoFence t k s
  | .gateEntry t => Sys2Proof.Machine.execGateEntry t s
  | .gateListBegin t k => Sys2Proof.Machine.execGateListBegin t k s
  | .gateCommit t p k => Sys2Proof.Machine.execGateCommit t p k s
  | .shaperRefill t k q => Sys2Proof.Machine.execShaperRefill t k q s
  | .queueSample t k => Sys2Proof.Machine.execQueueSample t k s
  | .burnishWord t a => Sys2Proof.Machine.execBurnishWord t a s
  | .burnishPassEnd t hbm => Sys2Proof.Machine.execBurnishPassEnd t hbm s
  | .burnishCtrl t path v => Sys2Proof.Machine.execBurnishCtrl t path v s
  | .remap t path => Sys2Proof.Machine.execRemap t path s
  | .unmap t path => Sys2Proof.Machine.execUnmap t path s
  | .sppr t path => Sys2Proof.Machine.execSppr t path s
  | .hppr t path => Sys2Proof.Machine.execHppr t path s
  | .rd1500 t path => Sys2Proof.Machine.execRd1500 t path s
  | .wr1500 t path => Sys2Proof.Machine.execWr1500 t path s
  | .repairOpReserved t path op => Sys2Proof.Machine.execRepairOpReserved t path op s
  | .repairComplete t answer result spares => Sys2Proof.Machine.execRepairComplete t answer result spares s
  | .touchmarkEnable t u v => Sys2Proof.Machine.execTouchmarkEnable t u v s
  | .touchmarkRecordExpiry t u => Sys2Proof.Machine.execTouchmarkRecordExpiry t u s
  | .aliveEntryFree t k => Sys2Proof.Machine.execAliveEntryFree t k s
  | .detPause t p n => Sys2Proof.Machine.execDetPause t p n s
  | .continue t p => Sys2Proof.Machine.execContinue t p s
  | .cancel t => Sys2Proof.Machine.execCancel t s
  | .detCmdReserved t p op => Sys2Proof.Machine.execDetCmdReserved t p op s
  | .replayInject t => Sys2Proof.Machine.execReplayInject t s
  | .faultReport t ext => Sys2Proof.Machine.execFaultReport t ext s
  | .errnPulseEnd t => Sys2Proof.Machine.execErrnPulseEnd t s
  | .errnGapEnd t => Sys2Proof.Machine.execErrnGapEnd t s
  | .faultAck t mask => Sys2Proof.Machine.execFaultAck t mask s
  | .captureRearm t c => Sys2Proof.Machine.execCaptureRearm t c s
  | .arm t => Sys2Proof.Machine.execArm t s
  | .disarm t => Sys2Proof.Machine.execDisarm t s
  | .own t p => Sys2Proof.Machine.execOwn t p s
  | .install t p => Sys2Proof.Machine.execInstall t p s
  | .raise t p => Sys2Proof.Machine.execRaise t p s
  | .attest t => Sys2Proof.Machine.execAttest t s
  | .keyCmdReserved t op => Sys2Proof.Machine.execKeyCmdReserved t op s
  | .keyCmdComplete t block flashOk => Sys2Proof.Machine.execKeyCmdComplete t block flashOk s
  | .attestComplete t => Sys2Proof.Machine.execAttestComplete t s
  | .denyWindowEnd t => Sys2Proof.Machine.execDenyWindowEnd t s
  | .clearGo t p => Sys2Proof.Machine.execClearGo t p s
  | .clearComplete t => Sys2Proof.Machine.execClearComplete t s
  | .hallmarkCommit t => Sys2Proof.Machine.execHallmarkCommit t s
  | .hallmarkExport t => Sys2Proof.Machine.execHallmarkExport t s
  | .bar2Access t p off n data room => Sys2Proof.Machine.execBar2Access t p off n data room s
  | .i3cTransfer t x => Sys2Proof.Machine.execI3cTransfer t x s
  | .bcdataRead t p => Sys2Proof.Machine.execBcdataRead t p s
  | .bcdataWrite t v => Sys2Proof.Machine.execBcdataWrite t v s
  | .read t => Sys2Proof.Machine.execRead t s
  | .write t => Sys2Proof.Machine.execWrite t s
  | .boot t okA okB => Sys2Proof.Machine.execBoot t okA okB s
  | .flashRead t => Sys2Proof.Machine.execFlashRead t s
  | .flashProgram t => Sys2Proof.Machine.execFlashProgram t s
  | .flashErase t => Sys2Proof.Machine.execFlashErase t s
  | .flashComplete t ok => Sys2Proof.Machine.execFlashComplete t ok s
  | .monitorSample t m => Sys2Proof.Machine.execMonitorSample t m s
  | .warmResetWrite t p op key => Sys2Proof.Machine.execWarmResetWrite t p op key s
  | .rstNAssert t => Sys2Proof.Machine.execRstNAssert t s
  | .rstNRelease t => Sys2Proof.Machine.execRstNRelease t s
  | .portReset t k => Sys2Proof.Machine.execPortReset t k s
  | .hallReset t h => Sys2Proof.Machine.execHallReset t h s
  | .powerReqOn t p d => Sys2Proof.Machine.execPowerReqOn t p d s
  | .powerReqRetain t p d => Sys2Proof.Machine.execPowerReqRetain t p d s
  | .powerReqOff t p d => Sys2Proof.Machine.execPowerReqOff t p d s
  | .powerReqIllegal t p d => Sys2Proof.Machine.execPowerReqIllegal t p d s
  | .domainTransitionStart t => Sys2Proof.Machine.execDomainTransitionStart t s
  | .domainTransitionDone t d => Sys2Proof.Machine.execDomainTransitionDone t d s
  | .powerOnSequence => Sys2Proof.Machine.execPowerOnSequence s
  | .powerDown t => Sys2Proof.Machine.execPowerDown t s
  | .powerGoodLoss t d => Sys2Proof.Machine.execPowerGoodLoss t d s
  | .inputOvercurrent t => Sys2Proof.Machine.execInputOvercurrent t s
  | .refInLoss t => Sys2Proof.Machine.execRefInLoss t s
  | .lowWordRead t p addr size => Sys2Proof.Machine.execLowWordRead t p addr size s
  | .heldLowWordExpiry t p => Sys2Proof.Machine.execHeldLowWordExpiry t p s
  | .prbsSymbolCheck t k bits => Sys2Proof.Machine.execPrbsSymbolCheck t k bits s
  | .alignMatch t k word => Sys2Proof.Machine.execAlignMatch t k word s

end Sys2Proof.Machine
end

