-- ==== Sys2Proof/WellFormed.lean ====
section
/-! DEFINITION. Which commands are well formed: every operand lies in the range that the spec gives the field or the index it
stands for (R18, R606 and the field tables). The meanings are total on every term; the statements speak of these. -/

namespace Sys2Proof

/-- A path that reaches the blocks MGT, CST, FLT and SEC: not the management service (R59, R568). -/
def offService (p : Path) : Bool := p != .ms

/-- Whether the operands of a command lie in their ranges. -/
def wellFormed (i : Instr) : Bool :=
  match i with
  | .registerWrite _ _ addr size value => decide (addr < 2 ^ 26) && decide (1 ≤ size ∧ size ≤ 8) && decide (value < 2 ^ 32)
  | .load _ p => offService p
  | .commit _ => true
  | .loadCommit _ p => offService p
  | .discard _ p => offService p
  | .uncast _ p => offService p
  | .abort _ p => offService p
  | .cstOpReserved _ p op => offService p && decide (7 ≤ op ∧ op ≤ 15)
  | .fetchFirstPage _ page => decide (page.length = 4096)
  | .fetchReadFail _ kind => decide (1 ≤ kind ∧ kind ≤ 3)
  | .fetchDone _ _ => true
  | .signDone _ => true
  | .checkDone _ => true
  | .commitRecheckDone _ => true
  | .drainDone _ => true
  | .drainLimitExpiry _ => true
  | .applyComplete _ => true
  | .seam _ => true
  | .resultRelease _ kind _ => decide (kind < 5)
  | .overdueStep _ kind _ _ => decide (kind < 5)
  | .barrierRx _ k u sub => decide (k < 256) && decide (u.length = 16) && decide (sub < 64)
  | .timeinfoRx _ k u => decide (k < 256) && decide (u.length = 16)
  | .ldlyMeasure _ k _ _ _ _ => decide (k < 256)
  | .techoRx _ k u sub => decide (k < 256) && decide (u.length = 16) && decide (sub < 64)
  | .nodeReady _ => true
  | .readyRx _ k u => decide (k < 256) && decide (u.length = 16)
  | .startRx _ k u => decide (k < 256) && decide (u.length = 16)
  | .firstEpochStart _ => true
  | .ppsInEdge _ => true
  | .ppsInLoss _ => true
  | .ppsOutStart _ => true
  | .ppsOutEnd _ => true
  | .todOutFrame _ => true
  | .todInFrame _ fr => decide (fr.length = 24)
  | .hallDisable _ _ v => decide (v < 2 ^ 32)
  | .bundleIssue _ l => decide (l < 1024)
  | .slotComplete _ l pos => decide (l < 1024) && decide (pos < 8)
  | .bundleRetire _ l => decide (l < 1024)
  | .ld l => decide (l < 1024)
  | .ldb l => decide (l < 1024)
  | .kld l => decide (l < 1024)
  | .st l => decide (l < 1024)
  | .mac l => decide (l < 1024)
  | .macz l => decide (l < 1024)
  | .drain l => decide (l < 1024)
  | .clear l => decide (l < 1024)
  | .draink l => decide (l < 1024)
  | .merge l => decide (l < 1024)
  | .add l => decide (l < 1024)
  | .sub l => decide (l < 1024)
  | .mul l => decide (l < 1024)
  | .fma l => decide (l < 1024)
  | .min l => decide (l < 1024)
  | .max l => decide (l < 1024)
  | .div l => decide (l < 1024)
  | .sqrt l => decide (l < 1024)
  | .cmplt l => decide (l < 1024)
  | .cmpeq l => decide (l < 1024)
  | .cmple l => decide (l < 1024)
  | .any l => decide (l < 1024)
  | .cvtf l => decide (l < 1024)
  | .cvtt l => decide (l < 1024)
  | .seti l => decide (l < 1024)
  | .addi l => decide (l < 1024)
  | .muli l => decide (l < 1024)
  | .cmpi l => decide (l < 1024)
  | .plog l => decide (l < 1024)
  | .pset l => decide (l < 1024)
  | .setvl l => decide (l < 1024)
  | .orset l => decide (l < 1024)
  | .orcpy l => decide (l < 1024)
  | .feat l => decide (l < 1024)
  | .waitc l => decide (l < 1024)
  | .post l => decide (l < 1024)
  | .drainw l => decide (l < 1024)
  | .testc l => decide (l < 1024)
  | .nop l => decide (l < 1024)
  | .loop l => decide (l < 1024)
  | .seamCmd l => decide (l < 1024)
  | .halt l => decide (l < 1024)
  | .release l => decide (l < 1024)
  | .brk l => decide (l < 1024)
  | .breakResume _ bench => bench.all (fun l => decide (l < 1024))
  | .reloadGo _ _ => true
  | .reloadComplete _ l => decide (l < 1024)
  | .collectiveStart _ d g => decide (d < 1024) && decide (g < 128)
  | .selfContributionRead _ d g => decide (d < 1024) && decide (g < 128)
  | .crucibleCell _ d g _ => decide (d < 1024) && decide (g < 128)
  | .pass2Start _ d g _ => decide (d < 1024) && decide (g < 128)
  | .chunkRelease _ d g => decide (d < 1024) && decide (g < 128)
  | .temperStepStart _ st => decide (st < 64)
  | .temperChunk _ st _ => decide (st < 64)
  | .temperPhase2Start _ st => decide (st < 64)
  | .temperSliceRelease _ st => decide (st < 64)
  | .assayCompare _ l => decide (l < 1024)
  | .stockLookup _ l k _ => decide (l < 2 ^ 20) && decide (k < 256)
  | .lookupResponse _ tab => decide (tab < 256)
  | .stockGrad _ l k => decide (l < 2 ^ 20) && decide (k < 256)
  | .stockUpdateStart _ tab => decide (tab < 256)
  | .stockCommit _ tab _ => decide (tab < 256)
  | .stockUpdateRelease _ tab => decide (tab < 256)
  | .sigRise _ k _ => decide (k < 1024)
  | .sigFall _ k => decide (k < 1024)
  | .sweep _ _ k => decide (k < 1024)
  | .sweepComplete _ k figs => decide (k < 1024) && decide (figs.length = 32)
  | .adaptWindow _ k _ _ _ _ => decide (k < 1024)
  | .peakStep _ k => decide (k < 1024)
  | .peakCodeWrite _ k code => decide (k < 1024) && decide (code < 32)
  | .slip _ _ k => decide (k < 1024)
  | .clr _ k => decide (k < 1024)
  | .patternWrite _ _ k tx rx => decide (k < 1024) && decide (tx < 8) && decide (rx < 8)
  | .txDis _ n mask => decide (n < 16) && decide (mask < 2 ^ 16)
  | .engineFault _ n mask => decide (n < 16) && decide (mask < 2 ^ 64)
  | .controlPosition _ k sub => decide (k < 256) && decide (sub < 64)
  | .forcedIdleSlot _ k => decide (k < 256)
  | .txSlot _ k => decide (k < 256)
  | .slotReceive _ k x =>
    -- a slot begins one unit past a control position, or 17 units past the slot before it (R326)
    decide (k < 256) && decide (1 ≤ x.unit % 2024 ∧ (x.unit % 2024 - 1) % 17 = 0) && decide (1 ≤ x.words.length ∧ x.words.length ≤ 3)
  | .ackRx _ k u => decide (k < 256) && decide (u.length = 16)
  | .streamResendTimeout _ _ => true
  | .creditRx _ k u => decide (k < 256) && decide (u.length = 16)
  | .lackRx _ k u => decide (k < 256) && decide (u.length = 16)
  | .retryRx _ k u => decide (k < 256) && decide (u.length = 16)
  | .replayRx _ k u => decide (k < 256) && decide (u.length = 16)
  | .replayTimeout _ k _ => decide (k < 256)
  | .admin _ _ k _ => decide (k < 256)
  | .aligned _ k => decide (k < 256)
  | .retrain _ k => decide (k < 256)
  | .deskewDone _ k => decide (k < 256)
  | .startWordRx _ k => decide (k < 256)
  | .identRx _ k u => decide (k < 256) && decide (u.length = 16)
  | .linkup _ k u => decide (k < 256) && decide (u.length = 16)
  | .linkdownRx _ k u => decide (k < 256) && decide (u.length = 16)
  | .bringupTimeout _ k => decide (k < 256)
  | .auditorSweepStart _ d => decide (d < 2)
  | .auditorMarkDone _ d moved => decide (d < 2) && moved.all (fun i => decide (i < 2 ^ 20))
  | .auditorJudgeDone _ d => decide (d < 2)
  | .fenceAdd _ kind arg => decide (kind < 4) && decide (arg < 2 ^ 20)
  | .fenceDel _ _ kind arg => decide (kind < 4) && decide (arg < 2 ^ 20)
  | .autoFence _ k => decide (k < 256)
  | .gateEntry _ => true
  | .gateListBegin _ k => decide (k < 256)
  | .gateCommit _ _ k => decide (k < 256)
  | .shaperRefill _ k q => decide (k < 256) && decide (q < 8)
  | .queueSample _ k => decide (k < 256)
  | .burnishWord _ a => decide (a < 0x8000000000 + 2 ^ 29)
  | .burnishPassEnd _ _ => true
  | .burnishCtrl _ _ v => decide (v < 2 ^ 32)
  | .remap _ _ => true
  | .unmap _ _ => true
  | .sppr _ _ => true
  | .hppr _ _ => true
  | .rd1500 _ _ => true
  | .wr1500 _ _ => true
  | .repairOpReserved _ _ op => decide (op = 0 ∨ 7 ≤ op ∧ op ≤ 15)
  | .repairComplete _ answer _ _ => decide (answer < 3)
  | .touchmarkEnable _ u _ => decide (u < 768)
  | .touchmarkRecordExpiry _ u => decide (u < 768)
  | .aliveEntryFree _ k => decide (k < 256)
  | .detPause _ _ _ => true
  | .continue _ _ => true
  | .cancel _ => true
  | .detCmdReserved _ _ op => decide (3 ≤ op ∧ op ≤ 15)
  | .replayInject _ => true
  | .faultReport _ _ => true
  | .errnPulseEnd _ => true
  | .errnGapEnd _ => true
  | .faultAck _ mask => decide (mask < 2 ^ 9)
  | .captureRearm _ c => decide (c < 9)
  | .arm _ => true
  | .disarm _ => true
  | .own _ p => offService p
  | .install _ p => offService p
  | .raise _ p => offService p
  | .attest _ => true
  | .keyCmdReserved _ op => decide (5 ≤ op ∧ op ≤ 15)
  | .keyCmdComplete _ _ _ => true
  | .attestComplete _ => true
  | .denyWindowEnd _ => true
  | .clearGo _ p => offService p
  | .clearComplete _ => true
  | .hallmarkCommit _ => true
  | .hallmarkExport _ => true
  | .bar2Access _ p off _ _ _ => decide (p < 2) && decide (off < 2 ^ 26)
  | .i3cTransfer _ x => decide (x.addr < 2 ^ 26)
  | .bcdataRead _ _ => true
  | .bcdataWrite _ v => decide (v < 2 ^ 32)
  | .read _ => true
  | .write _ => true
  | .boot _ _ _ => true
  | .flashRead _ => true
  | .flashProgram _ => true
  | .flashErase _ => true
  | .flashComplete _ _ => true
  | .monitorSample _ _ => true
  | .warmResetWrite _ p op key => offService p && decide (op < 16) && decide (key < 256)
  | .rstNAssert _ => true
  | .rstNRelease _ => true
  | .portReset _ k => decide (k < 256)
  | .hallReset _ h => decide (h < 32)
  | .powerReqOn _ _ d => decide (d < 50)
  | .powerReqRetain _ _ d => decide (d < 50)
  | .powerReqOff _ _ d => decide (d < 50)
  | .powerReqIllegal _ _ d => decide (d < 50)
  | .domainTransitionStart _ => true
  | .domainTransitionDone _ d => decide (d < 50)
  | .powerOnSequence => true
  | .powerDown _ => true
  | .powerGoodLoss _ d => decide (d < 50)
  | .inputOvercurrent _ => true
  | .refInLoss _ => true
  | .lowWordRead _ _ addr size => decide (addr < 2 ^ 26) && decide (1 ≤ size ∧ size ≤ 8)
  | .heldLowWordExpiry _ _ => true
  | .prbsSymbolCheck _ k bits => decide (k < 1024) && decide (bits ≤ 2)
  | .alignMatch _ k word => decide (k < 1024) && decide (word < 2 ^ 128)

end Sys2Proof
end

