-- ==== Sys2Proof/Safety.lean ====
section
/-! DEFINITION. The terms that statements are made in: which parts of the state a command may change, and the invariant that every
step keeps. -/

namespace Sys2Proof.Machine

/-- The parts of the state. -/
inductive Part where
  | clock | regs | mem | errs | free | outs | cst | tg | flt | sec | mgt | pwr | det | msys | alive | benches | mill | fab | coll | temper
  | stock | queue
deriving DecidableEq, Repr

/-- A part is the same in two states: every byte of memory reads the same, every register word holds the same, and the other parts are
equal; `alive` is what the groups of HBM have counted of their accesses (R480). -/
def Part.same (p : Part) (s u : State) : Prop :=
  match p with
  | .clock => u.now = s.now ∧ u.tickSets = s.tickSets
  | .regs => ∀ a, u.word a = s.word a
  | .mem => ∀ a, u.byteAt a = s.byteAt a
  | .errs => u.errs = s.errs
  | .free => u.free = s.free
  | .outs => u.outs = s.outs
  | .cst => u.cst = s.cst
  | .tg => u.tg = s.tg
  | .flt => u.flt = s.flt
  | .sec => u.sec = s.sec
  | .mgt => u.mgt = s.mgt
  | .pwr => u.pwr = s.pwr
  | .det => u.det = s.det
  | .msys => u.msys.passI = s.msys.passI ∧ u.msys.passH = s.msys.passH ∧ u.msys.perI = s.msys.perI ∧ u.msys.perH = s.msys.perH ∧
      u.msys.repair = s.msys.repair ∧ u.msys.remapped = s.msys.remapped ∧ u.msys.rows = s.msys.rows ∧ u.msys.undef = s.msys.undef
  | .alive => u.msys.seq = s.msys.seq ∧ u.msys.alive = s.msys.alive
  | .benches => u.benches = s.benches
  | .mill => u.mill = s.mill
  | .fab => u.fab = s.fab
  | .coll => u.coll = s.coll
  | .temper => u.temper = s.temper
  | .stock => u.stock = s.stock
  | .queue => u.pending = s.pending

/-- At most the parts of a list differ between two states. -/
def Only (l : List Part) (s u : State) : Prop := ∀ p, p ∉ l → p.same s u

/-- At most the register words at the addresses of a list differ. -/
def WordsOnly (l : List Nat) (s u : State) : Prop := ∀ a, a ∉ l → u.word a = s.word a

/-- At most the `n` bytes of memory from `lo` on differ. -/
def BytesOnly (lo n : Nat) (s u : State) : Prop := ∀ a, (a < lo ∨ lo + n ≤ a) → u.byteAt a = s.byteAt a

/-- The invariant of every step: the register file and memory are in their canonical form, so that equal contents are equal data. -/
def Canonical (s : State) : Prop := Sparse.wf regReset s.regs = true ∧ Memory.wf s.msys.undef s.mem = true

/-- The answer of a command is a next state of which `P` holds. -/
def Does (c : Instr) (s : State) (P : State → Prop) : Prop := ∃ u, exec c s = .next u ∧ P u

/-- No injection is armed, no code word (at most 64 bytes) that a span touches is damaged or poisoned, and the HBM groups of its words count
their accesses as the controllers do: its accesses neither fail nor correct anything, and break no alive count (R456, R480). -/
def Whole (s : State) (a n : Nat) : Prop :=
  s.bit FLT_INJ_LEFT_ARMED = false ∧ (∀ w, a < w + 64 → w < a + n → s.errAt w = none) ∧
  ∀ w c, c < 5 → w < hbmEnd → a < w + 64 → w < a + n →
    aliveOf s.msys.seq (5 * groupOf w + c) = aliveOf s.msys.alive (5 * groupOf w + c)

/-- An event changes nothing but the clock: what it needs does not hold. -/
def Idle (c : Instr) (s : State) : Prop := ∃ u, exec c s = .next u ∧ Only [.clock] s u

/-- Of the logical Benches, `l` alone may differ, and it is `b` now. -/
def BenchIs (l : Nat) (b : Bench) (s u : State) : Prop := u.bench l = b ∧ ∀ j, j ≠ l → u.bench j = s.bench j

/-- The stream of logical Bench `l` stopped with an error (R214) at a slot of the bundle `id` issued from `pc`: the mover cells of that bundle
and of later ones are released (R362), later bundles are dropped, the code and the slot stand in MIL_BERR, a Bench not yet in error is counted
and the first one captured, and one fault at level 2 of the code's class waits for the collector. -/
def StreamStops (l id pc slot code : Nat) (s0 u : State) : Prop :=
  let s := s0.moverFree l (fun i _ => decide (id ≤ i))
  BenchIs l { s.bench l with st := .error, flight := (s.bench l).flight.filter (fun x => decide (x.id < id)), pc := pc, waitc := none } s u ∧
  u.rd (MIL_BERR_CODE l) = code ∧ u.rd (MIL_BERR_SLOT l) = slot ∧ 
  u.rd MIL_ERR_COUNT = (if (s.bench l).st = .error then s.rd MIL_ERR_COUNT else min (s.rd MIL_ERR_COUNT + 1) (2 ^ 32 - 1)) ∧
  u.bit MIL_ERR_FIRST_VALID = true ∧
  u.rd MIL_ERR_FIRST_LBENCH = (if s.bit MIL_ERR_FIRST_VALID then s.rd MIL_ERR_FIRST_LBENCH else l) ∧
  WordsOnly [(MIL_BERR_CODE l).addr, MIL_ERR_COUNT.addr, MIL_ERR_FIRST_VALID.addr] s u ∧
  (∃ r, u.flt.reports = s.flt.reports ++ [r] ∧ r.cls = streamClass code ∧ r.level = 2 ∧ r.code = code ∧ r.master = mBench l ∧
    r.tick = s.now ∧ r.conseq = false) ∧
  Only [.benches, .regs, .flt] s u

/-- Port `k` went down with a cause (R346, R350, R353): it shows DOWN, or where ADMIN, the signal, its power and no hold let it rise again at
once SIGNAL, or ALIGN with its lanes ready; the cause, is held where no bring-up may follow, both counters of downs moved, its link delay is
not valid, and nothing waits for a replay. Registers, the fabric, the time grid, outputs and waiting reports are all that may change. -/
def PortDown (k cause : Nat) (s u : State) : Prop :=
  u.rd (LK_STAT_STATE k) = (if u.mayRise k then (if u.lanesReady k then 2 else 1) else 0) ∧ u.rd (LK_STAT_CAUSE k) = cause ∧
  u.bit (LK_STAT_HELD k) = (cause == 2 || !s.bit (LK_CTRL_ADMIN k) || !s.bit (LK_CFG_USE k)) ∧
  u.rd (LK_STAT_DOWNS k) = min (s.rd (LK_STAT_DOWNS k) + 1) (2 ^ (LK_STAT_DOWNS k).width - 1) ∧
  u.rd LK_SUM_DOWNS = min (s.rd LK_SUM_DOWNS + 1) (2 ^ LK_SUM_DOWNS.width - 1) ∧ u.bit (TG_LDLY_VALID k) = false ∧
  (u.port k).txHeld = [] ∧ (u.port k).openRx = none ∧ Only [.clock, .regs, .fab, .tg, .flt, .outs] s u

end Sys2Proof.Machine
end

