-- ==== Sys2Proof/Certificates/Slice0/Obligations.lean ====
section
/-! DEFINITION. The statements for the provers: what each command of the block does to the state, when it changes nothing, and the
invariant of every step. -/

open Sys2Proof Sys2Proof.Machine

/-- For every command c and state s, a step of s with c at the front of its queue is exec of c on s with the queue's rest; on an empty
queue (the model's choice, log 2) one tick passes and nothing else changes. -/
def Obligations.StepRunsFrontCommand : Prop :=
  (∀ (c : Instr) (q : List Instr) (s : State), step { s with pending := c :: q } = exec c { s with pending := q }) ∧
  (∀ s : State, s.pending = [] → ∃ u, step s = .next u ∧ u.now = s.now + 1 ∧ Only [.clock] s u)

/-- After reset the queue is empty, the node state is UNCAST with the phase IDLE and nothing staged or bound, the tick counter is 0, the node is
not READY, no job is quenched, every register word holds its reset word, and the reset words of the drain limit, the late limit, the
acknowledge window and the fence delay are those of the field tables. -/
def Obligations.ResetLeavesNodeUncast : Prop :=
  State.reset.pending = [] ∧ State.reset.nodeState = stUncast ∧ State.reset.phase? = phIdle ∧ State.reset.cst.staged = [] ∧
  State.reset.bound = false ∧ State.reset.now = 0 ∧ State.reset.ready = false ∧ State.reset.quenched = false ∧
  (∀ a, State.reset.word a = regReset a) ∧ State.reset.rd CST_DRAIN_LIMIT = 50000 ∧ State.reset.rd TG_LATE_LIMIT = 16777216 ∧
  State.reset.rd RT_FCTL_DELAY = 524288

/-- The register file and the memory of the reset state are in their canonical form. -/
def Obligations.ResetIsCanonical : Prop := Canonical State.reset

/-- From every state whose register file and memory are in canonical form (addresses strictly rising, no entry equal to what an unlisted
address reads as), whatever command is at the front of the queue and also on an empty queue, a step that answers a next state answers one
whose register file and memory are in canonical form: equal contents stay equal data. -/
def Obligations.StepKeepsCanonicalForm : Prop :=
  ∀ s u : State, Canonical s → step s = .next u → Canonical u

/-- Every command on every state answers a next state, and that state's queue is the queue it was given: a step removes exactly the front
command. -/
def Obligations.CommandsLeaveTheQueue : Prop :=
  ∀ (c : Instr) (s : State), ∃ u : State, exec c s = .next u ∧ u.pending = s.pending

/-- On a ready node, an aligned write by a host port or the board controller to a 32-bit register without an effect of its own. L class: the
register takes the value in every node state. C class: it takes the value while UNCAST; while APPLYING it is refused with BUSY, while CAST
or DRAINING with SEALED: the register keeps its value, WRITE_REF and CODE are set and one SW note waits for the collector. S class: the
value while UNCAST; BUSY while APPLYING; while CAST or DRAINING it pends: no register word changes, the write takes the last place (or the
place of the pending write of that register), and a read of the register shows the value written; with 4,096 other writes pending it is
refused with SFULL. Nothing else changes. -/
def Obligations.RegisterWriteByApplyClass : Prop :=
  ∀ (t v : Nat) (p : Path) (s : State), s.ready = true → p ≠ .ms → v < 2 ^ 32 →
    let takes (f : Fld) : Prop := ∃ u : State, exec (.registerWrite t p f.addr 4 v) s = .next u ∧ u.rd f = v ∧ WordsOnly [f.addr] s u ∧
      Only [.clock, .regs] s u
    let refused (f : Fld) (code : Nat) : Prop := ∃ u : State, exec (.registerWrite t p f.addr 4 v) s = .next u ∧ u.rd f = s.rd f ∧
      u.bit CST_ERR_WRITE_REF = true ∧ u.rd CST_ERR_CODE = code ∧ WordsOnly [CST_ERR_CODE.addr] s u ∧ Only [.clock, .regs, .flt] s u ∧
      u.flt.reports = s.flt.reports ++ [⟨.sw, 0, code, p.master, 3, 0, u.now, false, false⟩]
    (∀ f ∈ [CST_DRAIN_LIMIT, CST_LEN], takes f) ∧
    (∀ f ∈ [RT_FCTL_DELAY, SW_QAGE],
      (s.nodeState = stUncast → takes f) ∧ (s.nodeState = stApplying → refused f ceBusy) ∧
      (s.nodeState = stCast ∨ s.nodeState = stDraining → refused f ceSealed)) ∧
    (s.nodeState = stUncast → takes TG_LATE_LIMIT) ∧ (s.nodeState = stApplying → refused TG_LATE_LIMIT ceBusy) ∧
    (s.nodeState = stCast ∨ s.nodeState = stDraining →
      let has := s.cst.spend.any (fun w => w.addr == TG_LATE_LIMIT.addr)
      (has = true ∨ s.cst.spend.length < 4096 →
        ∃ u : State, exec (.registerWrite t p TG_LATE_LIMIT.addr 4 v) s = .next u ∧ Only [.clock, .cst] s u ∧
          u.cst.spend.length = s.cst.spend.length + (if has then 0 else 1) ∧ u.regView TG_LATE_LIMIT.addr = v) ∧
      (has = false → 4096 ≤ s.cst.spend.length → refused TG_LATE_LIMIT ceSfull))

/-- LOW_WORD_READ on a ready node, of the low word of a 64-bit value, by a host port or the board controller that holds no copy for that
address: the value shown is answered, and no register changes. Whatever happens to the registers after that, the next read of the high word
from the same port answers what the high word showed at the low word's read; a read of the high word with no copy held answers what it
shows now. -/
def Obligations.LowWordReadKeepsOneInstant : Prop :=
  ∀ (t a : Nat) (p : Path) (s : State), s.ready = true → p ≠ .ms → a % 4 = 0 → hitsLow lowRo a = true ∨ hitsLow lowRw a = true →
    s.cst.heldHigh.find? (fun e => e.1 == p && e.2.1 == a) = none →
    ∃ u : State, exec (.lowWordRead t p a 4) s = .next u ∧ u.outs = s.outs ++ [.read p a ((s.at t).regView a)] ∧
      Only [.clock, .outs, .cst] s u ∧
      (∀ (t2 : Nat) (s2 : State), s2.ready = true → s2.cst.heldHigh = u.cst.heldHigh →
        ∃ w : State, exec (.lowWordRead t2 p (a + 4) 4) s2 = .next w ∧ w.outs = s2.outs ++ [.read p (a + 4) ((s.at t).regView (a + 4))] ∧
          Only [.clock, .outs, .cst] s2 w) ∧
      (∀ (t2 : Nat) (s2 : State), s2.ready = true → s2.cst.heldHigh.find? (fun e => e.1 == p && e.2.1 == a + 4) = none →
        ∃ w : State, exec (.lowWordRead t2 p (a + 4) 4) s2 = .next w ∧ w.outs = s2.outs ++ [.read p (a + 4) ((s2.at t2).regView (a + 4))])

/-- On a ready node, for CST_SRC and SEC_KEYSRC. A write of the low word changes no register and is held for the path that wrote it. A write
of the high word that finds it held, not older than 1 ms, sets both halves and nothing else; one that finds none sets the high half alone.
HELD_LOW_WORD_EXPIRY discards exactly the words its path has held for 1 ms. -/
def Obligations.LowWordWriteIsHeld : Prop :=
  ∀ (t v : Nat) (p : Path) (s : State), s.ready = true → p ≠ .ms → v < 2 ^ 32 →
    (∀ f ∈ [CST_SRC_LO, SEC_KEYSRC_LO],
      (∃ u : State, exec (.registerWrite t p f.addr 4 v) s = .next u ∧ Only [.clock, .cst] s u ∧ u.heldLow p f.addr = some v ∧
        ∀ a, a ≠ f.addr → u.heldLow p a = none) ∧
      (∀ lo, lo < 2 ^ 32 → (s.at t).heldLow p f.addr = some lo →
        ∃ u : State, exec (.registerWrite t p (f.addr + 4) 4 v) s = .next u ∧ u.rd f = lo ∧ u.rd f.hi = v ∧
          WordsOnly [f.addr, f.addr + 4] s u ∧ Only [.clock, .regs, .cst] s u ∧ u.heldLow p f.addr = none) ∧
      ((s.at t).heldLow p f.addr = none →
        ∃ u : State, exec (.registerWrite t p (f.addr + 4) 4 v) s = .next u ∧ u.rd f = s.rd f ∧ u.rd f.hi = v ∧
          WordsOnly [f.addr + 4] s u ∧ Only [.clock, .regs] s u)) ∧
    (∃ u : State, exec (.heldLowWordExpiry t p) s = .next u ∧ Only [.clock, .cst] s u ∧ u.cst.heldHigh = s.cst.heldHigh ∧
      ∀ e, e ∈ u.cst.heldLow ↔ (e ∈ s.cst.heldLow ∧ (e.1 = p → u.now < e.2.2.2 + 1600000)))

/-- At the word address a of MGT_BCADDR, with no repair on its stack, the code word that holds a undamaged, its group's counts in step and no
injection armed. Where the guild rules grant the
board controller the read, BCDATA_READ answers the four bytes at a; where they grant the write, BCDATA_WRITE stores the value's four bytes
at a, leaving every other byte. A refused access moves no data: the read answers FFFF_FFFF, ERR is set in MGT_BCSTAT and CODE is 1 for a
mapped address and 3 for another. In every case MGT_BCADDR moves on by 4; a granted access changes no other register and no other part, but for what the group counts. -/
def Obligations.BoardControllerWindow : Prop :=
  ∀ (t v : Nat) (p : Path) (s : State), v < 2 ^ 32 → s.spanWaits s.bcAddr 4 = false → Whole s s.bcAddr 4 →
    let moves (u : State) : Prop := u.rd64 MGT_BCADDR_LO = (s.rd64 MGT_BCADDR_LO + 4) % 2 ^ 64
    let code := if s.mapped s.bcAddr 4 then 1 else 3
    (s.granted (pathMaster .bc) .r s.bcAddr 4 = true →
      ∃ u : State, exec (.bcdataRead t p) s = .next u ∧ u.outs = s.outs ++ [.read p MGT_BCDATA.addr (leAt (s.bytesAt s.bcAddr 4) 0 4)] ∧
        moves u ∧ WordsOnly [MGT_BCADDR_LO.addr, MGT_BCADDR_HI.addr] s u ∧ Only [.clock, .regs, .outs, .alive] s u) ∧
    (s.granted (pathMaster .bc) .w s.bcAddr 4 = true →
      ∃ u : State, exec (.bcdataWrite t v) s = .next u ∧ u.bytesAt s.bcAddr 4 = leBytes 4 v ∧ BytesOnly s.bcAddr 4 s u ∧ moves u ∧
        WordsOnly [MGT_BCADDR_LO.addr, MGT_BCADDR_HI.addr] s u ∧ Only [.clock, .regs, .mem, .alive] s u) ∧
    (s.granted (pathMaster .bc) .r s.bcAddr 4 = false →
      ∃ u : State, exec (.bcdataRead t p) s = .next u ∧ u.outs = s.outs ++ [.read p MGT_BCDATA.addr 0xFFFFFFFF] ∧ moves u ∧
        u.bit MGT_BCSTAT_ERR = true ∧ u.rd MGT_BCSTAT_CODE = code ∧ Part.mem.same s u) ∧
    (s.granted (pathMaster .bc) .w s.bcAddr 4 = false →
      ∃ u : State, exec (.bcdataWrite t v) s = .next u ∧ moves u ∧ u.bit MGT_BCSTAT_ERR = true ∧ u.rd MGT_BCSTAT_CODE = code ∧
        Part.mem.same s u)

/-- BAR2_ACCESS by host port p of n bytes at offset o that stay within one 256-byte cell, whose node memory address a the aperture gives, in
a span whose code words are undamaged, whose groups' counts are in step and on whose stack no repair runs, with no injection armed. A granted
read answers the bytes and changes nothing else but what the groups count; a granted write to HBM stores the bytes and changes no other byte
and no other part but those counts; a refused read is aborted and a refused write stores nothing. -/
def Obligations.HostReachesNodeMemory : Prop :=
  ∀ (t p o n : Nat) (bs : List Byte) (room : Bool) (s : State), p < 2 → 0 < n → bs.length = n →
    let a := s.bar2Addr p o
    a % 256 + n ≤ 256 → s.spanWaits a n = false → Whole s a n →
    (s.granted (pathMaster (hostPath p)) .r a n = true →
      ∃ u : State, exec (.bar2Access t p o n none room) s = .next u ∧ u.outs = s.outs ++ [.read (hostPath p) a (leAt (s.bytesAt a n) 0 n)] ∧
        Only [.clock, .outs, .alive] s u) ∧
    (s.granted (pathMaster (hostPath p)) .r a n = false →
      ∃ u : State, exec (.bar2Access t p o n none room) s = .next u ∧ u.outs = s.outs ++ [.abort p] ∧ Part.mem.same s u) ∧
    (s.granted (pathMaster (hostPath p)) .w a n = true → a < hbmEnd →
      ∃ u : State, exec (.bar2Access t p o n (some bs) room) s = .next u ∧ u.bytesAt a n = bs ∧ BytesOnly a n s u ∧ Only [.clock, .mem, .alive] s u) ∧
    (s.granted (pathMaster (hostPath p)) .w a n = false →
      ∃ u : State, exec (.bar2Access t p o n (some bs) room) s = .next u ∧ Part.mem.same s u ∧ u.outs = s.outs)

/-- I3C_TRANSFER with a right packet error code and a value is REGISTER_WRITE by the board controller of 4 bytes at its address; without
a value it is LOW_WORD_READ by the board controller; with a wrong code it changes nothing but the tick. So on a ready node a transfer of
4 data bytes to a live register without an effect of its own (CST_DRAIN_LIMIT, CST_LEN, SEC_CLR_LEN) sets that register alone, and one of the
address of a register other than MGT_BCDATA, with no copy of that word held for the board controller, answers what the register shows and
changes no register. -/
def Obligations.I3cTransferIsARegisterAccess : Prop :=
  ∀ (t a v : Nat) (s : State),
    exec (.i3cTransfer t ⟨a, some v, true⟩) s = exec (.registerWrite t .bc a 4 v) s ∧
    exec (.i3cTransfer t ⟨a, none, true⟩) s = exec (.lowWordRead t .bc a 4) s ∧
    (∀ x : I3c, x.pecOk = false → ∃ u : State, exec (.i3cTransfer t x) s = .next u ∧ u.now = max s.now t ∧ Only [.clock] s u) ∧
    (s.ready = true → v < 2 ^ 32 → ∀ f ∈ [CST_DRAIN_LIMIT, CST_LEN, SEC_CLR_LEN],
      ∃ u : State, exec (.i3cTransfer t ⟨f.addr, some v, true⟩) s = .next u ∧ u.rd f = v ∧ WordsOnly [f.addr] s u ∧
        Only [.clock, .regs] s u) ∧
    (s.ready = true → a % 4 = 0 → a ≠ MGT_BCDATA.addr → s.cst.heldHigh.find? (fun e => e.1 == .bc && e.2.1 == a) = none →
      ∃ u : State, exec (.i3cTransfer t ⟨a, none, true⟩) s = .next u ∧ u.outs = s.outs ++ [.read .bc a ((s.at t).regView a)] ∧
        Only [.clock, .outs, .cst] s u)

/-- With a request m at the front of the management queue, while RT_NODE.VALID is 0 (the response then leaves by the
arrival port): the request leaves the queue, its stream's end has room for one flit more, and the response with its status and value is enqueued on VC6 of that port. READ: status 1 and
no count where MGT_MSVC.RD is 0; 3 for an address that is no defined, aligned register; else 0 with the value that the register shows.
WRITE: 1 where WR is 0; 2 in a protected block; 3 for an undefined address; each changes no register. -/
def Obligations.ManagementServiceAnswers : Prop :=
  ∀ (t src k : Nat) (f : Flit) (rest : List (Nat × Bool × Nat × Flit)) (s : State),
    s.fab.mgmtIn = (src, false, k, f) :: rest → isRequest f = true → (s.at t).nodeValid = false →
    let s0 : State := ({ s.at t with fab := { s.fab with mgmtIn := rest } }).tookFlit src k false
    let answer (x : State) (st v : Nat) : State := x.mgmtSend (src, false, k, f) (mgmtBody f st v)
    (mgmtOp f = 0 →
      (s.bit MGT_MSVC_RD = false → exec (.read t) s = .next (answer s0 1 0)) ∧
      (s.bit MGT_MSVC_RD = true → definedReg (mgmtAddr f) = false → exec (.read t) s = .next (answer s0 3 0)) ∧
      (s.bit MGT_MSVC_RD = true → definedReg (mgmtAddr f) = true →
        exec (.read t) s = .next (answer ((s0.readReg .ms (mgmtAddr f) 4).2.inc MGT_MSVC_CNT_READS) 0 (s0.readReg .ms (mgmtAddr f) 4).1))) ∧
    (mgmtOp f = 1 →
      (s.bit MGT_MSVC_WR = false → exec (.write t) s = .next (answer s0 1 (mgmtValue f))) ∧
      (s.bit MGT_MSVC_WR = true → protectedBlock (mgmtAddr f) = true → exec (.write t) s = .next (answer s0 2 (mgmtValue f))) ∧
      (s.bit MGT_MSVC_WR = true → protectedBlock (mgmtAddr f) = false → definedReg (mgmtAddr f) = false →
        exec (.write t) s = .next (answer s0 3 (mgmtValue f))) ∧
      (s.bit MGT_MSVC_WR = true → mgmtAddr f = TG_LATE_LIMIT.addr → s.ready = true → s.nodeState = stUncast → s.bit CST_ERR_WRITE_REF = false →
        ∃ x : State, exec (.write t) s = .next (answer (x.inc MGT_MSVC_CNT_WRITES) 0 (mgmtValue f)) ∧ x.rd TG_LATE_LIMIT = mgmtValue f ∧
          WordsOnly [TG_LATE_LIMIT.addr] s0 x)) ∧
    (∀ (x : State) (body : List Byte), x.nodeValid = false → ∃ m : QEnt, x.mgmtSend (src, false, k, f) body = x.enqueue k 6 m ∧
      m.flit.data = leBytes 4 x.nodeAddr ++ body ++ List.replicate (252 - body.length) 0)

/-- On a ready node. Not quenched, with no COMMIT bound and no load in FETCH, SIGN or CHECK: LOAD and LOAD_COMMIT latch CST_SRC, cut to a
page, and CST_LEN, drop what was staged, remember which of the two they are, and move the phase to FETCH; the Casting in force, the pending
writes and every other field of CST_STATE but COMMIT stay. Otherwise they are refused with STATE, or BUSY during a load: CODE, DETAIL 0 and
LOAD_FAIL are set, a CAST alert waits for the collector, the refusal waits for the chain, and nothing else changes. -/
def Obligations.LoadLatchesAndFetches : Prop :=
  ∀ (t : Nat) (p : Path) (s : State), s.ready = true →
    let digest := (List.range 12).map (fun i => (CST_STAGED_DIGEST i).addr)
    let goes (c : Instr) (auto : Bool) : Prop := ∃ u : State, exec c s = .next u ∧ u.phase? = phFetch ∧ u.bound = false ∧
      u.cst = { s.cst with staged := [], src := s.rd64 CST_SRC_LO / 4096 * 4096, len := s.rd CST_LEN, port := fetchPort p, autoCommit := auto } ∧
      (∀ f ∈ [CST_STATE_STATE, CST_STATE_DRAIN_TO, CST_STATE_SCALE, CST_STATE_MAPINV, CST_STATE_QUENCHED, CST_STATE_CONTRACT],
        u.rd f = s.rd f) ∧
      WordsOnly (CST_STATE_STATE.addr :: digest) s u ∧ Only [.clock, .regs, .outs, .cst] s u
    let refused (c : Instr) (code op : Nat) : Prop := ∃ u : State, exec c s = .next u ∧ u.rd CST_ERR_CODE = code ∧ u.rd CST_ERR_DETAIL = 0 ∧
      u.bit CST_ERR_LOAD_FAIL = true ∧ u.flt.reports = s.flt.reports ++ [⟨.cast, 1, code, mCast, 7, 0, u.now, false, false⟩] ∧
      (⟨u.now, 65, hallRecs u.now 4 0 ([BitVec.ofNat 8 code, 0, BitVec.ofNat 8 op, 0] ++ slice [] 0 48)⟩ : HGroup) ∈ u.sec.wait ∧
      WordsOnly [CST_ERR_CODE.addr] s u ∧ Only [.clock, .regs, .flt, .sec] s u
    (s.nodeQuenched = false → s.bound = false → s.loading = false → goes (.load t p) false ∧ goes (.loadCommit t p) true) ∧
    (s.nodeQuenched = true ∨ s.bound = true → refused (.load t p) 0x10 1 ∧ refused (.loadCommit t p) 0x10 3) ∧
    (s.nodeQuenched = false → s.bound = false → s.loading = true → refused (.load t p) 1 1 ∧ refused (.loadCommit t p) 1 3)

/-- On a ready node. COMMIT binds a staged Casting while UNCAST or CAST and tells both host ports; it is refused with STATE on a quenched node,
while one is bound, and in APPLYING or DRAINING, and with NOSTAGE where nothing is staged. DISCARD drops what is staged. ABORT ends a load
outside APPLYING. Each of the last two returns the phase to IDLE with nothing staged or bound. Refused, they and OP 7 to 15 set CODE and
DETAIL without LOAD_FAIL and leave an SW note. The node state never changes. -/
def Obligations.StagingCommands : Prop :=
  ∀ (t op : Nat) (p : Path) (s : State), s.ready = true →
    let digest := (List.range 12).map (fun i => (CST_STAGED_DIGEST i).addr)
    let kept (u : State) : Prop := ∀ f ∈ [CST_STATE_STATE, CST_STATE_DRAIN_TO, CST_STATE_SCALE, CST_STATE_MAPINV, CST_STATE_QUENCHED,
      CST_STATE_CONTRACT], u.rd f = s.rd f
    let drops (c : Instr) : Prop := ∃ u : State, exec c s = .next u ∧ u.phase? = phIdle ∧ u.bound = false ∧ kept u ∧
      u.cst = { s.cst with staged := [], autoCommit := false } ∧ u.rdBytes CST_STAGED_DIGEST 12 = List.replicate 48 0 ∧
      WordsOnly (CST_STATE_STATE.addr :: digest) s u ∧ Only [.clock, .regs, .outs, .cst] s u
    let note (c : Instr) (code : Nat) : Prop := ∃ u : State, exec c s = .next u ∧ u.rd CST_ERR_CODE = code ∧ u.rd CST_ERR_DETAIL = 0 ∧
      u.bit CST_ERR_LOAD_FAIL = s.bit CST_ERR_LOAD_FAIL ∧
      u.flt.reports = s.flt.reports ++ [⟨.sw, 0, code, p.master, 3, 0, u.now, false, false⟩] ∧
      WordsOnly [CST_ERR_CODE.addr] s u ∧ Only [.clock, .regs, .flt] s u
    let commitRefused (code : Nat) : Prop := ∃ u : State, exec (.commit t) s = .next u ∧ u.rd CST_ERR_CODE = code ∧ u.bit CST_ERR_LOAD_FAIL = true ∧
      WordsOnly [CST_ERR_CODE.addr] s u ∧ Only [.clock, .regs, .flt, .sec] s u
    (s.nodeQuenched = false → s.bound = false → s.phase? = phStaged → s.nodeState = stUncast ∨ s.nodeState = stCast →
      ∃ u : State, exec (.commit t) s = .next u ∧ u.bound = true ∧ u.phase? = phStaged ∧ kept u ∧ u.outs = s.outs ++ [.msix 0 2, .msix 1 2] ∧
        WordsOnly [CST_STATE_STATE.addr] s u ∧ Only [.clock, .regs, .outs] s u) ∧
    (s.nodeQuenched = true ∨ s.bound = true → commitRefused 0x10) ∧
    (s.nodeQuenched = false → s.bound = false → s.phase? ≠ phStaged → commitRefused 0xF) ∧
    (s.nodeQuenched = false → s.bound = false → s.phase? = phStaged → s.nodeState = stApplying ∨ s.nodeState = stDraining →
      commitRefused 0x10) ∧
    (s.bound = false → s.phase? = phStaged → drops (.discard t p)) ∧ (s.bound = true → note (.discard t p) 0x10) ∧
    (s.bound = false → s.phase? ≠ phStaged → note (.discard t p) 0xF) ∧
    (s.nodeState ≠ stApplying → s.loading = true → drops (.abort t p)) ∧
    (s.nodeState = stApplying ∨ s.loading = false → note (.abort t p) 0x10) ∧
    (7 ≤ op → op ≤ 15 → note (.cstOpReserved t p op) 0x10)

/-- On a ready node. While CAST, UNCAST cancels a bound COMMIT and moves the node to DRAINING toward UNCAST, with the drain's clock at the
command's tick; while DRAINING with a COMMIT bound it cancels it and turns the drain toward UNCAST; while UNCAST with a COMMIT bound it only
cancels it, and with none bound it changes nothing; while APPLYING it is refused with STATE. The staged Casting stays staged. -/
def Obligations.UncastDrains : Prop :=
  ∀ (t : Nat) (p : Path) (s : State), s.ready = true →
    (s.nodeState = stCast →
      ∃ u : State, exec (.uncast t p) s = .next u ∧ u.nodeState = stDraining ∧ u.bit CST_STATE_DRAIN_TO = false ∧ u.bound = false ∧
        u.phase? = s.phase? ∧ u.cst.staged = s.cst.staged ∧ u.cst.img = s.cst.img ∧ u.cst.drainStart = u.now ∧ u.rd64 CST_SINCE_LO = u.now % 2 ^ 64 ∧
        WordsOnly [CST_STATE_STATE.addr, CST_SINCE_LO.addr, CST_SINCE_HI.addr] s u ∧ Only [.clock, .regs, .outs, .cst, .sec] s u) ∧
    (s.nodeState = stDraining → s.bound = true →
      ∃ u : State, exec (.uncast t p) s = .next u ∧ u.nodeState = stDraining ∧ u.bit CST_STATE_DRAIN_TO = false ∧ u.bound = false ∧
        u.cst = { s.cst with autoCommit := false } ∧ WordsOnly [CST_STATE_STATE.addr] s u ∧ Only [.clock, .regs, .outs, .cst] s u) ∧
    (s.nodeState = stUncast → s.bound = true →
      ∃ u : State, exec (.uncast t p) s = .next u ∧ u.nodeState = stUncast ∧ u.bound = false ∧ u.phase? = s.phase? ∧
        u.cst = { s.cst with autoCommit := false } ∧ WordsOnly [CST_STATE_STATE.addr] s u ∧ Only [.clock, .regs, .outs, .cst] s u) ∧
    (s.nodeState = stUncast ∨ s.nodeState = stDraining → s.bound = false →
      ∃ u : State, exec (.uncast t p) s = .next u ∧ Only [.clock] s u) ∧
    (s.nodeState = stApplying →
      ∃ u : State, exec (.uncast t p) s = .next u ∧ u.rd CST_ERR_CODE = 0x10 ∧
        u.flt.reports = s.flt.reports ++ [⟨.sw, 0, 0x10, p.master, 3, 0, u.now, false, false⟩] ∧
        WordsOnly [CST_ERR_CODE.addr] s u ∧ Only [.clock, .regs, .flt] s u)

/-- With no repair on the stack of the staging area, the first page is kept where MAGIC, FORMAT and LENGTH are right; the rest joins it and the phase moves to SIGN where the signature page's
SMAGIC and reserved bytes are right; the signature's verification under the enrolled key of its slot moves the phase to CHECK; a CHECK without
a failure moves it to STAGED, with the digest in CST_STAGED_DIGEST, and a LOAD_COMMIT that may commit is then bound. Each failure ends the load
with its own code: MAGIC 3, LENGTH 4, FETCH 5 with the kind, SIGKEY 6, SIGNATURE 7, and CHECK's code and detail. A failed load leaves the phase
IDLE with nothing staged, CODE, DETAIL and LOAD_FAIL set, one CAST alert waiting, and the node state as it was. -/
def Obligations.LoadStepsInOrder : Prop :=
  ∀ (t : Nat) (s : State),
    let fails (c : Instr) (code detail : Nat) : Prop := ∃ u : State, exec c s = .next u ∧ u.phase? = phIdle ∧ u.cst.staged = [] ∧ u.bound = false ∧
      u.rd CST_ERR_CODE = code % 256 ∧ u.rd CST_ERR_DETAIL = detail % 256 ∧ u.bit CST_ERR_LOAD_FAIL = true ∧ u.nodeState = s.nodeState ∧
      u.cst.img = s.cst.img ∧ u.flt.reports = s.flt.reports ++ [⟨.cast, 1, code, mCast, 7, 0, u.now, false, false⟩] ∧
      Only [.clock, .regs, .flt, .sec, .outs, .cst] s u
    let moves (c : Instr) (ph : Nat) (img : List Byte) : Prop := ∃ u : State, exec c s = .next u ∧ u.phase? = ph ∧ u.nodeState = s.nodeState ∧
      u.bound = s.bound ∧ u.cst = { s.cst with staged := img } ∧ WordsOnly [CST_STATE_STATE.addr] s u ∧ Only [.clock, .regs, .outs, .cst] s u
    (∀ page : List Byte, page.length = 4096 → s.phase? = phFetch → s.cst.staged = [] → s.repairing stagingArea.1 = false →
      let bad := leAt page 0 4 ≠ 0x53435A54 ∨ leAt page 4 2 ≠ 1
      let n := leAt page 8 8
      let long := n ≠ s.cst.len ∨ n % 4096 ≠ 0 ∨ n < 12288 ∨ 134217728 < n
      (bad → fails (.fetchFirstPage t page) 3 0) ∧ (¬bad → long → fails (.fetchFirstPage t page) 4 0) ∧
      (¬bad → ¬long → moves (.fetchFirstPage t page) phFetch page)) ∧
    (∀ kind, s.phase? = phFetch → fails (.fetchReadFail t kind) 5 kind) ∧
    (∀ rest : List Byte, s.phase? = phFetch → s.cst.staged.length = 4096 → rest.length + 4096 = s.cst.len → 4096 ≤ rest.length →
      s.repairing stagingArea.1 = false →
      let sig := rest.drop (rest.length - 4096)
      let bad := leAt sig 0 4 ≠ 0x47535A54 ∨ leAt sig 6 2 ≠ 0
      (bad → fails (.fetchDone t rest) 3 0) ∧ (¬bad → moves (.fetchDone t rest) phSign (s.cst.staged ++ rest))) ∧
    (s.phase? = phSign →
      let slot := imgKeySlot s.cst.staged
      let sig := s.cst.staged.drop (s.cst.staged.length - 4096)
      let ok := ecdsaVerify (slotKey s.sec.keyBlock slot) (imgDigest s.cst.staged) (ofBeBytes (slice sig 8 48)) (ofBeBytes (slice sig 56 48))
      (15 < slot ∨ s.slotState slot ≠ 1 → fails (.signDone t) 6 0) ∧
      (slot ≤ 15 → s.slotState slot = 1 → ok = false → fails (.signDone t) 7 0) ∧
      (slot ≤ 15 → s.slotState slot = 1 → ok = true → moves (.signDone t) phCheck s.cst.staged)) ∧
    (s.phase? = phCheck →
      (∀ c d, (s.at t).checkImage s.cst.staged = some (c, d) → fails (.checkDone t) c d) ∧
      ((s.at t).checkImage s.cst.staged = none → (s.cst.autoCommit = true → s.nodeState = stUncast ∨ s.nodeState = stCast) →
        ∃ u : State, exec (.checkDone t) s = .next u ∧ u.phase? = phStaged ∧ (u.bound = true ↔ s.bound = true ∨ s.cst.autoCommit = true) ∧
          u.cst = s.cst ∧ u.nodeState = s.nodeState ∧
          (∀ i < 12, u.rd (CST_STAGED_DIGEST i) = leAt (imgDigest s.cst.staged) (4 * i) 4) ∧
          Only [.clock, .regs, .outs] s u) ∧
      ((s.at t).checkImage s.cst.staged = none → s.cst.autoCommit = true → s.nodeState = stApplying ∨ s.nodeState = stDraining →
        ∃ u : State, exec (.checkDone t) s = .next u ∧ u.phase? = phStaged ∧ u.bound = s.bound ∧ u.rd CST_ERR_CODE = 0x10 ∧
          u.bit CST_ERR_LOAD_FAIL = true ∧ u.cst = { s.cst with autoCommit := false } ∧ Only [.clock, .regs, .outs, .flt, .sec, .cst] s u))

/-- With a COMMIT bound: a re-check that fails refuses it, and the phase is IDLE with nothing staged or bound while the node state stays; one
that passes moves an uncast node to APPLYING and a cast node to DRAINING toward the apply. A drain that is complete toward UNCAST, or whose
limit of max(1, CST_DRAIN_LIMIT) us has passed, leaves the node UNCAST with no Casting in force, CST_DIGEST zero and no pending write; toward
the apply, with a re-check that passes, it leaves the node APPLYING. The limit's expiry flags a CAST fault at level 2. A drain that is not
complete, and a limit not yet reached, change nothing. -/
def Obligations.CommitRecheckAndDrain : Prop :=
  ∀ (t : Nat) (s : State),
    let ended (c : Instr) (st : Nat) : Prop := ∃ u : State, exec c s = .next u ∧ u.nodeState = st ∧ u.cst.img = [] ∧ u.cst.spend = [] ∧
      u.cst.staged = s.cst.staged ∧ (∀ i < 12, u.rd (CST_DIGEST i) = 0) ∧ u.quenched = false ∧ u.bound = s.bound ∧
      u.rd64 CST_SINCE_LO = u.now % 2 ^ 64
    (s.bound = true → s.nodeState = stUncast ∨ s.nodeState = stCast →
      (∀ c d, s.recheck s.cst.staged = some (c, d) →
        ∃ u : State, exec (.commitRecheckDone t) s = .next u ∧ u.nodeState = s.nodeState ∧ u.phase? = phIdle ∧ u.bound = false ∧ u.cst.staged = [] ∧
          u.rd CST_ERR_CODE = c % 256 ∧ u.rd CST_ERR_DETAIL = d % 256 ∧ u.bit CST_ERR_LOAD_FAIL = true ∧
          Only [.clock, .regs, .flt, .sec, .outs, .cst] s u) ∧
      (s.recheck s.cst.staged = none → s.nodeState = stUncast → ended (.commitRecheckDone t) stApplying) ∧
      (s.recheck s.cst.staged = none → s.nodeState = stCast →
        ∃ u : State, exec (.commitRecheckDone t) s = .next u ∧ u.nodeState = stDraining ∧ u.bit CST_STATE_DRAIN_TO = true ∧ u.bound = true ∧
          u.cst = { s.cst with drainStart := u.now, seamDone := false } ∧
          WordsOnly [CST_STATE_STATE.addr, CST_SINCE_LO.addr, CST_SINCE_HI.addr] s u ∧ Only [.clock, .regs, .outs, .cst, .sec] s u)) ∧
    (s.nodeState = stDraining →
      ((s.at t).drained = true → s.bit CST_STATE_DRAIN_TO = false → ended (.drainDone t) stUncast) ∧
      ((s.at t).drained = true → s.bit CST_STATE_DRAIN_TO = true → s.recheck s.cst.staged = none → ended (.drainDone t) stApplying) ∧
      ((s.at t).drained = false → ∃ u : State, exec (.drainDone t) s = .next u ∧ Only [.clock] s u) ∧
      (s.cst.drainStart + 1600 * max 1 (s.rd CST_DRAIN_LIMIT) ≤ max s.now t → s.bit CST_STATE_DRAIN_TO = false →
        ended (.drainLimitExpiry t) stUncast ∧
        ∃ u : State, exec (.drainLimitExpiry t) s = .next u ∧ ∃ r ∈ u.flt.reports, r.cls = .cast ∧ r.level = 2 ∧ r.tick = u.now) ∧
      (max s.now t < s.cst.drainStart + 1600 * max 1 (s.rd CST_DRAIN_LIMIT) →
        ∃ u : State, exec (.drainLimitExpiry t) s = .next u ∧ Only [.clock] s u))

/-- While APPLYING, once every Hall that the staged Casting places is On, APPLY_COMPLETE carries the apply out whole: the node is CAST since this
tick, the staged image is the Casting in force, CST_DIGEST shows its digest and CST_STATE its SCALE, MAPINV and CONTRACT, and nothing is staged
or bound; with one of those Halls not On, or in another node state, it changes nothing but the tick. The steps leave the staged image as the
Casting in force; putting it in force shows the digest in CST_DIGEST, SCALE, MAPINV and CONTRACT in CST_STATE, counts in CST_CASTS, leaves
nothing staged or bound, and the node CAST. -/
def Obligations.ApplyPutsTheCastingInForce : Prop :=
  (∀ (t : Nat) (s : State), s.nodeState = stApplying → s.hallsReady = true →
    ∃ u : State, exec (.applyComplete t) s = .next u ∧ u = (s.at t).applyWhole ∧ u.nodeState = stCast ∧ u.cst.img = s.cst.staged ∧
      u.cst.staged = [] ∧ u.phase? = phIdle ∧ u.bound = false ∧
      (∀ i < 12, u.rd (CST_DIGEST i) = leAt (imgDigest s.cst.staged) (4 * i) 4) ∧
      u.rd CST_STATE_CONTRACT = imgContract s.cst.staged % 2 ^ 16 ∧ u.rd CST_STATE_SCALE = imgScale s.cst.staged % 2 ∧
      u.bit CST_STATE_MAPINV = imgMapInv s.cst.staged ∧ u.rd64 CST_SINCE_LO = u.now % 2 ^ 64 ∧ u.now = max s.now t) ∧
  (∀ (t : Nat) (s : State), s.nodeState ≠ stApplying ∨ s.hallsReady = false →
    ∃ u : State, exec (.applyComplete t) s = .next u ∧ Only [.clock] s u) ∧
  (∀ s : State, s.applySteps.cst.img = s.cst.staged) ∧
  (∀ (s : State) (a w : Nat), let u := s.castInForce a w
    u.nodeState = stCast ∧ u.cst.img = s.cst.img ∧ u.cst.staged = [] ∧ u.phase? = phIdle ∧ u.bound = false ∧
    (∀ i < 12, u.rd (CST_DIGEST i) = leAt (imgDigest s.cst.img) (4 * i) 4) ∧ u.rd CST_STATE_CONTRACT = imgContract s.cst.img % 2 ^ 16 ∧
    u.rd CST_STATE_SCALE = imgScale s.cst.img % 2 ∧ u.bit CST_STATE_MAPINV = imgMapInv s.cst.img ∧
    u.rd CST_CASTS = min (s.rd CST_CASTS + 1) (2 ^ 32 - 1) ∧ u.rd64 CST_SINCE_LO = s.now % 2 ^ 64)

/-- On a link that carries symbols, port k being the port the node takes time from. A good BARRIER symbol that answers no measurement gives
HOPS one more than the parent's, at most 31, and the parent's direction and port; a LOCKED node whose offset does not send it back to ACQUIRE
stays LOCKED with the counter untouched and shows the offset o = COUNT + link delay - arrival, in 1/64 tick; a cast node beyond 16 ticks
takes TIMING_LOST and a TIME alert once. A good TIMEINFO symbol gives the root's PPS phase and, where not 0, the TAI seconds. Another port's
symbols, once received, change no more than that port's own record. -/
def Obligations.TimeFollowsTheParent : Prop :=
  ∀ (t k sub : Nat) (u : List Byte) (s : State), 4 ≤ s.rd (LK_STAT_STATE k) →
    let b := symBody u
    let now := max s.now t
    let arr := 64 * now + sub % 64
    let o : Int := (b / 2 ^ 22 % 2 ^ 70 : Nat) + (s.rd (TG_LDLY_DELAY k) : Nat) - (arr : Nat)
    (symType u = some 1 → b / 2 ^ 21 % 2 = 0 → s.follows = true → s.timePort = some k → s.rd TG_STATUS_SYNC = syLocked →
      (s.nodeState = stUncast → o.natAbs ≤ 4096) →
      ∃ x, exec (.barrierRx t k u sub) s = .next x ∧ x.now = now ∧ x.rd TG_STATUS_SYNC = syLocked ∧
        x.rd TG_STATUS_HOPS = min 31 (b / 2 ^ 10 % 32 + 1) ∧ x.rd TG_STATUS_PARENT_PORT = k % 16 ∧ x.rd TG_STATUS_PARENT_DIR = dirOf k % 8 ∧
        x.rd TG_OFFSET = toWord32 o ∧
        (s.inForce = true → 1024 < o.natAbs → s.tg.offLost = false →
          x.bit TG_STATUS_TIMING_LOST = true ∧ x.flt.reports = s.flt.reports ++ [⟨.time, 1, 0, mTime, 7, 0, now, false, false⟩]) ∧
        (o.natAbs ≤ 1024 → x.rd TG_STATUS_TIMING_LOST = s.rd TG_STATUS_TIMING_LOST ∧ x.flt = s.flt) ∧
        WordsOnly [TG_STATUS_SYNC.addr, TG_OFFSET.addr, TG_SLEW.addr] s x ∧ Only [.clock, .regs, .tg, .fab, .flt] s x) ∧
    (symType u = some 1 → b / 2 ^ 21 % 2 = 0 → s.follows = false ∨ s.timePort ≠ some k →
      ∃ x, exec (.barrierRx t k u sub) s = .next x ∧ x.now = now ∧ Only [.clock, .fab] s x ∧
        ∀ j, j ≠ k → x.port j = s.port j) ∧
    (symType u = some 2 →
      (s.follows = true → s.timePort = some k →
        ∃ x, exec (.timeinfoRx t k u) s = .next x ∧ x.tg = { s.tg with
            phase := some (b / 2 ^ 8 % 2 ^ 64), tai := if b / 2 ^ 72 % 2 ^ 48 = 0 then none else some (b / 2 ^ 72 % 2 ^ 48) } ∧
          Only [.clock, .tg] s x) ∧
      (s.follows = false ∨ s.timePort ≠ some k → ∃ x, exec (.timeinfoRx t k u) s = .next x ∧ Only [.clock] s x))

/-- LDLY_MEASURE on a link that carries symbols records half of (t4 - t1) - (t3 - t2), in 1/64 tick and never below 0, in TG_LDLY of the port
and marks it valid; TECHO_RX on an endpoint port does so with the time from the symbol it echoes, less the partner's turnaround. A delay within
the configured reach changes no other register; one above it takes the port down with cause REACH. On a port that is down, neither records
anything. -/
def Obligations.LinkDelayIsHalfTheRoundTrip : Prop :=
  ∀ (t k t1 t2 t3 t4 sub : Nat) (u : List Byte) (s : State), k < 256 →
    let records (c : Instr) (d : Int) : Prop :=
      let v := (d / 2).toNat
      (v < 2 ^ 30 → v ≤ 64 * (8 * s.rd (LK_CFG_REACH k) + 64) →
        ∃ x, exec c s = .next x ∧ x.rd (TG_LDLY_DELAY k) = v ∧ x.bit (TG_LDLY_VALID k) = true ∧
          WordsOnly [(TG_LDLY_VALID k).addr] s x ∧ Only [.clock, .regs, .fab] s x) ∧
      (64 * (8 * s.rd (LK_CFG_REACH k) + 64) < v →
        ∃ x, exec c s = .next x ∧ PortDown k 11 s x)
    (4 ≤ s.rd (LK_STAT_STATE k) → records (.ldlyMeasure t k t1 t2 t3 t4) ((t4 : Int) - t1 - ((t3 : Int) - t2))) ∧
    (4 ≤ s.rd (LK_STAT_STATE k) → isEndpoint k = true → symType u = some 5 →
      ∀ at1, (s.port k).sentAt.find? (fun e => e.1 == symBody u / 2 ^ 8 % 8) = some (symBody u / 2 ^ 8 % 8, at1) →
        records (.techoRx t k u sub) ((64 * max s.now t + sub % 64 : Nat) - (at1 : Int) - (symBody u / 2 ^ 11 % 2 ^ 26 : Nat))) ∧
    (s.rd (LK_STAT_STATE k) < 4 →
      (∃ x, exec (.ldlyMeasure t k t1 t2 t3 t4) s = .next x ∧ Only [.clock] s x) ∧
      (∃ x, exec (.techoRx t k u sub) s = .next x ∧ Only [.clock] s x))

/-- NODE_READY: a ready root that has not started chooses the start tick, its own plus TG_BAR_LEAD (4,096 where that is 0), and forgets the READY
events it kept; a ready node with a parent marks READY as sent and queues it toward the parent with its SEAM digest; a node that is not ready, or
has sent READY, changes nothing. READY_RX of a cast node keeps a child's READY in place of the child's earlier one, with a CAST alert where the
digest differs from the node's own, and drops one from a node that is no child. START_RX takes the start tick from the parent once READY was
sent; any other START is ignored, the first since the apply with a TIME note. A start tick schedules the seam that ends the first epoch in
TG_NEXT; no other register changes. -/
def Obligations.BarrierStart : Prop :=
  ∀ (t k : Nat) (u : List Byte) (s : State),
    let b := symBody u
    let now := max s.now t
    -- the seam that ends the epoch which begins at a tick is scheduled, and nothing else of a register changes
    let nextIs (x : State) (start : Nat) : Prop :=
      x.rd64 TG_NEXT_LO = (match epochOf s.seamSect (s.rd64 TG_SEAM_LO) with | some e => (start + e.1) % 2 ^ 64 | none => noSeam) ∧
        WordsOnly [TG_NEXT_LO.addr, TG_NEXT_HI.addr] s x ∧ Only [.clock, .regs, .tg, .fab] s x
    (s.isReady = true → s.tg.sentReady = false → s.isRoot = true →
      ∃ x, exec (.nodeReady t) s = .next x ∧
        x.tg = { s.tg with readies := [], sentReady := false, start := some (now + (if s.rd TG_BAR_LEAD = 0 then 4096 else s.rd TG_BAR_LEAD)) } ∧
        nextIs x (now + (if s.rd TG_BAR_LEAD = 0 then 4096 else s.rd TG_BAR_LEAD))) ∧
    (s.isReady = true → s.tg.sentReady = false → s.isRoot = false → ∀ c, s.parent = some c →
      ∃ x, exec (.nodeReady t) s = .next x ∧ x.tg = { s.tg with sentReady := true } ∧ Only [.clock, .tg, .fab] s x ∧
        (∀ j, fabricPorts.find? (fun k => decide (4 ≤ s.rd (LK_STAT_STATE k)) && s.portReach k == c) = some j →
          (x.port j).ctrl = (s.port j).ctrl ++ [⟨2, 3, 2 ^ 8 + s.seamDigest % 2 ^ 64 * 2 ^ 16, now⟩])) ∧
    (s.isReady = false ∨ s.tg.sentReady = true → ∃ x, exec (.nodeReady t) s = .next x ∧ Only [.clock] s x) ∧
    (4 ≤ s.rd (LK_STAT_STATE k) → symType u = some 3 → isEndpoint k = false → s.inForce = true →
      let c := s.portReach k
      let dig := b / 2 ^ 16 % 2 ^ 32
      (b / 2 ^ 8 % 4 = 1 → s.children.contains c = true →
        ∃ x, exec (.readyRx t k u) s = .next x ∧
          x.tg = { s.tg with readies := s.tg.readies.filter (fun r => decide (r.node ≠ c)) ++ [⟨c, k, dig⟩] } ∧
          x.flt.reports = s.flt.reports ++
            (if dig = s.seamDigest then [] else [⟨.cast, 1, 0, mCast, 7, 0, now, false, false⟩]) ∧ Only [.clock, .tg, .flt] s x) ∧
      (b / 2 ^ 8 % 4 = 1 → s.children.contains c = false → ∃ x, exec (.readyRx t k u) s = .next x ∧ Only [.clock] s x) ∧
      (b / 2 ^ 8 % 4 = 2 → s.parent = some c → s.tg.sentReady = true →
        ∃ x, exec (.startRx t k u) s = .next x ∧
          x.tg = { s.tg with readies := [], sentReady := false, start := some (b / 2 ^ 16 % 2 ^ 64) } ∧
          nextIs x (b / 2 ^ 16 % 2 ^ 64)) ∧
      (b / 2 ^ 8 % 4 = 2 → s.parent ≠ some c ∨ s.tg.sentReady = false →
        (s.tg.ignoredNoted = true → ∃ x, exec (.startRx t k u) s = .next x ∧ Only [.clock] s x) ∧
        (s.tg.ignoredNoted = false → ∃ x, exec (.startRx t k u) s = .next x ∧ x.tg = { s.tg with ignoredNoted := true } ∧
          x.flt.reports = s.flt.reports ++ [⟨.time, 0, 0, mTime, 7, 0, now, false, false⟩] ∧ Only [.clock, .tg, .flt] s x)))

/-- Of a root whose Casting says to follow PPS_IN: an edge sets the PPS phase and the sync state LOCKED with PPS_OK; no edge for 2 s leaves
HOLDOVER without PPS_OK and a TIME alert. At a tick that lies a multiple of 1,600,000,000 from the phase, PPS_OUT goes high where it is
enabled and the node is not FREE or is the root, TG_PPS_TICK shows the tick and TG_PPS_TAI the TAI seconds of the phase plus the whole
seconds since it; it goes low 1,600,000 ticks later, not before. Between 10 ms
and 500 ms after the pulse began, one TOD frame of it leaves where TOD_OUT is enabled. A TOD_IN frame with a wrong TMAGIC or CRC is counted and
is no fault; a good and valid one gives such a root its TAI seconds. The loss of REF_IN is a TIME fault at level 3. -/
def Obligations.PulsesAndTimeOfDay : Prop :=
  ∀ (t : Nat) (fr : List Byte) (s : State),
    let now := max s.now t
    (s.ppsRoot = true →
      ∃ x, exec (.ppsInEdge t) s = .next x ∧ x.tg.phase = some now ∧ x.tg.ppsEdge = some now ∧ x.bit TG_STATUS_PPS_OK = true ∧
        x.rd TG_STATUS_SYNC = syLocked ∧ WordsOnly [TG_STATUS_SYNC.addr, TG_SLEW.addr] s x ∧ Only [.clock, .regs, .tg] s x) ∧
    (s.ppsRoot = false → ∃ x, exec (.ppsInEdge t) s = .next x ∧ Only [.clock] s x) ∧
    (s.ppsRoot = true → s.tg.ppsEdge.getD (s.rd64 CST_SINCE_LO) + 3200000000 ≤ now → s.rd TG_STATUS_SYNC ≠ syHoldover →
      ∃ x, exec (.ppsInLoss t) s = .next x ∧ x.rd TG_STATUS_SYNC = syHoldover ∧ x.bit TG_STATUS_PPS_OK = false ∧
        x.flt.reports = s.flt.reports ++ [⟨.time, 1, 0, mTime, 7, 0, now, false, false⟩] ∧
        WordsOnly [TG_STATUS_SYNC.addr] s x ∧ Only [.clock, .regs, .flt] s x) ∧
    (now < s.tg.ppsEdge.getD (s.rd64 CST_SINCE_LO) + 3200000000 → ∃ x, exec (.ppsInLoss t) s = .next x ∧ Only [.clock] s x) ∧
    (((now : Int) - (s.tg.phase.getD 0 : Nat)) % 1600000000 = 0 → s.tg.ppsHigh = none → s.bit TG_CTRL_PPS_OUT_EN = true →
      s.rd TG_STATUS_SYNC ≠ syFree ∨ s.isRoot = true →
      ∃ x, exec (.ppsOutStart t) s = .next x ∧ x.tg.ppsHigh = some now ∧ x.tg.todDue = some now ∧ x.rd64 TG_PPS_TICK_LO = now % 2 ^ 64 ∧
        x.rd64 TG_PPS_TAI_LO = (s.tg.tai.map (· + (now - s.tg.phase.getD 0) / 1600000000)).getD 0 % 2 ^ 64 ∧
        WordsOnly [TG_PPS_TICK_LO.addr, TG_PPS_TICK_HI.addr, TG_PPS_TAI_LO.addr, TG_PPS_TAI_HI.addr] s x ∧ Only [.clock, .regs, .tg] s x) ∧
    (s.bit TG_CTRL_PPS_OUT_EN = false ∨ ((now : Int) - (s.tg.phase.getD 0 : Nat)) % 1600000000 ≠ 0 ∨
        (s.rd TG_STATUS_SYNC = syFree ∧ s.isRoot = false) →
      ∃ x, exec (.ppsOutStart t) s = .next x ∧ Only [.clock] s x) ∧
    (∀ p, s.tg.ppsHigh = some p →
      (p + 1600000 ≤ now → ∃ x, exec (.ppsOutEnd t) s = .next x ∧ x.tg = { s.tg with ppsHigh := none } ∧ Only [.clock, .tg] s x) ∧
      (now < p + 1600000 → ∃ x, exec (.ppsOutEnd t) s = .next x ∧ Only [.clock] s x)) ∧
    (∀ p, s.tg.todDue = some p →
      (s.bit TG_CTRL_TOD_OUT_EN = true → p + 16000000 ≤ now → now ≤ p + 800000000 →
        ∃ x fl, exec (.todOutFrame t) s = .next x ∧ x.tg = { s.tg with todDue := none } ∧
          x.outs = s.outs ++ [.tod (todFrame fl (s.rd64 TG_PPS_TAI_LO) p)] ∧
          (fl % 2 = 1 ↔ s.rd64 TG_PPS_TAI_LO ≠ 0) ∧ (fl / 2 % 2 = 1 ↔ s.rd TG_STATUS_SYNC = syLocked ∨ s.isRoot = true) ∧
          Only [.clock, .tg, .outs] s x) ∧
      (s.bit TG_CTRL_TOD_OUT_EN = false ∨ now < p + 16000000 → ∃ x, exec (.todOutFrame t) s = .next x ∧ Only [.clock] s x)) ∧
    (let bad := leAt fr 0 2 ≠ 0x4454 ∨ leAt fr 22 2 ≠ touchCrc 3 (slice fr 0 22);
      (bad → ∃ x, exec (.todInFrame t fr) s = .next x ∧ x.rd TG_TOD_BAD = min (s.rd TG_TOD_BAD + 1) (2 ^ 32 - 1) ∧
        WordsOnly [TG_TOD_BAD.addr] s x ∧ Only [.clock, .regs] s x) ∧
      (¬bad → s.ppsRoot = true → leAt fr 3 1 % 2 = 1 →
        ∃ x, exec (.todInFrame t fr) s = .next x ∧ x.tg = { s.tg with tai := some (leAt fr 4 8) } ∧ Only [.clock, .tg] s x) ∧
      (¬bad → s.ppsRoot = false ∨ leAt fr 3 1 % 2 = 0 → ∃ x, exec (.todInFrame t fr) s = .next x ∧ Only [.clock] s x)) ∧
    (∃ x, exec (.refInLoss t) s = .next x ∧
      x.flt.reports = s.flt.reports ++ [⟨.time, 3, 0, mTime, 7, 0, now, false, false⟩] ∧ Only [.clock, .flt] s x)

/-- RESULT_RELEASE of a unit: of its held results that may leave now (the release tick has come, and the result was ready by then or became
ready before this tick), the one with the earliest release tick leaves its gate and its act (a Bench's held store or POST) is done, unless an
earlier ST of the Bench to the same target is still held: for a POST, one is added to its counter (here with no
folded-out Bench waiting on it). Where none may leave, nothing changes. At
its tick, TG_SLACK_MIN takes the least slack; after it, it is 0 and TG_LATE_COUNT goes up by one, and the first late step since the apply is
captured with TIMING_LOST and a SCHED note. OVERDUE_STEP reports a result that is still owed TG_LATE_LIMIT ticks after its release tick,
once. -/
def Obligations.ResultsLeaveAtTheirTick : Prop :=
  ∀ (t kind unit rel : Nat) (s : State),
    let now := max s.now t
    let may := s.tg.gates.filter (fun g => g.kind == kind && g.unit == unit &&
      decide (g.rel ≤ now ∧ (g.ready ≤ g.rel ∨ g.ready < now)) && !s.behindStore g)
    (∀ g, leastBy (·.rel) may = some g →
      g ∈ may ∧ (∀ e ∈ may, g.rel ≤ e.rel) ∧
      ∃ x y, exec (.resultRelease t kind unit) s = .next (x.gateAct g.unit g.act) ∧ x = y.release g.kind g.unit g.rel g.ready ∧
        y.tg = { s.tg with gates := s.tg.gates.erase g } ∧ Only [.clock, .tg] s y ∧ x.tg = { y.tg with lastRelease := max s.tg.lastRelease now } ∧
        (g.rel = now → x.rd TG_SLACK_MIN = min (s.rd TG_SLACK_MIN) (g.rel - g.ready) % 2 ^ 32 ∧
          WordsOnly [TG_SLACK_MIN.addr] s x ∧ Only [.clock, .tg, .regs] s x) ∧
        (g.rel < now → x.rd TG_SLACK_MIN = 0 ∧ x.rd TG_LATE_COUNT = min (s.rd TG_LATE_COUNT + 1) (2 ^ 32 - 1) ∧
          (s.rd TG_LATE_COUNT = 0 → x.bit TG_STATUS_TIMING_LOST = true ∧ x.rd64 TG_LATE_REL_LO = g.rel % 2 ^ 64 ∧
            x.rd64 TG_LATE_ACT_LO = now % 2 ^ 64 ∧ x.flt.reports = s.flt.reports ++ [⟨.sched, 0, 0, gateMaster g.kind g.unit, 7, 0, now, false, false⟩]) ∧
          (s.rd TG_LATE_COUNT ≠ 0 → x.flt = s.flt ∧ WordsOnly [TG_SLACK_MIN.addr, TG_LATE_COUNT.addr] s x)) ∧
        (∀ c b p, g.act = .post c b p → (∀ j, j < s.benchN → (s.bench j).st = .foldedOut → ∀ v, (s.bench j).waitc ≠ some (c, v)) →
          (x.gateAct g.unit g.act).rd (MIL_SYNC c) = min (x.rd (MIL_SYNC c) + 1) (2 ^ 32 - 1) ∧
            WordsOnly [(MIL_SYNC c).addr] x (x.gateAct g.unit g.act) ∧ Only [.regs, .benches] x (x.gateAct g.unit g.act))) ∧
    (may = [] → ∃ x, exec (.resultRelease t kind unit) s = .next x ∧ Only [.clock] s x) ∧
    (let due := s.jobRuns = true ∧ s.owes kind unit rel = true ∧ rel + s.rd TG_LATE_LIMIT ≤ now ∧ s.tg.overdue.contains (kind, unit, rel) = false;
      (due → ∃ x, exec (.overdueStep t kind unit rel) s = .next x ∧ x.tg = { s.tg with overdue := (kind, unit, rel) :: s.tg.overdue } ∧
        x.flt.reports = s.flt.reports ++ [⟨.sched, 1, 0, gateMaster kind unit, 7, 0, now, false, false⟩] ∧ Only [.clock, .tg, .flt] s x) ∧
      (¬due → ∃ x, exec (.overdueStep t kind unit rel) s = .next x ∧ Only [.clock] s x))

/-- FIRST_EPOCH_START at or after the start tick of a node that is CAST, not quenched and not started, with no record or replay asked for:
STARTED is set, the run key is valid, the epoch begins at the start tick, TG_NEXT is the start tick plus the first epoch's length, and a late
one sets TIMING_LOST with a TIME alert. SEAM, where the seam may occur, of a cast node without FLDS changes, hold or recording: the seam count
goes up by one, the next epoch begins at the scheduled tick, TG_NEXT moves on by its length (all ones where none is scheduled), and a pending
write of TG_LATE_LIMIT that came at least 64 ticks before the scheduled tick takes effect while one that came later still pends. Where the
seam may not occur, SEAM changes nothing. -/
def Obligations.SeamsEndAndBeginEpochs : Prop :=
  ∀ (t : Nat) (s : State),
    let now := max s.now t
    (∀ start, s.tg.start = some start → s.nodeState = stCast → s.quenched = false → s.bit TG_STATUS_STARTED = false →
      s.rd DET_RCTL_MODE = 0 → s.rd DET_STAT_MODE = 0 →
      (now < start → ∃ x, exec (.firstEpochStart t) s = .next x ∧ Only [.clock] s x) ∧
      (start ≤ now →
        ∃ x, exec (.firstEpochStart t) s = .next x ∧ x.bit TG_STATUS_STARTED = true ∧ x.bit DET_STAT_RKVALID = true ∧
          x.tg.start = none ∧ x.tg.epochStart = start ∧ x.nodeState = stCast ∧
          (∀ len fl, epochOf s.seamSect (s.rd64 TG_SEAM_LO) = some (len, fl) → x.rd64 TG_NEXT_LO = (start + len) % 2 ^ 64) ∧
          (start < now → x.bit TG_STATUS_TIMING_LOST = true ∧
            ⟨.time, 1, 0, mTime, 7, 0, now, false, false⟩ ∈ x.flt.reports))) ∧
    ((s.at t).seamMay = false → ∃ x, exec (.seam t) s = .next x ∧ Only [.clock] s x) ∧
    ((s.at t).seamMay = true → s.nodeState = stCast → sect s.cst.img tyFLDS = [] → s.bit DET_STAT_HELD = false →
      s.rd DET_STAT_MODE = 0 → s.rd64 DET_PAUSE_LO = 0 →
      let sched := s.rd64 TG_NEXT_LO
      let n := s.rd64 TG_SEAM_LO + 1
      let next (x : State) : Prop := x.rd64 TG_SEAM_LO = n % 2 ^ 64 ∧ x.tg.epochStart = sched ∧ x.nodeState = stCast ∧
        (∀ len fl, epochOf s.seamSect n = some (len, fl) → x.rd64 TG_NEXT_LO = (sched + len) % 2 ^ 64) ∧
        (epochOf s.seamSect n = none → x.rd64 TG_NEXT_LO = noSeam)
      (s.cst.spend = [] → ∃ x, exec (.seam t) s = .next x ∧ next x ∧ x.rd TG_LATE_LIMIT = s.rd TG_LATE_LIMIT) ∧
      (∀ v tick, v < 2 ^ 32 → s.cst.spend = [⟨TG_LATE_LIMIT.addr, 0xFFFFFFFF, v, tick⟩] →
        ∃ x, exec (.seam t) s = .next x ∧ next x ∧
          (tick + 64 ≤ sched → x.rd TG_LATE_LIMIT = v ∧ x.cst.spend = []) ∧
          (sched < tick + 64 → x.rd TG_LATE_LIMIT = s.rd TG_LATE_LIMIT ∧ x.cst.spend = s.cst.spend)))

/-- For each row that performs a slot, on a logical Bench with no slot of that row's place and operation that may start now: the row answers
the same state. -/
def Obligations.SlotRowsWaitForTheirTurn : Prop :=
  ∀ (l : Nat) (s : State),
    ∀ c ∈ ([(.ld l, 0, 0), (.ldb l, 0, 1), (.kld l, 0, 2), (.st l, 1, 0), (.mac l, 2, 0), (.macz l, 2, 1), (.drain l, 3, 0), (.clear l, 3, 1),
        (.draink l, 3, 2), (.merge l, 3, 3), (.add l, 4, 0), (.sub l, 4, 1), (.mul l, 4, 2), (.fma l, 4, 3), (.min l, 4, 4), (.max l, 4, 5),
        (.div l, 4, 6), (.sqrt l, 4, 7), (.cmplt l, 4, 8), (.cmpeq l, 4, 9), (.cmple l, 4, 10), (.any l, 4, 11), (.cvtf l, 4, 12),
        (.cvtt l, 4, 13), (.seti l, 5, 0), (.addi l, 5, 1), (.muli l, 5, 2), (.cmpi l, 5, 3), (.plog l, 5, 4), (.pset l, 5, 5),
        (.setvl l, 5, 6), (.orset l, 5, 7), (.orcpy l, 5, 8), (.feat l, 5, 9), (.waitc l, 6, 0), (.post l, 6, 1), (.drainw l, 6, 2),
        (.testc l, 6, 3), (.nop l, 7, 0), (.loop l, 7, 1), (.seamCmd l, 7, 2), (.halt l, 7, 3), (.release l, 7, 4), (.brk l, 7, 5)] :
        List (Instr × Nat × Nat)),
      s.ready? l c.2.1 c.2.2 = none → exec c.1 s = .next s

/-- BUNDLE_ISSUE on a Bench whose stream acts and runs, with nothing that holds issue. A PC outside the code stops the stream with code 7. For a
bundle inside the code whose header uses no reserved bit, at no enabled tag break and in no loop: with a predicate that is not pending and
fails, it is skipped (with nothing in flight it retires at once: the retire count goes up by one); with legal slots, no MAC and ACC of one
set, no SEAM or HALT and no LOOP, it issues whole, its slots waiting with the registers as they stand before it, and PC moves past it, unless one of
its slots must wait for one in flight (R181, R182): then nothing changes. A
header with a reserved bit, or a slot with one, stops the stream with code 1; a MAC and an ACC that name one set stop it with code 4. Where
issue is held, nothing changes. -/
def Obligations.BundlesIssueInOrder : Prop :=
  ∀ (t l : Nat) (s : State), l < 1024 →
    let b := s.bench l
    let k := s.kimg b
    let h := kWord k b.pc
    let xs := bundleSlots k b.pc (bitsOf h 0 8)
    let next := b.pc + 1 + xs.length
    let psense := bitsOf h 12 2
    let stops (slot code : Nat) : Prop := ∃ u : State, exec (.bundleIssue t l) s = .next u ∧ StreamStops l b.nextId b.pc slot code (s.at t) u
    (s.benchActs l = false ∨ b.st ≠ .running ∨ s.issueHeld l b = true ∨ s.bit DET_STAT_HELD = true →
      ∃ u : State, exec (.bundleIssue t l) s = .next u ∧ Only [.clock] s u) ∧
    (s.benchActs l = true → b.st = .running → s.issueHeld l b = false → s.bit DET_STAT_HELD = false →
      (b.pc < kCodeStart k ∨ kCodeEnd k ≤ b.pc → stops 8 7) ∧
      (kCodeStart k ≤ b.pc → next ≤ kCodeEnd k → b.loops = [] → s.bit (MIL_BCTL_TAG_EN l) = false →
        (psense = 3 ∨ bitsOf h 14 2 ≠ 0 ∨ bitsOf h 32 32 ≠ 0 → stops 8 1) ∧
        (psense < 3 → bitsOf h 14 2 = 0 → bitsOf h 32 32 = 0 →
          let fails := psense ≠ 0 ∧ b.regs.pf.getD (bitsOf h 8 4) false ≠ (psense == 1);
          (fails → bitsOf h 8 4 ∉ b.flagsPending → b.flight = [] → (∀ x ∈ xs, x.pos ≠ 7) → s.bit (MIL_BCTL_RET_EN l) = false →
            ∃ u : State, exec (.bundleIssue t l) s = .next u ∧
              BenchIs l { b with pc := next, nextId := b.nextId + 1, resumed := false, ret := (b.ret + 1) % 2 ^ 64 } s u ∧
              Only [.clock, .benches] s u) ∧
          (¬fails → (psense ≠ 0 → bitsOf h 8 4 ∉ b.flagsPending) →
            (xs.any (fun x => x.pos == 5 && bitsOf x.word 0 4 == 4) = true → b.flagsPending = []) →
            (∀ x, xs.find? (fun x => !slotLegal x.pos x.word) = some x → stops x.pos 1) ∧
            ((∀ x ∈ xs, slotLegal x.pos x.word = true) →
              (∀ m ∈ xs, ∀ a ∈ xs, m.pos = 2 → a.pos = 3 → bitsOf m.word 12 1 = bitsOf a.word 4 1 → stops 3 4) ∧
              ((∀ m ∈ xs, ∀ a ∈ xs, m.pos = 2 → a.pos = 3 → bitsOf m.word 12 1 ≠ bitsOf a.word 4 1) →
                (∀ x ∈ xs, x.pos = 7 → 4 ≤ bitsOf x.word 0 4 ∨ bitsOf x.word 0 4 = 0) →
                ((∃ x ∈ xs, ∃ e ∈ b.slots, slotBehind k b.snapshot x e = true) →
                  ∃ u : State, exec (.bundleIssue t l) s = .next u ∧ Only [.clock] s u) ∧
                ((∀ x ∈ xs, ∀ e ∈ b.slots, slotBehind k b.snapshot x e = false) →
                ∃ u : State, exec (.bundleIssue t l) s = .next u ∧
                  BenchIs l { b with
                    flight := b.flight ++ [⟨b.nextId, b.pc, next, b.snapshot, xs⟩], nextId := b.nextId + 1, pc := next, resumed := false
                    regs := { b.regs with or := xs.foldl (setOr k) b.regs.or } } s u ∧
                  Only [.clock, .benches] s u)))))))

/-- On a Bench whose stream acts: SLOT_COMPLETE completes the oldest performed slot of its place that ends on its own and waits at no release
gate, whose mover cells are released; BUNDLE_RETIRE removes the oldest bundle in flight once all its slots have completed and adds one to the
retire count, and where that reaches an enabled retire-count break of a Bench whose physical Bench has no other to run, the Bench stops at the
break with HIT_RET set. BREAK_RESUME on a ready node sets a Bench at a break, its Hall On, that its physical Bench runs and shares with none, to
what it was (drained, waiting at its SEAM bundle or on a counter, else running), one whose physical Bench runs another folded out, and leaves
a Bench at no break; its broadcast form does so for every Bench of the Casting. With nothing to complete, retire or resume nothing changes. -/
def Obligations.SlotsCompleteAndBundlesRetire : Prop :=
  ∀ (t l pos : Nat) (s : State), l < 1024 →
    let b := s.bench l
    let done := b.slots.find? (fun e => e.2.pos == pos && e.2.phase == .performed && completesAlone pos e.2.word && !s.gated l e.1.id pos)
    (s.benchActs l = true →
      (∀ u x, done = some (u, x) →
        let held := s.mill.transit.filter (fun e => e.1 == l && (e.2.1 == u.id && e.2.2.1 == pos));
        ∃ y, exec (.slotComplete t l pos) s = .next y ∧ BenchIs l (b.mark u.id pos .complete) s y ∧
          y.mill.transit = s.mill.transit.filter (fun e => !(e.1 == l && (e.2.1 == u.id && e.2.2.1 == pos))) ∧
          (held = [] → Only [.clock, .benches] s y)) ∧
      (done = none → ∃ y, exec (.slotComplete t l pos) s = .next y ∧ Only [.clock] s y) ∧
      (∀ u us, b.flight = u :: us →
        ((∀ x ∈ u.slots, x.phase = .complete) →
          let ret := (b.ret + 1) % 2 ^ 64;
          (s.bit (MIL_BCTL_RET_EN l) = false ∨ ret ≠ s.rd64 (MIL_BRK_RET_LO l) →
            ∃ y, exec (.bundleRetire t l) s = .next y ∧ BenchIs l { b with flight := us, ret := ret } s y ∧ Only [.clock, .benches] s y) ∧
          (s.bit (MIL_BCTL_RET_EN l) = true → ret = s.rd64 (MIL_BRK_RET_LO l) → b.st ∈ [.running, .waiting, .foldedOut, .drained] →
            (∀ r, s.resident l = some r → s.foldNext r = none) →
            ∃ y, exec (.bundleRetire t l) s = .next y ∧ BenchIs l { b with flight := us, ret := ret, st := .brk } s y ∧
              y.bit (MIL_BCTL_HIT_RET l) = true ∧ WordsOnly [(MIL_BCTL_HIT_RET l).addr] s y ∧ Only [.clock, .benches, .regs] s y)) ∧
        ((∃ x ∈ u.slots, x.phase ≠ .complete) → ∃ y, exec (.bundleRetire t l) s = .next y ∧ Only [.clock] s y)) ∧
      (b.flight = [] → ∃ y, exec (.bundleRetire t l) s = .next y ∧ Only [.clock] s y)) ∧
    (s.ready = true →
      let back (c : Bench) : BState := if c.halted then .drained else if c.atSeam = true ∨ c.waitc.isSome = true then .waiting else .running;
      (b.st = .brk → s.domOn (s.physOf l / 32) = true →
        (s.resident l = some l → s.foldNext l = none →
          ∃ y, exec (.breakResume t (some l)) s = .next y ∧ Only [.clock, .benches] s y ∧ BenchIs l { b with st := back b } s y) ∧
        (∀ r, s.resident l = some r → r ≠ l → s.yields r = false →
          ∃ y, exec (.breakResume t (some l)) s = .next y ∧ Only [.clock, .benches] s y ∧
            BenchIs l { b with st := if b.halted then .drained else .foldedOut } s y)) ∧
      (b.st ≠ .brk → ∃ y, exec (.breakResume t (some l)) s = .next y ∧ Only [.clock] s y) ∧
      ((∀ e ∈ s.mill.ran, s.physOf e.2 = e.1) →
        ∃ y, exec (.breakResume t none) s = .next y ∧ WordsOnly [MIL_FOLDS.addr] s y ∧ Only [.clock, .regs, .benches, .mill] s y ∧
          ∀ j, j < s.benchN → (∀ i ∈ s.coHosted j, i = j) →
            let c := s.bench j;
            (c.st = .brk → s.domOn (s.physOf j / 32) = true → s.resident j = some j → y.bench j = { c with st := back c }) ∧
            (c.st ≠ .brk → y.bench j = c)))

/-- A ready MOVE slot with fields D, S, X and IMM, its sources read as they stand before its bundle: SETI, ADDI and MULI give IX[D] the 32-bit
values IMM, S + IMM and S * IMM and FEAT the feature value that IMM names (a D above 7, or for FEAT an IMM above 15, is a FORMAT error);
CMPI gives PF[D] the unsigned comparison X of S with IMM (X above 3 is a FORMAT error); PLOG the and, or, exclusive or or negation that
IMM[1:0] names; PSET IMM[0]; SETVL sets VL to IMM in 1 to 65,536, else a FORMAT error; ORSET writes the field that X names of OR[D] where IMM
fits it (its other bits stay), else a FORMAT error; ORCPY copies OR[S]. The slot is complete; no other register of the Bench, no other
Bench and nothing else changes. -/
def Obligations.MoveSlotsWriteRegisters : Prop :=
  ∀ (l op : Nat) (u : Bundle) (x : Slot) (s : State), l < 1024 → s.ready? l 5 op = some (u, x) →
    let b := s.bench l
    let r := b.regs
    let w := x.word
    let d := bitsOf w 4 4
    let src := ((u.regs.src (bitsOf w 8 4)).getD 0)
    let X := bitsOf w 12 4
    let imm := bitsOf w 32 32
    let sets (c : Instr) (r : BRegs) : Prop := ∃ y, exec c s = .next y ∧ BenchIs l (({ b with regs := r }).mark u.id x.pos .complete) s y ∧
      Only [.benches] s y
    let bad (c : Instr) : Prop := ∃ y, exec c s = .next y ∧ StreamStops l u.id u.pc x.pos 2 s y
    (op = 0 → if d < 8 then sets (.seti l) { r with ix := r.ix.set d (BitVec.ofNat 32 imm) } else bad (.seti l)) ∧
    (op = 1 → if d < 8 then sets (.addi l) { r with ix := r.ix.set d (src + BitVec.ofNat 32 imm) } else bad (.addi l)) ∧
    (op = 2 → if d < 8 then sets (.muli l) { r with ix := r.ix.set d (src * BitVec.ofNat 32 imm) } else bad (.muli l)) ∧
    (op = 3 →
      (X = 0 → sets (.cmpi l) { r with pf := r.pf.set d (decide (src.toNat = imm)) }) ∧
      (X = 1 → sets (.cmpi l) { r with pf := r.pf.set d (decide (src.toNat ≠ imm)) }) ∧
      (X = 2 → sets (.cmpi l) { r with pf := r.pf.set d (decide (src.toNat < imm)) }) ∧
      (X = 3 → sets (.cmpi l) { r with pf := r.pf.set d (decide (imm ≤ src.toNat)) }) ∧ (3 < X → bad (.cmpi l))) ∧
    (op = 4 →
      let p := u.regs.pf.getD (bitsOf w 8 4) false
      let q := u.regs.pf.getD X false;
      (imm % 4 = 0 → sets (.plog l) { r with pf := r.pf.set d (p && q) }) ∧ (imm % 4 = 1 → sets (.plog l) { r with pf := r.pf.set d (p || q) }) ∧
      (imm % 4 = 2 → sets (.plog l) { r with pf := r.pf.set d (p != q) }) ∧ (imm % 4 = 3 → sets (.plog l) { r with pf := r.pf.set d (!p) })) ∧
    (op = 5 → sets (.pset l) { r with pf := r.pf.set d (decide (imm % 2 = 1)) }) ∧
    (op = 6 → if 1 ≤ imm ∧ imm ≤ 65536 then sets (.setvl l) { r with vl := imm } else bad (.setvl l)) ∧
    (op = 7 →
      (∀ f ∈ [(0, 0, 10), (1, 10, 16), (2, 26, 7), (3, 33, 4), (4, 37, 8), (5, 45, 13)], X = f.1 →
        if imm < 2 ^ f.2.2 then
          ∃ o, sets (.orset l) { r with or := r.or.set d o } ∧ bitsOf o f.2.1 f.2.2 = imm ∧
            ∀ i, (i < f.2.1 ∨ f.2.1 + f.2.2 ≤ i) → o.getLsbD i = (r.or.getD d 0).getLsbD i
        else bad (.orset l)) ∧
      (5 < X → bad (.orset l))) ∧
    (op = 8 → sets (.orcpy l) { r with or := r.or.set d (u.regs.or.getD (bitsOf w 8 4) 0) }) ∧
    (op = 9 → if imm ≤ 15 ∧ d < 8 then
        sets (.feat l) { r with ix := r.ix.set d (BitVec.ofNat 32 (([1, 1024, 1024, 768, 256, 4096, l, s.benchN, 65536, 4, 16, 16, 8, 256, 4096,
          64] : List Nat).getD imm 0)) }
      else bad (.feat l))

/-- A ready SYNC slot with counter CTR and VALUE. WAITC completes when the counter is at least VALUE, and a Bench that waited runs again;
until then a running Bench whose physical Bench has no other to run waits on that counter. POST, once every earlier ST has completed, adds
one to the counter (saturating) and completes, here with no folded-out Bench waiting on that counter; with a release tick in force it is held at its gate instead and the counter stays; before
that it changes nothing. DRAINW completes, and a waiting Bench runs, once every earlier slot has completed; until then a running Bench
waits. TESTC gives the flag P whether the counter is at least VALUE, without a wait. -/
def Obligations.SyncSlotsWaitAndCount : Prop :=
  ∀ (l op : Nat) (u : Bundle) (x : Slot) (s : State), s.ready? l 6 op = some (u, x) →
    let b := s.bench l
    let ctr := bitsOf x.word 4 12
    let value := bitsOf x.word 32 32
    let becomes (c : Instr) (b : Bench) : Prop := ∃ y, exec c s = .next y ∧ BenchIs l b s y ∧ Only [.benches] s y
    let woken := { b.mark u.id x.pos .complete with st := if b.st = .waiting then .running else b.st, waitc := none }
    (op = 0 →
      (value ≤ s.rd (MIL_SYNC ctr) → b.st ≠ .foldedOut → becomes (.waitc l) woken) ∧
      (s.rd (MIL_SYNC ctr) < value → b.st = .running ∨ b.st = .waiting → (∀ r, s.resident l = some r → s.foldNext r = none) →
        becomes (.waitc l) { b with st := .waiting, waitc := some (ctr, value) })) ∧
    (op = 1 →
      let stored := b.earlierDone u.id x.pos (fun y => y.pos == 1);
      (stored = true → u.regs.rel = none →
        (∀ j, j < s.benchN → (s.bench j).st = .foldedOut → ∀ v, (s.bench j).waitc ≠ some (ctr, v)) →
        ∃ y, exec (.post l) s = .next y ∧ BenchIs l (b.mark u.id x.pos .complete) s y ∧
          y.rd (MIL_SYNC ctr) = min (s.rd (MIL_SYNC ctr) + 1) (2 ^ 32 - 1) ∧ WordsOnly [(MIL_SYNC ctr).addr] s y ∧ Only [.benches, .regs] s y) ∧
      (∀ rel, stored = true → u.regs.rel = some rel →
        ∃ y, exec (.post l) s = .next y ∧ BenchIs l (b.mark u.id x.pos .performed) s y ∧
          y.tg = { s.tg with gates := s.tg.gates ++ [⟨0, l, rel, s.now, .post ctr u.id x.pos⟩] } ∧ Only [.benches, .tg] s y) ∧
      (stored = false → exec (.post l) s = .next s)) ∧
    (op = 2 →
      let before := ∀ e ∈ b.slots, e.1.id < u.id ∨ (e.1.id = u.id ∧ e.2.pos < x.pos) → e.2.phase = .complete;
      (before → b.st ≠ .foldedOut → becomes (.drainw l) woken) ∧
      (¬before → b.st = .running → becomes (.drainw l) { b with st := .waiting }) ∧
      (¬before → b.st ≠ .running → exec (.drainw l) s = .next s)) ∧
    (op = 3 → becomes (.testc l) ((b.setPf (bitsOf x.word 16 4) (decide (value ≤ s.rd (MIL_SYNC ctr)))).mark u.id x.pos .complete))

/-- A ready CTRL slot on a running Bench whose physical Bench has no other to run. NOP only completes. A LOOP with an END before the next
bundle, past the code or past the enclosing level's END is stream error 5; a fifth level is error 6; otherwise with a count and a body the
level begins at the next bundle with the count as it stands before the bundle, and with neither and no enclosing level PC goes to END. SEAM,
once every earlier slot has completed, marks the SEAM bundle reached and the Bench waits; HALT drains the stream; before that neither
changes anything. RELEASE sets the release tick to the epoch's scheduled start plus OFFSET. BRK stops the Bench with HIT_SW set. -/
def Obligations.ControlSlotsSteerTheStream : Prop :=
  ∀ (l op : Nat) (u : Bundle) (x : Slot) (s : State), l < 1024 → s.ready? l 7 op = some (u, x) →
    (s.bench l).st = .running → (∀ r, s.resident l = some r → s.foldNext r = none) →
    let b := s.bench l
    let w := x.word
    let m := b.mark u.id x.pos .complete
    let becomes (c : Instr) (b : Bench) : Prop := ∃ y, exec c s = .next y ∧ BenchIs l b s y ∧ Only [.benches] s y
    let before := ∀ e ∈ b.slots, e.1.id < u.id ∨ (e.1.id = u.id ∧ e.2.pos < x.pos) → e.2.phase = .complete
    (op = 0 → becomes (.nop l) m) ∧
    (op = 1 →
      let stop := bitsOf w 4 13
      let count := if bitsOf w 17 4 = 15 then bitsOf w 32 32 else ((u.regs.src (bitsOf w 17 4)).getD 0).toNat
      let crosses := ∃ v vs, b.loops = v :: vs ∧ v.stop < stop;
      (stop < u.next ∨ crosses ∨ kCodeEnd (s.kimg b) < stop →
        ∃ y, exec (.loop l) s = .next y ∧ StreamStops l u.id u.pc x.pos 5 s y) ∧
      (u.next ≤ stop → ¬crosses → stop ≤ kCodeEnd (s.kimg b) →
        (count = 0 ∨ stop = u.next → b.loops = [] → becomes (.loop l) { m with pc := stop }) ∧
        (0 < count → u.next < stop → b.loops.length < 4 →
          becomes (.loop l) { m with loops := ⟨u.next, stop, count, 0⟩ :: b.loops, pc := u.next }) ∧
        (0 < count → u.next < stop → 4 ≤ b.loops.length →
          ∃ y z, BenchIs l m s y ∧ Only [.benches] s y ∧ exec (.loop l) s = .next z ∧ StreamStops l u.id u.pc x.pos 6 y z))) ∧
    (op = 2 →
      (before → becomes (.seamCmd l) { b.mark u.id x.pos .performed with atSeam := true, st := .waiting }) ∧
      (¬before → exec (.seamCmd l) s = .next s)) ∧
    (op = 3 → (before → becomes (.halt l) { m with halted := true, st := .drained }) ∧ (¬before → exec (.halt l) s = .next s)) ∧
    (op = 4 → becomes (.release l)
      (({ b with regs := { b.regs with rel := some (s.tg.epochStart + bitsOf w 24 40) } }).mark u.id x.pos .complete)) ∧
    (op = 5 → ∃ y, exec (.brk l) s = .next y ∧ BenchIs l { m with st := .brk } s y ∧ y.bit (MIL_BCTL_HIT_SW l) = true ∧
      WordsOnly [(MIL_BCTL_HIT_SW l).addr] s y ∧ Only [.clock, .benches, .regs] s y ∧ y.now = s.now)

/-- A ready VEC slot whose ranges lie in the bench store, the destination meeting no source that begins elsewhere, and no source word
damaged. ADD, SUB, MUL, MIN, MAX, DIV, CMPLT, CMPEQ, CMPLE (of a and b), FMA (of a, b and c) and SQRT (of a): each of the VL destination
elements is the operation on the elements of the same index as they stood before, under the rounding mode in force. CVTF writes the elements
of a converted to FMT and CVTT those of FMT converted to binary32 (an AI or reserved format is a FORMAT error). ANY gives PF[C] whether
some element of a is no zero. Each leaves the slot performed, changes no byte outside the destination, and adds to the flags of its physical
Bench what its elements raised: with no invalid operation no report is made. A range outside the store or an overlap is a FORMAT error, and a
damaged source stops the stream with code 10. -/
def Obligations.VectorSlotsComputeElementwise : Prop :=
  ∀ (l op : Nat) (u : Bundle) (x : Slot) (s : State), l < 1024 → s.ready? l 4 op = some (u, x) →
    let b := s.bench l
    let w := x.word
    let vl := u.regs.vl
    let rm := s.policy.rm
    let el (lo i : Nat) : Nat := leAt (b.bytes (vecAt w lo + 4 * i) 4) 0 4
    let stops (c : Instr) (code : Nat) : Prop := ∃ y, exec c s = .next y ∧ StreamStops l u.id u.pc x.pos code s y
    let flagsAre (fs : List Flags) (y : State) : Prop :=
      let f := fs.foldl (fun a x => a ||| x) 0
      let a := (NUM_BFLAGS_T_INVALID (s.physOf l)).addr
      y.word a = s.word a ||| f.setWidth 32 ∧ WordsOnly [a, FLT_INJ_LEFT_LEFT.addr] s y ∧
        (s.bit FLT_INJ_LEFT_ARMED = false → WordsOnly [a] s y) ∧
        (f &&& (tInvalid ||| sInvalid) = 0 → y.flt = s.flt ∧ y.mill = s.mill) ∧ y.now = s.now ∧ Only [.clock, .benches, .regs, .mill, .flt] s y
    let writes (n : Nat) (y : State) : Prop :=
      (∀ a, (a < vecAt w 7 ∨ vecAt w 7 + n ≤ a) → (y.bench l).byte a = b.byte a) ∧ (∀ j, j ≠ l → y.bench j = s.bench j) ∧
        y.bench l = { b.mark u.id x.pos .performed with store := (y.bench l).store, damage := (y.bench l).damage }
    let vec (c : Instr) (srcs : List Nat) (f : Nat → Nat × Flags) : Prop :=
      let r := srcs.map (fun lo => (lo, 32))
      (vecRanges w r (some (7, 32)) vl = false → stops c 2) ∧
      (vecRanges w r (some (7, 32)) vl = true → b.vecDamaged w r vl = true → stops c 10) ∧
      (vecRanges w r (some (7, 32)) vl = true → b.vecDamaged w r vl = false →
        ∃ y, exec c s = .next y ∧ (∀ i, i < vl → leAt ((y.bench l).bytes (vecAt w 7 + 4 * i) 4) 0 4 = (f i).1 % 2 ^ 32) ∧
          writes (4 * vl) y ∧ flagsAre ((List.range vl).map (fun i => (f i).2)) y)
    let two (c : Instr) (f : Rm → Nat → Nat → Nat × Flags) : Prop := vec c [20, 33] (fun i => f rm (el 20 i) (el 33 i))
    (op = 0 → two (.add l) add32) ∧ (op = 1 → two (.sub l) sub32) ∧ (op = 2 → two (.mul l) mul32) ∧
    (op = 3 → vec (.fma l) [20, 33, 46] (fun i => fma32 rm (el 20 i) (el 33 i) (el 46 i))) ∧
    (op = 4 → two (.min l) (fun _ => min32)) ∧ (op = 5 → two (.max l) (fun _ => max32)) ∧ (op = 6 → two (.div l) div32) ∧
    (op = 7 → vec (.sqrt l) [20] (fun i => sqrt32 rm (el 20 i))) ∧
    (op = 8 → two (.cmplt l) (fun _ => cmplt32)) ∧ (op = 9 → two (.cmpeq l) (fun _ => cmpeq32)) ∧ (op = 10 → two (.cmple l) (fun _ => cmple32)) ∧
    (op = 11 →
      (vecRanges w [(20, 32)] none vl = false → stops (.any l) 2) ∧
      (vecRanges w [(20, 32)] none vl = true → b.vecDamaged w [(20, 32)] vl = true → stops (.any l) 10) ∧
      (vecRanges w [(20, 32)] none vl = true → b.vecDamaged w [(20, 32)] vl = false →
        ∃ y v, exec (.any l) s = .next y ∧ (v = true ↔ ∃ i, i < vl ∧ el 20 i % 2 ^ 31 ≠ 0) ∧
          BenchIs l ((b.setPf (bitsOf w 46 4) v).mark u.id x.pos .performed) s y ∧ Only [.benches] s y)) ∧
    (op = 12 →
      (convFmt w = none → stops (.cvtf l) 2) ∧
      (∀ f, convFmt w = some f → vecRanges w [(20, 32)] (some (7, f.bits)) vl = false → stops (.cvtf l) 2) ∧
      (∀ f, convFmt w = some f → vecRanges w [(20, 32)] (some (7, f.bits)) vl = true → b.vecDamaged w [(20, 32)] vl = true →
        stops (.cvtf l) 10) ∧
      (∀ f, convFmt w = some f → vecRanges w [(20, 32)] (some (7, f.bits)) vl = true → b.vecDamaged w [(20, 32)] vl = false →
        let r (i : Nat) := if bitsOf w 6 1 = 1 then f.strictOfNum rm (f32.decode (el 20 i)) else f.ofNum s.policy (f32.decode (el 20 i))
        ∃ y, exec (.cvtf l) s = .next y ∧
          (∀ i, i < vl → (unpackElems f ((y.bench l).bytes (vecAt w 7) (vecBytes vl f.bits)) vl).getD i 0 = (r i).1 % 2 ^ f.bits) ∧
          writes (vecBytes vl f.bits) y ∧ flagsAre ((List.range vl).map (fun i => (r i).2)) y)) ∧
    (op = 13 →
      (convFmt w = none → stops (.cvtt l) 2) ∧
      (∀ f, convFmt w = some f → vecRanges w [(20, f.bits)] (some (7, 32)) vl = false → stops (.cvtt l) 2) ∧
      (∀ f, convFmt w = some f → vecRanges w [(20, f.bits)] (some (7, 32)) vl = true → b.vecDamaged w [(20, f.bits)] vl = true →
        stops (.cvtt l) 10) ∧
      (∀ f, convFmt w = some f → vecRanges w [(20, f.bits)] (some (7, 32)) vl = true → b.vecDamaged w [(20, f.bits)] vl = false →
        let v (i : Nat) := f.decode ((unpackElems f (b.bytes (vecAt w 20) (vecBytes vl f.bits)) vl).getD i 0)
        let r (i : Nat) := if bitsOf w 6 1 = 1 then Fmt.fp32.strictOfNum rm (v i) else Fmt.fp32.ofNum s.policy (v i)
        ∃ y, exec (.cvtt l) s = .next y ∧ (∀ i, i < vl → leAt ((y.bench l).bytes (vecAt w 7 + 4 * i) 4) 0 4 = (r i).1 % 2 ^ 32) ∧
          writes (4 * vl) y ∧ flagsAre ((List.range vl).map (fun i => (r i).2)) y))

/-- A ready MAC or MACZ with operands A and B, its FORMAT rules kept and no operand word damaged: every output (i, j) with a line i of A and a
line j of B is what its groups of products, in increasing order from KOFF on, make of its old value (of +0 for a MACZ); every other
accumulator of the set keeps its value (is +0 for a MACZ), a MACZ gives the set its type and LSB, the other set and the bench store do not
change, the slot is performed and the Bench's MAC count goes up by one. Breaking a FORMAT rule stops the stream with code 2, a damaged operand
with code 10. -/
def Obligations.MatrixSlotsAccumulate : Prop :=
  ∀ (l op : Nat) (u : Bundle) (x : Slot) (s : State), l < 1024 → s.ready? l 2 op = some (u, x) → op < 2 →
    let c : Instr := if op = 0 then .mac l else .macz l
    let b := s.bench l
    let w := x.word
    let oa := u.regs.or.getD (bitsOf w 4 4) 0
    let ob := u.regs.or.getD (bitsOf w 8 4) 0
    let set := bitsOf w 12 1
    let ty := accTypeOf (bitsOf w 13 2)
    let n := bitsOf w 24 16
    let damaged := (orCells oa ++ orCells ob).any (fun c => b.bad (256 * c.1) (256 * c.2))
    (macBad w oa ob (b.set set) = true → ∃ y, exec c s = .next y ∧ StreamStops l u.id u.pc x.pos 2 s y) ∧
    (macBad w oa ob (b.set set) = false → damaged = true → ∃ y, exec c s = .next y ∧ StreamStops l u.id u.pc x.pos 10 s y) ∧
    (macBad w oa ob (b.set set) = false → damaged = false →
      ∀ fa fb kind, Fmt.ofCode (orFmt oa) = some fa → Fmt.ofCode (orFmt ob) = some fb → pairKind fa fb = some kind →
        let A := b.operand oa fa
        let B := b.operand ob fb
        let fast := bitsOf w 15 1 == 1 && s.bit NUM_POLICY_FAST_ALLOW
        let lsb : Int := if op = 0 then (b.set set).lsb else if ty = .int64 then sext 8 (bitsOf w 16 8) else 0
        let old (m : Nat) : Int := if op = 0 then (b.set set).get m else 0
        ∃ y, exec c s = .next y ∧
          (∀ i j, i < A.lines → j < B.lines → ((y.bench l).set set).get (64 * i + j) =
            (macOne ty lsb kind fast (old (64 * i + j)) (macGroups A B i j kind.group n (bitsOf w 40 16) n)).1) ∧
          (∀ m, (A.lines ≤ m / 64 ∨ B.lines ≤ m % 64) → ((y.bench l).set set).get m = old m) ∧
          ((y.bench l).set set).ty = ty ∧ ((y.bench l).set set).lsb = lsb ∧
          y.bench l = { (b.setAcc set ((y.bench l).set set)).mark u.id x.pos .performed with macs := b.macs + 1 } ∧
          (∀ j, j ≠ l → y.bench j = s.bench j) ∧
          WordsOnly [(NUM_BFLAGS_T_INVALID (s.physOf l)).addr] s y ∧ y.now = s.now ∧ Only [.clock, .benches, .regs, .mill, .flt, .temper] s y ∧
          (s.rd NUM_ASSAY_RATE = 31 → y.temper = s.temper))

/-- A ready ACC slot on set SET. CLEAR sets every accumulator of it to +0 and keeps its type. DRAIN and DRAINK, their FORMAT and bounds rules
kept, write the drained bytes at cell DST (RAW of a 32-bit type: the accumulator (i, j) as word COLS * i + j), change no other byte of the
store, and DRAIN then sets the set to +0 with its type kept while DRAINK keeps the values. MERGE, its rules kept and its source whole, adds the raw
value COLS * i + j of the source to accumulator (i, j) for each row and column and leaves the others and the store. The slot is performed and
the other set never changes. Breaking a rule stops the stream with code 2 or 3. -/
def Obligations.AccumulatorSlotsMoveSets : Prop :=
  ∀ (l op : Nat) (u : Bundle) (x : Slot) (s : State), l < 1024 → s.ready? l 3 op = some (u, x) →
    let b := s.bench l
    let w := x.word
    let n := bitsOf w 4 1
    let a := b.set n
    let rows := bitsOf w 33 7
    let cols := bitsOf w 40 7
    let dst := 256 * bitsOf w 5 10
    let flagsOnly (y : State) : Prop := WordsOnly [(NUM_BFLAGS_T_INVALID (s.physOf l)).addr, FLT_INJ_LEFT_LEFT.addr] s y ∧
      y.now = s.now ∧ Only [.clock, .benches, .regs, .mill, .flt] s y
    let stops (c : Instr) : Prop := ∀ k, accError w a.ty = some k → ∃ y, exec c s = .next y ∧ StreamStops l u.id u.pc x.pos k s y
    let drains (c : Instr) (keep : Bool) : Prop := accError w a.ty = none →
      let bs := (drainOut a w s.policy).1
      ∃ y, exec c s = .next y ∧ (y.bench l).bytes dst bs.length = bs ∧
        (∀ i, (i < dst ∨ dst + bs.length ≤ i) → (y.bench l).byte i = b.byte i) ∧
        y.bench l = { (b.setAcc n (if keep then a else { a with vals := [] })).mark u.id x.pos .performed with
          store := (y.bench l).store, damage := (y.bench l).damage } ∧
        (accRaw w = true → a.ty ≠ .int64 → ∀ i j, i < rows → j < cols →
          leAt ((y.bench l).bytes (dst + 4 * (cols * i + j)) 4) 0 4 = toBits 32 (a.get (64 * i + j))) ∧
        (∀ j, j ≠ l → y.bench j = s.bench j) ∧ flagsOnly y
    (op = 0 → drains (.drain l) false ∧ stops (.drain l)) ∧ (op = 2 → drains (.draink l) true ∧ stops (.draink l)) ∧
    (op = 1 → ∃ y, exec (.clear l) s = .next y ∧ BenchIs l ((b.setAcc n { a with vals := [] }).mark u.id x.pos .performed) s y ∧
      (∀ m, ((y.bench l).set n).get m = 0) ∧ Only [.benches] s y) ∧
    (op = 3 → stops (.merge l) ∧
      (accError w a.ty = none → b.bad dst (drainBytes w a.ty).1 = true → ∃ y, exec (.merge l) s = .next y ∧ StreamStops l u.id u.pc x.pos 10 s y) ∧
      (accError w a.ty = none → b.bad dst (drainBytes w a.ty).1 = false →
        ∃ y, exec (.merge l) s = .next y ∧
          (∀ i j, i < rows → j < cols → ((y.bench l).set n).get (64 * i + j) =
            (accMerge a.ty (a.get (64 * i + j)) (rawAt a.ty (b.bytes dst (drainBytes w a.ty).1) (cols * i + j))).1) ∧
          (∀ m, (rows ≤ m / 64 ∨ cols ≤ m % 64) → ((y.bench l).set n).get m = a.get m) ∧
          ((y.bench l).set n).ty = a.ty ∧ ((y.bench l).set n).lsb = a.lsb ∧
          y.bench l = (b.setAcc n ((y.bench l).set n)).mark u.id x.pos .performed ∧ (∀ j, j ≠ l → y.bench j = s.bench j) ∧ flagsOnly y))

/-- With no injection armed. A ready LD, or an LDB of a folded Casting, whose tile keeps the bounds and format rules, whose spans the guild
grants and are whole: where the mover finds a cell on each die that it passes (R362; else only the failed request is counted), the dense tile stands in the bench store from cell DST on, row after row, then its scale cells, the rest of its
last cell zeros; no other byte of the store, no other Bench and no memory changes, and the slot is performed. An LDB at fold depth 1 does
so for every member of its group in the Hall at once, with one read of the spans that all of them name, when all of them are ready, and
nothing before. A broken bounds rule stops the stream with
code 3, a reserved format or a SETOR of more than 64 rows with code 2, a refused span (counted in SEC_DENY) with code 9, a poisoned word with
code 10, an LDB of a Bench outside its group with code 8. -/
def Obligations.LoadsCopyTilesIntoTheStore : Prop :=
  ∀ (l : Nat) (s : State), l < 1024 → s.bit FLT_INJ_LEFT_ARMED = false →
    let desc (j : Nat) (x : Slot) : Desc := kDesc (s.kimg (s.bench j)) (bitsOf x.word 4 8)
    let index (u : Bundle) (x : Slot) : Nat := ((u.regs.src (bitsOf x.word 12 4)).getD 0).toNat
    let spans (j : Nat) (u : Bundle) (x : Slot) : List (Nat × Nat) := (desc j x).spans (index u x)
    let formed (j : Nat) (u : Bundle) (x : Slot) : Prop := tileBad (s.kimg (s.bench j)) u.regs x.word = false ∧
      (Fmt.ofCode (desc j x).fmt).isSome = true ∧ (bitsOf x.word 30 1 = 1 → (desc j x).rows ≤ 64)
    let good (j : Nat) (u : Bundle) (x : Slot) : Prop := formed j u x ∧ s.refusedSpan (gBench j) .r (spans j u x) = none ∧
      ∀ p ∈ spans j u x, Whole s p.1 p.2
    let takes (j : Nat) (u : Bundle) (x : Slot) : Bool × State := s.moverTake j u.id x.pos (spans j u x)
    let loaded (j : Nat) (u : Bundle) (x : Slot) (b' : Bench) : Prop :=
      let b := s.bench j
      let d := desc j x
      let base := d.base + index u x * d.step
      let dst := 256 * bitsOf x.word 16 10
      let n := 256 * (d.tileCells + d.scaleCells)
      (∀ r i, r < d.rows → i < d.rb → b'.byte (dst + r * d.rb + i) = s.byteAt (base + r * d.stride + i)) ∧
      (∀ i, d.rows * d.rb ≤ i → i < 256 * d.tileCells → b'.byte (dst + i) = 0) ∧
      (sdDir d.sdesc ≠ 0 → ∀ i, i < 256 * d.scaleCells →
        b'.byte (dst + 256 * d.tileCells + i) = s.byteAt (d.sbase + index u x * d.step + i)) ∧
      (∀ a, (a < dst ∨ dst + n ≤ a) → b'.byte a = b.byte a) ∧
      b' = { b.mark u.id x.pos .performed with
        store := b'.store, damage := b.damage.filter (fun e => !(decide (e.1 < dst + n ∧ dst < e.1 + 32))) }
    let loads (c : Instr) (u : Bundle) (x : Slot) : Prop :=
      (good l u x →
        ((takes l u x).1 = true → Only [.fab, .mill] s (takes l u x).2 ∧ ∃ y, exec c s = .next y ∧ loaded l u x (y.bench l) ∧
          (∀ j, j ≠ l → y.bench j = s.bench j) ∧ Only [.benches, .alive] (takes l u x).2 y) ∧
        ((takes l u x).1 = false → exec c s = .next (takes l u x).2 ∧ Only [.regs] s (takes l u x).2 ∧
          ∃ d, WordsOnly [(BP_FAIL d).addr] s (takes l u x).2)) ∧
      (tileBad (s.kimg (s.bench l)) u.regs x.word = true → ∃ y, exec c s = .next y ∧ StreamStops l u.id u.pc x.pos 3 s y) ∧
      (tileBad (s.kimg (s.bench l)) u.regs x.word = false →
        (Fmt.ofCode (desc l x).fmt).isSome = false ∨ (bitsOf x.word 30 1 = 1 ∧ 64 < (desc l x).rows) →
        ∃ y, exec c s = .next y ∧ StreamStops l u.id u.pc x.pos 2 s y) ∧
      (∀ r, formed l u x → s.refusedSpan (gBench l) .r (spans l u x) = some r →
        ∃ z y, exec c s = .next y ∧ z.rd SEC_DENY = min (s.rd SEC_DENY + 1) (2 ^ 32 - 1) ∧ Only [.regs, .sec] s z ∧
          StreamStops l u.id u.pc x.pos 9 z y) ∧
      (formed l u x → s.refusedSpan (gBench l) .r (spans l u x) = none →
        (takes l u x).1 = true →
        (∃ p ∈ spans l u x, ∃ w ∈ wordsOf p.1 p.2, s.errAt w = some .poison) →
        ∃ z y, exec c s = .next y ∧ Only [.clock, .regs, .mem, .errs, .free, .msys, .alive, .flt, .fab, .mill] s z ∧ StreamStops l u.id u.pc x.pos 10 z y)
    (∀ u x, s.ready? l 0 0 = some (u, x) → loads (.ld l) u x) ∧
    (∀ u x, s.ready? l 0 1 = some (u, x) →
      let g := bitsOf x.word 32 8;
      (kernInGroup s.kern g l = false → ∃ y, exec (.ldb l) s = .next y ∧ StreamStops l u.id u.pc x.pos 8 s y) ∧
      (kernInGroup s.kern g l = true → s.foldDepth ≠ 1 → loads (.ldb l) u x) ∧
      (kernInGroup s.kern g l = true → s.foldDepth = 1 →
        ((∃ j ∈ s.hallMembers g l, s.ldbReady g j = none) → exec (.ldb l) s = .next s) ∧
        (∀ j0 js v0 z0, s.hallMembers g l = j0 :: js → s.ldbReady g j0 = some (v0, z0) → (takes j0 v0 z0).1 = true →
          (∀ j ∈ s.hallMembers g l, ∃ v z, s.ldbReady g j = some (v, z) ∧ good j v z ∧ s.tileSpans j v z = s.tileSpans j0 v0 z0) →
          ∃ y, exec (.ldb l) s = .next y ∧ (∀ j ∈ s.hallMembers g l, ∀ v z, s.ldbReady g j = some (v, z) → loaded j v z (y.bench j)) ∧
            (∀ j, j ∉ s.hallMembers g l → y.bench j = s.bench j) ∧ Only [.benches, .alive] (takes j0 v0 z0).2 y)))

/-- With no injection armed, a ready ST whose tile keeps the bounds and format rules, whose spans the guild grants and whose source holds no
damaged word. Where the mover finds no cell on a die that it passes (R362), only the failed request is counted. Else, without a release tick: memory holds, at each row of the tile, the bytes of that row of the dense tile in the store, and at its
scale span the scale cells that follow the tile's last cell (their groups counting accesses as the controllers do); every byte outside the
spans is unchanged, and so is everything else but the marks of the words written; the slot is performed. With a release tick in force the bytes wait at the Bench's gate and no memory changes. A broken
bounds rule stops the stream with code 3, a reserved format with code 2, a refused span with code 9 and nothing written, a damaged source with
code 10. -/
def Obligations.StoresWriteTheirSpans : Prop :=
  ∀ (l : Nat) (u : Bundle) (x : Slot) (s : State), l < 1024 → s.bit FLT_INJ_LEFT_ARMED = false → s.ready? l 1 0 = some (u, x) →
    let b := s.bench l
    let d := kDesc (s.kimg b) (bitsOf x.word 4 8)
    let ix := ((u.regs.src (bitsOf x.word 12 4)).getD 0).toNat
    let spans := d.spans ix
    let base := d.base + ix * d.step
    let src := 256 * bitsOf x.word 16 10
    let sc := d.sbase + ix * d.step
    let bad := tileBad (s.kimg b) u.regs x.word
    let damaged := b.bad src (256 * (d.tileCells + d.scaleCells))
    let takes := s.moverTake l u.id x.pos spans
    (bad = true → ∃ y, exec (.st l) s = .next y ∧ StreamStops l u.id u.pc x.pos 3 s y) ∧
    (bad = false → Fmt.ofCode d.fmt = none → ∃ y, exec (.st l) s = .next y ∧ StreamStops l u.id u.pc x.pos 2 s y) ∧
    (∀ r, bad = false → (Fmt.ofCode d.fmt).isSome = true → s.refusedSpan (gBench l) .w spans = some r →
      ∃ z y, exec (.st l) s = .next y ∧ z.rd SEC_DENY = min (s.rd SEC_DENY + 1) (2 ^ 32 - 1) ∧ Only [.regs, .sec] s z ∧
        StreamStops l u.id u.pc x.pos 9 z y) ∧
    (bad = false → (Fmt.ofCode d.fmt).isSome = true → s.refusedSpan (gBench l) .w spans = none →
      (damaged = true → ∃ y, exec (.st l) s = .next y ∧ StreamStops l u.id u.pc x.pos 10 s y) ∧
      (damaged = false → takes.1 = false → exec (.st l) s = .next takes.2 ∧ Only [.regs] s takes.2 ∧ ∃ d, WordsOnly [(BP_FAIL d).addr] s takes.2) ∧
      (takes.1 = true → Only [.fab, .mill] s takes.2) ∧
      (damaged = false → takes.1 = true → u.regs.rel = none →
        (∀ p ∈ spans, ∀ w c, c < 5 → w < hbmEnd → p.1 < w + 64 → w < p.1 + p.2 →
          aliveOf s.msys.seq (5 * groupOf w + c) = aliveOf s.msys.alive (5 * groupOf w + c)) →
        ∃ y, exec (.st l) s = .next y ∧ BenchIs l (b.mark u.id x.pos .performed) s y ∧
          (d.rb ≤ d.stride → ∀ r i, r < d.rows → i < d.rb → (∀ p ∈ d.scaleSpans ix, base + r * d.stride + i < p.1 ∨ p.1 + p.2 ≤ base + r * d.stride + i) →
            y.byteAt (base + r * d.stride + i) = b.byte (src + r * d.rb + i)) ∧
          (sdDir d.sdesc ≠ 0 → ∀ i, i < 256 * d.scaleCells → y.byteAt (sc + i) = b.byte (src + 256 * d.tileCells + i)) ∧
          (∀ a, (∀ p ∈ spans, a < p.1 ∨ p.1 + p.2 ≤ a) → y.byteAt a = s.byteAt a) ∧ Only [.benches, .mem, .errs, .alive] takes.2 y) ∧
      (∀ rel, damaged = false → takes.1 = true → u.regs.rel = some rel →
        ∃ y, exec (.st l) s = .next y ∧ BenchIs l (b.mark u.id x.pos .performed) s y ∧
          y.tg = { s.tg with gates := s.tg.gates ++ [⟨0, l, rel, s.now, .store (stWrites b d ix (bitsOf x.word 16 10)) u.id x.pos⟩] } ∧
          Only [.benches, .tg] takes.2 y))

/-- A ready KLD of an image outside the library stops the stream with code 11; one of the active bank completes with an SW note and changes no
bank; otherwise the inactive bank starts its reload (invalid, no longer armed). RELOAD_GO on a ready node is refused with its code, and
nothing else, while the node is not CAST (0x22), while BUSY (0x21) and for an image outside the library (0x0B); for one Bench it is refused
with 0x0C and an SW note where the bank is active, and with 0x21 where that bank is being reloaded; else the bank starts its reload and BUSY
is set; with ALL every Bench of the Casting whose named bank is inactive starts it, the others are counted in SKIPPED. RELOAD_COMPLETE of a Bench that runs ends a KLD's reload (the bank holds the image, valid and armed, the slot complete) and the last
of a host reload (the bank holds the image, BUSY clear and DONE set); a drained Bench then swaps its banks and continues at the new
ENTRY. With no reload it changes nothing. -/
def Obligations.KernelBanksReload : Prop :=
  ∀ (t l : Nat) (p : Path) (s : State), l < 1024 →
    let b := s.bench l
    let idle := !b.active
    let started (host : Bool) (b : Bench) : Bench :=
      { b.setBank (!b.active) { b.bank (!b.active) with valid := false, reload := some host } with armed := false }
    (∀ u x, s.ready? l 0 2 = some (u, x) →
      let bank := bitsOf x.word 4 1 == 1
      let img := bitsOf x.word 16 12;
      (kernImgs s.kern ≤ img → ∃ y, exec (.kld l) s = .next y ∧ StreamStops l u.id u.pc x.pos 11 s y) ∧
      (img < kernImgs s.kern → bank = b.active → ∃ y, exec (.kld l) s = .next y ∧ BenchIs l (b.mark u.id x.pos .complete) s y ∧
        y.flt.reports = s.flt.reports ++ [⟨.sw, 0, 12, mBench l, 6, 0, s.now, false, false⟩] ∧ Only [.benches, .flt] s y) ∧
      (img < kernImgs s.kern → bank ≠ b.active → (b.bank idle).reload = none →
        ∃ y, exec (.kld l) s = .next y ∧ BenchIs l ((started false b).mark u.id x.pos .performed) s y ∧
          y.mill.reload = s.mill.reload ∧ Only [.benches, .mill] s y) ∧
      (img < kernImgs s.kern → bank ≠ b.active → (b.bank idle).reload.isSome = true → exec (.kld l) s = .next s)) ∧
    (s.ready = true →
      let lib := s.rd MIL_RLD_SEL_LIB
      let bank := s.bit MIL_RLD_SEL_BANK
      let refused (code : Nat) (rep : List Report) : Prop := ∃ y, exec (.reloadGo t p) s = .next y ∧ y.bit MIL_RLD_STAT_REFUSED = true ∧
        y.rd MIL_RLD_STAT_CODE = code ∧ y.flt.reports = s.flt.reports ++ rep ∧ WordsOnly [MIL_RLD_STAT_CODE.addr] s y ∧
        Only [.clock, .regs, .flt] s y;
      (s.nodeState ≠ stCast → refused 0x22 []) ∧
      (s.nodeState = stCast → s.bit MIL_RLD_STAT_BUSY = true → refused 0x21 []) ∧
      (s.nodeState = stCast → s.bit MIL_RLD_STAT_BUSY = false → kernImgs s.kern ≤ lib → refused 0x0B []) ∧
      (s.nodeState = stCast → s.bit MIL_RLD_STAT_BUSY = false → lib < kernImgs s.kern → s.bit MIL_RLD_SEL_ALL = false →
        s.rd MIL_RLD_SEL_LBENCH = l → l < s.benchN →
        (b.active = bank → refused 0x0C [⟨.sw, 0, 12, p.master, 3, 0, max s.now t, false, false⟩]) ∧
        (b.active ≠ bank → (b.bank bank).reload.isSome = true → refused 0x21 []) ∧
        (b.active ≠ bank → (b.bank bank).reload = none →
          ∃ y, exec (.reloadGo t p) s = .next y ∧ BenchIs l (started true b) s y ∧ y.bit MIL_RLD_STAT_BUSY = true ∧
            y.mill.reload = some ⟨false, l, bank, lib, [l], none⟩ ∧ WordsOnly [MIL_RLD_STAT_BUSY.addr] s y ∧
            Only [.clock, .regs, .benches, .mill] s y)) ∧
      (s.nodeState = stCast → s.bit MIL_RLD_STAT_BUSY = false → lib < kernImgs s.kern → s.bit MIL_RLD_SEL_ALL = true →
        let goes (j : Nat) : Bool := decide (j < s.benchN) && (s.bench j).active != bank;
        (∀ j, goes j = true → ((s.bench j).bank bank).reload = none) →
        ∃ y, exec (.reloadGo t p) s = .next y ∧ (∀ j, y.bench j = if goes j then started true (s.bench j) else s.bench j) ∧
          y.rd MIL_RLD_STAT_SKIPPED = ((List.range s.benchN).filter (fun j => !goes j)).length % 2 ^ 16 ∧
          ((∃ j, goes j = true) → y.bit MIL_RLD_STAT_BUSY = true) ∧ Only [.clock, .regs, .benches, .mill, .flt] s y)) ∧
    (s.inForce = true → l < s.benchN →
      let ended (img : Nat) (b : Bench) : Bench := { b.setBank idle ⟨img, true, none⟩ with armed := true };
      ((b.bank idle).reload = none → ∃ y, exec (.reloadComplete t l) s = .next y ∧ Only [.clock] s y) ∧
      (∀ u x, (b.bank idle).reload = some false →
        b.slots.find? (fun e => e.2.pos == 0 && bitsOf e.2.word 0 4 == 2 && e.2.phase == .performed) = some (u, x) →
        let img := bitsOf x.word 16 12;
        (b.halted = false → ∃ y, exec (.reloadComplete t l) s = .next y ∧ BenchIs l (ended img (b.mark u.id 0 .complete)) s y ∧
          Only [.clock, .benches] s y) ∧
        (b.halted = true → ∃ y, exec (.reloadComplete t l) s = .next y ∧ Only [.clock, .benches] s y ∧
          BenchIs l { ended img (b.mark u.id 0 .complete) with
            active := idle, armed := false, loops := [], restart := true, pc := kEntry (kernImage s.kern img) } s y)) ∧
      ((b.bank idle).reload = some true → s.mill.reload = some ⟨false, l, idle, s.rd MIL_RLD_SEL_LIB, [l], none⟩ → b.halted = false →
        ∃ y, exec (.reloadComplete t l) s = .next y ∧ BenchIs l (ended (s.rd MIL_RLD_SEL_LIB) b) s y ∧
          y.bit MIL_RLD_STAT_BUSY = false ∧ y.bit MIL_RLD_STAT_DONE = true ∧ y.mill.reload = none ∧
          (l, idle, s.rd MIL_RLD_SEL_LIB) ∈ y.mill.swaps ∧ WordsOnly [MIL_RLD_STAT_BUSY.addr] s y ∧
          Only [.clock, .regs, .benches, .mill] s y))

/-- On a ready node with no power transition under way. A write of MIL_HALL_DIS that sets no new bit: while UNCAST the register takes the value,
and a change of the enabled-Hall mask leaves a MAP record; while CAST or DRAINING a write that clears a bit leaves it set and is refused with
SEALED, while APPLYING with BUSY. A write that sets the bit of one enabled Hall that is On, and clears none, sets it in every node state, asks
for that Hall's transition to Off with the cause of a disable, and where the Casting in force places a Bench there and the job is not
quenched, quenches the job with an SW fault at level 2. -/
def Obligations.HallsAreDisabledAtOnce : Prop :=
  ∀ (t v : Nat) (p : Path) (s : State), s.ready = true → s.pwr.trans = [] → v < 2 ^ 32 →
    let dis := s.rd MIL_HALL_DIS
    let sets (h : Nat) : Bool := v.testBit h && !dis.testBit h
    let clears (h : Nat) : Bool := dis.testBit h && !v.testBit h
    ((∀ h, sets h = false) →
      (s.nodeState = stUncast → ∃ u : State, exec (.hallDisable t p v) s = .next u ∧ u.rd MIL_HALL_DIS = v ∧
        (u.hallMap ≠ s.hallMap → ∃ g ∈ u.sec.wait, g.tick = max s.now t ∧ ∃ r ∈ g.recs, r.ty = 0xB) ∧
        (u.hallMap = s.hallMap → u.sec = s.sec) ∧ WordsOnly [MIL_HALL_DIS.addr, DET_STAT_MAPCHG.addr] s u ∧ Only [.clock, .regs, .sec] s u) ∧
      ((∃ h, clears h = true) → s.nodeState ≠ stUncast → s.nodeState < 4 →
        ∃ u : State, exec (.hallDisable t p v) s = .next u ∧ u.rd MIL_HALL_DIS = dis ∧ u.bit CST_ERR_WRITE_REF = true ∧
          u.rd CST_ERR_CODE = (if s.nodeState = stApplying then ceBusy else ceSealed) ∧
          WordsOnly [CST_ERR_CODE.addr] s u ∧ Only [.clock, .regs, .flt] s u)) ∧
    (∀ h, h < 32 → (∀ j, sets j = decide (j = h)) → (∀ j, clears j = false) → s.hallOn h = true → s.dom h = pwOn →
      ∃ u : State, exec (.hallDisable t p v) s = .next u ∧ u.rd MIL_HALL_DIS = dis + 2 ^ h ∧ u.hallOn h = false ∧
        (∃ x ∈ u.pwr.trans, x.dom = h ∧ x.target = pwOff ∧ x.cause = pcHallDis) ∧
        ((s.at t).hallPlaced h = true → s.quenched = false → u.quenched = true ∧
          ⟨.sw, 2, 0, mHall h, 7, 0, max s.now t, false, false⟩ ∈ u.flt.reports) ∧
        ((s.at t).hallPlaced h = false ∨ s.quenched = true → u.quenched = s.quenched ∧ u.cst = s.cst ∧ u.mem = s.mem))

/-- Of descriptor d and in-node instance g while the job runs, no fence in force. COLLECTIVE_START of a due instance, from its START_OFF on: it is
recorded as started in this epoch and waits where a Crucible of its set has no free context; else it opens (DSTAT running, its contexts counted,
DLATE and DDROP zero) and does what its inputs allow. SELF_CONTRIBUTION_READ of a running instance whose SYNC_IN is reached marks SELF's data as
free to read and goes on; the next cell of SELF is 256 bytes of SRC, or what SELF still owes. CRUCIBLE_CELL drops a contribution flit of another
epoch, counting it in CRU_BADTAG, and one beyond COUNT, takes a barrier marker, ingests what the rank owes of any other, and takes a ring's partial
of one flit and goes on with it. PASS2_START of an aligned-integer chunk whose exponent bytes are back lets its second pass begin. CHUNK_RELEASE
of an instance without SELF releases the first chunk that is ready and may leave, late only where it leaves after its release tick; the last one
completes the instance: status 2, one more run, its seam count, its contexts free. While the job does not run none of them changes anything, nor
does one that comes too soon. -/
def Obligations.CollectivesStartReadAndRelease : Prop :=
  ∀ (t d g : Nat) (s : State), d < 1024 →
    let img := s.cst.img
    let now := max s.now t
    let fresh (waiting : Bool) : CollInst :=
      let mem := (grpInsts img (colGroup img d)).getD g []
      { desc := d, g := g, mem := mem, seam := s.rd64 TG_SEAM_LO, start := s.tg.epochStart, waiting := waiting
        ins := mem.map (fun _ => ⟨[], 0, false, 0, none⟩), pass2 := [], up := [], parts := [], steps := [], down := [], rx := [], holds := []
        bad := [], ready := [], released := [], segs := [], drops := [], served := [], dropped := [], dst1 := false, stopped := false }
    (s.jobRuns = false → Idle (.collectiveStart t d g) s ∧ Idle (.selfContributionRead t d g) s ∧
      (∀ ev, Idle (.crucibleCell t d g ev) s) ∧ (∀ j, Idle (.pass2Start t d g j) s) ∧ Idle (.chunkRelease t d g) s) ∧
    (s.jobRuns = true → s.inst? d g = none →
      (s.collDue.contains (d, g) = false ∨ now < s.tg.epochStart + colStartOff img d → Idle (.collectiveStart t d g) s) ∧
      (s.collDue.contains (d, g) = true → s.tg.epochStart + colStartOff img d ≤ now → s.fences = [] →
        (s.ctxFree d = false →
          ∃ u : State, exec (.collectiveStart t d g) s = .next u ∧ u.coll.insts = s.coll.insts ++ [fresh true] ∧
            (d, g, s.rd64 TG_SEAM_LO) ∈ u.coll.started ∧ Only [.clock, .coll] s u) ∧
        (s.ctxFree d = true → s.collGuild (fresh false) = none → (selfSpans img (fresh false)).2 = [] →
          ∃ z, exec (.collectiveStart t d g) s = .next (z.collAll d g) ∧ z.inst? d g = some (fresh false) ∧
            (d, g, s.rd64 TG_SEAM_LO) ∈ z.coll.started ∧ z.rd (CRU_DSTAT_STATUS d) = 1 ∧
            z.rd (CRU_DSTAT_CTX d) = (colSet img d).length % 2 ^ 13 ∧ z.rd (CRU_DLATE d) = 0 ∧ z.rd64 (CRU_DDROP_LO d) = 0 ∧
            Only [.clock, .regs, .coll] s z))) ∧
    (∀ i, s.jobRuns = true → s.inst? d g = some i → i.waiting = false → i.stopped = false →
      let inp (r : Nat) : CollIn := i.ins.getD r ⟨[], 0, false, 0, none⟩
      Idle (.collectiveStart t d g) s ∧
      (∀ r, i.mem.findIdx? (fun n => n == 128) = some r →
        let x := inp r
        let ready := x.arrived = true ∨ colSyncIn img d = 0xFFFF ∨ colSyncVal img d ≤ s.rd (MIL_SYNC (colSyncIn img d))
        let j : CollInst := { i with ins := i.ins.set r { x with arrived := true } };
        (¬ready → Idle (.selfContributionRead t d g) s) ∧
        (ready → colOp img d = 5 →
          (x.arrived = true → Idle (.selfContributionRead t d g) s) ∧
          (x.arrived = false → ∃ z : State, exec (.selfContributionRead t d g) s = .next (z.collGo z j 0 0) ∧ Only [.clock] s z)) ∧
        (ready → colOp img d ≠ 5 →
          ∃ z, exec (.selfContributionRead t d g) s = .next (z.collPull d g) ∧ z.inst? d g = some j ∧ Only [.clock, .coll] s z) ∧
        (let a := colSrc img d + 256 * x.cells
          let n := min 256 (i.owes img r);
          0 < n → Whole s a n → ∃ y, s.selfCell i r = s.ingest y i r (colCru img d 0 (x.cells % colCells img d)) (s.bytesAt a n) ∧
            Only [.alive] s y)) ∧
      (∀ r e, s.fab.collIn.find? (fun e => e.1 == colUp img d && s.portOf (i.mem.getD r 128) e.2.1) = some e → i.mem.getD r 128 ≠ 128 →
        (e.2.2.epoch ≠ i.seam % 256 →
          ∃ u : State, exec (.crucibleCell t d g (.member r)) s = .next u ∧ u.fab.collIn = s.fab.collIn.erase e ∧
            u.rd CRU_BADTAG = min (s.rd CRU_BADTAG + 1) (2 ^ 32 - 1) ∧ WordsOnly [CRU_BADTAG.addr] s u ∧ u.coll = s.coll ∧
            Only [.clock, .regs, .fab, .flt] s u) ∧
        (e.2.2.epoch = i.seam % 256 →
          ∃ z, z.fab.collIn = s.fab.collIn.erase e ∧ Only [.clock, .fab] s z ∧
            (colOp img d = 5 → exec (.crucibleCell t d g (.member r)) s =
              .next ((s.at t).collGo z { i with ins := i.ins.set r { inp r with arrived := true } } 0 0)) ∧
            (colOp img d < 5 → i.owes img r = 0 → exec (.crucibleCell t d g (.member r)) s = .next (z.collExcess d)) ∧
            (colOp img d < 5 → 0 < i.owes img r → exec (.crucibleCell t d g (.member r)) s =
              .next (((s.at t).ingest z i r (colCru img d (dieOf e.2.1) ((inp r).cells % colCells img d))
                (e.2.2.data.take (i.owes img r))).collPull d i.g)))) ∧
      (∀ ph j path sl side l k,
        let had := i.parts.any (fun q => q.phase == ph && q.chunk == j && q.path == path && q.slice == sl && q.side == side)
        let bits := colBits img d ph false
        let m := (colPath img d ph j (path ++ [sl])).2;
        (s.nodeFlit d l k = none → Idle (.crucibleCell t d g (.ring ph j path sl side l k)) s) ∧
        (∀ e, s.nodeFlit d l k = some e →
          ∃ y, y.fab.collIn = s.fab.collIn.erase e ∧ Only [.clock, .fab] s y ∧
            (had = true ∨ e.2.2.epoch ≠ i.seam % 256 → exec (.crucibleCell t d g (.ring ph j path sl side l k)) s = .next y) ∧
            (had = false → e.2.2.epoch = i.seam % 256 → i.rx = [] → (m * bits + 7) / 8 ≤ e.2.2.data.length →
              ∃ z, exec (.crucibleCell t d g (.ring ph j path sl side l k)) s = .next (((s.at t).collGo z { i with
                  parts := i.parts ++ [⟨ph, j, path, sl, side, unpackCodes bits (e.2.2.data.take ((m * bits + 7) / 8)) m⟩] } ph j).collPull d g) ∧
                Only [.regs] y z))) ∧
      (∀ c, (colSet img d).contains c = false → Idle (.crucibleCell t d g (.mismatch c)) s) ∧
      (∀ j,
        (colMode img d ≠ 0 ∧ (i.downAt 1 j []).isSome = true ∧ i.pass2.contains j = false →
          ∃ z : State, exec (.pass2Start t d g j) s = .next ((z.collGo z { i with pass2 := i.pass2 ++ [j] } 0 j).collPull d g) ∧ Only [.clock] s z) ∧
        (colMode img d = 0 ∨ (i.downAt 1 j []).isSome = false ∨ i.pass2.contains j = true → Idle (.pass2Start t d g j) s)) ∧
      ((s.at t).nextChunk i = none → Idle (.chunkRelease t d g) s) ∧
      (∀ j rdy, (s.at t).nextChunk i = some (j, rdy) →
        let rel := i.start + colRelOff img d + j * colPeriod img d
        let left : CollInst := { i with released := i.released ++ [j] };
        (rel ≤ now ∧ (rdy ≤ rel ∨ rdy < now) ∧ j < colChunks img d ∧ i.released.contains j = false) ∧
        (i.bad.contains j = false → i.mem.contains 128 = false →
          (left.released.length < colChunks img d → agStage img d = none →
            ∃ z : State, exec (.chunkRelease t d g) s = .next ((z.collGo z left 0 j).collPull d g) ∧ z.inst? d g = some left ∧
              (rel < now → z.rd (CRU_DLATE d) = min (s.rd (CRU_DLATE d) + 1) (2 ^ 32 - 1) ∧ z.bit (CRU_DSTAT_LATE d) = true) ∧
              (rel = now → z.rd TG_SLACK_MIN = min (s.rd TG_SLACK_MIN) (rel - rdy) % 2 ^ 32 ∧ z.rd (CRU_DLATE d) = s.rd (CRU_DLATE d))) ∧
          (colChunks img d ≤ left.released.length → i.holds = [] → colSyncOut img d = 0xFFFF ∨ colSyncOut img d < 4096 →
            ∃ u : State, exec (.chunkRelease t d g) s = .next u ∧ u.inst? d g = none ∧ u.rd (CRU_DSTAT_STATUS d) = 2 ∧
              u.rd (CRU_DSTAT_CTX d) = 0 ∧ u.rd (CRU_DRUNS d) = min (s.rd (CRU_DRUNS d) + 1) (2 ^ 32 - 1) ∧
              u.rd64 (CRU_DSEAM_LO d) = i.seam % 2 ^ 64 ∧ u.mem = s.mem))))

/-- Of a stage while the job runs, the memory it touches whole and no injection armed. TEMPER_STEP_START with a slice waiting latches
the step count plus one, the layers' hyperparameters and which copy is current, and shows the step running. TEMPER_CHUNK with the Benches
that run its rounds idle does a chunk once: in TRUST's first phase it only adds to the norm sums; otherwise it writes the slice's new values to
the copy that is not current (no other byte of memory changes), leaves the current one, and the slice is ready. TEMPER_PHASE2_START, with all chunks
summed and the norms back, latches each layer's ratio. TEMPER_SLICE_RELEASE releases the first ready slice that may leave; with no ALLGATHER to feed,
the last one completes the step: the tag word names the other copy and the step, the step count is the step, the status 2. With nothing to do
none of them changes anything. -/
def Obligations.TemperStepsRunTheirStage : Prop :=
  ∀ (t st j : Nat) (s : State), st < 64 → s.jobRuns = true →
    let img := s.cst.img
    let now := max s.now t
    let tag := stgTag img st
    (∀ seam c v d, s.temper.slices.find? (fun x => x.1 == st) = some (st, seam, c, v) → stgDesc img st = some d → s.step? st = none →
      Whole s tag 16 →
      ∃ u x, exec (.temperStepStart t st) s = .next u ∧ u.temper = { s.temper with steps := s.temper.steps ++ [x] } ∧
        x.stage = st ∧ x.desc = d ∧ x.seam = seam ∧ x.start = s.tg.epochStart ∧ x.step = s.rd64 (NUM_TSTEP_LO st) + 1 ∧
        x.layers = (List.range (stgNl img st)).map (fun i => let l := stgLayer0 img st + i
          ⟨l, s.rd (NUM_TLR l), s.rd (NUM_TWD l), sext 8 (s.rd (NUM_TLAYER_LSCALE l))⟩) ∧
        (x.cur = true ↔ (s.byteAt (tag + 8)).toNat % 2 = 1) ∧ x.phase2 = false ∧ x.done1 = [] ∧ x.done2 = [] ∧ x.released = [] ∧
        u.rd (NUM_TSTAT_STATE st) = 1 ∧ u.rd (NUM_TSTAT_STATUS st) = 1 ∧ WordsOnly [(NUM_TSTAT_STATE st).addr] s u ∧
        Only [.clock, .regs, .temper, .alive] s u) ∧
    (s.temper.slices.find? (fun x => x.1 == st) = none ∨ stgDesc img st = none ∨ (s.step? st).isSome = true →
      Idle (.temperStepStart t st) s) ∧
    (s.step? st = none → Idle (.temperChunk t st j) s ∧ Idle (.temperPhase2Start t st) s ∧ Idle (.temperSliceRelease t st) s) ∧
    (∀ x, s.step? st = some x →
      let trust1 := stgRule img st = 2 ∧ x.phase2 = false
      let arrs (sl : List Nat) (cur : Bool) : List (Nat × Nat) :=
        let pos := shareAt img x.desc j
        let S := shareS img x.desc
        let w := (stgW img st).bits
        let m := (stgS img st).bits
        [(stgCopy img st cur + pos * w / 8, sl.length * w / 8), (stgCopy img st cur + copyM img st S + pos * m / 8, sl.length * m / 8)] ++
          (if stgRule img st = 0 then [] else [(stgCopy img st cur + copyV img st S + pos * m / 8, sl.length * m / 8)]);
      (∀ seam sl, s.temper.slices.find? (fun y => y.1 == st && y.2.2.1 == j) = some (st, seam, j, sl) →
        (∀ l ∈ s.roundBenches (stgGroup img st) (roundsBefore img x.desc j) sl.length, s.benchIdle l = true) → (∀ a ∈ arrs sl x.cur, Whole s a.1 a.2) → (∀ a ∈ arrs sl (!x.cur), Whole s a.1 a.2) →
        (trust1 → j ∉ x.done1 → x.done1.length + 1 ≠ colChunks img x.desc →
          ∃ u sums, exec (.temperChunk t st j) s = .next u ∧ u.step? st = some { x with sums := sums, done1 := x.done1 ++ [j] } ∧
            Only [.clock, .temper, .benches, .free, .alive] s u) ∧
        (¬trust1 → j ∉ x.done2 → sl.length = (sliceElems img x.desc j).length →
          ∃ u held ch w, exec (.temperChunk t st j) s = .next u ∧
            u.step? st = some { x with done2 := x.done2 ++ [j], ready := x.ready ++ [(j, now)], held := held, changed := ch
                                       slices := x.slices ++ [(j, w)] } ∧
            w.length = sl.length ∧ (∀ a, (∀ p ∈ arrs sl (!x.cur), a < p.1 ∨ p.1 + p.2 ≤ a) → u.byteAt a = s.byteAt a) ∧
            Only [.clock, .regs, .mem, .errs, .free, .benches, .temper, .mill, .flt, .alive] s u) ∧
        ((trust1 → j ∈ x.done1) → (¬trust1 → j ∈ x.done2) → Idle (.temperChunk t st j) s)) ∧
      (∀ v, s.temper.normOut.find? (fun e => e.1 == stgNorm img st) = some (stgNorm img st, v) →
        (trust1 → x.done1.length = colChunks img x.desc →
          ∃ u : State, exec (.temperPhase2Start t st) s = .next u ∧ u.rd (NUM_TSTAT_STATE st) = 3 ∧ WordsOnly [(NUM_TSTAT_STATE st).addr] s u ∧
            u.step? st = some { x with phase2 := true, ratio := x.layers.zipIdx.map (fun l =>
              trustRatio (nump img) l.1.idx (v.getD (2 * l.2) 0) (v.getD (2 * l.2 + 1) 0)) } ∧ Only [.clock, .regs, .temper] s u) ∧
        (¬trust1 ∨ x.done1.length ≠ colChunks img x.desc → Idle (.temperPhase2Start t st) s)) ∧
      ((s.at t).nextSlice x = none → Idle (.temperSliceRelease t st) s) ∧
      (∀ j rdy, (s.at t).nextSlice x = some (j, rdy) →
        let rel := x.start + stgRelOff img st + j * stgPeriod img st
        let left : TStep := { x with released := x.released ++ [j] };
        (rel ≤ now ∧ (rdy ≤ rel ∨ rdy < now) ∧ j < colChunks img x.desc ∧ x.released.contains j = false) ∧
        (stgAg img st = 0xFFFF →
          (left.released.length < colChunks img x.desc →
            ∃ u : State, exec (.temperSliceRelease t st) s = .next u ∧ u.step? st = some left ∧
              Only [.clock, .regs, .tg, .flt, .temper] s u) ∧
          (colChunks img x.desc ≤ left.released.length → Whole s tag 16 → stgSync img st = 0xFFFF ∨ stgSync img st < 4096 →
            ∃ u : State, exec (.temperSliceRelease t st) s = .next u ∧ u.step? st = none ∧ u.rd (NUM_TSTAT_STATE st) = 0 ∧
              u.rd (NUM_TSTAT_STATUS st) = 2 ∧ u.rd64 (NUM_TSTEP_LO st) = x.step % 2 ^ 64 ∧
              u.bytesAt tag 16 = leBytes 8 x.step ++ [if x.cur then 0 else 1] ++ List.replicate 7 0 ∧ BytesOnly tag 16 s u ∧
              Only [.clock, .regs, .tg, .flt, .sec, .temper, .mem, .errs, .benches, .mill, .alive] s u))))

/-- ASSAY_COMPARE of a Bench takes its oldest comparison and counts it. With no injection armed, one that passes changes nothing else; one that
fails adds one to NUM_ASSAY_FAIL, captures the first failure's Bench, unit, kind and both values, reports a NUM fault at level 1 (2 where
ACTION says so) and leaves an ASSAY record; one under an injection of kind 9 on this Bench fails too, with bit 0 of the wide value inverted.
A Bench with no comparison under way changes nothing. -/
def Obligations.AssayJudgesSampledComparisons : Prop :=
  ∀ (t l : Nat) (s : State), l < 1024 →
    (s.temper.samples.find? (fun x => x.bench == l) = none → Idle (.assayCompare t l) s) ∧
    (∀ x, s.temper.samples.find? (fun x => x.bench == l) = some x →
      let hit := s.bit FLT_INJ_LEFT_ARMED = true ∧ 0 < s.rd FLT_INJ_LEFT_LEFT ∧ s.rd FLT_INJ_KIND = 9 ∧ s.rd FLT_INJ_INDEX = l
      let counted (u : State) : Prop := exec (.assayCompare t l) s = .next u ∧
        u.temper = { s.temper with samples := s.temper.samples.erase x } ∧ u.rd64 NUM_ASSAY_N_LO = (s.rd64 NUM_ASSAY_N_LO + 1) % 2 ^ 64
      let failed (u : State) (wide : Nat) (inj : Bool) : Prop := counted u ∧
        u.rd NUM_ASSAY_FAIL = min (s.rd NUM_ASSAY_FAIL + 1) (2 ^ 32 - 1) ∧ u.bit NUM_ASSAY_CAP_VALID = true ∧
        (s.bit NUM_ASSAY_CAP_VALID = false → u.rd NUM_ASSAY_CAP_INDEX = l ∧ u.rd NUM_ASSAY_CAP_UNIT = x.unit % 2 ^ NUM_ASSAY_CAP_UNIT.width ∧
          u.rd NUM_ASSAY_CAP_KIND = x.kind % 2 ^ NUM_ASSAY_CAP_KIND.width ∧ u.rd NUM_ASSAY_NARROW = x.narrow % 2 ^ 32 ∧
          u.rd NUM_ASSAY_WIDE = wide % 2 ^ 32) ∧
        u.flt.reports = s.flt.reports ++ [⟨.num, if s.bit NUM_ASSAY_ACTION then 2 else 1, 0, mBench l, 6, 0, max s.now t, inj, false⟩] ∧
        (∃ g ∈ u.sec.wait, g.tick = max s.now t ∧ ∃ r ∈ g.recs, r.ty = 0x11) ∧ Only [.clock, .regs, .temper, .flt, .sec] s u
      (¬hit → x.fail = false → ∃ u, counted u ∧ WordsOnly [NUM_ASSAY_N_LO.addr, NUM_ASSAY_N_HI.addr] s u ∧
        Only [.clock, .regs, .temper] s u) ∧
      (¬hit → x.fail = true → ∃ u, failed u x.wide false) ∧
      (hit → ∃ u, failed u (if x.wide % 2 = 1 then x.wide - 1 else x.wide + 1) true ∧ u.rd FLT_INJ_LEFT_LEFT = s.rd FLT_INJ_LEFT_LEFT - 1))

/-- With a Casting in force, started and not held. A whole LOOKUP or GRAD whose status is not 0 leaves ingress and is counted in STK_REFUSE, with the
first one's table and status captured; no lookup begins and no log changes. A good LOOKUP of a table without projection, a context free
and its rows read without error, leaves ingress and holds a context until its response, which is the header with status 0 and the count of its entries followed
by the converted bags; where the two lanes of its Crucible differ it is refused with status 8 instead. LOOKUP_RESPONSE sends, of a table's responses that are formed and have reached their request's arrival plus the latency, the oldest,
late past that tick; it counts it and frees the context. A good GRAD is appended to the log in memory, no other byte changes, and the log's cells are shown. With no
whole request, one of the next epoch, no context free, or no response due, nothing changes. -/
def Obligations.StockServesItsTables : Prop :=
  ∀ (t l k tab : Nat) (mism : Bool) (s : State),
    let z := s.at t
    let now := max s.now t
    let img := s.cst.img
    let serves := s.inForce = true ∧ s.bit TG_STATUS_STARTED = true ∧ s.bit DET_STAT_HELD = false
    let refused (c : Instr) (q : Request) (code : Nat) : Prop := ∃ u : State, exec c s = .next u ∧
      u.rd STK_REFUSE = min (s.rd STK_REFUSE + 1) (2 ^ 32 - 1) ∧ u.bit STK_FIRST_VALID = true ∧
      (s.bit STK_FIRST_VALID = false → u.rd STK_FIRST_TABLE = q.table % 2 ^ STK_FIRST_TABLE.width ∧
        u.rd STK_FIRST_STATUS = code % 2 ^ STK_FIRST_STATUS.width) ∧
      u.stock.lookups = s.stock.lookups ∧ u.stock.logs = s.stock.logs ∧ u.mem = s.mem
    (s.stockPacket l k 2 = none → Idle (.stockLookup t l k mism) s) ∧ (s.stockPacket l k 3 = none → Idle (.stockGrad t l k) s) ∧
    (∀ q es, s.stockPacket l k 2 = some (q, es) →
      (¬serves ∨ s.stockEarly q = true → Idle (.stockLookup t l k mism) s) ∧
      (serves → s.stockEarly q = false →
        (∀ code, z.stockStatus 0 q = code → code ≠ 0 → refused (.stockLookup t l k mism) q code) ∧
        (z.stockStatus 0 q = 0 →
          ((∀ c ∈ tabCrus img q.table, 32 ≤ s.ctxOf c) → Idle (.stockLookup t l k mism) s) ∧
          (∀ c, (tabCrus img q.table).find? (fun c => decide (s.ctxOf c < 32)) = some c → tabProj img q.table = none →
            refused (.stockLookup t l k true) q 8) ∧
          (∀ c vs fl y, (tabCrus img q.table).find? (fun c => decide (s.ctxOf c < 32)) = some c → tabProj img q.table = none →
            (z.stockTake q es).poolAll q = (.ok (vs, fl), y) →
            ∃ u : State, exec (.stockLookup t l k false) s = .next u ∧ u.stock.lookups = y.stock.lookups ++ [⟨q.table, c, q.label, q.arrived, now,
              stockHead q 0 q.entries.length (s.rd64 TG_SEAM_LO) ++ (convAll (tabO img q.table) s.policy vs).1.flatMap (packElems (tabO img q.table)),
              q.vc⟩] ∧ u.fab = y.fab ∧ u.mem = y.mem ∧ u.stock.logs = y.stock.logs)))) ∧
    let rel (x : Lookup) : Nat := x.arrived + tabLat img tab
    let may := s.stock.lookups.filter (fun x => x.table == tab && decide (rel x ≤ now) && (decide (x.ready ≤ rel x) || decide (x.ready < now)))
    (may = [] → Idle (.lookupResponse t tab) s) ∧
    (∀ x, leastBy (·.arrived) may = some x → tab < 256 →
      ∃ u : State, exec (.lookupResponse t tab) s = .next u ∧ u.stock.lookups = s.stock.lookups.erase x ∧
        u.rd64 (STK_TLOOK_LO tab) = (s.rd64 (STK_TLOOK_LO tab) + 1) % 2 ^ 64 ∧ u.stock.logs = s.stock.logs ∧ u.mem = s.mem ∧
        (rel x < now → u.bit (STK_TSTAT_LATE tab) = true) ∧ (rel x = now → u.bit (STK_TSTAT_LATE tab) = s.bit (STK_TSTAT_LATE tab))) ∧
    (∀ q es, s.stockPacket l k 3 = some (q, es) →
      (¬serves ∨ s.stockEarly q = true → Idle (.stockGrad t l k) s) ∧
      (serves → s.stockEarly q = false →
        (∀ code, z.stockStatus 1 q = code → code ≠ 0 → refused (.stockGrad t l k) q code) ∧
        (z.stockStatus 1 q = 0 → q.table < 256 →
          let a := tabLog img q.table + 256 * s.logUsed q.table
          Whole s a q.data.length →
          ∃ u : State, exec (.stockGrad t l k) s = .next u ∧ u.logOf q.table = s.logOf q.table ++ [(q.flits, (q.entries.map (·.1)).eraseDups)] ∧
            (∀ i, i ≠ q.table → u.logOf i = s.logOf i) ∧ u.bytesAt a q.data.length = q.data ∧ BytesOnly a q.data.length s u ∧
            u.rd (STK_TLOG_CELLS q.table) = (s.logUsed q.table + q.flits) % 2 ^ (STK_TLOG_CELLS 0).width ∧
            u.stock.lookups = s.stock.lookups)))

/-- Of a table while the job runs. STOCK_UPDATE_START of a due update, its requests all taken, its Benches idle and its offset reached:
refused by the guild tables it stops with status 4 and changes no memory; else, its rows read without error, the update holds the touched rows in increasing
order with their new values, its step is the step count plus one, and the phase shows 2. STOCK_COMMIT writes the tag word with COMMIT = 1, then copies up to n rows,
the phase showing 3; with its last row, memory whole, the tag word says the step with COMMIT = 0, the step count is the step, TTOUCH
the number of rows, the log is empty, and the completion waits for its tick; no byte changes but the tag word's, the rows' and their state's.
STOCK_UPDATE_RELEASE releases it at the epoch's start plus UPD_REL, once. With nothing due none of them changes anything. -/
def Obligations.StockUpdatesCommitOnce : Prop :=
  ∀ (t tab n : Nat) (s : State), tab < 256 →
    let img := s.cst.img
    let now := max s.now t
    let z := s.at t
    let m : GMaster := ⟨2, tabGroup img tab⟩
    let spans := updSpans img tab
    let due := s.jobRuns = true ∧ tab < nTab img ∧ s.updateDue tab = true ∧ (∀ u ∈ s.stock.updates, u.table ≠ tab) ∧
      s.stockOwes tab = false ∧ (∀ l ∈ s.updateBenches tab, s.benchIdle l = true) ∧ s.tg.epochStart + tabUpdOff img tab ≤ now
    (¬due → Idle (.stockUpdateStart t tab) s) ∧
    (due →
      ((s.refusedOf m .r spans).isSome = true ∨ (s.refusedOf m .w spans).isSome = true →
        ∃ u : State, exec (.stockUpdateStart t tab) s = .next u ∧ u.rd (STK_TSTAT_STATUS tab) = 4 ∧ u.rd (STK_TSTAT_PHASE tab) = 0 ∧
          u.rd SEC_DENY = min (s.rd SEC_DENY + 1) (2 ^ 32 - 1) ∧ u.rd (STK_TLOG_CELLS tab) = 0 ∧ u.stock.updates = s.stock.updates ∧
          u.mem = s.mem) ∧
      (∀ out changed y, s.refusedOf m .r spans = none → s.refusedOf m .w spans = none → Whole s (tabLog img tab) (256 * s.logUsed tab) →
        let cs := s.logContribs tab (s.bytesAt (tabLog img tab) (256 * s.logUsed tab))
        z.updateRows tab (s.rd64 (STK_TSTEP_LO tab) + 1) (s.rd (NUM_TLR (tabLayer img tab))) (s.rd (NUM_TWD (tabLayer img tab)))
          (sext 8 (s.rd (NUM_TLAYER_LSCALE (tabLayer img tab)))) cs (rowsOf cs) 0 ([], false) = (.ok (out, changed), y) →
        ∃ u : State, exec (.stockUpdateStart t tab) s = .next u ∧ u.rd (STK_TSTAT_PHASE tab) = 2 ∧ out.map (·.1) = rowsOf cs ∧
          u.stock.updates = s.stock.updates ++ [⟨tab, s.rd64 TG_SEAM_LO, s.tg.epochStart, s.rd64 (STK_TSTEP_LO tab) + 1,
            sext 8 (s.rd (NUM_TLAYER_LSCALE (tabLayer img tab))), out, 0, changed, false, none⟩])) ∧
    (∀ x, s.stock.updates.find? (fun u => u.table == tab) = some x →
      (s.jobRuns = false ∨ x.doneAt.isSome = true → Idle (.stockCommit t tab n) s) ∧
      (s.jobRuns = true → x.doneAt = none →
        let places (r : Nat × List Byte × List Byte × List Byte) : List (Nat × Nat) :=
          [(rowAt img tab r.1, r.2.1.length), (tabM img tab + r.1 * tabStrideS img tab, r.2.2.1.length)] ++
            (if tabRule img tab = 2 then [(tabV img tab + r.1 * tabStrideS img tab, r.2.2.2.length)] else [])
        let tag := (tabTag img tab, 16)
        (∀ p ∈ tag :: x.rows.flatMap places, Whole s p.1 p.2) →
        (∀ i, i < x.rows.length → Whole s (tabScratch img tab + i * scratchRow img tab) (scratchRow img tab)) →
        ∃ u : State, exec (.stockCommit t tab n) s = .next u ∧
          (∀ a, (∀ p ∈ tag :: x.rows.flatMap places, a < p.1 ∨ p.1 + p.2 ≤ a) → u.byteAt a = s.byteAt a) ∧
          Only [.clock, .regs, .mem, .errs, .alive, .stock, .temper, .flt, .sec] s u ∧
          (x.copied + n < x.rows.length → u.rd (STK_TSTAT_PHASE tab) = 3 ∧
            u.stock.updates.find? (fun u => u.table == tab) = some { x with copied := x.copied + n, commit := true }) ∧
          (x.rows.length ≤ x.copied + n → u.rd (STK_TSTAT_PHASE tab) = 0 ∧ u.rd (STK_TSTAT_STATUS tab) = 0 ∧
            u.rd64 (STK_TSTEP_LO tab) = x.step % 2 ^ 64 ∧ u.rd (STK_TTOUCH tab) = x.rows.length % 2 ^ (STK_TTOUCH 0).width ∧
            u.rd (STK_TLOG_CELLS tab) = 0 ∧ u.logOf tab = [] ∧ u.bytesAt tag.1 16 = tabTagWord x.step false ∧
            ∃ y, u.stock.updates.find? (fun u => u.table == tab) = some y ∧ y.commit = false ∧ y.doneAt = some now ∧ y.rows = x.rows)) ∧
      (x.doneAt = none → Idle (.stockUpdateRelease t tab) s) ∧
      (∀ rdy, x.doneAt = some rdy →
        let rel := x.start + tabUpdRel img tab;
        (now < rel ∨ (rel < rdy ∧ now ≤ rdy) → Idle (.stockUpdateRelease t tab) s) ∧
        (rel ≤ now → rdy ≤ rel ∨ rdy < now →
          ∃ u : State, exec (.stockUpdateRelease t tab) s = .next u ∧ u.stock.updates = s.stock.updates.filter (fun y => y.table ≠ tab) ∧
            u.stock.overT = tab :: s.stock.overT ∧ (rel < now → u.bit (STK_TSTAT_LATE tab) = true) ∧ u.mem = s.mem ∧
            Only [.clock, .regs, .tg, .flt, .stock] s u))) ∧
    (s.stock.updates.find? (fun u => u.table == tab) = none → Idle (.stockCommit t tab n) s ∧ Idle (.stockUpdateRelease t tab) s)

/-- Of a lane whose quarter is On. SIG_RISE shows SIG, whether the level is valid and no slips, starts a full sweep where adaptation is enabled,
and lets the port leave DOWN. SIG_FALL clears SIG, FOM_VALID and MATCH and ends a sweep; on an up port the lane fails: FAILED, a LINK alert,
the port down with cause 3. SWEEP starts a sweep on a lane whose port is not up; on an up port it is refused with PAT_REF and an SW note.
SWEEP_COMPLETE after 32 dwells sets the target to the code with the highest figure (ties nearest the main code, then lower), unless the host
wrote it in this tick, and FAILED where that is below FOM_FAIL; a sweep on the shadow sampler does neither without a valid level or ADAPT_EN. ADAPT_WINDOW of a valid lane, at the end of the window whose length stood at its start, shows the figure and the lowest one, moves the target one code toward a better neighbour where
enabled, re-adapts at the second low window in a row, and fails the lane at the fourth one below FOM_FAIL. PEAK_STEP moves the main code one code
toward its target, at least 1,024 ticks after the last step. PEAK_CODE_WRITE sets the target. Where its condition does not hold, an event changes
nothing. -/
def Obligations.LanesAdaptTheirCode : Prop :=
  ∀ (t k code : Nat) (lo f hi : Eye) (valid : Bool) (figs : List Eye) (path : Path) (s : State), k < 1024 →
    let x := s.lane k
    let p := k / 4
    let now := max s.now t
    let on := s.domOn (32 + k / 128) = true
    let up := s.portUp p = true
    let lanes := [4 * p, 4 * p + 1, 4 * p + 2, 4 * p + 3]
    let main := s.rd (LN_STAT_MAIN k)
    let target := s.rd (LN_PEAK_CODE k)
    let en := s.bit (LN_CTRL_ADAPT_EN k)
    let host := x.hostAt = some now
    let fig (c : Nat) : Nat := ((figs[c]?).map eyeFom).getD 0
    let fails (u : State) : Prop := u.bit (LN_STAT_FAILED k) = true ∧ PortDown p 3 s u ∧
      ⟨.link, 1, 3, mPort p, 4, 0, now, false, s.nodeQuenched⟩ ∈ u.flt.reports;
    (¬on ∨ s.bit (LN_STAT_SIG k) = true → Idle (.sigRise t k valid) s) ∧
    (on → s.bit (LN_STAT_SIG k) = false →
      ∃ u : State, exec (.sigRise t k valid) s = .next u ∧ u.bit (LN_STAT_SIG k) = true ∧ u.bit (LN_STAT_FOM_VALID k) = valid ∧
        u.rd (LN_STAT_SLIPS k) = 0 ∧ (u.lane k).hits = 0 ∧ (u.lane k).swept = false ∧
        (u.lane k).sweep = (if en then some (true, now, main) else x.sweep) ∧ (en = true → u.bit (LN_STAT_ADAPTING k) = true) ∧
        u.rd (LK_STAT_STATE p) = (if s.rd (LK_STAT_STATE p) = 0 ∧ s.bit (LK_CTRL_ADMIN p) = true ∧ s.portUse p = true ∧
          s.bit (LK_STAT_HELD p) = false ∧ (∀ n ∈ lanes, n ≠ k → s.bit (LN_STAT_SIG n) = true) ∧ s.nodeQuenched = false ∧ s.portPower p = true then 1
          else s.rd (LK_STAT_STATE p)) ∧
        WordsOnly [(LN_STAT_SIG k).addr, (LK_STAT_STATE p).addr] s u ∧ Only [.clock, .regs, .fab] s u) ∧
    (s.bit (LN_STAT_SIG k) = false → Idle (.sigFall t k) s) ∧
    (s.bit (LN_STAT_SIG k) = true →
      (¬up → ∃ u : State, exec (.sigFall t k) s = .next u ∧ u.bit (LN_STAT_SIG k) = false ∧ u.bit (LN_STAT_FOM_VALID k) = false ∧
        u.bit (LN_STAT_MATCH k) = false ∧ (u.lane k).sweep = none ∧ u.bit (LN_STAT_FAILED k) = s.bit (LN_STAT_FAILED k) ∧
        WordsOnly [(LN_STAT_SIG k).addr] s u ∧ Only [.clock, .regs, .fab] s u) ∧
      (up → ∃ u : State, exec (.sigFall t k) s = .next u ∧ u.bit (LN_STAT_SIG k) = false ∧ u.bit (LN_STAT_FOM_VALID k) = false ∧
        u.bit (LN_STAT_MATCH k) = false ∧ (u.lane k).sweep = none ∧ fails u)) ∧
    (¬(s.ready = true ∧ on) → Idle (.sweep t path k) s) ∧
    (s.ready = true → on →
      (up → ∃ u : State, exec (.sweep t path k) s = .next u ∧ u.bit (LN_STAT_PAT_REF k) = true ∧ WordsOnly [(LN_STAT_SIG k).addr] s u ∧
        u.flt.reports = s.flt.reports ++ [⟨.sw, 0, 0, path.master, 3, 0, now, false, false⟩] ∧ Only [.clock, .regs, .flt] s u) ∧
      (¬up → ∃ u : State, exec (.sweep t path k) s = .next u ∧ u.lane k = { x with sweep := some (true, now, main) } ∧
        u.bit (LN_STAT_ADAPTING k) = true ∧ WordsOnly [(LN_STAT_SIG k).addr] s u ∧ Only [.clock, .regs, .fab] s u)) ∧
    (x.sweep = none ∨ ¬on → Idle (.sweepComplete t k figs) s) ∧
    (∀ d t0 m, x.sweep = some (d, t0, m) → on →
      (now < t0 + 32 * 16384 → Idle (.sweepComplete t k figs) s) ∧
      (t0 + 32 * 16384 ≤ now →
        let still := d = false ∧ (s.bit (LN_STAT_FOM_VALID k) = false ∨ en = false)
        ∃ u c, exec (.sweepComplete t k figs) s = .next u ∧ c < 32 ∧ u.rd (LN_PEAK_CODE k) = (if still ∨ host then target else c) ∧
          (∀ e, e < 32 → fig e < fig c ∨ (fig e = fig c ∧ (codeDist c m < codeDist e m ∨ (codeDist c m = codeDist e m ∧ c ≤ e)))) ∧
          u.bit (LN_STAT_FAILED k) = (if still then s.bit (LN_STAT_FAILED k) else decide (fig c < s.rd LN_CFG_FOM_FAIL)) ∧
          u.rd (LN_STAT_MAIN k) = main ∧ u.bit (LN_STAT_ADAPTING k) = decide (main ≠ u.rd (LN_PEAK_CODE k)) ∧
          (s.rd (LK_STAT_STATE p) ≠ 4 → u.lane k = { x with sweep := none, swept := true } ∧
            u.rd (LK_STAT_STATE p) = (if s.rd (LK_STAT_STATE p) = 1 ∧ (∀ n ∈ lanes, (u.lane n).swept = true ∧ (u.lane n).sweep = none ∧
              u.bit (LN_STAT_FAILED n) = false) then 2 else s.rd (LK_STAT_STATE p)) ∧
            WordsOnly [(LN_STAT_SIG k).addr, (LN_PEAK_CODE k).addr, (LK_STAT_STATE p).addr] s u) ∧ Only [.clock, .regs, .fab] s u)) ∧
    (¬up ∨ now < x.window + 2 ^ (16 + min 10 x.win) →
      ∃ u : State, exec (.adaptWindow t k valid lo f hi) s = .next u ∧
        u.bit (LN_STAT_FOM_VALID k) = (if s.bit (LN_STAT_SIG k) then valid else s.bit (LN_STAT_FOM_VALID k)) ∧
        u.rd (LN_STAT_FOM k) = s.rd (LN_STAT_FOM k) ∧ WordsOnly [(LN_STAT_SIG k).addr] s u ∧ Only [.clock, .regs] s u) ∧
    (up → x.window + 2 ^ (16 + min 10 x.win) ≤ now → s.bit (LN_STAT_SIG k) = true →
      (valid = false → ∃ u : State, exec (.adaptWindow t k valid lo f hi) s = .next u ∧ u.bit (LN_STAT_FOM_VALID k) = false ∧
        u.rd (LN_STAT_FOM k) = s.rd (LN_STAT_FOM k) ∧ u.lane k = { x with window := now, win := s.rd LN_CFG_WIN } ∧ WordsOnly [(LN_STAT_SIG k).addr] s u ∧
        Only [.clock, .regs, .fab] s u) ∧
      (valid = true →
        let fom := eyeFom f
        let low := fom < (if s.bit (LK_CFG_FEC p) then s.rd LN_CFG_RA_HEAVY else s.rd LN_CFG_RA_LIGHT)
        let readapt := en = true ∧ low ∧ 1 ≤ x.low ∧ x.sweep = none
        let measured (u : State) : Prop := u.bit (LN_STAT_FOM_VALID k) = true ∧ u.rd (LN_STAT_FOM k) = fom ∧
          u.rd (LN_FOMLOG_MIN k) = min fom (s.rd (LN_FOMLOG_MIN k)) ∧ u.rd (LN_STAT_MAIN k) = main ∧ (u.lane k).window = now ∧
          (u.lane k).win = s.rd LN_CFG_WIN ∧
          u.rd (LN_PEAK_CODE k) = (match windowNeighbour (s.rd LN_CFG_HYST) main (eyeFom lo) fom (eyeFom hi) with
            | some n => if en = true ∧ ¬host then (if target < n then target + 1 else if n < target then target - 1 else target) else target
            | none => target) ∧
          (readapt → u.rd (LN_FOMLOG_READAPTS k) = min (s.rd (LN_FOMLOG_READAPTS k) + 1) (2 ^ 16 - 1) ∧
            (u.lane k).sweep = some (false, now, main) ∧ (u.lane k).low = 0 ∧
            (x.noted = false → ⟨.link, 0, 0, mPort p, 4, 0, now, false, false⟩ ∈ u.flt.reports)) ∧
          (¬readapt → (u.lane k).sweep = x.sweep ∧ (u.lane k).low = (if low then x.low + 1 else 0));
        (fom < s.rd LN_CFG_FOM_FAIL → 3 ≤ x.bad → ∃ u : State, exec (.adaptWindow t k valid lo f hi) s = .next u ∧ measured u ∧ fails u) ∧
        (s.rd LN_CFG_FOM_FAIL ≤ fom ∨ x.bad < 3 → ∃ u : State, exec (.adaptWindow t k valid lo f hi) s = .next u ∧ measured u ∧
          (u.lane k).bad = (if fom < s.rd LN_CFG_FOM_FAIL then x.bad + 1 else 0) ∧ u.bit (LN_STAT_FAILED k) = s.bit (LN_STAT_FAILED k) ∧
          WordsOnly [(LN_STAT_SIG k).addr, (LN_PEAK_CODE k).addr, (LN_FOMLOG_MIN k).addr] s u ∧ Only [.clock, .regs, .fab, .flt] s u))) ∧
    (let steps := on ∧ main ≠ target ∧ (∀ t0 m, x.sweep ≠ some (true, t0, m)) ∧ x.stepped + 1024 ≤ now;
      (¬steps → Idle (.peakStep t k) s) ∧
      (steps → ∃ u : State, exec (.peakStep t k) s = .next u ∧ u.rd (LN_STAT_MAIN k) = (if main < target then main + 1 else main - 1) ∧
        u.rd (LN_PEAK_CODE k) = target ∧ u.lane k = { x with stepped := now } ∧ WordsOnly [(LN_STAT_SIG k).addr] s u ∧
        Only [.clock, .regs, .fab] s u)) ∧
    (s.ready = false → Idle (.peakCodeWrite t k code) s) ∧
    (s.ready = true → ∃ u : State, exec (.peakCodeWrite t k code) s = .next u ∧ u.rd (LN_PEAK_CODE k) = code % 32 ∧
      u.rd (LN_STAT_MAIN k) = main ∧ u.lane k = { x with hostAt := some now } ∧
      WordsOnly [(LN_STAT_SIG k).addr, (LN_PEAK_CODE k).addr] s u ∧ Only [.clock, .regs, .fab] s u)

/-- SLIP on a lane whose port is not up counts a slip modulo 64 and clears MATCH; CLR clears the checker's counters; PATTERN_WRITE sets both
patterns and clears the counters, and with another RX_PAT also MATCH and LOCK; SLIP and a pattern other than 0 on an up port leave the lane unchanged, set PAT_REF and
log an SW note. ALIGN_MATCH shows MATCH when the last 16 words each equal the ALIGN word. PRBS_SYMBOL_CHECK locks after 1,024 symbols that agree, then
counts symbols, symbols in error and bits in error, and loses lock at 64 symbol errors within 1,024 symbols. TX_DIS stores an engine's mask
and takes every up port whose bit becomes set down with cause 4 and a LINK alert. ENGINE_FAULT shows FAULT and FAILED on every affected lane, and
takes each of their ports down once, with cause 3; a port that nothing holds starts to come up anew. Where its condition does not hold a command changes nothing. -/
def Obligations.LanesSearchAndCheck : Prop :=
  ∀ (t k tx rx word bits n mask : Nat) (path : Path) (s : State), k < 1024 → n < 16 →
    let x := s.lane k
    let now := max s.now t
    let on := s.domOn (32 + k / 128) = true
    let up := s.portUp (k / 4) = true
    let stat := (LN_STAT_SIG k).addr
    let counters := [(LN_SYM_LO k).addr, (LN_SYM_LO k).hi.addr, (LN_SERR k).addr, (LN_BERR k).addr]
    let cleared (u : State) : Prop := u.rd64 (LN_SYM_LO k) = 0 ∧ u.rd (LN_SERR k) = 0 ∧ u.rd (LN_BERR k) = 0
    let turnedAway (c : Instr) : Prop := ∃ u : State, exec c s = .next u ∧ u.bit (LN_STAT_PAT_REF k) = true ∧ WordsOnly [stat] s u ∧
      u.flt.reports = s.flt.reports ++ [⟨.sw, 0, 0, path.master, 3, 0, now, false, false⟩] ∧ Only [.clock, .regs, .flt] s u;
    (¬(s.ready = true ∧ on) → Idle (.slip t path k) s ∧ Idle (.clr t k) s) ∧
    (s.ready = false → Idle (.patternWrite t path k tx rx) s ∧ Idle (.txDis t n mask) s) ∧
    (s.ready = true →
      (on → up → turnedAway (.slip t path k)) ∧
      (on → ¬up → ∃ u : State, exec (.slip t path k) s = .next u ∧ u.rd (LN_STAT_SLIPS k) = (s.rd (LN_STAT_SLIPS k) + 1) % 64 ∧
        u.bit (LN_STAT_MATCH k) = false ∧ u.lane k = { x with hits := 0 } ∧ WordsOnly [stat] s u ∧ Only [.clock, .regs, .fab] s u) ∧
      (on → ∃ u : State, exec (.clr t k) s = .next u ∧ cleared u ∧ WordsOnly counters s u ∧ Only [.clock, .regs] s u) ∧
      (up → tx % 8 ≠ 0 ∨ rx % 8 ≠ 0 → turnedAway (.patternWrite t path k tx rx)) ∧
      (¬up → ∃ u : State, exec (.patternWrite t path k tx rx) s = .next u ∧ u.rd (LN_CTRL_TX_PAT k) = tx % 8 ∧ u.rd (LN_CTRL_RX_PAT k) = rx % 8 ∧
        cleared u ∧ (let new := rx % 8 ≠ s.rd (LN_CTRL_RX_PAT k)
          u.bit (LN_STAT_MATCH k) = (if new then false else s.bit (LN_STAT_MATCH k)) ∧
          u.bit (LN_STAT_LOCK k) = (if new then false else s.bit (LN_STAT_LOCK k)) ∧
          (s.rd (LK_STAT_STATE (k / 4)) ≠ 4 → u.lane k = (if new then { x with hits := 0, run := 0, syms := 0, errs := [] } else x))) ∧
        (s.rd (LK_STAT_STATE (k / 4)) ≠ 4 →
          WordsOnly ([(LN_CTRL_TX_PAT k).addr, stat] ++ counters) s u) ∧ Only [.clock, .regs, .fab] s u)) ∧
    (s.rd (LN_CTRL_RX_PAT k) ≠ 5 ∨ ¬on → Idle (.alignMatch t k word) s) ∧
    (s.rd (LN_CTRL_RX_PAT k) = 5 → on →
      let h := if word = 0xF00FCC33A55A69963C3C0FF096695AA5 then min 16 (x.hits + 1) else 0
      ∃ u : State, exec (.alignMatch t k word) s = .next u ∧ u.lane k = { x with hits := h } ∧ u.bit (LN_STAT_MATCH k) = decide (h = 16) ∧
        WordsOnly [stat] s u ∧ Only [.clock, .regs, .fab] s u) ∧
    (let pat := s.rd (LN_CTRL_RX_PAT k)
      let chk := 1 ≤ pat ∧ pat ≤ 3 ∧ on
      let recent := x.errs.filter (fun e => decide (x.syms + 1 < e + 1024)) ++ [x.syms + 1]
      let does (P : State → Prop) : Prop := Does (.prbsSymbolCheck t k bits) s (fun u => P u ∧ Only [.clock, .regs, .fab] s u);
      (¬chk → Idle (.prbsSymbolCheck t k bits) s) ∧
      (chk → s.bit (LN_STAT_LOCK k) = false →
        (bits ≠ 0 → does (fun u => u.lane k = { x with run := 0 } ∧ WordsOnly [] s u)) ∧
        (bits = 0 → x.run + 1 < 1024 → does (fun u => u.lane k = { x with run := x.run + 1 } ∧ WordsOnly [] s u)) ∧
        (bits = 0 → 1024 ≤ x.run + 1 → does (fun u => u.bit (LN_STAT_LOCK k) = true ∧
          u.lane k = { x with run := 0, syms := 0, errs := [] } ∧ WordsOnly [stat] s u))) ∧
      (chk → s.bit (LN_STAT_LOCK k) = true →
        let counted (u : State) : Prop := u.rd64 (LN_SYM_LO k) = (s.rd64 (LN_SYM_LO k) + 1) % 2 ^ 64 ∧
          u.rd (LN_SERR k) = (if bits = 0 then s.rd (LN_SERR k) else min (s.rd (LN_SERR k) + 1) (2 ^ 32 - 1)) ∧
          u.rd (LN_BERR k) = (if bits = 0 then s.rd (LN_BERR k) else min (s.rd (LN_BERR k) + bits) (2 ^ 32 - 1));
        (bits = 0 → does (fun u => counted u ∧ u.lane k = { x with syms := x.syms + 1 } ∧ WordsOnly counters s u)) ∧
        (bits ≠ 0 → recent.length < 64 → does (fun u => counted u ∧
          u.lane k = { x with syms := x.syms + 1, errs := recent } ∧ WordsOnly counters s u)) ∧
        (bits ≠ 0 → 64 ≤ recent.length → does (fun u => counted u ∧ u.bit (LN_STAT_LOCK k) = false ∧
          u.lane k = { x with run := 0, syms := 0, errs := [] } ∧ WordsOnly (stat :: counters) s u)))) ∧
    (s.ready = true →
      ∃ u : State, exec (.txDis t n mask) s = .next u ∧ u.rd (LN_ECTRL_TX_DIS n) = mask % 2 ^ 16 ∧
        (∀ i, i < 16 → mask / 2 ^ i % 2 = 1 → s.rd (LN_ECTRL_TX_DIS n) / 2 ^ i % 2 = 0 → s.portUp (16 * n + i) = true →
          u.rd (LK_STAT_STATE (16 * n + i)) = (if u.mayRise (16 * n + i) then (if u.lanesReady (16 * n + i) then 2 else 1) else 0) ∧
            u.rd (LK_STAT_CAUSE (16 * n + i)) = 4 ∧
            ⟨.link, 1, 4, mPort (16 * n + i), 5, 0, now, false, false⟩ ∈ u.flt.reports) ∧
        (∀ i, i < 256 → i / 16 ≠ n ∨ mask / 2 ^ (i % 16) % 2 = 0 ∨ s.portUp i = false →
          u.rd (LK_STAT_STATE i) = s.rd (LK_STAT_STATE i) ∧ u.rd (LK_STAT_CAUSE i) = s.rd (LK_STAT_CAUSE i)) ∧
        Only [.clock, .regs, .fab, .tg, .flt, .outs] s u) ∧
    (∃ u : State, exec (.engineFault t n mask) s = .next u ∧ u.bit (LN_ESTAT_FAULT n) = true ∧
      (∀ i, i < 64 → mask / 2 ^ i % 2 = 1 → u.bit (LN_STAT_FAILED (64 * n + i)) = true ∧
        ⟨.link, 1, 3, mPort (16 * n + i / 4), 4, 0, now, false, s.nodeQuenched⟩ ∈ u.flt.reports ∧
        (let p := 16 * n + i / 4;
          (s.rd (LK_STAT_STATE p) = 0 → u.rd (LK_STAT_STATE p) = 0) ∧
          (s.rd (LK_STAT_STATE p) ≠ 0 → u.rd (LK_STAT_STATE p) = (if u.mayRise p then 1 else 0) ∧ u.rd (LK_STAT_CAUSE p) = 3 ∧
            u.rd (LK_STAT_DOWNS p) = min (s.rd (LK_STAT_DOWNS p) + 1) (2 ^ (LK_STAT_DOWNS p).width - 1)))) ∧
      (∀ i, i < 1024 → i / 64 ≠ n ∨ mask / 2 ^ (i % 64) % 2 = 0 → u.bit (LN_STAT_FAILED i) = s.bit (LN_STAT_FAILED i)) ∧
      Only [.clock, .regs, .fab, .tg, .flt, .outs] s u)

/-- Of a port, with no injection armed. Where its transmitter sends the stream, the first unit of each 2,024 is a control position and 119 slots
of 17 units follow it; a command out of its place changes nothing. A control position (with what is due queued before it on an up port) carries
BARRIER at every second frame of a fabric port, TIME, with its departure to 1/64 tick, at every eighth of an endpoint port, and else the queued
symbol of the best priority, the oldest first, or IDLE; a LINKUP that so leaves brings a port in IDENT up that has received the partner's. An idle
slot carries up to 17 queued symbols so chosen and IDLE for the rest: FORCED_IDLE_SLOT sends one when a queued symbol is a frame old, and TX_SLOT
then, in IDENT, and when nothing may be sent. TX_SLOT else continues the packet in progress, or sends from Q1, then Q0, then the lowest start tag
(the lower queue on a tie): a good copy leaves its queue as one flit with its payload, a packet of a unit of this node with the epoch and the tick
at which it begins, and the packet stays in progress until its last flit. -/
def Obligations.PortsSendFramesOfSlots : Prop :=
  ∀ (t k sub : Nat) (s : State), k < 256 → s.bit FLT_INJ_LEFT_ARMED = false →
    let p := s.port k
    let now := max s.now t
    let z := s.at t
    let up := s.portUp k = true
    let y := if s.portUp k then z.flushDue k else z
    let at64 := 64 * now + sub % 64
    let old := (if s.bit (LK_CFG_FEC k) then 490 else 478)
    let control := s.streams k = true ∧ p.txUnit % 2024 = 0
    let slot := s.streams k = true ∧ p.txUnit % 2024 ≠ 0
    let frame := p.txUnit / 2024
    let noLink := up ∨ ∀ c ∈ p.ctrl, c.ty ≠ 19
    let idles (x : State) (n : Nat) : List Out := (ctrlTake n (x.port k).ctrl).1.map (fun c => .symbol k c.ty (symUnit c.ty c.body)) ++
      List.replicate (n - (ctrlTake n (x.port k).ctrl).1.length) (.symbol k 0 (symUnit 0 0))
    let idle (c : Instr) : Prop := ∃ u : State, exec c s = .next u ∧ u.outs = s.outs ++ .idle k :: idles s 17 ∧
      (u.port k).ctrl = (ctrlTake 17 p.ctrl).2 ∧ (u.port k).txUnit = p.txUnit + 17 ∧ (u.port k).queues = p.queues ∧ u.regs = s.regs ∧
      (∀ j, j ≠ k → u.port j = s.port j) ∧ Only [.clock, .fab, .outs] s u
    let mustIdle := ∃ c ∈ p.ctrl, c.since + old ≤ now;
    (¬control → Idle (.controlPosition t k sub) s) ∧ (¬slot → Idle (.forcedIdleSlot t k) s) ∧
    (control →
      (isEndpoint k = true → frame % 8 = 0 → ∃ u : State, exec (.controlPosition t k sub) s = .next u ∧
        u.outs = s.outs ++ [.symbol k 4 (symUnit 4 (s.rd TG_STATUS_SYNC * 2 ^ 8 + p.barSeq % 8 * 2 ^ 10 +
          (if s.bit (TG_LDLY_VALID k) then 2 ^ 13 else 0) + at64 % 2 ^ 70 * 2 ^ 14 + s.rd (TG_LDLY_DELAY k) % 2 ^ 26 * 2 ^ 84 +
          s.rd64 TG_SEAM_LO % 256 * 2 ^ 110))] ∧ (u.port k).ctrl = (y.port k).ctrl ∧ (u.port k).barSeq = (p.barSeq + 1) % 128 ∧
        (u.port k).txUnit = p.txUnit + 1 ∧ u.regs = s.regs ∧ Only [.clock, .fab, .outs] s u) ∧
      (isEndpoint k = false → frame % 2 = 0 → (∀ r, p.rxBar = some r → r.1 < 8) → ∃ (u : State) (body : Nat),
        exec (.controlPosition t k sub) s = .next u ∧ u.outs = s.outs ++ [.symbol k 1 (symUnit 1 body)] ∧
        body / 2 ^ 22 % 2 ^ 70 = at64 % 2 ^ 70 ∧ body / 2 ^ 15 % 8 = p.barSeq % 8 ∧ body / 2 ^ 8 % 4 = s.rd TG_STATUS_SYNC ∧
        (body / 2 ^ 21 % 2 = 1 ↔ p.rxBar.isSome = true) ∧
        (∀ q a, p.rxBar = some (q, a) → body / 2 ^ 18 % 8 = q ∧ body / 2 ^ 92 = (at64 - a) % 2 ^ 26) ∧ (u.port k).barSeq = (p.barSeq + 1) % 128 ∧
        (u.port k).rxBar = none ∧ (u.port k).txUnit = p.txUnit + 1 ∧ u.regs = s.regs ∧ Only [.clock, .fab, .outs] s u ∧
        ((p.barSeq + 1) % 16 ≠ 0 → (u.port k).ctrl = (y.port k).ctrl) ∧
        ((p.barSeq + 1) % 16 = 0 → (u.port k).ctrl = (y.port k).ctrl ++
          [⟨2, 2, z.phase % 2 ^ 64 * 2 ^ 8 + s.tg.tai.getD 0 % 2 ^ 48 * 2 ^ 72, now⟩])) ∧
      ((isEndpoint k = true ∧ frame % 8 ≠ 0) ∨ (isEndpoint k = false ∧ frame % 2 ≠ 0) →
        (noLink → ∃ u : State, exec (.controlPosition t k sub) s = .next u ∧ u.outs = s.outs ++ idles y 1 ∧
          (u.port k).ctrl = (ctrlTake 1 (y.port k).ctrl).2 ∧ (u.port k).barSeq = p.barSeq ∧ (u.port k).txUnit = p.txUnit + 1 ∧ u.regs = s.regs ∧
          Only [.clock, .fab, .outs] s u) ∧
        (∀ c, ctrlHead p.ctrl = some c → c.ty = 19 → s.rd (LK_STAT_STATE k) = 4 → ∃ u : State, exec (.controlPosition t k sub) s = .next u ∧
          u.outs = s.outs ++ [.symbol k 19 (symUnit 19 c.body)] ∧ (u.port k).linkTx = true ∧
          u.rd (LK_STAT_STATE k) = (if p.linkRx = true ∧ (∀ n ∈ lanesOf k, s.rd (LN_CTRL_TX_PAT n) = 0 ∧ s.rd (LN_CTRL_RX_PAT n) = 0 ∧
            s.bit (LN_STAT_FAILED n) = false) then 5 else 4) ∧ Only [.clock, .regs, .fab, .outs] s u))) ∧
    (slot → mustIdle → noLink → idle (.forcedIdleSlot t k)) ∧ (slot → ¬mustIdle → Idle (.forcedIdleSlot t k) s) ∧
    (s.rd DET_STAT_MODE ≠ 2 → s.rd SW_QAGE = 0 ∨ (∀ q c, s.headOf k q = some c → now ≤ c.arr.getD 0 + s.rd SW_QAGE) →
      (¬slot → Idle (.txSlot t k) s) ∧
      (slot → ¬up ∨ mustIdle ∨ p.txUnit < p.stompEnd → noLink → idle (.txSlot t k)) ∧
      (slot → up → ¬mustIdle → p.stompEnd ≤ p.txUnit →
        let w := z.startTags k
        let elig (q : Nat) : Prop := (w.eligible k q).isSome = true
        let tag (q : Nat) : Option Nat := (w.port k).stag.getD q none
        let sends (begins : Bool) (q : Nat) (c : Cand) : Prop := c.flit.check.fail = false → s.tmMismatch (tmTx k) c.flit.data c.flit.check = false →
          ∃ (u : State) (f : Flit), exec (.txSlot t k) s = .next u ∧ Out.flit k f.vc f.header f.data false ∈ u.outs ∧ f.data = c.flit.data ∧ f.vc = c.flit.vc ∧
            f.lbl = c.flit.lbl ∧ f.last = c.flit.last ∧ f.fidx = c.flit.fidx ∧ (c.own = false → f.epoch = c.flit.epoch ∧ f.stamp = c.flit.stamp) ∧
            (c.own = true → begins = true → f.epoch = s.rd64 TG_SEAM_LO % 256 ∧ f.stamp = now) ∧ (u.port k).txUnit = p.txUnit + 17 ∧
            ((u.port k).openTx.isSome = true ↔ f.last = false) ∧
            (∀ e, c = .uni e → (u.port k).queues.getD q [] = (p.queues.getD q []).erase e) ∧ u.mem = s.mem ∧ u.pending = s.pending
        let holds : Prop := ∃ u : State, exec (.txSlot t k) s = .next u ∧ u.outs = s.outs ++ .idle k :: idles s 17 ∧
          (u.port k).txUnit = p.txUnit + 17 ∧ (u.port k).queues = p.queues ∧ u.regs = s.regs ∧ Only [.clock, .fab, .outs] s u;
        (∀ o, p.openTx = some o →
          (∀ c, z.candOpen k o = some c → (z.hasRoom k o.q c = true → sends false o.q c) ∧ (z.hasRoom k o.q c = false → holds)) ∧
          (z.candOpen k o = none → z.moreComing k o = true → holds)) ∧
        ((∀ o, p.openTx = some o → z.candOpen k o = none ∧ z.moreComing k o = false) →
          (∀ c, w.eligible k 1 = some c → sends true 1 c) ∧
          (¬elig 1 → ∀ c, w.eligible k 0 = some c → sends true 0 c) ∧
          (¬elig 1 → ¬elig 0 → ∀ q a, 2 ≤ q → q < 8 → tag q = some a →
            (∀ j b, 2 ≤ j → j < 8 → tag j = some b → a ≤ b ∧ (a = b → q ≤ j)) → ∀ c, w.candOf k q = some c → sends true q c) ∧
          (¬elig 1 → ¬elig 0 → (∀ j, 2 ≤ j → j < 8 → tag j = none) → holds))))

/-- SLOT_RECEIVE of a slot with which only codewords end that hold no error. On a port whose stream does not run it changes nothing. A slot whose
first unit is lost, one with a bad header, and a flit on a port not up are bad: counted in LK_BAD, and RETRY is asked for once. In an idle slot each symbol is
received in turn. A one-flit label packet of a data class on an up port is, while uncast, rejected with cause 1 and counted; by a FWD entry
that admits it, with no fence and a cell granted on its die, put with the outgoing label at the end of the queue of its VC; by a TERM
entry, when it is the next of its stream, handed to the unit that the entry names. A flit of class Q or M of a port that discards is dropped. -/
def Obligations.SlotsAreJudgedAndSwitched : Prop :=
  ∀ (t k : Nat) (x : SlotRx) (s : State), k < 256 → (∀ w ∈ slotEnded x (s.heavy k), w = .clean) →
    (∀ o, (s.port k).openRx = some o → o.cells = []) → s.bit FLT_INJ_LEFT_ARMED = false →
    let c : Instr := .slotReceive t k x
    let p := s.port k
    let now := max s.now t
    let runs := 4 ≤ s.rd (LK_STAT_STATE k)
    let up := s.portUp k = true
    let bad : Prop := ∃ u : State, exec c s = .next u ∧ u.rd (LK_BAD k) = min (s.rd (LK_BAD k) + 1) (2 ^ 32 - 1) ∧ (u.port k).rxDiscard = true ∧
      (u.port k).ctrl = (if p.rxDiscard then p.ctrl else p.ctrl ++ [⟨1, 11, p.rxSeq % 256 * 2 ^ 8, now⟩]) ∧
      WordsOnly [(LK_BAD k).addr] s u ∧ Only [.clock, .regs, .fab] s u;
    (¬runs → Idle c s) ∧
    (∀ (h : List Byte) (w : CwOut) (rest : List (List Byte × CwOut)), runs → slotUnits x (s.heavy k) = (h, w) :: rest →
      let data := rest.flatMap (·.1)
      (w = .uncorrectable → bad) ∧
      (w ≠ .uncorrectable → unitField h 0 2 = 2 →
        exec c s = .next (((h, w) :: rest).foldl (fun s u => if u.2 = .uncorrectable then s.inc (LK_CSYM k) else s.rxSymbol k allTypes u.1 0)
          ((s.at t).countWords k (slotEnded x (s.heavy k))))) ∧
      (w ≠ .uncorrectable → unitField h 0 2 ≠ 2 →
        (¬up → bad) ∧ (up → parseFlit h data ⟨0, 0, false, false⟩ = none → bad) ∧
        (∀ f : Flit, up → parseFlit h data ⟨0, 0, false, false⟩ = some f → (∀ r ∈ rest, r.2 ≠ .uncorrectable ∧ r.2 ≠ .stomped) →
          (f.isData = false → p.rxDiscard = true → ∃ u : State, exec c s = .next u ∧ (u.port k).openRx = p.openRx ∧ (u.port k).rxSeq = p.rxSeq ∧
            u.fab.mgmtIn = s.fab.mgmtIn ∧ u.fab.cells = s.fab.cells ∧ u.mem = s.mem) ∧
          (f.isData = true → f.lbl = true → f.fidx = 0 → f.last = true → p.openRx = none →
            (s.nodeState = stUncast → ∃ u : State, exec c s = .next u ∧ u.rd RT_LREJ = min (s.rd RT_LREJ + 1) (2 ^ 32 - 1) ∧
              u.bit RT_FIRST_VALID = true ∧ (s.bit RT_FIRST_VALID = false → u.rd RT_FIRST_CAUSE = 1 ∧ u.rd RT_FIRST_PORT = k) ∧
              u.fab.collIn = s.fab.collIn ∧ u.fab.stockIn = s.fab.stockIn ∧ u.fab.cells = s.fab.cells ∧ u.mem = s.mem) ∧
            (∀ e : Label, s.nodeState ≠ stUncast → s.nodeState ≠ stApplying → s.quenched = false → mandEntry s.mand f.addr = some e → e.isLocal = false →
              (e.anyIn = false ∧ e.inPort = k ∨ e.anyIn = true ∧ isEndpoint k = true ∧ s.portUse k = true) → e.vcs / 2 ^ f.vc % 2 = 1 →
              (isEndpoint k = true → s.epFenced (s.epOf k) = false) →
              (∀ (j o : Nat) (sh : Bool) (i : Nat), e.act = 1 → s.fwdPort f.addr e = some (j, o) → dieOf j = dieOf k → j < 256 → (s.port j).closes f.vc = false →
                s.grant1 (dieOf j) (.queue j f.vc) 0 0 = some sh → s.findCell (dieOf j) (reqPort k) = some i →
                (s.port j).queues.length = 8 →
                ∃ (u : State) (e' : QEnt), exec c s = .next u ∧ (u.port j).queues.getD f.vc [] = (s.port j).queues.getD f.vc [] ++ [e'] ∧
                  e'.flit.data = f.data ∧ e'.flit.addr = o ∧ e'.flit.alive = f.alive ∧ e'.flit.vc = f.vc ∧ e'.cell = (dieOf j, i) ∧ e'.arr = now ∧
                  u.rd RT_LREJ = s.rd RT_LREJ ∧ u.mem = s.mem) ∧
              (∀ r : RxStream, 3 ≤ e.act → s.fab.rxs.find? (fun r => r.port == k && r.lbl && r.key == f.addr && r.vc == f.vc) = some r → r.n = f.alive →
                s.rd DET_STAT_MODE ≠ 2 → s.rd DET_STAT_MODE ≠ 3 →
                ∃ u : State, exec c s = .next u ∧ (∃ g : Flit, g.data = f.data ∧ g.alive = f.alive ∧
                  u.fab.collIn = s.fab.collIn ++ (if e.port = 1 then [(f.addr, k, g)] else []) ∧
                  u.fab.stockIn = s.fab.stockIn ++ (if e.port = 2 then [(f.addr, k, g, now)] else []) ∧
                  u.fab.mgmtIn = s.fab.mgmtIn ++ (if e.port ≠ 1 ∧ e.port ≠ 2 then [(f.addr, true, k, g)] else []))))))))

/-- Of a port. A symbol of these kinds on a port whose stream does not run, or of another kind, changes nothing; one with a bad CRC is counted in LK_CSYM.
ACK frees the held flits of its stream up to NEXT and takes its ROOM, with NAK has the stream resend what it still holds, and is relayed toward the
sender where a FWD entry sends the stream on. A stream that holds flits 2^RTO ticks without an advance resends them, and after RESEND_MAX
resends fails with a LINK fault. CREDIT sets the grant or the count freed of its VC. LACK frees the replay buffer up to NEXT. RETRY, and the
sender's timeout, queue REPLAY and resend what is held, and past REPLAY_MAX take the port down with cause 6. REPLAY with the number expected
ends the discard; the receiver's timeout asks again. -/
def Obligations.StreamsAndRepliesAreRepaired : Prop :=
  ∀ (t k n : Nat) (u : List Byte) (s : State), k < 256 →
    let p := s.port k
    let now := max s.now t
    let runs := 4 ≤ s.rd (LK_STAT_STATE k)
    let up := s.rd (LK_STAT_STATE k) = 5
    let b := symBody u
    let next := b / 2 ^ 8 % 256
    let rows : List (Nat × Instr) := [(8, .ackRx t k u), (9, .creditRx t k u), (10, .lackRx t k u), (11, .retryRx t k u), (12, .replayRx t k u)]
    let port (c : Instr) (q : Port) : Prop := ∃ w : State, exec c s = .next w ∧ w.port k = q ∧ (∀ j, j ≠ k → w.port j = s.port j) ∧ Only [.clock, .fab] s w
    let m := (next + 256 - p.txBase) % 256
    let acked : Port := if 0 < m ∧ m ≤ p.txHeld.length then { p with txHeld := p.txHeld.drop m, txBase := next % 256, replays := 0, lackAt := now
                                                                     txAgain := min p.txAgain (p.txHeld.length - m) } else p
    let again (c : Instr) (q : Port) : Prop :=
      (max 1 (s.rd LK_GCFG_REPLAY_MAX) ≤ q.replays → ∃ w : State, exec c s = .next w ∧ PortDown k 6 s w ∧
        ⟨.link, 1, 6, mPort k, 7, 0, now, false, s.nodeQuenched⟩ ∈ w.flt.reports) ∧
      (q.replays < max 1 (s.rd LK_GCFG_REPLAY_MAX) → ∃ w : State, exec c s = .next w ∧
        w.rd (LK_REPLAY k) = min (s.rd (LK_REPLAY k) + 1) (2 ^ (LK_REPLAY k).width - 1) ∧ WordsOnly [(LK_REPLAY k).addr] s w ∧
        w.port k = { q with replays := if q.txHeld = [] then 0 else q.replays + 1, txAgain := q.txHeld.length, lackAt := now
                            openTx := q.openTx.bind (fun o => if 4 ≤ o.q then none else some o)
                            ctrl := q.ctrl ++ [⟨1, 12, q.txBase % 256 * 2 ^ 8, now⟩] } ∧ Only [.clock, .regs, .fab] s w)
    let lim := max 1 (s.rd LK_GCFG_RESEND_MAX)
    let stream (w : State) (x y : TxStream) : Prop := w.fab.txs = s.fab.txs.map (fun z => if z.id = x.id then y else z)
    let wait := 2 * s.rd (TG_LDLY_DELAY k) / 64 + 2048;
    (∀ r ∈ rows, (¬runs → Idle r.2 s) ∧
      (runs → symType u = none → ∃ w : State, exec r.2 s = .next w ∧ w.rd (LK_CSYM k) = min (s.rd (LK_CSYM k) + 1) (2 ^ (LK_CSYM k).width - 1) ∧
        WordsOnly [(LK_CSYM k).addr] s w ∧ Only [.clock, .regs] s w) ∧
      (∀ ty, runs → symType u = some ty → ty ≠ r.1 → Idle r.2 s)) ∧
    (runs → symType u = some 8 → b / 2 ^ 28 % 2 = 1 →
      let vc := b / 2 ^ 29 % 8
      let id := b / 2 ^ 8 % 2 ^ 20
      let nx := b / 2 ^ 32 % 2 ^ 16
      let room := b / 2 ^ 49 % 2 ^ 16
      let nak := b / 2 ^ 48 % 2
      let noted (w : State) : Prop := w.rd (LK_NAK k) = (if nak = 1 then min (s.rd (LK_NAK k) + 1) (2 ^ (LK_NAK k).width - 1) else s.rd (LK_NAK k))
      let mine := s.fab.txs.find? (fun x => x.port == k && x.lbl && x.key == id && x.vc == vc && !x.failed);
      (∀ x, mine = some x →
        let only (w : State) : Prop := (∀ c, x.unit ≠ .copy c) → Only [.clock, .regs, .fab] s w
        let d := (nx + 2 ^ 16 - x.a) % 2 ^ 16
        let held := if d < 2 ^ 15 then x.held.filter (fun h => decide (d ≤ (h.1.alive + 2 ^ 16 - x.a) % 2 ^ 16)) else x.held
        let y : TxStream := { x with held := held, a := if d < 2 ^ 15 then nx else x.a, room := some room
                                     adv := if 0 < d ∧ d < 2 ^ 15 then now else x.adv, tries := if 0 < d ∧ d < 2 ^ 15 then 0 else x.tries
                                     again := x.again.filter (fun a => held.any (fun h => h.1.alive == a)) };
        (nak = 0 ∨ held = [] → ∃ w : State, exec (.ackRx t k u) s = .next w ∧ noted w ∧ stream w x y ∧ only w) ∧
        (nak = 1 → held ≠ [] → y.tries < lim → ∃ w : State, exec (.ackRx t k u) s = .next w ∧ noted w ∧
          stream w x { y with tries := y.tries + 1, again := held.map (fun h => h.1.alive), adv := now } ∧ only w) ∧
        (nak = 1 → held ≠ [] → lim ≤ y.tries → ∃ w : State, exec (.ackRx t k u) s = .next w ∧ noted w ∧
          stream w x { y with held := [], again := [], failed := true } ∧
          ⟨.link, if s.inForce then 2 else 1, 0, mPort k, 5, 0, now, false, s.quenched || s.portFenced k⟩ ∈ w.flt.reports)) ∧
      (mine = none → ∀ l e, s.ackEntry k id = some (l, e) → ∃ w : State, exec (.ackRx t k u) s = .next w ∧ noted w ∧
        (w.port e.inPort).ctrl = (s.port e.inPort).ctrl ++
          [⟨3, 8, l * 2 ^ 8 + 2 ^ 28 + vc * 2 ^ 29 + nx * 2 ^ 32 + nak * 2 ^ 48 + room * 2 ^ 49, now⟩] ∧ w.fab.txs = s.fab.txs ∧
        Only [.clock, .regs, .fab] s w) ∧
      (mine = none → s.ackEntry k id = none → ∃ w : State, exec (.ackRx t k u) s = .next w ∧ noted w ∧ WordsOnly [(LK_NAK k).addr] s w ∧
        Only [.clock, .regs] s w)) ∧
    (s.fab.txs.find? (fun x => x.id == n) = none → Idle (.streamResendTimeout t n) s) ∧
    (∀ x, s.fab.txs.find? (fun x => x.id == n) = some x →
      let due := x.failed = false ∧ x.held ≠ [] ∧ x.adv + 2 ^ min 24 (max 12 (s.rd LK_GCFG_RTO)) ≤ now;
      (¬due → Idle (.streamResendTimeout t n) s) ∧
      (due → x.tries < lim → ∃ w : State, exec (.streamResendTimeout t n) s = .next w ∧
        stream w x { x with tries := x.tries + 1, again := x.held.map (fun h => h.1.alive), adv := now } ∧ Only [.clock, .fab] s w) ∧
      (due → lim ≤ x.tries → ∃ w : State, exec (.streamResendTimeout t n) s = .next w ∧ stream w x { x with held := [], again := [], failed := true } ∧
        ⟨.link, if s.inForce then 2 else 1, 0, mPort x.port, 5, 0, now, false, s.quenched || s.portFenced x.port⟩ ∈ w.flt.reports)) ∧
    (runs → symType u = some 9 →
      let vc := b / 2 ^ 8 % 8
      let v := b / 2 ^ 12 % 2 ^ 16;
      (vc < 4 ∨ ¬up → Idle (.creditRx t k u) s) ∧
      (4 ≤ vc → up → port (.creditRx t k u)
        (if b / 2 ^ 11 % 2 = 1 then { p with initRx := p.initRx.set (vc - 4) v } else { p with freedRx := p.freedRx.set (vc - 4) v }))) ∧
    (runs → symType u = some 10 → port (.lackRx t k u) acked) ∧
    (runs → symType u = some 11 → (¬up → Idle (.retryRx t k u) s) ∧ (up → again (.retryRx t k u) acked)) ∧
    (runs → symType u = some 12 → (next ≠ p.rxSeq → Idle (.replayRx t k u) s) ∧
      (next = p.rxSeq → port (.replayRx t k u) { p with rxDiscard := false })) ∧
    (¬up ∨ p.txHeld = [] ∨ now < p.lackAt + wait → Idle (.replayTimeout t k true) s) ∧
    (up → p.txHeld ≠ [] → p.lackAt + wait ≤ now → again (.replayTimeout t k true) p) ∧
    (¬up ∨ p.rxDiscard = false ∨ now < p.retryAt + wait → Idle (.replayTimeout t k false) s) ∧
    (up → p.rxDiscard = true → p.retryAt + wait ≤ now →
      port (.replayTimeout t k false) { p with retryAt := now, ctrl := p.ctrl ++ [⟨1, 11, p.rxSeq % 256 * 2 ^ 8, now⟩] })

/-- Of a port. ADMIN 1 lets it come up (refused with an SW note on a quenched node), ADMIN 0 takes it down with cause 1 and holds it. ALIGNED moves
ALIGN to TRAIN. RETRAIN takes it down with cause 1 and brings it up again. DESKEW_DONE in TRAIN sends START where the transmitter is on; with START both sent and received the port is in
IDENT, its unit stream begins anew, and it queues IDENT0, IDENT1 and IDENT2. IDENT_RX shows IDENT0 in LK_PEER, begins the exchange anew and fences the port of a fenced node; a pass of the checks queues
LINKUP once, a failure takes the port down with its cause, 7 for a FEC mismatch. LINKUP received, its own being sent, brings it UP, unless a
lane has a pattern or failed, and grants its credits. LINKDOWN_RX takes it down with cause 10. BRINGUP_TIMEOUT takes a port past the limit of its state down with cause 9 and tries again. In
any other state none of them changes anything. -/
def Obligations.PortsComeUpInOrder : Prop :=
  ∀ (t k : Nat) (path : Path) (v : Bool) (u : List Byte) (s : State), k < 256 →
    let p := s.port k
    let now := max s.now t
    let state := s.rd (LK_STAT_STATE k)
    let on := s.domOn (32 + k / 32) = true
    let lanes := [4 * k, 4 * k + 1, 4 * k + 2, 4 * k + 3]
    let b := symBody u
    let linkQ := p.linkQ = true
    let rise := if s.portUse k = true ∧ (∀ n ∈ lanes, s.bit (LN_STAT_SIG n) = true) ∧ s.nodeQuenched = false ∧ s.portPower k = true then
      (if ∀ n ∈ lanes, (s.lane n).swept = true ∧ (s.lane n).sweep = none ∧ s.bit (LN_STAT_FAILED n) = false then 2 else 1) else 0
    let admin := s.bit (LK_CTRL_ADMIN k)
    let downs (w : State) (cause : Nat) : Prop := w.rd (LK_STAT_CAUSE k) = cause ∧
      w.rd (LK_STAT_DOWNS k) = min (s.rd (LK_STAT_DOWNS k) + 1) (2 ^ 16 - 1) ∧ w.bit (TG_LDLY_VALID k) = false ∧
      w.rd (LK_STAT_STATE k) = (if admin then rise else 0) ∧ w.mem = s.mem
    let idents (since : Nat) : List CtrlSym := [⟨2, 16, s.ident0 k, since⟩, ⟨2, 17, s.sysId 0 * 2 ^ 8, since⟩, ⟨2, 18, s.sysId 1 * 2 ^ 8, since⟩]
    let toIdent (c : Instr) (outs : List Out) : Prop := ∃ w : State, exec c s = .next w ∧ w.rd (LK_STAT_STATE k) = 4 ∧ (w.port k).frame = 0 ∧
      (w.port k).txUnit = 0 ∧ (w.port k).ctrl = p.ctrl ++ idents now ∧ w.outs = s.outs ++ outs ∧ WordsOnly [(LK_STAT_STATE k).addr] s w ∧
      Only [.clock, .regs, .fab, .outs] s w
    let quiet := ∀ n ∈ lanes, s.rd (LN_CTRL_TX_PAT n) = 0 ∧ s.rd (LN_CTRL_RX_PAT n) = 0 ∧ s.bit (LN_STAT_FAILED n) = false
    let credits : List CtrlSym := [(4, s.rd (LK_CREDIT_INITQ k)), (5, s.rd (LK_CREDIT_INITQ k)), (6, s.rd (LK_CREDIT_INITM k)),
      (7, s.rd (LK_CREDIT_INITM k))].map (fun e => ⟨4, 9, e.1 * 2 ^ 8 + 2 ^ 11 + e.2 % 2 ^ 16 * 2 ^ 12, now⟩)
    let isUp (w : State) : Prop := w.rd (LK_STAT_STATE k) = 5 ∧ w.bit (SW_PSTAT_KEPT k) = false ∧ (∀ n ∈ lanes, w.rd (LN_FOMLOG_MIN n) = 255) ∧
      ∃ l, (w.port k).ctrl = l ++ credits;
    (s.ready = false → Idle (.admin t path k v) s) ∧
    (s.ready = true →
      (v = true → s.nodeQuenched = true → ∃ w : State, exec (.admin t path k v) s = .next w ∧ w.bit (LK_CTRL_ADMIN k) = admin ∧
        w.bit CST_ERR_WRITE_REF = true ∧ WordsOnly [CST_ERR_WRITE_REF.addr] s w ∧
        w.flt.reports = s.flt.reports ++ [⟨.sw, 0, 0, path.master, 3, 0, now, false, false⟩] ∧ Only [.clock, .regs, .flt] s w) ∧
      (v = true → s.nodeQuenched = false → ∃ w : State, exec (.admin t path k v) s = .next w ∧ w.bit (LK_CTRL_ADMIN k) = true ∧
        w.bit (LK_STAT_HELD k) = !s.portUse k ∧ w.rd (LK_STAT_STATE k) = (if state = 0 then rise else state) ∧
        WordsOnly [(LK_CTRL_ADMIN k).addr, (LK_STAT_STATE k).addr] s w ∧ Only [.clock, .regs, .fab] s w) ∧
      (v = false → ∃ w : State, exec (.admin t path k v) s = .next w ∧ w.bit (LK_CTRL_ADMIN k) = false ∧ w.bit (LK_STAT_HELD k) = true ∧
        w.rd (LK_STAT_STATE k) = 0 ∧ (state ≠ 0 → PortDown k 1 (s.wrBit (LK_CTRL_ADMIN k) false) w) ∧
        (state = 0 → WordsOnly [(LK_CTRL_ADMIN k).addr, (LK_STAT_STATE k).addr] s w ∧ Only [.clock, .regs] s w))) ∧
    (¬(s.ready = true ∧ on) → Idle (.aligned t k) s ∧ Idle (.retrain t k) s) ∧
    (s.ready = true → on →
      (state ≠ 2 → Idle (.aligned t k) s) ∧
      (state = 2 → ∃ w : State, exec (.aligned t k) s = .next w ∧ w.rd (LK_STAT_STATE k) = 3 ∧ (w.port k).since = now ∧
        WordsOnly [(LK_STAT_STATE k).addr] s w ∧ Only [.clock, .regs, .fab] s w) ∧
      (state ≠ 0 → ∃ w : State, exec (.retrain t k) s = .next w ∧ downs w 1) ∧
      (state = 0 → ∃ w : State, exec (.retrain t k) s = .next w ∧ w.rd (LK_STAT_STATE k) = (if admin ∧ s.bit (LK_STAT_HELD k) = false then rise else 0) ∧
        WordsOnly [(LK_STAT_STATE k).addr] s w ∧ Only [.clock, .regs, .fab] s w)) ∧
    (state ≠ 3 → Idle (.deskewDone t k) s ∧ Idle (.startWordRx t k) s) ∧
    (state = 3 →
      (s.txOn k = false → Idle (.deskewDone t k) s) ∧
      (s.txOn k = true → p.startRx = true → toIdent (.deskewDone t k) [.word k 2]) ∧ (p.startTx = true → toIdent (.startWordRx t k) []) ∧
      (s.txOn k = true → p.startRx = false → ∃ w : State, exec (.deskewDone t k) s = .next w ∧ w.outs = s.outs ++ [.word k 2] ∧ w.port k = { p with startTx := true } ∧
        Only [.clock, .fab, .outs] s w) ∧
      (p.startTx = false → ∃ w : State, exec (.startWordRx t k) s = .next w ∧ w.port k = { p with startRx := true } ∧ Only [.clock, .fab] s w)) ∧
    (∀ c ∈ ([.identRx t k u, .linkup t k u, .linkdownRx t k u] : List Instr), (state < 4 → Idle c s) ∧
      (4 ≤ state → symType u = none → ∃ w : State, exec c s = .next w ∧ WordsOnly [(LK_CSYM k).addr] s w ∧
        w.rd (LK_CSYM k) = min (s.rd (LK_CSYM k) + 1) (2 ^ (LK_CSYM k).width - 1) ∧ Only [.clock, .regs] s w)) ∧
    (4 ≤ state → symType u = some 16 →
      let f (lo n : Nat) := b / 2 ^ lo % 2 ^ n
      let q : Port := { p with ident := ⟨some b, none, none⟩ }
      let x := (s.at t).setPort k q
      let shown (w : State) : Prop := w.rd (LK_PEER_ROLE k) = f 8 1 ∧ w.rd (LK_PEER_DIR k) = f 9 3 ∧ w.rd (LK_PEER_OFFSET k) = f 12 4 ∧
        w.rd (LK_PEER_COORD k) = f 16 12 ∧ w.rd (LK_PEER_WIDTH k) = f 45 3 ∧ w.rd (LK_PEER_PIDX k) = f 48 2 ∧ w.rd (LK_PEER_PVER k) = f 54 7 ∧
        w.rd (LK_STAT_PCAST k) = f 62 1 ∧ w.rd (LK_WIN_EWIN k) = (if isEndpoint k then f 50 4 else 0)
      let fences := isEndpoint k = false ∧ f 8 1 = 0 ∧ s.listFenced 2 (f 16 12) = true
      ∃ w : State, exec (.identRx t k u) s = .next w ∧ shown w ∧
        (f 44 1 ≠ s.rd (LK_CFG_FEC k) → x.identCheck k = some 7) ∧
        (x.identCheck k = some 7 → PortDown k 7 s w ∧ ⟨.link, 1, 7, mPort k, 4, 0, now, false, false⟩ ∈ w.flt.reports) ∧
        (x.identCheck k = some 8 → PortDown k 8 s w ∧ ⟨.link, 1, 8, mPort k, 7, 0, now, false, s.nodeQuenched⟩ ∈ w.flt.reports) ∧
        (x.identCheck k = none ∨ x.identCheck k = some 0 → w.rd (LK_STAT_STATE k) = state ∧ (fences → w.portFenced k = true)) ∧
        (¬fences → x.identCheck k = none ∨ (x.identCheck k = some 0 ∧ (state = 5 ∨ linkQ)) → w.port k = q ∧ Only [.clock, .regs, .fab] s w) ∧
        (¬fences → x.identCheck k = some 0 → state = 4 → ¬linkQ →
          w.port k = { q with linkQ := true, ctrl := p.ctrl ++ [⟨2, 19, 0, now⟩] } ∧ Only [.clock, .regs, .fab] s w)) ∧
    (∀ ty, 4 ≤ state → symType u = some ty → ty = 17 ∨ ty = 18 →
      let q : Port := { p with ident := if ty = 17 then { p.ident with id1 := some b } else { p.ident with id2 := some b } }
      let x := (s.at t).setPort k q
      ∃ w : State, exec (.identRx t k u) s = .next w ∧
        (∀ c, x.identCheck k = some c → c ≠ 0 → PortDown k c s w) ∧
        (x.identCheck k = none ∨ (x.identCheck k = some 0 ∧ (state = 5 ∨ linkQ)) → w.port k = q ∧ Only [.clock, .fab] s w) ∧
        (x.identCheck k = some 0 → state = 4 → ¬linkQ →
          w.port k = { q with linkQ := true, ctrl := p.ctrl ++ [⟨2, 19, 0, now⟩] } ∧ Only [.clock, .fab] s w)) ∧
    (4 ≤ state → symType u = some 19 →
      (state ≠ 4 → Idle (.linkup t k u) s) ∧
      (state = 4 → p.linkTx = true → quiet → ∃ w : State, exec (.linkup t k u) s = .next w ∧ isUp w ∧ Only [.clock, .regs, .fab] s w) ∧
      (state = 4 → ¬(p.linkTx = true ∧ quiet) → ∃ w : State, exec (.linkup t k u) s = .next w ∧ w.port k = { p with linkRx := true } ∧
        Only [.clock, .fab] s w)) ∧
    (4 ≤ state → symType u = some 20 → ∃ w : State, exec (.linkdownRx t k u) s = .next w ∧ PortDown k 10 s w ∧
      ⟨.link, 0, 10, mPort k, 7, 0, now, false, s.nodeQuenched⟩ ∈ w.flt.reports) ∧
    (∀ n, (state, n) ∈ [(1, 640000), (3, 80000), (4, 1600000)] →
      (now ≤ p.since + n → Idle (.bringupTimeout t k) s) ∧
      (p.since + n < now → ∃ w : State, exec (.bringupTimeout t k) s = .next w ∧ downs w 9 ∧
        ⟨.link, 1, 9, mPort k, 7, 0, now, false, s.nodeQuenched⟩ ∈ w.flt.reports)) ∧
    (state ∉ [1, 3, 4] → Idle (.bringupTimeout t k) s)

/-- Of a die. AUDITOR_SWEEP_START, when the auditor runs and its gap has passed, clears the die's CHG bits and marks; AUDITOR_MARK_DONE judges by the lists that name each cell: one
that changed, or changes before its turn, is left alone, a free cell that is named or owned is taken with a MEM fault at level 2, one that no list names is freed and one with too
many owners cut down, each counted in BP_LEAK, one with too few gets its count, with a MEM alert, and the first finding is captured; AUDITOR_JUDGE_DONE counts the sweep and begins the gap. FENCE_ADD fences a
port (its copies are dropped, the fence hallmarked), a local endpoint, or lists a remote endpoint or a node (FULL where no entry is free), and the collectives that depend on it stop. FENCE_DEL is
refused as sealed unless the node is uncast, and then removes exactly that fence. AUTO_FENCE fences a port of a cast node that went down for
a cause of R415 and stayed down for DELAY. Where nothing is due they change nothing. -/
def Obligations.AuditorAndFencesAct : Prop :=
  ∀ (t d k kind arg : Nat) (moved : List Nat) (path : Path) (s : State), d < 2 → k < 256 → kind < 4 → arg < 2 ^ 20 →
    let now := max s.now t
    let st := s.rd (BP_AUD_STATE d)
    let reported (u : State) (level code : Nat) : Prop := ∃ r ∈ u.flt.reports, r.cls = .mem ∧ r.level = level ∧ r.code = code ∧ r.tick = now
    let owners (v : State) (i : Nat) : Nat := ((v.cellAt (d, i)).map (fun c => c.holds.length + c.extra)).getD 0
    let refs (i : Nat) : Nat := (s.cellRefs.filter (fun e => e.1 == (d, i))).length
    let taken (i : Nat) : Bool := s.fab.leaf0.contains (d, i)
    let cause (i : Nat) : Nat := if s.fab.chg.contains (d, i) || moved.contains i then 0
      else if taken i = false then (if refs i + owners s i = 0 then 0 else 2)
      else if refs i = 0 ∨ refs i < owners s i then 4
      else if owners s i < refs i then 3 else 0
    let leaks := ((s.judged d).filter (fun i => cause i == 4)).length
    let hallmarked (u : State) : Prop := ∃ g ∈ u.sec.wait, g.tick = now ∧ ∃ r ∈ g.recs, r.ty = 0x10
    let starts := s.scaleLarge = true ∧ s.bit SW_AUD_EN = true ∧
      (st = 0 ∨ (st = 1 ∧ s.fab.audEnd.getD d 0 + 2 ^ min 30 (max 16 (s.rd SW_AUD_GAP)) ≤ now));
    (¬starts → Idle (.auditorSweepStart t d) s) ∧
    (starts → ∃ u : State, exec (.auditorSweepStart t d) s = .next u ∧ u.rd (BP_AUD_STATE d) = 2 ∧ (∀ c ∈ u.fab.chg, c.1 ≠ d) ∧
      WordsOnly [(BP_AUD_STATE d).addr] s u ∧ Only [.clock, .regs, .fab] s u) ∧
    (st ≠ 2 → Idle (.auditorMarkDone t d moved) s) ∧
    (st = 2 → ∃ u : State, exec (.auditorMarkDone t d moved) s = .next u ∧ u.rd (BP_AUD_STATE d) = 3 ∧
      u.rd (BP_LEAK d) = min (s.rd (BP_LEAK d) + leaks) (2 ^ 32 - 1) ∧ (0 < leaks → d ∉ s.fab.leakNoted → reported u 0 4) ∧
      (s.bit (BP_FIRST_VALID d) = false → ∀ i, (s.judged d).find? (fun i => cause i != 0) = some i → u.bit (BP_FIRST_VALID d) = true ∧
        u.rd (BP_FIRST_CAUSE d) = cause i ∧ u.rd (BP_FIRST_CELL d) = i % 2 ^ 20) ∧
      (s.fab.leaf0.Nodup → ∀ i ∈ s.judged d,
        (cause i = 0 → u.cellAt (d, i) = s.cellAt (d, i) ∧ u.fab.leaf0.contains (d, i) = taken i) ∧
        (cause i = 2 → u.fab.leaf0.contains (d, i) = true ∧ reported u 2 2 ∧ u.cellAt (d, i) = s.cellAt (d, i)) ∧
        (cause i = 4 → refs i = 0 → u.cellAt (d, i) = none ∧ u.fab.leaf0.contains (d, i) = false) ∧
        (cause i = 4 → 0 < refs i → owners u i = refs i) ∧
        (cause i = 3 → reported u 1 3 ∧ ((s.cellAt (d, i)).isSome = true → owners u i = refs i))) ∧
      (∀ i, i ∉ s.judged d → u.cellAt (d, i) = s.cellAt (d, i)) ∧ Only [.clock, .regs, .fab, .flt] s u) ∧
    (st ≠ 3 → Idle (.auditorJudgeDone t d) s) ∧
    (st = 3 → ∃ u : State, exec (.auditorJudgeDone t d) s = .next u ∧ u.rd (BP_AUD_STATE d) = 1 ∧ u.fab = { s.fab with audEnd := s.fab.audEnd.set d now } ∧
      u.rd (BP_AUD_SWEEPS d) = min (s.rd (BP_AUD_SWEEPS d) + 1) (2 ^ 16 - 1) ∧ WordsOnly [(BP_AUD_STATE d).addr] s u ∧
      Only [.clock, .regs, .fab] s u) ∧
    (s.ready = false → Idle (.fenceAdd t kind arg) s ∧ Idle (.fenceDel t path kind arg) s) ∧
    (s.ready = true →
      let p := arg % 256
      let listed := s.listFenced kind (if kind = 2 then arg % 4096 else arg)
      let room := (List.range 256).any (fun i => !s.bit (RT_FLIST_VALID i))
      let stops (u : State) : Prop := ∀ i ∈ u.coll.insts, ∀ f ∈ u.fences, i.dependsOn s.cst.img f.1 f.2 = true → i.stopped = true;
      (kind = 0 → ∃ u : State, exec (.fenceAdd t kind arg) s = .next u ∧ stops u ∧ Only [.clock, .coll] s u) ∧
      (kind = 3 → ∃ u : State, exec (.fenceAdd t kind arg) s = .next u ∧ u.portFenced p = true ∧ stops u ∧
        (s.inForce = false → ∀ j, j < 256 → j ≠ p → u.portFenced j = s.portFenced j) ∧ (s.portFenced p = false → hallmarked u ∧ (u.port p).queues = List.replicate 8 [])) ∧
      (kind = 1 → addrCode arg = s.selfCode → ∃ u : State, exec (.fenceAdd t kind arg) s = .next u ∧ u.epFenced (arg / 4096 % 128) = true ∧
        stops u) ∧
      (kind = 2 ∨ (kind = 1 ∧ addrCode arg ≠ s.selfCode) → ∃ u : State, exec (.fenceAdd t kind arg) s = .next u ∧ stops u ∧
        (kind = 2 → ∀ j ∈ fabricPorts, s.rd (LK_PEER_PVER j) ≠ 0 → s.rd (LK_PEER_COORD j) = arg % 4096 → u.portFenced j = true) ∧
        (listed = true ∨ room = true → u.listFenced kind (if kind = 2 then arg % 4096 else arg) = true) ∧
        (listed = false → room = true → u.rd RT_FSTAT_COUNT = min (s.rd RT_FSTAT_COUNT + 1) (2 ^ 9 - 1) ∧ hallmarked u) ∧
        (listed = false → room = false → u.bit RT_FSTAT_FULL = true)) ∧
      (s.nodeState ≠ stUncast → ∃ u : State, exec (.fenceDel t path kind arg) s = .next u ∧ u.bit CST_ERR_WRITE_REF = true ∧ u.rd CST_ERR_CODE = ceSealed ∧
        WordsOnly [CST_ERR_WRITE_REF.addr] s u ∧ u.flt.reports = s.flt.reports ++ [⟨.sw, 0, ceSealed, path.master, 3, 0, now, false, false⟩] ∧
        Only [.clock, .regs, .flt] s u) ∧
      (s.nodeState = stUncast →
        let entry := (List.range 256).find? (fun i => s.bit (RT_FLIST_VALID i) && s.rd (RT_FLIST_KIND i) == kind && s.rd (RT_FLIST_ARG i) == (if kind = 2 then arg % 4096 else arg))
        let remote := kind = 2 ∨ (kind = 1 ∧ addrCode arg ≠ s.selfCode)
        let n := arg / 4096 % 128;
        (kind = 0 ∨ (kind = 3 ∧ s.portFenced p = false) ∨ (kind = 1 ∧ ¬remote ∧ s.epFenced n = false) ∨ (remote ∧ entry = none) →
          Idle (.fenceDel t path kind arg) s) ∧
        (kind = 3 → s.portFenced p = true → ∃ u : State, exec (.fenceDel t path kind arg) s = .next u ∧ u.portFenced p = false ∧
          (∀ j, j < 256 → j ≠ p → u.portFenced j = s.portFenced j) ∧ WordsOnly [(RT_PFENCE (p / 32)).addr] s u ∧ hallmarked u ∧
          Only [.clock, .regs, .sec] s u) ∧
        (kind = 1 → ¬remote → s.epFenced n = true → ∃ u : State, exec (.fenceDel t path kind arg) s = .next u ∧ u.epFenced n = false ∧
          WordsOnly [(RT_EFENCE (n / 32)).addr] s u ∧ hallmarked u ∧ Only [.clock, .regs, .sec] s u) ∧
        (∀ i, remote → entry = some i → ∃ u : State, exec (.fenceDel t path kind arg) s = .next u ∧ u.word (RT_FLIST_VALID i).addr = 0 ∧
          u.rd RT_FSTAT_COUNT = s.rd RT_FSTAT_COUNT - 1 ∧ WordsOnly [(RT_FLIST_VALID i).addr, RT_FSTAT_COUNT.addr] s u ∧ hallmarked u ∧
          Only [.clock, .regs, .sec] s u))) ∧
    (let due := s.inForce = true ∧ s.portUp k = false ∧ s.rd (LK_STAT_CAUSE k) ∈ [3, 4, 5, 6, 9, 11] ∧ s.portFenced k = false ∧
        ∃ a, (s.port k).downAt = some a ∧ a + s.rd RT_FCTL_DELAY ≤ now;
      (¬due → Idle (.autoFence t k) s) ∧
      (due → ∃ u : State, exec (.autoFence t k) s = .next u ∧ u.portFenced k = true ∧ hallmarked u ∧ (∀ j, s.portFenced j = true → j < 256 → u.portFenced j = true)))

/-- Of a port and a queue. GATE_ENTRY moves the time only: the gates at a tick are those of the entry at its offset into the cycle of the list in
force. GATE_LIST_BEGIN puts the next list in force at its start, shows it, and hallmarks it. GATE_COMMIT is refused with a code where the
shadow list breaks a rule, and during an apply; uncast it takes effect at once (LEN 0 opens every gate, a list whose base is too near is
reported late), though no list runs there; else it waits for the seam, and a full list refuses it. SHAPER_REFILL at a multiple of 2^PER applies the settings and adds tokens up
to BURST. QUEUE_SAMPLE at a multiple of 2^SP shows each queue's depth and the greatest one. Where nothing is due they change nothing. -/
def Obligations.GatesShapersAndSamples : Prop :=
  ∀ (t k q : Nat) (path : Path) (s : State), k < 256 → q < 8 →
    let p := s.port k
    let now := max s.now t
    let on := s.ready = true ∧ s.domOn (40 + k / 128) = true
    let stat := (GT_GSTAT_PEND k).addr
    let len := s.rd (GT_GCTL_LEN k)
    let cycle := if s.rd (GT_GCYCLE k) = 0 then 2 ^ 32 else s.rd (GT_GCYCLE k)
    let base := s.rd64 (GT_GBASE_LO k)
    let code := s.gateCheck k len cycle (s.shadowList k)
    let x := p.shaper q
    let turnedAway (c : Nat) : Prop := ∃ u : State, exec (.gateCommit t path k) s = .next u ∧ u.bit CST_ERR_WRITE_REF = true ∧ u.rd CST_ERR_CODE = c ∧
      WordsOnly [CST_ERR_WRITE_REF.addr] s u ∧ u.flt.reports = s.flt.reports ++ [⟨.sw, 0, c, path.master, 3, 0, now, false, false⟩] ∧
      Only [.clock, .regs, .flt] s u;
    (∃ u : State, exec (.gateEntry t) s = .next u ∧ u.now = now ∧ Only [.clock] s u ∧
      (∀ g, p.glist = some g → p.gnext = none → g.start ≤ now → 0 < g.cycle →
        (u.port k).gatesAt u.now = entsAt g.ents ((now - g.start) % g.cycle))) ∧
    (p.gnext = none → Idle (.gateListBegin t k) s) ∧
    (∀ g, p.gnext = some g → (now < g.start → Idle (.gateListBegin t k) s) ∧
      (g.start ≤ now → ∃ u : State, exec (.gateListBegin t k) s = .next u ∧ u.port k = { p with glist := some g, gnext := none } ∧
        u.bit (GT_GSTAT_ACTIVE k) = true ∧ u.rd (GT_GSTAT_ALEN k) = g.ents.length % 2 ^ 11 ∧ u.rd64 (GT_GSTART_LO k) = g.start % 2 ^ 64 ∧
        u.rd (GT_ACYCLE k) = g.cycle % 2 ^ 32 ∧ (∃ h ∈ u.sec.wait, h.tick = now ∧ ∃ r ∈ h.recs, r.ty = 0xF) ∧
        WordsOnly [stat, (GT_GSTART_LO k).addr, (GT_GSTART_LO k).hi.addr, (GT_ACYCLE k).addr] s u ∧ Only [.clock, .regs, .fab, .sec] s u)) ∧
    (¬on → Idle (.gateCommit t path k) s) ∧
    (on → s.nodeState = stApplying → turnedAway ceBusy) ∧
    (on → s.nodeState ≠ stApplying →
      (code ≠ 0 → ∃ u : State, exec (.gateCommit t path k) s = .next u ∧ u.bit (GT_GSTAT_REFUSED k) = true ∧ u.rd (GT_GSTAT_CODE k) = code ∧
        u.bit CST_ERR_WRITE_REF = true ∧ WordsOnly [stat, CST_ERR_WRITE_REF.addr] s u ∧ u.fab = s.fab) ∧
      (code = 0 → s.nodeState = stUncast → len = 0 → ∃ u : State, exec (.gateCommit t path k) s = .next u ∧
        u.port k = { p with glist := none, gnext := none } ∧ u.bit (GT_GSTAT_ACTIVE k) = false ∧ u.rd (GT_GSTAT_ALEN k) = 0 ∧
        WordsOnly [stat, (GT_ACYCLE k).addr] s u ∧ Only [.clock, .regs, .fab] s u) ∧
      (code = 0 → s.nodeState = stUncast → len ≠ 0 →
        let soon := now + max 128 (s.rd GT_LEAD)
        ∃ u : State, exec (.gateCommit t path k) s = .next u ∧ u.port k = { p with gnext := none } ∧
          (soon ≤ base → WordsOnly [stat] s u ∧ u.flt = s.flt) ∧
          (base < soon → u.bit (GT_GSTAT_LATEBASE k) = true ∧ u.rd GT_LATE = min (s.rd GT_LATE + 1) (2 ^ 32 - 1) ∧
            (s.bit GT_FIRST_VALID = false → u.rd GT_FIRST_CAUSE = 1 ∧ u.rd GT_FIRST_PORT = k ∧
              u.flt.reports = s.flt.reports ++ [⟨.sched, 0, 1, mPort k, 7, 0, now, false, false⟩]))) ∧
      (code = 0 → s.nodeState ≠ stUncast →
        (s.cst.spend.length < 4096 ∨ (∃ w ∈ s.cst.spend, w.addr = (GT_GCTL_COMMIT k).addr) → ∃ u : State, exec (.gateCommit t path k) s = .next u ∧
          u.bit (GT_GSTAT_PEND k) = true ∧ (∃ w ∈ u.cst.spend, w.addr = (GT_GCTL_COMMIT k).addr ∧ w.tick = now) ∧ u.fab = s.fab ∧
          WordsOnly [stat] s u ∧ Only [.clock, .regs, .cst] s u) ∧
        (4096 ≤ s.cst.spend.length → (∀ w ∈ s.cst.spend, w.addr ≠ (GT_GCTL_COMMIT k).addr) → turnedAway ceSfull))) ∧
    (now % 2 ^ x.per ≠ 0 → Idle (.shaperRefill t k q) s) ∧
    (now % 2 ^ x.per = 0 →
      let add := s.rd (GT_SHP_CFG_ADD k q)
      let en := s.bit (GT_SHP_CFG_EN k q)
      let burst := max 272 (s.rd (GT_SHP_BURST_BURST k q))
      let y : Shaper := ⟨add, min 20 (max 4 (s.rd (GT_SHP_CFG_PER k q))), en, burst, if en && x.en then min (min x.tok burst + add) burst else burst⟩
      ∃ u : State, exec (.shaperRefill t k q) s = .next u ∧ Only [.clock, .fab] s u ∧ u.port k = { p with shapers := p.shapers.set q y }) ∧
    (let samples := s.bit (GT_SAMP_EN k) = true ∧ now % 2 ^ min 30 (max 10 (s.rd (GT_SAMP_SP k))) = 0;
      (¬samples → Idle (.queueSample t k) s) ∧
      (samples → ∃ u : State, exec (.queueSample t k) s = .next u ∧ u.rd (GT_SDLAST k q) = s.depth k q % 2 ^ 21 ∧
        u.rd (GT_SDMAX k q) = max (s.depth k q) (s.rd (GT_SDMAX k q)) % 2 ^ 21 ∧
        u.port k = { p with sample := List.replicate 8 (some now) } ∧ Only [.clock, .regs, .fab] s u))

/-- BURNISH_WORD of a word whose tier is enabled, whose memory is On and whose stack no repair holds shows its place: one without damage is left;
one with at most two bad symbols is counted and written back whole, its data unchanged; one that gives no data becomes zeros, with a MEM note, where
nothing of value can be (a free pooled cell, a region that does not exist), and else stays poisoned with a MEM alert (of a word whose group counts its
accesses as its controller does, no injection armed). BURNISH_PASS_END of an
enabled tier whose dies are On counts the pass, notes one that took too long, and begins the next with the period then set. BURNISH_CTRL writes the
control register and hallmarks a change that clears an enable or sets a period above its default. Otherwise they change nothing. -/
def Obligations.BurnishReadsAndRepairsWords : Prop :=
  ∀ (t a v : Nat) (hbm : Bool) (path : Path) (s : State),
    let now := max s.now t
    let w := wordBase a
    let n := wordSize w
    let may := (targetOf a).isSome = true ∧ s.burnishMay w = true
    let shown (u : State) : Prop := if w < hbmEnd then u.rd MEM_BSTAT_POS_H = w % stackSize * 256 / stackSize
      else u.rd MEM_BSTAT_POS_I = (w - ingotBase) % 2 ^ 28 / 2 ^ 20
    let idle := (match s.pooledCell w with | some c => s.cellFree c | none => false) || s.absentRegion w
    let read (P : State → Prop) : Prop := Does (.burnishWord t a) s (fun u => shown u ∧ P u ∧ (∀ b, (b < w ∨ w + n ≤ b) → u.byteAt b = s.byteAt b) ∧
      (∀ x, x ≠ w → u.errAt x = s.errAt x) ∧ Only [.clock, .regs, .mem, .errs, .alive, .free, .flt] s u)
    let even := s.bit FLT_INJ_LEFT_ARMED = false ∧
      (w < hbmEnd → ∀ c, c < 5 → aliveOf s.msys.seq (5 * groupOf w + c) = aliveOf s.msys.alive (5 * groupOf w + c))
    let lo (f g : Fld) : Fld := if hbm then f else g
    let since := if hbm then s.msys.passH else s.msys.passI
    let per := if hbm then s.msys.perH else s.msys.perI
    let ends := s.tierOn hbm = true ∧ s.bit (lo MEM_BCTL_EN_H MEM_BCTL_EN_I) = true;
    (¬may → Idle (.burnishWord t a) s) ∧
    (may → read (fun _ => True)) ∧
    (may → even → s.errAt w = none → read (fun u => WordsOnly [MEM_BSTAT_POS_I.addr] s u ∧ u.byteAt = s.byteAt ∧ u.errAt w = none ∧ u.flt = s.flt)) ∧
    (∀ l, may → even → s.errAt w = some (.symbols l) → l.length = 1 ∨ l.length = 2 → read (fun u => u.byteAt = s.byteAt ∧ u.errAt w = none ∧ u.flt = s.flt ∧
      (w < hbmEnd → u.rd (MEM_HCE (w / stackSize)) = min (s.rd (MEM_HCE (w / stackSize)) + 1) (2 ^ 32 - 1)) ∧
      (hbmEnd ≤ w → u.rd (MEM_ICE ((w - ingotBase) / 2 ^ 28)) = min (s.rd (MEM_ICE ((w - ingotBase) / 2 ^ 28)) + 1) (2 ^ 32 - 1)))) ∧
    (may → even → s.errAt w = some .poison ∨ s.errAt w = some .allCheck →
      (idle = true → read (fun u => u.bytesAt w n = List.replicate n 0 ∧ u.errAt w = none ∧
        ∃ r : Report, u.flt.reports = s.flt.reports ++ [r] ∧ r.cls = .mem ∧ r.level = 0 ∧ r.addr = w ∧ r.master = mBurnish)) ∧
      (idle = false → read (fun u => u.byteAt = s.byteAt ∧ u.errAt w = some .poison ∧ u.bit MEM_UE_INFO_VALID = true ∧
        ∃ r : Report, u.flt.reports = s.flt.reports ++ [r] ∧ r.cls = .mem ∧ r.level = 1 ∧ r.code = 0 ∧ r.addr = w ∧ r.master = mBurnish))) ∧
    (¬ends → Idle (.burnishPassEnd t hbm) s) ∧
    (ends → ∃ u : State, exec (.burnishPassEnd t hbm) s = .next u ∧
      u.rd (lo MEM_BPASS_PASS_H MEM_BPASS_PASS_I) = min (s.rd (lo MEM_BPASS_PASS_H MEM_BPASS_PASS_I) + 1) (2 ^ 16 - 1) ∧
      u.rd (lo MEM_BSTAT_POS_H MEM_BSTAT_POS_I) = 0 ∧
      u.msys = (if hbm then { s.msys with passH := now, perH := 60 * max 15 (s.rd MEM_BCTL_PER_H) }
        else { s.msys with passI := now, perI := max 60 (s.rd MEM_BCTL_PER_I) }) ∧
      (now ≤ since + per * 1600000000 → u.flt = s.flt ∧ u.bit (lo MEM_BSTAT_BEHIND_H MEM_BSTAT_BEHIND_I) = s.bit (lo MEM_BSTAT_BEHIND_H MEM_BSTAT_BEHIND_I)) ∧
      (since + per * 1600000000 < now → u.bit (lo MEM_BSTAT_BEHIND_H MEM_BSTAT_BEHIND_I) = true ∧
        ∃ r : Report, u.flt.reports = s.flt.reports ++ [r] ∧ r.cls = .mem ∧ r.level = 1 ∧ r.master = mBurnish) ∧
      WordsOnly [MEM_BPASS_PASS_H.addr, MEM_BSTAT_POS_H.addr] s u ∧ Only [.clock, .regs, .msys, .flt] s u) ∧
    (s.ready = false → Idle (.burnishCtrl t path v) s) ∧
    (s.ready = true → ∃ u : State, exec (.burnishCtrl t path v) s = .next u ∧ (u.word MEM_BCTL_EN_I.addr).toNat = v % 2 ^ 32 &&& 0x0FFFFFF3 ∧
      WordsOnly [MEM_BCTL_EN_I.addr] s u ∧ Only [.clock, .regs, .sec] s u ∧
      (let weak := (s.bit MEM_BCTL_EN_I = true ∧ u.bit MEM_BCTL_EN_I = false) ∨ (s.bit MEM_BCTL_EN_H = true ∧ u.bit MEM_BCTL_EN_H = false) ∨
          1200 < u.rd MEM_BCTL_PER_I ∨ 240 < u.rd MEM_BCTL_PER_H;
        (¬weak → u.sec = s.sec) ∧ (weak → u.word MEM_BCTL_EN_I.addr ≠ s.word MEM_BCTL_EN_I.addr →
          ∃ g ∈ u.sec.wait, g.tick = now ∧ ∃ r ∈ g.recs, r.ty = 0xC)))

/-- A repair command on a node that is not UNCAST is refused with ERR and code 1, and one while another runs with code 2; else it shows BUSY and holds its
selection and argument. A reserved OP is refused with code 4. REPAIR_COMPLETE ends the command: a line above 67, or a bank or row that the stack does not have, fails with code 4, no spare left with code
3, no answer with code 5 and a MEM alert; else DONE is set, the operation goes to the stack, all but RD1500 are hallmarked, and RD1500 shows
its result. Only a remapped or unmapped line, or the group of a repaired row, loses its data (which data a repair moves is the model's choice, log 31). With
no command under way it changes nothing. -/
def Obligations.RepairCommandsRunAndComplete : Prop :=
  ∀ (t answer result spares op : Nat) (path : Path) (s : State), spares < 256 → result < 2 ^ 32 →
    let now := max s.now t
    let stat := MEM_REP_STAT_BUSY.addr
    let sel := (s.word MEM_REP_SEL_STACK.addr).toNat
    let fails (c : Instr) (code : Nat) : Prop := ∃ u : State, exec c s = .next u ∧ u.bit MEM_REP_STAT_ERR = true ∧ u.rd MEM_REP_STAT_CODE = code ∧
      WordsOnly [stat] s u ∧ Only [.clock, .regs] s u;
    (∀ e ∈ ([(1, .remap t path), (2, .unmap t path), (3, .sppr t path), (4, .hppr t path), (5, .rd1500 t path), (6, .wr1500 t path)] : List (Nat × Instr)),
      (s.ready = false → Idle e.2 s) ∧
      (s.ready = true → s.nodeState ≠ stUncast → fails e.2 1) ∧
      (s.ready = true → s.nodeState = stUncast → s.msys.repair.isSome = true → fails e.2 2) ∧
      (s.ready = true → s.nodeState = stUncast → s.msys.repair = none → ∃ u : State, exec e.2 s = .next u ∧ u.bit MEM_REP_STAT_BUSY = true ∧
        u.rd MEM_REP_STAT_CODE = 0 ∧ u.msys = { s.msys with repair := some (e.1, sel, s.rd MEM_REP_DATA) } ∧ WordsOnly [stat] s u ∧
        Only [.clock, .regs, .msys] s u)) ∧
    (s.ready = false ∨ (1 ≤ op % 16 ∧ op % 16 ≤ 6) → Idle (.repairOpReserved t path op) s) ∧
    (s.ready = true → op % 16 = 0 ∨ 7 ≤ op % 16 → fails (.repairOpReserved t path op)
      (if s.nodeState ≠ stUncast then 1 else if s.msys.repair.isSome then 2 else 4)) ∧
    (s.msys.repair = none → Idle (.repairComplete t answer result spares) s) ∧
    (∀ o sl arg, s.msys.repair = some (o, sl, arg) →
      let c : Instr := .repairComplete t answer result spares
      let wide := (o = 1 ∨ o = 2) ∧ 67 < arg % 128
      let spent := answer = 1 ∧ (o = 1 ∨ o = 3 ∨ o = 4)
      let noRow := answer = 3 ∧ (o = 3 ∨ o = 4)
      let g := 16 * (sl % 8) + sl / 8 % 16
      let line := arg % 128
      let ended (u : State) : Prop := exec c s = .next u ∧ u.msys.repair = none ∧ u.bit MEM_REP_STAT_BUSY = false ∧ u.rd MEM_REP_STAT_SPARES = spares
      let failed (u : State) (code : Nat) : Prop := ended u ∧ u.bit MEM_REP_STAT_ERR = true ∧ u.rd MEM_REP_STAT_CODE = code ∧
        u.msys = { s.msys with repair := none } ∧ WordsOnly [stat] s u ∧ u.mem = s.mem
      let done (u : State) : Prop := ended u ∧ u.bit MEM_REP_STAT_DONE = true ∧
        u.outs = s.outs ++ [.repair (sl % 8) (if o = 6 then sl / 65536 % 256 else if o = 5 then arg % 256 else o) arg] ∧
        (o ≠ 5 → ∃ h ∈ u.sec.wait, h.tick = now ∧ ∃ r ∈ h.recs, r.ty = 0x16) ∧
        Only [.clock, .regs, .mem, .msys, .free, .outs, .sec] s u;
      (wide → ∃ u, failed u 4) ∧
      (¬wide → answer = 2 → ∃ u, failed u 5 ∧ ∃ r : Report, u.flt.reports = s.flt.reports ++ [r] ∧ r.cls = .mem ∧ r.level = 1 ∧ r.code = 5) ∧
      (¬wide → spent → ∃ u, failed u 3) ∧ (noRow → ∃ u, failed u 4) ∧
      (¬wide → answer ≠ 2 → ¬spent → ¬noRow →
        (o = 1 → ∃ u, done u ∧ u.msys.remapped = (g, line) :: s.msys.remapped ∧
          (∀ a, ¬(a < hbmEnd ∧ groupOf a = g ∧ a % 64 = line) → line < 64 → u.byteAt a = s.byteAt a) ∧ (64 ≤ line → u.mem = s.mem)) ∧
        (o = 2 → (g, line) ∈ s.msys.remapped → ∃ u, done u ∧ u.msys.remapped = s.msys.remapped.erase (g, line) ∧
          (∀ a, ¬(a < hbmEnd ∧ groupOf a = g ∧ a % 64 = line) → line < 64 → u.byteAt a = s.byteAt a)) ∧
        (o = 2 → (g, line) ∉ s.msys.remapped → ∃ u, done u ∧ u.msys.remapped = s.msys.remapped ∧ u.mem = s.mem) ∧
        (o = 3 ∨ o = 4 → ∃ u, done u ∧ u.msys.rows = (g, sl / 128 % 128, arg, o == 4) :: s.msys.rows ∧
          (∀ a, ¬(a < hbmEnd ∧ groupOf a = g) → u.byteAt a = s.byteAt a)) ∧
        (o = 5 → ∃ u, done u ∧ u.rd MEM_REP_DATA = result ∧ u.sec = s.sec ∧ u.mem = s.mem) ∧
        (o = 6 → ∃ u, done u ∧ u.rd MEM_REP_DATA = s.rd MEM_REP_DATA ∧ u.mem = s.mem)))

/-- TOUCHMARK_ENABLE writes a unit's EN, drops its pending records when it clears it, and hallmarks a change. TOUCHMARK_RECORD_EXPIRY drops and
counts the records older than 2^24 ticks; ALIVE_ENTRY_FREE frees the port's packet entries idle for 2^20 ticks with nothing unacknowledged. DET_PAUSE
of a later save seam of the Casting in force is taken, CONTINUE of a held node makes it ready again, CANCEL clears the request; else they, and every
reserved operation, are refused with code STATE. REPLAY_INJECT while a replay runs passes a marker, and injects the next entry with a payload at its
shifted tick: a late one is counted as a slip with DIVERGED and an SW alert; an entry too early, without a payload or after a gap changes nothing. -/
def Obligations.TouchmarksHoldsAndReplay : Prop :=
  ∀ (t x k n op : Nat) (v : Bool) (path : Path) (s : State), x < 768 →
    let now := max s.now t
    let old (r : TmRec) : Bool := decide (r.tick + 2 ^ 24 ≤ now)
    let turnedAway (c : Instr) : Prop := ∃ u : State, exec c s = .next u ∧ u.bit CST_ERR_WRITE_REF = true ∧ u.rd CST_ERR_CODE = ceState ∧
      WordsOnly [CST_ERR_WRITE_REF.addr] s u ∧ u.flt.reports = s.flt.reports ++ [⟨.sw, 0, ceState, path.master, 3, 0, now, false, false⟩] ∧
      Only [.clock, .regs, .flt] s u;
    (∀ c ∈ ([.touchmarkEnable t x v, .detPause t path n, .continue t path, .cancel t, .detCmdReserved t path op] : List Instr),
      s.ready = false → Idle c s) ∧
    (s.ready = true →
      (∃ u : State, exec (.touchmarkEnable t x v) s = .next u ∧ u.bit (TM_CFG_EN x) = v ∧ (v = false → u.tmList x = []) ∧
        (v = true → u.fab = s.fab) ∧ WordsOnly [(TM_CFG_EN x).addr] s u ∧ Only [.clock, .regs, .fab, .sec] s u ∧
        (s.bit (TM_CFG_EN x) = v → u.sec = s.sec) ∧
        (s.bit (TM_CFG_EN x) ≠ v → ∃ g ∈ u.sec.wait, g.tick = now ∧ ∃ r ∈ g.recs, r.ty = 0xC)) ∧
      (let good := s.inForce = true ∧ s.rd64 TG_SEAM_LO < n ∧ isSave s.seamSect n = true;
        (good → ∃ u : State, exec (.detPause t path n) s = .next u ∧ u.rd64 DET_PAUSE_LO = n % 2 ^ 64 ∧
          WordsOnly [DET_PAUSE_LO.addr, DET_PAUSE_LO.hi.addr] s u ∧ Only [.clock, .regs] s u) ∧
        (¬good → turnedAway (.detPause t path n))) ∧
      (s.bit DET_STAT_HELD = true → ∃ u : State, exec (.continue t path) s = .next u ∧ Only [.clock, .tg] s u ∧
        (s.tg.continuing = true → u.tg = s.tg) ∧
        (s.tg.continuing = false → u.tg = { s.tg with continuing := true, sentReady := false, start := none })) ∧
      (s.bit DET_STAT_HELD = false → turnedAway (.continue t path)) ∧
      (∃ u : State, exec (.cancel t) s = .next u ∧ u.rd64 DET_PAUSE_LO = 0 ∧ WordsOnly [DET_PAUSE_LO.addr, DET_PAUSE_LO.hi.addr] s u ∧
        Only [.clock, .regs] s u) ∧
      (3 ≤ op → op ≤ 15 → turnedAway (.detCmdReserved t path op)) ∧ (op < 3 ∨ 15 < op → Idle (.detCmdReserved t path op) s)) ∧
    ((∀ r ∈ s.tmList x, old r = false) → Idle (.touchmarkRecordExpiry t x) s) ∧
    ((∃ r ∈ s.tmList x, old r = true) → ∃ u : State, exec (.touchmarkRecordExpiry t x) s = .next u ∧
      u.tmList x = (s.tmList x).filter (fun r => !old r) ∧
      u.rd (TM_EXPIRED x) = min (s.rd (TM_EXPIRED x) + ((s.tmList x).filter old).length) (2 ^ 32 - 1) ∧
      WordsOnly [(TM_EXPIRED x).addr] s u ∧ Only [.clock, .regs, .fab] s u) ∧
    (∃ u : State, exec (.aliveEntryFree t k) s = .next u ∧ Only [.clock, .fab] s u ∧
      u.fab = { s.fab with rxs := s.fab.rxs.filter (fun y => !(y.port == k && !y.lbl && y.acc == 0 && decide (y.lastFlit + 2 ^ 20 ≤ now))) }) ∧
    (s.det.shift = none ∨ s.rd DET_STAT_MODE ≠ 2 ∨ s.jobRuns = false → Idle (.replayInject t) s) ∧
    (∀ ts start h port fl d len, s.det.shift = some (ts, start) → s.rd DET_STAT_MODE = 2 → s.jobRuns = true →
      s.det.pos + 32 ≤ s.logSize - 256 → s.logAt s.det.pos = (h, port, fl, d, len) →
      let tick := leAt (s.bytesAt (s.logBase + 256 + s.det.pos) 8) 0 8
      let moved (P : State → Prop) : Prop := Does (.replayInject t) s (fun u => u.det.pos = s.det.pos + len ∧
        u.rd64 DET_LPOS_LO = (s.rd64 DET_LPOS_LO + len) % 2 ^ 64 ∧ P u)
      (port = 0xFFFF → moved (fun u => u.det = { s.det with pos := s.det.pos + len } ∧ Only [.clock, .regs, .det] s u)) ∧
      (port ≠ 0xFFFF → fl % 2 = 0 ∨ fl / 2 % 2 = 1 ∨ now + ts < tick + start → Idle (.replayInject t) s) ∧
      (port ≠ 0xFFFF → fl % 2 = 1 → fl / 2 % 2 = 0 → tick + start ≤ now + ts →
        (tick + start = now + ts → moved (fun u => u.rd DET_LOST = s.rd DET_LOST ∧ u.bit DET_STAT_DIVERGED = s.bit DET_STAT_DIVERGED)) ∧
        (tick + start < now + ts → moved (fun u => u.rd DET_LOST = min (s.rd DET_LOST + 1) (2 ^ 32 - 1) ∧ u.bit DET_STAT_DIVERGED = true ∧
          ⟨.sw, 1, 0, mNone, 7, 0, now, false, false⟩ ∈ u.flt.reports)) ∧
        (256 ≤ port → port < 258 →
          let a := leAt h 0 8
          let bs := slice (s.bytesAt (s.logBase + 256 + s.det.pos + 32) 256) (a % 256) (leAt h 8 4)
          Whole s a bs.length → moved (fun u => u.bytesAt a bs.length = bs ∧ BytesOnly a bs.length s u))))

/-- FAULT_REPORT takes the report flagged first, within a tick the lowest class, master kind and index, and counts it. One of a fault recorded less than 257 ticks
ago is merged and counted so. Else it is recorded at its level, one higher where its class is pending (levels 1 and 2, not consequent): hallmarked,
shown, pending from level 1 on, captured where no capture stands; ERR_N pulses and host interrupts follow their thresholds; level 2 quenches the job
in force, level 3 the node. FAULT_ACK clears the classes named, but for those that became pending in the same instant; CAPTURE_REARM clears VALID.
ERRN_PULSE_END and ERRN_GAP_END move the pin on after 1,600 ticks. ARM starts the injection for max(1, COUNT) items and DISARM ends it, both hallmarked. With
nothing due they change nothing. -/
def Obligations.FaultsAreRecordedAndReacted : Prop :=
  ∀ (t mask c : Nat) (ext : Option Report) (s : State),
    let now := max s.now t
    let rs := s.flt.reports ++ (match ext with | some r => [{ r with tick := now }] | none => [])
    let hallmarked (u : State) (ty : Nat) : Prop := ∃ g ∈ u.sec.wait, g.tick = now ∧ ∃ r ∈ g.recs, r.ty = ty
    let keep (d : Nat) : Prop := t ≤ s.now ∧ (s.setNow FLT_PEND_PEND.addr).toNat / 2 ^ d % 2 = 1
    let kept (c : Nat) : Prop := t ≤ s.now ∧ s.setNow (FLT_CAP_INFO_VALID c).addr ≠ 0
    (rs = [] → Idle (.faultReport t ext) s) ∧
    (∀ r, nextReport rs = some r → r.level ≤ 3 →
      let k := r.cls.code
      let merged := ∃ e ∈ s.flt.recent, e.cls = r.cls ∧ e.code = r.code ∧ e.addr = r.addr ∧ now ≤ e.tick + 256
      let esc := (r.level = 1 ∨ r.level = 2) ∧ r.conseq = false ∧ s.rd FLT_PEND_PEND / 2 ^ k % 2 = 1
      (∀ q ∈ rs, reportBefore q r = false) ∧
      (merged → ∃ u : State, exec (.faultReport t ext) s = .next u ∧ u.flt = { s.flt with reports := rs.erase r } ∧
        u.rd (FLT_CNT k) = min (s.rd (FLT_CNT k) + 1) (2 ^ 32 - 1) ∧ u.rd FLT_MERGED = min (s.rd FLT_MERGED + 1) (2 ^ 32 - 1) ∧
        WordsOnly [(FLT_CNT k).addr, FLT_MERGED.addr] s u ∧ Only [.clock, .regs, .flt] s u) ∧
      (¬merged → ∀ level, level = (if (r.level = 1 ∨ r.level = 2) ∧ r.conseq = false ∧ s.rd FLT_PEND_PEND / 2 ^ k % 2 = 1 then r.level + 1 else r.level) →
        ∃ u : State, exec (.faultReport t ext) s = .next u ∧ u.rd (FLT_CNT k) = min (s.rd (FLT_CNT k) + 1) (2 ^ 32 - 1) ∧
          u.rd FLT_MERGED = s.rd FLT_MERGED ∧ u.rd FLT_STAT_LCLASS = k ∧ u.rd FLT_STAT_LLEVEL = level ∧ hallmarked u 0xA ∧
          (esc → u.rd FLT_ESC = min (s.rd FLT_ESC + 1) (2 ^ 32 - 1)) ∧ (¬esc → u.rd FLT_ESC = s.rd FLT_ESC) ∧
          (1 ≤ level → u.rd FLT_PEND_PEND / 2 ^ k % 2 = 1 ∧ u.rd FLT_PLVL_PLVL / 4 ^ k % 4 = max (s.rd FLT_PLVL_PLVL / 4 ^ k % 4) level) ∧
          (level = 0 → u.rd FLT_PEND_PEND = s.rd FLT_PEND_PEND) ∧ u.bit (FLT_CAP_INFO_VALID k) = true ∧
          (s.bit (FLT_CAP_INFO_VALID k) = false → u.rd (FLT_CAP_INFO_LEVEL k) = level ∧ u.rd (FLT_CAP_INFO_CODE k) = r.code % 2 ^ 8 ∧
            u.rd (FLT_CAP_INFO_MASTER k) = r.master.code % 2 ^ 16 ∧ u.rd (FLT_CAP_INFO_TYPE k) = r.acc % 2 ^ 3 ∧
            u.rd64 (FLT_CAP_ADDR_LO k) = r.addr % 2 ^ 64 ∧ u.rd64 (FLT_CAP_TICK_LO k) = r.tick % 2 ^ 64) ∧
          (s.bit (FLT_CAP_INFO_VALID k) = true → u.word (FLT_CAP_INFO_VALID k).addr = s.word (FLT_CAP_INFO_VALID k).addr) ∧
          (s.rd FLT_CTRL_ERRN_LVL ≤ level → (∀ a b, s.flt.errn ≠ .gap a b) → u.flt.errn = .pulse now) ∧
          (s.rd FLT_CTRL_IRQ_LVL ≤ level → s.rd FLT_IEN_IEN / 2 ^ k % 2 = 1 → .msix 0 0 ∈ u.outs ∧ .msix 1 0 ∈ u.outs) ∧
          (level < 2 → u.flt.reports = rs.erase r ∧ Only [.clock, .regs, .flt, .sec, .outs] s u) ∧
          (level = 2 → s.inForce = true → s.quenched = false → u.bit CST_STATE_QUENCHED = true ∧ .msix 0 2 ∈ u.outs) ∧
          (level = 3 → u.bit FLT_STAT_NODEQ = true ∧ u.bit FLT_CTRL_HOLD = true ∧ (∀ j, j < 256 → u.rd (LK_STAT_STATE j) = 0)))) ∧
    (∃ u : State, exec (.faultAck t mask) s = .next u ∧
      (∀ d, d < 9 → (mask / 2 ^ d % 2 = 1 → ¬keep d → u.rd FLT_PEND_PEND / 2 ^ d % 2 = 0 ∧ u.rd FLT_PLVL_PLVL / 4 ^ d % 4 = 0) ∧
        (mask / 2 ^ d % 2 = 0 ∨ keep d → u.rd FLT_PEND_PEND / 2 ^ d % 2 = s.rd FLT_PEND_PEND / 2 ^ d % 2 ∧
          u.rd FLT_PLVL_PLVL / 4 ^ d % 4 = s.rd FLT_PLVL_PLVL / 4 ^ d % 4)) ∧
      WordsOnly [FLT_PEND_PEND.addr, FLT_PLVL_PLVL.addr] s u ∧ Only [.clock, .regs] s u) ∧
    (9 ≤ c ∨ kept c → Idle (.captureRearm t c) s) ∧
    (c < 9 → ¬kept c → ∃ u : State, exec (.captureRearm t c) s = .next u ∧
      u.bit (FLT_CAP_INFO_VALID c) = false ∧ u.rd (FLT_CAP_INFO_CODE c) = s.rd (FLT_CAP_INFO_CODE c) ∧
      WordsOnly [(FLT_CAP_INFO_VALID c).addr] s u ∧ Only [.clock, .regs] s u) ∧
    (∀ e, s.flt.errn = e →
      let turns (i : Instr) (e' : ErrnState) : Prop := ∃ u : State, exec i s = .next u ∧ u.flt = { s.flt with errn := e' } ∧ Only [.clock, .flt] s u
      ((∀ since, e ≠ .pulse since) → Idle (.errnPulseEnd t) s) ∧ ((∀ since b, e ≠ .gap since b) → Idle (.errnGapEnd t) s) ∧
      (∀ since, e = .pulse since → (now < since + 1600 → Idle (.errnPulseEnd t) s) ∧
        (since + 1600 ≤ now → turns (.errnPulseEnd t) (.gap now false))) ∧
      (∀ since b, e = .gap since b → (now < since + 1600 → Idle (.errnGapEnd t) s) ∧
        (since + 1600 ≤ now → turns (.errnGapEnd t) (if b then .pulse now else .idle)))) ∧
    (∃ u : State, exec (.arm t) s = .next u ∧ u.rd FLT_INJ_LEFT_LEFT = max 1 (s.rd FLT_INJ_COUNT) ∧ u.bit FLT_INJ_LEFT_ARMED = true ∧
      hallmarked u 0x17 ∧ WordsOnly [FLT_INJ_LEFT_LEFT.addr] s u ∧ Only [.clock, .regs, .sec] s u) ∧
    (∃ u : State, exec (.disarm t) s = .next u ∧ u.rd FLT_INJ_LEFT_LEFT = 0 ∧ u.bit FLT_INJ_LEFT_ARMED = false ∧
      hallmarked u 0x17 ∧ WordsOnly [FLT_INJ_LEFT_LEFT.addr] s u ∧ Only [.clock, .regs, .sec] s u)

/-- OWN of an unowned node that is UNCAST, by the board controller, and INSTALL and RAISE of an owned node outside phase SIGN, start while no key command
runs: BUSY is set and the command and its host address are held. Else each is refused with ERR, the lowest code that applies (the order is the model's choice) and an
interrupt; a reserved operation is refused with code 1. ATTEST latches head, count and tick, or is refused with code 2 while one runs. KEY_CMD_COMPLETE ends the
command: not fetched it fails with code 7, a block that breaks R543 with that code, a flash that fails with code 8, and nothing else changes; else the block stands in
the flash and is in force, OWN burns its owner and RAISE its version, the change is hallmarked, a staged Casting whose slot is no longer enrolled is
discarded with code SIGKEY, and DONE is set. ATTEST_COMPLETE shows a signature, whose value is free, and sets DONE. With nothing under way the completions change nothing. -/
def Obligations.KeyCommandsRunAndComplete : Prop :=
  ∀ (t op : Nat) (p : Path) (block : Option (List Byte)) (ok : Bool) (s : State),
    let now := max s.now t
    let stat := SEC_KEYSTAT_BUSY.addr
    let told := s.outs ++ [.msix 0 2, .msix 1 2]
    let src := s.rd64 SEC_KEYSRC_LO / 4096 * 4096
    let owned := s.bit SEC_STAT_OWNED
    let busy := s.sec.keyCmd.isSome
    let fails (c : Instr) (code : Nat) : Prop := ∃ u : State, exec c s = .next u ∧ u.bit SEC_KEYSTAT_ERR = true ∧ u.rd SEC_KEYSTAT_CODE = code ∧
      u.outs = told ∧ WordsOnly [stat] s u ∧ Only [.clock, .regs, .outs] s u
    let starts (c : Instr) (k : KeyCmd) : Prop := ∃ u : State, exec c s = .next u ∧ u.bit SEC_KEYSTAT_BUSY = true ∧
      u.sec = { s.sec with keyCmd := some k } ∧ WordsOnly [stat] s u ∧ Only [.clock, .regs, .sec] s u;
    (s.nodeState ≠ stUncast ∨ owned = true → fails (.own t p) 1) ∧
    (s.nodeState = stUncast → owned = false →
      (busy = true → fails (.own t p) 2) ∧ (busy = false → p ≠ .bc → fails (.own t p) 9) ∧
      (busy = false → p = .bc → starts (.own t p) ⟨1, .hp0, src⟩)) ∧
    (∀ e ∈ ([(2, .install t p), (3, .raise t p)] : List (Nat × Instr)),
      (owned = false → fails e.2 1) ∧ (owned = true → busy = true ∨ s.phase? = phSign → fails e.2 2) ∧
      (owned = true → busy = false → s.phase? ≠ phSign → starts e.2 ⟨e.1, if p = .hp1 then .hp1 else .hp0, src⟩)) ∧
    (5 ≤ op → op ≤ 15 → fails (.keyCmdReserved t op) 1) ∧ (op < 5 ∨ 15 < op → Idle (.keyCmdReserved t op) s) ∧
    (s.sec.attest = true → fails (.attest t) 2) ∧
    (s.sec.attest = false → ∃ u : State, exec (.attest t) s = .next u ∧ u.bit SEC_KEYSTAT_BUSY = true ∧ u.sec = { s.sec with attest := true } ∧
      (∀ i, i < 8 → u.rd (SEC_ATT_DIG i) = s.rd (SEC_HEAD i)) ∧ u.rd64 SEC_ATT_CNT_LO = s.rd64 SEC_HEADCNT_LO ∧ u.rd64 SEC_ATT_TICK_LO = now % 2 ^ 64 ∧
      WordsOnly ([stat, SEC_ATT_CNT_LO.addr, SEC_ATT_CNT_HI.addr, SEC_ATT_TICK_LO.addr, SEC_ATT_TICK_HI.addr] ++
        (List.range 8).map (fun i => (SEC_ATT_DIG i).addr)) s u ∧ Only [.clock, .regs, .sec] s u) ∧
    (s.sec.attest = false → Idle (.attestComplete t) s) ∧
    (s.sec.attest = true → ∃ u : State, exec (.attestComplete t) s = .next u ∧ u.bit SEC_KEYSTAT_DONE = true ∧ u.bit SEC_KEYSTAT_BUSY = busy ∧
      u.sec = { s.sec with attest := false } ∧ u.free = s.free + 1 ∧ u.outs = told ∧
      (∀ i, i < 24 → u.rd (SEC_ATT_SIG i) = Config.deviceSign (sha384 ([0x54, 0x5A, 0x41, 0x54] ++ s.rdBytes SEC_ATT_DIG 8 ++
        leBytes 8 (s.rd64 SEC_ATT_CNT_LO) ++ leBytes 8 (s.rd64 SEC_ATT_TICK_LO) ++ s.rdBytes SEC_NONCE 4)) s.free i % 2 ^ 32) ∧
      WordsOnly (stat :: (List.range 24).map (fun i => (SEC_ATT_SIG i).addr)) s u ∧ Only [.clock, .regs, .sec, .free, .outs] s u) ∧
    (s.sec.keyCmd = none → Idle (.keyCmdComplete t block ok) s) ∧
    (∀ k, s.sec.keyCmd = some k →
      let kb := slice (block.getD []) 0 4096
      let why := s.kbFault (k.op == 1) kb
      let ends (u : State) : Prop := exec (.keyCmdComplete t block ok) s = .next u ∧ u.sec.keyCmd = none ∧ u.bit SEC_KEYSTAT_BUSY = s.sec.attest ∧
        u.sec.attest = s.sec.attest
      let failed (code : Nat) : Prop := ∃ u : State, ends u ∧ u.bit SEC_KEYSTAT_ERR = true ∧ u.rd SEC_KEYSTAT_CODE = code ∧ u.outs = told ∧
        u.sec = { s.sec with keyCmd := none } ∧ WordsOnly [stat] s u ∧ Only [.clock, .regs, .sec, .outs] s u
      let revoked := s.phase? = phStaged ∧ s.nodeState ≠ stApplying ∧ kbSlots kb / 4 ^ imgKeySlot s.cst.staged % 4 ≠ 1;
      (block = none → failed 7) ∧ (∀ c, block.isSome = true → why = some c → failed c) ∧
      (block.isSome = true → why = none → ok = false → failed 8) ∧
      (block.isSome = true → why = none → ok = true → ∃ u : State, ends u ∧ u.bit SEC_KEYSTAT_DONE = true ∧ u.outs = told ∧
        (∀ a, u.flashAt a = if 0x1000 ≤ a ∧ a < 0x1000 + kb.length then kb.getD (a - 0x1000) 0 else s.flashAt a) ∧
        u.sec.keyBlock = kb ∧ u.bit SEC_STAT_KBOK = true ∧ u.rd SEC_STAT_KBVER = kbVer kb ∧ u.rd SEC_SLOTS = kbSlots kb ∧ u.rdBytes SEC_KBDIG 12 = sha384 kb ∧
        u.bit SEC_STAT_OWNED = (k.op == 1 || owned) ∧ u.sec.ownerDig = (if k.op = 1 then kbOwner kb else s.sec.ownerDig) ∧
        u.rd SEC_STAT_KBMIN = (if k.op = 3 then kbVer kb else s.rd SEC_STAT_KBMIN) ∧
        (∃ g ∈ u.sec.wait, g.tick = now ∧ ∃ r ∈ g.recs, r.ty = 2) ∧
        (k.op ≠ 1 → revoked → u.phase? = phIdle ∧ u.cst.staged = [] ∧ u.bit CST_ERR_LOAD_FAIL = true ∧ u.rd CST_ERR_CODE = 6 ∧
          (∃ g ∈ u.sec.wait, g.tick = now ∧ ∃ r ∈ g.recs, r.ty = 4) ∧ u.flt.reports = s.flt.reports ++ [⟨.cast, 1, 6, mCast, 7, 0, now, false, false⟩]) ∧
        (k.op = 1 ∨ ¬revoked → u.cst = s.cst ∧ u.flt = s.flt ∧
          WordsOnly ([stat, SEC_STAT_KBOK.addr, SEC_SLOTS.addr] ++ (List.range 12).map (fun i => (SEC_KBDIG i).addr)) s u) ∧ Only [.clock, .regs, .cst, .flt, .sec, .mgt, .outs] s u))

/-- DENY_WINDOW_END ends the windows 2^20 ticks old, and hallmarks each in which refusals were counted. CLEAR_GO while one runs is refused; a span not granted for F
is counted and captured as the first refusal, raises a SEC alert and shows DENIED; else the clear runs. CLEAR_COMPLETE waits for a stack repair that its span meets; else it leaves the span zeros with
valid check symbols and every other byte as it was, is hallmarked, and shows DONE. HALLMARK_COMMIT, 64 ticks after the last one, puts the first waiting
record into the chain: the head becomes the digest of its bytes, the count grows, and it is kept, or lost and counted where the queue is full; where records were lost and there is
room between two events, the LOSS record goes instead. The 16,128th kept record raises a SEC fault. HALLMARK_EXPORT moves the oldest record to the ring while export is enabled and the
ring has room, with an interrupt when it first holds the watermark. With nothing due they change nothing. -/
def Obligations.DenialsClearsAndTheChain : Prop :=
  ∀ (t : Nat) (p : Path) (s : State),
    let now := max s.now t
    let old (w : DenyWin) : Bool := decide (w.first + 2 ^ 20 ≤ now)
    let hallmarked (u : State) (ty : Nat) : Prop := ∃ g ∈ u.sec.wait, g.tick = now ∧ ∃ r ∈ g.recs, r.ty = ty
    let a := s.rd64 SEC_CLR_BASE_LO / 256 * 256
    let n := s.rd SEC_CLR_LEN
    let m : GMaster := if p = .hp0 then ⟨4, 0⟩ else if p = .hp1 then ⟨4, 1⟩ else ⟨5, 0⟩
    let cmd := SEC_CLR_CMD_BUSY.addr
    let head (b : List Byte) (u : State) : Prop := u.rdBytes SEC_HEAD 8 = sha256 b ∧ u.rd64 SEC_HEADCNT_LO = (s.rd64 SEC_HEADCNT_LO + 1) % 2 ^ 64 ∧
      u.sec.lastCommit = some now ∧ Only [.clock, .regs, .sec, .flt] s u
    let kept (b : List Byte) (u : State) : Prop := u.sec.queue = s.sec.queue ++ [b] ∧
      u.flt.reports = s.flt.reports ++ (if s.sec.queue.length = 16127 then [⟨.sec, 2, 0, mNone, 7, 0, now, false, false⟩] else [])
    let prev := s.rdBytes SEC_HEAD 8
    let bytes (r : HRec) : List Byte := prev ++ leBytes 8 r.tick ++ leBytes 2 r.ty ++ [BitVec.ofNat 8 r.cont, BitVec.ofNat 8 r.flags] ++
      slice (r.body ++ List.replicate 20 0) 0 20
    let may := ∀ c, s.sec.lastCommit = some c → c + 64 ≤ now
    let room := s.sec.queue.length < 16384
    let size := min 24 (max 10 (s.rd SEC_EXPSIZE_SIZE))
    let unread := (s.rd64 SEC_EXPWR_LO + 2 ^ 64 - s.rd64 SEC_EXPRD_LO) % 2 ^ 64
    let exports := s.bit SEC_EXPCTL_EN = true ∧ unread < 2 ^ size;
    (∃ u : State, exec (.denyWindowEnd t) s = .next u ∧ Only [.clock, .sec] s u ∧ u.sec.deny = s.sec.deny.filter (fun w => !old w) ∧
      (∀ w ∈ s.sec.deny, old w = true → w.count ≠ 0 → hallmarked u 0xD) ∧
      ((∀ w ∈ s.sec.deny, old w = true → w.count = 0) → u.sec.wait = s.sec.wait)) ∧
    (s.bit SEC_CLR_CMD_BUSY = true → ∃ u : State, exec (.clearGo t p) s = .next u ∧ u.bit CST_ERR_WRITE_REF = true ∧
      WordsOnly [CST_ERR_WRITE_REF.addr] s u ∧ u.flt.reports = s.flt.reports ++ [⟨.sw, 0, 0, p.master, 3, 0, now, false, false⟩] ∧
      Only [.clock, .regs, .flt] s u) ∧
    (s.bit SEC_CLR_CMD_BUSY = false →
      (s.granted m .f a (256 * n) = true → ∃ u : State, exec (.clearGo t p) s = .next u ∧ u.bit SEC_CLR_CMD_BUSY = true ∧
        u.sec = { s.sec with clear := some (a, n) } ∧ WordsOnly [cmd] s u ∧ Only [.clock, .regs, .sec] s u) ∧
      (s.granted m .f a (256 * n) = false → ∃ u : State, exec (.clearGo t p) s = .next u ∧ u.bit SEC_CLR_CMD_DENIED = true ∧
        u.bit SEC_CLR_CMD_BUSY = false ∧ u.rd SEC_DENY = min (s.rd SEC_DENY + 1) (2 ^ 32 - 1) ∧ u.bit SEC_DFIRST_VALID = true ∧
        (s.bit SEC_DFIRST_VALID = true → u.word SEC_DFIRST_VALID.addr = s.word SEC_DFIRST_VALID.addr) ∧
        (s.bit SEC_DFIRST_VALID = false → u.rd SEC_DFIRST_KIND = m.kind ∧ u.rd SEC_DFIRST_INDEX = m.idx ∧
          u.rd SEC_DFIRST_TARGET = ((targetOf a).getD 0xF) % 16) ∧
        u.flt.reports = s.flt.reports ++ [⟨.sec, 1, 0, p.master, 7, 0, now, false, false⟩] ∧
        ((∀ w ∈ s.sec.deny, w.kind ≠ m.kind) → hallmarked u 0xD) ∧
        WordsOnly [cmd, SEC_DENY.addr, SEC_DFIRST_VALID.addr] s u ∧ Only [.clock, .regs, .sec, .flt] s u)) ∧
    (s.sec.clear = none → Idle (.clearComplete t) s) ∧
    (∀ b c, s.sec.clear = some (b, c) → s.repairing b = true ∨ s.repairing (b + 256 * c - 1) = true → Idle (.clearComplete t) s) ∧
    (∀ b c, s.sec.clear = some (b, c) → s.repairing b = false → s.repairing (b + 256 * c - 1) = false →
      ∃ u : State, exec (.clearComplete t) s = .next u ∧ u.sec.clear = none ∧ hallmarked u 0x19 ∧
      u.bit SEC_CLR_CMD_BUSY = false ∧ u.bit SEC_CLR_CMD_DONE = true ∧ u.outs = s.outs ++ [.msix 0 2, .msix 1 2] ∧ BytesOnly b (256 * c) s u ∧
      u.bytesAt b (256 * c) = List.replicate (256 * c) 0 ∧ Only [.clock, .regs, .mem, .errs, .alive, .sec, .flt, .outs, .free] s u ∧
      (s.bit FLT_INJ_LEFT_ARMED = false → s.msys.seq = s.msys.alive → (∀ w, u.errAt w = if b ≤ w ∧ w < b + 256 * c then none else s.errAt w) ∧ WordsOnly [cmd] s u ∧ u.flt = s.flt)) ∧
    (¬may → Idle (.hallmarkCommit t) s) ∧
    (nextRec s.sec.wait = none → s.sec.lost = none ∨ ¬room → Idle (.hallmarkCommit t) s) ∧
    (may → ∀ r rest, nextRec s.sec.wait = some (r, rest) →
      (s.sec.lost = none → room → ∃ u : State, exec (.hallmarkCommit t) s = .next u ∧ head (bytes r) u ∧ kept (bytes r) u ∧ u.sec.wait = rest) ∧
      (s.sec.lost = none → ¬room → ∃ u : State, exec (.hallmarkCommit t) s = .next u ∧ head (bytes r) u ∧ u.sec.queue = s.sec.queue ∧
        u.sec.wait = rest ∧ u.sec.lost = some (s.rd64 SEC_HEADCNT_LO, 1) ∧ u.bit SEC_STAT_LOSS = true ∧ u.flt = s.flt) ∧
      (∀ i k, s.sec.lost = some (i, k) → ¬room ∨ r.ty = 0 → ∃ u : State, exec (.hallmarkCommit t) s = .next u ∧ head (bytes r) u ∧
        u.sec.queue = s.sec.queue ∧ u.sec.wait = rest ∧ u.sec.lost = some (i, k + 1) ∧ u.bit SEC_STAT_LOSS = true ∧ u.flt = s.flt)) ∧
    (may → room → ∀ i k, s.sec.lost = some (i, k) → (∀ r rest, nextRec s.sec.wait = some (r, rest) → r.ty ≠ 0) →
      ∃ (u : State) (l : HRec), exec (.hallmarkCommit t) s = .next u ∧ l.ty = 0x1A ∧ l.cont = 0 ∧ l.body = leBytes 8 i ++ leBytes 8 k ∧
        head (bytes l) u ∧ kept (bytes l) u ∧ u.sec.wait = s.sec.wait ∧ u.sec.lost = none ∧
        u.rd SEC_QUEUE_LOSSES = min (s.rd SEC_QUEUE_LOSSES + 1) (2 ^ 16 - 1)) ∧
    (s.sec.queue = [] ∨ ¬exports → Idle (.hallmarkExport t) s) ∧
    (∀ b rest, s.sec.queue = b :: rest → exports →
      let w := s.rd64 SEC_EXPWR_LO
      let first := s.sec.marked = false ∧ 2 ^ min size (s.rd SEC_EXPCTL_WM) ≤ (w + 1 + 2 ^ 64 - s.rd64 SEC_EXPRD_LO) % 2 ^ 64
      let put : Out := .dma (s.rd SEC_EXPCTL_PORT) (s.rd64 SEC_EXPBASE_LO / 4096 * 4096 + 64 * (w % 2 ^ size)) b
      ∃ u : State, exec (.hallmarkExport t) s = .next u ∧ u.sec.queue = rest ∧ u.rd64 SEC_EXPWR_LO = (w + 1) % 2 ^ 64 ∧
        (first → u.outs = s.outs ++ [put, .msix (s.rd SEC_EXPCTL_PORT) 1] ∧ u.sec.marked = true) ∧
        (¬first → u.outs = s.outs ++ [put] ∧ u.sec.marked = s.sec.marked) ∧
        WordsOnly [SEC_EXPWR_LO.addr, SEC_EXPWR_HI.addr] s u ∧ Only [.clock, .regs, .sec, .outs] s u)

/-- BOOT, of a node whose reset is over and whose core domains are On where memory is to be trained, tries the slot of the higher version, A where they are
equal, then the other one; a slot that fails shows its code. The one that passes runs: READY, SLOT and FALLBACK, the version, the BOOT hallmark, the key block of the flash in
force or a SEC alert, and after a power-on HBM, optics and the enabled Halls On. With neither, STATE is BOOTFAIL, hallmarked and a SEC alert, and every domain but PD49
is Off or goes there. The flash commands are refused with the lowest code of R583 (the order is the model's choice) or run; FLASH_COMPLETE gives the page read, or leaves the page
programmed or the block erased (0xFF: log 34) and nothing else of the flash changed; where the device fails the bytes are free. Else they change nothing. -/
def Obligations.NodeBootsFromItsFlash : Prop :=
  ∀ (t : Nat) (okA okB ok : Bool) (s : State),
    let now := max s.now t
    let hallmarked (u : State) (ty : Nat) : Prop := ∃ g ∈ u.sec.wait, g.tick = now ∧ ∃ r ∈ g.recs, r.ty = ty
    let at0 (b : Bool) : Nat := if b then 0x1100000 else 0x100000
    let head (b : Bool) : List Byte := s.flashBytes (at0 b) 256
    let vers (b : Bool) : Nat := leAt (head b) 16 8
    let code (b : Bool) : Nat :=
      let n := leAt (head b) 8 4
      if (if b then okB else okA) = false then 5
      else if leAt (head b) 0 4 ≠ 0x57465A54 ∨ leAt (head b) 4 2 ≠ 1 then 1
      else if n < 4096 ∨ 16777216 < n ∨ n % 4096 ≠ 0 then 2
      else if s.fwSigned (s.flashBytes (at0 b) n) = false then 3
      else if leAt (head b) 23 1 < s.rd SEC_STAT_FWMIN then 4 else 0
    let first : Bool := decide (vers false < vers true)
    let fail (b : Bool) : Fld := if b then MGT_BOOT_FAILB else MGT_BOOT_FAILA
    let boots := s.mgt.booting = true ∧ s.mgt.held = false ∧
      (s.mgt.train = false ∨ ∀ d ∈ [42, 43, 40, 41, 44, 45, 32, 33, 34, 35, 36, 37, 38, 39], s.domOn d = true)
    let c : Instr := .boot t okA okB
    let kb := s.flashBytes 0x1000 4096
    let key : Option Nat := if s.bit SEC_STAT_OWNED then s.kbFault false kb else some 0
    let runs (b fb : Bool) : Prop := ∃ u : State, exec c s = .next u ∧ u.ready = true ∧ u.rd MGT_BOOT_STATE = 4 ∧ u.bit MGT_BOOT_SLOT = b ∧
      u.bit MGT_BOOT_FALLBACK = fb ∧ u.rd (fail b) = 0 ∧ (fb = true → u.rd (fail (!b)) = code (!b)) ∧
      u.mgt = { s.mgt with booting := false, train := false } ∧
      (u.word MGT_FWVER_LO_BUILD.addr).toNat = vers b % 2 ^ 32 ∧ (u.word MGT_FWVER_HI_MINORH.addr).toNat = vers b / 2 ^ 32 % 2 ^ 32 ∧
      hallmarked u 1 ∧ u.bit SEC_STAT_KBOK = key.isNone ∧ u.sec.keyBlock = (if key = none then kb else []) ∧
      u.rd SEC_SLOTS = (if key = none then kbSlots kb else 0) ∧
      u.flt.reports = s.flt.reports ++ (match key with | some k => [⟨.sec, 1, k, mNone, 7, 0, now, false, false⟩] | none => []) ∧
      (s.mgt.train = true → (∀ d ∈ [46, 47, 48], u.domOn d = true) ∧ (∀ h, h < 32 → s.hallOn h = true → u.domOn h = true) ∧ u.rd PWR_SEQ_STEP = 7) ∧
      (s.mgt.train = false → u.fab = s.fab ∧ WordsOnly ([MGT_BOOT_STATE.addr, MGT_FWVER_LO_BUILD.addr, MGT_FWVER_HI_MINORH.addr, SEC_STAT_KBOK.addr,
        SEC_SLOTS.addr, DET_STAT_MAPCHG.addr] ++ (List.range 12).map (fun i => (SEC_KBDIG i).addr)) s u) ∧
      Only [.clock, .regs, .fab, .flt, .sec, .mgt] s u
    let stat := MGT_FL_STAT_BUSY.addr
    let told := s.outs ++ [.msix 0 2, .msix 1 2]
    let a := s.rd MGT_FL_ADDR_ADDR
    let booted := at0 (s.bit MGT_BOOT_SLOT)
    let closed (n : Nat) : Prop := let b := a / n * n; (b < 0x4000 ∧ 0x1000 < b + n) ∨ (s.ready = true ∧ b < booted + 0x1000000 ∧ booted < b + n)
    let refused (i : Instr) (k : Nat) : Prop := ∃ u : State, exec i s = .next u ∧ u.bit MGT_FL_STAT_ERR = true ∧ u.rd MGT_FL_STAT_CODE = k ∧
      u.outs = told ∧ WordsOnly [stat] s u ∧ Only [.clock, .regs, .outs] s u;
    (¬boots → Idle c s) ∧
    (boots → (code first = 0 → runs first false) ∧ (code first ≠ 0 → code (!first) = 0 → runs (!first) true) ∧
      (code first ≠ 0 → code (!first) ≠ 0 → ∃ u : State, exec c s = .next u ∧ u.rd MGT_BOOT_STATE = 5 ∧ u.bit MGT_BOOT_FALLBACK = true ∧
        u.ready = s.ready ∧ u.rd MGT_BOOT_FAILA = code false ∧ u.rd MGT_BOOT_FAILB = code true ∧ hallmarked u 1 ∧ u.mgt.booting = false ∧
        ⟨.sec, 1, 0, mNone, 7, 0, now, false, false⟩ ∈ u.flt.reports ∧ u.rd (PWR_STATE_STATE 49) = s.rd (PWR_STATE_STATE 49) ∧
        (∀ d, d < 49 → match (u.pwr.trans.filter (fun x => x.dom == d)).getLast? with
          | some x => x.target = 2
          | none => u.rd (PWR_STATE_STATE d) = 2))) ∧
    (∀ e ∈ ([(1, 256, .flashRead t), (2, 256, .flashProgram t), (3, 65536, .flashErase t)] : List (Nat × Nat × Instr)),
      (e.1 ≠ 1 → closed e.2.1 → refused e.2.2 1) ∧
      (e.1 = 1 ∨ ¬closed e.2.1 → s.bit MGT_FL_STAT_BUSY = true → refused e.2.2 2) ∧
      (e.1 = 1 ∨ ¬closed e.2.1 → s.bit MGT_FL_STAT_BUSY = false → a % e.2.1 ≠ 0 → refused e.2.2 3) ∧
      (e.1 = 1 ∨ ¬closed e.2.1 → s.bit MGT_FL_STAT_BUSY = false → a % e.2.1 = 0 → ∃ u : State, exec e.2.2 s = .next u ∧
        u.bit MGT_FL_STAT_BUSY = true ∧ u.mgt = { s.mgt with flashCmd := some ⟨e.1, a, s.rdBytes MGT_FL_BUF 64⟩ } ∧ WordsOnly [stat] s u ∧
        Only [.clock, .regs, .mgt] s u)) ∧
    (s.mgt.flashCmd = none → Idle (.flashComplete t ok) s) ∧
    (∀ k, s.mgt.flashCmd = some k →
      let n := if k.op = 1 then 0 else if k.op = 2 then (if ok then k.data.length else 256) else 65536
      ∃ u : State, exec (.flashComplete t ok) s = .next u ∧ u.mgt.flashCmd = none ∧ u.bit MGT_FL_STAT_BUSY = false ∧ u.outs = told ∧
        (∀ b, (b < k.addr ∨ k.addr + n ≤ b) → u.flashAt b = s.flashAt b) ∧ Only [.clock, .regs, .mgt, .free, .outs] s u ∧
        (ok = true → u.bit MGT_FL_STAT_DONE = true ∧ u.free = s.free ∧
          (k.op = 1 → u.rdBytes MGT_FL_BUF 64 = s.flashBytes k.addr 256) ∧
          (k.op = 2 → ∀ i, i < n → u.flashAt (k.addr + i) = k.data.getD i 0) ∧
          (k.op ≠ 1 → k.op ≠ 2 → ∀ i, i < n → u.flashAt (k.addr + i) = 0xFF)) ∧
        (ok = false → u.bit MGT_FL_STAT_ERR = true ∧ u.rd MGT_FL_STAT_CODE = 4 ∧ u.free = (if k.op = 1 then s.free else s.free + 1) ∧
          ∀ i, i < n → u.flashAt (k.addr + i) = Config.undefByte (2 ^ 40 + k.addr + i) s.free) ∧
        WordsOnly (stat :: (if ok = true ∧ k.op = 1 then (List.range 64).map (fun i => (MGT_FL_BUF i).addr) else [])) s u)

/-- MONITOR_SAMPLE shows its readings; judges each condition of R574 whose domain lets it be checked, which raises its PWR fault when it first arises and is over when the reading
is back; and moves the step of every die by R577: down for heat and for power, to FORCE, or up once all has been calm for 2^20 ticks, never
past the largest step; a die that stays at it with its cause for 2^20 ticks raises an alert. POWER_GOOD_LOSS of a domain whose power-good shows: a Hall is disabled, a job
placed on it quenched, and a PWR fault raised; another domain goes Off, with an alert for a quarter, and with a quenched node for PD40 to PD48; PD49 begins a power-on. INPUT_OVERCURRENT takes the Mill dies to
their largest step and quenches the node. Only the temperature and power causes count as a cause that is still present (the model's choice). -/
def Obligations.MonitorsThrottleAndSupplyFaults : Prop :=
  ∀ (t d : Nat) (m : MonSample) (s : State),
    let now := max s.now t
    let dom (k : Nat) : Nat := s.rd (PWR_STATE_STATE k)
    let temp (i : Nat) : Int := if i < 64 ∧ dom (i / 2) = 2 then 0 else m.temps.getD i 0
    let volt (i : Nat) : Nat := m.volts.getD i 0
    let pwr (level i : Nat) : Report := ⟨.pwr, level, 0, mPower i, 7, 0, now, false, false⟩
    let hall (level : Nat) : Report := ⟨.pwr, level, 0, mHall d, 7, 0, now, false, false⟩
    let judged (u : State) (row i level : Nat) (checked holds : Prop) : Prop :=
      (checked → holds → (row, i) ∈ u.mgt.overT ∧ ((row, i) ∉ s.mgt.overT → pwr level (condMon row i) ∈ u.flt.reports)) ∧
      (checked → ¬holds → (row, i) ∉ u.mgt.overT) ∧ (¬checked → ((row, i) ∈ u.mgt.overT ↔ (row, i) ∈ s.mgt.overT))
    let rail (i : Nat) : Option Nat := if i < 50 then some i else if i < 66 then some 48 else if i < 82 then some (46 + (i - 66) / 8)
      else if i < 90 then some (i - 50) else none
    let place (i : Nat) : Option Nat := if i < 64 then some (i / 2) else if i < 80 then some 40 else if i < 96 then some 41 else none
    let speedAt (i : Nat) : Option Nat := if i < 32 then some i else if i < 48 then none else if i < 56 then some 40 else some 41
    let dieOf (i : Nat) : Nat := if i < 32 then i / 8 else if i < 48 then (i - 32) / 4 else if i < 56 then 4 else 5
    let on (k : Option Nat) : Bool := k.all (fun j => dom j == 0)
    let k (j : Nat) : Nat := s.rd (dieStep j)
    let lim (j : Nat) : Nat := min 10 (if j < 4 then s.rd MGT_THR_MAXSTEP_M else s.rd MGT_THR_MAXSTEP_S)
    let sensors (j : Nat) : List Nat := ((List.range 16).map (· + 16 * j)).filter (fun i => decide (4 ≤ j ∨ dom (i / 2) ≠ 2))
    let thr : Int := 8 * (s.rd MGT_TLIM_THR : Int)
    let plim := min 3400 (s.rd MGT_PLIM_PLIM)
    let hot (j : Nat) : Bool := s.bit MGT_THR_AUTO && (sensors j).any (fun i => decide (thr ≤ temp i))
    let high (j : Nat) : Bool := s.bit MGT_THR_AUTO && decide (j < 4 ∧ plim < m.watts)
    let k0 (j : Nat) : Nat := min (k j) (lim j)
    let k1 (j : Nat) : Nat := if hot j = true ∧ k0 j < lim j then k0 j + 1 else k0 j
    let k2 (j : Nat) : Nat := if high j = true ∧ k1 j < lim j then k1 j + 1 else k1 j
    let force (j : Nat) : Nat := min (lim j) (s.rd MGT_THR_FORCE)
    let k3 (j : Nat) : Nat := max (k2 j) (force j)
    let calm (j : Nat) : Bool := (sensors j).all (fun i => decide (temp i < thr - 8 * (s.rd MGT_TLIM_HYS : Int))) &&
      decide (m.watts + 100 ≤ plim) && decide (force j < k3 j)
    let up (j : Nat) : Bool := match s.mgt.calmSince.getD j none with
      | some c => calm j && decide (k3 j = k0 j ∧ max c (s.mgt.lastStep.getD j 0) + 2 ^ 20 ≤ now)
      | none => false
    let last (u : State) : Prop := match (u.pwr.trans.filter (fun x => x.dom == d)).getLast? with
      | some x => x.target = 2
      | none => u.rd (PWR_STATE_STATE d) = 2
    let job := s.hallPlaced d = true ∧ s.quenched = false;
    (∃ u : State, exec (.monitorSample t m) s = .next u ∧ Only [.clock, .regs, .mgt, .flt] s u ∧
      (∀ i, i < 128 → u.rd (MGT_TEMP_TEMP i) = (temp i % 2 ^ 16).toNat) ∧ (∀ i, i < 96 → u.rd (MGT_VMON_MV i) = volt i % 2 ^ 16) ∧
      (∀ i, i < 64 → u.rd (MGT_SPD_RATE i) = if i < 32 ∧ dom i ≠ 0 then 0 else m.speeds.getD i 0 % 2 ^ 16) ∧
      u.rd MGT_POWER_WATTS = m.watts % 2 ^ 16 ∧ u.rd MGT_POWER_PEAK = max m.watts (s.rd MGT_POWER_PEAK) % 2 ^ 16 ∧
      u.rd PWR_IIN_AMPS = m.amps % 2 ^ 16 ∧ (∀ i, i < 50 → u.rd (PWR_DW_WATTS i) = m.doms.getD i 0 % 2 ^ 16) ∧
      (∀ i, i < 96 → judged u 0 i 1 (on (rail i) = true ∨ ∃ j, rail i = some j ∧ dom j = 1)
          (if on (rail i) = true then volt i < s.rd (MGT_VLIM_LO i) ∨ s.rd (MGT_VLIM_HI i) < volt i else volt i < 520 ∨ 580 < volt i)) ∧
      (∀ i, 90 ≤ i → i < 94 → judged u 1 i 3 True (volt i < 4700 ∨ 5400 < volt i)) ∧
      (∀ i, (i < 96 ∨ (120 ≤ i ∧ i < 128)) → judged u 2 i 3 (on (place i) = true) (8 * (min 110 (s.rd MGT_TLIM_CRIT) : Int) ≤ temp i)) ∧
      (∀ i, 96 ≤ i → i < 112 → judged u 3 i 1 (dom 48 = 0) (720 ≤ temp i)) ∧
      (∀ h, h < 8 → judged u 4 h 2 (dom (46 + h / 4) = 0) (95 < m.stackT.getD h 0)) ∧
      (∀ h, h < 8 → judged u 5 h 3 (dom (46 + h / 4) = 0) (105 ≤ m.stackT.getD h 0)) ∧
      (∀ i, i < 64 → judged u 7 i 1 (on (speedAt i) = true)
          (m.speeds.getD i 0 < 1700 ∧ k (dieOf i) = 0 ∧ s.mgt.lastStep.getD (dieOf i) 0 + 2 ^ 20 ≤ now)) ∧
      (∀ j, j < 6 → u.rd (dieStep j) = if up j then k3 j - 1 else k3 j) ∧
      ((∃ j, j < 6 ∧ k0 j < k3 j) → u.mgt.throttled = true ∧ (s.mgt.throttled = false → ∃ i, i < 96 ∧ pwr 0 i ∈ u.flt.reports)) ∧
      ((∀ j, j < 6 → k3 j = k0 j) → u.mgt.throttled = s.mgt.throttled ∧ u.rd MGT_THRCNT = s.rd MGT_THRCNT) ∧
      (∀ j c, j < 6 → hot j = true ∨ high j = true → 0 < k3 j → k3 j = lim j → s.mgt.maxSince.getD j none = some c → c + 2 ^ 20 ≤ now →
        (6, j) ∈ u.mgt.overT ∧ ((6, j) ∉ s.mgt.overT → pwr 1 (dieMon j) ∈ u.flt.reports))) ∧
    (49 ≤ d → s.pwr.input = false → Idle (.powerGoodLoss t d) s) ∧
    (49 ≤ d → s.pwr.input = true → ∃ u : State, exec (.powerGoodLoss t d) s = .next u ∧ u.now = 0 ∧ u.nodeState = stUncast ∧ u.ready = false ∧
      u.rd (PWR_STATE_STATE 49) = 0 ∧ u.rd MGT_RSTCAUSE_CAUSE = 0 ∧ u.mgt.flash = s.mgt.flash) ∧
    (d < 49 → s.bit (PWR_STATE_PGOOD d) = false → Idle (.powerGoodLoss t d) s) ∧
    (d < 49 → s.bit (PWR_STATE_PGOOD d) = true → ∃ u : State, exec (.powerGoodLoss t d) s = .next u ∧ u.bit (PWR_STATE_PGOOD d) = false ∧
      d ∈ u.pwr.faulted ∧
      (d < 32 → u.hallOn d = false ∧ (∀ h, h < 32 → h ≠ d → u.hallOn h = s.hallOn h) ∧ (job → hall 2 ∈ u.flt.reports) ∧ (¬job → hall 1 ∈ u.flt.reports) ∧
        (s.hallOn d = true → last u ∧ (∃ g ∈ u.sec.wait, g.tick = now ∧ ∃ r ∈ g.recs, r.ty = 0xB) ∧ (job → u.quenched = true))) ∧
      (32 ≤ d → last u) ∧ (32 ≤ d → d < 40 → pwr 1 d ∈ u.flt.reports ∧ (∀ a, u.byteAt a = s.byteAt a) ∧ u.cst = s.cst) ∧ (40 ≤ d → pwr 3 d ∈ u.flt.reports ∧ u.nodeQuenched = true)) ∧
    (∃ u : State, exec (.inputOvercurrent t) s = .next u ∧ (∀ j, j < 4 → u.rd (dieStep j) = max (k j) (lim j)) ∧
      pwr 3 0 ∈ u.flt.reports ∧ u.nodeQuenched = true ∧ (∀ j, j < 256 → u.rd (LK_STAT_STATE j) = 0))

/-- A warm reset (OP 1 with the KEY, or RST_N low, which also holds it) shows its cause and counts; the node is UNCAST with nothing staged, its streams, schedules
and collectives as at reset, ports DOWN and counted, READY 0; HBM, flash, hallmarks, the FLT block but NODEQ, HOLD and an injection, and the SEC block but the export
fields are kept; after a boot that got through, each Hall passes through Off and, enabled, to On. Another KEY is refused, another OP does nothing. RST_N_RELEASE starts the boot that
it held. PORT_RESET takes the port down with cause RESET and clears its counters and its lanes' checkers. HALL_RESET of an enabled Hall quenches a job placed there, clears the Hall's
NUM_BFLAGS and takes it through Off to On; of another it sets REF. POWER_ON_SEQUENCE starts the clock at 0 with memory zero, PD49 On and, unless RST_N is low, PD42 and PD43 on their way;
POWER_DOWN leaves every domain Off. Both keep the fuses and the flash. What a register that no rule names shows after a reset is the model's choice (log 6). -/
def Obligations.ResetsKeepWhatTheyMust : Prop :=
  ∀ (t k op key : Nat) (p : Path) (s : State),
    let now := max s.now t
    let lastOf (u : State) (d : Nat) : Option Nat := ((u.pwr.trans.filter (fun x => x.dom == d)).getLast?).map (·.target)
    let full : Bool := s.mgt.train || s.rd MGT_BOOT_STATE == 5
    let r := State.reset
    let warmed (u : State) (cause : Nat) (held : Bool) : Prop :=
      u.now = now ∧ u.rd MGT_RSTCAUSE_CAUSE = cause ∧ u.rd MGT_RSTCAUSE_WARMS = min (s.rd MGT_RSTCAUSE_WARMS + 1) (2 ^ 16 - 1) ∧ u.ready = false ∧
      u.nodeState = stUncast ∧ u.phase? = phIdle ∧ u.cst = r.cst ∧ u.tg = r.tg ∧ u.det = r.det ∧ u.benches = r.benches ∧ u.mill = r.mill ∧ u.coll = r.coll ∧
      u.temper = r.temper ∧ u.stock = r.stock ∧ u.sec = s.sec ∧ u.outs = s.outs ∧ u.pending = s.pending ∧ u.mgt.flash = s.mgt.flash ∧
      u.mgt.booting = !held ∧ u.mgt.held = held ∧ u.mgt.warm = true ∧ u.mgt.train = full ∧
      (∀ a, a < hbmEnd → u.byteAt a = s.byteAt a) ∧ u.bit FLT_STAT_NODEQ = false ∧ u.bit FLT_CTRL_HOLD = false ∧ u.bit FLT_INJ_LEFT_ARMED = false ∧
      (∀ a, 0x100000 ≤ a → a < 0x140000 → a ∉ [FLT_STAT_NODEQ.addr, FLT_CTRL_HOLD.addr, FLT_INJ_LEFT_LEFT.addr] → u.word a = s.word a) ∧
      (∀ a, 0x140000 ≤ a → a < 0x180000 → a ∉ [SEC_EXPCTL_EN.addr, SEC_EXPSIZE_SIZE.addr, SEC_EXPBASE_LO.addr, SEC_EXPBASE_HI.addr, SEC_EXPRD_LO.addr,
        SEC_EXPRD_HI.addr] → u.word a = s.word a) ∧
      (∀ j, j < 256 → u.rd (LK_STAT_STATE j) = 0 ∧ u.rd (LK_STAT_DOWNS j) =
        (if s.rd (LK_STAT_STATE j) = 0 then s.rd (LK_STAT_DOWNS j) else min (s.rd (LK_STAT_DOWNS j) + 1) (2 ^ (LK_STAT_DOWNS j).width - 1))) ∧
      (full = false → (∀ h, h < 32 → (u.hallOn h = true → lastOf u h = some 0) ∧
          (u.hallOn h = false → lastOf u h = some 2 ∨ (lastOf u h = none ∧ u.rd (PWR_STATE_STATE h) = 2))) ∧
        (s.pwr.trans = [] → ∀ d, 32 ≤ d → d < 50 → u.rd (PWR_STATE_STATE d) = s.rd (PWR_STATE_STATE d)))
    let j := k % 256
    let h := k % 32
    let counters := [(LK_CORR_LO j).addr, (LK_CORR_HI j).addr, (LK_UNCORR j).addr, (LK_BAD j).addr, (LK_REPLAY j).addr, (LK_NAK j).addr, (LK_GAP j).addr,
      (LK_CSYM j).addr]
    let fused (u : State) : Prop := u.pending = s.pending ∧ u.outs = s.outs ∧ u.mgt.flash = s.mgt.flash ∧ u.sec.ownerDig = s.sec.ownerDig ∧
      u.sec.fwKeyDig = s.sec.fwKeyDig ∧ u.rd MGT_SERIAL_LO = s.rd MGT_SERIAL_LO ∧ u.rd MGT_SERIAL_HI = s.rd MGT_SERIAL_HI ∧
      u.bit SEC_STAT_OWNED = s.bit SEC_STAT_OWNED ∧ u.rd SEC_STAT_KBMIN = s.rd SEC_STAT_KBMIN ∧ u.rd SEC_STAT_FWMIN = s.rd SEC_STAT_FWMIN ∧
      u.word MIL_HALL_FUSE.addr = s.word MIL_HALL_FUSE.addr ∧ u.nodeState = stUncast ∧ u.ready = false ∧ u.now = 0 ∧ (∀ a, u.byteAt a = 0) ∧
      u.rd64 SEC_HEADCNT_LO = 0 ∧ (∀ i, i < 8 → u.rd (SEC_HEAD i) = 0) ∧ u.benches = [] ∧ u.sec.wait = [];
    (key ≠ 0x5A → ∃ u : State, exec (.warmResetWrite t p op key) s = .next u ∧ u.bit CST_ERR_WRITE_REF = true ∧ WordsOnly [CST_ERR_WRITE_REF.addr] s u ∧
      u.flt.reports = s.flt.reports ++ [⟨.sw, 0, 0, p.master, 3, 0, now, false, false⟩] ∧ Only [.clock, .regs, .flt] s u) ∧
    (key = 0x5A → op ≠ 1 → Idle (.warmResetWrite t p op key) s) ∧
    (key = 0x5A → op = 1 → ∃ u : State, exec (.warmResetWrite t p op key) s = .next u ∧ warmed u (if p = .bc then 3 else 2) s.mgt.held ∧
      u.mgt.rstLow = s.mgt.rstLow) ∧
    (s.pwr.input = true → ∃ u : State, exec (.rstNAssert t) s = .next u ∧ warmed u 1 true ∧ u.mgt.rstLow = some now) ∧
    (s.pwr.input = false → ∃ u : State, exec (.rstNAssert t) s = .next u ∧ u.mgt = { s.mgt with rstLow := some now } ∧ Only [.clock, .mgt] s u) ∧
    (∃ u : State, exec (.rstNRelease t) s = .next u ∧ u.mgt = { s.mgt with rstLow := none, held := false, booting := s.mgt.booting || s.mgt.held } ∧
      (s.mgt.held = false ∨ s.mgt.train = false ∨ s.pwr.input = false → Only [.clock, .mgt] s u)) ∧
    (∃ u : State, exec (.portReset t k) s = .next u ∧ (∀ a ∈ counters, u.word a = regReset a) ∧
      (∀ n, 4 * j ≤ n → n < 4 * j + 4 → u.rd64 (LN_SYM_LO n) = 0 ∧ u.rd (LN_SERR n) = 0 ∧ u.rd (LN_BERR n) = 0) ∧
      (∀ i, i < 256 → i ≠ j → u.rd (LK_STAT_STATE i) = s.rd (LK_STAT_STATE i)) ∧ u.rd (LK_STAT_STATE j) ≤ 2 ∧
      (s.bit (LK_CTRL_ADMIN j) = false ∨ s.nodeQuenched = true → u.rd (LK_STAT_STATE j) = 0) ∧
      (s.rd (LK_STAT_STATE j) ≠ 0 → u.rd (LK_STAT_CAUSE j) = 13 ∧ u.bit (TG_LDLY_VALID j) = false ∧ (u.port j).txHeld = [] ∧
        u.rd (LK_STAT_DOWNS j) = min (s.rd (LK_STAT_DOWNS j) + 1) (2 ^ (LK_STAT_DOWNS j).width - 1)) ∧
      (s.rd (LK_STAT_STATE j) = 0 → u.rd (LK_STAT_CAUSE j) = s.rd (LK_STAT_CAUSE j) ∧ u.rd (LK_STAT_DOWNS j) = s.rd (LK_STAT_DOWNS j)) ∧
      Only [.clock, .regs, .fab, .tg, .flt, .outs] s u) ∧
    (s.hallOn h = false → ∃ u : State, exec (.hallReset t k) s = .next u ∧ u.bit MGT_HRST_REF = true ∧ WordsOnly [MGT_HRST_REF.addr] s u ∧
      Only [.clock, .regs] s u) ∧
    (s.hallOn h = true → ∃ u : State, exec (.hallReset t k) s = .next u ∧ lastOf u h = some 0 ∧ u.hallMap = s.hallMap ∧
      (∀ b, b < 32 → u.word (NUM_BFLAGS_T_INVALID (32 * h + b)).addr = regReset (NUM_BFLAGS_T_INVALID (32 * h + b)).addr) ∧
      (s.rd (PWR_STATE_STATE h) = 0 → s.pwr.trans = [] → u.rd (PWR_STATE_STATE h) = 3 ∧ u.rd (PWR_STATE_TARGET h) = 2) ∧
      (s.hallPlaced h = true → s.quenched = false → u.quenched = true ∧ ⟨.sw, 2, 0, mHall h, 7, 0, now, false, false⟩ ∈ u.flt.reports) ∧
      (s.hallPlaced h = false ∨ s.quenched = true → u.quenched = s.quenched ∧ u.cst = s.cst ∧ u.mem = s.mem)) ∧
    (s.pwr.input = true → Idle .powerOnSequence s) ∧
    (s.pwr.input = false → ∃ u : State, exec .powerOnSequence s = .next u ∧ fused u ∧ u.pwr.input = true ∧ u.mgt.train = true ∧
      u.bit PWR_SEQ_UVLO = true ∧ u.rd (PWR_STATE_STATE 49) = 0 ∧ u.mgt.rstLow = s.mgt.rstLow ∧
      (s.mgt.rstLow = none → u.mgt.booting = true ∧ u.mgt.held = false ∧ u.rd PWR_SEQ_STEP = 3 ∧
        (∀ d, d < 49 → u.rd (PWR_STATE_STATE d) = if d = 42 ∨ d = 43 then 3 else 2)) ∧
      (s.mgt.rstLow ≠ none → u.mgt.booting = false ∧ u.mgt.held = true ∧ u.rd PWR_SEQ_STEP = 1 ∧ (∀ d, d < 49 → u.rd (PWR_STATE_STATE d) = 2))) ∧
    (s.pwr.input = false → Idle (.powerDown t) s) ∧
    (s.pwr.input = true → ∃ u : State, exec (.powerDown t) s = .next u ∧ fused u ∧ u.pwr.input = false ∧ (∀ d, d < 50 → u.rd (PWR_STATE_STATE d) = 2))

/-- A power request of a ready node is refused with the lowest code of R594 that holds, but FIXED first (the model's choice), which PWR_ERR shows with the domain; one for the state the domain has does
nothing else; any other is accepted: REQ shows it and the transition waits or begins. DOMAIN_TRANSITION_START loses and reorders nothing; a transition that begins shows transit and its target; each
away from On whose users have all left On begins, and one to On only while what its domain needs is On. The lowest waiting one to On
begins where the power of the last 16,000 ticks allows. DOMAIN_TRANSITION_DONE, where nothing waits behind it and no boot sequence goes on, leaves the domain in its target
with its cause and power-good; one that went Off has lost its contents (shown for the memories, which read zero), one that came On is counted and its stacks and engines are ready. With none under way
and no boot sequence it changes nothing. -/
def Obligations.DomainsMoveAsAsked : Prop :=
  ∀ (t d : Nat) (p : Path) (s : State),
    let now := max s.now t
    let dom (k : Nat) : Nat := s.rd (PWR_STATE_STATE k)
    let onOrComing (k : Nat) : Bool := dom k == 0 || (dom k == 3 && s.rd (PWR_STATE_TARGET k) == 0)
    let moving := (s.transOf d).isSome
    let code (q : Nat) : Nat :=
      if 49 ≤ d then 6
      else if dom d = 3 ∨ moving = true then 1
      else if dom d = q then 0
      else if d < 32 ∧ ((s.hallOn d = false ∧ q ≠ 2) ∨ (s.hallPlaced d = true ∧ (q = 1 ∨ q = 2))) then 2
      else if q = 3 ∨ (dom d = 2 ∧ q = 1) then 3
      else if (q = 0 ∧ (powerNeeds d).any (fun k => dom k != 0) = true) ∨ (q ≠ 0 ∧ dom d = 0 ∧ (powerUsers d).any onOrComing = true) then 4
      else if q ≠ 0 ∧ ((32 ≤ d ∧ d < 40) ∨ d = 48) ∧ (domPorts d).any (fun k => !s.portHeld k) = true then 5
      else if (q ≠ 0 ∧ ((40 ≤ d ∧ d < 48 ∧ s.nodeState ≠ stUncast) ∨ s.nodeQuenched = true)) ∨ (q = 0 ∧ d ∈ s.pwr.faulted) then 7
      else 0
    let named (x : Trans) : Nat × Nat × Nat := (x.dom, x.target, x.cause)
    let power (x : Trans) : Nat := s.domPower x.dom 0 - s.domPower x.dom (if s.bit (PWR_STATE_PGOOD x.dom) then 1 else 2)
    let recent := ((s.pwr.starts.filter (fun e => decide (now < e.1 + 16000))).map (·.2)).sum
    let seq := s.pwr.input = true ∧ s.mgt.booting = true ∧ s.mgt.train = true ∧ s.mgt.held = false;
    (∀ e ∈ ([(0, .powerReqOn t p d), (1, .powerReqRetain t p d), (2, .powerReqOff t p d), (3, .powerReqIllegal t p d)] : List (Nat × Instr)),
      (s.ready = false → Idle e.2 s) ∧
      (s.ready = true →
        (code e.1 ≠ 0 → ∃ u : State, exec e.2 s = .next u ∧ u.bit PWR_ERR_REF = true ∧ u.rd PWR_ERR_CODE = code e.1 ∧
          u.rd PWR_ERR_DOMAIN = d % 2 ^ PWR_ERR_DOMAIN.width ∧ u.bit CST_ERR_WRITE_REF = true ∧
          u.flt.reports = s.flt.reports ++ [⟨.sw, 0, 0, p.master, 3, 0, now, false, false⟩] ∧
          WordsOnly [PWR_ERR_CODE.addr, CST_ERR_WRITE_REF.addr] s u ∧ Only [.clock, .regs, .flt] s u) ∧
        (code e.1 = 0 → dom d = e.1 → ∃ u : State, exec e.2 s = .next u ∧ u.rd (PWR_CTRL_REQ d) = e.1 ∧ WordsOnly [(PWR_CTRL_REQ d).addr] s u ∧
          Only [.clock, .regs] s u) ∧
        (code e.1 = 0 → dom d ≠ e.1 → ∃ u : State, exec e.2 s = .next u ∧ u.rd (PWR_CTRL_REQ d) = e.1 ∧
          u.pwr.trans.map named = s.pwr.trans.map named ++ [(d, e.1, 1)] ∧ Only [.clock, .regs, .fab, .tg, .flt, .outs, .pwr] s u))) ∧
    (∃ u : State, exec (.domainTransitionStart t) s = .next u ∧ u.pwr.trans.map named = s.pwr.trans.map named ∧
      u.pwr.faulted = s.pwr.faulted ∧ u.pwr.input = s.pwr.input ∧ Only [.clock, .regs, .fab, .tg, .flt, .outs, .pwr] s u ∧
      (∀ e ∈ s.pwr.trans.zip u.pwr.trans, e.1.start ≠ e.2.start → e.1.start = none ∧ e.2.start = some now ∧
        (e.1.dom < 50 → u.rd (PWR_STATE_STATE e.1.dom) = 3 ∧ u.rd (PWR_STATE_TARGET e.1.dom) = e.1.target % 4) ∧
        (e.1.target = 0 → ∀ k ∈ powerNeeds e.1.dom, dom k = 0) ∧
        (e.1.target ≠ 0 → e.1.cause ≠ 4 → ∀ k ∈ powerUsers e.1.dom, u.rd (PWR_STATE_STATE k) ≠ 0)) ∧
      (∀ x, s.transOf x.dom = some x → x.start = none → x.target ≠ 0 → x.cause = 4 ∨ (∀ k ∈ powerUsers x.dom, dom k ≠ 0) →
        ∃ y ∈ u.pwr.trans, named y = named x ∧ y.start = some now) ∧
      (∀ x, s.pwr.trans = [x] → x.start = none → x.target = 0 → x.dom < 50 →
        ((∀ k ∈ powerNeeds x.dom, dom k = 0) → recent + power x ≤ 10000 →
          u.pwr.trans = [{ x with start := some now }] ∧ u.pwr.starts = s.pwr.starts.filter (fun e => decide (now < e.1 + 16000)) ++ [(now, power x)]) ∧
        ((∃ k ∈ powerNeeds x.dom, dom k ≠ 0) ∨ 10000 < recent + power x → u.pwr = s.pwr ∧ ∀ a, u.word a = s.word a))) ∧
    (¬seq → (∀ x ∈ s.pwr.trans, x.dom = d → x.start = none) →
      Idle (.domainTransitionDone t d) s) ∧
    (¬seq → d < 50 → ∀ x, s.pwr.trans = [x] → x.dom = d → x.start.isSome = true → x.target < 3 →
      ∃ u : State, exec (.domainTransitionDone t d) s = .next u ∧ u.rd (PWR_STATE_STATE d) = x.target ∧ u.rd (PWR_STATE_TARGET d) = 0 ∧
        u.rd (PWR_STATE_CAUSE d) = x.cause % 8 ∧ u.bit (PWR_STATE_PGOOD d) = decide (x.target ≠ 2) ∧ u.pwr = { s.pwr with trans := [] } ∧
        (∀ k, k < 50 → k ≠ d → u.rd (PWR_STATE_STATE k) = dom k) ∧
        (x.target = 0 → u.rd (PWR_STATE_WAKES d) = min (s.rd (PWR_STATE_WAKES d) + 1) (2 ^ 16 - 1) ∧ u.mem = s.mem ∧
          (46 ≤ d → d < 48 → ∀ i, i < 4 → u.bit (MEM_HSTAT_READY (4 * (d - 46) + i)) = true) ∧ (d = 48 → ∀ n, n < 16 → u.bit (LN_ESTAT_READY n) = true)) ∧
        (x.target ≠ 0 → u.rd (PWR_STATE_WAKES d) = s.rd (PWR_STATE_WAKES d)) ∧
        (x.target = 1 → WordsOnly [(PWR_STATE_STATE d).addr] s u ∧ Only [.clock, .regs, .pwr] s u) ∧
        (x.target = 2 → s.msys.undef = [] → Canonical s → ∀ lo n, (42 ≤ d ∧ d < 44 ∧ lo = ingotBase + (d - 42) * 2 ^ 28 ∧ n = 2 ^ 28) ∨
            (46 ≤ d ∧ d < 48 ∧ lo = 4 * (d - 46) * stackSize ∧ n = 4 * stackSize) →
          (∀ a, lo ≤ a → a < lo + n → u.byteAt a = 0 ∧ u.errAt a = none) ∧ BytesOnly lo n s u))
end

