-- ==== Sys2Proof/Laws/Sparse.lean ====
section
/-! SUPPORT. The laws of sparse maps: a read after a write, and the canonical form. -/

namespace Sys2Proof.Machine

variable {α : Type}

theorem Sparse.get_put (d : Nat → α) (m : List (Nat × α)) (k j : Nat) (v : α) :
    Sparse.get d (Sparse.put m k v) j = if k = j then v else Sparse.get d m j := by
  induction m with
  | nil => simp [Sparse.put, Sparse.get]
  | cons e m ih =>
    simp only [Sparse.put]
    by_cases h : e.1 = k
    · rw [if_pos h]
      by_cases hj : k = j
      · simp [Sparse.get, hj]
      · have h2 : e.1 ≠ j := h ▸ hj
        simp [Sparse.get, hj, h2]
    · rw [if_neg h]
      by_cases hk : k < e.1
      · rw [if_pos hk]
        by_cases hj : k = j <;> simp [Sparse.get, hj]
      · rw [if_neg hk]
        by_cases hj : e.1 = j
        · have : k ≠ j := fun c => h (hj.trans c.symm)
          simp [Sparse.get, hj, this]
        · simp [Sparse.get, hj, ih]

theorem Sparse.get_del (d : Nat → α) (m : List (Nat × α)) (k j : Nat) :
    Sparse.get d (Sparse.del m k) j = if k = j then d j else Sparse.get d m j := by
  induction m with
  | nil => simp [Sparse.del, Sparse.get]
  | cons e m ih =>
    by_cases h : e.1 = k
    · by_cases hj : k = j
      · simp_all [Sparse.del]
      · have : e.1 ≠ j := by rw [h]; exact hj
        simp_all [Sparse.del, Sparse.get]
    · by_cases hj : k = j
      · have : e.1 ≠ j := by rw [← hj]; exact h
        simp_all [Sparse.del, Sparse.get]
      · by_cases he : e.1 = j <;> simp_all [Sparse.del, Sparse.get]

/-- A read after a write gives the value written at that key and the old value at every other. -/
theorem Sparse.get_set [DecidableEq α] (d : Nat → α) (m : List (Nat × α)) (k j : Nat) (v : α) :
    Sparse.get d (Sparse.set d m k v) j = if k = j then v else Sparse.get d m j := by
  unfold Sparse.set
  split
  · rename_i h
    rw [Sparse.get_del]
    split
    · rename_i hj; rw [h, hj]
    · rfl
  · exact Sparse.get_put d m k j v

@[simp] theorem Sparse.get_set_same [DecidableEq α] (d : Nat → α) (m : List (Nat × α)) (k : Nat) (v : α) :
    Sparse.get d (Sparse.set d m k v) k = v := by simp [Sparse.get_set]

theorem Sparse.get_set_ne [DecidableEq α] (d : Nat → α) (m : List (Nat × α)) {k j : Nat} (v : α)
    (h : k ≠ j) : Sparse.get d (Sparse.set d m k v) j = Sparse.get d m j := by
  simp [Sparse.get_set, h]

theorem Sparse.above_mono {k j : Nat} (h : j ≤ k) (m : List (Nat × α)) :
    Sparse.above k m = true → Sparse.above j m = true := by
  induction m with
  | nil => simp [Sparse.above]
  | cons e m ih => simp [Sparse.above]; intro a b; exact ⟨by omega, ih b⟩

theorem Sparse.above_put {j k : Nat} (v : α) (m : List (Nat × α)) (hk : j < k) :
    Sparse.above j m = true → Sparse.above j (Sparse.put m k v) = true := by
  induction m with
  | nil => simp [Sparse.above, Sparse.put, hk]
  | cons e m ih =>
    simp only [Sparse.put]
    split
    · simp [Sparse.above, hk]
    · split
      · simp_all [Sparse.above]
      · simp [Sparse.above]; intro a b; exact ⟨a, ih b⟩

theorem Sparse.above_del {j : Nat} (k : Nat) (m : List (Nat × α)) :
    Sparse.above j m = true → Sparse.above j (Sparse.del m k) = true := by
  induction m with
  | nil => simp [Sparse.del, Sparse.above]
  | cons e m ih =>
    simp only [Sparse.del]
    split
    · simp [Sparse.above]; intro _ b; exact ih b
    · simp [Sparse.above]; intro a b; exact ⟨a, ih b⟩

theorem Sparse.wf_put [DecidableEq α] (d : Nat → α) (m : List (Nat × α)) (k : Nat) (v : α)
    (hv : v ≠ d k) : Sparse.wf d m = true → Sparse.wf d (Sparse.put m k v) = true := by
  induction m with
  | nil => simp [Sparse.put, Sparse.wf, Sparse.above, hv]
  | cons e m ih =>
    simp only [Sparse.put]
    split
    · rename_i h; simp [Sparse.wf]; intro _ b c; exact ⟨⟨hv, h ▸ b⟩, c⟩
    · split
      · rename_i h; simp [Sparse.wf, Sparse.above, hv, h]; intro a b c
        exact ⟨Sparse.above_mono (by omega) m b, ⟨a, b⟩, c⟩
      · rename_i h1 h2
        simp [Sparse.wf]; intro a b c
        exact ⟨⟨a, Sparse.above_put v m (by omega) b⟩, ih c⟩

theorem Sparse.wf_del [DecidableEq α] (d : Nat → α) (m : List (Nat × α)) (k : Nat) :
    Sparse.wf d m = true → Sparse.wf d (Sparse.del m k) = true := by
  induction m with
  | nil => simp [Sparse.del, Sparse.wf]
  | cons e m ih =>
    simp only [Sparse.del]
    split
    · simp [Sparse.wf]; intro _ _ c; exact ih c
    · simp [Sparse.wf]; intro a b c; exact ⟨⟨a, Sparse.above_del k m b⟩, ih c⟩

/-- Every write keeps the canonical form. -/
theorem Sparse.wf_set [DecidableEq α] (d : Nat → α) (m : List (Nat × α)) (k : Nat) (v : α)
    (h : Sparse.wf d m = true) : Sparse.wf d (Sparse.set d m k v) = true := by
  unfold Sparse.set
  split
  · exact Sparse.wf_del d m k h
  · rename_i hv; exact Sparse.wf_put d m k v hv h

theorem Sparse.wf_setList [DecidableEq α] (d : Nat → α) (vs : List α) :
    ∀ (m : List (Nat × α)) (k : Nat), Sparse.wf d m = true → Sparse.wf d (Sparse.setList d m k vs) = true := by
  induction vs with
  | nil => intro m k h; simpa [Sparse.setList] using h
  | cons v vs ih => intro m k h; exact ih _ _ (Sparse.wf_set d m k v h)

/-- A key below the first written one or past the last keeps its value. -/
theorem Sparse.get_setList_out [DecidableEq α] (d : Nat → α) (vs : List α) :
    ∀ (m : List (Nat × α)) (k j : Nat), (j < k ∨ k + vs.length ≤ j) →
      Sparse.get d (Sparse.setList d m k vs) j = Sparse.get d m j := by
  induction vs with
  | nil => intro m k j _; rfl
  | cons v vs ih =>
    intro m k j h
    have h' : j < k + 1 ∨ k + 1 + vs.length ≤ j := by
      simp at h; omega
    have hne : k ≠ j := by simp at h; omega
    simp only [Sparse.setList]
    rw [ih _ _ _ h', Sparse.get_set_ne d m v hne]

/-- Each written key reads the value written there. -/
theorem Sparse.get_setList_in [DecidableEq α] (d : Nat → α) (vs : List α) :
    ∀ (m : List (Nat × α)) (k i : Nat) (h : i < vs.length),
      Sparse.get d (Sparse.setList d m k vs) (k + i) = vs[i] := by
  induction vs with
  | nil => intro m k i h; simp at h
  | cons v vs ih =>
    intro m k i h
    cases i with
    | zero =>
      simp only [Sparse.setList, Nat.add_zero, List.getElem_cons_zero]
      rw [Sparse.get_setList_out d vs _ _ _ (Or.inl (by omega))]; simp
    | succ i =>
      simp only [Sparse.setList, List.getElem_cons_succ]
      have := ih (Sparse.set d m k v) (k + 1) i (by simpa using h)
      rw [← this]; congr 1; omega

end Sys2Proof.Machine
end

