-- ==== Sys2Proof/Laws/State.lean ====
section
/-! SUPPORT. What each named update of the state leaves of every field, one lemma per field and update, so that no proof unfolds
a record update. -/

namespace Sys2Proof.Machine

variable (s : State)

@[simp] theorem State.setWord_pending (a : Nat) (v : Word) : (s.setWord a v).pending = s.pending := rfl
@[simp] theorem State.setWord_now (a : Nat) (v : Word) : (s.setWord a v).now = s.now := rfl
@[simp] theorem State.setWord_tickSets (a : Nat) (v : Word) : (s.setWord a v).tickSets = s.tickSets := rfl
@[simp] theorem State.setWord_mem (a : Nat) (v : Word) : (s.setWord a v).mem = s.mem := rfl
@[simp] theorem State.setWord_errs (a : Nat) (v : Word) : (s.setWord a v).errs = s.errs := rfl
@[simp] theorem State.setWord_free (a : Nat) (v : Word) : (s.setWord a v).free = s.free := rfl
@[simp] theorem State.setWord_outs (a : Nat) (v : Word) : (s.setWord a v).outs = s.outs := rfl
@[simp] theorem State.setWord_cst (a : Nat) (v : Word) : (s.setWord a v).cst = s.cst := rfl
@[simp] theorem State.setWord_tg (a : Nat) (v : Word) : (s.setWord a v).tg = s.tg := rfl
@[simp] theorem State.setWord_flt (a : Nat) (v : Word) : (s.setWord a v).flt = s.flt := rfl
@[simp] theorem State.setWord_sec (a : Nat) (v : Word) : (s.setWord a v).sec = s.sec := rfl
@[simp] theorem State.setWord_mgt (a : Nat) (v : Word) : (s.setWord a v).mgt = s.mgt := rfl
@[simp] theorem State.setWord_pwr (a : Nat) (v : Word) : (s.setWord a v).pwr = s.pwr := rfl
@[simp] theorem State.setWord_det (a : Nat) (v : Word) : (s.setWord a v).det = s.det := rfl
@[simp] theorem State.setWord_msys (a : Nat) (v : Word) : (s.setWord a v).msys = s.msys := rfl
@[simp] theorem State.setWord_benches (a : Nat) (v : Word) : (s.setWord a v).benches = s.benches := rfl
@[simp] theorem State.setWord_mill (a : Nat) (v : Word) : (s.setWord a v).mill = s.mill := rfl
@[simp] theorem State.setWord_fab (a : Nat) (v : Word) : (s.setWord a v).fab = s.fab := rfl
@[simp] theorem State.setWord_coll (a : Nat) (v : Word) : (s.setWord a v).coll = s.coll := rfl
@[simp] theorem State.setWord_temper (a : Nat) (v : Word) : (s.setWord a v).temper = s.temper := rfl
@[simp] theorem State.setWord_stock (a : Nat) (v : Word) : (s.setWord a v).stock = s.stock := rfl

@[simp] theorem State.wr_pending (f : Fld) (v : Nat) : (s.wr f v).pending = s.pending := rfl
@[simp] theorem State.wr_now (f : Fld) (v : Nat) : (s.wr f v).now = s.now := rfl
@[simp] theorem State.wr_tickSets (f : Fld) (v : Nat) : (s.wr f v).tickSets = s.tickSets := rfl
@[simp] theorem State.wr_mem (f : Fld) (v : Nat) : (s.wr f v).mem = s.mem := rfl
@[simp] theorem State.wr_errs (f : Fld) (v : Nat) : (s.wr f v).errs = s.errs := rfl
@[simp] theorem State.wr_free (f : Fld) (v : Nat) : (s.wr f v).free = s.free := rfl
@[simp] theorem State.wr_outs (f : Fld) (v : Nat) : (s.wr f v).outs = s.outs := rfl
@[simp] theorem State.wr_cst (f : Fld) (v : Nat) : (s.wr f v).cst = s.cst := rfl
@[simp] theorem State.wr_tg (f : Fld) (v : Nat) : (s.wr f v).tg = s.tg := rfl
@[simp] theorem State.wr_flt (f : Fld) (v : Nat) : (s.wr f v).flt = s.flt := rfl
@[simp] theorem State.wr_sec (f : Fld) (v : Nat) : (s.wr f v).sec = s.sec := rfl
@[simp] theorem State.wr_mgt (f : Fld) (v : Nat) : (s.wr f v).mgt = s.mgt := rfl
@[simp] theorem State.wr_pwr (f : Fld) (v : Nat) : (s.wr f v).pwr = s.pwr := rfl
@[simp] theorem State.wr_det (f : Fld) (v : Nat) : (s.wr f v).det = s.det := rfl
@[simp] theorem State.wr_msys (f : Fld) (v : Nat) : (s.wr f v).msys = s.msys := rfl
@[simp] theorem State.wr_benches (f : Fld) (v : Nat) : (s.wr f v).benches = s.benches := rfl
@[simp] theorem State.wr_mill (f : Fld) (v : Nat) : (s.wr f v).mill = s.mill := rfl
@[simp] theorem State.wr_fab (f : Fld) (v : Nat) : (s.wr f v).fab = s.fab := rfl
@[simp] theorem State.wr_coll (f : Fld) (v : Nat) : (s.wr f v).coll = s.coll := rfl
@[simp] theorem State.wr_temper (f : Fld) (v : Nat) : (s.wr f v).temper = s.temper := rfl
@[simp] theorem State.wr_stock (f : Fld) (v : Nat) : (s.wr f v).stock = s.stock := rfl

@[simp] theorem State.wrBit_pending (f : Fld) (b : Bool) : (s.wrBit f b).pending = s.pending := rfl
@[simp] theorem State.wrBit_now (f : Fld) (b : Bool) : (s.wrBit f b).now = s.now := rfl
@[simp] theorem State.wrBit_tickSets (f : Fld) (b : Bool) : (s.wrBit f b).tickSets = s.tickSets := rfl
@[simp] theorem State.wrBit_mem (f : Fld) (b : Bool) : (s.wrBit f b).mem = s.mem := rfl
@[simp] theorem State.wrBit_errs (f : Fld) (b : Bool) : (s.wrBit f b).errs = s.errs := rfl
@[simp] theorem State.wrBit_free (f : Fld) (b : Bool) : (s.wrBit f b).free = s.free := rfl
@[simp] theorem State.wrBit_outs (f : Fld) (b : Bool) : (s.wrBit f b).outs = s.outs := rfl
@[simp] theorem State.wrBit_cst (f : Fld) (b : Bool) : (s.wrBit f b).cst = s.cst := rfl
@[simp] theorem State.wrBit_tg (f : Fld) (b : Bool) : (s.wrBit f b).tg = s.tg := rfl
@[simp] theorem State.wrBit_flt (f : Fld) (b : Bool) : (s.wrBit f b).flt = s.flt := rfl
@[simp] theorem State.wrBit_sec (f : Fld) (b : Bool) : (s.wrBit f b).sec = s.sec := rfl
@[simp] theorem State.wrBit_mgt (f : Fld) (b : Bool) : (s.wrBit f b).mgt = s.mgt := rfl
@[simp] theorem State.wrBit_pwr (f : Fld) (b : Bool) : (s.wrBit f b).pwr = s.pwr := rfl
@[simp] theorem State.wrBit_det (f : Fld) (b : Bool) : (s.wrBit f b).det = s.det := rfl
@[simp] theorem State.wrBit_msys (f : Fld) (b : Bool) : (s.wrBit f b).msys = s.msys := rfl
@[simp] theorem State.wrBit_benches (f : Fld) (b : Bool) : (s.wrBit f b).benches = s.benches := rfl
@[simp] theorem State.wrBit_mill (f : Fld) (b : Bool) : (s.wrBit f b).mill = s.mill := rfl
@[simp] theorem State.wrBit_fab (f : Fld) (b : Bool) : (s.wrBit f b).fab = s.fab := rfl
@[simp] theorem State.wrBit_coll (f : Fld) (b : Bool) : (s.wrBit f b).coll = s.coll := rfl
@[simp] theorem State.wrBit_temper (f : Fld) (b : Bool) : (s.wrBit f b).temper = s.temper := rfl
@[simp] theorem State.wrBit_stock (f : Fld) (b : Bool) : (s.wrBit f b).stock = s.stock := rfl

@[simp] theorem State.raiseBits_pending (a : Nat) (m : Word) : (s.raiseBits a m).pending = s.pending := rfl
@[simp] theorem State.raiseBits_now (a : Nat) (m : Word) : (s.raiseBits a m).now = s.now := rfl
@[simp] theorem State.raiseBits_mem (a : Nat) (m : Word) : (s.raiseBits a m).mem = s.mem := rfl
@[simp] theorem State.raiseBits_errs (a : Nat) (m : Word) : (s.raiseBits a m).errs = s.errs := rfl
@[simp] theorem State.raiseBits_free (a : Nat) (m : Word) : (s.raiseBits a m).free = s.free := rfl
@[simp] theorem State.raiseBits_outs (a : Nat) (m : Word) : (s.raiseBits a m).outs = s.outs := rfl
@[simp] theorem State.raiseBits_cst (a : Nat) (m : Word) : (s.raiseBits a m).cst = s.cst := rfl
@[simp] theorem State.raiseBits_tg (a : Nat) (m : Word) : (s.raiseBits a m).tg = s.tg := rfl
@[simp] theorem State.raiseBits_flt (a : Nat) (m : Word) : (s.raiseBits a m).flt = s.flt := rfl
@[simp] theorem State.raiseBits_sec (a : Nat) (m : Word) : (s.raiseBits a m).sec = s.sec := rfl
@[simp] theorem State.raiseBits_mgt (a : Nat) (m : Word) : (s.raiseBits a m).mgt = s.mgt := rfl
@[simp] theorem State.raiseBits_pwr (a : Nat) (m : Word) : (s.raiseBits a m).pwr = s.pwr := rfl
@[simp] theorem State.raiseBits_det (a : Nat) (m : Word) : (s.raiseBits a m).det = s.det := rfl
@[simp] theorem State.raiseBits_msys (a : Nat) (m : Word) : (s.raiseBits a m).msys = s.msys := rfl
@[simp] theorem State.raiseBits_benches (a : Nat) (m : Word) : (s.raiseBits a m).benches = s.benches := rfl
@[simp] theorem State.raiseBits_mill (a : Nat) (m : Word) : (s.raiseBits a m).mill = s.mill := rfl
@[simp] theorem State.raiseBits_fab (a : Nat) (m : Word) : (s.raiseBits a m).fab = s.fab := rfl
@[simp] theorem State.raiseBits_coll (a : Nat) (m : Word) : (s.raiseBits a m).coll = s.coll := rfl
@[simp] theorem State.raiseBits_temper (a : Nat) (m : Word) : (s.raiseBits a m).temper = s.temper := rfl
@[simp] theorem State.raiseBits_stock (a : Nat) (m : Word) : (s.raiseBits a m).stock = s.stock := rfl

@[simp] theorem State.raise_pending (f : Fld) : (s.raise f).pending = s.pending := rfl
@[simp] theorem State.raise_now (f : Fld) : (s.raise f).now = s.now := rfl
@[simp] theorem State.raise_mem (f : Fld) : (s.raise f).mem = s.mem := rfl
@[simp] theorem State.raise_errs (f : Fld) : (s.raise f).errs = s.errs := rfl
@[simp] theorem State.raise_free (f : Fld) : (s.raise f).free = s.free := rfl
@[simp] theorem State.raise_outs (f : Fld) : (s.raise f).outs = s.outs := rfl
@[simp] theorem State.raise_cst (f : Fld) : (s.raise f).cst = s.cst := rfl
@[simp] theorem State.raise_tg (f : Fld) : (s.raise f).tg = s.tg := rfl
@[simp] theorem State.raise_flt (f : Fld) : (s.raise f).flt = s.flt := rfl
@[simp] theorem State.raise_sec (f : Fld) : (s.raise f).sec = s.sec := rfl
@[simp] theorem State.raise_mgt (f : Fld) : (s.raise f).mgt = s.mgt := rfl
@[simp] theorem State.raise_pwr (f : Fld) : (s.raise f).pwr = s.pwr := rfl
@[simp] theorem State.raise_det (f : Fld) : (s.raise f).det = s.det := rfl
@[simp] theorem State.raise_msys (f : Fld) : (s.raise f).msys = s.msys := rfl
@[simp] theorem State.raise_benches (f : Fld) : (s.raise f).benches = s.benches := rfl
@[simp] theorem State.raise_mill (f : Fld) : (s.raise f).mill = s.mill := rfl
@[simp] theorem State.raise_fab (f : Fld) : (s.raise f).fab = s.fab := rfl
@[simp] theorem State.raise_coll (f : Fld) : (s.raise f).coll = s.coll := rfl
@[simp] theorem State.raise_temper (f : Fld) : (s.raise f).temper = s.temper := rfl
@[simp] theorem State.raise_stock (f : Fld) : (s.raise f).stock = s.stock := rfl

@[simp] theorem State.wr64_pending (f : Fld) (v : Nat) : (s.wr64 f v).pending = s.pending := rfl
@[simp] theorem State.wr64_now (f : Fld) (v : Nat) : (s.wr64 f v).now = s.now := rfl
@[simp] theorem State.wr64_tickSets (f : Fld) (v : Nat) : (s.wr64 f v).tickSets = s.tickSets := rfl
@[simp] theorem State.wr64_mem (f : Fld) (v : Nat) : (s.wr64 f v).mem = s.mem := rfl
@[simp] theorem State.wr64_errs (f : Fld) (v : Nat) : (s.wr64 f v).errs = s.errs := rfl
@[simp] theorem State.wr64_free (f : Fld) (v : Nat) : (s.wr64 f v).free = s.free := rfl
@[simp] theorem State.wr64_outs (f : Fld) (v : Nat) : (s.wr64 f v).outs = s.outs := rfl
@[simp] theorem State.wr64_cst (f : Fld) (v : Nat) : (s.wr64 f v).cst = s.cst := rfl
@[simp] theorem State.wr64_tg (f : Fld) (v : Nat) : (s.wr64 f v).tg = s.tg := rfl
@[simp] theorem State.wr64_flt (f : Fld) (v : Nat) : (s.wr64 f v).flt = s.flt := rfl
@[simp] theorem State.wr64_sec (f : Fld) (v : Nat) : (s.wr64 f v).sec = s.sec := rfl
@[simp] theorem State.wr64_mgt (f : Fld) (v : Nat) : (s.wr64 f v).mgt = s.mgt := rfl
@[simp] theorem State.wr64_pwr (f : Fld) (v : Nat) : (s.wr64 f v).pwr = s.pwr := rfl
@[simp] theorem State.wr64_det (f : Fld) (v : Nat) : (s.wr64 f v).det = s.det := rfl
@[simp] theorem State.wr64_msys (f : Fld) (v : Nat) : (s.wr64 f v).msys = s.msys := rfl
@[simp] theorem State.wr64_benches (f : Fld) (v : Nat) : (s.wr64 f v).benches = s.benches := rfl
@[simp] theorem State.wr64_mill (f : Fld) (v : Nat) : (s.wr64 f v).mill = s.mill := rfl
@[simp] theorem State.wr64_fab (f : Fld) (v : Nat) : (s.wr64 f v).fab = s.fab := rfl
@[simp] theorem State.wr64_coll (f : Fld) (v : Nat) : (s.wr64 f v).coll = s.coll := rfl
@[simp] theorem State.wr64_temper (f : Fld) (v : Nat) : (s.wr64 f v).temper = s.temper := rfl
@[simp] theorem State.wr64_stock (f : Fld) (v : Nat) : (s.wr64 f v).stock = s.stock := rfl

@[simp] theorem State.addSat_pending (f : Fld) (n : Nat) : (s.addSat f n).pending = s.pending := rfl
@[simp] theorem State.addSat_now (f : Fld) (n : Nat) : (s.addSat f n).now = s.now := rfl
@[simp] theorem State.addSat_tickSets (f : Fld) (n : Nat) : (s.addSat f n).tickSets = s.tickSets := rfl
@[simp] theorem State.addSat_mem (f : Fld) (n : Nat) : (s.addSat f n).mem = s.mem := rfl
@[simp] theorem State.addSat_errs (f : Fld) (n : Nat) : (s.addSat f n).errs = s.errs := rfl
@[simp] theorem State.addSat_free (f : Fld) (n : Nat) : (s.addSat f n).free = s.free := rfl
@[simp] theorem State.addSat_outs (f : Fld) (n : Nat) : (s.addSat f n).outs = s.outs := rfl
@[simp] theorem State.addSat_cst (f : Fld) (n : Nat) : (s.addSat f n).cst = s.cst := rfl
@[simp] theorem State.addSat_tg (f : Fld) (n : Nat) : (s.addSat f n).tg = s.tg := rfl
@[simp] theorem State.addSat_flt (f : Fld) (n : Nat) : (s.addSat f n).flt = s.flt := rfl
@[simp] theorem State.addSat_sec (f : Fld) (n : Nat) : (s.addSat f n).sec = s.sec := rfl
@[simp] theorem State.addSat_mgt (f : Fld) (n : Nat) : (s.addSat f n).mgt = s.mgt := rfl
@[simp] theorem State.addSat_pwr (f : Fld) (n : Nat) : (s.addSat f n).pwr = s.pwr := rfl
@[simp] theorem State.addSat_det (f : Fld) (n : Nat) : (s.addSat f n).det = s.det := rfl
@[simp] theorem State.addSat_msys (f : Fld) (n : Nat) : (s.addSat f n).msys = s.msys := rfl
@[simp] theorem State.addSat_benches (f : Fld) (n : Nat) : (s.addSat f n).benches = s.benches := rfl
@[simp] theorem State.addSat_mill (f : Fld) (n : Nat) : (s.addSat f n).mill = s.mill := rfl
@[simp] theorem State.addSat_fab (f : Fld) (n : Nat) : (s.addSat f n).fab = s.fab := rfl
@[simp] theorem State.addSat_coll (f : Fld) (n : Nat) : (s.addSat f n).coll = s.coll := rfl
@[simp] theorem State.addSat_temper (f : Fld) (n : Nat) : (s.addSat f n).temper = s.temper := rfl
@[simp] theorem State.addSat_stock (f : Fld) (n : Nat) : (s.addSat f n).stock = s.stock := rfl

@[simp] theorem State.inc_pending (f : Fld) : (s.inc f).pending = s.pending := rfl
@[simp] theorem State.inc_now (f : Fld) : (s.inc f).now = s.now := rfl
@[simp] theorem State.inc_tickSets (f : Fld) : (s.inc f).tickSets = s.tickSets := rfl
@[simp] theorem State.inc_mem (f : Fld) : (s.inc f).mem = s.mem := rfl
@[simp] theorem State.inc_errs (f : Fld) : (s.inc f).errs = s.errs := rfl
@[simp] theorem State.inc_free (f : Fld) : (s.inc f).free = s.free := rfl
@[simp] theorem State.inc_outs (f : Fld) : (s.inc f).outs = s.outs := rfl
@[simp] theorem State.inc_cst (f : Fld) : (s.inc f).cst = s.cst := rfl
@[simp] theorem State.inc_tg (f : Fld) : (s.inc f).tg = s.tg := rfl
@[simp] theorem State.inc_flt (f : Fld) : (s.inc f).flt = s.flt := rfl
@[simp] theorem State.inc_sec (f : Fld) : (s.inc f).sec = s.sec := rfl
@[simp] theorem State.inc_mgt (f : Fld) : (s.inc f).mgt = s.mgt := rfl
@[simp] theorem State.inc_pwr (f : Fld) : (s.inc f).pwr = s.pwr := rfl
@[simp] theorem State.inc_det (f : Fld) : (s.inc f).det = s.det := rfl
@[simp] theorem State.inc_msys (f : Fld) : (s.inc f).msys = s.msys := rfl
@[simp] theorem State.inc_benches (f : Fld) : (s.inc f).benches = s.benches := rfl
@[simp] theorem State.inc_mill (f : Fld) : (s.inc f).mill = s.mill := rfl
@[simp] theorem State.inc_fab (f : Fld) : (s.inc f).fab = s.fab := rfl
@[simp] theorem State.inc_coll (f : Fld) : (s.inc f).coll = s.coll := rfl
@[simp] theorem State.inc_temper (f : Fld) : (s.inc f).temper = s.temper := rfl
@[simp] theorem State.inc_stock (f : Fld) : (s.inc f).stock = s.stock := rfl

@[simp] theorem State.add64_pending (f : Fld) (n : Nat) : (s.add64 f n).pending = s.pending := rfl
@[simp] theorem State.add64_now (f : Fld) (n : Nat) : (s.add64 f n).now = s.now := rfl
@[simp] theorem State.add64_tickSets (f : Fld) (n : Nat) : (s.add64 f n).tickSets = s.tickSets := rfl
@[simp] theorem State.add64_mem (f : Fld) (n : Nat) : (s.add64 f n).mem = s.mem := rfl
@[simp] theorem State.add64_errs (f : Fld) (n : Nat) : (s.add64 f n).errs = s.errs := rfl
@[simp] theorem State.add64_free (f : Fld) (n : Nat) : (s.add64 f n).free = s.free := rfl
@[simp] theorem State.add64_outs (f : Fld) (n : Nat) : (s.add64 f n).outs = s.outs := rfl
@[simp] theorem State.add64_cst (f : Fld) (n : Nat) : (s.add64 f n).cst = s.cst := rfl
@[simp] theorem State.add64_tg (f : Fld) (n : Nat) : (s.add64 f n).tg = s.tg := rfl
@[simp] theorem State.add64_flt (f : Fld) (n : Nat) : (s.add64 f n).flt = s.flt := rfl
@[simp] theorem State.add64_sec (f : Fld) (n : Nat) : (s.add64 f n).sec = s.sec := rfl
@[simp] theorem State.add64_mgt (f : Fld) (n : Nat) : (s.add64 f n).mgt = s.mgt := rfl
@[simp] theorem State.add64_pwr (f : Fld) (n : Nat) : (s.add64 f n).pwr = s.pwr := rfl
@[simp] theorem State.add64_det (f : Fld) (n : Nat) : (s.add64 f n).det = s.det := rfl
@[simp] theorem State.add64_msys (f : Fld) (n : Nat) : (s.add64 f n).msys = s.msys := rfl
@[simp] theorem State.add64_benches (f : Fld) (n : Nat) : (s.add64 f n).benches = s.benches := rfl
@[simp] theorem State.add64_mill (f : Fld) (n : Nat) : (s.add64 f n).mill = s.mill := rfl
@[simp] theorem State.add64_fab (f : Fld) (n : Nat) : (s.add64 f n).fab = s.fab := rfl
@[simp] theorem State.add64_coll (f : Fld) (n : Nat) : (s.add64 f n).coll = s.coll := rfl
@[simp] theorem State.add64_temper (f : Fld) (n : Nat) : (s.add64 f n).temper = s.temper := rfl
@[simp] theorem State.add64_stock (f : Fld) (n : Nat) : (s.add64 f n).stock = s.stock := rfl

@[simp] theorem State.at_pending (t : Nat) : (s.at t).pending = s.pending := rfl
@[simp] theorem State.at_regs (t : Nat) : (s.at t).regs = s.regs := rfl
@[simp] theorem State.at_mem (t : Nat) : (s.at t).mem = s.mem := rfl
@[simp] theorem State.at_errs (t : Nat) : (s.at t).errs = s.errs := rfl
@[simp] theorem State.at_free (t : Nat) : (s.at t).free = s.free := rfl
@[simp] theorem State.at_outs (t : Nat) : (s.at t).outs = s.outs := rfl
@[simp] theorem State.at_cst (t : Nat) : (s.at t).cst = s.cst := rfl
@[simp] theorem State.at_tg (t : Nat) : (s.at t).tg = s.tg := rfl
@[simp] theorem State.at_flt (t : Nat) : (s.at t).flt = s.flt := rfl
@[simp] theorem State.at_sec (t : Nat) : (s.at t).sec = s.sec := rfl
@[simp] theorem State.at_mgt (t : Nat) : (s.at t).mgt = s.mgt := rfl
@[simp] theorem State.at_pwr (t : Nat) : (s.at t).pwr = s.pwr := rfl
@[simp] theorem State.at_det (t : Nat) : (s.at t).det = s.det := rfl
@[simp] theorem State.at_msys (t : Nat) : (s.at t).msys = s.msys := rfl
@[simp] theorem State.at_benches (t : Nat) : (s.at t).benches = s.benches := rfl
@[simp] theorem State.at_mill (t : Nat) : (s.at t).mill = s.mill := rfl
@[simp] theorem State.at_fab (t : Nat) : (s.at t).fab = s.fab := rfl
@[simp] theorem State.at_coll (t : Nat) : (s.at t).coll = s.coll := rfl
@[simp] theorem State.at_temper (t : Nat) : (s.at t).temper = s.temper := rfl
@[simp] theorem State.at_stock (t : Nat) : (s.at t).stock = s.stock := rfl

@[simp] theorem State.out_pending (o : Out) : (s.out o).pending = s.pending := rfl
@[simp] theorem State.out_now (o : Out) : (s.out o).now = s.now := rfl
@[simp] theorem State.out_regs (o : Out) : (s.out o).regs = s.regs := rfl
@[simp] theorem State.out_tickSets (o : Out) : (s.out o).tickSets = s.tickSets := rfl
@[simp] theorem State.out_mem (o : Out) : (s.out o).mem = s.mem := rfl
@[simp] theorem State.out_errs (o : Out) : (s.out o).errs = s.errs := rfl
@[simp] theorem State.out_free (o : Out) : (s.out o).free = s.free := rfl
@[simp] theorem State.out_cst (o : Out) : (s.out o).cst = s.cst := rfl
@[simp] theorem State.out_tg (o : Out) : (s.out o).tg = s.tg := rfl
@[simp] theorem State.out_flt (o : Out) : (s.out o).flt = s.flt := rfl
@[simp] theorem State.out_sec (o : Out) : (s.out o).sec = s.sec := rfl
@[simp] theorem State.out_mgt (o : Out) : (s.out o).mgt = s.mgt := rfl
@[simp] theorem State.out_pwr (o : Out) : (s.out o).pwr = s.pwr := rfl
@[simp] theorem State.out_det (o : Out) : (s.out o).det = s.det := rfl
@[simp] theorem State.out_msys (o : Out) : (s.out o).msys = s.msys := rfl
@[simp] theorem State.out_benches (o : Out) : (s.out o).benches = s.benches := rfl
@[simp] theorem State.out_mill (o : Out) : (s.out o).mill = s.mill := rfl
@[simp] theorem State.out_fab (o : Out) : (s.out o).fab = s.fab := rfl
@[simp] theorem State.out_coll (o : Out) : (s.out o).coll = s.coll := rfl
@[simp] theorem State.out_temper (o : Out) : (s.out o).temper = s.temper := rfl
@[simp] theorem State.out_stock (o : Out) : (s.out o).stock = s.stock := rfl

@[simp] theorem State.msix_pending (v : Nat) : (s.msix v).pending = s.pending := rfl
@[simp] theorem State.msix_now (v : Nat) : (s.msix v).now = s.now := rfl
@[simp] theorem State.msix_regs (v : Nat) : (s.msix v).regs = s.regs := rfl
@[simp] theorem State.msix_tickSets (v : Nat) : (s.msix v).tickSets = s.tickSets := rfl
@[simp] theorem State.msix_mem (v : Nat) : (s.msix v).mem = s.mem := rfl
@[simp] theorem State.msix_errs (v : Nat) : (s.msix v).errs = s.errs := rfl
@[simp] theorem State.msix_free (v : Nat) : (s.msix v).free = s.free := rfl
@[simp] theorem State.msix_cst (v : Nat) : (s.msix v).cst = s.cst := rfl
@[simp] theorem State.msix_tg (v : Nat) : (s.msix v).tg = s.tg := rfl
@[simp] theorem State.msix_flt (v : Nat) : (s.msix v).flt = s.flt := rfl
@[simp] theorem State.msix_sec (v : Nat) : (s.msix v).sec = s.sec := rfl
@[simp] theorem State.msix_mgt (v : Nat) : (s.msix v).mgt = s.mgt := rfl
@[simp] theorem State.msix_pwr (v : Nat) : (s.msix v).pwr = s.pwr := rfl
@[simp] theorem State.msix_det (v : Nat) : (s.msix v).det = s.det := rfl
@[simp] theorem State.msix_msys (v : Nat) : (s.msix v).msys = s.msys := rfl
@[simp] theorem State.msix_benches (v : Nat) : (s.msix v).benches = s.benches := rfl
@[simp] theorem State.msix_mill (v : Nat) : (s.msix v).mill = s.mill := rfl
@[simp] theorem State.msix_fab (v : Nat) : (s.msix v).fab = s.fab := rfl
@[simp] theorem State.msix_coll (v : Nat) : (s.msix v).coll = s.coll := rfl
@[simp] theorem State.msix_temper (v : Nat) : (s.msix v).temper = s.temper := rfl
@[simp] theorem State.msix_stock (v : Nat) : (s.msix v).stock = s.stock := rfl

@[simp] theorem State.flag_pending (r : Report) : (s.flag r).pending = s.pending := rfl
@[simp] theorem State.flag_now (r : Report) : (s.flag r).now = s.now := rfl
@[simp] theorem State.flag_regs (r : Report) : (s.flag r).regs = s.regs := rfl
@[simp] theorem State.flag_tickSets (r : Report) : (s.flag r).tickSets = s.tickSets := rfl
@[simp] theorem State.flag_mem (r : Report) : (s.flag r).mem = s.mem := rfl
@[simp] theorem State.flag_errs (r : Report) : (s.flag r).errs = s.errs := rfl
@[simp] theorem State.flag_free (r : Report) : (s.flag r).free = s.free := rfl
@[simp] theorem State.flag_outs (r : Report) : (s.flag r).outs = s.outs := rfl
@[simp] theorem State.flag_cst (r : Report) : (s.flag r).cst = s.cst := rfl
@[simp] theorem State.flag_tg (r : Report) : (s.flag r).tg = s.tg := rfl
@[simp] theorem State.flag_sec (r : Report) : (s.flag r).sec = s.sec := rfl
@[simp] theorem State.flag_mgt (r : Report) : (s.flag r).mgt = s.mgt := rfl
@[simp] theorem State.flag_pwr (r : Report) : (s.flag r).pwr = s.pwr := rfl
@[simp] theorem State.flag_det (r : Report) : (s.flag r).det = s.det := rfl
@[simp] theorem State.flag_msys (r : Report) : (s.flag r).msys = s.msys := rfl
@[simp] theorem State.flag_benches (r : Report) : (s.flag r).benches = s.benches := rfl
@[simp] theorem State.flag_mill (r : Report) : (s.flag r).mill = s.mill := rfl
@[simp] theorem State.flag_fab (r : Report) : (s.flag r).fab = s.fab := rfl
@[simp] theorem State.flag_coll (r : Report) : (s.flag r).coll = s.coll := rfl
@[simp] theorem State.flag_temper (r : Report) : (s.flag r).temper = s.temper := rfl
@[simp] theorem State.flag_stock (r : Report) : (s.flag r).stock = s.stock := rfl

@[simp] theorem State.fault_pending (c : FClass) (l k : Nat) (m : Master) (x y : Nat) (i : Bool) : (s.fault c l k m x y i).pending = s.pending := rfl
@[simp] theorem State.fault_now (c : FClass) (l k : Nat) (m : Master) (x y : Nat) (i : Bool) : (s.fault c l k m x y i).now = s.now := rfl
@[simp] theorem State.fault_regs (c : FClass) (l k : Nat) (m : Master) (x y : Nat) (i : Bool) : (s.fault c l k m x y i).regs = s.regs := rfl
@[simp] theorem State.fault_tickSets (c : FClass) (l k : Nat) (m : Master) (x y : Nat) (i : Bool) : (s.fault c l k m x y i).tickSets = s.tickSets := rfl
@[simp] theorem State.fault_mem (c : FClass) (l k : Nat) (m : Master) (x y : Nat) (i : Bool) : (s.fault c l k m x y i).mem = s.mem := rfl
@[simp] theorem State.fault_errs (c : FClass) (l k : Nat) (m : Master) (x y : Nat) (i : Bool) : (s.fault c l k m x y i).errs = s.errs := rfl
@[simp] theorem State.fault_free (c : FClass) (l k : Nat) (m : Master) (x y : Nat) (i : Bool) : (s.fault c l k m x y i).free = s.free := rfl
@[simp] theorem State.fault_outs (c : FClass) (l k : Nat) (m : Master) (x y : Nat) (i : Bool) : (s.fault c l k m x y i).outs = s.outs := rfl
@[simp] theorem State.fault_cst (c : FClass) (l k : Nat) (m : Master) (x y : Nat) (i : Bool) : (s.fault c l k m x y i).cst = s.cst := rfl
@[simp] theorem State.fault_tg (c : FClass) (l k : Nat) (m : Master) (x y : Nat) (i : Bool) : (s.fault c l k m x y i).tg = s.tg := rfl
@[simp] theorem State.fault_sec (c : FClass) (l k : Nat) (m : Master) (x y : Nat) (i : Bool) : (s.fault c l k m x y i).sec = s.sec := rfl
@[simp] theorem State.fault_mgt (c : FClass) (l k : Nat) (m : Master) (x y : Nat) (i : Bool) : (s.fault c l k m x y i).mgt = s.mgt := rfl
@[simp] theorem State.fault_pwr (c : FClass) (l k : Nat) (m : Master) (x y : Nat) (i : Bool) : (s.fault c l k m x y i).pwr = s.pwr := rfl
@[simp] theorem State.fault_det (c : FClass) (l k : Nat) (m : Master) (x y : Nat) (i : Bool) : (s.fault c l k m x y i).det = s.det := rfl
@[simp] theorem State.fault_msys (c : FClass) (l k : Nat) (m : Master) (x y : Nat) (i : Bool) : (s.fault c l k m x y i).msys = s.msys := rfl
@[simp] theorem State.fault_benches (c : FClass) (l k : Nat) (m : Master) (x y : Nat) (i : Bool) : (s.fault c l k m x y i).benches = s.benches := rfl
@[simp] theorem State.fault_mill (c : FClass) (l k : Nat) (m : Master) (x y : Nat) (i : Bool) : (s.fault c l k m x y i).mill = s.mill := rfl
@[simp] theorem State.fault_fab (c : FClass) (l k : Nat) (m : Master) (x y : Nat) (i : Bool) : (s.fault c l k m x y i).fab = s.fab := rfl
@[simp] theorem State.fault_coll (c : FClass) (l k : Nat) (m : Master) (x y : Nat) (i : Bool) : (s.fault c l k m x y i).coll = s.coll := rfl
@[simp] theorem State.fault_temper (c : FClass) (l k : Nat) (m : Master) (x y : Nat) (i : Bool) : (s.fault c l k m x y i).temper = s.temper := rfl
@[simp] theorem State.fault_stock (c : FClass) (l k : Nat) (m : Master) (x y : Nat) (i : Bool) : (s.fault c l k m x y i).stock = s.stock := rfl

@[simp] theorem State.faultConseq_pending (c : FClass) (l k : Nat) (m : Master) (x : Nat) : (s.faultConseq c l k m x).pending = s.pending := rfl
@[simp] theorem State.faultConseq_now (c : FClass) (l k : Nat) (m : Master) (x : Nat) : (s.faultConseq c l k m x).now = s.now := rfl
@[simp] theorem State.faultConseq_regs (c : FClass) (l k : Nat) (m : Master) (x : Nat) : (s.faultConseq c l k m x).regs = s.regs := rfl
@[simp] theorem State.faultConseq_tickSets (c : FClass) (l k : Nat) (m : Master) (x : Nat) : (s.faultConseq c l k m x).tickSets = s.tickSets := rfl
@[simp] theorem State.faultConseq_mem (c : FClass) (l k : Nat) (m : Master) (x : Nat) : (s.faultConseq c l k m x).mem = s.mem := rfl
@[simp] theorem State.faultConseq_errs (c : FClass) (l k : Nat) (m : Master) (x : Nat) : (s.faultConseq c l k m x).errs = s.errs := rfl
@[simp] theorem State.faultConseq_free (c : FClass) (l k : Nat) (m : Master) (x : Nat) : (s.faultConseq c l k m x).free = s.free := rfl
@[simp] theorem State.faultConseq_outs (c : FClass) (l k : Nat) (m : Master) (x : Nat) : (s.faultConseq c l k m x).outs = s.outs := rfl
@[simp] theorem State.faultConseq_cst (c : FClass) (l k : Nat) (m : Master) (x : Nat) : (s.faultConseq c l k m x).cst = s.cst := rfl
@[simp] theorem State.faultConseq_tg (c : FClass) (l k : Nat) (m : Master) (x : Nat) : (s.faultConseq c l k m x).tg = s.tg := rfl
@[simp] theorem State.faultConseq_sec (c : FClass) (l k : Nat) (m : Master) (x : Nat) : (s.faultConseq c l k m x).sec = s.sec := rfl
@[simp] theorem State.faultConseq_mgt (c : FClass) (l k : Nat) (m : Master) (x : Nat) : (s.faultConseq c l k m x).mgt = s.mgt := rfl
@[simp] theorem State.faultConseq_pwr (c : FClass) (l k : Nat) (m : Master) (x : Nat) : (s.faultConseq c l k m x).pwr = s.pwr := rfl
@[simp] theorem State.faultConseq_det (c : FClass) (l k : Nat) (m : Master) (x : Nat) : (s.faultConseq c l k m x).det = s.det := rfl
@[simp] theorem State.faultConseq_msys (c : FClass) (l k : Nat) (m : Master) (x : Nat) : (s.faultConseq c l k m x).msys = s.msys := rfl
@[simp] theorem State.faultConseq_benches (c : FClass) (l k : Nat) (m : Master) (x : Nat) : (s.faultConseq c l k m x).benches = s.benches := rfl
@[simp] theorem State.faultConseq_mill (c : FClass) (l k : Nat) (m : Master) (x : Nat) : (s.faultConseq c l k m x).mill = s.mill := rfl
@[simp] theorem State.faultConseq_fab (c : FClass) (l k : Nat) (m : Master) (x : Nat) : (s.faultConseq c l k m x).fab = s.fab := rfl
@[simp] theorem State.faultConseq_coll (c : FClass) (l k : Nat) (m : Master) (x : Nat) : (s.faultConseq c l k m x).coll = s.coll := rfl
@[simp] theorem State.faultConseq_temper (c : FClass) (l k : Nat) (m : Master) (x : Nat) : (s.faultConseq c l k m x).temper = s.temper := rfl
@[simp] theorem State.faultConseq_stock (c : FClass) (l k : Nat) (m : Master) (x : Nat) : (s.faultConseq c l k m x).stock = s.stock := rfl

@[simp] theorem State.swNote_pending (k : Nat) (m : Master) : (s.swNote k m).pending = s.pending := rfl
@[simp] theorem State.swNote_now (k : Nat) (m : Master) : (s.swNote k m).now = s.now := rfl
@[simp] theorem State.swNote_regs (k : Nat) (m : Master) : (s.swNote k m).regs = s.regs := rfl
@[simp] theorem State.swNote_tickSets (k : Nat) (m : Master) : (s.swNote k m).tickSets = s.tickSets := rfl
@[simp] theorem State.swNote_mem (k : Nat) (m : Master) : (s.swNote k m).mem = s.mem := rfl
@[simp] theorem State.swNote_errs (k : Nat) (m : Master) : (s.swNote k m).errs = s.errs := rfl
@[simp] theorem State.swNote_free (k : Nat) (m : Master) : (s.swNote k m).free = s.free := rfl
@[simp] theorem State.swNote_outs (k : Nat) (m : Master) : (s.swNote k m).outs = s.outs := rfl
@[simp] theorem State.swNote_cst (k : Nat) (m : Master) : (s.swNote k m).cst = s.cst := rfl
@[simp] theorem State.swNote_tg (k : Nat) (m : Master) : (s.swNote k m).tg = s.tg := rfl
@[simp] theorem State.swNote_sec (k : Nat) (m : Master) : (s.swNote k m).sec = s.sec := rfl
@[simp] theorem State.swNote_mgt (k : Nat) (m : Master) : (s.swNote k m).mgt = s.mgt := rfl
@[simp] theorem State.swNote_pwr (k : Nat) (m : Master) : (s.swNote k m).pwr = s.pwr := rfl
@[simp] theorem State.swNote_det (k : Nat) (m : Master) : (s.swNote k m).det = s.det := rfl
@[simp] theorem State.swNote_msys (k : Nat) (m : Master) : (s.swNote k m).msys = s.msys := rfl
@[simp] theorem State.swNote_benches (k : Nat) (m : Master) : (s.swNote k m).benches = s.benches := rfl
@[simp] theorem State.swNote_mill (k : Nat) (m : Master) : (s.swNote k m).mill = s.mill := rfl
@[simp] theorem State.swNote_fab (k : Nat) (m : Master) : (s.swNote k m).fab = s.fab := rfl
@[simp] theorem State.swNote_coll (k : Nat) (m : Master) : (s.swNote k m).coll = s.coll := rfl
@[simp] theorem State.swNote_temper (k : Nat) (m : Master) : (s.swNote k m).temper = s.temper := rfl
@[simp] theorem State.swNote_stock (k : Nat) (m : Master) : (s.swNote k m).stock = s.stock := rfl

@[simp] theorem State.hallKey_pending (k ty fl : Nat) (b : List Byte) : (s.hallKey k ty fl b).pending = s.pending := rfl
@[simp] theorem State.hallKey_now (k ty fl : Nat) (b : List Byte) : (s.hallKey k ty fl b).now = s.now := rfl
@[simp] theorem State.hallKey_regs (k ty fl : Nat) (b : List Byte) : (s.hallKey k ty fl b).regs = s.regs := rfl
@[simp] theorem State.hallKey_tickSets (k ty fl : Nat) (b : List Byte) : (s.hallKey k ty fl b).tickSets = s.tickSets := rfl
@[simp] theorem State.hallKey_mem (k ty fl : Nat) (b : List Byte) : (s.hallKey k ty fl b).mem = s.mem := rfl
@[simp] theorem State.hallKey_errs (k ty fl : Nat) (b : List Byte) : (s.hallKey k ty fl b).errs = s.errs := rfl
@[simp] theorem State.hallKey_free (k ty fl : Nat) (b : List Byte) : (s.hallKey k ty fl b).free = s.free := rfl
@[simp] theorem State.hallKey_outs (k ty fl : Nat) (b : List Byte) : (s.hallKey k ty fl b).outs = s.outs := rfl
@[simp] theorem State.hallKey_cst (k ty fl : Nat) (b : List Byte) : (s.hallKey k ty fl b).cst = s.cst := rfl
@[simp] theorem State.hallKey_tg (k ty fl : Nat) (b : List Byte) : (s.hallKey k ty fl b).tg = s.tg := rfl
@[simp] theorem State.hallKey_flt (k ty fl : Nat) (b : List Byte) : (s.hallKey k ty fl b).flt = s.flt := rfl
@[simp] theorem State.hallKey_mgt (k ty fl : Nat) (b : List Byte) : (s.hallKey k ty fl b).mgt = s.mgt := rfl
@[simp] theorem State.hallKey_pwr (k ty fl : Nat) (b : List Byte) : (s.hallKey k ty fl b).pwr = s.pwr := rfl
@[simp] theorem State.hallKey_det (k ty fl : Nat) (b : List Byte) : (s.hallKey k ty fl b).det = s.det := rfl
@[simp] theorem State.hallKey_msys (k ty fl : Nat) (b : List Byte) : (s.hallKey k ty fl b).msys = s.msys := rfl
@[simp] theorem State.hallKey_benches (k ty fl : Nat) (b : List Byte) : (s.hallKey k ty fl b).benches = s.benches := rfl
@[simp] theorem State.hallKey_mill (k ty fl : Nat) (b : List Byte) : (s.hallKey k ty fl b).mill = s.mill := rfl
@[simp] theorem State.hallKey_fab (k ty fl : Nat) (b : List Byte) : (s.hallKey k ty fl b).fab = s.fab := rfl
@[simp] theorem State.hallKey_coll (k ty fl : Nat) (b : List Byte) : (s.hallKey k ty fl b).coll = s.coll := rfl
@[simp] theorem State.hallKey_temper (k ty fl : Nat) (b : List Byte) : (s.hallKey k ty fl b).temper = s.temper := rfl
@[simp] theorem State.hallKey_stock (k ty fl : Nat) (b : List Byte) : (s.hallKey k ty fl b).stock = s.stock := rfl

@[simp] theorem State.hall_pending (ty : Nat) (b : List Byte) (au : Bool) : (s.hall ty b au).pending = s.pending := rfl
@[simp] theorem State.hall_now (ty : Nat) (b : List Byte) (au : Bool) : (s.hall ty b au).now = s.now := rfl
@[simp] theorem State.hall_regs (ty : Nat) (b : List Byte) (au : Bool) : (s.hall ty b au).regs = s.regs := rfl
@[simp] theorem State.hall_tickSets (ty : Nat) (b : List Byte) (au : Bool) : (s.hall ty b au).tickSets = s.tickSets := rfl
@[simp] theorem State.hall_mem (ty : Nat) (b : List Byte) (au : Bool) : (s.hall ty b au).mem = s.mem := rfl
@[simp] theorem State.hall_errs (ty : Nat) (b : List Byte) (au : Bool) : (s.hall ty b au).errs = s.errs := rfl
@[simp] theorem State.hall_free (ty : Nat) (b : List Byte) (au : Bool) : (s.hall ty b au).free = s.free := rfl
@[simp] theorem State.hall_outs (ty : Nat) (b : List Byte) (au : Bool) : (s.hall ty b au).outs = s.outs := rfl
@[simp] theorem State.hall_cst (ty : Nat) (b : List Byte) (au : Bool) : (s.hall ty b au).cst = s.cst := rfl
@[simp] theorem State.hall_tg (ty : Nat) (b : List Byte) (au : Bool) : (s.hall ty b au).tg = s.tg := rfl
@[simp] theorem State.hall_flt (ty : Nat) (b : List Byte) (au : Bool) : (s.hall ty b au).flt = s.flt := rfl
@[simp] theorem State.hall_mgt (ty : Nat) (b : List Byte) (au : Bool) : (s.hall ty b au).mgt = s.mgt := rfl
@[simp] theorem State.hall_pwr (ty : Nat) (b : List Byte) (au : Bool) : (s.hall ty b au).pwr = s.pwr := rfl
@[simp] theorem State.hall_det (ty : Nat) (b : List Byte) (au : Bool) : (s.hall ty b au).det = s.det := rfl
@[simp] theorem State.hall_msys (ty : Nat) (b : List Byte) (au : Bool) : (s.hall ty b au).msys = s.msys := rfl
@[simp] theorem State.hall_benches (ty : Nat) (b : List Byte) (au : Bool) : (s.hall ty b au).benches = s.benches := rfl
@[simp] theorem State.hall_mill (ty : Nat) (b : List Byte) (au : Bool) : (s.hall ty b au).mill = s.mill := rfl
@[simp] theorem State.hall_fab (ty : Nat) (b : List Byte) (au : Bool) : (s.hall ty b au).fab = s.fab := rfl
@[simp] theorem State.hall_coll (ty : Nat) (b : List Byte) (au : Bool) : (s.hall ty b au).coll = s.coll := rfl
@[simp] theorem State.hall_temper (ty : Nat) (b : List Byte) (au : Bool) : (s.hall ty b au).temper = s.temper := rfl
@[simp] theorem State.hall_stock (ty : Nat) (b : List Byte) (au : Bool) : (s.hall ty b au).stock = s.stock := rfl

@[simp] theorem State.hallAfter_pending (le ty : Nat) (b : List Byte) : (s.hallAfter le ty b).pending = s.pending := rfl
@[simp] theorem State.hallAfter_now (le ty : Nat) (b : List Byte) : (s.hallAfter le ty b).now = s.now := rfl
@[simp] theorem State.hallAfter_regs (le ty : Nat) (b : List Byte) : (s.hallAfter le ty b).regs = s.regs := rfl
@[simp] theorem State.hallAfter_tickSets (le ty : Nat) (b : List Byte) : (s.hallAfter le ty b).tickSets = s.tickSets := rfl
@[simp] theorem State.hallAfter_mem (le ty : Nat) (b : List Byte) : (s.hallAfter le ty b).mem = s.mem := rfl
@[simp] theorem State.hallAfter_errs (le ty : Nat) (b : List Byte) : (s.hallAfter le ty b).errs = s.errs := rfl
@[simp] theorem State.hallAfter_free (le ty : Nat) (b : List Byte) : (s.hallAfter le ty b).free = s.free := rfl
@[simp] theorem State.hallAfter_outs (le ty : Nat) (b : List Byte) : (s.hallAfter le ty b).outs = s.outs := rfl
@[simp] theorem State.hallAfter_cst (le ty : Nat) (b : List Byte) : (s.hallAfter le ty b).cst = s.cst := rfl
@[simp] theorem State.hallAfter_tg (le ty : Nat) (b : List Byte) : (s.hallAfter le ty b).tg = s.tg := rfl
@[simp] theorem State.hallAfter_flt (le ty : Nat) (b : List Byte) : (s.hallAfter le ty b).flt = s.flt := rfl
@[simp] theorem State.hallAfter_mgt (le ty : Nat) (b : List Byte) : (s.hallAfter le ty b).mgt = s.mgt := rfl
@[simp] theorem State.hallAfter_pwr (le ty : Nat) (b : List Byte) : (s.hallAfter le ty b).pwr = s.pwr := rfl
@[simp] theorem State.hallAfter_det (le ty : Nat) (b : List Byte) : (s.hallAfter le ty b).det = s.det := rfl
@[simp] theorem State.hallAfter_msys (le ty : Nat) (b : List Byte) : (s.hallAfter le ty b).msys = s.msys := rfl
@[simp] theorem State.hallAfter_benches (le ty : Nat) (b : List Byte) : (s.hallAfter le ty b).benches = s.benches := rfl
@[simp] theorem State.hallAfter_mill (le ty : Nat) (b : List Byte) : (s.hallAfter le ty b).mill = s.mill := rfl
@[simp] theorem State.hallAfter_fab (le ty : Nat) (b : List Byte) : (s.hallAfter le ty b).fab = s.fab := rfl
@[simp] theorem State.hallAfter_coll (le ty : Nat) (b : List Byte) : (s.hallAfter le ty b).coll = s.coll := rfl
@[simp] theorem State.hallAfter_temper (le ty : Nat) (b : List Byte) : (s.hallAfter le ty b).temper = s.temper := rfl
@[simp] theorem State.hallAfter_stock (le ty : Nat) (b : List Byte) : (s.hallAfter le ty b).stock = s.stock := rfl

@[simp] theorem State.freeNext_pending : (s.freeNext).pending = s.pending := rfl
@[simp] theorem State.freeNext_now : (s.freeNext).now = s.now := rfl
@[simp] theorem State.freeNext_regs : (s.freeNext).regs = s.regs := rfl
@[simp] theorem State.freeNext_tickSets : (s.freeNext).tickSets = s.tickSets := rfl
@[simp] theorem State.freeNext_mem : (s.freeNext).mem = s.mem := rfl
@[simp] theorem State.freeNext_errs : (s.freeNext).errs = s.errs := rfl
@[simp] theorem State.freeNext_outs : (s.freeNext).outs = s.outs := rfl
@[simp] theorem State.freeNext_cst : (s.freeNext).cst = s.cst := rfl
@[simp] theorem State.freeNext_tg : (s.freeNext).tg = s.tg := rfl
@[simp] theorem State.freeNext_flt : (s.freeNext).flt = s.flt := rfl
@[simp] theorem State.freeNext_sec : (s.freeNext).sec = s.sec := rfl
@[simp] theorem State.freeNext_mgt : (s.freeNext).mgt = s.mgt := rfl
@[simp] theorem State.freeNext_pwr : (s.freeNext).pwr = s.pwr := rfl
@[simp] theorem State.freeNext_det : (s.freeNext).det = s.det := rfl
@[simp] theorem State.freeNext_msys : (s.freeNext).msys = s.msys := rfl
@[simp] theorem State.freeNext_benches : (s.freeNext).benches = s.benches := rfl
@[simp] theorem State.freeNext_mill : (s.freeNext).mill = s.mill := rfl
@[simp] theorem State.freeNext_fab : (s.freeNext).fab = s.fab := rfl
@[simp] theorem State.freeNext_coll : (s.freeNext).coll = s.coll := rfl
@[simp] theorem State.freeNext_temper : (s.freeNext).temper = s.temper := rfl
@[simp] theorem State.freeNext_stock : (s.freeNext).stock = s.stock := rfl

@[simp] theorem State.setBytes_pending (a : Nat) (b : List Byte) : (s.setBytes a b).pending = s.pending := rfl
@[simp] theorem State.setBytes_now (a : Nat) (b : List Byte) : (s.setBytes a b).now = s.now := rfl
@[simp] theorem State.setBytes_regs (a : Nat) (b : List Byte) : (s.setBytes a b).regs = s.regs := rfl
@[simp] theorem State.setBytes_tickSets (a : Nat) (b : List Byte) : (s.setBytes a b).tickSets = s.tickSets := rfl
@[simp] theorem State.setBytes_errs (a : Nat) (b : List Byte) : (s.setBytes a b).errs = s.errs := rfl
@[simp] theorem State.setBytes_free (a : Nat) (b : List Byte) : (s.setBytes a b).free = s.free := rfl
@[simp] theorem State.setBytes_outs (a : Nat) (b : List Byte) : (s.setBytes a b).outs = s.outs := rfl
@[simp] theorem State.setBytes_cst (a : Nat) (b : List Byte) : (s.setBytes a b).cst = s.cst := rfl
@[simp] theorem State.setBytes_tg (a : Nat) (b : List Byte) : (s.setBytes a b).tg = s.tg := rfl
@[simp] theorem State.setBytes_flt (a : Nat) (b : List Byte) : (s.setBytes a b).flt = s.flt := rfl
@[simp] theorem State.setBytes_sec (a : Nat) (b : List Byte) : (s.setBytes a b).sec = s.sec := rfl
@[simp] theorem State.setBytes_mgt (a : Nat) (b : List Byte) : (s.setBytes a b).mgt = s.mgt := rfl
@[simp] theorem State.setBytes_pwr (a : Nat) (b : List Byte) : (s.setBytes a b).pwr = s.pwr := rfl
@[simp] theorem State.setBytes_det (a : Nat) (b : List Byte) : (s.setBytes a b).det = s.det := rfl
@[simp] theorem State.setBytes_msys (a : Nat) (b : List Byte) : (s.setBytes a b).msys = s.msys := rfl
@[simp] theorem State.setBytes_benches (a : Nat) (b : List Byte) : (s.setBytes a b).benches = s.benches := rfl
@[simp] theorem State.setBytes_mill (a : Nat) (b : List Byte) : (s.setBytes a b).mill = s.mill := rfl
@[simp] theorem State.setBytes_fab (a : Nat) (b : List Byte) : (s.setBytes a b).fab = s.fab := rfl
@[simp] theorem State.setBytes_coll (a : Nat) (b : List Byte) : (s.setBytes a b).coll = s.coll := rfl
@[simp] theorem State.setBytes_temper (a : Nat) (b : List Byte) : (s.setBytes a b).temper = s.temper := rfl
@[simp] theorem State.setBytes_stock (a : Nat) (b : List Byte) : (s.setBytes a b).stock = s.stock := rfl

@[simp] theorem State.clearErr_pending (w : Nat) : (s.clearErr w).pending = s.pending := rfl
@[simp] theorem State.clearErr_now (w : Nat) : (s.clearErr w).now = s.now := rfl
@[simp] theorem State.clearErr_regs (w : Nat) : (s.clearErr w).regs = s.regs := rfl
@[simp] theorem State.clearErr_tickSets (w : Nat) : (s.clearErr w).tickSets = s.tickSets := rfl
@[simp] theorem State.clearErr_mem (w : Nat) : (s.clearErr w).mem = s.mem := rfl
@[simp] theorem State.clearErr_free (w : Nat) : (s.clearErr w).free = s.free := rfl
@[simp] theorem State.clearErr_outs (w : Nat) : (s.clearErr w).outs = s.outs := rfl
@[simp] theorem State.clearErr_cst (w : Nat) : (s.clearErr w).cst = s.cst := rfl
@[simp] theorem State.clearErr_tg (w : Nat) : (s.clearErr w).tg = s.tg := rfl
@[simp] theorem State.clearErr_flt (w : Nat) : (s.clearErr w).flt = s.flt := rfl
@[simp] theorem State.clearErr_sec (w : Nat) : (s.clearErr w).sec = s.sec := rfl
@[simp] theorem State.clearErr_mgt (w : Nat) : (s.clearErr w).mgt = s.mgt := rfl
@[simp] theorem State.clearErr_pwr (w : Nat) : (s.clearErr w).pwr = s.pwr := rfl
@[simp] theorem State.clearErr_det (w : Nat) : (s.clearErr w).det = s.det := rfl
@[simp] theorem State.clearErr_msys (w : Nat) : (s.clearErr w).msys = s.msys := rfl
@[simp] theorem State.clearErr_benches (w : Nat) : (s.clearErr w).benches = s.benches := rfl
@[simp] theorem State.clearErr_mill (w : Nat) : (s.clearErr w).mill = s.mill := rfl
@[simp] theorem State.clearErr_fab (w : Nat) : (s.clearErr w).fab = s.fab := rfl
@[simp] theorem State.clearErr_coll (w : Nat) : (s.clearErr w).coll = s.coll := rfl
@[simp] theorem State.clearErr_temper (w : Nat) : (s.clearErr w).temper = s.temper := rfl
@[simp] theorem State.clearErr_stock (w : Nat) : (s.clearErr w).stock = s.stock := rfl

@[simp] theorem State.setErr_pending (w : Nat) (e : WordErr) : (s.setErr w e).pending = s.pending := rfl
@[simp] theorem State.setErr_now (w : Nat) (e : WordErr) : (s.setErr w e).now = s.now := rfl
@[simp] theorem State.setErr_regs (w : Nat) (e : WordErr) : (s.setErr w e).regs = s.regs := rfl
@[simp] theorem State.setErr_tickSets (w : Nat) (e : WordErr) : (s.setErr w e).tickSets = s.tickSets := rfl
@[simp] theorem State.setErr_mem (w : Nat) (e : WordErr) : (s.setErr w e).mem = s.mem := rfl
@[simp] theorem State.setErr_free (w : Nat) (e : WordErr) : (s.setErr w e).free = s.free := rfl
@[simp] theorem State.setErr_outs (w : Nat) (e : WordErr) : (s.setErr w e).outs = s.outs := rfl
@[simp] theorem State.setErr_cst (w : Nat) (e : WordErr) : (s.setErr w e).cst = s.cst := rfl
@[simp] theorem State.setErr_tg (w : Nat) (e : WordErr) : (s.setErr w e).tg = s.tg := rfl
@[simp] theorem State.setErr_flt (w : Nat) (e : WordErr) : (s.setErr w e).flt = s.flt := rfl
@[simp] theorem State.setErr_sec (w : Nat) (e : WordErr) : (s.setErr w e).sec = s.sec := rfl
@[simp] theorem State.setErr_mgt (w : Nat) (e : WordErr) : (s.setErr w e).mgt = s.mgt := rfl
@[simp] theorem State.setErr_pwr (w : Nat) (e : WordErr) : (s.setErr w e).pwr = s.pwr := rfl
@[simp] theorem State.setErr_det (w : Nat) (e : WordErr) : (s.setErr w e).det = s.det := rfl
@[simp] theorem State.setErr_msys (w : Nat) (e : WordErr) : (s.setErr w e).msys = s.msys := rfl
@[simp] theorem State.setErr_benches (w : Nat) (e : WordErr) : (s.setErr w e).benches = s.benches := rfl
@[simp] theorem State.setErr_mill (w : Nat) (e : WordErr) : (s.setErr w e).mill = s.mill := rfl
@[simp] theorem State.setErr_fab (w : Nat) (e : WordErr) : (s.setErr w e).fab = s.fab := rfl
@[simp] theorem State.setErr_coll (w : Nat) (e : WordErr) : (s.setErr w e).coll = s.coll := rfl
@[simp] theorem State.setErr_temper (w : Nat) (e : WordErr) : (s.setErr w e).temper = s.temper := rfl
@[simp] theorem State.setErr_stock (w : Nat) (e : WordErr) : (s.setErr w e).stock = s.stock := rfl

@[simp] theorem State.toNodeState_pending (n d : Nat) : (s.toNodeState n d).pending = s.pending := rfl
@[simp] theorem State.toNodeState_now (n d : Nat) : (s.toNodeState n d).now = s.now := rfl
@[simp] theorem State.toNodeState_tickSets (n d : Nat) : (s.toNodeState n d).tickSets = s.tickSets := rfl
@[simp] theorem State.toNodeState_mem (n d : Nat) : (s.toNodeState n d).mem = s.mem := rfl
@[simp] theorem State.toNodeState_errs (n d : Nat) : (s.toNodeState n d).errs = s.errs := rfl
@[simp] theorem State.toNodeState_free (n d : Nat) : (s.toNodeState n d).free = s.free := rfl
@[simp] theorem State.toNodeState_cst (n d : Nat) : (s.toNodeState n d).cst = s.cst := rfl
@[simp] theorem State.toNodeState_tg (n d : Nat) : (s.toNodeState n d).tg = s.tg := rfl
@[simp] theorem State.toNodeState_flt (n d : Nat) : (s.toNodeState n d).flt = s.flt := rfl
@[simp] theorem State.toNodeState_mgt (n d : Nat) : (s.toNodeState n d).mgt = s.mgt := rfl
@[simp] theorem State.toNodeState_pwr (n d : Nat) : (s.toNodeState n d).pwr = s.pwr := rfl
@[simp] theorem State.toNodeState_det (n d : Nat) : (s.toNodeState n d).det = s.det := rfl
@[simp] theorem State.toNodeState_msys (n d : Nat) : (s.toNodeState n d).msys = s.msys := rfl
@[simp] theorem State.toNodeState_benches (n d : Nat) : (s.toNodeState n d).benches = s.benches := rfl
@[simp] theorem State.toNodeState_mill (n d : Nat) : (s.toNodeState n d).mill = s.mill := rfl
@[simp] theorem State.toNodeState_fab (n d : Nat) : (s.toNodeState n d).fab = s.fab := rfl
@[simp] theorem State.toNodeState_coll (n d : Nat) : (s.toNodeState n d).coll = s.coll := rfl
@[simp] theorem State.toNodeState_temper (n d : Nat) : (s.toNodeState n d).temper = s.temper := rfl
@[simp] theorem State.toNodeState_stock (n d : Nat) : (s.toNodeState n d).stock = s.stock := rfl

@[simp] theorem State.setWord_regs (a : Nat) (v : Word) : (s.setWord a v).regs = Sparse.set regReset s.regs a v := rfl
@[simp] theorem State.out_outs (o : Out) : (s.out o).outs = s.outs ++ [o] := rfl
@[simp] theorem State.msix_outs (v : Nat) : (s.msix v).outs = s.outs ++ [.msix 0 v, .msix 1 v] := by simp [State.msix, State.out]
@[simp] theorem State.flag_reports (r : Report) : (s.flag r).flt.reports = s.flt.reports ++ [r] := rfl
@[simp] theorem State.at_now (t : Nat) : (s.at t).now = max s.now t := rfl
@[simp] theorem State.freeNext_free : s.freeNext.free = s.free + 1 := rfl

end Sys2Proof.Machine
end

