-- ==== Sys2Proof/Laws/Regs.lean ====
section
/-! SUPPORT. The register file: a field reads what was last written to it, a write to one field leaves every other, and the register
file and memory keep their canonical form under every write. -/

namespace Sys2Proof.Machine

theorem Fld.get_testBit (f : Fld) (w : Word) (i : Nat) :
    (f.get w).testBit i = (decide (i < f.width) && w.getLsbD (f.lo + i)) := by
  simp [Fld.get, Nat.testBit_mod_two_pow, Nat.testBit_div_two_pow, BitVec.getLsbD]
  rw [Nat.add_comm]

theorem Fld.put_getLsbD (f : Fld) (w : Word) (v i : Nat) :
    (f.put w v).getLsbD i =
      if f.lo ≤ i ∧ i < f.lo + f.width ∧ i < 32 then v.testBit (i - f.lo) else w.getLsbD i := by
  simp only [Fld.put, Fld.mask, BitVec.getLsbD_or, BitVec.getLsbD_and, BitVec.getLsbD_not, BitVec.getLsbD_ofNat,
    Nat.testBit_mul_two_pow, Nat.testBit_two_pow_sub_one]
  by_cases h1 : i < 32
  · by_cases h2 : f.lo ≤ i <;> by_cases h3 : i - f.lo < f.width
    · simp [h1, h2, h3, show i < f.lo + f.width by omega]
    · simp [h1, h2, h3, show ¬ i < f.lo + f.width by omega]
    · simp [h1, h2]
    · simp [h1, h2]
  · have : w.getLsbD i = false := BitVec.getLsbD_of_ge _ _ (by omega)
    simp [h1, this]

/-- A field reads what was written to it, cut to its width. -/
theorem Fld.get_put (f : Fld) (w : Word) (v : Nat) (h : f.lo + f.width ≤ 32) : f.get (f.put w v) = v % 2 ^ f.width := by
  apply Nat.eq_of_testBit_eq
  intro i
  rw [Fld.get_testBit, Fld.put_getLsbD, Nat.testBit_mod_two_pow]
  by_cases hi : i < f.width
  · have : f.lo ≤ f.lo + i ∧ f.lo + i < f.lo + f.width ∧ f.lo + i < 32 := by omega
    simp [hi, this]
  · simp [hi]

/-- Two fields of one word that do not overlap. -/
abbrev Fld.apart (f g : Fld) : Prop := f.lo + f.width ≤ g.lo ∨ g.lo + g.width ≤ f.lo

/-- A write to one field of a word leaves the others. -/
theorem Fld.get_put_apart (f g : Fld) (w : Word) (v : Nat) (h : f.apart g) : g.get (f.put w v) = g.get w := by
  apply Nat.eq_of_testBit_eq
  intro i
  rw [Fld.get_testBit, Fld.get_testBit, Fld.put_getLsbD]
  by_cases hi : i < g.width
  · have : ¬(f.lo ≤ g.lo + i ∧ g.lo + i < f.lo + f.width ∧ g.lo + i < 32) := by
      rcases h with h | h <;> omega
    simp [this]
  · simp [hi]

theorem Fld.get_lt (f : Fld) (w : Word) : f.get w < 2 ^ f.width := Nat.mod_lt _ (Nat.two_pow_pos _)

theorem State.rd_lt (s : State) (f : Fld) : s.rd f < 2 ^ f.width := f.get_lt _

/-! ### Words -/

theorem State.word_setWord (s : State) (a b : Nat) (v : Word) :
    (s.setWord a v).word b = if a = b then v else s.word b := Sparse.get_set _ _ _ _ _

theorem State.word_wr (s : State) (f : Fld) (v b : Nat) :
    (s.wr f v).word b = if f.addr = b then f.put (s.word f.addr) v else s.word b := State.word_setWord _ _ _ _

/-- A word depends on the register file alone. -/
theorem State.word_congr {s u : State} (h : u.regs = s.regs) (a : Nat) : u.word a = s.word a := by
  unfold State.word; rw [h]

theorem State.rd_congr {s u : State} (h : u.regs = s.regs) (f : Fld) : u.rd f = s.rd f := by
  unfold State.rd; rw [State.word_congr h]

/-- A write to a field, seen through any field. -/
theorem State.rd_wr (s : State) (f g : Fld) (v : Nat) :
    (s.wr f v).rd g = if f.addr = g.addr then g.get (f.put (s.word f.addr) v) else s.rd g := by
  unfold State.rd; rw [State.word_wr]; split <;> rfl

/-- A write to a field is read back, cut to its width. -/
theorem State.rd_wr_same (s : State) (f : Fld) (v : Nat) (h : f.lo + f.width ≤ 32) : (s.wr f v).rd f = v % 2 ^ f.width := by
  rw [State.rd_wr, if_pos rfl, Fld.get_put _ _ _ h]

/-- A write to a field leaves a field of another word, and one beside it in the same word. -/
theorem State.rd_wr_ne (s : State) (f g : Fld) (v : Nat) (h : f.addr ≠ g.addr ∨ f.apart g) : (s.wr f v).rd g = s.rd g := by
  rw [State.rd_wr]
  split
  · rename_i e
    rcases h with h | h
    · exact absurd e h
    · rw [Fld.get_put_apart _ _ _ _ h, State.rd, e]
  · rfl

theorem State.rd_wrBit_ne (s : State) (f g : Fld) (b : Bool) (h : f.addr ≠ g.addr ∨ f.apart g) :
    (s.wrBit f b).rd g = s.rd g := State.rd_wr_ne s f g _ h

theorem State.bit_wrBit (s : State) (f : Fld) (b : Bool) (h : f.width = 1) (h2 : f.lo + f.width ≤ 32) :
    (s.wrBit f b).bit f = b := by
  unfold State.bit State.wrBit
  rw [State.rd_wr_same _ _ _ h2, h]
  cases b <;> rfl

/-- A 64-bit value is read back from its two words. -/
theorem State.rd64_wr64 (s : State) (f : Fld) (v : Nat) (h0 : f.lo = 0) (hw : f.width = 32) :
    (s.wr64 f v).rd64 f = v % 2 ^ 64 := by
  have hh : f.hi.lo + f.hi.width ≤ 32 := by simp [Fld.hi, h0, hw]
  have hl : f.lo + f.width ≤ 32 := by omega
  have hne : f.hi.addr ≠ f.addr := by simp [Fld.hi]
  unfold State.rd64 State.wr64
  rw [State.rd_wr_same _ _ _ hh, State.rd_wr_ne _ _ _ _ (Or.inl hne), State.rd_wr_same _ _ _ hl]
  simp only [Fld.hi, hw]
  omega

/-! ### Updates that touch no register -/

@[simp] theorem State.rd_at (s : State) (t : Nat) (f : Fld) : (s.at t).rd f = s.rd f := rfl
@[simp] theorem State.rd_out (s : State) (o : Out) (f : Fld) : (s.out o).rd f = s.rd f := rfl
@[simp] theorem State.rd_msix (s : State) (v : Nat) (f : Fld) : (s.msix v).rd f = s.rd f := rfl
@[simp] theorem State.rd_flag (s : State) (r : Report) (f : Fld) : (s.flag r).rd f = s.rd f := rfl
@[simp] theorem State.rd_fault (s : State) (c : FClass) (l k : Nat) (m : Master) (x y : Nat) (i : Bool) (f : Fld) :
    (s.fault c l k m x y i).rd f = s.rd f := rfl
@[simp] theorem State.rd_swNote (s : State) (k : Nat) (m : Master) (f : Fld) : (s.swNote k m).rd f = s.rd f := rfl
@[simp] theorem State.rd_hallKey (s : State) (k ty fl : Nat) (b : List Byte) (f : Fld) : (s.hallKey k ty fl b).rd f = s.rd f := rfl
@[simp] theorem State.rd_hall (s : State) (ty : Nat) (b : List Byte) (au : Bool) (f : Fld) : (s.hall ty b au).rd f = s.rd f := rfl
@[simp] theorem State.rd_hallAfter (s : State) (le ty : Nat) (b : List Byte) (f : Fld) : (s.hallAfter le ty b).rd f = s.rd f := rfl
@[simp] theorem State.rd_freeNext (s : State) (f : Fld) : s.freeNext.rd f = s.rd f := rfl
@[simp] theorem State.rd_setBytes (s : State) (a : Nat) (b : List Byte) (f : Fld) : (s.setBytes a b).rd f = s.rd f := rfl
@[simp] theorem State.bit_at (s : State) (t : Nat) (f : Fld) : (s.at t).bit f = s.bit f := rfl
@[simp] theorem State.word_at (s : State) (t a : Nat) : (s.at t).word a = s.word a := rfl
@[simp] theorem State.ready_at (s : State) (t : Nat) : (s.at t).ready = s.ready := rfl
@[simp] theorem State.domOn_at (s : State) (t d : Nat) : (s.at t).domOn d = s.domOn d := rfl

/-- A register command that may act acts (R571, R610). -/
theorem State.cmd_acts {s : State} {d : Option Nat} (f : State → State) (h : s.ready = true) (hd : d.all s.domOn = true) :
    s.cmd d f = f s := by
  simp [State.cmd, h, hd]

/-! ### Canonical forms -/

/-- Every register write keeps the register file canonical. -/
theorem State.setWord_wf (s : State) (a : Nat) (v : Word) (h : Sparse.wf regReset s.regs = true) :
    Sparse.wf regReset (s.setWord a v).regs = true := Sparse.wf_set _ _ _ _ h

theorem State.wr_wf (s : State) (f : Fld) (v : Nat) (h : Sparse.wf regReset s.regs = true) :
    Sparse.wf regReset (s.wr f v).regs = true := State.setWord_wf _ _ _ h

/-- Every store keeps memory canonical. -/
theorem State.setBytes_wf (s : State) (a : Nat) (bs : List Byte) (h : Memory.wf s.msys.undef s.mem = true) :
    Memory.wf (s.setBytes a bs).msys.undef (s.setBytes a bs).mem = true := Sparse.wf_setList _ _ _ _ h

/-- A store is read back byte for byte, and every other byte reads as before. -/
theorem State.byteAt_setBytes_out (s : State) (a j : Nat) (bs : List Byte) (h : j < a ∨ a + bs.length ≤ j) :
    (s.setBytes a bs).byteAt j = s.byteAt j := Sparse.get_setList_out _ _ _ _ _ h

theorem State.byteAt_setBytes_in (s : State) (a i : Nat) (bs : List Byte) (h : i < bs.length) :
    (s.setBytes a bs).byteAt (a + i) = bs[i] := Sparse.get_setList_in _ _ _ _ _ h

end Sys2Proof.Machine
end

