-- ==== Sys2Proof/Laws/Frames.lean ====
section
/-! SUPPORT. Everything the shared operations can do: the parts of the state that each may change, the words and bytes among them, that they
keep the canonical forms and the queue, and that an event they hallmark waits for the chain. -/

namespace Sys2Proof.Machine

/-! ### Frames compose -/

theorem Part.same_refl (p : Part) (s : State) : p.same s s := by
  cases p <;> simp [Part.same]

theorem Part.same_trans {p : Part} {s u v : State} (h : p.same s u) (k : p.same u v) : p.same s v := by
  cases p <;> simp_all [Part.same]

theorem Only.rfl {l : List Part} {s : State} : Only l s s := fun p _ => p.same_refl s

theorem Only.mono {l m : List Part} {s u : State} (h : Only l s u) (hs : l ⊆ m) : Only m s u := fun p hp => h p (fun x => hp (hs x))

theorem Only.trans {l : List Part} {s u v : State} (h : Only l s u) (k : Only l u v) : Only l s v :=
  fun p hp => Part.same_trans (h p hp) (k p hp)

/-- Frames of two steps of an operation, one after the other. -/
theorem Only.comp {l m n : List Part} {s u v : State} (h : Only l s u) (k : Only m u v) (hl : l ⊆ n) (hm : m ⊆ n) : Only n s v :=
  (h.mono hl).trans (k.mono hm)

theorem Only.foldl {α : Type} {l : List Part} (f : State → α → State) (h : ∀ s x, Only l s (f s x)) :
    ∀ (xs : List α) (s : State), Only l s (xs.foldl f s)
  | [], _ => Only.rfl
  | x :: xs, s => (h s x).trans (Only.foldl f h xs (f s x))

theorem WordsOnly.rfl {l : List Nat} {s : State} : WordsOnly l s s := fun _ _ => Eq.refl _

theorem WordsOnly.mono {l m : List Nat} {s u : State} (h : WordsOnly l s u) (hs : l ⊆ m) : WordsOnly m s u := fun a ha => h a (fun x => ha (hs x))

theorem WordsOnly.trans {l : List Nat} {s u v : State} (h : WordsOnly l s u) (k : WordsOnly l u v) : WordsOnly l s v :=
  fun a ha => (k a ha).trans (h a ha)

theorem BytesOnly.trans {lo n : Nat} {s u v : State} (h : BytesOnly lo n s u) (k : BytesOnly lo n u v) : BytesOnly lo n s v :=
  fun a ha => (k a ha).trans (h a ha)

/-! ### What each operation may change -/

theorem State.only_at (s : State) (t : Nat) : Only [.clock] s (s.at t) := by
  intro p hp; cases p <;> first | exact absurd (List.mem_singleton.2 rfl) hp | simp [Part.same, State.at, State.word, State.byteAt]

theorem State.only_setWord (s : State) (a : Nat) (v : Word) : Only [.regs] s (s.setWord a v) := by
  intro p hp; cases p <;> first | exact absurd (List.mem_singleton.2 rfl) hp | simp [Part.same, State.setWord, State.byteAt]

theorem State.only_wr (s : State) (f : Fld) (v : Nat) : Only [.regs] s (s.wr f v) := s.only_setWord _ _

theorem State.only_wrBit (s : State) (f : Fld) (b : Bool) : Only [.regs] s (s.wrBit f b) := s.only_wr _ _

theorem State.only_wr64 (s : State) (f : Fld) (v : Nat) : Only [.regs] s (s.wr64 f v) := (s.only_wr _ _).trans (State.only_wr _ _ _)

theorem State.only_addSat (s : State) (f : Fld) (n : Nat) : Only [.regs] s (s.addSat f n) := s.only_wr _ _

theorem State.only_resetWords (s : State) (as : List Nat) : Only [.regs] s (s.resetWords as) :=
  Only.foldl _ (fun s a => s.only_setWord a _) as s

theorem State.only_flag (s : State) (r : Report) : Only [.flt] s (s.flag r) := by
  intro p hp; cases p <;> first | exact absurd (List.mem_singleton.2 rfl) hp | simp [Part.same, State.flag, State.word, State.byteAt]

theorem State.only_fault (s : State) (c : FClass) (l k : Nat) (m : Master) (x y : Nat) (i : Bool) : Only [.flt] s (s.fault c l k m x y i) :=
  s.only_flag _

theorem State.only_hallKey (s : State) (k ty fl : Nat) (b : List Byte) : Only [.sec] s (s.hallKey k ty fl b) := by
  intro p hp; cases p <;> first | exact absurd (List.mem_singleton.2 rfl) hp | simp [Part.same, State.hallKey, State.word, State.byteAt]

theorem State.only_hall (s : State) (ty : Nat) (b : List Byte) (au : Bool) : Only [.sec] s (s.hall ty b au) := s.only_hallKey _ _ _ _

theorem State.only_out (s : State) (o : Out) : Only [.outs] s (s.out o) := by
  intro p hp; cases p <;> first | exact absurd (List.mem_singleton.2 rfl) hp | simp [Part.same, State.out, State.word, State.byteAt]

theorem State.only_msix (s : State) (v : Nat) : Only [.outs] s (s.msix v) := (s.only_out _).trans (State.only_out _ _)

theorem State.only_freeNext (s : State) : Only [.free] s s.freeNext := by
  intro p hp; cases p <;> first | exact absurd (List.mem_singleton.2 rfl) hp | simp [Part.same, State.freeNext, State.word, State.byteAt]

theorem State.only_setBytes (s : State) (a : Nat) (bs : List Byte) : Only [.mem] s (s.setBytes a bs) := by
  intro p hp; cases p <;> first | exact absurd (List.mem_singleton.2 rfl) hp | simp [Part.same, State.setBytes, State.word]

theorem State.only_setErr (s : State) (w : Nat) (e : WordErr) : Only [.errs] s (s.setErr w e) := by
  intro p hp; cases p <;> first | exact absurd (List.mem_singleton.2 rfl) hp | simp [Part.same, State.setErr, State.word, State.byteAt]

theorem State.only_clearErr (s : State) (w : Nat) : Only [.errs] s (s.clearErr w) := by
  intro p hp; cases p <;> first | exact absurd (List.mem_singleton.2 rfl) hp | simp [Part.same, State.clearErr, State.word, State.byteAt]

/-- A W1C bit that the node sets (R10): its word, and the record that it was set in this tick. -/
theorem State.only_raise (s : State) (f : Fld) : Only [.regs, .clock] s (s.raise f) := by
  intro p hp
  cases p <;> first | (simp at hp; done) | simp [Part.same, State.raise, State.raiseBits, State.setWord, State.word, State.byteAt]

/-- A write refused with a code (R69): the error register and one SW note, no more. -/
theorem State.only_writeRefused (s : State) (c : Nat) (m : Master) : Only [.regs, .clock, .flt] s (s.writeRefused c m) :=
  have h := (State.only_wr (s.raise CST_ERR_WRITE_REF) CST_ERR_CODE c).trans (State.only_wr _ CST_ERR_DETAIL 0)
  ((s.only_raise _).comp (n := [.regs, .clock]) h (by simp) (by simp)).comp
    (State.only_fault _ _ _ _ _ _ _ _) (by simp) (by simp)

/-- A write refused by its block's own rule (R69). -/
theorem State.only_ruleRefused (s : State) (m : Master) : Only [.regs, .clock, .flt] s (s.ruleRefused m) :=
  (s.only_raise _).comp (State.only_fault _ _ _ _ _ _ _ _) (by simp) (by simp)

/-- A register command changes nothing where it may not act (R571, R610). -/
theorem State.cmd_idle {s : State} {d : Option Nat} (f : State → State) (h : (s.ready && d.all s.domOn) = false) : s.cmd d f = s := by
  simp [State.cmd, h]

/-! ### Words and bytes -/

theorem State.words_setWord (s : State) (a : Nat) (v : Word) : WordsOnly [a] s (s.setWord a v) := by
  intro b hb; rw [State.word_setWord]; simp at hb; simp [Ne.symm hb]

theorem State.words_wr (s : State) (f : Fld) (v : Nat) : WordsOnly [f.addr] s (s.wr f v) := s.words_setWord _ _

theorem State.words_wrBit (s : State) (f : Fld) (b : Bool) : WordsOnly [f.addr] s (s.wrBit f b) := s.words_wr _ _

theorem State.words_addSat (s : State) (f : Fld) (n : Nat) : WordsOnly [f.addr] s (s.addSat f n) := s.words_wr _ _

theorem State.words_wr64 (s : State) (f : Fld) (v : Nat) : WordsOnly [f.addr, f.hi.addr] s (s.wr64 f v) :=
  ((s.words_wr _ _).mono (by simp)).trans ((State.words_wr _ _ _).mono (by simp))

/-- A counter that saturates is read back. -/
theorem State.rd_addSat (s : State) (f : Fld) (n : Nat) (h : f.lo + f.width ≤ 32) : (s.addSat f n).rd f = min (s.rd f + n) (2 ^ f.width - 1) := by
  have hp : 0 < 2 ^ f.width := Nat.two_pow_pos _
  unfold State.addSat
  rw [State.rd_wr_same _ _ _ h, Nat.mod_eq_of_lt]
  omega

theorem State.bytes_setBytes (s : State) (a : Nat) (bs : List Byte) : BytesOnly a bs.length s (s.setBytes a bs) :=
  fun j h => State.byteAt_setBytes_out s a j bs h

/-! ### The canonical forms and the queue -/

/-- A step of an operation keeps the queue, and the canonical forms where they hold. -/
def Keeps (s u : State) : Prop := u.pending = s.pending ∧ (Canonical s → Canonical u)

theorem Keeps.rfl {s : State} : Keeps s s := ⟨Eq.refl _, id⟩

theorem Keeps.trans {s u v : State} (h : Keeps s u) (k : Keeps u v) : Keeps s v := ⟨k.1.trans h.1, fun c => k.2 (h.2 c)⟩

theorem Keeps.foldl {α : Type} (f : State → α → State) (h : ∀ s x, Keeps s (f s x)) : ∀ (xs : List α) (s : State), Keeps s (xs.foldl f s)
  | [], _ => Keeps.rfl
  | x :: xs, s => (h s x).trans (Keeps.foldl f h xs (f s x))

/-- An update of the other parts keeps them. -/
theorem Keeps.of_same {s u : State} (hq : u.pending = s.pending) (hr : u.regs = s.regs) (hm : u.mem = s.mem) (hu : u.msys.undef = s.msys.undef) :
    Keeps s u := by
  refine ⟨hq, fun c => ?_⟩
  unfold Canonical; rw [hr, hm, hu]; exact c

theorem Keeps.ite {s u v : State} {c : Prop} [Decidable c] (h : Keeps s u) (k : Keeps s v) : Keeps s (if c then u else v) := by
  split <;> assumption

theorem State.keeps_at (s : State) (t : Nat) : Keeps s (s.at t) := .of_same (Eq.refl _) (Eq.refl _) (Eq.refl _) (Eq.refl _)

theorem State.keeps_setWord (s : State) (a : Nat) (v : Word) : Keeps s (s.setWord a v) :=
  ⟨Eq.refl _, fun c => ⟨State.setWord_wf s a v c.1, c.2⟩⟩

theorem State.keeps_wr (s : State) (f : Fld) (v : Nat) : Keeps s (s.wr f v) := s.keeps_setWord _ _

theorem State.keeps_wrBit (s : State) (f : Fld) (b : Bool) : Keeps s (s.wrBit f b) := s.keeps_wr _ _

theorem State.keeps_wr64 (s : State) (f : Fld) (v : Nat) : Keeps s (s.wr64 f v) := (s.keeps_wr _ _).trans (State.keeps_wr _ _ _)

theorem State.keeps_addSat (s : State) (f : Fld) (n : Nat) : Keeps s (s.addSat f n) := s.keeps_wr _ _

theorem State.keeps_inc (s : State) (f : Fld) : Keeps s (s.inc f) := s.keeps_addSat _ _

theorem State.keeps_add64 (s : State) (f : Fld) (n : Nat) : Keeps s (s.add64 f n) := s.keeps_wr64 _ _

theorem State.keeps_resetWords (s : State) (as : List Nat) : Keeps s (s.resetWords as) := Keeps.foldl _ (fun s a => s.keeps_setWord a _) as s

theorem State.keeps_wrBytes (s : State) (f : Nat → Fld) (bs : List Byte) : Keeps s (s.wrBytes f bs) :=
  Keeps.foldl _ (fun s _ => s.keeps_wr _ _) _ s

theorem State.keeps_flag (s : State) (r : Report) : Keeps s (s.flag r) := .of_same (Eq.refl _) (Eq.refl _) (Eq.refl _) (Eq.refl _)

theorem State.keeps_fault (s : State) (c : FClass) (l k : Nat) (m : Master) (x y : Nat) (i : Bool) : Keeps s (s.fault c l k m x y i) :=
  s.keeps_flag _

theorem State.keeps_hallKey (s : State) (k ty fl : Nat) (b : List Byte) : Keeps s (s.hallKey k ty fl b) :=
  .of_same (Eq.refl _) (Eq.refl _) (Eq.refl _) (Eq.refl _)

theorem State.keeps_hall (s : State) (ty : Nat) (b : List Byte) (au : Bool) : Keeps s (s.hall ty b au) := s.keeps_hallKey _ _ _ _

theorem State.keeps_out (s : State) (o : Out) : Keeps s (s.out o) := .of_same (Eq.refl _) (Eq.refl _) (Eq.refl _) (Eq.refl _)

theorem State.keeps_msix (s : State) (v : Nat) : Keeps s (s.msix v) := (s.keeps_out _).trans (State.keeps_out _ _)

theorem State.keeps_freeNext (s : State) : Keeps s s.freeNext := .of_same (Eq.refl _) (Eq.refl _) (Eq.refl _) (Eq.refl _)

theorem State.keeps_setErr (s : State) (w : Nat) (e : WordErr) : Keeps s (s.setErr w e) := .of_same (Eq.refl _) (Eq.refl _) (Eq.refl _) (Eq.refl _)

theorem State.keeps_clearErr (s : State) (w : Nat) : Keeps s (s.clearErr w) := .of_same (Eq.refl _) (Eq.refl _) (Eq.refl _) (Eq.refl _)

theorem State.keeps_swNote (s : State) (c : Nat) (m : Master) : Keeps s (s.swNote c m) := s.keeps_fault _ _ _ _ _ _ _

theorem State.keeps_raiseBits (s : State) (a : Nat) (m : Word) : Keeps s (s.raiseBits a m) :=
  (s.keeps_setWord a _).trans (.of_same (Eq.refl _) (Eq.refl _) (Eq.refl _) (Eq.refl _))

theorem State.keeps_raise (s : State) (f : Fld) : Keeps s (s.raise f) := s.keeps_raiseBits _ _

theorem State.keeps_writeRefused (s : State) (c : Nat) (m : Master) : Keeps s (s.writeRefused c m) :=
  (((s.keeps_raise _).trans (State.keeps_wr _ _ _)).trans (State.keeps_wr _ _ _)).trans (State.keeps_swNote _ _ _)

theorem State.keeps_ruleRefused (s : State) (m : Master) : Keeps s (s.ruleRefused m) := (s.keeps_raise _).trans (State.keeps_swNote _ _ _)

theorem State.keeps_setBytes (s : State) (a : Nat) (bs : List Byte) : Keeps s (s.setBytes a bs) :=
  ⟨Eq.refl _, fun c => ⟨c.1, State.setBytes_wf s a bs c.2⟩⟩

/-- The keys above `k` stay above it in a filtered list. -/
theorem Sparse.above_filter {α : Type} (k : Nat) (q : Nat × α → Bool) (m : List (Nat × α)) (h : Sparse.above k m = true) :
    Sparse.above k (m.filter q) = true := by
  induction m with
  | nil => rfl
  | cons e m ih =>
    simp only [Sparse.above, Bool.and_eq_true, decide_eq_true_eq] at h
    rw [List.filter_cons]
    split
    · simp [Sparse.above, h.1, ih h.2]
    · exact ih h.2

/-- A filtered map whose entries stay off a new default is canonical for that default. -/
theorem Sparse.wf_filter {α : Type} [DecidableEq α] (d e : Nat → α) (q : Nat × α → Bool) (m : List (Nat × α)) (h : Sparse.wf d m = true)
    (hd : ∀ x, q x = true → x.2 ≠ d x.1 → x.2 ≠ e x.1) : Sparse.wf e (m.filter q) = true := by
  induction m with
  | nil => rfl
  | cons x m ih =>
    simp only [Sparse.wf, Bool.and_eq_true, decide_eq_true_eq] at h
    rw [List.filter_cons]
    split
    · rename_i hq
      simp [Sparse.wf, hd x hq h.1.1, Sparse.above_filter _ q m h.1.2, ih h.2]
    · exact ih h.2

/-- Memory that loses its contents keeps the canonical form (R393, R469). -/
theorem State.keeps_undefine (s : State) (g : Option (Nat × Nat)) (lo hi : Nat) : Keeps s (s.undefine g lo hi) := by
  refine ⟨Eq.refl _, fun c => ⟨c.1, ?_⟩⟩
  refine Sparse.wf_filter (memDefault s.msys.undef) _ _ _ c.2 (fun x hq hx => ?_)
  simp only [Bool.not_eq_true'] at hq
  simpa [memDefault, State.undefine, List.find?_cons, hq] using hx

/-! ### Hallmarks -/

/-- An event inserted waits. -/
theorem mem_hallInsert_self (g : HGroup) (l : List HGroup) : g ∈ hallInsert g l := by
  induction l with
  | nil => simp [hallInsert]
  | cons h l ih => simp only [hallInsert]; split <;> simp [ih]

/-- An event that waited goes on waiting. -/
theorem mem_hallInsert_of_mem (g : HGroup) {x : HGroup} {l : List HGroup} (hx : x ∈ l) : x ∈ hallInsert g l := by
  induction l with
  | nil => simp at hx
  | cons h l ih =>
    simp only [hallInsert]; split
    · exact List.mem_cons_of_mem _ hx
    · rcases List.mem_cons.1 hx with e | e
      · exact e ▸ List.mem_cons_self
      · exact List.mem_cons_of_mem _ (ih e)

/-- An event hallmarked now waits for the chain with this tick and its type (R553, R554). -/
theorem State.hallKey_waits (s : State) (k ty fl : Nat) (b : List Byte) :
    ∃ g ∈ (s.hallKey k ty fl b).sec.wait, g.tick = s.now ∧ ∃ r ∈ g.recs, r.ty = ty :=
  ⟨_, mem_hallInsert_self _ _, Eq.refl _, _, List.mem_cons_self, Eq.refl _⟩

theorem State.hall_waits (s : State) (ty : Nat) (b : List Byte) (au : Bool) :
    ∃ g ∈ (s.hall ty b au).sec.wait, g.tick = s.now ∧ ∃ r ∈ g.recs, r.ty = ty := s.hallKey_waits _ _ _ _

/-! ### Lengths -/

@[simp] theorem leBytes_length (n v : Nat) : (leBytes n v).length = n := by
  induction n generalizing v with
  | zero => simp [leBytes]
  | succ n ih => simp [leBytes, ih]

@[simp] theorem beBytes_length (n v : Nat) : (beBytes n v).length = n := by
  induction n with
  | zero => simp [beBytes]
  | succ n ih => simp [beBytes, ih]

@[simp] theorem slice_length (bs : List Byte) (off n : Nat) : (slice bs off n).length = n := by
  simp only [slice, List.length_append, List.length_replicate, List.length_take]; omega

end Sys2Proof.Machine
end

