-- ==== Sys2Proof/Tests/Slice0.lean ====
section
/-! SUPPORT. Tests: small states that meet the hypotheses of each statement together (wit_…), ill-formed terms that the checks refuse,
and values worked out by hand from the spec (test_…). -/

open Sys2Proof Sys2Proof.Machine

namespace Sys2Proof.Tests

set_option Elab.async false

/-- The reset state with some fields written: the small states of the tests. -/
def st (l : List (Fld × Nat)) : State := l.foldl (fun s e => s.wr e.1 e.2) State.reset

/-- The reset state of a node whose boot is done and whose domains are all On. -/
def readySt (l : List (Fld × Nat)) : State :=
  st ((MGT_BOOT_READY, 1) :: (List.range 50).map (fun d => (PWR_STATE_STATE d, 0)) ++ l)

/-- An aligned flit that asks the management service for an operation on an address. -/
def mgmtReq (op addr v : Nat) : Flit :=
  ⟨6, true, true, true, 0, 0, 0, 0, 0, [0, 0, 0, 0, BitVec.ofNat 8 op, 0, 0, 0] ++ leBytes 4 addr ++ leBytes 4 v, coreCheck []⟩


/-- Spans are whole where nothing is damaged, armed or out of step. -/
theorem whole_of {s : State} {a n : Nat} (h : s.bit FLT_INJ_LEFT_ARMED = false) (he : s.errs = []) (hc : s.msys.seq = s.msys.alive) :
    Whole s a n := ⟨h, fun w _ _ => by simp [State.errAt, he], fun w c _ _ _ _ => by rw [hc]⟩

/-- StepRunsFrontCommand: an empty queue. -/
theorem wit_step : State.reset.pending = [] := rfl

/-- StepKeepsCanonicalForm: the reset state is canonical and steps. -/
theorem wit_canonical : Canonical State.reset ∧ ∃ u, step State.reset = .next u := by
  refine ⟨?_, _, rfl⟩; unfold Canonical; decide

/-- RegisterWriteByApplyClass: a ready node in each node state; few and many pending writes. -/
theorem wit_write_class :
    (∀ c ∈ [stUncast, stApplying, stCast, stDraining],
      (st [(MGT_BOOT_READY, 1), (CST_STATE_STATE, c)]).ready = true ∧ (st [(MGT_BOOT_READY, 1), (CST_STATE_STATE, c)]).nodeState = c ∧
      (st [(MGT_BOOT_READY, 1), (CST_STATE_STATE, c)]).cst.spend.length < 4096) := by decide +kernel

theorem wit_write_full :
    let s := st [(MGT_BOOT_READY, 1), (CST_STATE_STATE, stCast)]
    let u : State := { s with cst := { s.cst with spend := List.replicate 4096 ⟨0, 0, 0, 0⟩ } }
    u.ready = true ∧ u.nodeState = stCast ∧ u.cst.spend.any (fun w => w.addr == TG_LATE_LIMIT.addr) = false ∧
      4096 ≤ u.cst.spend.length := by
  refine ⟨by decide +kernel, by decide +kernel, ?_, ?_⟩
  · exact List.any_eq_false.mpr (fun x hx => by rw [List.eq_of_mem_replicate hx]; decide)
  · exact Nat.le_of_eq (List.length_replicate ..).symm

/-- LowWordReadKeepsOneInstant: TG_NOW_LO on a ready node that holds no copy. -/
theorem wit_low_read : (st [(MGT_BOOT_READY, 1)]).ready = true ∧ TG_NOW_LO.addr % 4 = 0 ∧ hitsLow lowRo TG_NOW_LO.addr = true ∧
    (st [(MGT_BOOT_READY, 1)]).cst.heldHigh.find? (fun e => e.1 == Path.hp0 && e.2.1 == TG_NOW_LO.addr) = none := by decide +kernel

/-- LowWordWriteIsHeld: a ready node that holds a low word, and one that holds none. -/
theorem wit_low_write :
    let s := st [(MGT_BOOT_READY, 1)]
    let u : State := { s with cst := { s.cst with heldLow := [(.hp0, CST_SRC_LO.addr, 7, 0)] } }
    s.ready = true ∧ (s.at 5).heldLow .hp0 CST_SRC_LO.addr = none ∧ u.ready = true ∧
      (u.at 1600000).heldLow .hp0 CST_SRC_LO.addr = some 7 := by decide +kernel

/-- BoardControllerWindow: while UNCAST, a trained stack grants the board controller address 0, and one that is not trained does not. -/
theorem wit_bc :
    let s := st [(MEM_HSTAT_READY 0, 1)]
    s.spanWaits s.bcAddr 4 = false ∧ Whole s s.bcAddr 4 ∧ s.granted (pathMaster .bc) .r s.bcAddr 4 = true ∧
      s.granted (pathMaster .bc) .w s.bcAddr 4 = true ∧ State.reset.spanWaits State.reset.bcAddr 4 = false ∧
      Whole State.reset State.reset.bcAddr 4 ∧ State.reset.granted (pathMaster .bc) .r State.reset.bcAddr 4 = false ∧
      State.reset.granted (pathMaster .bc) .w State.reset.bcAddr 4 = false :=
  ⟨by decide +kernel, whole_of (by decide +kernel) rfl rfl, by decide +kernel, by decide +kernel, by decide +kernel,
    whole_of (by decide +kernel) rfl rfl, by decide +kernel, by decide +kernel⟩

/-- HostReachesNodeMemory: 8 bytes at offset 16 of a trained stack, granted, and of one that is not trained, refused. -/
theorem wit_bar2 :
    let s := st [(MEM_HSTAT_READY 0, 1)]
    s.bar2Addr 0 16 % 256 + 8 ≤ 256 ∧ s.spanWaits (s.bar2Addr 0 16) 8 = false ∧ Whole s (s.bar2Addr 0 16) 8 ∧
      s.granted (pathMaster (hostPath 0)) .r (s.bar2Addr 0 16) 8 = true ∧
      s.granted (pathMaster (hostPath 0)) .w (s.bar2Addr 0 16) 8 = true ∧ s.bar2Addr 0 16 < hbmEnd ∧
      State.reset.granted (pathMaster (hostPath 0)) .r (State.reset.bar2Addr 0 16) 8 = false ∧
      State.reset.granted (pathMaster (hostPath 0)) .w (State.reset.bar2Addr 0 16) 8 = false :=
  ⟨by decide +kernel, by decide +kernel, whole_of (by decide +kernel) rfl rfl, by decide +kernel, by decide +kernel, by decide +kernel,
    by decide +kernel, by decide +kernel⟩

/-- I3cTransferIsARegisterAccess: a transfer with a wrong packet error code; a ready node that holds no copy of a word. -/
theorem wit_i3c : (⟨0, none, false⟩ : I3c).pecOk = false ∧ (st [(MGT_BOOT_READY, 1)]).ready = true ∧ CST_LEN.addr % 4 = 0 ∧
    CST_LEN.addr ≠ MGT_BCDATA.addr ∧
    (st [(MGT_BOOT_READY, 1)]).cst.heldHigh.find? (fun e => e.1 == Path.bc && e.2.1 == CST_LEN.addr) = none := by decide +kernel

/-- ManagementServiceAnswers: both kinds of request, enabled and not, on each kind of address, while RT_NODE is not valid. -/
theorem wit_mgmt :
    isRequest (mgmtReq 0 0x80044 0) = true ∧ mgmtOp (mgmtReq 0 0x80044 0) = 0 ∧ isRequest (mgmtReq 1 0x80044 9) = true ∧
      mgmtOp (mgmtReq 1 0x80044 9) = 1 ∧ (State.reset.at 3).nodeValid = false ∧ (st [(MGT_MSVC_RD, 0)]).bit MGT_MSVC_RD = false ∧
      State.reset.bit MGT_MSVC_RD = true ∧ State.reset.bit MGT_MSVC_WR = false ∧
      (st [(MGT_MSVC_WR, 1), (MGT_BOOT_READY, 1)]).bit MGT_MSVC_WR = true ∧
      (st [(MGT_MSVC_WR, 1), (MGT_BOOT_READY, 1)]).ready = true ∧ definedReg (mgmtAddr (mgmtReq 0 0x80044 0)) = true ∧
      definedReg (mgmtAddr (mgmtReq 0 0x8FFFC 0)) = false ∧ protectedBlock (mgmtAddr (mgmtReq 1 0xC0018 0)) = true ∧
      protectedBlock (mgmtAddr (mgmtReq 1 0x80044 9)) = false ∧ State.reset.nodeState = stUncast ∧
      mgmtAddr (mgmtReq 1 0x80044 9) = TG_LATE_LIMIT.addr ∧ State.reset.bit CST_ERR_WRITE_REF = false := by decide +kernel

/-- LoadLatchesAndFetches and StagingCommands: a ready node in each phase, with a COMMIT bound, and quenched. -/
theorem wit_staging :
    let s := readySt []
    let f (l : List (Fld × Nat)) : State := readySt l
    s.ready = true ∧ s.nodeQuenched = false ∧ s.bound = false ∧ s.loading = false ∧ s.nodeState = stUncast ∧
      (f [(FLT_STAT_NODEQ, 1)]).nodeQuenched = true ∧ (f [(CST_STATE_COMMIT, 1)]).bound = true ∧
      (f [(CST_STATE_PHASE, 1)]).loading = true ∧ (f [(CST_STATE_PHASE, 4)]).phase? = phStaged ∧ s.phase? ≠ phStaged ∧
      (f [(CST_STATE_PHASE, 4), (CST_STATE_STATE, 3)]).phase? = phStaged ∧
      (f [(CST_STATE_PHASE, 4), (CST_STATE_STATE, 3)]).nodeState = stDraining ∧
      (f [(CST_STATE_PHASE, 4), (CST_STATE_STATE, 3)]).bound = false ∧ (f [(CST_STATE_PHASE, 4), (CST_STATE_COMMIT, 1)]).bound = true := by
  decide +kernel

/-- UncastDrains: each node state, with and without a COMMIT bound. -/
theorem wit_uncast : ∀ c ∈ [stUncast, stApplying, stCast, stDraining], ∀ b ∈ [0, 1],
    (readySt [(CST_STATE_STATE, c), (CST_STATE_COMMIT, b)]).ready = true ∧
    (readySt [(CST_STATE_STATE, c), (CST_STATE_COMMIT, b)]).nodeState = c ∧
    (readySt [(CST_STATE_STATE, c), (CST_STATE_COMMIT, b)]).bound = (b == 1) := by decide +kernel

/-- A state in a phase with some bytes staged and a length latched. -/
def phaseSt (ph : Nat) (staged : List Byte) (len : Nat) : State :=
  let s := st [(CST_STATE_PHASE, ph)]
  { s with cst := { s.cst with staged := staged, len := len } }

/-- LoadStepsInOrder, FETCH: a first page of zeros (no MAGIC), one with a wrong length, and a right one; the rest of an image. -/
theorem wit_fetch :
    let page (n : Nat) : List Byte := leBytes 4 0x53435A54 ++ leBytes 4 1 ++ leBytes 8 n ++ List.replicate 4080 0
    (phaseSt phFetch [] 12288).phase? = phFetch ∧ (phaseSt phFetch [] 12288).repairing stagingArea.1 = false ∧ (page 12288).length = 4096 ∧ leAt (List.replicate 4096 0) 0 4 ≠ 0x53435A54 ∧
      leAt (page 7) 0 4 = 0x53435A54 ∧ leAt (page 7) 4 2 = 1 ∧ leAt (page 7) 8 8 < 12288 ∧ leAt (page 12288) 0 4 = 0x53435A54 ∧
      leAt (page 12288) 8 8 = (phaseSt phFetch [] 12288).cst.len ∧
      (phaseSt phFetch (page 12288) 12288).cst.staged.length = 4096 ∧
      leAt ((List.replicate 4096 (0 : Byte) ++ (leBytes 4 0x47535A54 ++ List.replicate 4092 0)).drop 4096) 0 4 = 0x47535A54 := by
  decide +kernel

/-- A short staged image that is its own signature page: a signature (r, r) of the empty message and a key in slot 0 under which it
verifies, both found by hand so that the verification's multiples are small. -/
def signedSt : State :=
  let r : List Byte := beBytes 48 0xce2c1829d46b258e13364c9fac6c78da887f6dc4452f81d0a88dac1150271ade0be741f5b060571b26f7c7cc6bba0d6d
  let s := phaseSt phSign (List.replicate 8 0 ++ r ++ r) 0
  let key : List Byte :=
    beBytes 48 0xcdbccf13ccf5fb909e739d65ea65d8d9d13303659633fc4273a77b839ef89c3dd9201fb25cbda82c0b941e9a32bcc210 ++
    beBytes 48 0xb689d6808008568e95efa34512ba63143989ec170c5785a3af2b40be0b15851614f91735ac4cabff18a0f7836c9f7d28
  let s : State := { s with sec := { s.sec with keyBlock := List.replicate 32 0 ++ key } }
  s.wr SEC_SLOTS 1

/-- LoadStepsInOrder, SIGN: a slot with no key, and a slot with a key. -/
theorem wit_sign :
    signedSt.phase? = phSign ∧ imgKeySlot signedSt.cst.staged = 0 ∧ signedSt.slotState 0 = 1 ∧ (phaseSt phSign [] 0).slotState 0 ≠ 1 ∧
      (phaseSt phSign [] 0).phase? = phSign := by decide +kernel

/-- LoadStepsInOrder, SIGN: a signature of zeros does not verify, and that of signedSt does. -/
theorem wit_verify :
    ecdsaVerify (slotKey signedSt.sec.keyBlock 0) (imgDigest signedSt.cst.staged) 0 0 = false ∧
    ecdsaVerify (slotKey signedSt.sec.keyBlock 0) (imgDigest signedSt.cst.staged)
      (ofBeBytes (slice (signedSt.cst.staged.drop 0) 8 48)) (ofBeBytes (slice (signedSt.cst.staged.drop 0) 56 48)) = true := by
  decide +kernel

/-- A staged image that the re-check passes on any mask (MAPINV with no least count), and one that places a Bench (one KERN entry whose
section begins at byte 288 and says one logical Bench). -/
def anyMapImg : List Byte := List.replicate 19 0 ++ [1]
def benchImg : List Byte :=
  [0, 0, 0, 0, 0, 0, 1, 0] ++ List.replicate 11 0 ++ [1] ++ List.replicate 236 0 ++
    (leBytes 8 7 ++ leBytes 8 288 ++ leBytes 8 64 ++ leBytes 8 0) ++ leBytes 8 1

/-- LoadStepsInOrder, CHECK: an empty image fails. CommitRecheckAndDrain: a re-check that fails and one that passes, in each node state;
a quenched job's drain is complete, a drain with an epoch to run is not. -/
theorem wit_commit :
    let f (l : List (Fld × Nat)) (img : List Byte) : State := let s := st l; { s with cst := { s.cst with staged := img } }
    (phaseSt phCheck [] 0).phase? = phCheck ∧ (((phaseSt phCheck [] 0).at 5).checkImage []).isSome = true ∧
      (f [(CST_STATE_COMMIT, 1)] []).bound = true ∧ ((f [(CST_STATE_COMMIT, 1)] []).recheck []).isSome = true ∧
      (f [(CST_STATE_COMMIT, 1)] anyMapImg).recheck anyMapImg = none ∧
      (f [(CST_STATE_COMMIT, 1), (CST_STATE_STATE, 2)] anyMapImg).recheck anyMapImg = none ∧
      ((f [(CST_STATE_STATE, 3), (CST_STATE_QUENCHED, 1)] []).at 9).drained = true ∧
      ((f [(CST_STATE_STATE, 3), (CST_STATE_QUENCHED, 1), (CST_STATE_DRAIN_TO, 1)] anyMapImg).at 9).drained = true ∧
      ((f [(CST_STATE_STATE, 3), (TG_STATUS_STARTED, 1), (TG_NEXT_LO, 5)] []).at 9).drained = false ∧
      (f [(CST_STATE_STATE, 3)] []).cst.drainStart + 1600 * max 1 ((f [(CST_STATE_STATE, 3)] []).rd CST_DRAIN_LIMIT) ≤ max 0 80000000 := by
  decide +kernel

/-- ApplyPutsTheCastingInForce: an image that places no Bench, and one that places a Bench on a Hall that is Off. -/
theorem wit_apply :
    let f (img : List Byte) : State := let s := st [(CST_STATE_STATE, 1)]; { s with cst := { s.cst with staged := img } }
    (f []).nodeState = stApplying ∧ (f []).hallsReady = true ∧ (f benchImg).hallsReady = false := by decide +kernel

/-- A state with the image in force. -/
def withImg (s : State) (img : List Byte) : State := { s with cst := { s.cst with img := img } }

/-- An image with the header bytes of R41 that the tests need (FLAGS, axis sizes, coordinates, TROOT) and sections given as (TYPE, bytes), one
after another from byte 512 on, each cut or filled to 256 bytes. -/
def smallImg (flags : Nat) (secs : List (Nat × List Byte)) : List Byte :=
  let dir := (secs.zipIdx).flatMap (fun e => leBytes 8 e.1.1 ++ leBytes 8 (512 + 256 * e.2) ++ leBytes 8 e.1.2.length ++ leBytes 8 0)
  slice ([0, 0, 0, 0, 0, 0, BitVec.ofNat 8 secs.length, 0] ++ List.replicate 11 0 ++ [BitVec.ofNat 8 flags]) 0 256 ++
    slice dir 0 256 ++ secs.flatMap (fun e => slice e.2 0 256)

/-- A SEAM section of one entry without end: base 0, epochs of 5,000 ticks, START_MODE as given. -/
def seamBytes (mode : Nat) : List Byte := leBytes 8 0 ++ leBytes 4 1 ++ leBytes 4 mode ++ leBytes 8 0 ++ leBytes 8 0 ++ leBytes 8 5000 ++ leBytes 8 0

/-- Node W = 1 of a ring of two, whose root is W = 0; port 64 toward it is up with a link delay. -/
def ringSt (l : List (Fld × Nat)) : State :=
  let s := st ([(RT_NODE_W, 1), (RT_NODE_SW, 2), (RT_NODE_SX, 1), (RT_NODE_SY, 1), (RT_NODE_SZ, 1), (LK_STAT_STATE 64, 5),
    (TG_LDLY_VALID 64, 1), (TG_STATUS_SYNC, 2)] ++ l)
  { s with tg := { s.tg with root := some 0 } }

/-- TimeFollowsTheParent: node W = 1 takes time on port 64 from the root; good symbols of each type; a cast node that is far off. -/
theorem wit_follow :
    let s := ringSt []
    s.follows = true ∧ s.timePort = some 64 ∧ s.timePort ≠ some 65 ∧ 4 ≤ s.rd (LK_STAT_STATE 64) ∧ s.rd TG_STATUS_SYNC = syLocked ∧
      symType (symUnit 1 0) = some 1 ∧ symType (symUnit 2 0) = some 2 ∧ symBody (symUnit 1 0) / 2 ^ 21 % 2 = 0 ∧
      State.reset.follows = false ∧ (st [(LK_STAT_STATE 64, 5)]).follows = false ∧ 4 ≤ (st [(LK_STAT_STATE 64, 5)]).rd (LK_STAT_STATE 64) ∧
      (ringSt [(CST_STATE_STATE, 2)]).inForce = true ∧ (ringSt [(CST_STATE_STATE, 2)]).tg.offLost = false ∧
      (ringSt [(CST_STATE_STATE, 2)]).follows = true ∧ (ringSt [(CST_STATE_STATE, 2)]).timePort = some 64 := by decide +kernel

/-- LinkDelayIsHalfTheRoundTrip: links that are up and down, delays within the reach and above it, an endpoint port that sent a barrier. -/
theorem wit_delay :
    let s := st [(LK_STAT_STATE 64, 5)]
    let e := st [(LK_STAT_STATE 0, 5)]
    4 ≤ s.rd (LK_STAT_STATE 64) ∧ State.reset.rd (LK_STAT_STATE 64) < 4 ∧
      (((20 : Int) - 0 - ((6 : Int) - 2)) / 2).toNat ≤ 64 * (8 * s.rd (LK_CFG_REACH 64) + 64) ∧
      64 * (8 * s.rd (LK_CFG_REACH 64) + 64) < (((2 ^ 28 : Int) - 0 - 0) / 2).toNat ∧ isEndpoint 0 = true ∧
      symType (symUnit 5 0) = some 5 ∧
      ((e.setPort 0 { e.port 0 with sentAt := [(0, 0)] }).port 0).sentAt.find? (fun x => x.1 == symBody (symUnit 5 0) / 2 ^ 8 % 8) =
        some (symBody (symUnit 5 0) / 2 ^ 8 % 8, 0) := by decide +kernel

/-- BarrierStart: a ready root; a ready node whose parent is the root; neither; the root's child; READY and START symbols. -/
theorem wit_barrier :
    let img := smallImg 0 [(10, seamBytes 0)]
    let leaf := withImg (ringSt [(CST_STATE_STATE, 2)]) img
    let top0 := withImg (st [(RT_NODE_SW, 2), (RT_NODE_SX, 1), (RT_NODE_SY, 1), (RT_NODE_SZ, 1), (LK_STAT_STATE 64, 5), (CST_STATE_STATE, 2)]) img
    let top : State := { top0 with tg := { top0.tg with root := some 0 } }
    let done : State := { top with tg := { top.tg with readies := [⟨1, 64, top.seamDigest⟩] } }
    let sent : State := { leaf with tg := { leaf.tg with sentReady := true } }
    done.isReady = true ∧ done.isRoot = true ∧ done.tg.sentReady = false ∧ top.isReady = false ∧
      leaf.isReady = true ∧ leaf.isRoot = false ∧ leaf.parent = some 0 ∧ leaf.tg.sentReady = false ∧
      top.inForce = true ∧ top.children.contains (top.portReach 64) = true ∧ leaf.children.contains (leaf.portReach 64) = false ∧
      symType (symUnit 3 (2 ^ 8)) = some 3 ∧ symBody (symUnit 3 (2 ^ 8)) / 2 ^ 8 % 4 = 1 ∧
      symType (symUnit 3 (2 * 2 ^ 8)) = some 3 ∧ symBody (symUnit 3 (2 * 2 ^ 8)) / 2 ^ 8 % 4 = 2 ∧ isEndpoint 64 = false ∧
      sent.parent = some (sent.portReach 64) ∧ sent.tg.sentReady = true ∧ sent.inForce = true ∧ 4 ≤ sent.rd (LK_STAT_STATE 64) ∧
      leaf.tg.ignoredNoted = false := by decide +kernel

/-- PulsesAndTimeOfDay: a root that follows PPS_IN, with each output enabled; frames of TOD_IN. -/
theorem wit_pps :
    let img := smallImg 2 []
    let r0 := withImg (st [(RT_NODE_SW, 1), (RT_NODE_SX, 1), (RT_NODE_SY, 1), (RT_NODE_SZ, 1), (CST_STATE_STATE, 2), (TG_CTRL_PPS_OUT_EN, 1), (TG_CTRL_TOD_OUT_EN, 1)]) img
    let r : State := { r0 with tg := { r0.tg with pps := true } }
    r.ppsRoot = true ∧ State.reset.ppsRoot = false ∧ r.tg.ppsEdge.getD (r.rd64 CST_SINCE_LO) + 3200000000 ≤ 3200000000 ∧
      r.rd TG_STATUS_SYNC ≠ syHoldover ∧ r.isRoot = true ∧ r.tg.ppsHigh = none ∧ r.bit TG_CTRL_PPS_OUT_EN = true ∧
      ((3200000000 : Int) - (r.tg.phase.getD 0 : Nat)) % 1600000000 = 0 ∧ (st [(TG_CTRL_PPS_OUT_EN, 0)]).bit TG_CTRL_PPS_OUT_EN = false ∧
      r.bit TG_CTRL_TOD_OUT_EN = true ∧ (st [(TG_CTRL_TOD_OUT_EN, 0)]).bit TG_CTRL_TOD_OUT_EN = false ∧
      leAt (todFrame 1 9 0) 0 2 = 0x4454 ∧ leAt (todFrame 1 9 0) 22 2 = touchCrc 3 (slice (todFrame 1 9 0) 0 22) ∧
      leAt (todFrame 1 9 0) 3 1 % 2 = 1 ∧ leAt (todFrame 0 9 0) 3 1 % 2 = 0 ∧ leAt ([] : List Byte) 0 2 ≠ 0x4454 := by decide +kernel

/-- ResultsLeaveAtTheirTick: gates on time and late; an overdue seam. -/
theorem wit_gate :
    let g : Gate := ⟨0, 3, 100, 90, .post 5 0 0⟩
    let s : State := { State.reset with tg := { State.reset.tg with gates := [g] } }
    let o := withImg (st [(CST_STATE_STATE, 2), (TG_STATUS_STARTED, 1), (TG_NEXT_LO, 7), (TG_NEXT_HI, 0)]) []
    (∀ now ∈ [100, 101], leastBy (·.rel) (s.tg.gates.filter (fun g => g.kind == 0 && g.unit == 3 &&
        decide (g.rel ≤ now ∧ (g.ready ≤ g.rel ∨ g.ready < now)) && !s.behindStore g)) = some g) ∧
      s.tg.gates.filter (fun g => g.kind == 0 && g.unit == 3 &&
        decide (g.rel ≤ 99 ∧ (g.ready ≤ g.rel ∨ g.ready < 99)) && !s.behindStore g) = [] ∧
      o.jobRuns = true ∧ o.owes 4 0 7 = true ∧ 7 + o.rd TG_LATE_LIMIT ≤ 20000000 ∧ o.tg.overdue.contains (4, 0, 7) = false := by
  decide +kernel

/-- SeamsEndAndBeginEpochs: a node with a start tick; a seam that may occur, with no pending write and one on each side of its cut-off, and
one that may not. -/
theorem wit_seam :
    let img := smallImg 0 [(10, seamBytes 0)]
    let f := withImg (st [(CST_STATE_STATE, 2), (TG_NEXT_LO, 0), (TG_NEXT_HI, 0)]) img
    let first : State := { f with tg := { f.tg with start := some 40 } }
    let r := withImg (st [(CST_STATE_STATE, 2), (TG_STATUS_STARTED, 1), (TG_NEXT_LO, 5000), (TG_NEXT_HI, 0)]) img
    first.tg.start = some 40 ∧ first.nodeState = stCast ∧ first.quenched = false ∧ first.bit TG_STATUS_STARTED = false ∧
      first.rd DET_RCTL_MODE = 0 ∧ first.rd DET_STAT_MODE = 0 ∧ epochOf first.seamSect (first.rd64 TG_SEAM_LO) = some (5000, 0) ∧
      (r.at 5000).seamMay = true ∧ (r.at 4999).seamMay = false ∧ r.nodeState = stCast ∧ sect r.cst.img tyFLDS = [] ∧
      r.bit DET_STAT_HELD = false ∧ r.rd DET_STAT_MODE = 0 ∧ r.rd64 DET_PAUSE_LO = 0 ∧ r.cst.spend = [] ∧
      epochOf r.seamSect 1 = some (5000, 0) := by decide +kernel

/-- A Casting of one logical Bench with a kernel image of one bundle of code (an index word and a kernel of a header, one descriptor and two code words). -/
def kernSec (h slot : Nat) : List Byte :=
  let image := leBytes 4 0 ++ leBytes 2 0 ++ leBytes 2 1 ++ leBytes 4 96 ++ leBytes 4 16 ++ leBytes 4 96 ++ List.replicate 44 0 ++
    (leBytes 8 0 ++ leBytes 8 0 ++ leBytes 2 1 ++ leBytes 2 256 ++ leBytes 4 256 ++ leBytes 4 0 ++ leBytes 4 1) ++ leBytes 8 h ++ leBytes 8 slot
  slice (leBytes 4 1 ++ leBytes 4 1 ++ leBytes 4 1) 0 72 ++ ([1] ++ List.replicate 127 0) ++ leBytes 4 208 ++ leBytes 4 image.length ++ image

/-- A cast and started node that hosts logical Bench 0, of kernel `kernSec h slot`, on Hall 0; its Bench as changed by `f`. -/
def millSt (h slot : Nat) (l : List (Fld × Nat)) (f : Bench → Bench) : State :=
  let k := kernSec h slot
  let img := [0, 0, 0, 0, 0, 0, 1, 0] ++ List.replicate 248 (0 : Byte) ++ (leBytes 8 7 ++ leBytes 8 288 ++ leBytes 8 k.length ++ leBytes 8 0) ++ k
  let s := readySt ([(CST_STATE_STATE, 2), (TG_STATUS_STARTED, 1)] ++ l)
  let s : State := { s with cst := { s.cst with img := img }, mill := { s.mill with map := 1 } }
  s.setBench 0 (f { Bench.init with st := .running, k0 := ⟨0, true, none⟩, pc := 12 })

/-- That node with one slot in flight: its place, its word, registers before its bundle. -/
def slotSt (pos word : Nat) (r : BRegs) (l : List (Fld × Nat)) (f : Bench → Bench) : State :=
  millSt 0 0 l (fun b => f { b with flight := [⟨0, 12, 14, r, [⟨pos, BitVec.ofNat 64 word, .waiting⟩]⟩], nextId := 1 })

/-- SlotRowsWaitForTheirTurn: nothing in flight. BundlesIssueInOrder: a NOP bundle issues, is skipped on a false flag; reserved bits; a clash
of a MAC and an ACC; a PC past the code; not running. -/
theorem wit_issue :
    let go (h slot : Nat) (f : Bench → Bench) : State := millSt h slot [] f
    let xs (s : State) := bundleSlots (s.kimg (s.bench 0)) 12 (bitsOf (kWord (s.kimg (s.bench 0)) 12) 0 8)
    let plain := go 0x80 0 id
    let clash := go 0xC 0 id
    (∀ p ∈ [0, 1, 2, 3, 4, 5, 6, 7], plain.ready? 0 p 0 = none) ∧
      plain.benchActs 0 = true ∧ (plain.bench 0).st = .running ∧ plain.issueHeld 0 (plain.bench 0) = false ∧
      plain.bit DET_STAT_HELD = false ∧ plain.bit (MIL_BCTL_TAG_EN 0) = false ∧ (plain.bench 0).loops = [] ∧
      kCodeStart (plain.kimg (plain.bench 0)) = 12 ∧ kCodeEnd (plain.kimg (plain.bench 0)) = 14 ∧
      (xs plain).map (fun x => (x.pos, x.word)) = [(7, 0)] ∧ (∀ x ∈ xs plain, slotLegal x.pos x.word = true) ∧
      (xs (go 0x1080 0 id)).length = 1 ∧ bitsOf (kWord ((go 0x1010 0 id).kimg ((go 0x1010 0 id).bench 0)) 12) 12 2 = 1 ∧
      (go 0x1010 0 id).benchActs 0 = true ∧ ((go 0x1010 0 id).bench 0).regs.pf.getD 0 false = false ∧
      (∀ x ∈ xs (go 0x1010 0 id), x.pos ≠ 7) ∧ (go 0x1010 0 id).issueHeld 0 ((go 0x1010 0 id).bench 0) = false ∧
      bitsOf (kWord ((go 0x4080 0 id).kimg ((go 0x4080 0 id).bench 0)) 12) 14 2 ≠ 0 ∧
      (xs (go 0x80 16 id)).find? (fun x => !slotLegal x.pos x.word) = some ⟨7, 16, .waiting⟩ ∧ (xs clash).map (·.pos) = [2, 3] ∧
      (go 0x80 0 (fun b => { b with pc := 20 })).issueHeld 0 ((go 0x80 0 (fun b => { b with pc := 20 })).bench 0) = false ∧
      (go 0x80 0 (fun b => { b with st := .brk })).benchActs 0 = true := by decide +kernel

/-- BundlesIssueInOrder: a MAC and an ACC slot that name one set, both legal. -/
theorem wit_clash :
    let image := leBytes 4 0 ++ leBytes 2 0 ++ leBytes 2 0 ++ leBytes 4 64 ++ leBytes 4 24 ++ leBytes 4 64 ++ List.replicate 44 0 ++
      leBytes 8 0xC ++ leBytes 8 0 ++ leBytes 8 1
    let xs := bundleSlots image 8 (bitsOf (kWord image 8) 0 8)
    xs.map (fun x => (x.pos, x.word)) = [(2, 0), (3, 1)] ∧ (∀ x ∈ xs, slotLegal x.pos x.word = true) ∧
      bitsOf (0 : BitVec 64) 12 1 = bitsOf (1 : BitVec 64) 4 1 ∧ kCodeStart image = 8 ∧ kCodeEnd image = 11 := by decide +kernel

/-- SlotsCompleteAndBundlesRetire: a performed VEC slot, complete slots, an enabled retire-count break, a Bench at a break. -/
theorem wit_retire :
    let f (ph : SlotPhase) (l : List (Fld × Nat)) : State :=
      millSt 0 0 l (fun b => { b with flight := [⟨0, 12, 14, BRegs.init, [⟨4, 0, ph⟩]⟩], nextId := 1 })
    let p := f .performed []
    let c := f .complete []
    let r := f .complete [(MIL_BCTL_RET_EN 0, 1), (MIL_BRK_RET_LO 0, 1)]
    let k := millSt 0 0 [] (fun b => { b with st := .brk })
    ((p.bench 0).slots.find? (fun e => e.2.pos == 4 && e.2.phase == .performed && completesAlone 4 e.2.word && !p.gated 0 e.1.id 4)).isSome = true ∧
      p.benchActs 0 = true ∧ (∃ x ∈ [(⟨4, 0, .performed⟩ : Slot)], x.phase ≠ .complete) ∧ c.benchActs 0 = true ∧
      (c.bench 0).flight = [⟨0, 12, 14, BRegs.init, [⟨4, 0, .complete⟩]⟩] ∧ c.bit (MIL_BCTL_RET_EN 0) = false ∧
      r.bit (MIL_BCTL_RET_EN 0) = true ∧ ((r.bench 0).ret + 1) % 2 ^ 64 = r.rd64 (MIL_BRK_RET_LO 0) ∧ r.resident 0 = none ∧ r.benchActs 0 = true ∧
      (k.setRan 0).resident 0 = some 0 ∧ (k.setRan 0).foldNext 0 = none ∧ (∀ e ∈ (k.setRan 0).mill.ran, (k.setRan 0).physOf e.2 = e.1) ∧
      k.ready = true ∧ (k.bench 0).st = .brk ∧ k.domOn (k.physOf 0 / 32) = true ∧ (∀ j ∈ k.coHosted 0, j = 0) ∧ (0 : Nat) < k.benchN := by
  decide +kernel

/-- MoveSlotsWriteRegisters: a ready slot of each operation with D = 0 and IMM = 1, and FORMAT errors of D, X and IMM. -/
theorem wit_move :
    (∀ op ∈ List.range 10, ((slotSt 5 (op + 2 ^ 32) BRegs.init [] id).ready? 0 5 op).map (fun e => e.2.word) = some (BitVec.ofNat 64 (op + 2 ^ 32))) ∧
      (∀ op ∈ List.range 10, ((slotSt 5 (op + 15 * 16 + 15 * 2 ^ 12 + 2 ^ 48) BRegs.init [] id).ready? 0 5 op).isSome = true) ∧
      bitsOf (BitVec.ofNat 64 (15 * 16 + 15 * 2 ^ 12 + 2 ^ 48)) 4 4 = 15 ∧ bitsOf (BitVec.ofNat 64 (15 * 16 + 15 * 2 ^ 12 + 2 ^ 48)) 12 4 = 15 ∧
      bitsOf (BitVec.ofNat 64 (15 * 16 + 15 * 2 ^ 12 + 2 ^ 48)) 32 32 = 65536 := by decide +kernel

/-- SyncSlotsWaitAndCount: a ready slot of each operation, with the counter below and at VALUE, a release tick, earlier slots complete and not. -/
theorem wit_sync :
    (∀ op ∈ [0, 1, 2, 3], ((slotSt 6 (op + 2 ^ 32) BRegs.init [] id).ready? 0 6 op).isSome = true) ∧
      (slotSt 6 (2 ^ 32) BRegs.init [] id).rd (MIL_SYNC 0) < 1 ∧ 1 ≤ (slotSt 6 (2 ^ 32) BRegs.init [(MIL_SYNC 0, 1)] id).rd (MIL_SYNC 0) ∧
      ((slotSt 6 (2 ^ 32) BRegs.init [(MIL_SYNC 0, 1)] id).bench 0).st = .running ∧ (slotSt 6 0 BRegs.init [] id).resident 0 = none ∧
      (slotSt 6 1 BRegs.init [] id).benchN = 1 ∧
      ((slotSt 6 1 BRegs.init [] id).bench 0).earlierDone 0 6 (fun y => y.pos == 1) = true ∧
      ((slotSt 6 1 { BRegs.init with rel := some 9 } [] id).ready? 0 6 1).map (fun e => e.1.regs.rel) = some (some 9) ∧
      (∀ op ∈ [1, 2], let s := millSt 0 0 [] (fun b => { b with flight := [⟨0, 12, 14, BRegs.init, [⟨1, 0, .waiting⟩, ⟨6, BitVec.ofNat 64 op, .waiting⟩]⟩] });
        (s.ready? 0 6 op).isSome = true ∧ (s.bench 0).earlierDone 0 6 (fun y => y.pos == 1) = false) := by decide +kernel

/-- ControlSlotsSteerTheStream: a ready slot of each operation, with and without an unfinished slot before it; LOOPs of each kind. -/
theorem wit_ctrl :
    let f (word : Nat) (g : Bench → Bench) : State := slotSt 7 word BRegs.init [] g
    (∀ op ∈ [0, 1, 2, 3, 4, 5], ((f op id).ready? 0 7 op).isSome = true ∧ ((f op id).bench 0).st = .running ∧ (f op id).resident 0 = none) ∧
      (∀ op ∈ [2, 3], let s := millSt 0 0 [] (fun b => { b with flight := [⟨0, 12, 14, BRegs.init, [⟨4, 0, .performed⟩, ⟨7, BitVec.ofNat 64 op, .waiting⟩]⟩] });
        (s.ready? 0 7 op).isSome = true ∧ (s.bench 0).earlierDone 0 7 (fun _ => true) = false) ∧
      kCodeEnd ((f 1 id).kimg ((f 1 id).bench 0)) = 14 ∧ bitsOf (BitVec.ofNat 64 (1 + 13 * 16)) 4 13 < 14 ∧
      bitsOf (BitVec.ofNat 64 (1 + 14 * 16 + 15 * 2 ^ 17)) 4 13 = 14 ∧ bitsOf (BitVec.ofNat 64 (1 + 14 * 16 + 15 * 2 ^ 17)) 17 4 = 15 ∧
      (let u : Bundle := ⟨0, 12, 13, BRegs.init, [⟨7, BitVec.ofNat 64 (1 + 14 * 16 + 15 * 2 ^ 17 + 2 ^ 32), .waiting⟩]⟩
        let s := millSt 0 0 [] (fun b => { b with flight := [u], loops := List.replicate 4 ⟨12, 14, 2, 0⟩ });
        (s.ready? 0 7 1).isSome = true ∧ 4 ≤ (s.bench 0).loops.length ∧ (s.bench 0).st = .running) := by decide +kernel

/-- VectorSlotsComputeElementwise: a ready slot of each operation with two elements at one place, with ranges past the store, and with a
damaged word; formats that convert and that do not. -/
theorem wit_vec :
    let r : BRegs := { BRegs.init with vl := 2 }
    let far := 8191 * (2 ^ 7 + 2 ^ 20)
    (∀ op ∈ List.range 14, ((slotSt 4 (op + 9 * 2 ^ 59 % 2 ^ 63) r [] id).ready? 0 4 op).isSome = true) ∧
      (∀ l ∈ [[(20, 32)], [(20, 32), (33, 32)], [(20, 32), (33, 32), (46, 32)]], vecRanges 0 l (some (7, 32)) 2 = true ∧
        vecRanges (BitVec.ofNat 64 far) l (some (7, 32)) 64 = false ∧ Bench.init.vecDamaged 0 l 2 = false ∧
        Bench.vecDamaged { Bench.init with damage := [(0, [1, 2, 3])] } 0 l 2 = true) ∧
      vecRanges 0 [(20, 32)] none 2 = true ∧ vecRanges (BitVec.ofNat 64 far) [(20, 32)] none 64 = false ∧
      convFmt (BitVec.ofNat 64 (15 * 2 ^ 59)) = none ∧ (convFmt 0).isSome = true := by decide +kernel

/-- Operand register of one line of one element of FP32-class format `f` at cell 0. -/
def oneByOne (f : Nat) : BitVec 64 := BitVec.ofNat 64 (2 ^ 10 + 2 ^ 26 + f * 2 ^ 33)

/-- MatrixSlotsAccumulate: MAC and MACZ of one element each; a K of 0; a damaged operand. -/
theorem wit_mac :
    let r : BRegs := { BRegs.init with or := List.replicate 16 (oneByOne 4) }
    (∀ op ∈ [0, 1], ((slotSt 2 (op + 2 ^ 24) r [] id).ready? 0 2 op).isSome = true ∧
      macBad (BitVec.ofNat 64 (op + 2 ^ 24)) (oneByOne 4) (oneByOne 4) AccSet.init = false) ∧
      macBad 0 (oneByOne 4) (oneByOne 4) AccSet.init = true ∧ (slotSt 2 0 r [] id).bench 0 ≠ Bench.init ∧
      (orCells (oneByOne 4)).any (fun c => Bench.bad { Bench.init with damage := [(0, [1, 2, 3])] } (256 * c.1) (256 * c.2)) = true ∧
      (orCells (oneByOne 4)).any (fun c => Bench.init.bad (256 * c.1) (256 * c.2)) = false ∧
      (Fmt.ofCode 4).any (fun f => (pairKind f f).isSome) = true ∧ Fmt.ofCode (orFmt (oneByOne 4)) = Fmt.ofCode 4 ∧
      (slotSt 2 0 r [(NUM_ASSAY_RATE, 31)] id).rd NUM_ASSAY_RATE = 31 := by decide +kernel

/-- AccumulatorSlotsMoveSets: each operation ready on one row and column, raw; no rows, a range past the store; a damaged source. -/
theorem wit_acc :
    let one := 2 ^ 33 + 2 ^ 40 + 2 ^ 47
    (∀ op ∈ [0, 1, 2, 3], ((slotSt 3 (op + one) BRegs.init [] id).ready? 0 3 op).isSome = true ∧
      accError (BitVec.ofNat 64 (op + one)) .fp32 = none ∧ accError (BitVec.ofNat 64 op) .fp32 = some 2) ∧
      accError (BitVec.ofNat 64 (one + 1023 * 32 + 2 ^ 33 * 63 + 2 ^ 40 * 63)) .fp32 = some 3 ∧ accRaw (BitVec.ofNat 64 one) = true ∧
      Bench.init.bad 0 4 = false ∧ Bench.bad { Bench.init with damage := [(0, [1, 2, 3])] } 0 4 = true := by decide +kernel

/-- Guild table of one region, the whole of stack 0, that grants read and write to every Bench. -/
def gildSec : List Byte :=
  slice (leBytes 4 1 ++ leBytes 4 1) 0 64 ++
    (leBytes 1 2 ++ leBytes 1 1 ++ leBytes 2 0 ++ leBytes 4 0 ++ leBytes 8 0 ++ leBytes 8 (2 ^ 20) ++ leBytes 8 0) ++ List.replicate 32 0 ++
    (leBytes 1 1 ++ leBytes 1 3 ++ leBytes 2 0 ++ leBytes 4 0 ++ leBytes 4 1023 ++ leBytes 4 0)

/-- A node of one Bench with that guild table, its stacks ready, and one slot in flight. -/
def tileSt (pos word : Nat) (r : BRegs) (l : List (Fld × Nat)) (f : Bench → Bench) : State :=
  let s := slotSt pos word r ([(MEM_HSTAT_READY 0, 1)] ++ l) f
  let k := kernSec 0 0
  let img := [0, 0, 0, 0, 0, 0, 2, 0] ++ List.replicate 248 (0 : Byte) ++ (leBytes 8 7 ++ leBytes 8 320 ++ leBytes 8 k.length ++ leBytes 8 0) ++
    (leBytes 8 6 ++ leBytes 8 (320 + k.length) ++ leBytes 8 gildSec.length ++ leBytes 8 0) ++ k ++ gildSec
  { s with cst := { s.cst with img := img } }

/-- LoadsCopyTilesIntoTheStore and StoresWriteTheirSpans: a tile of one cell that is granted; one outside the grant; a descriptor that does
not exist; a poisoned word; a damaged source; group members. -/
theorem wit_tile :
    let s (pos word : Nat) := tileSt pos word BRegs.init [] id
    let x (word : Nat) : BitVec 64 := BitVec.ofNat 64 word
    let far : BRegs := { BRegs.init with ix := List.replicate 8 (BitVec.ofNat 32 0x100000) }
    (∀ p ∈ [(0, 15 * 2 ^ 12), (0, 1 + 15 * 2 ^ 12), (1, 15 * 2 ^ 12)], ((s p.1 p.2).ready? 0 p.1 (p.2 % 2)).isSome = true ∧
      tileBad ((s p.1 p.2).kimg ((s p.1 p.2).bench 0)) BRegs.init (x p.2) = false ∧
      (kDesc ((s p.1 p.2).kimg ((s p.1 p.2).bench 0)) 0).spans 0 = [(0, 256)] ∧
      (Fmt.ofCode (kDesc ((s p.1 p.2).kimg ((s p.1 p.2).bench 0)) 0).fmt).isSome = true ∧
      (s p.1 p.2).refusedSpan (gBench 0) .r [(0, 256)] = none ∧ (s p.1 p.2).refusedSpan (gBench 0) .w [(0, 256)] = none ∧
      (s p.1 p.2).bit FLT_INJ_LEFT_ARMED = false) ∧
      (s 0 0).refusedSpan (gBench 0) .r [(2 ^ 20, 256)] = some (2 ^ 20, 256) ∧ (s 0 0).refusedSpan (gBench 0) .w [(2 ^ 20, 256)] = some (2 ^ 20, 256) ∧
      (kDesc ((s 0 0).kimg ((s 0 0).bench 0)) 0).fmt ≠ 15 ∧
      tileBad ((s 0 0).kimg ((s 0 0).bench 0)) BRegs.init (x (16 + 15 * 2 ^ 12)) = true ∧
      tileBad ((s 0 0).kimg ((s 0 0).bench 0)) far (x 0) = false ∧
      ({ s 0 0 with errs := [(0, .poison)] } : State).errAt 0 = some .poison ∧ (s 0 0).errAt 0 = none ∧ (0 : Nat) ∈ wordsOf 0 256 ∧
      Bench.bad { Bench.init with damage := [(0, [1, 2, 3])] } 0 256 = true ∧
      kernInGroup (s 0 1).kern 0 0 = true ∧ kernInGroup (s 0 1).kern 1 0 = false ∧ (s 0 1).foldDepth = 1 ∧
      (s 0 (1 + 15 * 2 ^ 12)).hallMembers 0 0 = [0] ∧ ((s 0 (1 + 15 * 2 ^ 12)).ldbReady 0 0).isSome = true ∧ (s 0 0).ldbReady 0 0 = none ∧
      (s 0 0).errs = [] ∧ (s 0 0).msys.seq = (s 0 0).msys.alive ∧ ((tileSt 0 0 BRegs.init [(BP_MILM_MIN_MIN 0, 1)] id).moverTake 0 0 0 [(0, 256)]).1 = true ∧
      ((tileSt 0 0 BRegs.init [(BP_MILM_MAX_MAX 0, 0)] id).moverTake 0 0 0 [(0, 256)]).1 = false := by
  decide +kernel

/-- KernelBanksReload: KLDs of image 0 into each bank and of an image outside the library; a GO in each node state and on each bank; ends of
each kind of reload. -/
theorem wit_kernel :
    let k (word : Nat) (f : Bench → Bench) : State := slotSt 0 word BRegs.init [] f
    let g (l : List (Fld × Nat)) (f : Bench → Bench) : State := millSt 0 0 l f
    let h := g [] (fun b => { b with k1 := ⟨0, false, some true⟩ })
    (∀ w ∈ [2, 2 + 16, 2 + 2 ^ 16], ((k w id).ready? 0 0 2).isSome = true) ∧ kernImgs (k 2 id).kern = 1 ∧ ((k 2 id).bench 0).active = false ∧
      ((k 2 id).bench 0).k1.reload = none ∧ ((k 18 (fun b => { b with k1 := ⟨0, false, some true⟩ })).ready? 0 0 2).isSome = true ∧
      State.reset.nodeState ≠ stCast ∧ (g [] id).ready = true ∧ (g [] id).nodeState = stCast ∧ (g [(MIL_RLD_STAT_BUSY, 1)] id).bit MIL_RLD_STAT_BUSY = true ∧
      (g [(MIL_RLD_SEL_LIB, 1)] id).rd MIL_RLD_SEL_LIB = 1 ∧ (g [] id).bit MIL_RLD_SEL_BANK = false ∧ (g [] id).bit MIL_RLD_SEL_ALL = false ∧
      (g [] id).rd MIL_RLD_SEL_LBENCH = 0 ∧ 0 < (g [] id).benchN ∧ (g [(MIL_RLD_SEL_BANK, 1)] id).bit MIL_RLD_SEL_BANK = true ∧
      (g [(MIL_RLD_SEL_ALL, 1)] id).bit MIL_RLD_SEL_ALL = true ∧ (h.bench 0).k1.reload = some true ∧ h.inForce = true ∧
      ({ h with mill := { h.mill with reload := some ⟨false, 0, true, 0, [0], none⟩ } } : State).mill.reload =
        some ⟨false, 0, !(h.bench 0).active, h.rd MIL_RLD_SEL_LIB, [0], none⟩ ∧
      (let d := millSt 0 0 [] (fun b => { b with flight := [⟨0, 12, 14, BRegs.init, [⟨0, 18, .performed⟩]⟩], k1 := ⟨0, false, some false⟩, st := .drained, halted := true });
        ((d.bench 0).bank true).reload = some false ∧ (d.bench 0).halted = true ∧
        ((d.bench 0).slots.find? (fun e => e.2.pos == 0 && bitsOf e.2.word 0 4 == 2 && e.2.phase == .performed)).isSome = true) := by
  decide +kernel

/-- HallsAreDisabledAtOnce: each node state with a Hall disabled and none; a Hall that hosts a Bench. -/
theorem wit_hall :
    (∀ c ∈ [stUncast, stApplying, stCast, stDraining],
      let s := readySt [(CST_STATE_STATE, c), (MIL_HALL_DIS, 2)];
      s.ready = true ∧ s.pwr.trans = [] ∧ s.nodeState = c ∧ (s.rd MIL_HALL_DIS).testBit 1 = true ∧ s.hallOn 0 = true ∧ s.dom 0 = pwOn) ∧
      ((millSt 0 0 [] id).at 9).hallPlaced 0 = true ∧ (millSt 0 0 [] id).quenched = false ∧ ((millSt 0 0 [] id).at 9).hallPlaced 1 = false := by
  decide +kernel

/-- A CRUC section of one group (spanning N, SELF its member) and one descriptor given by its bytes at offsets. -/
def crucSec (f : List (Nat × List Byte)) : List Byte :=
  let d := f.foldl (fun (b : List Byte) e => b.take e.1 ++ e.2 ++ b.drop (e.1 + e.2.length)) (List.replicate 128 0)
  slice (leBytes 4 1 ++ leBytes 4 1) 0 64 ++ ([1] ++ List.replicate 22 0 ++ [1] ++ List.replicate 8 0) ++ List.replicate 32 0 ++ d

/-- A started node with that section. -/
def collSt (f : List (Nat × List Byte)) (l : List (Fld × Nat)) (is : List CollInst) : State :=
  let s := withImg (readySt ([(CST_STATE_STATE, 2), (TG_STATUS_STARTED, 1)] ++ l)) (smallImg 0 [(3, crucSec f)])
  { s with coll := { s.coll with insts := is } }

/-- A running instance with the in-node members given. -/
def collI (mem : List Nat) : CollInst :=
  { desc := 0, g := 0, mem := mem, seam := 0, start := 0, waiting := false, ins := mem.map (fun _ => .init), pass2 := []
    up := [], parts := [], steps := [], down := [⟨1, 0, [], some []⟩], rx := [], holds := [], bad := [], ready := [(0, 5)], released := []
    segs := [], drops := [], served := [], dropped := [], dst1 := false, stopped := false }

/-- CollectivesStartReadAndRelease: a barrier that is due with contexts free and taken; a running instance with SELF; contribution flits of
each epoch; a chunk that is ready, of an instance of one chunk and of two; an aligned-integer chunk. -/
theorem wit_coll :
    let bar := [(2, [(5 : Byte)]), (68, [0xFF, 0xFF]), (70, [0xFF, 0xFF])]
    let s := collSt bar [] []
    let taken := collSt (bar ++ [(24, [1])]) [] (List.replicate 32 { collI [] with g := 1 })
    let run := collSt bar [] [collI [128]]
    let sync := collSt [(2, [5]), (72, [1])] [] [collI [128]]
    let two := collSt [(4, [1]), (5, [1]), (8, leBytes 8 8192)] [] [collI []]
    let flit : Flit := ⟨0, true, false, true, 0, 0, 0, 0, 0, [], coreCheck []⟩
    let mem := collSt bar [] [collI [0]]
    let got : State := { mem with fab := { mem.fab with collIn := [(0, 0, flit)] } }
    s.jobRuns = true ∧ State.reset.jobRuns = false ∧ s.inst? 0 0 = none ∧ s.collDue.contains (0, 0) = true ∧ s.fences = [] ∧
      s.tg.epochStart + colStartOff s.cst.img 0 ≤ 0 ∧ s.ctxFree 0 = true ∧ (selfSpans s.cst.img (collI [128])).2 = [] ∧
      s.collGuild (collI [128]) = none ∧ (grpInsts s.cst.img (colGroup s.cst.img 0)).getD 0 [] = [128] ∧
      taken.jobRuns = true ∧ taken.inst? 0 0 = none ∧ taken.collDue.contains (0, 0) = true ∧ taken.ctxFree 0 = false ∧ taken.fences = [] ∧
      run.inst? 0 0 = some (collI [128]) ∧ run.jobRuns = true ∧ (collI [128]).mem.findIdx? (fun n => n == 128) = some 0 ∧ colOp run.cst.img 0 = 5 ∧
      colSyncIn run.cst.img 0 = 0xFFFF ∧ run.errs = [] ∧ run.bit FLT_INJ_LEFT_ARMED = false ∧ sync.rd (MIL_SYNC (colSyncIn sync.cst.img 0)) < colSyncVal sync.cst.img 0 ∧
      sync.inst? 0 0 = some (collI [128]) ∧ colSyncIn sync.cst.img 0 ≠ 0xFFFF ∧
      (got.fab.collIn.find? (fun e => e.1 == colUp got.cst.img 0 && got.portOf 0 e.2.1)).isSome = true ∧ got.inst? 0 0 = some (collI [0]) ∧
      flit.epoch = (collI [0]).seam % 256 ∧ ({ flit with epoch := 7 } : Flit).epoch ≠ (collI [0]).seam % 256 ∧
      two.jobRuns = true ∧ two.inst? 0 0 = some (collI []) ∧ colMode two.cst.img 0 ≠ 0 ∧ ((collI []).downAt 1 0 []).isSome = true ∧
      colChunks two.cst.img 0 = 2 ∧ colChunks mem.cst.img 0 = 1 ∧ (collI []).mem.contains 128 = false ∧ mem.inst? 0 0 = some (collI [0]) ∧
      (two.at 5).nextChunk (collI []) = none ∧ (two.at 6).nextChunk (collI []) = some (0, 5) ∧ (collI []).bad = [] ∧ (collI []).holds = [] ∧
      agStage two.cst.img 0 = none ∧ colRelOff two.cst.img 0 = 0 ∧
      (colSet run.cst.img 0).contains 0 = false := by decide +kernel

/-- A started node with one stage of a rule, fed by a REDUCESCATTER of two chunks, with a slice of chunk 5 waiting. -/
def temperSt (rule : Nat) (steps : List TStep) : State :=
  let img := smallImg 0 [(3, crucSec [(2, [1]), (5, [1]), (8, leBytes 8 8192)]),
    (8, List.replicate 72 0 ++ leBytes 2 1 ++ List.replicate 54 0 ++ ([BitVec.ofNat 8 rule, 7, 7] ++ List.replicate 7 0 ++ [0xFF, 0xFF]))]
  let s := withImg (readySt [(CST_STATE_STATE, 2), (TG_STATUS_STARTED, 1)]) img
  { s with temper := { s.temper with slices := [(0, 0, 5, [])], normOut := [(0, [])], steps := steps } }

/-- A step of stage 0 with some chunks done. -/
def stepX (done : List Nat) (p2 : Bool) (rel : List Nat) : TStep :=
  { stage := 0, desc := 0, seam := 0, start := 0, step := 1, layers := [], cur := false, phase2 := p2, done1 := done, done2 := [], sums := []
    ratio := [], ready := [(0, 3), (1, 9)], released := rel, slices := [], held := [], changed := [] }

/-- TemperStepsRunTheirStage: a slice that waits for a step; chunks of each rule and phase; norms back; slices ready, the last one too. -/
theorem wit_temper :
    let s := temperSt 0 []
    let u := temperSt 0 [stepX [] false []]
    let v := temperSt 2 [stepX [] false []]
    let w := temperSt 2 [stepX [0, 1] false []]
    s.jobRuns = true ∧ s.temper.slices.find? (fun x => x.1 == 0) = some (0, 0, 5, []) ∧ stgDesc s.cst.img 0 = some 0 ∧ s.step? 0 = none ∧
      s.errs = [] ∧ s.bit FLT_INJ_LEFT_ARMED = false ∧ s.temper.slices.find? (fun x => x.1 == 1) = none ∧
      u.step? 0 = some (stepX [] false []) ∧ u.temper.slices.find? (fun y => y.1 == 0 && y.2.2.1 == 5) = some (0, 0, 5, []) ∧
      (∀ l ∈ u.roundBenches (stgGroup u.cst.img 0) (roundsBefore u.cst.img 0 5) 0, u.benchIdle l = true) ∧ stgRule u.cst.img 0 = 0 ∧ stgRule v.cst.img 0 = 2 ∧ v.step? 0 = some (stepX [] false []) ∧
      (sliceElems u.cst.img 0 5).length = 0 ∧ (stepX [] false []).done1.length + 1 ≠ colChunks v.cst.img 0 ∧ u.jobRuns = true ∧ v.jobRuns = true ∧
      (stepX [0, 1] false []).done1.length = colChunks w.cst.img 0 ∧ stgNorm w.cst.img 0 = 0 ∧ colChunks u.cst.img 0 = 2 := by decide +kernel

/-- TemperStepsRunTheirStage: a slice too early, one that may leave, and the last one. -/
theorem wit_slices :
    let u := temperSt 0 [stepX [] false []]
    stgAg u.cst.img 0 = 0xFFFF ∧ stgRelOff u.cst.img 0 = 0 ∧ u.msys.seq = u.msys.alive ∧ stgSync u.cst.img 0 < 4096 ∧
      (u.at 3).nextSlice (stepX [] false []) = none ∧ (u.at 4).nextSlice (stepX [] false []) = some (0, 3) ∧
      (u.at 10).nextSlice (stepX [] false [0]) = some (1, 9) := by decide +kernel

/-- AssayJudgesSampledComparisons: comparisons that pass and fail, with and without an injection for Bench 0. -/
theorem wit_assay :
    let f (b : Bool) (l : List (Fld × Nat)) : State :=
      let s := st l
      { s with temper := { s.temper with samples := [⟨0, 1, 0, 0, b, 4, 5⟩] } }
    let inj := [(FLT_INJ_LEFT_ARMED, 1), (FLT_INJ_LEFT_LEFT, 2), (FLT_INJ_KIND, 9)]
    (∀ b ∈ [true, false], (f b []).temper.samples.find? (fun x => x.bench == 0) = some ⟨0, 1, 0, 0, b, 4, 5⟩ ∧ (f b []).bit FLT_INJ_LEFT_ARMED = false) ∧
      (f true []).temper.samples.find? (fun x => x.bench == 1) = none ∧ (f false inj).bit FLT_INJ_LEFT_ARMED = true ∧ 0 < (f false inj).rd FLT_INJ_LEFT_LEFT ∧
      (f false inj).rd FLT_INJ_KIND = 9 ∧ (f false inj).rd FLT_INJ_INDEX = 0 ∧ (f true []).bit NUM_ASSAY_CAP_VALID = false := by decide +kernel

/-- A started node with one Stock table (update rule as given, room in its log, Crucible 0) and packets at its ingress. -/
def stockSt (rule : Nat) (l : List (Fld × Nat)) (pk : List (Nat × Nat × Flit × Nat)) : State :=
  let desc := slice (leBytes 4 16 ++ leBytes 2 0 ++ [0x77, 7]) 0 40 ++ [1] ++ List.replicate 19 0 ++ leBytes 4 100 ++ leBytes 4 0 ++
    [BitVec.ofNat 8 rule, 0x77] ++ List.replicate 22 0 ++ leBytes 4 9 ++ leBytes 8 0x1000 ++ leBytes 8 0x8000 ++ leBytes 4 9 ++ leBytes 2 0 ++ leBytes 2 0 ++
    leBytes 2 0xFFFF
  let gild := slice (leBytes 4 1 ++ leBytes 4 1) 0 64 ++ ([2, 1] ++ List.replicate 14 0 ++ leBytes 8 (2 ^ 20) ++ leBytes 8 0) ++ List.replicate 32 0 ++
    ([2, 3] ++ List.replicate 14 0)
  let img := smallImg 0 [(9, slice (leBytes 4 1) 0 64 ++ desc), (6, gild)]
  let s := withImg (readySt ([(CST_STATE_STATE, 2), (TG_STATUS_STARTED, 1)] ++ l)) img
  { s with fab := { s.fab with stockIn := pk } }

/-- A one-flit request of a kind with one bag of one padding entry. -/
def stockReq (kind vc epoch : Nat) : Nat × Nat × Flit × Nat :=
  let d := [BitVec.ofNat 8 kind, 0] ++ leBytes 2 0 ++ leBytes 4 3 ++ leBytes 2 1 ++ leBytes 2 1 ++ [if kind = 1 then 7 else 0] ++ List.replicate 19 0 ++ leBytes 4 0xFFFFFFFF
  (5, 0, ⟨vc, true, false, true, 0, 0, epoch, 0, 0, slice d 0 256, coreCheck []⟩, 0)

/-- StockServesItsTables: good and refused requests of each kind, one of the next epoch, no context free, responses on time and late. -/
theorem wit_stock :
    let s := stockSt 1 [] [stockReq 0 2 0, stockReq 1 3 0]
    let e := stockSt 1 [] [stockReq 0 2 1, stockReq 1 3 1]
    let b := stockSt 1 [] [stockReq 0 2 9, stockReq 1 3 9]
    let x : Lookup := ⟨0, 0, 5, 0, 3, [], 2⟩
    let h (n : Nat) : State := { s with stock := { s.stock with lookups := List.replicate n x } }
    s.inForce = true ∧ s.bit TG_STATUS_STARTED = true ∧ s.bit DET_STAT_HELD = false ∧
      (∀ vc ∈ [2, 3], (s.stockPacket 5 0 vc).map (fun p => (s.stockEarly p.1, (s.at 4).stockStatus (vc - 2) p.1)) = some (false, 0) ∧
        (e.stockPacket 5 0 vc).map (fun p => e.stockEarly p.1) = some true ∧
        (b.stockPacket 5 0 vc).map (fun p => (b.stockEarly p.1, (b.at 4).stockStatus (vc - 2) p.1)) = some (false, 5) ∧
        s.stockPacket 6 0 vc = none) ∧
      (tabCrus s.cst.img 0).find? (fun c => decide (s.ctxOf c < 32)) = some 0 ∧ tabProj s.cst.img 0 = none ∧
      (s.stockPacket 5 0 2).any (fun p => match (((s.at 4).stockTake p.1 p.2).poolAll p.1).1 with | .ok _ => true | .error _ => false) = true ∧
      (∀ c ∈ tabCrus (h 32).cst.img 0, 32 ≤ (h 32).ctxOf c) ∧ leastBy (·.arrived) ((h 1).stock.lookups.filter (fun x => x.table == 0)) = some x ∧
      s.stock.lookups = [] ∧ tabLat s.cst.img 0 = 0 ∧ s.msys.seq = s.msys.alive ∧ s.errs = [] ∧ s.bit FLT_INJ_LEFT_ARMED = false := by
  decide +kernel

/-- StockUpdatesCommitOnce: an update that is due, granted and not (its stack not ready); one under way, part copied and complete. -/
theorem wit_update :
    let f (l : List (Fld × Nat)) : State :=
      let s := stockSt 1 l []
      { s with stock := { s.stock with logs := [(0, [(1, [])])] } }
    let s := f [(MEM_HSTAT_READY 0, 1)]
    let z := s.at 100
    let x (d : Option Nat) : Update := ⟨0, 0, 0, 1, 0, [(3, [], [], [])], 0, false, false, d⟩
    let u (d : Option Nat) : State := { s with stock := { s.stock with updates := [x d] } }
    let m : GMaster := ⟨2, tabGroup s.cst.img 0⟩
    s.jobRuns = true ∧ 0 < nTab s.cst.img ∧ s.updateDue 0 = true ∧ (∀ u ∈ s.stock.updates, u.table ≠ 0) ∧ s.stockOwes 0 = false ∧
      (∀ l ∈ s.updateBenches 0, s.benchIdle l = true) ∧ s.tg.epochStart + tabUpdOff s.cst.img 0 ≤ 100 ∧
      s.refusedOf m .r (updSpans s.cst.img 0) = none ∧ s.refusedOf m .w (updSpans s.cst.img 0) = none ∧
      ((f []).refusedOf m .r (updSpans (f []).cst.img 0)).isSome = true ∧ (f []).updateDue 0 = true ∧ s.errs = [] ∧ s.bit FLT_INJ_LEFT_ARMED = false ∧
      (match (z.updateRows 0 1 0 0 0 [] [] 0 ([], false)).1 with | .ok _ => true | .error _ => false) = true ∧
      s.logContribs 0 (s.bytesAt (tabLog s.cst.img 0) (256 * s.logUsed 0)) = [] ∧ s.msys.seq = s.msys.alive ∧
      (u none).stock.updates.find? (fun u => u.table == 0) = some (x none) ∧ (u none).jobRuns = true ∧ (x none).copied + 0 < (x none).rows.length ∧
      (x none).rows.length ≤ (x none).copied + 1 ∧ (u (some 3)).stock.updates.find? (fun u => u.table == 0) = some (x (some 3)) ∧
      tabUpdRel s.cst.img 0 = 0 ∧ s.stock.updates.find? (fun u => u.table == 0) = none := by decide +kernel

/-- A ready node with port 0 up and lane 0 as given. -/
def laneSt (l : List (Fld × Nat)) (x : Lane) : State := (readySt ([(LK_STAT_STATE 0, 5), (LN_STAT_SIG 0, 1)] ++ l)).setLane 0 x

/-- LanesAdaptTheirCode: each event with and without what it needs, a fourth bad window, a second low one, and a middle one. -/
theorem wit_lanes :
    let s := readySt []
    let u := laneSt [] Lane.init
    let w : Nat := 2 ^ 24
    let z := readySt [(LN_PEAK_CODE 0, 20)]
    let sw (d : Bool) : State := s.setLane 0 { Lane.init with sweep := some (d, 3, 12) }
    s.ready = true ∧ s.domOn 32 = true ∧ State.reset.domOn 32 = false ∧ State.reset.ready = false ∧ s.bit (LN_STAT_SIG 0) = false ∧
      u.bit (LN_STAT_SIG 0) = true ∧ s.portUp 0 = false ∧ u.portUp 0 = true ∧ (s.lane 0).sweep = none ∧
      ((sw true).lane 0).sweep = some (true, 3, 12) ∧ (List.range 32).length = 32 ∧ u.rd LN_CFG_FOM_FAIL = 48 ∧
      (u.lane 0).window + 2 ^ (16 + min 10 ((u.lane 0).win)) ≤ w ∧ (u.lane 0).bad < 3 ∧
      ((laneSt [] { Lane.init with bad := 3 }).lane 0).bad = 3 ∧ u.bit (LN_CTRL_ADAPT_EN 0) = true ∧
      ((laneSt [] { Lane.init with low := 1 }).lane 0).low = 1 ∧ u.rd LN_CFG_RA_HEAVY = 80 ∧ u.bit (LK_CFG_FEC 0) = true ∧
      s.rd (LN_STAT_MAIN 0) = s.rd (LN_PEAK_CODE 0) ∧
      z.rd (LN_STAT_MAIN 0) ≠ z.rd (LN_PEAK_CODE 0) ∧ (z.lane 0).stepped + 1024 ≤ w ∧ (z.lane 0).sweep = none := by decide +kernel

/-- LanesSearchAndCheck: lanes of up and other ports, each pattern, a checker that locks, counts and loses lock. -/
theorem wit_search :
    let s := readySt []
    let u := laneSt [] Lane.init
    let c (l : Nat) (x : Lane) : State := (readySt [(LN_CTRL_RX_PAT 0, 3), (LN_STAT_LOCK 0, l)]).setLane 0 x
    let many : Lane := { Lane.init with syms := 100, errs := List.replicate 63 100 }
    s.portUp 0 = false ∧ u.portUp 0 = true ∧ s.domOn 32 = true ∧ State.reset.domOn 32 = false ∧ s.rd (LK_STAT_STATE 0) ≠ 4 ∧
      (readySt [(LN_CTRL_RX_PAT 0, 5)]).rd (LN_CTRL_RX_PAT 0) = 5 ∧ s.rd (LN_CTRL_RX_PAT 0) = 0 ∧
      (c 0 Lane.init).rd (LN_CTRL_RX_PAT 0) = 3 ∧ (c 0 Lane.init).bit (LN_STAT_LOCK 0) = false ∧ (c 1 Lane.init).bit (LN_STAT_LOCK 0) = true ∧
      ((c 0 { Lane.init with run := 1023 }).lane 0).run + 1 = 1024 ∧
      64 ≤ (((c 1 many).lane 0).errs.filter (fun e => decide (((c 1 many).lane 0).syms + 1 < e + 1024)) ++ [101]).length ∧
      u.rd (LN_ECTRL_TX_DIS 0) / 2 ^ 0 % 2 = 0 := by decide +kernel

/-- A cast node that has two label entries: label 0 forwards from port 0 to port 1 with label 5, label 1 ends at the Crucibles. -/
def labelSt (l : List (Fld × Nat)) : State :=
  let mand := slice (leBytes 4 2) 0 64 ++ [1, 0, 1, 0, 1, 0] ++ leBytes 2 8 ++ leBytes 4 5 ++ leBytes 4 0 ++
    [3, 0, 1, 0, 1, 0] ++ leBytes 2 8 ++ leBytes 4 0 ++ leBytes 4 0
  withImg (readySt ([(CST_STATE_STATE, 2), (LK_STAT_STATE 0, 5), (LK_CFG_USE 0, 1), (LK_CFG_USE 1, 1)] ++ l)) (smallImg 0 [(tyMAND, mand)])

/-- A flit of VC `vc` with a label or a destination. -/
def flitOf (vc : Nat) (lbl : Bool) (addr : Nat) : Flit := ⟨vc, lbl, false, true, 0, addr, 0, 0, 0, List.replicate 256 0, coreCheck (List.replicate 256 0)⟩

/-- PortsSendFramesOfSlots: each kind of control position; symbols young and old; a LINKUP in IDENT; packets in progress with and without
room, waiting for more, and gone; flits of Q1, Q0 and Q2. -/
theorem wit_send :
    let up (k : Nat) (f : Port → Port) : State := let s := readySt [(LK_STAT_STATE k, 5), (LK_CFG_USE k, 1)]; s.setPort k (f { s.port k with txUnit := 1 })
    let q (n : Nat) : State := up 0 (fun p => p.setQueue n [⟨flitOf n true 0, 0, (0, 0), none, false⟩])
    let e (n : Nat) : QEnt := ⟨{ flitOf n true 0 with data := [], check := coreCheck [] }, 0, (0, 0), none, false⟩
    let x (n : Nat) : OpenTx := ⟨n, true, 0, 0, 0, 1⟩
    let w (s : State) : State := (s.at 9).startTags 0
    let s := up 0 id
    let o := up 0 (fun p => { p with openTx := some (x 0), queues := p.queues.set 0 [e 0] })
    let m := up 0 (fun p => { p with openTx := some (x 4), queues := p.queues.set 4 [e 4] })
    let n := up 0 (fun p => { p with openTx := some (x 0) })
    let r := n.setPort 1 { n.port 1 with openRx := some ⟨0, true, 0, 0, 0, 1, false, 0, 0, some 0, none, none, []⟩ }
    let i := st [(LK_STAT_STATE 0, 4), (LK_CFG_USE 0, 1)]
    let l := i.setPort 0 { i.port 0 with ctrl := [⟨2, 19, 0, 0⟩], linkRx := true, txUnit := 2024 }
    s.bit FLT_INJ_LEFT_ARMED = false ∧ s.portUp 0 = true ∧ s.rd DET_STAT_MODE = 0 ∧ s.streams 0 = true ∧ State.reset.streams 0 = false ∧
      isEndpoint 0 = true ∧ isEndpoint 64 = false ∧ (s.port 0).txUnit % 2024 ≠ 0 ∧ ((up 64 (fun p => { p with txUnit := 2024 })).port 64).txUnit / 2024 = 1 ∧
      ((up 64 (fun p => { p with barSeq := 15, rxBar := some (3, 5) })).port 64).barSeq = 15 ∧
      (∃ c ∈ ((up 0 (fun p => { p with ctrl := [⟨1, 11, 0, 0⟩] })).port 0).ctrl, c.since + 490 ≤ 500) ∧ (s.port 0).ctrl = [] ∧
      (s.port 0).stompEnd ≤ (s.port 0).txUnit ∧ ((up 0 (fun p => { p with stompEnd := 9 })).port 0).txUnit < 9 ∧ s.rd SW_QAGE = 0 ∧
      (o.at 9).candOpen 0 (x 0) = some (.uni (e 0)) ∧ (o.at 9).hasRoom 0 0 (.uni (e 0)) = true ∧
      (m.at 9).candOpen 0 (x 4) = some (.uni (e 4)) ∧ (m.at 9).hasRoom 0 4 (.uni (e 4)) = false ∧
      (n.at 9).candOpen 0 (x 0) = none ∧ (n.at 9).moreComing 0 (x 0) = false ∧ (r.at 9).candOpen 0 (x 0) = none ∧ (r.at 9).moreComing 0 (x 0) = true ∧
      (e 0).flit.check.fail = false ∧ s.tmMismatch (tmTx 0) (e 0).flit.data (e 0).flit.check = false ∧
      (s.port 0).openTx = none ∧ ((w (q 1)).eligible 0 1).isSome = true ∧ ((w (q 0)).eligible 0 0).isSome = true ∧
      (w (q 0)).eligible 0 1 = none ∧ (w (q 2)).eligible 0 1 = none ∧ (w (q 2)).eligible 0 0 = none ∧
      ((w (q 2)).port 0).stag.getD 2 none = some 0 ∧ (∀ j < 8, j ≠ 2 → ((w (q 2)).port 0).stag.getD j none = none) ∧
      ((w (q 2)).candOf 0 2).isSome = true ∧ (∀ j < 8, ((w s).port 0).stag.getD j none = none) ∧
      ctrlHead (l.port 0).ctrl = some ⟨2, 19, 0, 0⟩ ∧ l.streams 0 = true ∧ l.rd (LK_STAT_STATE 0) = 4 ∧ (l.port 0).txUnit / 2024 % 8 = 1 := by decide +kernel

/-- The slot at unit 1 of a Light FEC port whose first unit holds the bytes of a list and whose other units are 0: three codewords, the
first with its check symbols. -/
def slotOf (b c : List Nat) : SlotRx :=
  ⟨1, [List.replicate 16 0 ++ b ++ List.replicate (112 - b.length) 0 ++ c, List.replicate 132 0, List.replicate 132 0], true⟩

/-- SlotsAreJudgedAndSwitched: an idle slot, label flits, a packet flit of class M and a slot of zeros, as the port decodes them. -/
theorem wit_units :
    let unit (x : SlotRx) : Option (List Byte × CwOut) := (slotUnits x false).head?
    slotEnded (slotOf [2] [104, 251, 84, 197]) false = [.clean, .clean] ∧ unit (slotOf [2] [104, 251, 84, 197]) = some (leBytes 16 2, .clean) ∧
      unit (slotOf [] [0, 0, 0, 0]) = some (leBytes 16 0, .clean) ∧
      unit (slotOf [161, 0, 0, 0, 0, 0, 0, 118, 0, 0, 0, 0, 0, 0, 0, 0] [144, 103, 13, 45]) = some ((flitOf 0 true 0).header, .clean) ∧ unit (slotOf [161, 16, 0, 0, 0, 0, 0, 12, 0, 0, 0, 0, 0, 0, 0, 0] [63, 82, 173, 125]) = some ((flitOf 0 true 1).header, .clean) ∧
      unit (slotOf [153, 0, 0, 0, 0, 0, 0, 102, 0, 0, 0, 0, 0, 0, 0, 0] [247, 124, 189, 201]) = some ((flitOf 6 false 0).header, .clean) ∧ unit (slotOf [1] [1, 2, 3, 4]) = some (leBytes 16 1, .uncorrectable) := by decide +kernel

/-- SlotsAreJudgedAndSwitched: slots of each kind, a port that discards, and one that does not run. -/
theorem wit_slot :
    let f (l : Nat) : Flit := flitOf 0 true l
    let ok (g : Flit) : Bool := parseFlit g.header (List.replicate 256 0) ⟨0, 0, false, false⟩ == some { g with check := ⟨0, 0, false, false⟩ }
    let u := readySt [(LK_STAT_STATE 0, 5), (LK_CFG_FEC 0, 0)]
    let d := u.setPort 0 { u.port 0 with rxDiscard := true }
    4 ≤ u.rd (LK_STAT_STATE 0) ∧ State.reset.rd (LK_STAT_STATE 0) = 0 ∧ u.portUp 0 = true ∧ (st [(LK_STAT_STATE 0, 4)]).portUp 0 = false ∧
      u.heavy 0 = false ∧ unitField (leBytes 16 2) 0 2 = 2 ∧ ok (f 0) = true ∧ ok (f 1) = true ∧ ok (flitOf 6 false 0) = true ∧
      unitField (f 0).header 0 2 ≠ 2 ∧
      parseFlit (leBytes 16 0) [] ⟨0, 0, false, false⟩ = none ∧ unitField (leBytes 16 0) 0 2 ≠ 2 ∧
      (d.port 0).rxDiscard = true ∧ u.nodeState = stUncast ∧ (u.port 0).openRx = none := by decide +kernel

/-- SlotsAreJudgedAndSwitched: label flits that are forwarded and handed over. -/
theorem wit_label :
    let s := labelSt []
    let r : RxStream := ⟨0, true, 1, 0, 0, [], none, 0, 0, 8⟩
    let a : State := { s with fab := { s.fab with rxs := [r] } }
    s.portUp 0 = true ∧ s.nodeState ≠ stUncast ∧ s.nodeState ≠ stApplying ∧
      s.quenched = false ∧ mandEntry s.mand 0 = some ⟨1, false, false, false, 1, 0, 1, 0, 8, 5, 0⟩ ∧
      mandEntry s.mand 1 = some ⟨3, false, false, false, 1, 0, 1, 0, 8, 0, 0⟩ ∧ s.epFenced (s.epOf 0) = false ∧
      s.fwdPort 0 ⟨1, false, false, false, 1, 0, 1, 0, 8, 5, 0⟩ = some (1, 5) ∧ dieOf 1 = dieOf 0 ∧ (s.port 1).closes 0 = false ∧
      (s.grant1 0 (.queue 1 0) 0 0).isSome = true ∧ (s.findCell 0 (reqPort 0)).isSome = true ∧ (s.port 1).queues.length = 8 ∧
      a.fab.rxs.find? (fun r => r.port == 0 && r.lbl && r.key == 1 && r.vc == 0) = some r ∧ r.n = (flitOf 0 true 1).alive ∧
      s.bit FLT_INJ_LEFT_ARMED = false ∧ s.rd DET_STAT_MODE = 0 := by decide +kernel

/-- A ready node with port `k` in a state and its record changed. -/
def portSt (k state : Nat) (l : List (Fld × Nat)) (f : Port → Port) : State :=
  let s := readySt ([(LK_STAT_STATE k, state), (LK_CFG_USE k, 1), (LK_CTRL_ADMIN k, 1)] ++ l)
  s.setPort k (f (s.port k))

/-- A sending stream of port 0, label 5, VC 0, with one flit held. -/
def txOf (tries : Nat) (held : List (Flit × Nat × Nat)) : TxStream := ⟨3, .coll 0, 0, true, 5, 0, 8, 0, none, 1, held, [], 0, tries, false⟩

/-- StreamsAndRepliesAreRepaired: a symbol of each kind; streams that wait, resend and fail; replay buffers in each case. -/
theorem wit_repair :
    let one : List (Flit × Nat × Nat) := [({ flitOf 0 true 5 with alive := 0 }, 0, 0)]
    let s := labelSt []
    let x (n : Nat) : TxStream := txOf n one
    let sx (n : Nat) : State := { s with fab := { s.fab with txs := [x n] } }
    let ack (id next nak : Nat) : List Byte := symUnit 8 (id * 2 ^ 8 + 2 ^ 28 + next * 2 ^ 32 + nak * 2 ^ 48 + 9 * 2 ^ 49)
    let b (u : List Byte) : Nat := symBody u
    let r (f : Port → Port) : Port := (portSt 0 5 [] f).port 0
    symType (ack 5 0 1) = some 8 ∧ b (ack 5 0 1) / 2 ^ 28 % 2 = 1 ∧ b (ack 5 0 1) / 2 ^ 8 % 2 ^ 20 = 5 ∧ b (ack 5 0 1) / 2 ^ 48 % 2 = 1 ∧
      b (ack 5 1 0) / 2 ^ 32 % 2 ^ 16 = 1 ∧ b (ack 5 1 0) / 2 ^ 48 % 2 = 0 ∧
      ((sx 0).fab.txs.find? (fun x => x.port == 0 && x.lbl && x.key == 5 && x.vc == 0 && !x.failed)).isSome = true ∧
      (x 0).tries < max 1 (s.rd LK_GCFG_RESEND_MAX) ∧ max 1 (s.rd LK_GCFG_RESEND_MAX) ≤ (x 9).tries ∧
      (s.ackEntry 1 5).map (·.1) = some 0 ∧ s.ackEntry 1 6 = none ∧ s.fab.txs = [] ∧
      (x 0).adv + 2 ^ min 24 (max 12 (s.rd LK_GCFG_RTO)) ≤ 2 ^ 20 ∧
      symType (symUnit 9 (4 * 2 ^ 8 + 2 ^ 11)) = some 9 ∧ b (symUnit 9 (4 * 2 ^ 8 + 2 ^ 11)) / 2 ^ 8 % 8 = 4 ∧ symType (symUnit 9 0) = some 9 ∧
      symType (symUnit 10 0) = some 10 ∧ symType (symUnit 11 0) = some 11 ∧ symType (symUnit 12 (3 * 2 ^ 8)) = some 12 ∧
      symType (List.replicate 16 0) = none ∧ (portSt 0 5 [] id).rd (LK_STAT_STATE 0) = 5 ∧ (portSt 0 4 [] id).rd (LK_STAT_STATE 0) = 4 ∧
      (r id).txHeld = [] ∧ (r (fun p => { p with txHeld := [flitOf 6 false 0], replays := 8 })).replays = 8 ∧ s.rd LK_GCFG_REPLAY_MAX = 8 ∧
      (r (fun p => { p with rxDiscard := true, rxSeq := 3 })).rxSeq = b (symUnit 12 (3 * 2 ^ 8)) / 2 ^ 8 % 256 ∧ (r id).lackAt + 2048 ≤ 2 ^ 20 ∧
      s.rd (TG_LDLY_DELAY 0) = 0 := by decide +kernel

/-- PortsComeUpInOrder: each state; a port that can rise; IDENT symbols that pass, fail and wait for more. -/
theorem wit_bringup :
    let sig : List (Fld × Nat) := [(LN_STAT_SIG 0, 1), (LN_STAT_SIG 1, 1), (LN_STAT_SIG 2, 1), (LN_STAT_SIG 3, 1)]
    let d := portSt 0 0 sig id
    let q := portSt 0 0 [(FLT_STAT_NODEQ, 1)] id
    let i (f : Port → Port) : State := portSt 0 4 [] f
    let endp : Nat := 2 ^ 8 + 2 ^ 44
    let with0 (b : Nat) : State := i (fun p => { p with ident := ⟨some b, none, none⟩ })
    d.rd (LK_STAT_STATE 0) = 0 ∧ d.bit (LK_CTRL_ADMIN 0) = true ∧ d.nodeQuenched = false ∧ d.portPower 0 = true ∧ d.portUse 0 = true ∧
      (∀ n ∈ [0, 1, 2, 3], d.bit (LN_STAT_SIG n) = true) ∧ State.reset.ready = false ∧
      (portSt 0 2 [] id).rd (LK_STAT_STATE 0) = 2 ∧ (portSt 0 2 [] id).ready = true ∧ (portSt 0 2 [] id).domOn 32 = true ∧
      ((portSt 0 3 [] (fun p => { p with startRx := true })).port 0).startRx = true ∧
      ((portSt 0 3 [] (fun p => { p with startTx := true })).port 0).startTx = true ∧ ((portSt 0 3 [] id).port 0).startRx = false ∧
      symType (symUnit 16 endp) = some 16 ∧ symType (symUnit 17 0) = some 17 ∧ symType (symUnit 18 0) = some 18 ∧
      symType (symUnit 19 0) = some 19 ∧ symType (symUnit 20 0) = some 20 ∧ symType (List.replicate 16 0) = none ∧
      symBody (symUnit 16 0) / 2 ^ 44 % 2 ^ 1 ≠ d.rd (LK_CFG_FEC 0) ∧ (with0 (symBody (symUnit 16 endp))).identCheck 0 = some 0 ∧
      (i id).identCheck 0 = none ∧ (with0 0).identCheck 0 = some 7 ∧ ((i id).port 0).linkTx = false ∧ ((i id).port 0).linkQ = false ∧ ((i (fun p => { p with linkQ := true })).port 0).linkQ = true ∧ ((i id).port 0).linkRx = false ∧
      (∀ n ∈ [0, 1, 2, 3], (i id).rd (LN_CTRL_TX_PAT n) = 0 ∧ (i id).rd (LN_CTRL_RX_PAT n) = 0 ∧ (i id).bit (LN_STAT_FAILED n) = false) ∧
      (portSt 0 3 [] id).txOn 0 = true ∧ (portSt 0 3 [(LN_CTRL_TX_PAT 0, 1)] id).txOn 0 = false ∧ d.bit (LK_STAT_HELD 0) = false ∧ isEndpoint 0 = true ∧
      ((i (fun p => { p with linkTx := true })).port 0).linkTx = true ∧ (d.port 0).since + 1600000 < 2 ^ 21 ∧ q.nodeQuenched = true := by decide +kernel

/-- AuditorAndFencesAct: a die of a Large node in each state of the auditor; findings of each kind; fences local and remote, in force and not. -/
theorem wit_fences :
    let img := slice (smallImg 0 []) 0 512
    let big := img.set 18 1
    let cast (l : List (Fld × Nat)) : State := withImg (readySt ([(CST_STATE_STATE, 2), (SW_AUD_EN, 1)] ++ l)) big
    let s := readySt []
    let f (l : List (Fld × Nat)) : State := readySt l
    let down := cast [(LK_STAT_CAUSE 3, 5)]
    let x := down.setPort 3 { down.port 3 with downAt := some 0 }
    let e := st [(RT_FLIST_VALID 7, 1), (RT_FLIST_KIND 7, 2), (RT_FLIST_ARG 7, 5)]
    (cast []).scaleLarge = true ∧ s.scaleLarge = false ∧ (cast []).bit SW_AUD_EN = true ∧
      (cast []).rd (BP_AUD_STATE 0) = 0 ∧ (f [(BP_AUD_STATE 0, 2)]).rd (BP_AUD_STATE 0) = 2 ∧ (f [(BP_AUD_STATE 0, 3)]).rd (BP_AUD_STATE 0) = 3 ∧
      0 ∉ s.fab.leakNoted ∧ s.ready = true ∧ s.nodeState = stUncast ∧ (cast []).nodeState ≠ stUncast ∧
      s.portFenced 9 = false ∧ (f [(RT_PFENCE 0, 2 ^ 9)]).portFenced 9 = true ∧ addrCode 0 = s.selfCode ∧ addrCode 5 ≠ s.selfCode ∧
      s.epFenced 1 = false ∧ (f [(RT_EFENCE 0, 2)]).epFenced 1 = true ∧ State.reset.listFenced 2 5 = false ∧ e.listFenced 2 5 = true ∧
      (List.range 256).any (fun i => !e.bit (RT_FLIST_VALID i)) = true ∧
      (List.range 256).find? (fun i => e.bit (RT_FLIST_VALID i) && e.rd (RT_FLIST_KIND i) == 2 && e.rd (RT_FLIST_ARG i) == 5) = some 7 ∧
      x.inForce = true ∧ x.portUp 3 = false ∧ x.rd (LK_STAT_CAUSE 3) = 5 ∧ x.portFenced 3 = false ∧ (x.port 3).downAt = some 0 ∧
      0 + x.rd RT_FCTL_DELAY ≤ 2 ^ 20 := by decide +kernel

/-- AuditorAndFencesAct: cells that the auditor finds changed, free and named, unnamed, with too many and too few owners, and good. -/
theorem wit_audit :
    let s := readySt [(BP_AUD_STATE 0, 2)]
    let c (i : Nat) (h : List Nat) : PCell := ⟨0, i, h.map (fun q => (.queue 3 q, .queue 3 q, false)), 0, false, 0⟩
    let e (i : Nat) : QEnt := ⟨flitOf 0 true 0, 0, (0, i), none, false⟩
    let p := (s.port 3).setQueue 0 [e 1, e 2, e 3, e 5, e 7]
    let s := s.setPort 3 (p.setQueue 1 [e 5, e 7])
    let s : State := { s with fab := { s.fab with
      cells := [c 2 [0], c 3 [0, 1], c 4 [0], c 5 [0], c 6 [0], c 7 [0, 1]], leaf0 := [2, 3, 4, 5, 6, 7].map (fun i => (0, i)), chg := [(0, 6)] } }
    let refs (i : Nat) : Nat := (s.cellRefs.filter (fun e => e.1 == (0, i))).length
    let owners (i : Nat) : Nat := ((s.cellAt (0, i)).map (fun c => c.holds.length + c.extra)).getD 0
    s.rd (BP_AUD_STATE 0) = 2 ∧ s.judged 0 = [1, 2, 3, 4, 5, 6, 7] ∧ s.fab.leaf0.Nodup ∧ s.fab.leaf0.contains (0, 1) = false ∧
      (List.range 8).map refs = [0, 1, 1, 1, 0, 2, 0, 2] ∧ (List.range 8).map owners = [0, 0, 1, 2, 1, 1, 1, 2] := by decide +kernel

/-- A fence list that is full. -/
theorem wit_fence_full :
    let s : State := { State.reset with regs := (List.range 256).map (fun i => ((RT_FLIST_VALID i).addr, BitVec.ofNat 32 (2 ^ 31))) }
    (List.range 256).any (fun i => !s.bit (RT_FLIST_VALID i)) = false ∧ s.listFenced 2 5 = false := by decide +kernel

/-- GatesShapersAndSamples: lists next and in force; commits of good, bad and empty lists in each state; settings of each kind. -/
theorem wit_gates :
    let s := readySt []
    let g : GateList := ⟨[(500, 1), (500, 0xFF)], 100, 1000, false⟩
    let one : List (Fld × Nat) := [(GT_GCTL_LEN 0, 1), (GT_GCYCLE 0, 900), (GT_GL_INTERVAL 0 0, 900), (GT_GL_GATES 0 0, 0xFF)]
    let ok := readySt one
    let late := readySt (one ++ [(GT_GBASE_HI 0, 1)])
    let bad := readySt [(GT_GCTL_LEN 0, 1), (GT_GCYCLE 0, 900)]
    let cast := readySt ([(CST_STATE_STATE, 2)] ++ one)
    ((s.setPort 0 { s.port 0 with glist := some g }).port 0).glist = some g ∧ ((s.setPort 0 { s.port 0 with gnext := some g }).port 0).gnext = some g ∧
      (s.port 0).gnext = none ∧ s.ready = true ∧ s.domOn 40 = true ∧ State.reset.ready = false ∧ (readySt [(CST_STATE_STATE, 1)]).nodeState = stApplying ∧
      ok.gateCheck 0 1 900 (ok.shadowList 0) = 0 ∧ ok.rd (GT_GCTL_LEN 0) = 1 ∧ ok.rd (GT_GCYCLE 0) = 900 ∧ ok.nodeState = stUncast ∧
      bad.gateCheck 0 1 900 (bad.shadowList 0) = 2 ∧ s.rd (GT_GCTL_LEN 0) = 0 ∧ ok.rd64 (GT_GBASE_LO 0) < 0 + max 128 (ok.rd GT_LEAD) ∧
      max 128 (late.rd GT_LEAD) ≤ late.rd64 (GT_GBASE_LO 0) ∧ ok.bit GT_FIRST_VALID = false ∧ cast.nodeState ≠ stUncast ∧ cast.nodeState ≠ stApplying ∧
      cast.cst.spend.length < 4096 ∧ 2 ^ 20 % 2 ^ ((s.port 0).shaper 0).per = 0 ∧ 17 % 2 ^ ((s.port 0).shaper 0).per ≠ 0 ∧
      (readySt [(GT_SAMP_EN 0, 1)]).bit (GT_SAMP_EN 0) = true ∧ 2 ^ 30 % 2 ^ min 30 (max 10 (s.rd (GT_SAMP_SP 0))) = 0 := by decide +kernel

/-- BurnishReadsAndRepairsWords: an HBM word and a free pooled word in each kind of damage; passes in time and late; weak and harmless settings. -/
theorem wit_burnish :
    let s := readySt [(MEM_BCTL_EN_I, 1), (MEM_BCTL_EN_H, 1)]
    let e (w : Nat) (x : WordErr) : State := { s with errs := [(w, x)] }
    let off := readySt [(MEM_BCTL_EN_I, 0), (MEM_BCTL_EN_H, 0)]
    (targetOf 64).isSome = true ∧ s.burnishMay 64 = true ∧ off.burnishMay 64 = false ∧ (targetOf ingotBase).isSome = true ∧
      s.burnishMay ingotBase = true ∧ wordBase 70 = 64 ∧ s.errAt 64 = none ∧ (e 64 (.symbols [3])).errAt 64 = some (.symbols [3]) ∧
      (e 64 .poison).errAt 64 = some .poison ∧ (e ingotBase .allCheck).errAt ingotBase = some .allCheck ∧
      (match (e ingotBase .allCheck).pooledCell ingotBase with | some c => s.cellFree c | none => false) = true ∧
      s.pooledCell 64 = none ∧ (readySt [(DET_STAT_MODE, 1)]).absentRegion 64 = false ∧ s.tierOn true = true ∧ s.tierOn false = true ∧
      off.bit MEM_BCTL_EN_H = false ∧ 0 ≤ s.msys.passH + s.msys.perH * 1600000000 ∧ s.msys.passI + s.msys.perI * 1600000000 < 2 ^ 64 ∧
      State.reset.ready = false ∧ s.ready = true ∧ s.bit MEM_BCTL_EN_I = true ∧ s.bit FLT_INJ_LEFT_ARMED = false ∧ s.msys.seq = s.msys.alive := by decide +kernel

/-- RepairCommandsRunAndComplete: a node that may repair, one that runs a command, one that is cast; a line of a group remapped. -/
theorem wit_repairs :
    let s := readySt []
    let r (o : Nat) : State := { s with msys := { s.msys with repair := some (o, 0, 3), remapped := [(0, 3)] } }
    s.ready = true ∧ s.nodeState = stUncast ∧ s.msys.repair = none ∧ (r 1).msys.repair.isSome = true ∧
      (readySt [(CST_STATE_STATE, 2)]).nodeState ≠ stUncast ∧ (∀ o ∈ [1, 2, 3, 4, 5, 6], (r o).msys.repair = some (o, 0, 3)) ∧
      (0, 3) ∈ (r 2).msys.remapped ∧ (0, 3) ∉ s.msys.remapped ∧ 67 < 100 % 128 ∧ ¬(67 < 3 % 128) := by decide +kernel

/-- TouchmarksHoldsAndReplay: records old and young; a save seam to come; a held node; a log with a marker, a flit and a host write. -/
theorem wit_touch :
    let s := readySt [(TM_CFG_EN 3, 1)]
    let r : State := { s with fab := { s.fab with tmRecs := [(3, [⟨0, 0, 0, 0, false⟩])] } }
    let save := slice (seamBytes 0 ++ []) 0 64
    let img := smallImg 0 [(10, (save.set 40 1))]
    let c := withImg (readySt [(CST_STATE_STATE, 2), (TG_STATUS_STARTED, 1), (DET_STAT_MODE, 2), (DET_LSIZE_SIZE, 1)]) img
    let log (port fl : Nat) : State := { c with det := { c.det with shift := some (0, 100) }
                                                mem := [(256 + 9, 4), (256 + 16, 4), (256 + 24, BitVec.ofNat 8 port), (256 + 25, BitVec.ofNat 8 (port / 256)), (256 + 26, BitVec.ofNat 8 fl)].filter (fun e => e.2 ≠ 0) }
    s.ready = true ∧ s.bit (TM_CFG_EN 3) = true ∧ s.bit (TM_CFG_EN 4) = true ∧ r.tmList 3 = [⟨0, 0, 0, 0, false⟩] ∧ s.tmList 3 = [] ∧
      s.inForce = false ∧ c.inForce = true ∧ (∃ b < 64, isSave (withImg c (smallImg 0 [(10, save.set b 1)])).seamSect 1 = true) ∧
      c.rd64 TG_SEAM_LO < 1 ∧ s.bit DET_STAT_HELD = false ∧ (readySt [(DET_STAT_HELD, 1)]).bit DET_STAT_HELD = true ∧
      s.det.shift = none ∧ (log 5 1).det.shift = some (0, 100) ∧ c.rd DET_STAT_MODE = 2 ∧ c.jobRuns = true ∧
      (log 5 1).det.pos + 32 ≤ (log 5 1).logSize - 256 ∧ ((log 5 1).logAt 0).2.1 = 5 ∧ ((log 5 1).logAt 0).2.2.1 = 1 ∧
      ((log 0xFFFF 0).logAt 0).2.1 = 0xFFFF ∧ ((log 256 1).logAt 0).2.1 = 256 ∧ ((log 5 0).logAt 0).2.2.1 = 0 ∧
      leAt ((log 5 1).bytesAt ((log 5 1).logBase + 256 + 0) 8) 0 8 = 0 ∧ (log 5 1).errs = [] ∧ (log 5 1).bit FLT_INJ_LEFT_ARMED = false ∧
      leAt ((log 256 1).logAt 0).1 8 4 = 4 := by decide +kernel

/-- FaultsAreRecordedAndReacted: reports merged, escalated and of each level; classes acknowledged and kept; ERR_N in each state. -/
theorem wit_faults :
    let r (l : Nat) : Report := ⟨.link, l, 4, mPort 0, 7, 0, 0, false, false⟩
    let f (l : Nat) (x : List (Fld × Nat)) : State := let s := readySt x; { s with flt := { s.flt with reports := [r l] } }
    let m : State := { f 1 [] with flt := { (f 1 []).flt with recent := [⟨.link, 4, 0, 0⟩] } }
    let p (l : Nat) : State := f l [(FLT_PEND_PEND, 1), (CST_STATE_STATE, 2)]
    let k : State := { f 1 [] with now := 9, tickSets := [(FLT_PEND_PEND.addr, 1), ((FLT_CAP_INFO_VALID 0).addr, 1)] }
    let e (x : ErrnState) : State := { f 1 [] with flt := { (f 1 []).flt with errn := x } }
    (∀ l < 4, nextReport (f l []).flt.reports = some (r l)) ∧ (readySt []).flt.reports = [] ∧ m.flt.recent = [⟨.link, 4, 0, 0⟩] ∧
      (f 1 []).flt.recent = [] ∧ (p 1).rd FLT_PEND_PEND / 2 ^ 0 % 2 = 1 ∧ (f 1 []).rd FLT_PEND_PEND / 2 ^ 0 % 2 = 0 ∧ (p 2).inForce = true ∧ (p 2).quenched = false ∧
      (f 1 []).bit (FLT_CAP_INFO_VALID 0) = false ∧ (f 1 [(FLT_CAP_INFO_VALID 0, 1)]).bit (FLT_CAP_INFO_VALID 0) = true ∧
      9 ≤ k.now ∧ (k.setNow FLT_PEND_PEND.addr).toNat / 2 ^ 0 % 2 = 1 ∧ k.setNow (FLT_CAP_INFO_VALID 0).addr ≠ 0 ∧ (e (.pulse 0)).flt.errn = .pulse 0 ∧ (e (.gap 0 true)).flt.errn = .gap 0 true ∧
      (e .idle).flt.errn = .idle ∧ (f 1 []).rd FLT_CTRL_IRQ_LVL ≤ 1 ∧ (f 1 [(FLT_IEN_IEN, 511)]).rd FLT_IEN_IEN / 2 ^ 0 % 2 = 1 := by decide +kernel

/-- KeyCommandsRunAndComplete: each form of a key command; a block that is none, and how a block that verifies is met. -/
theorem wit_keys :
    let s := readySt []
    let o := readySt [(SEC_STAT_OWNED, 1), (CST_STATE_PHASE, phSign)]
    let b : State := { s with sec := { s.sec with keyCmd := some ⟨1, .hp0, 0⟩ } }
    let a : State := { s with sec := { s.sec with attest := true } }
    s.nodeState = stUncast ∧ s.bit SEC_STAT_OWNED = false ∧ s.sec.keyCmd = none ∧ s.sec.attest = false ∧ o.bit SEC_STAT_OWNED = true ∧
      o.phase? = phSign ∧ (readySt [(SEC_STAT_OWNED, 1)]).phase? ≠ phSign ∧ b.sec.keyCmd = some ⟨1, .hp0, 0⟩ ∧ a.sec.attest = true ∧
      (readySt [(CST_STATE_STATE, 2)]).nodeState ≠ stUncast ∧ b.kbFault true (slice [0] 0 4096) = some 3 ∧
      (readySt [(CST_STATE_PHASE, phStaged)]).phase? = phStaged := by decide +kernel

/-- A key block of version 1 with empty slots, signed under its own owner key: that of private key 3, with nonce 5 (worked out apart, by
FIPS 186-5). -/
def keyBlock1 : List Byte :=
  leBytes 4 0x424B5A54 ++ [1, 0, 0, 0, 1, 0, 0, 0] ++ List.replicate 1796 0 ++
  beBytes 48 0x77a41d4606ffa1464793c7e5fdc7d98cb9d3910202dcd06bea4f240d3566da6b408bbae5026580d02d7e5c70500c831 ++
  beBytes 48 0xc995f7ca0b0c42837d0bbe9602a9fc998520b41c85115aa5f7684c0edc111eacc24abd6be4b5d298b65f28600a2f1df1 ++
  List.replicate 2096 0 ++
  beBytes 48 0x11de24a2c251c777573cac5ea025e467f208e51dbff98fc54f6661cbe56583b037882f4a1ca297e60abcdbc3836d84bc ++
  beBytes 48 0x5ff1df00e92450e8fbf8d989b1352f0ae0ab3d13a2c38ff2a457676d5a66cb19686bd31f8340c09b7510be6e339f4c34

theorem test_key_block_verifies : kbSigned keyBlock1 = true := by decide +kernel

theorem test_key_block_length : keyBlock1.length = 4096 := by decide +kernel

/-- The block is all that the command takes of it. -/
theorem test_key_block_slice : slice keyBlock1 0 4096 = keyBlock1 := by
  simp only [slice, List.drop_zero]
  rw [List.take_of_length_le (Nat.le_of_eq test_key_block_length)]
  rw [test_key_block_length, Nat.sub_self, List.replicate_zero, List.append_nil]

/-- KeyCommandsRunAndComplete: a block that an OWN takes, and one that an INSTALL takes and that revokes a staged Casting's slot. -/
theorem wit_block :
    let s := readySt []
    let o := readySt [(SEC_STAT_OWNED, 1), (CST_STATE_PHASE, phStaged)]
    let i : State := { o with sec := { o.sec with ownerDig := kbOwner keyBlock1, keyCmd := some ⟨2, .hp0, 0⟩ } }
    s.kbFault true keyBlock1 = none ∧ i.kbFault false keyBlock1 = none ∧ i.phase? = phStaged ∧ i.nodeState ≠ stApplying ∧
      kbSlots keyBlock1 / 4 ^ imgKeySlot i.cst.staged % 4 ≠ 1 := by
  simp only [State.kbFault, test_key_block_verifies]
  decide +kernel

/-- DenialsClearsAndTheChain: windows old and young; spans granted and not; records to commit, to lose and to report lost; a ring with room. -/
theorem wit_chain :
    let s := readySt [(SEC_EXPCTL_EN, 1), (MEM_HSTAT_READY 0, 1)]
    let q := readySt [(SEC_EXPCTL_EN, 1), (SEC_CLR_BASE_HI, 0x50), (SEC_CLR_LEN, 1)]
    let c (f : SecState → SecState) : State := { s with sec := f s.sec }
    let w : HGroup := ⟨3, 1, [⟨3, 5, 0, 0, []⟩]⟩
    let x := c (fun e => { e with wait := [w] })
    let l := c (fun e => { e with wait := [w], lost := some (7, 2) })
    let m := c (fun e => { e with wait := [⟨3, 1, [⟨3, 0, 0, 0, []⟩]⟩], lost := some (7, 2), lastCommit := some 0 })
    let e := c (fun e => { e with queue := [[1]] })
    let d := c (fun e => { e with deny := [⟨4, 0, 2, 0, 0, 3, 0, 4⟩], clear := some (0, 1) })
    (nextRec x.sec.wait).map (·.1.ty) = some 5 ∧ x.sec.lost = none ∧ x.sec.lastCommit = none ∧ x.sec.queue.length < 16384 ∧
      l.sec.lost = some (7, 2) ∧ (nextRec m.sec.wait).map (·.1.ty) = some 0 ∧ m.sec.lastCommit = some 0 ∧
      nextRec s.sec.wait = none ∧ e.sec.queue = [[1]] ∧ e.bit SEC_EXPCTL_EN = true ∧ e.unread < 2 ^ e.ringSize ∧ State.reset.bit SEC_EXPCTL_EN = false ∧
      e.sec.marked = false ∧ (∃ v ∈ d.sec.deny, v.first + 2 ^ 20 ≤ 2 ^ 21 ∧ v.count ≠ 0) ∧ d.sec.clear = some (0, 1) ∧ s.sec.clear = none ∧
      s.granted ⟨4, 0⟩ .f 0 (256 * 1) = true ∧ q.granted ⟨4, 0⟩ .f (0x50 * 2 ^ 32) 256 = false ∧
      q.rd64 SEC_CLR_BASE_LO / 256 * 256 = 0x50 * 2 ^ 32 ∧ q.bit SEC_CLR_CMD_BUSY = false ∧
      (readySt [(SEC_CLR_CMD_BUSY, 1)]).bit SEC_CLR_CMD_BUSY = true ∧ d.bit FLT_INJ_LEFT_ARMED = false ∧
      d.msys.seq = d.msys.alive ∧ d.repairing 0 = false ∧ d.repairing 255 = false ∧
      ({ d with msys := { d.msys with repair := some (1, 0, 0) } } : State).repairing 0 = true := by decide +kernel

/-- An export queue that is full, and one that a record more makes raise its fault. -/
theorem wit_queue_full :
    let q (n : Nat) : State := { State.reset with sec := { State.reset.sec with queue := List.replicate n [] } }
    ¬(q 16384).sec.queue.length < 16384 ∧ (q 16127).sec.queue.length = 16127 := by
  constructor
  · rw [List.length_replicate]; decide
  · rw [List.length_replicate]

/-- Firmware of version 7 and 4,096 bytes, signed with private key 3 and nonce 5 (worked out apart, by FIPS 186-5), and the public key. -/
def firmware7 : List Byte :=
  leBytes 4 0x57465A54 ++ [1, 0, 0xFF, 0xFF] ++ leBytes 4 4096 ++ List.replicate 4 0xFF ++ leBytes 8 7 ++ List.replicate 3976 0xFF ++
  beBytes 48 0x11de24a2c251c777573cac5ea025e467f208e51dbff98fc54f6661cbe56583b037882f4a1ca297e60abcdbc3836d84bc ++
  beBytes 48 0xa87c8665e9959ea784e1714cf4e9a7b8b6df2f195eecd372ad1f8271b17ecfc650f17db04279a30f13956e7bb1609ce0
def firmwareKey3 : List Byte :=
  beBytes 48 0x77a41d4606ffa1464793c7e5fdc7d98cb9d3910202dcd06bea4f240d3566da6b408bbae5026580d02d7e5c70500c831 ++
  beBytes 48 0xc995f7ca0b0c42837d0bbe9602a9fc998520b41c85115aa5f7684c0edc111eacc24abd6be4b5d298b65f28600a2f1df1

/-- A node with that firmware in slot A of its flash and that key in its fuses, ready to boot. -/
def bootSt (m : List Host.Cell) (l : List (Fld × Nat)) : State :=
  let s := st ((List.range 50).map (fun d => (PWR_STATE_STATE d, 0)) ++ l)
  let g : MgtState := { s.mgt with flash := Sparse.setList (fun _ => 0xFF) m 0x100000 firmware7, booting := true, train := false }
  { s with mgt := g, sec := { s.sec with fwKey := firmwareKey3, fwKeyDig := sha384 firmwareKey3 } }

theorem test_firmware_length : firmware7.length = 4096 := by decide +kernel

/-- What the flash reads of the slot. -/
theorem test_flash_of_firmware (m : List Host.Cell) (l : List (Fld × Nat)) (n : Nat) (h : n ≤ 4096) : (bootSt m l).flashBytes 0x100000 n = firmware7.take n := by
  have hl := test_firmware_length
  apply List.ext_getElem
  · simp [State.flashBytes, hl]; omega
  · intro i h1 h2
    simp only [State.flashBytes, List.length_map, List.length_range] at h1
    have hi : i < firmware7.length := by omega
    simp only [State.flashBytes, List.getElem_map, List.getElem_range, List.getElem_take, State.flashAt, bootSt]
    exact Sparse.get_setList_in _ _ _ _ _ hi

theorem test_firmware_verifies :
    ecdsaVerify (ofBeBytes (slice firmwareKey3 0 48), ofBeBytes (slice firmwareKey3 48 48)) (sha384 (firmware7.take 4000))
      (ofBeBytes (slice firmware7 4000 48)) (ofBeBytes (slice firmware7 4048 48)) = true := by decide +kernel

/-- NodeBootsFromItsFlash: the firmware of slot A passes. -/
theorem wit_firmware (m : List Host.Cell) (l : List (Fld × Nat)) (h : (bootSt m l).rd SEC_STAT_FWMIN = 0) : (bootSt m l).fwFault false true = 0 := by
  have hh := test_flash_of_firmware m l 256 (by decide)
  have hi := test_flash_of_firmware m l 4096 (by decide)
  have hn : leAt (firmware7.take 256) 8 4 = 4096 := by decide +kernel
  rw [List.take_of_length_le (Nat.le_of_eq test_firmware_length)] at hi
  have hs : (bootSt m l).fwSigned firmware7 = true := by
    simp only [State.fwSigned, test_firmware_length]
    rw [Bool.and_eq_true]
    exact ⟨decide_eq_true (by rfl), test_firmware_verifies⟩
  simp only [State.fwFault, State.fwImage, slotBase, Bool.false_eq_true, if_false, hh, hn, hi, hs, h]
  decide +kernel

/-- What the flash reads beside slot A. -/
theorem test_flash_beside (m : List Host.Cell) (l : List (Fld × Nat)) (a n : Nat) (h : 0x101000 ≤ a) :
    (bootSt m l).flashBytes a n = (List.range n).map (fun i => Sparse.get (fun _ => 0xFF) m (a + i)) := by
  unfold State.flashBytes
  apply List.map_congr_left
  intro i _
  simp only [State.flashAt, bootSt]
  exact Sparse.get_setList_out _ _ _ _ _ (Or.inr (by rw [test_firmware_length]; omega))

/-- NodeBootsFromItsFlash: slot A comes first where slot B says version 0, and slot B, which is erased and fails, where it says nothing. -/
theorem wit_slots :
    let low := Sparse.setList (fun _ => 0xFF) [] 0x1100010 (List.replicate 8 (0 : Byte))
    (bootSt low []).fwVersion false = 7 ∧ (bootSt low []).fwVersion true = 0 ∧ (bootSt [] []).fwVersion false = 7 ∧
      (bootSt [] []).fwVersion true = 2 ^ 64 - 1 ∧ (bootSt [] []).fwFault true true = 1 := by
  have h7 : leAt (firmware7.take 256) 16 8 = 7 := by decide +kernel
  simp only [State.fwVersion, State.fwFault, slotBase, Bool.false_eq_true, if_false, if_true, test_flash_of_firmware _ _ 256 (by decide), h7,
    test_flash_beside _ _ 0x1100000 _ (by decide)]
  decide +kernel

/-- NodeBootsFromItsFlash: a boot that may run, with fuses that ask for no version; flashes that hold nothing, or cannot be read; commands
of each kind, refused and under way. -/
theorem wit_flash :
    let s := readySt []
    let e : State := { s with mgt := { s.mgt with booting := true } }
    let f (a : Nat) : State := readySt [(MGT_FL_ADDR_ADDR, a)]
    let k (o : Nat) : State := { s with mgt := { s.mgt with flashCmd := some ⟨o, 0x200000, [1, 2]⟩ } }
    e.mgt.booting = true ∧ e.mgt.held = false ∧ e.mgt.train = true ∧ (∀ d < 50, e.domOn d = true) ∧ e.fwFault false true = 1 ∧ e.fwFault true false = 5 ∧
      s.mgt.booting = false ∧ (f 0x1000).flashProtected 0x1000 256 = true ∧ (f 0x2200000).flashProtected 0x2200000 65536 = false ∧
      (f 0x2200000).rd MGT_FL_ADDR_ADDR % 65536 = 0 ∧ (f 0x2200001).rd MGT_FL_ADDR_ADDR % 256 ≠ 0 ∧ s.bit MGT_FL_STAT_BUSY = false ∧
      (readySt [(MGT_FL_STAT_BUSY, 1)]).bit MGT_FL_STAT_BUSY = true ∧ (∀ o < 4, (k o).mgt.flashCmd = some ⟨o, 0x200000, [1, 2]⟩) ∧
      s.mgt.flashCmd = none := by decide +kernel

theorem wit_boot :
    (bootSt [] []).mgt.booting = true ∧ (bootSt [] []).mgt.held = false ∧ (bootSt [] []).mgt.train = false ∧ (bootSt [] []).rd SEC_STAT_FWMIN = 0 := by
  decide +kernel

/-- MonitorsThrottleAndSupplyFaults: a hot, overloaded sample with a voltage out of its window, on domains On, in Retain and Off; steps forced, at
the limit for long, and calm for long; power-good shown and not; a Hall with a job on it. -/
theorem wit_monitors :
    let m : MonSample := ⟨List.replicate 128 900, List.replicate 96 700, List.replicate 64 1600, List.replicate 8 106, 3500, 700, List.replicate 50 9, [], []⟩
    let s := readySt [(MGT_THR_AUTO, 1), (MGT_TLIM_THR, 100), (MGT_PLIM_PLIM, 3400), (MGT_THR_MAXSTEP_M, 4), (PWR_STATE_STATE 5, 1), (PWR_STATE_STATE 6, 2)]
    let f := readySt [(MGT_THR_AUTO, 0), (MGT_THR_FORCE, 3), (MGT_THR_MAXSTEP_M, 4), (MGT_THR_MAXSTEP_S, 4), (PWR_STATE_PGOOD 40, 1), (PWR_STATE_PGOOD 3, 1)]
    let x : State := { s.wr (dieStep 0) 4 with mgt := { s.mgt with maxSince := List.replicate 6 (some 0), calmSince := List.replicate 6 (some 0) } }
    let w : State := { s with mgt := { s.mgt with overT := [(0, 3), (2, 4), (6, 1)] } }
    s.bit MGT_THR_AUTO = true ∧ 8 * (s.rd MGT_TLIM_THR : Int) ≤ m.temps.getD 0 0 ∧ min 3400 (s.rd MGT_PLIM_PLIM) < m.watts ∧ s.maxStep 0 = 4 ∧
      s.rd (PWR_STATE_STATE 5) = 1 ∧ s.rd (PWR_STATE_STATE 6) = 2 ∧ s.rd (PWR_STATE_STATE 7) = 0 ∧ s.voltBad m 5 = some true ∧ s.voltBad m 6 = none ∧
      (s.rd (MGT_VLIM_HI 7) < 700 ∨ 700 ≤ s.rd (MGT_VLIM_HI 7)) ∧ f.rd (dieStep 0) < f.rd MGT_THR_FORCE ∧ f.bit MGT_THR_AUTO = false ∧
      x.rd (dieStep 0) = 4 ∧ x.mgt.maxSince.getD 0 none = some 0 ∧ x.mgt.calmSince.getD 0 none = some 0 ∧ (0, 3) ∈ w.mgt.overT ∧ (0, 4) ∉ w.mgt.overT ∧
      f.bit (PWR_STATE_PGOOD 40) = true ∧ f.bit (PWR_STATE_PGOOD 3) = true ∧ f.bit (PWR_STATE_PGOOD 4) = false ∧ f.hallOn 3 = true ∧
      s.pwr.input = false ∧ { s with pwr := { s.pwr with input := true } }.pwr.input = true ∧ s.mgt.throttled = false := by decide +kernel

/-- MonitorsThrottleAndSupplyFaults: a Hall with a job on it, whose power-good shows. -/
theorem wit_hall_fault :
    let s := (millSt 0 0 [] id).wrBit (PWR_STATE_PGOOD 0) true
    s.hallPlaced 0 = true ∧ s.quenched = false ∧ s.bit (PWR_STATE_PGOOD 0) = true ∧ s.hallOn 0 = true := by decide +kernel

/-- ResetsKeepWhatTheyMust: a node that is powered and one that is not, RST_N high and low, a boot got through and one that failed, a port up,
a Hall enabled and one not, with a job and without. -/
theorem wit_resets :
    let f (l : List (Fld × Nat)) (i : Bool) : State := let s := readySt l; { s with pwr := { s.pwr with input := i } }
    let s := f [(LK_STAT_STATE 3, 5), (LK_CTRL_ADMIN 4, 0), (MIL_HALL_FUSE, 2)] true
    let b := f [(MGT_BOOT_STATE, 5)] true
    let w : State := { f [] true with mgt := { (f [] true).mgt with train := false } }
    let h : State := { f [] true with mgt := { (f [] true).mgt with held := true, rstLow := some 4 } }
    s.pwr.input = true ∧ (f [] false).pwr.input = false ∧ w.mgt.train = false ∧ s.mgt.train = true ∧ w.rd MGT_BOOT_STATE ≠ 5 ∧ b.rd MGT_BOOT_STATE = 5 ∧
      h.mgt.held = true ∧ h.mgt.rstLow ≠ none ∧ s.mgt.held = false ∧ s.mgt.rstLow = none ∧ s.rd (LK_STAT_STATE 3) = 5 ∧ s.rd (LK_STAT_STATE 4) = 0 ∧
      s.hallOn 0 = true ∧ s.hallOn 1 = false ∧ s.pwr.trans = [] ∧ s.rd (PWR_STATE_STATE 0) = 0 ∧ s.hallPlaced 0 = false ∧
      s.bit (LK_CTRL_ADMIN 4) = false := by decide +kernel

/-- DomainsMoveAsAsked: requests of each outcome; transitions that wait and that run, alone, with and without power to spare; a domain on
each way. -/
theorem wit_power :
    let f (l : List (Fld × Nat)) (x : List Trans) : State := let s := readySt l; { s with pwr := { s.pwr with trans := x } }
    let s := f [] []
    let c := f [(CST_STATE_STATE, 2), (PWR_STATE_STATE 4, 2), (PWR_STATE_STATE 44, 2)] []
    let w := f [(PWR_STATE_STATE 3, 2)] [⟨3, 0, 1, none⟩]
    let b : State := { w with pwr := { w.pwr with starts := [(0, 9900)] } }
    let x (n : Nat) := f [(PWR_STATE_STATE 46, 3), (PWR_STATE_TARGET 46, n)] [⟨46, n, 1, some 0⟩]
    let d := f [] [⟨3, 2, 1, none⟩]
    s.ready = true ∧ State.reset.ready = false ∧ s.powerRefusal 49 0 = some 6 ∧ (x 0).powerRefusal 46 1 = some 1 ∧ s.powerRefusal 3 3 = some 3 ∧
      s.powerRefusal 40 2 = some 4 ∧ s.powerRefusal 48 2 = some 5 ∧ c.powerRefusal 44 0 = none ∧ c.powerRefusal 45 2 = some 7 ∧ s.powerRefusal 3 0 = none ∧
      s.dom 3 = 0 ∧ s.powerRefusal 3 2 = none ∧ w.transOf 3 = some ⟨3, 0, 1, none⟩ ∧ (∀ k ∈ powerNeeds 3, w.dom k = 0) ∧
      w.recentPower + (w.domPower 3 0 - w.domPower 3 2) ≤ 10000 ∧ 10000 < b.recentPower + (b.domPower 3 0 - b.domPower 3 2) ∧
      d.transOf 3 = some ⟨3, 2, 1, none⟩ ∧ powerUsers 3 = [] ∧ (∀ n < 3, (x n).pwr.trans = [⟨46, n, 1, some 0⟩]) ∧ s.pwr.input = false ∧
      (x 2).msys.undef = [] ∧ Sparse.wf regReset (x 2).regs = true ∧ Memory.wf (x 2).msys.undef (x 2).mem = true := by decide +kernel

/-- Ill-formed commands, one for each check (and each bound of a range), which the check refuses, part 1. -/
theorem test_ill_formed_1 : ([
      .registerWrite 0 .hp0 (2 ^ 26) 1 0, .registerWrite 0 .hp0 0 0 0, .registerWrite 0 .hp0 0 9 0, .registerWrite 0 .hp0 0 1 (2 ^ 32),
      .load 0 .ms, .loadCommit 0 .ms, .discard 0 .ms, .uncast 0 .ms, .abort 0 .ms, .cstOpReserved 0 .ms 7, .cstOpReserved 0 .hp0 6,
      .cstOpReserved 0 .hp0 16, .fetchFirstPage 0 [], .fetchReadFail 0 0, .fetchReadFail 0 4, .resultRelease 0 5 0, .overdueStep 0 5 0 0,
      .barrierRx 0 256 (List.replicate 16 0) 0, .barrierRx 0 0 [] 0, .barrierRx 0 0 (List.replicate 16 0) 64,
      .timeinfoRx 0 256 (List.replicate 16 0), .timeinfoRx 0 0 [], .ldlyMeasure 0 256 0 0 0 0, .techoRx 0 256 (List.replicate 16 0) 0,
      .techoRx 0 0 [] 0, .techoRx 0 0 (List.replicate 16 0) 64, .readyRx 0 256 (List.replicate 16 0), .readyRx 0 0 [],
      .startRx 0 256 (List.replicate 16 0), .startRx 0 0 [], .todInFrame 0 [], .hallDisable 0 .hp0 (2 ^ 32), .bundleIssue 0 1024,
      .slotComplete 0 1024 0, .slotComplete 0 0 8, .bundleRetire 0 1024, .ld 1024, .ldb 1024, .kld 1024, .st 1024] : List Instr).all (fun i => !wellFormed i) = true := by decide +kernel

/-- Ill-formed commands, one for each check (and each bound of a range), which the check refuses, part 2. -/
theorem test_ill_formed_2 : ([
      .mac 1024, .macz 1024, .drain 1024, .clear 1024, .draink 1024, .merge 1024, .add 1024, .sub 1024, .mul 1024, .fma 1024, .min 1024,
      .max 1024, .div 1024, .sqrt 1024, .cmplt 1024, .cmpeq 1024, .cmple 1024, .any 1024, .cvtf 1024, .cvtt 1024, .seti 1024, .addi 1024,
      .muli 1024, .cmpi 1024, .plog 1024, .pset 1024, .setvl 1024, .orset 1024, .orcpy 1024, .feat 1024, .waitc 1024, .post 1024,
      .drainw 1024, .testc 1024, .nop 1024, .loop 1024, .seamCmd 1024, .halt 1024, .release 1024, .brk 1024] : List Instr).all (fun i => !wellFormed i) = true := by decide +kernel

/-- Ill-formed commands, one for each check (and each bound of a range), which the check refuses, part 3. -/
theorem test_ill_formed_3 : ([
      .breakResume 0 (some 1024), .reloadComplete 0 1024, .collectiveStart 0 1024 0, .collectiveStart 0 0 128,
      .selfContributionRead 0 1024 0, .selfContributionRead 0 0 128, .crucibleCell 0 1024 0 (.member 0), .crucibleCell 0 0 128 (.member 0),
      .pass2Start 0 1024 0 0, .pass2Start 0 0 128 0, .chunkRelease 0 1024 0, .chunkRelease 0 0 128, .temperStepStart 0 64,
      .temperChunk 0 64 0, .temperPhase2Start 0 64, .temperSliceRelease 0 64, .assayCompare 0 1024, .stockLookup 0 (2 ^ 20) 0 false,
      .stockLookup 0 0 256 false, .lookupResponse 0 256, .stockGrad 0 (2 ^ 20) 0, .stockGrad 0 0 256, .stockUpdateStart 0 256,
      .stockCommit 0 256 0, .stockUpdateRelease 0 256, .sigRise 0 1024 false, .sigFall 0 1024, .sweep 0 .hp0 1024, .sweepComplete 0 1024 (List.replicate 32 ⟨0, 0, 0, 0⟩), .sweepComplete 0 0 [],
      .adaptWindow 0 1024 false ⟨0, 0, 0, 0⟩ ⟨0, 0, 0, 0⟩ ⟨0, 0, 0, 0⟩, .peakStep 0 1024, .peakCodeWrite 0 1024 0, .peakCodeWrite 0 0 32, .slip 0 .hp0 1024, .clr 0 1024,
      .patternWrite 0 .hp0 1024 0 0, .patternWrite 0 .hp0 0 8 0, .patternWrite 0 .hp0 0 0 8, .txDis 0 16 0, .txDis 0 0 (2 ^ 16)] : List Instr).all (fun i => !wellFormed i) = true := by decide +kernel

/-- Ill-formed commands, one for each check (and each bound of a range), which the check refuses, part 4. -/
theorem test_ill_formed_4 : ([
      .engineFault 0 16 0, .engineFault 0 0 (2 ^ 64), .controlPosition 0 256 0, .controlPosition 0 0 64, .forcedIdleSlot 0 256,
      .txSlot 0 256, .slotReceive 0 256 ⟨1, [[]], true⟩, .slotReceive 0 0 ⟨0, [[]], true⟩, .slotReceive 0 0 ⟨2, [[]], true⟩,
      .slotReceive 0 0 ⟨1, [], true⟩, .slotReceive 0 0 ⟨1, [[], [], [], []], true⟩,
      .ackRx 0 256 (List.replicate 16 0), .ackRx 0 0 [], .creditRx 0 256 (List.replicate 16 0), .creditRx 0 0 [],
      .lackRx 0 256 (List.replicate 16 0), .lackRx 0 0 [], .retryRx 0 256 (List.replicate 16 0), .retryRx 0 0 [],
      .replayRx 0 256 (List.replicate 16 0), .replayRx 0 0 [], .replayTimeout 0 256 false, .admin 0 .hp0 256 false, .aligned 0 256,
      .retrain 0 256, .deskewDone 0 256, .startWordRx 0 256, .identRx 0 256 (List.replicate 16 0), .identRx 0 0 [],
      .linkup 0 256 (List.replicate 16 0), .linkup 0 0 [], .linkdownRx 0 256 (List.replicate 16 0), .linkdownRx 0 0 [],
      .bringupTimeout 0 256, .auditorSweepStart 0 2, .auditorMarkDone 0 2 [], .auditorMarkDone 0 0 [2 ^ 20], .auditorJudgeDone 0 2, .fenceAdd 0 4 0,
      .fenceAdd 0 0 (2 ^ 20), .fenceDel 0 .hp0 4 0, .fenceDel 0 .hp0 0 (2 ^ 20), .autoFence 0 256, .gateListBegin 0 256] : List Instr).all (fun i => !wellFormed i) = true := by decide +kernel

/-- Ill-formed commands, one for each check (and each bound of a range), which the check refuses, part 5. -/
theorem test_ill_formed_5 : ([
      .gateCommit 0 .hp0 256, .shaperRefill 0 256 0, .shaperRefill 0 0 8, .queueSample 0 256, .burnishWord 0 (0x8000000000 + 2 ^ 29),
      .burnishCtrl 0 .hp0 (2 ^ 32), .repairOpReserved 0 .hp0 6, .repairOpReserved 0 .hp0 16, .repairComplete 0 3 0 0,
      .touchmarkEnable 0 768 false, .touchmarkRecordExpiry 0 768, .aliveEntryFree 0 256, .detCmdReserved 0 .hp0 2,
      .detCmdReserved 0 .hp0 16, .faultAck 0 (2 ^ 9), .captureRearm 0 9, .own 0 .ms, .install 0 .ms, .raise 0 .ms, .keyCmdReserved 0 4,
      .keyCmdReserved 0 16, .clearGo 0 .ms, .bar2Access 0 2 0 0 none false, .bar2Access 0 0 (2 ^ 26) 0 none false,
      .i3cTransfer 0 ⟨2 ^ 26, none, true⟩, .bcdataWrite 0 (2 ^ 32), .warmResetWrite 0 .ms 0 0, .warmResetWrite 0 .hp0 16 0,
      .warmResetWrite 0 .hp0 0 256, .portReset 0 256, .hallReset 0 32, .powerReqOn 0 .hp0 50, .powerReqRetain 0 .hp0 50,
      .powerReqOff 0 .hp0 50, .powerReqIllegal 0 .hp0 50, .domainTransitionDone 0 50, .powerGoodLoss 0 50, .lowWordRead 0 .hp0 (2 ^ 26) 1,
      .lowWordRead 0 .hp0 0 0, .lowWordRead 0 .hp0 0 9] : List Instr).all (fun i => !wellFormed i) = true := by decide +kernel

/-- Ill-formed commands, one for each check (and each bound of a range), which the check refuses, part 6. -/
theorem test_ill_formed_6 : ([
      .prbsSymbolCheck 0 1024 0, .prbsSymbolCheck 0 0 3, .alignMatch 0 1024 0, .alignMatch 0 0 (2 ^ 128)] : List Instr).all (fun i => !wellFormed i) = true := by decide +kernel

/-- A well-formed command of every row, part 1. -/
theorem test_well_formed_1 : ([
      .registerWrite 0 .hp0 0 1 0, .load 0 .hp0, .commit 0, .loadCommit 0 .hp0, .discard 0 .hp0, .uncast 0 .hp0, .abort 0 .hp0,
      .cstOpReserved 0 .hp0 7, .fetchFirstPage 0 (List.replicate 4096 0), .fetchReadFail 0 1, .fetchDone 0 [], .signDone 0, .checkDone 0,
      .commitRecheckDone 0, .drainDone 0, .drainLimitExpiry 0, .applyComplete 0, .seam 0, .resultRelease 0 0 0, .overdueStep 0 0 0 0,
      .barrierRx 0 0 (List.replicate 16 0) 0, .timeinfoRx 0 0 (List.replicate 16 0), .ldlyMeasure 0 0 0 0 0 0,
      .techoRx 0 0 (List.replicate 16 0) 0, .nodeReady 0, .readyRx 0 0 (List.replicate 16 0), .startRx 0 0 (List.replicate 16 0),
      .firstEpochStart 0, .ppsInEdge 0, .ppsInLoss 0, .ppsOutStart 0, .ppsOutEnd 0, .todOutFrame 0, .todInFrame 0 (List.replicate 24 0),
      .hallDisable 0 .hp0 0, .bundleIssue 0 0, .slotComplete 0 0 0, .bundleRetire 0 0, .ld 0, .ldb 0] : List Instr).all (fun i => wellFormed i) = true := by decide +kernel

/-- A well-formed command of every row, part 2. -/
theorem test_well_formed_2 : ([
      .kld 0, .st 0, .mac 0, .macz 0, .drain 0, .clear 0, .draink 0, .merge 0, .add 0, .sub 0, .mul 0, .fma 0, .min 0, .max 0, .div 0,
      .sqrt 0, .cmplt 0, .cmpeq 0, .cmple 0, .any 0, .cvtf 0, .cvtt 0, .seti 0, .addi 0, .muli 0, .cmpi 0, .plog 0, .pset 0, .setvl 0,
      .orset 0, .orcpy 0, .feat 0, .waitc 0, .post 0, .drainw 0, .testc 0, .nop 0, .loop 0, .seamCmd 0, .halt 0] : List Instr).all (fun i => wellFormed i) = true := by decide +kernel

/-- A well-formed command of every row, part 3. -/
theorem test_well_formed_3 : ([
      .release 0, .brk 0, .breakResume 0 none, .reloadGo 0 .hp0, .reloadComplete 0 0, .collectiveStart 0 0 0, .selfContributionRead 0 0 0,
      .crucibleCell 0 0 0 (.member 0), .pass2Start 0 0 0 0, .chunkRelease 0 0 0, .temperStepStart 0 0, .temperChunk 0 0 0,
      .temperPhase2Start 0 0, .temperSliceRelease 0 0, .assayCompare 0 0, .stockLookup 0 0 0 false, .lookupResponse 0 0, .stockGrad 0 0 0,
      .stockUpdateStart 0 0, .stockCommit 0 0 0, .stockUpdateRelease 0 0, .sigRise 0 0 false, .sigFall 0 0, .sweep 0 .hp0 0,
      .sweepComplete 0 0 (List.replicate 32 ⟨0, 0, 0, 0⟩), .adaptWindow 0 0 false ⟨0, 0, 0, 0⟩ ⟨0, 0, 0, 0⟩ ⟨0, 0, 0, 0⟩, .peakStep 0 0, .peakCodeWrite 0 0 0, .slip 0 .hp0 0, .clr 0 0,
      .patternWrite 0 .hp0 0 0 0, .txDis 0 0 0, .engineFault 0 0 0, .controlPosition 0 0 0, .forcedIdleSlot 0 0, .txSlot 0 0,
      .slotReceive 0 0 ⟨1, [[]], true⟩, .ackRx 0 0 (List.replicate 16 0), .streamResendTimeout 0 0,
      .creditRx 0 0 (List.replicate 16 0)] : List Instr).all (fun i => wellFormed i) = true := by decide +kernel

/-- A well-formed command of every row, part 4. -/
theorem test_well_formed_4 : ([
      .lackRx 0 0 (List.replicate 16 0), .retryRx 0 0 (List.replicate 16 0), .replayRx 0 0 (List.replicate 16 0), .replayTimeout 0 0 false,
      .admin 0 .hp0 0 false, .aligned 0 0, .retrain 0 0, .deskewDone 0 0, .startWordRx 0 0, .identRx 0 0 (List.replicate 16 0),
      .linkup 0 0 (List.replicate 16 0), .linkdownRx 0 0 (List.replicate 16 0), .bringupTimeout 0 0, .auditorSweepStart 0 0,
      .auditorMarkDone 0 0 [], .auditorJudgeDone 0 0, .fenceAdd 0 0 0, .fenceDel 0 .hp0 0 0, .autoFence 0 0, .gateEntry 0,
      .gateListBegin 0 0, .gateCommit 0 .hp0 0, .shaperRefill 0 0 0, .queueSample 0 0, .burnishWord 0 0, .burnishPassEnd 0 false,
      .burnishCtrl 0 .hp0 0, .remap 0 .hp0, .unmap 0 .hp0, .sppr 0 .hp0, .hppr 0 .hp0, .rd1500 0 .hp0, .wr1500 0 .hp0,
      .repairOpReserved 0 .hp0 0, .repairComplete 0 0 0 0, .touchmarkEnable 0 0 false, .touchmarkRecordExpiry 0 0, .aliveEntryFree 0 0,
      .detPause 0 .hp0 0, .continue 0 .hp0] : List Instr).all (fun i => wellFormed i) = true := by decide +kernel

/-- A well-formed command of every row, part 5. -/
theorem test_well_formed_5 : ([
      .cancel 0, .detCmdReserved 0 .hp0 3, .replayInject 0, .faultReport 0 none, .errnPulseEnd 0, .errnGapEnd 0, .faultAck 0 0,
      .captureRearm 0 0, .arm 0, .disarm 0, .own 0 .hp0, .install 0 .hp0, .raise 0 .hp0, .attest 0, .keyCmdReserved 0 5,
      .keyCmdComplete 0 none false, .attestComplete 0, .denyWindowEnd 0, .clearGo 0 .hp0, .clearComplete 0, .hallmarkCommit 0,
      .hallmarkExport 0, .bar2Access 0 0 0 0 none false, .i3cTransfer 0 ⟨0, none, true⟩, .bcdataRead 0 .hp0, .bcdataWrite 0 0, .read 0,
      .write 0, .boot 0 false false, .flashRead 0, .flashProgram 0, .flashErase 0, .flashComplete 0 false,
      .monitorSample 0 ⟨[], [], [], [], 0, 0, [], [], []⟩, .warmResetWrite 0 .hp0 0 0, .rstNAssert 0, .rstNRelease 0, .portReset 0 0,
      .hallReset 0 0, .powerReqOn 0 .hp0 0] : List Instr).all (fun i => wellFormed i) = true := by decide +kernel

/-- A well-formed command of every row, part 6. -/
theorem test_well_formed_6 : ([
      .powerReqRetain 0 .hp0 0, .powerReqOff 0 .hp0 0, .powerReqIllegal 0 .hp0 0, .domainTransitionStart 0, .domainTransitionDone 0 0,
      .powerOnSequence, .powerDown 0, .powerGoodLoss 0 0, .inputOvercurrent 0, .refInLoss 0, .lowWordRead 0 .hp0 0 1,
      .heldLowWordExpiry 0 .hp0, .prbsSymbolCheck 0 0 0, .alignMatch 0 0 0] : List Instr).all (fun i => wellFormed i) = true := by decide +kernel

end Sys2Proof.Tests
end

section
/-! PROOFS. Reads of 64-bit values low word first (R8), and the resets (R579, R600, R620). -/

open Sys2Proof Sys2Proof.Machine

namespace Sys2Proof.Proofs.Scope

/-! ### The holding copy of a high word (R8) -/

/-- The node with other holding copies of high words. -/
def withHeldHigh (s : State) (l : List (Path × Nat × Nat)) : State := { s with cst := { s.cst with heldHigh := l } }

/-- The copy of address `a` that a path holds, as a read looks for it. -/
def heldCopy (l : List (Path × Nat × Nat)) (p : Path) (a : Nat) : Option (Path × Nat × Nat) := l.find? (fun e => e.1 == p && e.2.1 == a)

/-- The copies that a capture leaves: a path holds one at a time. -/
def capture (l : List (Path × Nat × Nat)) (p : Path) (a v : Nat) : List (Path × Nat × Nat) := l.filter (fun e => e.1 != p) ++ [(p, a, v)]

@[simp] theorem at_heldHigh (s : State) (t : Nat) : (s.at t).cst.heldHigh = s.cst.heldHigh := rfl

theorem only_withHeldHigh (s : State) (l : List (Path × Nat × Nat)) : Only [.cst] s (withHeldHigh s l) := by
  intro part h
  cases part
  case cst => simp at h
  all_goals simp [Part.same, withHeldHigh, State.word, State.byteAt]

/-- What was captured is what the path holds, whatever it held before. -/
theorem heldCopy_capture (l : List (Path × Nat × Nat)) (p : Path) (a v : Nat) : heldCopy (capture l p a v) p a = some (p, a, v) := by
  have others : (l.filter (fun e => e.1 != p)).find? (fun e => e.1 == p && e.2.1 == a) = none := by
    simp +contextual
  simp [heldCopy, capture, others]

/-! ### Reads of the register window -/

/-- No 64-bit low word stands at the board controller's window register, or one word before it. -/
theorem lowWord_ne_window {a : Nat} (h : hitsLow lowRo a = true ∨ hitsLow lowRw a = true) :
    a ≠ MGT_BCDATA.addr ∧ a + 4 ≠ MGT_BCDATA.addr := by
  have window : (hitsLow lowRo MGT_BCDATA.addr || hitsLow lowRw MGT_BCDATA.addr) = false := by decide
  have before : (hitsLow lowRo (MGT_BCDATA.addr - 4) || hitsLow lowRw (MGT_BCDATA.addr - 4)) = false := by decide
  rw [← Bool.or_eq_true] at h
  refine ⟨fun e => ?_, fun e => ?_⟩
  · rw [e, window] at h
    exact Bool.false_ne_true h
  · rw [show a = MGT_BCDATA.addr - 4 by omega, before] at h
    exact Bool.false_ne_true h

section
variable {s : State} {p : Path} {a : Nat} (hr : s.ready = true) (ha : a % 4 = 0) (hw : a ≠ MGT_BCDATA.addr)
include hr ha hw

/-- A read of a register whose copy the path holds answers the copy, and uses it up. -/
theorem readReg_held {e : Path × Nat × Nat} (h : heldCopy s.cst.heldHigh p a = some e) :
    s.readReg p a 4 = (e.2.2, withHeldHigh s (s.cst.heldHigh.filter (fun e => e.1 != p))) := by
  unfold heldCopy at h
  simp [State.readReg, hr, ha, hw, h, withHeldHigh]

/-- A read of a low word with no copy held answers what it shows, and captures the high word. -/
theorem readReg_low (hp : p ≠ .ms) (hl : hitsLow lowRo a = true ∨ hitsLow lowRw a = true) (h : heldCopy s.cst.heldHigh p a = none) :
    s.readReg p a 4 = (s.regView a, withHeldHigh s (capture s.cst.heldHigh p (a + 4) (s.regView (a + 4)))) := by
  unfold heldCopy at h
  simp only [State.readReg, hr, ha, hw, h]
  simp [hp, hl, withHeldHigh, capture]

/-- A read with no copy held answers what the register shows; at most the copies change. -/
theorem readReg_fresh (h : heldCopy s.cst.heldHigh p a = none) :
    ∃ l, s.readReg p a 4 = (s.regView a, withHeldHigh s l) := by
  by_cases hl : p ≠ .ms ∧ (hitsLow lowRo a = true ∨ hitsLow lowRw a = true)
  · exact ⟨_, readReg_low hr ha hw hl.1 hl.2 h⟩
  · refine ⟨s.cst.heldHigh, ?_⟩
    unfold heldCopy at h
    simp only [State.readReg, hr, ha, hw, h]
    simp [hl, withHeldHigh]

end

/-- LOW_WORD_READ answers what the read answers. -/
theorem exec_lowWordRead {t a v : Nat} {p : Path} {s : State} {l : List (Path × Nat × Nat)}
    (h : (s.at t).readReg p a 4 = (v, withHeldHigh (s.at t) l)) :
    ∃ u, exec (.lowWordRead t p a 4) s = .next u ∧ u.outs = s.outs ++ [.read p a v] ∧ Only [.clock, .outs, .cst] s u ∧
      u.cst.heldHigh = l := by
  refine ⟨(withHeldHigh (s.at t) l).out (.read p a v), ?_, rfl, ?_, rfl⟩
  · show execLowWordRead t p a 4 s = _
    rw [execLowWordRead, h]
  · have moved : Only [.clock, .outs, .cst] s (withHeldHigh (s.at t) l) :=
      (s.only_at t).comp (only_withHeldHigh _ _) (by simp) (by simp)
    exact moved.trans ((State.only_out _ _).mono (by simp))

/-- Settles O7: the low word's read leaves the high word as it showed among the copies, and no later change of a register reaches a copy. -/
theorem lowWordReadKeepsOneInstant : Obligations.LowWordReadKeepsOneInstant := by
  intro t a p s hr hp ha hl hnone
  obtain ⟨hw, hw4⟩ := lowWord_ne_window hl
  have ha4 : (a + 4) % 4 = 0 := by omega
  obtain ⟨u, hu, houts, honly, hheld⟩ := exec_lowWordRead (readReg_low (s := s.at t) hr ha hw hp hl hnone)
  refine ⟨u, hu, houts, honly, fun t2 s2 hr2 h2 => ?_, fun t2 s2 hr2 h2 => ?_⟩
  · have copy : heldCopy (s2.at t2).cst.heldHigh p (a + 4) = some (p, a + 4, (s.at t).regView (a + 4)) := by
      rw [at_heldHigh, h2, hheld, heldCopy_capture]
    obtain ⟨w, hw', houts', honly', -⟩ := exec_lowWordRead (readReg_held (s := s2.at t2) hr2 ha4 hw4 copy)
    exact ⟨w, hw', houts', honly'⟩
  · obtain ⟨l, hl2⟩ := readReg_fresh (s := s2.at t2) hr2 ha4 hw4 h2
    obtain ⟨w, hw', houts', -, -⟩ := exec_lowWordRead hl2
    exact ⟨w, hw', houts'⟩

/-! ### A transition of no domain -/

/-- The node after power-on reset, with one waiting transition whose number is past the 50 domains: the word that its STATE and TARGET
would stand in is MIL_HALL_DIS. No command asks for such a transition, and the statement excludes none. -/
def strayTransition : State :=
  { State.reset with
    pwr := { State.reset.pwr with trans := [⟨(MIL_HALL_DIS.addr - (PWR_STATE_STATE 0).addr) / 4, pwOff, pcFault, none⟩] } }

/-- HALL_RESET of Hall 0 begins that transition too, and so sets bits of MIL_HALL_DIS. -/
theorem hallReset_strayTransition : ((strayTransition.at 0).hallReset 0).hallMap ≠ strayTransition.hallMap := by decide +kernel

theorem hallOn_strayTransition : strayTransition.hallOn (0 % 32) = true := by decide +kernel

/-- Refutes O59: HALL_RESET begins whatever transition may begin, and one of a domain number past 50, which the statement allows in the
state it starts from, changes the enabled-Hall mask. -/
theorem not_resetsKeepWhatTheyMust : ¬ Obligations.ResetsKeepWhatTheyMust := by
  intro h
  obtain ⟨-, -, -, -, -, -, -, -, hallReset, -⟩ := h 0 0 0 0 .hp0 strayTransition
  obtain ⟨u, hu, -, hmap, -⟩ := hallReset hallOn_strayTransition
  have hstep : exec (.hallReset 0 0) strayTransition = .next ((strayTransition.at 0).hallReset 0) := rfl
  obtain rfl : (strayTransition.at 0).hallReset 0 = u := Host.Outcome.next.inj (hstep.symm.trans hu)
  exact hallReset_strayTransition hmap

end Sys2Proof.Proofs.Scope
end

section
/-! PROOFS. Rules of the register file and of the refusals, which the proofs of the Casting path use (R56, R58, R69, R76). -/

open Sys2Proof Sys2Proof.Machine

namespace Sys2Proof.Proofs.Casting

/-! ### Fields across updates -/

/-- A field of a word that kept its value keeps its value. -/
theorem rd_of_words {l : List Nat} {s u : State} (h : WordsOnly l s u) {f : Fld} (hf : f.addr ∉ l) : u.rd f = s.rd f := by
  unfold State.rd
  rw [h _ hf]

theorem bit_eq_rd (s : State) (f : Fld) : s.bit f = (s.rd f == 1) := rfl

theorem bit_of_rd {s u : State} {f : Fld} (h : u.rd f = s.rd f) : u.bit f = s.bit f := by
  rw [bit_eq_rd, h, bit_eq_rd]

/-- No word changes where the register file stays. -/
theorem words_of_regs {s u : State} (h : u.regs = s.regs) : WordsOnly [] s u := fun a _ => State.word_congr h a

theorem rd_wr64_ne (s : State) (f g : Fld) (v : Nat) (h : f.addr ≠ g.addr) (hh : f.addr + 4 ≠ g.addr) : (s.wr64 f v).rd g = s.rd g := by
  unfold State.wr64
  rw [State.rd_wr_ne _ _ _ _ (Or.inl hh), State.rd_wr_ne _ _ _ _ (Or.inl h)]

theorem rd_addSat_ne (s : State) (f g : Fld) (n : Nat) (h : f.addr ≠ g.addr ∨ f.apart g) : (s.addSat f n).rd g = s.rd g :=
  s.rd_wr_ne f g _ h

/-- A write to a field changes the 64-bit values of other words in nothing. -/
theorem rd64_wr_ne (s : State) (f g : Fld) (v : Nat) (h : f.addr ≠ g.addr) (hh : f.addr ≠ g.addr + 4) : (s.wr f v).rd64 g = s.rd64 g := by
  unfold State.rd64
  rw [State.rd_wr_ne _ _ _ _ (Or.inl h), State.rd_wr_ne _ _ _ _ (Or.inl hh)]

theorem rd64_of_words {l : List Nat} {s u : State} (h : WordsOnly l s u) {f : Fld} (hf : f.addr ∉ l) (hh : f.addr + 4 ∉ l) :
    u.rd64 f = s.rd64 f := by
  unfold State.rd64
  rw [rd_of_words h hf, rd_of_words (f := f.hi) h hh]

theorem mask_getLsbD (f : Fld) (i : Nat) : f.mask.getLsbD i = (decide (i < 32) && (decide (f.lo ≤ i) && decide (i - f.lo < f.width))) := by
  simp [Fld.mask, BitVec.getLsbD_ofNat, Nat.testBit_mul_two_pow, Nat.testBit_two_pow_sub_one]

theorem word_raise (s : State) (f : Fld) (a : Nat) :
    (s.raise f).word a = if f.addr = a then s.word f.addr ||| f.mask else s.word a := State.word_setWord _ _ _ _

/-- A W1C bit that the node sets reads 1. -/
theorem bit_raise (s : State) (f : Fld) (hw : f.width = 1) (hl : f.lo < 32) : (s.raise f).bit f = true := by
  have hset : (f.get ((s.raise f).word f.addr)).testBit 0 = true := by
    rw [Fld.get_testBit, word_raise, if_pos rfl, BitVec.getLsbD_or, mask_getLsbD]
    simp [hw, hl]
  have hlt : f.get ((s.raise f).word f.addr) < 2 := by
    have h := f.get_lt ((s.raise f).word f.addr)
    rwa [hw] at h
  have hone : f.get ((s.raise f).word f.addr) % 2 = 1 := by simpa [Nat.testBit_zero] using hset
  rw [bit_eq_rd, State.rd, show f.get ((s.raise f).word f.addr) = 1 by omega]
  rfl

/-- A W1C bit that the node sets leaves every field beside it. -/
theorem rd_raise_ne (s : State) (f g : Fld) (h : f.addr ≠ g.addr ∨ f.apart g) : (s.raise f).rd g = s.rd g := by
  unfold State.rd
  rw [word_raise]
  split
  · rename_i e
    rw [e]
    rcases h with h | h
    · exact absurd e h
    · apply Nat.eq_of_testBit_eq
      intro i
      rw [Fld.get_testBit, Fld.get_testBit, BitVec.getLsbD_or, mask_getLsbD]
      by_cases hi : i < g.width
      · have hout : ¬(f.lo ≤ g.lo + i ∧ g.lo + i - f.lo < f.width) := by
          rcases h with h | h <;> omega
        simp only [← Bool.decide_and, hout]
        simp
      · simp [hi]
  · rfl

theorem words_raise (s : State) (f : Fld) : WordsOnly [f.addr] s (s.raise f) := s.words_setWord _ _

/-! ### Lists of words -/

/-- The words that a list of bytes fills: `n` of them from field `f 0` on. -/
def wordsFrom (f : Nat → Fld) (n : Nat) : List Nat := (List.range n).map (fun i => (f i).addr)

theorem words_wrBytes (s : State) (f : Nat → Fld) (bs : List Byte) : WordsOnly (wordsFrom f (bs.length / 4)) s (s.wrBytes f bs) := by
  unfold State.wrBytes wordsFrom
  generalize bs.length / 4 = n
  induction n with
  | zero => exact WordsOnly.rfl
  | succ n ih =>
    rw [List.range_succ, List.foldl_append]
    refine (ih.mono (by simp)).trans ?_
    exact (State.words_wr _ _ _).mono (by simp)

theorem only_wrBytes (s : State) (f : Nat → Fld) (bs : List Byte) : Only [.regs] s (s.wrBytes f bs) :=
  Only.foldl _ (fun s _ => s.only_wr _ _) _ s

/-- Each word that a list of bytes fills is read back, where the words are apart and whole. -/
theorem rd_wrBytes (s : State) (f : Nat → Fld) (bs : List Byte) (hinj : ∀ i j, (f i).addr = (f j).addr → i = j)
    (hlo : ∀ i, (f i).lo = 0) (hw : ∀ i, (f i).width = 32) (i : Nat) (hi : i < bs.length / 4) :
    (s.wrBytes f bs).rd (f i) = leAt bs (4 * i) 4 % 2 ^ 32 := by
  unfold State.wrBytes
  generalize bs.length / 4 = n at hi
  induction n with
  | zero => omega
  | succ n ih =>
    rw [List.range_succ, List.foldl_append]
    simp only [List.foldl_cons, List.foldl_nil]
    by_cases h : i = n
    · subst h
      rw [State.rd_wr_same _ _ _ (by rw [hlo, hw]), hw]
    · rw [State.rd_wr_ne _ _ _ _ (Or.inl (fun e => h (hinj _ _ e).symm)), ih (by omega)]

end Sys2Proof.Proofs.Casting
end

section
/-! PROOFS. The commands of the staging path: LOAD, COMMIT, DISCARD, ABORT and UNCAST (R54, R55, R62, R63, R66, R76). -/

open Sys2Proof Sys2Proof.Machine

namespace Sys2Proof.Proofs.Casting

/-- A register command on a ready node acts (R571). -/
theorem next_cmd {s : State} {t : Nat} {f : State → State} (hr : s.ready = true) :
    (.next ((s.at t).cmd none f) : Host.Outcome State Fault Refusal) = .next (f (s.at t)) := by
  rw [State.cmd_acts (s := s.at t) f hr rfl]

/-! ### What a refusal sets -/

section
variable (s : State) (code detail op : Nat) (dig : List Byte) (m : Master)

theorem words_cstErr : WordsOnly [CST_ERR_CODE.addr] s (s.cstErr code detail) := (s.words_wr _ _).trans (State.words_wr _ CST_ERR_DETAIL _)

theorem only_cstErr : Only [.regs] s (s.cstErr code detail) := (s.only_wr _ _).trans (State.only_wr _ _ _)

theorem rd_cstErr_code : (s.cstErr code detail).rd CST_ERR_CODE = code % 256 := by
  unfold State.cstErr
  rw [State.rd_wr_ne _ _ _ _ (by decide), State.rd_wr_same _ _ _ (by decide)]
  rfl

theorem rd_cstErr_detail : (s.cstErr code detail).rd CST_ERR_DETAIL = detail % 256 := State.rd_wr_same _ _ _ (by decide)

theorem bit_cstErr_loadFail : (s.cstErr code detail).bit CST_ERR_LOAD_FAIL = s.bit CST_ERR_LOAD_FAIL := by
  refine bit_of_rd ?_
  unfold State.cstErr
  rw [State.rd_wr_ne _ _ _ _ (by decide), State.rd_wr_ne _ _ _ _ (by decide)]

/-! A refused LOAD, COMMIT or apply. -/

theorem rd_refuseCast (f : Fld) (h : CST_ERR_LOAD_FAIL.addr ≠ f.addr ∨ CST_ERR_LOAD_FAIL.apart f) :
    (s.refuseCast code detail op dig).rd f = (s.cstErr code detail).rd f := rd_raise_ne _ _ _ h

theorem rd_refuseCast_code : (s.refuseCast code detail op dig).rd CST_ERR_CODE = code % 256 := by
  rw [rd_refuseCast _ _ _ _ _ _ (by decide), rd_cstErr_code]

theorem rd_refuseCast_detail : (s.refuseCast code detail op dig).rd CST_ERR_DETAIL = detail % 256 := by
  rw [rd_refuseCast _ _ _ _ _ _ (by decide), rd_cstErr_detail]

theorem bit_refuseCast_loadFail : (s.refuseCast code detail op dig).bit CST_ERR_LOAD_FAIL = true := bit_raise _ _ rfl (by decide)

theorem refuseCast_reports : (s.refuseCast code detail op dig).flt.reports =
    s.flt.reports ++ [⟨.cast, 1, code, mCast, 7, 0, s.now, false, false⟩] := rfl

theorem refuseCast_waits : (⟨s.now, 65, hallRecs s.now 4 0
      ([BitVec.ofNat 8 code, BitVec.ofNat 8 detail, BitVec.ofNat 8 op, 0] ++ slice dig 0 48)⟩ : HGroup) ∈
    (s.refuseCast code detail op dig).sec.wait := mem_hallInsert_self _ _

theorem words_refuseCast : WordsOnly [CST_ERR_CODE.addr] s (s.refuseCast code detail op dig) :=
  (words_cstErr s code detail).trans (words_raise (s.cstErr code detail) CST_ERR_LOAD_FAIL)

theorem only_refuseCast : Only [.clock, .regs, .flt, .sec] s (s.refuseCast code detail op dig) := by
  have raised := (only_cstErr s code detail).comp (n := [.regs, .clock]) (State.only_raise _ CST_ERR_LOAD_FAIL) (by simp) (by simp)
  have flagged := raised.comp (n := [.clock, .regs, .flt, .sec]) (State.only_fault _ .cast 1 code mCast 7 0 false) (by simp) (by simp)
  exact flagged.trans ((State.only_hall _ _ _ _).mono (by simp))

/-! A refused DISCARD, UNCAST or ABORT. -/

theorem words_cmdRefused : WordsOnly [CST_ERR_CODE.addr] s (s.cmdRefused code m) := words_cstErr s code 0

theorem only_cmdRefused : Only [.regs, .flt] s (s.cmdRefused code m) :=
  (only_cstErr s code 0).comp (State.only_fault _ _ _ _ _ _ _ _) (by simp) (by simp)

end

/-! ### The phase and what is staged -/

/-- The fields of CST_STATE beside PHASE and COMMIT (R56). -/
def stateFlds : List Fld := [CST_STATE_STATE, CST_STATE_DRAIN_TO, CST_STATE_SCALE, CST_STATE_MAPINV, CST_STATE_QUENCHED, CST_STATE_CONTRACT]

section
variable (s : State)

theorem rd_setPhase_ne (p : Nat) (f : Fld) (h : CST_STATE_PHASE.addr ≠ f.addr ∨ CST_STATE_PHASE.apart f) : (s.setPhase p).rd f = s.rd f :=
  s.rd_wr_ne _ _ _ h

theorem phase_setPhase (p : Nat) (h : p < 8) : (s.setPhase p).phase? = p := by
  show (s.wr CST_STATE_PHASE p).rd CST_STATE_PHASE = p
  rw [State.rd_wr_same _ _ _ (by decide)]
  exact Nat.mod_eq_of_lt h

theorem words_setPhase (p : Nat) : WordsOnly [CST_STATE_STATE.addr] s (s.setPhase p) := s.words_wr CST_STATE_PHASE p

theorem only_setPhase (p : Nat) : Only [.regs, .outs] s (s.setPhase p) :=
  (s.only_wr _ _).comp (State.only_msix _ _) (by simp) (by simp)

/-- The node with other memory of the staging path. -/
def withCst (c : CstState) : State := { s with cst := c }

theorem only_withCst (c : CstState) : Only [.cst] s (withCst s c) := by
  intro part h
  cases part
  case cst => simp at h
  all_goals simp [Part.same, withCst, State.word, State.byteAt]

/-- The digest of the staged Casting reads zeros. -/
def zeroStagedDigest : State := s.wrBytes CST_STAGED_DIGEST (List.replicate 48 0)

theorem words_zeroStagedDigest : WordsOnly (wordsFrom CST_STAGED_DIGEST 12) s (zeroStagedDigest s) :=
  words_wrBytes s CST_STAGED_DIGEST (List.replicate 48 0)

theorem only_zeroStagedDigest : Only [.regs] s (zeroStagedDigest s) := only_wrBytes _ _ _

/-- What the staging path remembers once nothing is staged. -/
def unstaged (c : CstState) : CstState := { c with staged := [], autoCommit := false }

theorem dropStaged_eq : s.dropStaged = ((zeroStagedDigest (withCst s (unstaged s.cst))).wrBit CST_STATE_COMMIT false).setPhase phIdle := rfl

@[simp] theorem setPhase_cst (p : Nat) : (s.setPhase p).cst = s.cst := rfl

@[simp] theorem withCst_cst (c : CstState) : (withCst s c).cst = c := rfl

@[simp] theorem zeroStagedDigest_cst : (zeroStagedDigest s).cst = s.cst := only_zeroStagedDigest s .cst (by decide)

theorem dropStaged_cst : s.dropStaged.cst = unstaged s.cst := by
  rw [dropStaged_eq, setPhase_cst, State.wrBit_cst, zeroStagedDigest_cst, withCst_cst]

theorem words_dropStaged : WordsOnly (CST_STATE_STATE.addr :: wordsFrom CST_STAGED_DIGEST 12) s s.dropStaged := by
  have cleared : WordsOnly (wordsFrom CST_STAGED_DIGEST 12) s (zeroStagedDigest (withCst s (unstaged s.cst))) := words_zeroStagedDigest (withCst s _)
  have shown := (State.words_wrBit (zeroStagedDigest (withCst s (unstaged s.cst))) CST_STATE_COMMIT false).trans (words_setPhase _ phIdle)
  rw [dropStaged_eq]
  exact (cleared.mono (by simp)).trans (shown.mono (by simp [CST_STATE_COMMIT, CST_STATE_STATE]))

theorem only_dropStaged : Only [.regs, .outs, .cst] s s.dropStaged := by
  have cleared := (only_withCst s (unstaged s.cst)).comp (n := [.regs, .outs, .cst]) (only_zeroStagedDigest _) (by simp) (by simp)
  have unbound := cleared.trans ((State.only_wrBit _ CST_STATE_COMMIT false).mono (by simp))
  rw [dropStaged_eq]
  exact unbound.trans ((only_setPhase _ phIdle).mono (by simp))

theorem rd_dropStaged_ne (f : Fld) (hd : f.addr ∉ wordsFrom CST_STAGED_DIGEST 12) (hc : CST_STATE_COMMIT.addr ≠ f.addr ∨ CST_STATE_COMMIT.apart f)
    (hp : CST_STATE_PHASE.addr ≠ f.addr ∨ CST_STATE_PHASE.apart f) : s.dropStaged.rd f = s.rd f := by
  rw [dropStaged_eq, rd_setPhase_ne _ _ _ hp, State.rd_wrBit_ne _ _ _ _ hc, rd_of_words (words_zeroStagedDigest _) hd]
  rfl

theorem phase_dropStaged : s.dropStaged.phase? = phIdle := by
  rw [dropStaged_eq]
  exact phase_setPhase _ _ (by decide)

theorem bound_dropStaged : s.dropStaged.bound = false := by
  rw [dropStaged_eq]
  unfold State.bound
  rw [bit_of_rd (rd_setPhase_ne _ _ _ (by decide)), State.bit_wrBit _ _ _ rfl (by decide)]

theorem stagedDigest_dropStaged (i : Nat) (hi : i < 12) : s.dropStaged.rd (CST_STAGED_DIGEST i) = 0 := by
  have hne : ∀ f ∈ [CST_STATE_PHASE, CST_STATE_COMMIT], f.addr ≠ (CST_STAGED_DIGEST i).addr := by
    simp [CST_STATE_PHASE, CST_STATE_COMMIT, CST_STAGED_DIGEST]
    omega
  rw [dropStaged_eq, rd_setPhase_ne _ _ _ (.inl (hne _ (by simp))), State.rd_wrBit_ne _ _ _ _ (.inl (hne _ (by simp)))]
  unfold zeroStagedDigest
  rw [rd_wrBytes _ _ _ (by simp [CST_STAGED_DIGEST]) (fun _ => rfl) (fun _ => rfl) _ (by simpa using hi)]
  revert i
  decide

/-- The bytes of words that read 0. -/
theorem rdBytes_zeros (f : Nat → Fld) (n : Nat) (h : ∀ i < n, s.rd (f i) = 0) : s.rdBytes f n = List.replicate (4 * n) 0 := by
  unfold State.rdBytes
  rw [List.flatMap_congr (g := fun _ => List.replicate 4 0) (fun i hi => by rw [h i (List.mem_range.1 hi)]; rfl)]
  rw [List.flatMap_def, List.map_const', List.length_range, List.flatten_replicate_replicate, Nat.mul_comm]

end

end Sys2Proof.Proofs.Casting
end

section
/-! PROOFS. The commands of CST_CMD: what each does, and the statements about them (R54, R55, R62, R63, R66, R76). -/

open Sys2Proof Sys2Proof.Machine

namespace Sys2Proof.Proofs.Casting

/-! ### LOAD and LOAD_COMMIT -/

/-- What was staged is gone before a load begins (R54). -/
def cleared (s : State) : State := if s.phase? = phStaged then s.dropStaged else s

/-- What a LOAD latches (R54, R59). -/
def latched (s : State) (p : Path) (commit : Bool) : CstState :=
  { s.cst with staged := [], src := s.rd64 CST_SRC_LO / 4096 * 4096, len := s.rd CST_LEN, port := fetchPort p, autoCommit := commit }

section
variable (s : State)

theorem words_cleared : WordsOnly (CST_STATE_STATE.addr :: wordsFrom CST_STAGED_DIGEST 12) s (cleared s) := by
  unfold cleared
  split
  · exact words_dropStaged s
  · exact WordsOnly.rfl

theorem only_cleared : Only [.regs, .outs, .cst] s (cleared s) := by
  unfold cleared
  split
  · exact only_dropStaged s
  · exact Only.rfl

theorem rd_cleared (f : Fld) (hd : f.addr ∉ wordsFrom CST_STAGED_DIGEST 12) (hc : CST_STATE_COMMIT.addr ≠ f.addr ∨ CST_STATE_COMMIT.apart f)
    (hp : CST_STATE_PHASE.addr ≠ f.addr ∨ CST_STATE_PHASE.apart f) : (cleared s).rd f = s.rd f := by
  unfold cleared
  split
  · exact rd_dropStaged_ne s f hd hc hp
  · rfl

theorem bound_cleared (h : s.bound = false) : (cleared s).bound = false := by
  unfold cleared
  split
  · exact bound_dropStaged s
  · exact h

theorem latched_cleared (p : Path) (commit : Bool) : latched (cleared s) p commit = latched s p commit := by
  have hsrc : (cleared s).rd64 CST_SRC_LO = s.rd64 CST_SRC_LO := rd64_of_words (words_cleared s) (by decide) (by decide)
  have hlen : (cleared s).rd CST_LEN = s.rd CST_LEN := rd_of_words (words_cleared s) (by decide)
  unfold latched
  rw [hsrc, hlen]
  unfold cleared
  split
  · rw [dropStaged_cst]
    rfl
  · rfl

variable (p : Path) (commit : Bool)

theorem loadCmd_state (h : s.nodeQuenched = true ∨ s.bound = true) :
    s.loadCmd p commit = s.refuseCast ceState 0 (if commit then 3 else 1) [] := by
  rw [State.loadCmd, if_pos (by simpa using h)]

theorem loadCmd_busy (hq : s.nodeQuenched = false) (hb : s.bound = false) (hl : s.loading = true) :
    s.loadCmd p commit = s.refuseCast ceBusy 0 (if commit then 3 else 1) [] := by
  rw [State.loadCmd, if_neg (by simp [hq, hb]), if_pos hl]

theorem loadCmd_goes (hq : s.nodeQuenched = false) (hb : s.bound = false) (hl : s.loading = false) :
    s.loadCmd p commit = (withCst (cleared s) (latched s p commit)).setPhase phFetch := by
  rw [State.loadCmd, if_neg (by simp [hq, hb]), if_neg (by simp [hl]), ← latched_cleared]
  rfl

/-- A load that begins: the phase, what is latched, and what stays (R54, R59, R60). -/
theorem loadCmd_fetches (hb : s.bound = false) :
    let u := (withCst (cleared s) (latched s p commit)).setPhase phFetch
    u.phase? = phFetch ∧ u.bound = false ∧ u.cst = latched s p commit ∧ (∀ f ∈ stateFlds, u.rd f = s.rd f) ∧
      WordsOnly (CST_STATE_STATE.addr :: wordsFrom CST_STAGED_DIGEST 12) s u ∧ Only [.regs, .outs, .cst] s u := by
  intro u
  refine ⟨phase_setPhase _ _ (by decide), ?_, by rw [setPhase_cst, withCst_cst], fun f hf => ?_, ?_, ?_⟩
  · have kept : u.bound = (cleared s).bound := bit_of_rd (rd_setPhase_ne _ _ _ (by decide))
    rw [kept, bound_cleared s hb]
  · have apart : ∀ f ∈ stateFlds, f.addr ∉ wordsFrom CST_STAGED_DIGEST 12 ∧ CST_STATE_COMMIT.apart f ∧ CST_STATE_PHASE.apart f := by decide
    obtain ⟨hd, hc, hp⟩ := apart f hf
    rw [rd_setPhase_ne _ _ _ (.inr hp)]
    exact rd_cleared s f hd (.inr hc) (.inr hp)
  · have latching : WordsOnly [] (cleared s) (withCst (cleared s) (latched s p commit)) := words_of_regs rfl
    exact ((words_cleared s).trans (latching.mono (by simp))).trans ((words_setPhase _ _).mono (by simp))
  · exact ((only_cleared s).trans ((only_withCst _ _).mono (by simp))).trans ((only_setPhase _ _).mono (by simp))

end

theorem exec_load {s : State} (t : Nat) (p : Path) (hr : s.ready = true) : exec (.load t p) s = .next ((s.at t).loadCmd p false) := next_cmd hr

theorem exec_loadCommit {s : State} (t : Nat) (p : Path) (hr : s.ready = true) : exec (.loadCommit t p) s = .next ((s.at t).loadCmd p true) :=
  next_cmd hr

/-- Settles O13: a load in progress, a bound COMMIT and a quenched node refuse it, and otherwise it latches and fetches. -/
theorem loadLatchesAndFetches : Obligations.LoadLatchesAndFetches := by
  intro t p s hr digest goes refused
  have begins : ∀ (c : Instr) (commit : Bool), exec c s = .next ((s.at t).loadCmd p commit) → s.nodeQuenched = false → s.bound = false →
      s.loading = false → goes c commit := by
    intro c commit hc hq hb hl
    rw [loadCmd_goes (s.at t) p commit hq hb hl] at hc
    obtain ⟨hphase, hbound, hcst, hkept, hwords, honly⟩ := loadCmd_fetches (s.at t) p commit hb
    exact ⟨_, hc, hphase, hbound, hcst, hkept, hwords, (s.only_at t).comp honly (by simp) (by simp)⟩
  have refuses : ∀ (c : Instr) (code op : Nat), code < 256 → exec c s = .next ((s.at t).refuseCast code 0 op []) → refused c code op := by
    intro c code op hlt hc
    refine ⟨_, hc, ?_, rd_refuseCast_detail _ _ _ _ _, bit_refuseCast_loadFail _ _ _ _ _, refuseCast_reports _ _ _ _ _,
      refuseCast_waits (s.at t) code 0 op [], words_refuseCast (s.at t) _ _ _ _, ?_⟩
    · rw [rd_refuseCast_code, Nat.mod_eq_of_lt hlt]
    · exact (s.only_at t).comp (only_refuseCast _ _ _ _ _) (by simp) (by simp)
  refine ⟨fun hq hb hl => ⟨begins _ _ (exec_load t p hr) hq hb hl, begins _ _ (exec_loadCommit t p hr) hq hb hl⟩, fun h => ⟨?_, ?_⟩,
    fun hq hb hl => ⟨?_, ?_⟩⟩
  · exact refuses _ _ _ (by decide) ((exec_load t p hr).trans (congrArg _ (loadCmd_state (s.at t) p false h)))
  · exact refuses _ _ _ (by decide) ((exec_loadCommit t p hr).trans (congrArg _ (loadCmd_state (s.at t) p true h)))
  · exact refuses _ _ _ (by decide) ((exec_load t p hr).trans (congrArg _ (loadCmd_busy (s.at t) p false hq hb hl)))
  · exact refuses _ _ _ (by decide) ((exec_loadCommit t p hr).trans (congrArg _ (loadCmd_busy (s.at t) p true hq hb hl)))

end Sys2Proof.Proofs.Casting
end

section
/-! PROOFS. COMMIT, DISCARD, ABORT, the reserved commands, and UNCAST (R55, R62, R63, R66, R76). -/

open Sys2Proof Sys2Proof.Machine

namespace Sys2Proof.Proofs.Casting

/-! ### COMMIT -/

theorem words_bind (s : State) : WordsOnly [CST_STATE_STATE.addr] s s.bind := s.words_wrBit CST_STATE_COMMIT true

theorem only_bind (s : State) : Only [.regs, .outs] s s.bind := (s.only_wrBit _ _).comp (State.only_msix _ _) (by simp) (by simp)

theorem rd_bind_ne (s : State) (f : Fld) (h : CST_STATE_COMMIT.addr ≠ f.addr ∨ CST_STATE_COMMIT.apart f) : s.bind.rd f = s.rd f :=
  s.rd_wrBit_ne _ _ _ h

theorem bound_bind (s : State) : s.bind.bound = true := s.bit_wrBit CST_STATE_COMMIT true rfl (by decide)

section
variable {s : State}

theorem commitCmd_state (h : s.nodeQuenched = true ∨ s.bound = true) : ∃ dig, s.commitCmd = s.refuseCast ceState 0 2 dig :=
  ⟨_, by rw [State.commitCmd, if_pos (by simpa using h)]⟩

theorem commitCmd_nostage (hq : s.nodeQuenched = false) (hb : s.bound = false) (hp : s.phase? ≠ phStaged) :
    ∃ dig, s.commitCmd = s.refuseCast ceNostage 0 2 dig :=
  ⟨_, by rw [State.commitCmd, if_neg (by simp [hq, hb]), if_pos hp]⟩

theorem commitCmd_binds (hq : s.nodeQuenched = false) (hb : s.bound = false) (hp : s.phase? = phStaged)
    (h : s.nodeState = stUncast ∨ s.nodeState = stCast) : s.commitCmd = s.bind := by
  rw [State.commitCmd, if_neg (by simp [hq, hb]), if_neg (not_not.2 hp), if_pos h]

theorem commitCmd_late (hq : s.nodeQuenched = false) (hb : s.bound = false) (hp : s.phase? = phStaged)
    (h : s.nodeState = stApplying ∨ s.nodeState = stDraining) : ∃ dig, s.commitCmd = s.refuseCast ceState 0 2 dig := by
  have other : ¬(s.nodeState = stUncast ∨ s.nodeState = stCast) := by
    rcases h with h | h <;> rw [h] <;> decide
  exact ⟨_, by rw [State.commitCmd, if_neg (by simp [hq, hb]), if_neg (not_not.2 hp), if_neg other]⟩

/-! ### DISCARD and ABORT -/

theorem discardCmd_drops (p : Path) (hb : s.bound = false) (hp : s.phase? = phStaged) : s.discardCmd p = s.dropStaged := by
  rw [State.discardCmd, if_neg (by simp [hb]), if_neg (not_not.2 hp)]

theorem discardCmd_state (p : Path) (hb : s.bound = true) : s.discardCmd p = s.cmdRefused ceState p.master := by
  rw [State.discardCmd, if_pos hb]

theorem discardCmd_nostage (p : Path) (hb : s.bound = false) (hp : s.phase? ≠ phStaged) : s.discardCmd p = s.cmdRefused ceNostage p.master := by
  rw [State.discardCmd, if_neg (by simp [hb]), if_pos hp]

theorem abortCmd_drops (p : Path) (hs : s.nodeState ≠ stApplying) (hl : s.loading = true) : s.abortCmd p = s.dropStaged :=
  if_pos ⟨hs, hl⟩

theorem abortCmd_state (p : Path) (h : s.nodeState = stApplying ∨ s.loading = false) : s.abortCmd p = s.cmdRefused ceState p.master := by
  refine if_neg fun ⟨hs, hl⟩ => ?_
  rcases h with h | h
  · exact hs h
  · simp [h] at hl

end

theorem exec_commit {s : State} (t : Nat) (hr : s.ready = true) : exec (.commit t) s = .next (s.at t).commitCmd := next_cmd hr

theorem exec_discard {s : State} (t : Nat) (p : Path) (hr : s.ready = true) : exec (.discard t p) s = .next ((s.at t).discardCmd p) := next_cmd hr

theorem exec_abort {s : State} (t : Nat) (p : Path) (hr : s.ready = true) : exec (.abort t p) s = .next ((s.at t).abortCmd p) := next_cmd hr

theorem exec_cstOpReserved {s : State} (t : Nat) (p : Path) {op : Nat} (hr : s.ready = true) (h : 7 ≤ op ∧ op ≤ 15) :
    exec (.cstOpReserved t p op) s = .next ((s.at t).cmdRefused ceState p.master) :=
  (next_cmd hr).trans (congrArg _ (if_pos h))

/-- Settles O14: each command by the cases of its rule; what is dropped and what a refusal sets are the same for all. -/
theorem stagingCommands : Obligations.StagingCommands := by
  intro t op p s hr digest kept drops note commitRefused
  have dropped : ∀ c, exec c s = .next (s.at t).dropStaged → drops c := by
    intro c hc
    have apart : ∀ f ∈ stateFlds, f.addr ∉ wordsFrom CST_STAGED_DIGEST 12 ∧ CST_STATE_COMMIT.apart f ∧ CST_STATE_PHASE.apart f := by decide
    refine ⟨_, hc, phase_dropStaged _, bound_dropStaged _, fun f hf => ?_, dropStaged_cst _, rdBytes_zeros _ _ 12 (stagedDigest_dropStaged _),
      words_dropStaged (s.at t), (s.only_at t).comp (only_dropStaged _) (by simp) (by simp)⟩
    obtain ⟨hd, hcm, hp⟩ := apart f hf
    exact rd_dropStaged_ne (s.at t) f hd (.inr hcm) (.inr hp)
  have noted : ∀ c code, code < 256 → exec c s = .next ((s.at t).cmdRefused code p.master) → note c code := by
    intro c code hlt hc
    refine ⟨_, hc, ?_, rd_cstErr_detail _ code 0, bit_cstErr_loadFail (s.at t) code 0, rfl, words_cmdRefused (s.at t) _ _,
      (s.only_at t).comp (only_cmdRefused _ _ _) (by simp) (by simp)⟩
    exact (rd_cstErr_code (s.at t) code 0).trans (Nat.mod_eq_of_lt hlt)
  have refuses : ∀ code, code < 256 → (∃ dig, (s.at t).commitCmd = (s.at t).refuseCast code 0 2 dig) → commitRefused code := by
    rintro code hlt ⟨dig, hc⟩
    refine ⟨_, (exec_commit t hr).trans (congrArg _ hc), ?_, bit_refuseCast_loadFail _ _ _ _ _, words_refuseCast (s.at t) _ _ _ _,
      (s.only_at t).comp (only_refuseCast _ _ _ _ _) (by simp) (by simp)⟩
    rw [rd_refuseCast_code, Nat.mod_eq_of_lt hlt]
  refine ⟨fun hq hb hp h => ?_, fun h => refuses _ (by decide) (commitCmd_state h), fun hq hb hp => refuses _ (by decide) (commitCmd_nostage hq hb hp),
    fun hq hb hp h => refuses _ (by decide) (commitCmd_late hq hb hp h), fun hb hp => ?_, fun hb => ?_, fun hb hp => ?_, fun hs hl => ?_, fun h => ?_,
    fun h7 h15 => ?_⟩
  · have apart : ∀ f ∈ stateFlds, CST_STATE_COMMIT.apart f := by decide
    exact ⟨_, (exec_commit t hr).trans (congrArg _ (commitCmd_binds hq hb hp h)), bound_bind _,
      (rd_bind_ne (s.at t) CST_STATE_PHASE (.inr (by decide))).trans hp, fun f hf => rd_bind_ne (s.at t) f (.inr (apart f hf)), State.msix_outs _ _,
      words_bind (s.at t), (s.only_at t).comp (only_bind _) (by simp) (by simp)⟩
  · exact dropped _ ((exec_discard t p hr).trans (congrArg _ (discardCmd_drops p hb hp)))
  · exact noted _ _ (by decide) ((exec_discard t p hr).trans (congrArg _ (discardCmd_state p hb)))
  · exact noted _ _ (by decide) ((exec_discard t p hr).trans (congrArg _ (discardCmd_nostage p hb hp)))
  · exact dropped _ ((exec_abort t p hr).trans (congrArg _ (abortCmd_drops p hs hl)))
  · exact noted _ _ (by decide) ((exec_abort t p hr).trans (congrArg _ (abortCmd_state p h)))
  · exact noted _ _ (by decide) (exec_cstOpReserved t p hr ⟨h7, h15⟩)

/-! ### UNCAST -/

/-- The words that a change of the node state sets (R56, R58). -/
def stateWords : List Nat := [CST_STATE_STATE.addr, CST_SINCE_LO.addr, CST_SINCE_HI.addr]

section
variable (s : State)

theorem rd_toNodeState_ne (n d : Nat) (f : Fld) (h : CST_STATE_STATE.addr ≠ f.addr ∨ CST_STATE_STATE.apart f) (hl : CST_SINCE_LO.addr ≠ f.addr)
    (hh : CST_SINCE_HI.addr ≠ f.addr) : (s.toNodeState n d).rd f = s.rd f := by
  show ((s.wr CST_STATE_STATE n).wr64 CST_SINCE_LO _).rd f = _
  rw [rd_wr64_ne _ _ _ _ hl hh, State.rd_wr_ne _ _ _ _ h]

theorem nodeState_toNodeState (n d : Nat) (h : n < 8) : (s.toNodeState n d).nodeState = n := by
  show ((s.wr CST_STATE_STATE n).wr64 CST_SINCE_LO _).rd CST_STATE_STATE = _
  rw [rd_wr64_ne _ _ _ _ (by decide) (by decide), State.rd_wr_same _ _ _ (by decide)]
  exact Nat.mod_eq_of_lt h

theorem since_toNodeState (n d : Nat) : (s.toNodeState n d).rd64 CST_SINCE_LO = s.now % 2 ^ 64 :=
  State.rd64_wr64 (s.wr CST_STATE_STATE n) CST_SINCE_LO s.now rfl rfl

theorem words_toNodeState (n d : Nat) : WordsOnly stateWords s (s.toNodeState n d) := by
  have shown : WordsOnly stateWords (s.wr CST_STATE_STATE n) (s.toNodeState n d) :=
    (State.words_wr64 (s.wr CST_STATE_STATE n) CST_SINCE_LO s.now).mono (by decide)
  exact ((s.words_wr CST_STATE_STATE n).mono (by decide)).trans shown

theorem only_toNodeState (n d : Nat) : Only [.regs, .outs, .sec] s (s.toNodeState n d) := by
  have written := (s.only_wr CST_STATE_STATE n).trans (State.only_wr64 _ CST_SINCE_LO s.now)
  exact ((written.mono (by simp)).trans ((State.only_hall _ 5 _ false).mono (by simp))).trans ((State.only_msix _ 2).mono (by simp))

/-- What a drain that begins sets (R63). -/
theorem startDrain_spec (toApply : Bool) :
    let u := s.startDrain toApply
    u.nodeState = stDraining ∧ u.bit CST_STATE_DRAIN_TO = toApply ∧ u.bound = s.bound ∧ u.phase? = s.phase? ∧
      u.cst = { s.cst with drainStart := s.now, seamDone := false } ∧ u.now = s.now ∧ u.rd64 CST_SINCE_LO = s.now % 2 ^ 64 ∧
      WordsOnly stateWords s u ∧ Only [.regs, .outs, .cst, .sec] s u := by
  intro u
  have kept : ∀ f, CST_STATE_STATE.apart f → CST_SINCE_LO.addr ≠ f.addr → CST_SINCE_HI.addr ≠ f.addr →
      u.rd f = (s.wrBit CST_STATE_DRAIN_TO toApply).rd f := fun f h hl hh => rd_toNodeState_ne _ _ _ f (.inr h) hl hh
  refine ⟨nodeState_toNodeState _ _ _ (by decide), ?_, ?_, ?_, rfl, rfl, since_toNodeState _ _ _, ?_, ?_⟩
  · rw [bit_of_rd (kept CST_STATE_DRAIN_TO (by decide) (by decide) (by decide)), State.bit_wrBit _ _ _ rfl (by decide)]
  · exact bit_of_rd ((kept _ (by decide) (by decide) (by decide)).trans (State.rd_wrBit_ne _ _ _ _ (.inr (by decide))))
  · exact (kept _ (by decide) (by decide) (by decide)).trans (State.rd_wrBit_ne _ _ _ _ (.inr (by decide)))
  · exact ((s.words_wrBit CST_STATE_DRAIN_TO toApply).mono (by decide)).trans (words_toNodeState (withCst (s.wrBit CST_STATE_DRAIN_TO toApply) _) _ _)
  · have toward := (s.only_wrBit CST_STATE_DRAIN_TO toApply).comp (n := [.regs, .outs, .cst, .sec])
      (only_withCst _ { s.cst with drainStart := s.now, seamDone := false }) (by simp) (by simp)
    exact toward.trans ((only_toNodeState _ _ _).mono (by simp))

/-- A bound COMMIT is cancelled (R62). -/
def cancelled (s : State) : State :=
  (withCst (s.wrBit CST_STATE_COMMIT false) { s.cst with autoCommit := false }).msix 2

theorem rd_cancelled_ne (f : Fld) (h : CST_STATE_COMMIT.addr ≠ f.addr ∨ CST_STATE_COMMIT.apart f) : (cancelled s).rd f = s.rd f :=
  s.rd_wrBit_ne _ _ _ h

theorem bound_cancelled : (cancelled s).bound = false := s.bit_wrBit CST_STATE_COMMIT false rfl (by decide)

theorem words_cancelled : WordsOnly [CST_STATE_STATE.addr] s (cancelled s) := s.words_wrBit CST_STATE_COMMIT false

theorem only_cancelled : Only [.regs, .outs, .cst] s (cancelled s) :=
  ((s.only_wrBit _ _).comp (n := [.regs, .outs, .cst]) (only_withCst _ _) (by simp) (by simp)).trans ((State.only_msix _ _).mono (by simp))

/-- The node with no COMMIT bound. -/
def withoutCommit (s : State) : State := if s.bound then cancelled s else s

theorem withoutCommit_bound (h : s.bound = true) : withoutCommit s = cancelled s := if_pos h

theorem withoutCommit_free (h : s.bound = false) : withoutCommit s = s := if_neg (by simp [h])

theorem nodeState_withoutCommit : (withoutCommit s).nodeState = s.nodeState := by
  cases hb : s.bound
  · rw [withoutCommit_free s hb]
  · rw [withoutCommit_bound s hb]
    exact rd_cancelled_ne s CST_STATE_STATE (.inr (by decide))

theorem withoutCommit_spec :
    let u := withoutCommit s
    u.phase? = s.phase? ∧ u.cst.staged = s.cst.staged ∧ u.bound = false ∧ u.cst.img = s.cst.img ∧ WordsOnly [CST_STATE_STATE.addr] s u ∧
      Only [.regs, .outs, .cst] s u := by
  intro u
  cases hb : s.bound
  · have hu : u = s := withoutCommit_free s hb
    rw [hu]
    exact ⟨rfl, rfl, hb, rfl, fun _ _ => rfl, Only.rfl⟩
  · have hu : u = cancelled s := withoutCommit_bound s hb
    rw [hu]
    exact ⟨rd_cancelled_ne s CST_STATE_PHASE (.inr (by decide)), rfl, bound_cancelled s, rfl, words_cancelled s, only_cancelled s⟩

variable {s} (p : Path)

theorem uncastCmd_state (h : s.nodeState = stApplying) : s.uncastCmd p = s.cmdRefused ceState p.master := if_pos h

/-- UNCAST with a COMMIT bound cancels it and goes on as without one, but for a drain, which it turns toward UNCAST (R63). -/
theorem uncastCmd_eq (h : s.nodeState ≠ stApplying) : s.uncastCmd p =
    if s.nodeState = stCast then (withoutCommit s).startDrain false
    else if s.nodeState = stDraining ∧ s.bound = true then (withoutCommit s).wrBit CST_STATE_DRAIN_TO false
    else withoutCommit s := by
  rw [← nodeState_withoutCommit s]
  exact if_neg h

theorem uncastCmd_cast (h : s.nodeState = stCast) : s.uncastCmd p = (withoutCommit s).startDrain false := by
  rw [uncastCmd_eq p (by rw [h]; decide), if_pos h]

theorem uncastCmd_draining (h : s.nodeState = stDraining) (hb : s.bound = true) :
    s.uncastCmd p = (cancelled s).wrBit CST_STATE_DRAIN_TO false := by
  rw [uncastCmd_eq p (by rw [h]; decide), if_neg (by rw [h]; decide), if_pos ⟨h, hb⟩, withoutCommit_bound s hb]

theorem uncastCmd_uncast (h : s.nodeState = stUncast) (hb : s.bound = true) : s.uncastCmd p = cancelled s := by
  rw [uncastCmd_eq p (by rw [h]; decide), if_neg (by rw [h]; decide), if_neg (by simp [h, stUncast, stDraining]), withoutCommit_bound s hb]

theorem uncastCmd_idle (h : s.nodeState = stUncast ∨ s.nodeState = stDraining) (hb : s.bound = false) : s.uncastCmd p = s := by
  have other : s.nodeState ≠ stApplying ∧ s.nodeState ≠ stCast := by
    rcases h with h | h <;> rw [h] <;> decide
  rw [uncastCmd_eq p other.1, if_neg other.2, if_neg (by simp [hb]), withoutCommit_free s hb]

end

theorem exec_uncast {s : State} (t : Nat) (p : Path) (hr : s.ready = true) : exec (.uncast t p) s = .next ((s.at t).uncastCmd p) := next_cmd hr

/-- Settles O15: one case for each node state, and for whether a COMMIT is bound. -/
theorem uncastDrains : Obligations.UncastDrains := by
  intro t p s hr
  refine ⟨fun h => ?_, fun h hb => ?_, fun h hb => ?_, fun h hb => ?_, fun h => ?_⟩
  · obtain ⟨hphase, hstaged, hbound, himg, hwords, honly⟩ := withoutCommit_spec (s.at t)
    obtain ⟨dstate, dto, dbound, dphase, dcst, dnow, dsince, dwords, donly⟩ := startDrain_spec (withoutCommit (s.at t)) false
    refine ⟨_, (exec_uncast t p hr).trans (congrArg _ (uncastCmd_cast p h)), dstate, dto, dbound.trans hbound, dphase.trans hphase, ?_, ?_, ?_, ?_,
      (hwords.mono (by decide)).trans dwords, ((s.only_at t).mono (by simp)).trans (honly.comp donly (by simp) (by simp))⟩
    · rw [dcst]; exact hstaged
    · rw [dcst]; exact himg
    · rw [dcst, dnow]
    · rw [dsince, dnow]
  · have kept := rd_cancelled_ne (s.at t) CST_STATE_STATE (.inr (by decide))
    refine ⟨_, (exec_uncast t p hr).trans (congrArg _ (uncastCmd_draining p h hb)), ?_, State.bit_wrBit _ _ _ rfl (by decide), ?_, rfl,
      (words_cancelled (s.at t)).trans (State.words_wrBit _ CST_STATE_DRAIN_TO false),
      ((s.only_at t).comp (only_cancelled _) (by simp) (by simp)).trans ((State.only_wrBit _ _ _).mono (by simp))⟩
    · exact (State.rd_wrBit_ne _ _ _ _ (.inr (by decide))).trans (kept.trans h)
    · exact (bit_of_rd (State.rd_wrBit_ne _ _ _ _ (.inr (by decide)))).trans (bound_cancelled _)
  · exact ⟨_, (exec_uncast t p hr).trans (congrArg _ (uncastCmd_uncast p h hb)),
      (rd_cancelled_ne (s.at t) CST_STATE_STATE (.inr (by decide))).trans h, bound_cancelled _,
      rd_cancelled_ne (s.at t) CST_STATE_PHASE (.inr (by decide)), rfl, words_cancelled (s.at t),
      (s.only_at t).comp (only_cancelled _) (by simp) (by simp)⟩
  · exact ⟨_, (exec_uncast t p hr).trans (congrArg _ (uncastCmd_idle p h hb)), s.only_at t⟩
  · exact ⟨_, (exec_uncast t p hr).trans (congrArg _ (uncastCmd_state p h)), rd_cstErr_code (s.at t) 0x10 0, rfl, words_cmdRefused (s.at t) _ _,
      (s.only_at t).comp (only_cmdRefused _ _ _) (by simp) (by simp)⟩

end Sys2Proof.Proofs.Casting
end

section
/-! PROOFS. Register writes by apply class (R14, R68, R69, R71, R76). -/

open Sys2Proof Sys2Proof.Machine

namespace Sys2Proof.Proofs.Casting

/-- Every bit of a word. -/
def allBits : Word := 0xFFFFFFFF

/-- A 32-bit register with one RW field of an apply class, and no effect of its own (R9, R68). -/
structure PlainReg (f : Fld) (app : App) : Prop where
  whole : f.lo = 0 ∧ f.width = 32
  aligned : f.addr % 4 = 0
  flds : (findReg f.addr).map (fun r => (r.kind .rw .l, r.kind .rw .c, r.kind .rw .s, r.bits (fun f => f.acc == .w1c))) =
    some (if app = .l then allBits else 0, if app = .c then allBits else 0, if app = .s then allBits else 0, 0)
  own : ownBits f.addr = 0
  rule : ∀ (s : State) (v : Word), s.ownRule f.addr v = (0, 0)
  command : ∀ (s : State) (p : Path) (v : Nat), s.command p f.addr v = s
  after : ∀ s old : State, s.afterWrite old f.addr = s
  single : ∀ (s : State) (v : Nat), s.spread f.addr v = [(f.addr, v)]
  noLow : hitsLow lowRw f.addr = false
  noHigh : hitsLow lowRw (f.addr - 4) = false

theorem plainRegs : ∀ e ∈ [(CST_DRAIN_LIMIT, App.l), (CST_LEN, .l), (RT_FCTL_DELAY, .c), (SW_QAGE, .c), (TG_LATE_LIMIT, .s)],
    PlainReg e.1 e.2 := by
  simp only [List.forall_mem_cons, List.not_mem_nil, false_implies, implies_true, and_true]
  refine ⟨?_, ?_, ?_, ?_, ?_⟩ <;>
    exact ⟨by decide, by decide, by decide +kernel, by decide +kernel, fun _ _ => rfl, fun _ _ _ => rfl, fun _ _ => rfl, fun _ _ => rfl,
      by decide +kernel, by decide +kernel⟩

/-! ### One plain register -/

/-- A whole-word field is its word. -/
theorem put_whole {f : Fld} (h : f.lo = 0 ∧ f.width = 32) (w : Word) (v : Nat) : f.put w v = BitVec.ofNat 32 v := by
  obtain ⟨hlo, hw⟩ := h
  apply BitVec.eq_of_getLsbD_eq
  intro i hi
  rw [Fld.put_getLsbD, if_pos ⟨by omega, by omega, hi⟩, hlo, BitVec.getLsbD_ofNat]
  simp [hi]

theorem putBits_all (s : State) {f : Fld} (h : f.lo = 0 ∧ f.width = 32) (v : Nat) :
    s.putBits f.addr allBits (BitVec.ofNat 32 v) = s.wr f v := by
  unfold State.wr State.putBits
  rw [put_whole h, show allBits = BitVec.allOnes 32 from rfl]
  rw [BitVec.not_allOnes, BitVec.and_zero, BitVec.zero_or, BitVec.and_allOnes]

/-- What the one field of a plain register makes of a write (R68). -/
def plainWrite (s : State) (f : Fld) (app : App) (v : Nat) : List Nat × State :=
  match s.disp app with
  | .now => ([], s.wr f v)
  | .refuse e => ([e], s)
  | .pend => match s.pendWrite f.addr allBits.toNat (BitVec.ofNat 32 v).toNat with
    | some u => ([], u)
    | none => ([ceSfull], s)

theorem disp_c_ne_pend (s : State) : s.disp .c ≠ .pend := by
  unfold State.disp
  simp only
  split_ifs <;> simp

section
variable {f : Fld} {app : App} (h : PlainReg f app) (s : State) (p : Path) {v : Nat}
include h

theorem fieldsWrite_plain : s.fieldsWrite f.addr (BitVec.ofNat 32 v) = plainWrite s f app v := by
  obtain ⟨r, hr, hkind⟩ := Option.map_eq_some_iff.1 h.flds
  simp only [Prod.mk.injEq] at hkind
  obtain ⟨hl, hc, hs, hw1c⟩ := hkind
  have hput := putBits_all s h.whole v
  have full : allBits ≠ 0#32 := by decide
  have keep : ∀ x : Word, x &&& ~~~(0 : Word) = x := fun x => (congrArg (x &&& ·) BitVec.not_zero).trans BitVec.and_allOnes
  unfold State.fieldsWrite plainWrite
  simp only [hr, h.own, h.rule, hl, hc, hs, hw1c, keep]
  cases app with
  | l => simp [full, hput, State.disp]
  | c =>
    cases hd : s.disp .c with
    | pend => exact absurd hd (disp_c_ne_pend s)
    | _ => simp [full, hput, hd]
  | s =>
    cases hd : s.disp .s with
    | pend => cases hw : s.pendWrite f.addr allBits.toNat (BitVec.ofNat 32 v).toNat <;> simp_all
    | _ => simp [full, hput, hd]

theorem regWrite_plain (hr : s.ready = true) (hv : v < 2 ^ 32) :
    s.regWrite p f.addr 4 v = (plainWrite s f app v).2.refusedOnce p (plainWrite s f app v).1 := by
  have one : s.writeOne p f.addr v = plainWrite s f app v := by
    simp only [State.writeOne, fieldsWrite_plain h, h.command, h.after]
  rw [State.regWrite, Nat.mod_eq_of_lt hv, if_neg (by simp [h.aligned]), if_neg (by simp [hr]), if_neg (by simp [h.noLow]),
    if_neg (by simp [h.noHigh]), h.single, State.writeAll]
  simp [one]

end

/-- A plain write that is refused: CODE, WRITE_REF and one SW note (R69, R76). -/
theorem refusedOnce_code (s : State) (p : Path) (e : Nat) (he : e ≠ 0) : s.refusedOnce p [e] = s.writeRefused e p.master := by
  simp [State.refusedOnce, he]

theorem rd_writeRefused_code (s : State) (e : Nat) (m : Master) : (s.writeRefused e m).rd CST_ERR_CODE = e % 256 :=
  rd_cstErr_code (s.raise CST_ERR_WRITE_REF) e 0

theorem bit_writeRefused (s : State) (e : Nat) (m : Master) : (s.writeRefused e m).bit CST_ERR_WRITE_REF = true := by
  have raised : (s.raise CST_ERR_WRITE_REF).bit CST_ERR_WRITE_REF = true := bit_raise _ _ rfl (by decide)
  rw [← raised]
  refine bit_of_rd ?_
  show (((s.raise CST_ERR_WRITE_REF).wr CST_ERR_CODE e).wr CST_ERR_DETAIL 0).rd CST_ERR_WRITE_REF = _
  rw [State.rd_wr_ne _ _ _ _ (.inr (by decide)), State.rd_wr_ne _ _ _ _ (.inr (by decide))]

theorem words_writeRefused (s : State) (e : Nat) (m : Master) : WordsOnly [CST_ERR_CODE.addr] s (s.writeRefused e m) :=
  (words_raise s CST_ERR_WRITE_REF).trans (words_cstErr (s.raise CST_ERR_WRITE_REF) e 0)

theorem exec_registerWrite (t v : Nat) (p : Path) (f : Fld) (s : State) (hp : p ≠ .ms) :
    exec (.registerWrite t p f.addr 4 v) s = .next ((s.at t).regWrite p f.addr 4 v) := by
  show execRegisterWrite t p f.addr 4 v s = _
  rw [execRegisterWrite, if_neg (by simp [hp])]

/-- A plain register takes a write whose class lets it act now (R68). -/
theorem plain_takes {f : Fld} {app : App} (h : PlainReg f app) {s : State} (t : Nat) {v : Nat} (p : Path) (hr : s.ready = true) (hp : p ≠ .ms)
    (hv : v < 2 ^ 32) (hd : s.disp app = .now) : ∃ u : State, exec (.registerWrite t p f.addr 4 v) s = .next u ∧ u.rd f = v ∧
      WordsOnly [f.addr] s u ∧ Only [.clock, .regs] s u := by
  have written : plainWrite (s.at t) f app v = ([], (s.at t).wr f v) := by
    rw [plainWrite, show (s.at t).disp app = .now from hd]
  refine ⟨(s.at t).wr f v, ?_, ?_, State.words_wr (s.at t) f v, (s.only_at t).comp (State.only_wr _ f v) (by simp) (by simp)⟩
  · rw [exec_registerWrite t v p f s hp, regWrite_plain h (s.at t) p hr hv, written]
    rfl
  · obtain ⟨hlo, hw⟩ := h.whole
    rw [State.rd_wr_same _ _ _ (by omega), hw, Nat.mod_eq_of_lt hv]

/-- A plain register refuses a write with the code of the node state, or of a full list (R68, R71). -/
theorem plain_refuses {f : Fld} {app : App} (h : PlainReg f app) {s : State} {t v e : Nat} {p : Path} (hr : s.ready = true) (hp : p ≠ .ms)
    (hv : v < 2 ^ 32) (he : 0 < e ∧ e < 256) (hf : f.addr ≠ CST_ERR_CODE.addr) (hd : plainWrite (s.at t) f app v = ([e], s.at t)) :
    ∃ u : State, exec (.registerWrite t p f.addr 4 v) s = .next u ∧ u.rd f = s.rd f ∧ u.bit CST_ERR_WRITE_REF = true ∧ u.rd CST_ERR_CODE = e ∧
      WordsOnly [CST_ERR_CODE.addr] s u ∧ Only [.clock, .regs, .flt] s u ∧
      u.flt.reports = s.flt.reports ++ [⟨.sw, 0, e, p.master, 3, 0, u.now, false, false⟩] := by
  have hwords := words_writeRefused (s.at t) e p.master
  refine ⟨(s.at t).writeRefused e p.master, ?_, rd_of_words (s := s.at t) hwords (by simpa using hf), bit_writeRefused _ _ _, ?_, hwords,
    (s.only_at t).comp (State.only_writeRefused _ _ _) (by simp) (by simp), rfl⟩
  · rw [exec_registerWrite t v p f s hp, regWrite_plain h (s.at t) p hr hv, hd, refusedOnce_code _ _ _ (by omega)]
  · rw [rd_writeRefused_code, Nat.mod_eq_of_lt he.2]

/-! ### Writes that pend -/

/-- The pending write of a whole register (R71). -/
def wholeWrite (a v now : Nat) : SWrite := ⟨a, 0xFFFFFFFF, v, now⟩

/-- A pending write of the same register takes the new value in its place (R71). -/
def rewritten (a v now : Nat) (w : SWrite) : SWrite := if w.addr = a then ⟨a, Nat.lor w.mask 0xFFFFFFFF, v, now⟩ else w

/-- The pending writes with one more, or with the one of its register rewritten. -/
def pendingWith (s : State) (a v : Nat) : List SWrite :=
  if s.cst.spend.any (fun w => w.addr == a) then s.cst.spend.map (rewritten a v s.now) else s.cst.spend ++ [wholeWrite a v s.now]

/-- The node with other pending writes. -/
def withPending (s : State) (l : List SWrite) : State := { s with cst := { s.cst with spend := l } }

theorem only_withPending (s : State) (l : List SWrite) : Only [.cst] s (withPending s l) := only_withCst s _

section
variable (s : State) (a : Nat) {v : Nat} (hv : v < 2 ^ 32)
include hv

theorem cut_whole : (BitVec.ofNat 32 v).toNat &&& allBits.toNat = v := by
  rw [show allBits.toNat = 2 ^ 32 - 1 from rfl, Nat.and_two_pow_sub_one_eq_mod, BitVec.toNat_ofNat, Nat.mod_mod, Nat.mod_eq_of_lt hv]

theorem pendWrite_whole (h : s.cst.spend.any (fun w => w.addr == a) = true ∨ s.cst.spend.length < spendMax) :
    s.pendWrite a allBits.toNat (BitVec.ofNat 32 v).toNat = some (withPending s (pendingWith s a v)) := by
  have none_kept : ∀ n : Nat, n &&& (0xFFFFFFFF ^^^ allBits.toNat) = 0 := fun n => Nat.and_zero n
  unfold State.pendWrite pendingWith
  rw [cut_whole hv]
  cases hb : s.cst.spend.any (fun w => w.addr == a)
  · rw [if_neg (by simp), if_pos (by simpa [hb] using h), if_neg (by simp)]
    rfl
  · rw [if_pos rfl, if_pos rfl]
    simp only [none_kept]
    rw [show ∀ n, Nat.lor 0 n = n from Nat.zero_or]
    rfl

omit hv in
theorem pendWrite_full (hb : s.cst.spend.any (fun w => w.addr == a) = false) (hf : spendMax ≤ s.cst.spend.length) (m x : Nat) :
    s.pendWrite a m x = none := by
  rw [State.pendWrite, if_neg (by simp [hb]), if_neg (by omega)]

omit hv in
theorem length_pendingWith : (pendingWith s a v).length =
    s.cst.spend.length + (if s.cst.spend.any (fun w => w.addr == a) then 0 else 1) := by
  unfold pendingWith
  split <;> simp

omit hv in
/-- The pending write of a register that was written last is what a read finds. -/
theorem find_pendingWith : ∃ x ∈ (pendingWith s a v).find? (fun w => w.addr == a), BitVec.ofNat 32 x.mask = allBits ∧ x.value = v := by
  have full : ∀ m, BitVec.ofNat 32 (Nat.lor m 0xFFFFFFFF) = allBits := by
    intro m
    apply BitVec.eq_of_getLsbD_eq
    intro i hi
    have hbit : Nat.testBit 0xFFFFFFFF i = true := by
      rw [show 0xFFFFFFFF = 2 ^ 32 - 1 from rfl, Nat.testBit_two_pow_sub_one, decide_eq_true hi]
    rw [BitVec.getLsbD_ofNat, show ∀ n, Nat.lor m n = m ||| n from fun _ => rfl, Nat.testBit_or, hbit, show allBits = BitVec.allOnes 32 from rfl,
      BitVec.getLsbD_allOnes]
    simp
  unfold pendingWith
  cases hb : s.cst.spend.any (fun w => w.addr == a)
  · refine ⟨wholeWrite a v s.now, ?_, rfl, rfl⟩
    have others : s.cst.spend.find? (fun w => w.addr == a) = none := by
      simpa using hb
    simp [others, wholeWrite]
  · rw [if_pos rfl]
    obtain ⟨w, hw⟩ := Option.isSome_iff_exists.1 ((List.find?_isSome (p := fun w : SWrite => w.addr == a)).2 (List.any_eq_true.1 hb))
    have haddr : w.addr = a := by simpa using List.find?_some hw
    have same : ((fun w : SWrite => w.addr == a) ∘ rewritten a v s.now) = (fun w => w.addr == a) := by
      funext w
      simp only [Function.comp, rewritten]
      split <;> simp [*]
    refine ⟨rewritten a v s.now w, ?_, ?_, ?_⟩
    · rw [List.find?_map, same, hw]
      rfl
    · rw [rewritten, if_pos haddr]
      exact full _
    · rw [rewritten, if_pos haddr]

end

/-- TG_LATE_LIMIT shows the value that its pending write sets (R14). -/
theorem regView_lateLimit (s : State) {x : SWrite} (h : s.cst.spend.find? (fun w => w.addr == TG_LATE_LIMIT.addr) = some x)
    (hm : BitVec.ofNat 32 x.mask = allBits) : s.regView TG_LATE_LIMIT.addr = x.value % 2 ^ 32 := by
  have shown : s.shown TG_LATE_LIMIT.addr = [] := rfl
  have live : liveMask TG_LATE_LIMIT.addr = 0 := by decide +kernel
  have fields : (findReg TG_LATE_LIMIT.addr).map (fun r => r.bits (fun f => f.acc != .wo)) = some allBits := by decide +kernel
  have pend : s.withPend TG_LATE_LIMIT.addr (s.word TG_LATE_LIMIT.addr) = BitVec.ofNat 32 x.value := by
    rw [State.withPend, h]
    simp only [hm]
    rw [show allBits = BitVec.allOnes 32 from rfl, BitVec.not_allOnes, BitVec.and_zero, BitVec.zero_or, BitVec.and_allOnes]
  obtain ⟨r, hr, hbits⟩ := Option.map_eq_some_iff.1 fields
  have keep : ∀ w : Word, w &&& ~~~(0 : Word) = w := fun w => (congrArg (w &&& ·) BitVec.not_zero).trans BitVec.and_allOnes
  simp only [State.regView, hr, pend, shown, List.foldl_nil, hbits, live, keep, ite_self]
  rw [show allBits = BitVec.allOnes 32 from rfl, BitVec.and_allOnes, BitVec.toNat_ofNat]

theorem disp_applying {s : State} (h : s.nodeState = stApplying) : s.disp .c = .refuse ceBusy ∧ s.disp .s = .refuse ceBusy := by
  have other : s.nodeState ≠ stUncast := by rw [h]; decide
  exact ⟨(if_neg other).trans (if_pos h), (if_neg other).trans (if_pos h)⟩

theorem disp_inForce {s : State} (h : s.nodeState = stCast ∨ s.nodeState = stDraining) : s.disp .c = .refuse ceSealed ∧ s.disp .s = .pend := by
  have other : s.nodeState ≠ stUncast ∧ s.nodeState ≠ stApplying := by
    rcases h with h | h <;> rw [h] <;> decide
  exact ⟨(if_neg other.1).trans (if_neg other.2), (if_neg other.1).trans (if_neg other.2)⟩

/-- Settles O6: what the class and the node state make of the write, for each of the five registers. -/
theorem registerWriteByApplyClass : Obligations.RegisterWriteByApplyClass := by
  intro t v p s hr hp hv takes refused
  have busy : 0 < ceBusy ∧ ceBusy < 256 := by decide
  have sealed : 0 < ceSealed ∧ ceSealed < 256 := by decide
  have full : 0 < ceSfull ∧ ceSfull < 256 := by decide
  have refuses : ∀ {f app e}, PlainReg f app → f.addr ≠ CST_ERR_CODE.addr → 0 < e ∧ e < 256 → (s.at t).disp app = .refuse e → refused f e := by
    intro f app e h hf he hd
    exact plain_refuses h hr hp hv he hf (by rw [plainWrite, hd])
  have late := plainRegs (TG_LATE_LIMIT, .s) (by simp)
  refine ⟨fun f hf => ?_, fun f hf => ?_, fun h => ?_, fun h => ?_, fun h => ?_⟩
  · have plain : PlainReg f .l := plainRegs (f, .l) (by revert f; decide)
    exact plain_takes plain t p hr hp hv rfl
  · have plain : PlainReg f .c ∧ f.addr ≠ CST_ERR_CODE.addr :=
      ⟨plainRegs (f, .c) (by revert f; decide), by revert f; decide⟩
    exact ⟨fun h => plain_takes plain.1 t p hr hp hv (if_pos h), fun h => refuses plain.1 plain.2 busy (disp_applying (s := s.at t) h).1,
      fun h => refuses plain.1 plain.2 sealed (disp_inForce (s := s.at t) h).1⟩
  · exact plain_takes late t p hr hp hv (if_pos h)
  · exact refuses late (by decide) busy (disp_applying (s := s.at t) h).2
  · have pends := (disp_inForce (s := s.at t) h).2
    refine ⟨fun hroom => ?_, fun hnone hfull => ?_⟩
    · have written : plainWrite (s.at t) TG_LATE_LIMIT .s v = ([], withPending (s.at t) (pendingWith (s.at t) TG_LATE_LIMIT.addr v)) := by
        rw [plainWrite, pends]
        simp only [pendWrite_whole (s.at t) TG_LATE_LIMIT.addr hv hroom]
      obtain ⟨x, hx, hmask, hvalue⟩ := find_pendingWith (s.at t) TG_LATE_LIMIT.addr (v := v)
      refine ⟨withPending (s.at t) (pendingWith (s.at t) TG_LATE_LIMIT.addr v), ?_, (s.only_at t).comp (only_withPending _ _) (by simp) (by simp),
        length_pendingWith (s.at t) _, ?_⟩
      · rw [exec_registerWrite t v p _ s hp, regWrite_plain late (s.at t) p hr hv, written]
        rfl
      · have view := regView_lateLimit (withPending (s.at t) (pendingWith (s.at t) TG_LATE_LIMIT.addr v)) hx hmask
        rwa [hvalue, Nat.mod_eq_of_lt hv] at view
    · exact plain_refuses late hr hp hv full (by decide) (by
        rw [plainWrite, pends]
        simp only [pendWrite_full (s.at t) TG_LATE_LIMIT.addr hnone hfull])

end Sys2Proof.Proofs.Casting
end

section
/-! PROOFS. The re-check at COMMIT with a power transition of no domain (R62, R65, R595). -/

open Sys2Proof Sys2Proof.Machine

namespace Sys2Proof.Proofs.Casting

/-- An image of one logical Bench: MAPINV set, and one section, KERN, whose first word is 1 (R41, R43, R174). -/
def oneBenchImage : List Byte :=
  List.replicate 6 0 ++ [1, 0] ++ List.replicate 11 0 ++ [1] ++ List.replicate 236 0 ++
    [7, 0, 0, 0, 0, 0, 0, 0] ++ leBytes 8 288 ++ leBytes 8 64 ++ List.replicate 8 0 ++ [1] ++ List.replicate 63 0

/-- The uncast node after power-on reset with that image staged and its COMMIT bound, and one waiting transition whose number is past the 50
domains: the word that its STATE and TARGET would stand in is CST_STATE. No command asks for such a transition, and the statement excludes
none. -/
def strayApply : State :=
  { State.reset.wrBit CST_STATE_COMMIT true with
    cst := { State.reset.cst with staged := oneBenchImage }
    pwr := { State.reset.pwr with trans := [⟨(CST_STATE_STATE.addr - (PWR_STATE_STATE 0).addr) / 4, pwOff, pcFault, none⟩] } }

theorem recheck_strayApply : strayApply.recheck strayApply.cst.staged = none := by decide +kernel

/-- Nothing of a job is there to end. -/
theorem jobData_strayApply : (strayApply.at 0).stopLists.dropJobData.benchesEnd = strayApply.at 0 := by decide +kernel

theorem jobEnds_strayApply : (strayApply.at 0).jobEnds = strayApply.at 0 := by
  have uncast : (strayApply.at 0).inForce = false := by decide +kernel
  unfold State.jobEnds
  simp only [uncast, Bool.false_eq_true, false_and, if_false, jobData_strayApply]
  decide +kernel

theorem recheckDone_strayApply :
    (strayApply.at 0).recheckDone = ((strayApply.at 0).toNodeState stApplying 0).wakeHalls oneBenchImage := by
  have bound : ((strayApply.at 0).bound && ((strayApply.at 0).nodeState == stUncast || (strayApply.at 0).nodeState == stCast)) = true := by
    decide +kernel
  have uncast : (strayApply.at 0).nodeState = stUncast := by decide +kernel
  have passes : (strayApply.at 0).recheck (strayApply.at 0).cst.staged = none := recheck_strayApply
  rw [State.recheckDone, if_pos bound]
  simp only [passes, if_pos uncast]
  rw [State.beginApply]
  simp only [passes, jobEnds_strayApply]
  rfl

/-- The first Hall that is woken lets the waiting transition begin, and its state, in transit, goes into CST_STATE: APPLYING becomes
DRAINING. -/
theorem wakeHalls_strayApply : (((strayApply.at 0).toNodeState stApplying 0).wakeHalls oneBenchImage).nodeState = stDraining := by
  decide +kernel

/-- Refutes O17: as the apply wakes a Hall, every transition that may begin begins, and one of a domain number past 50, which the statement
allows in the state it starts from, overwrites the node state APPLYING. -/
theorem not_commitRecheckAndDrain : ¬ Obligations.CommitRecheckAndDrain := by
  intro h
  obtain ⟨commit, -⟩ := h 0 strayApply
  obtain ⟨-, applies, -⟩ := commit (by decide +kernel) (.inl (by decide +kernel))
  obtain ⟨u, hu, hstate, -⟩ := applies recheck_strayApply (by decide +kernel)
  have step : exec (.commitRecheckDone 0) strayApply = .next (strayApply.at 0).recheckDone := rfl
  obtain rfl : (strayApply.at 0).recheckDone = u := Host.Outcome.next.inj (step.symm.trans hu)
  rw [recheckDone_strayApply, wakeHalls_strayApply] at hstate
  exact absurd hstate (by decide)

end Sys2Proof.Proofs.Casting
end

section
/-! PROOFS. What an operation shows of a state: the clock, the staging path and some words of the register file; and the shared operations
that leave it. -/

open Sys2Proof Sys2Proof.Machine

namespace Sys2Proof.Proofs.Casting

/-! ### Views -/

/-- The clock, the staging path and the words of `W`. -/
def view (W : Nat → Prop) (s : State) : Nat × CstState × ({a // W a} → Word) := (s.now, s.cst, fun a => s.word a.1)

/-- Words below the fault collector's, or the mode and the hold of the job: none of the words that the fabric and the engines write. -/
def LowWords (W : Nat → Prop) : Prop := ∀ a, W a → a < 0x100000 ∨ a = 0x180000 ∨ a = 0x180008 ∨ a = 0x18000C

/-- Words of the staging path alone. -/
def CastWords (W : Nat → Prop) : Prop := ∀ a, W a → 0xC0000 ≤ a ∧ a < 0x100000

section
variable {W : Nat → Prop}

theorem CastWords.low (h : CastWords W) : LowWords W := fun a ha => .inl (h a ha).2

theorem castWords_of_none (h : ∀ a, ¬W a) : CastWords W := fun a ha => absurd ha (h a)

theorem view_eq_iff {s u : State} : view W u = view W s ↔ u.now = s.now ∧ u.cst = s.cst ∧ ∀ a, W a → u.word a = s.word a := by
  simp [view, funext_iff]

/-- A state whose clock, staging path and registers are those of another shows the same. -/
theorem view_of_same {s u : State} (hn : u.now = s.now) (hc : u.cst = s.cst) (hr : u.regs = s.regs) : view W u = view W s :=
  view_eq_iff.2 ⟨hn, hc, fun a _ => State.word_congr hr a⟩

/-- An update of the parts that no view shows. -/
theorem view_parts (s : State) (pending : List Instr) (sets mem errs free outs tg flt sec mgt pwr det msys benches mill fab coll temper stock) :
    view W ⟨pending, s.now, s.regs, sets, mem, errs, free, outs, s.cst, tg, flt, sec, mgt, pwr, det, msys, benches, mill, fab, coll, temper,
      stock⟩ = view W s := view_of_same rfl rfl rfl

theorem view_foldl {α : Type} (f : State → α → State) (h : ∀ s x, view W (f s x) = view W s) (xs : List α) (s : State) :
    view W (xs.foldl f s) = view W s := by
  induction xs generalizing s with
  | nil => rfl
  | cons x xs ih => exact (ih _).trans (h s x)

/-- A fold that carries a value beside the state. -/
theorem view_foldl_snd {α β : Type} (f : β × State → α → β × State) (h : ∀ r x, view W (f r x).2 = view W r.2) (xs : List α) (r : β × State) :
    view W (xs.foldl f r).2 = view W r.2 := by
  induction xs generalizing r with
  | nil => rfl
  | cons x xs ih => exact (ih _).trans (h r x)

/-- A fold that may fail, and that carries a value beside the state. -/
theorem view_foldl_option {α β : Type} (f : Option (β × State) → α → Option (β × State))
    (h : ∀ r a y, f r a = some y → ∃ z, r = some z ∧ view W y.2 = view W z.2) (xs : List α) (b : β) (s : State) (y : β × State)
    (e : xs.foldl f (some (b, s)) = some y) : view W y.2 = view W s := by
  have general : ∀ (xs : List α) (r : Option (β × State)), xs.foldl f r = some y → ∃ z, r = some z ∧ view W y.2 = view W z.2 := by
    intro xs
    induction xs with
    | nil => exact fun r e => ⟨y, e, rfl⟩
    | cons x xs ih =>
      intro r e
      obtain ⟨z, hz, hy⟩ := ih _ e
      obtain ⟨z', hz', hv⟩ := h r x z hz
      exact ⟨z', hz', hy.trans hv⟩
  obtain ⟨z, hz, hy⟩ := general xs _ e
  rw [hy, ← Option.some.inj hz]

/-! ### Words -/

section
variable (s : State) {f : Fld}

theorem view_setWord {a : Nat} (v : Word) (h : ¬W a) : view W (s.setWord a v) = view W s := by
  refine view_eq_iff.2 ⟨rfl, rfl, fun b hb => ?_⟩
  rw [State.word_setWord, if_neg]
  rintro rfl
  exact h hb

theorem view_wr (v : Nat) (h : ¬W f.addr) : view W (s.wr f v) = view W s := view_setWord s _ h

theorem view_wrBit (b : Bool) (h : ¬W f.addr) : view W (s.wrBit f b) = view W s := view_wr s _ h

theorem view_addSat (n : Nat) (h : ¬W f.addr) : view W (s.addSat f n) = view W s := view_wr s _ h

theorem view_inc (h : ¬W f.addr) : view W (s.inc f) = view W s := view_wr s _ h

theorem view_wr64 (v : Nat) (h : ¬W f.addr) (hh : ¬W f.hi.addr) : view W (s.wr64 f v) = view W s := (view_wr _ _ hh).trans (view_wr s _ h)

theorem view_add64 (n : Nat) (h : ¬W f.addr) (hh : ¬W f.hi.addr) : view W (s.add64 f n) = view W s := view_wr64 s _ h hh

theorem view_raiseBits {a : Nat} (m : Word) (h : ¬W a) : view W (s.raiseBits a m) = view W s := view_setWord s _ h

theorem view_raise (h : ¬W f.addr) : view W (s.raise f) = view W s := view_raiseBits s _ h

theorem view_wrBytes (f : Nat → Fld) (bs : List Byte) (h : ∀ i, ¬W (f i).addr) : view W (s.wrBytes f bs) = view W s :=
  view_foldl _ (fun s i => view_wr s _ (h i)) _ s

theorem view_resetWords (as : List Nat) (h : ∀ a ∈ as, ¬W a) : view W (s.resetWords as) = view W s := by
  unfold State.resetWords
  induction as generalizing s with
  | nil => rfl
  | cons a as ih => exact (ih _ (fun b hb => h b (List.mem_cons_of_mem _ hb))).trans (view_setWord s _ (h a List.mem_cons_self))

end

/-! ### Reports, records, memories and units -/

section
variable (s : State)

theorem view_fault (c : FClass) (l k : Nat) (m : Master) (x y : Nat) (i : Bool) : view W (s.fault c l k m x y i) = view W s := view_of_same rfl rfl rfl

theorem view_faultConseq (c : FClass) (l k : Nat) (m : Master) (x : Nat) : view W (s.faultConseq c l k m x) = view W s := view_of_same rfl rfl rfl

theorem view_swNote (c : Nat) (m : Master) : view W (s.swNote c m) = view W s := view_of_same rfl rfl rfl

theorem view_hall (ty : Nat) (b : List Byte) (au : Bool) : view W (s.hall ty b au) = view W s := view_of_same rfl rfl rfl

theorem view_hallAfter (le ty : Nat) (b : List Byte) : view W (s.hallAfter le ty b) = view W s := view_of_same rfl rfl rfl

theorem view_out (o : Out) : view W (s.out o) = view W s := view_of_same rfl rfl rfl

theorem view_msix (v : Nat) : view W (s.msix v) = view W s := view_of_same rfl rfl rfl

theorem view_setPort (k : Nat) (p : Port) : view W (s.setPort k p) = view W s := view_of_same rfl rfl rfl

theorem view_setCells (l : List PCell) : view W (s.setCells l) = view W s := view_of_same rfl rfl rfl

theorem view_setCell (c : Nat × Nat) (f : PCell → PCell) : view W (s.setCell c f) = view W s := view_of_same rfl rfl rfl

theorem view_setBench (l : Nat) (b : Bench) : view W (s.setBench l b) = view W s := view_of_same rfl rfl rfl

theorem view_setLane (k : Nat) (x : Lane) : view W (s.setLane k x) = view W s := view_of_same rfl rfl rfl

theorem view_setTx (x : TxStream) : view W (s.setTx x) = view W s := view_of_same rfl rfl rfl

theorem view_setRx (x : RxStream) : view W (s.setRx x) = view W s := view_of_same rfl rfl rfl

theorem view_setOpen (k : Nat) (f : OpenPkt → OpenPkt) : view W (s.setOpen k f) = view W s := view_of_same rfl rfl rfl

theorem view_dropRest (k : Nat) (d : DropAs) : view W (s.dropRest k d) = view W s := view_of_same rfl rfl rfl

theorem view_queueSym (k p ty b : Nat) : view W (s.queueSym k p ty b) = view W s := view_of_same rfl rfl rfl

theorem view_queueCredit (k v : Nat) (i : Bool) (c : Nat) : view W (s.queueCredit k v i c) = view W s := view_of_same rfl rfl rfl

theorem view_queueAck (k st : Nat) (l : Bool) (v n : Nat) (nak : Bool) (r : Nat) : view W (s.queueAck k st l v n nak r) = view W s := view_of_same rfl rfl rfl

theorem view_queueIdent (k : Nat) : view W (s.queueIdent k) = view W s := by
  simp only [State.queueIdent, view_queueSym]

theorem view_note1 (i : Nat) : view W (s.note1 i) = view W s := view_of_same rfl rfl rfl

theorem view_newChecks (a n : Nat) : view W (s.newChecks a n) = view W s := view_of_same rfl rfl rfl

theorem view_undefine (g : Option (Nat × Nat)) (lo hi : Nat) : view W (s.undefine g lo hi) = view W s := view_of_same rfl rfl rfl

theorem view_setErr (w : Nat) (e : WordErr) : view W (s.setErr w e) = view W s := view_of_same rfl rfl rfl

theorem view_clearErr (w : Nat) : view W (s.clearErr w) = view W s := view_of_same rfl rfl rfl

theorem view_setBytes (a : Nat) (bs : List Byte) : view W (s.setBytes a bs) = view W s := view_of_same rfl rfl rfl

theorem view_freeNext : view W s.freeNext = view W s := view_of_same rfl rfl rfl

theorem view_freeCredit (k v : Nat) : view W (s.freeCredit k v) = view W s := by
  simp only [State.freeCredit, view_queueCredit, view_setPort, apply_ite (view W), ite_self]

theorem view_ppsGate : view W s.ppsGate = view W s := by
  simp only [State.ppsGate, view_parts, apply_ite (view W), ite_self]

end

end

end Sys2Proof.Proofs.Casting
end

section
/-! PROOFS. The fabric's and the memory's shared operations write none of the low words (R12, R371 to R394, R452 to R470, R528). -/

open Sys2Proof Sys2Proof.Machine

namespace Sys2Proof.Proofs.Casting

section
variable {W : Nat → Prop} (hW : LowWords W)
include hW

/-! ### Words that no low view shows -/

theorem LowWords.not_of_lt {a : Nat} (h : 0x18000C < a) : ¬W a := fun ha => by
  have := hW a ha
  omega

theorem LowWords.not_of_fault {a : Nat} (h : 0x100000 ≤ a ∧ a < 0x180000) : ¬W a := fun ha => by
  have := hW a ha
  omega

theorem faultWords : ¬W FLT_INJ_LEFT_LEFT.addr ∧ ¬W FLT_INJ_LEFT_ARMED.addr ∧ ¬W FLT_SPLIT_INFO_MASTER.addr ∧
    ¬W FLT_SPLIT_INFO_STATUS.addr ∧ ¬W FLT_SPLIT_INFO_ING.addr ∧ ¬W FLT_SPLIT_INFO_PARTS.addr ∧ ¬W FLT_SPLIT_INFO_VALID.addr ∧
    ¬W FLT_SPLIT_SEAM_LO.addr ∧ ¬W FLT_SPLIT_SEAM_LO.hi.addr := by
  refine ⟨?_, ?_, ?_, ?_, ?_, ?_, ?_, ?_, ?_⟩ <;> exact hW.not_of_fault (by decide)

theorem poolWords (d : Nat) : ¬W (BP_RELREF d).addr ∧ ¬W (BP_FIRST_CAUSE d).addr ∧ ¬W (BP_FIRST_CELL d).addr ∧ ¬W (BP_FIRST_VALID d).addr ∧
    ¬W (BP_FAIL d).addr ∧ ¬W (BP_FLUSH d).addr ∧ ¬W (SW_D2D_LO d).addr ∧ ¬W (SW_D2D_LO d).hi.addr ∧ ¬W (SW_PDROP d).addr ∧
    ¬W (SW_PSTAT_KEPT d).addr := by
  refine ⟨?_, ?_, ?_, ?_, ?_, ?_, ?_, ?_, ?_, ?_⟩
  all_goals
    apply hW.not_of_lt
    simp only [BP_RELREF, BP_FIRST_CAUSE, BP_FIRST_CELL, BP_FIRST_VALID, BP_FAIL, BP_FLUSH, SW_D2D_LO, SW_PDROP, SW_PSTAT_KEPT, Fld.hi]
    omega

theorem touchWords (u : Nat) : ¬W (TM_EXPIRED u).addr ∧ ¬W (TM_ABREAK u).addr ∧ ¬W (TM_ENT_NOENT u).addr := by
  refine ⟨?_, ?_, ?_⟩
  all_goals
    apply hW.not_of_lt
    simp only [TM_EXPIRED, TM_ABREAK, TM_ENT_NOENT]
    omega

theorem touchFirstWords : ¬W TM_FIRST_UNIT.addr ∧ ¬W TM_FIRST_CAUSE.addr ∧ ¬W TM_FIRST_VALID.addr := by
  refine ⟨?_, ?_, ?_⟩ <;> exact hW.not_of_lt (by decide)

theorem gateWords (k : Nat) : ¬W (GT_OVERSIZE k).addr ∧ ¬W (GT_GSTAT_LATEBASE k).addr ∧ ¬W (GT_GSTAT_ACTIVE k).addr ∧
    ¬W (GT_GSTAT_ALEN k).addr ∧ ¬W (GT_ACYCLE k).addr := by
  refine ⟨?_, ?_, ?_, ?_, ?_⟩
  all_goals
    apply hW.not_of_lt
    simp only [GT_OVERSIZE, GT_GSTAT_LATEBASE, GT_GSTAT_ACTIVE, GT_GSTAT_ALEN, GT_ACYCLE]
    omega

theorem gateFirstWords : ¬W GT_FIRST_CAUSE.addr ∧ ¬W GT_FIRST_QUEUE.addr ∧ ¬W GT_FIRST_PORT.addr ∧ ¬W GT_FIRST_VALID.addr ∧ ¬W GT_LATE.addr := by
  refine ⟨?_, ?_, ?_, ?_, ?_⟩ <;> exact hW.not_of_lt (by decide)

theorem routeWords : ¬W RT_NOROUTE.addr ∧ ¬W RT_PREJ.addr ∧ ¬W RT_DFENCE.addr ∧ ¬W RT_FIRST_CAUSE.addr ∧ ¬W RT_FIRST_PORT.addr ∧
    ¬W RT_FIRST_VALID.addr := by
  refine ⟨?_, ?_, ?_, ?_, ?_, ?_⟩ <;> exact hW.not_of_lt (by decide)

theorem linkWords (k : Nat) : ¬W (LK_STAT_STATE k).addr ∧ ¬W (LK_STAT_CAUSE k).addr ∧ ¬W (LK_STAT_HELD k).addr ∧ ¬W (LK_STAT_DOWNS k).addr ∧
    ¬W (LK_UNCORR k).addr ∧ ¬W (LK_GAP k).addr := by
  refine ⟨?_, ?_, ?_, ?_, ?_, ?_⟩
  all_goals
    apply hW.not_of_lt
    simp only [LK_STAT_STATE, LK_STAT_CAUSE, LK_STAT_HELD, LK_STAT_DOWNS, LK_UNCORR, LK_GAP]
    omega

theorem linkSumWords : ¬W LK_SUM_DOWNS.addr := hW.not_of_lt (by decide)

theorem memoryWords (g : Nat) : ¬W (MEM_HCE g).addr ∧ ¬W (MEM_ICE g).addr ∧ ¬W (MEM_HUE g).addr ∧ ¬W (MEM_IUE g).addr ∧
    ¬W (MEM_HLINE_LINE g).addr ∧ ¬W (MEM_HLINE_COUNT g).addr := by
  refine ⟨?_, ?_, ?_, ?_, ?_, ?_⟩
  all_goals
    apply hW.not_of_lt
    simp only [MEM_HCE, MEM_ICE, MEM_HUE, MEM_IUE, MEM_HLINE_LINE, MEM_HLINE_COUNT]
    omega

theorem memoryFirstWords : ¬W MEM_UE_INFO_MASTER.addr ∧ ¬W MEM_UE_INFO_TYPE.addr ∧ ¬W MEM_UE_INFO_POISON.addr ∧ ¬W MEM_UE_INFO_VALID.addr ∧
    ¬W MEM_UE_ADDR_LO.addr ∧ ¬W MEM_UE_ADDR_LO.hi.addr ∧ ¬W MEM_UE_TICK_LO.addr ∧ ¬W MEM_UE_TICK_LO.hi.addr := by
  refine ⟨?_, ?_, ?_, ?_, ?_, ?_, ?_, ?_⟩ <;> exact hW.not_of_lt (by decide)

end
end Sys2Proof.Proofs.Casting
end

section
/-! PROOFS. Cells, queues, packets and accesses to memory leave a low view (R371 to R394, R431, R452, R480, R528). -/

open Sys2Proof Sys2Proof.Machine

namespace Sys2Proof.Proofs.Casting

section
variable {W : Nat → Prop} (hW : LowWords W) (s : State)

theorem view_ite {c : Prop} [Decidable c] {a b : State} (ha : view W a = view W s) (hb : view W b = view W s) :
    view W (if c then a else b) = view W s := by
  split <;> assumption

theorem view_allocCell (d r : Nat) (h : List (Owner × Acct × Bool)) (m : Bool) (v : Nat) (x : (Nat × Nat) × State)
    (e : s.allocCell d r h m v = some x) : view W x.2 = view W s := by
  unfold State.allocCell at e
  split at e
  · cases e
  · cases e
    rfl

include hW

/-! ### Injections -/

theorem view_takeInj (kind idx : Nat) : view W (s.takeInj kind idx).2 = view W s := by
  simp only [State.takeInj, apply_ite Prod.snd, apply_ite (view W), view_wr, view_wrBit, faultWords hW, not_false_eq_true, ite_self]

theorem view_unitsSent (k n : Nat) : view W (s.unitsSent k n) = view W s := by
  have injected := view_foldl_snd (W := W) (fun (r : Nat × State) (_ : Nat) =>
    (if (r.2.takeInj 5 k).1 = true then r.1 + 1 else r.1, (r.2.takeInj 5 k).2)) (fun r _ => view_takeInj hW r.2 5 k)
  simp only [State.unitsSent, view_out, apply_ite (view W), injected, view_setPort, ite_self]

theorem view_sendSym (k ty b : Nat) : view W (s.sendSym k ty b) = view W s := by
  simp only [State.sendSym, view_unitsSent hW, view_out, view_takeInj hW]

/-! ### Cells -/

theorem view_bpFirst (d c i : Nat) : view W (s.bpFirst d c i) = view W s := by
  simp only [State.bpFirst, view_wr, view_wrBit, poolWords hW, not_false_eq_true, apply_ite (view W), ite_self]

theorem view_poolFail (d : Nat) : view W (s.poolFail d) = view W s := view_inc s (poolWords hW d).2.2.2.2.1

theorem view_releaseCell (c : Nat × Nat) (o : Owner) : view W (s.releaseCell c o) = view W s := by
  simp only [State.releaseCell, view_fault, view_bpFirst hW, view_inc, poolWords hW, not_false_eq_true, view_parts, view_setCell,
    apply_ite (view W), ite_self]

theorem view_releaseEnt (k q : Nat) (c : Nat × Nat) : view W (s.releaseEnt k q c) = view W s := by
  unfold State.releaseEnt
  dsimp only
  split
  · simp only [view_freeCredit, view_releaseCell hW, apply_ite (view W), ite_self]
  · exact view_releaseCell hW s _ _

theorem view_releaseEnts {α : Type} (k : Nat) (q : α → Nat) (c : α → Nat × Nat) (l : List α) (s : State) :
    view W (l.foldl (fun s e => s.releaseEnt k (q e) (c e)) s) = view W s := view_foldl _ (fun s _ => view_releaseEnt hW s _ _ _) l s

theorem view_releaseCells {α : Type} (c : α → Nat × Nat) (o : α → Owner) (l : List α) (s : State) :
    view W (l.foldl (fun s e => s.releaseCell (c e) (o e)) s) = view W s := view_foldl _ (fun s _ => view_releaseCell hW s _ _) l s

theorem view_dropCopies (k : Nat) (fence : Bool) : view W (s.dropCopies k fence).2 = view W s := by
  simp only [State.dropCopies, view_releaseEnts hW, view_parts, view_setPort]

/-- The cells charged to the credit reserve of a port that went down are released, copies and all (R384). -/
theorem view_dropCred (k : Nat) : view W (s.dropCred k).2 = view W s := by
  simp only [State.dropCred, view_setCells, view_releaseCells hW, view_parts]
  refine view_foldl_snd _ (fun r j => ?_) _ _
  split
  · rfl
  · simp only [view_releaseCells hW, view_setPort]

theorem view_freeRest (o : OpenPkt) : view W (s.freeRest o) = view W s := by
  unfold State.freeRest
  split
  · exact view_releaseCells hW id _ _ s
  · rfl

theorem view_closePacket (k : Nat) (keep : Bool) : view W (s.closePacket k keep) = view W s := by
  unfold State.closePacket
  dsimp only
  split
  · rw [view_freeRest hW, view_setPort]
  · rfl

theorem view_expireRecs (u : Nat) (p : TmRec → Bool) : view W (s.expireRecs u p) = view W s := by
  simp only [State.expireRecs, view_addSat, touchWords hW, not_false_eq_true, view_parts, apply_ite (view W), ite_self]

/-! ### Queues -/

theorem view_countOversize (k q : Nat) : view W (s.countOversize k q) = view W s := by
  simp only [State.countOversize, view_fault, view_wr, view_wrBit, view_inc, gateWords hW, gateFirstWords hW, not_false_eq_true, apply_ite (view W), ite_self]

theorem view_dropOversize (k q : Nat) (f : Flit) : view W (s.dropOversize k q f) = view W s := by
  simp only [State.dropOversize, view_countOversize hW, apply_ite (view W), ite_self]
  refine (view_foldl _ (fun s j => ?_) _ _).trans ?_
  · split
    · simp only [view_setPort, apply_ite (view W), ite_self]
    · rfl
  · rw [view_releaseEnts hW, view_setPort]

theorem view_enqueue (k q : Nat) (e : QEnt) : view W (s.enqueue k q e) = view W s := by
  simp only [State.enqueue, view_dropOversize hW, view_parts, view_setPort, apply_ite (view W), ite_self]

theorem view_crossDie (a b : Nat) : view W (s.crossDie a b).2 = view W s := by
  have injected := view_foldl_snd (W := W) (fun (r : Bool × State) (_ : Nat) => (r.1 || (r.2.takeInj 4 a).1, (r.2.takeInj 4 a).2))
    (fun r _ => view_takeInj hW r.2 4 a)
  simp only [State.crossDie, apply_ite Prod.snd, view_fault, view_poolFail hW, injected, view_add64, poolWords hW, not_false_eq_true,
    apply_ite (view W), ite_self]

/-! ### Memory -/

theorem view_countCorrected (w : Nat) (l : List Nat) : view W (s.countCorrected w l) = view W s := by
  unfold State.countCorrected
  split
  · dsimp only
    split
    · simp only [view_wr, view_inc, memoryWords hW, not_false_eq_true, apply_ite (view W), ite_self]
    · exact view_inc s (memoryWords hW _).1
  · exact view_inc s (memoryWords hW _).2.1

theorem view_countUncorr (w : Nat) (m : Master) (ty : Nat) (p : Bool) : view W (s.countUncorr w m ty p) = view W s := by
  simp only [State.countUncorr, view_wr64, view_wr, view_wrBit, view_inc, memoryWords hW, memoryFirstWords hW, not_false_eq_true, apply_ite (view W), ite_self]

theorem view_readWord (m : Master) (ty w : Nat) : view W (s.readWord m ty w).2 = view W s := by
  unfold State.readWord
  split
  · rfl
  · simp only [apply_ite Prod.snd, view_freeNext, view_setBytes, view_countCorrected hW, apply_ite (view W), ite_self]
  · simp only [view_freeNext, view_setErr, view_countUncorr hW]
  · exact view_countUncorr hW s _ _ _ _

theorem view_injectWord (w : Nat) : view W (s.injectWord w) = view W s := by
  simp only [State.injectWord, view_setErr, view_takeInj hW, apply_ite (view W), ite_self]

theorem view_writeWord (m : Master) (a : Nat) (bs : List Byte) (w : Nat) : view W (s.writeWord m a bs w).2 = view W s := by
  simp only [State.writeWord, apply_ite Prod.snd, view_injectWord hW, view_setBytes, view_clearErr, apply_ite (view W), view_readWord hW, ite_self]

theorem view_writeWords (m : Master) (a : Nat) (bs : List Byte) (ws : List Nat) (s : State) :
    view W (s.writeWords m a bs ws).2 = view W s := by
  induction ws generalizing s with
  | nil => rfl
  | cons w ws ih => exact (ih _).trans (view_writeWord hW s m a bs w)

theorem view_aliveBreak (g : Nat) : view W (s.aliveBreak g) = view W s := by
  simp only [State.aliveBreak, view_fault, view_wr, view_wrBit, view_inc, touchWords hW, touchFirstWords hW, not_false_eq_true, apply_ite (view W), ite_self]

theorem view_groupAccess (m : Master) (w : Nat) : view W (s.groupAccess m w) = view W s := by
  simp only [State.groupAccess, view_aliveBreak hW, view_parts, view_takeInj hW, apply_ite (view W), ite_self]

theorem view_memWrite (m : Master) (a : Nat) (bs : List Byte) : view W (s.memWrite m a bs).2 = view W s := by
  unfold State.memWrite
  rw [view_writeWords hW, view_newChecks]
  exact view_foldl _ (fun s w => view_groupAccess hW s m w) _ s

end
end Sys2Proof.Proofs.Casting
end

section
/-! PROOFS. Labels, collectives, lists of gates, port states and Benches leave a low view (R228 to R251, R409, R433, R158, R204). -/

open Sys2Proof Sys2Proof.Machine

namespace Sys2Proof.Proofs.Casting

section
variable {W : Nat → Prop} (hW : LowWords W) (s : State)
include hW

theorem engineWords (d : Nat) : ¬W (CRU_DSTAT_STATUS d).addr ∧ ¬W (CRU_DSTAT_CTX d).addr ∧ ¬W (CRU_CSTAT_CTX d).addr ∧
    ¬W (NUM_TSTAT_STATE d).addr ∧ ¬W (NUM_TSTAT_STATUS d).addr ∧ ¬W (STK_TLOG_CELLS d).addr ∧ ¬W (STK_TSTAT_STATUS d).addr ∧
    ¬W (STK_TSTAT_PHASE d).addr ∧ ¬W (STK_TSTAT_TORN d).addr := by
  refine ⟨?_, ?_, ?_, ?_, ?_, ?_, ?_, ?_, ?_⟩
  all_goals
    apply hW.not_of_lt
    simp only [CRU_DSTAT_STATUS, CRU_DSTAT_CTX, CRU_CSTAT_CTX, NUM_TSTAT_STATE, NUM_TSTAT_STATUS, STK_TLOG_CELLS, STK_TSTAT_STATUS,
      STK_TSTAT_PHASE, STK_TSTAT_TORN]
    omega

theorem collectiveWords : ¬W CRU_FAILS.addr ∧ ¬W CRU_FIRST_DESC.addr ∧ ¬W CRU_FIRST_STATUS.addr ∧ ¬W CRU_FIRST_VALID.addr ∧
    ¬W CRU_ACTIVE_INUSE.addr ∧ ¬W CRU_HOLD_S0_CELLS.addr ∧ ¬W CRU_HOLD_S1_CELLS.addr ∧ ¬W CRU_HOLDPK_S0_PEAK.addr ∧
    ¬W CRU_HOLDPK_S1_PEAK.addr := by
  refine ⟨?_, ?_, ?_, ?_, ?_, ?_, ?_, ?_, ?_⟩ <;> exact hW.not_of_lt (by decide)

omit hW in
theorem view_txStream (u : StreamUnit) (k : Nat) (l : Bool) (key vc w : Nat) : view W (s.txStream u k l key vc w).2 = view W s := by
  unfold State.txStream
  split
  · simp only [apply_ite (view W), view_setTx, ite_self]
  · exact view_of_same rfl rfl rfl

omit hW in
theorem view_labelStream (u : StreamUnit) (k o vc w : Nat) : view W (s.labelStream u k o vc w).2 = view W s := by
  simp only [State.labelStream, apply_ite Prod.snd, apply_ite (view W), view_txStream, ite_self]

/-! ### Labels -/

theorem view_enqueueOwn (from' r k vc : Nat) (f : Flit) (x : Option Nat) : view W (s.enqueueOwn from' r k vc f x) = view W s := by
  unfold State.enqueueOwn
  dsimp only
  split
  · rw [view_enqueue hW, view_crossDie hW]
  · split
    · rw [view_enqueue hW, view_poolFail hW]
    · split
      · split
        · rw [view_enqueue hW, view_crossDie hW]
        · rename_i e
          rw [view_enqueue hW, view_allocCell _ _ _ _ _ _ _ e, view_crossDie hW]
      · rw [view_crossDie hW]

theorem view_dropMulti (d k o : Nat) (f : Flit) : view W (s.dropMulti d k o f) = view W s := by
  simp only [State.dropMulti, view_countOversize hW, view_releaseEnts hW, view_parts, apply_ite (view W), ite_self]

/-- Copies that find no room are counted (R405). -/
theorem view_sharesRefused (d : Nat) (l : List (Nat × Nat × Option Nat)) :
    view W (l.foldl (fun s c => s.inc (SW_PDROP c.1)) (s.poolFail d)) = view W s := by
  refine (view_foldl _ (fun s c => ?_) _ _).trans (view_poolFail hW s d)
  simp only [view_inc, poolWords hW, not_false_eq_true]

theorem view_shareDie (d from' r : Nat) (v : Option Nat) (f : Flit) (acct : Nat → Acct) (own : Bool) (copies : List (Nat × Nat × Option Nat)) :
    view W (s.shareDie d from' r v f acct own copies).2 = view W s := by
  unfold State.shareDie
  dsimp only
  split
  · rfl
  · split
    · exact view_sharesRefused hW s d _
    · split
      · split
        · rw [view_sharesRefused hW, view_crossDie hW]
        · rename_i e
          refine (view_foldl _ (fun s c => view_dropMulti hW s _ _ _ _) _ _).trans ?_
          rw [view_parts, view_allocCell _ _ _ _ _ _ _ e, view_crossDie hW]
      · exact view_crossDie hW s _ _

theorem view_injectLabel (u : StreamUnit) (l vc from' r : Nat) (last : Bool) (fidx : Nat) (data : List Byte) (chk : Check) (keep : Nat → Bool) :
    view W (s.injectLabel u l vc from' r last fidx data chk keep) = view W s := by
  have counted := view_inc s (f := RT_NOROUTE) (routeWords hW).1
  delta State.injectLabel
  extract_lets f
  split
  · rfl
  · rename_i e _
    split
    · rfl
    · split
      · extract_lets s1
        have h1 : view W s1 = view W s := by simp only [s1, apply_ite (view W), counted, ite_self]
        split
        rename_i cs s2 streams
        have h2 : view W s2 = view W s1 := by
          rw [show s2 = _ from (congrArg Prod.snd streams).symm]
          refine view_foldl_snd _ (fun a c => ?_) _ _
          exact view_labelStream a.2 _ _ _ _ _
        refine (view_foldl _ (fun s d => ?_) _ _).trans (h2.trans h1)
        extract_lets one
        have h3 : ∀ s, view W (one s) = view W s := fun s => view_foldl _ (fun s c => view_enqueueOwn hW s _ _ _ _ _ _) _ s
        split
        · exact h3 s
        · split
          rename_i ok u shared
          have h4 : view W u = view W s := by
            rw [show u = _ from (congrArg Prod.snd shared).symm]
            exact view_shareDie hW s _ _ _ _ _ _ _ _
          split
          · exact h4
          · exact (h3 u).trans h4
      · split
        · split
          · exact counted
          · split
            · rfl
            · simp only [view_enqueueOwn hW, view_labelStream]
        · rfl

/-! ### Collectives -/

theorem view_genCheck (u : Nat) (data : List Byte) (fail : Bool) : view W (s.genCheck u data fail).2 = view W s := by
  simp only [State.genCheck, apply_ite Prod.snd, apply_ite (view W), view_takeInj hW, ite_self]

theorem view_collFlits (d die vc : Nat) (l : Nat → Option Nat) (keep : Nat → Bool) (bs : List Byte) :
    view W (s.collFlits d die vc l keep bs) = view W s := by
  refine view_foldl _ (fun s x => ?_) _ s
  split
  · rfl
  · rw [view_injectLabel hW, view_genCheck hW]

theorem view_sendMarkers (i : CollInst) (st : Nat) : view W (s.sendMarkers i st) = view W s := by
  refine view_foldl _ (fun s x => ?_) _ s
  simp only [State.sendDown, view_collFlits hW, apply_ite (view W), ite_self]

theorem view_cruSync : view W s.cruSync = view W s := by
  simp only [State.cruSync, view_wr, collectiveWords hW, not_false_eq_true]
  exact view_foldl _ (fun s c => view_wr s _ (engineWords hW c).2.2.1) _ s

theorem view_endInst (i : CollInst) : view W (s.endInst i) = view W s := by
  simp only [State.endInst, State.dropHolds, view_cruSync hW, view_wr, engineWords hW, not_false_eq_true, view_parts]
  exact view_releaseCells hW _ _ _ s

theorem view_splitFail (m : Master) (st seam : Nat) (spans bad : List (Nat × Nat)) : view W (s.splitFail m st seam spans bad) = view W s := by
  have mapped : ∀ (map : Nat) (s : State),
      view W ((List.range 4).foldl (fun s i => s.wr (FLT_SPLIT_MAP i) (map / 2 ^ (32 * i) % 2 ^ 32)) s) = view W s := by
    intro map s
    have word : ∀ i < 4, ¬W (FLT_SPLIT_MAP i).addr := fun i hi => hW.not_of_fault (by simp only [FLT_SPLIT_MAP]; omega)
    simp only [List.range, List.range.loop, List.foldl_cons, List.foldl_nil, view_wr, word, Nat.reduceLT, not_false_eq_true]
  simp only [State.splitFail, view_hall, mapped, view_wr64, view_raise, view_wr, faultWords hW, not_false_eq_true, apply_ite (view W), ite_self]

theorem view_temperStop (st status : Nat) : view W (s.temperStop st status) = view W s := by
  simp only [State.temperStop, view_parts, view_wr, engineWords hW, not_false_eq_true]

theorem view_failOne (i : CollInst) (st : Nat) (bad : Option (Nat × Nat × Nat)) (lane : Option Nat) :
    view W (s.failOne i st bad lane) = view W s := by
  delta State.failOne
  extract_lets d s1 s2 s3 parts
  have h1 : view W s1 = view W s := by
    simp only [s1, view_wr, view_inc, collectiveWords hW, engineWords hW, not_false_eq_true]
  have h2 : view W s2 = view W s1 := by
    simp only [s2, view_wrBit, view_wr, collectiveWords hW, not_false_eq_true, apply_ite (view W), ite_self]
  have h3 : view W s3 = view W s2 := view_hall s2 _ _ _
  split
  rename_i acc a _
  extract_lets s4
  have h4 : view W s4 = view W s3 := by
    dsimp only [s4]
    split
    · exact view_faultConseq s3 _ _ _ _ _
    · split <;> exact view_fault s3 _ _ _ _ _ _ _
    · exact view_fault s3 _ _ _ _ _ _ _
    · rfl
  split
  simp only [view_endInst hW, view_sendMarkers hW, apply_ite (view W), view_splitFail hW, ite_self, h4, h3, h2, h1]

theorem view_failInst (i : CollInst) (st : Nat) (bad : Option (Nat × Nat × Nat)) (lane : Option Nat) :
    view W (s.failInst i st bad lane) = view W s := by
  delta State.failInst
  extract_lets img s1
  have h1 : view W s1 = view W s := view_failOne hW s i st bad lane
  split
  · exact h1
  · rename_i stage _
    extract_lets s2 ag
    have h2 : view W s2 = view W s := (view_temperStop hW s1 stage st).trans h1
    split
    · exact h2
    · split
      · exact (view_failOne hW s2 _ _ _ _).trans h2
      · exact (view_parts s2 ..).trans h2

theorem view_failThose (l : List CollInst) (st : Nat) : view W (s.failThose l st) = view W s := by
  refine view_foldl _ (fun s i => ?_) l s
  split
  · exact view_failInst hW s _ _ _ _
  · rfl

theorem view_collSeam : view W s.collSeam = view W s := view_failThose hW s _ _

theorem view_stockSeam : view W s.stockSeam = view W s := by
  simp only [State.stockSeam, view_parts]
  exact view_foldl _ (fun s e => view_wr s _ (engineWords hW _).2.2.2.2.2.1) _ s

/-! ### Lists of gates -/

theorem view_takeList (k teff b cycle : Nat) (ents : List (Nat × Nat)) (rel : Bool) : view W (s.takeList k teff b cycle ents rel) = view W s := by
  simp only [State.takeList, view_fault, view_wrBit, view_wr, view_inc, view_raise, gateWords hW, gateFirstWords hW, not_false_eq_true,
    view_setPort, apply_ite (view W), ite_self]

theorem view_takeSectLists (mode base : Nat) : view W (s.takeSectLists mode base) = view W s := by
  refine view_foldl _ (fun s i => ?_) _ s
  dsimp only
  split
  · exact view_takeList hW s _ _ _ _ _ _
  · rfl

/-! ### Port states -/

theorem view_toPortState (k st : Nat) : view W (s.toPortState k st) = view W s := by
  simp only [State.toPortState, view_wr, linkWords hW, not_false_eq_true, view_setPort]

theorem view_tryAlign (k : Nat) : view W (s.tryAlign k) = view W s := by
  simp only [State.tryAlign, view_toPortState hW, apply_ite (view W), ite_self]

theorem view_trySignal (k : Nat) : view W (s.trySignal k) = view W s := by
  simp only [State.trySignal, view_tryAlign hW, view_toPortState hW, apply_ite (view W), ite_self]

end

/-! ### Benches -/

section
variable {W : Nat → Prop} (s : State)

theorem view_foldStart : view W s.foldStart = view W s := by
  refine view_foldl _ (fun s l => ?_) _ s
  dsimp only
  split
  · simp only [State.setRan, view_parts, view_setBench, apply_ite (view W), ite_self]
  · simp only [State.setRan, view_parts, view_setBench, apply_ite (view W), ite_self]
  · simp only [State.setRan, view_parts, view_setBench, apply_ite (view W), ite_self]
  · rfl

theorem view_epochBenches : view W s.epochBenches = view W s := by
  unfold State.epochBenches
  rw [view_foldStart]
  exact view_foldl _ (fun s l => view_setBench s l _) _ s

theorem view_swapBanks (l : Nat) : view W (s.swapBanks l) = view W s := view_setBench s l _

theorem view_seamSwap : view W s.seamSwap.2 = view W s := by
  refine view_foldl_snd _ (fun r l => ?_) _ _
  simp only [apply_ite Prod.snd, apply_ite (view W), view_setBench, view_swapBanks, ite_self]

end
end Sys2Proof.Proofs.Casting
end

section
/-! PROOFS. Ports that go down, and the packets held over an apply, leave the staging path (R346 to R350, R384, R398, R501 to R509). -/

open Sys2Proof Sys2Proof.Machine

namespace Sys2Proof.Proofs.Casting

section
variable {W : Nat → Prop} (hW : CastWords W) (s : State)
include hW

theorem CastWords.not_of_out {a : Nat} (h : a < 0xC0000 ∨ 0x100000 ≤ a) : ¬W a := fun ha => by
  have := hW a ha
  omega

theorem timeWords : ¬W TG_STATUS_PARENT_PORT.addr ∧ ¬W TG_STATUS_PARENT_DIR.addr ∧ ¬W TG_STATUS_SYNC.addr ∧ ¬W TG_STATUS_ROOT.addr ∧
    ¬W TG_STATUS_HOPS.addr ∧ ¬W TG_STATUS_PPS_OK.addr ∧ ¬W TG_OFFSET.addr ∧ ¬W TG_SLEW.addr := by
  refine ⟨?_, ?_, ?_, ?_, ?_, ?_, ?_, ?_⟩ <;> exact hW.not_of_out (by decide)

theorem replayWords : ¬W DET_STAT_FULL.addr ∧ ¬W DET_STAT_GAP.addr ∧ ¬W DET_STAT_DIVERGED.addr ∧ ¬W DET_LOST.addr ∧ ¬W DET_LPOS_LO.addr ∧
    ¬W DET_LPOS_LO.hi.addr ∧ ¬W DET_DIV_PORT.addr ∧ ¬W DET_DIV_VALID.addr ∧ ¬W DET_DIVSEAM_LO.addr ∧ ¬W DET_DIVSEAM_LO.hi.addr := by
  refine ⟨?_, ?_, ?_, ?_, ?_, ?_, ?_, ?_, ?_, ?_⟩ <;> exact hW.not_of_out (by decide)

/-! ### Ports that go down -/

theorem view_timePortLost (k : Nat) : view W (s.timePortLost k) = view W s := by
  unfold State.timePortLost
  split
  · rw [view_fault]
    split
    · simp only [State.setTimePort, view_wr, timeWords hW, not_false_eq_true]
    · simp only [view_wr, timeWords hW, not_false_eq_true]
  · rfl

theorem view_portDown (k cause : Nat) (hk : ¬W (TG_LDLY_VALID k).addr) : view W (s.portDown k cause) = view W s := by
  have hL := hW.low
  delta State.portDown
  extract_lets st s1 s2 s3 s4 s5 s6 s7 s8 s9 tg s10 s11 s12 s13
  have h1 : view W s1 = view W s := by simp only [s1, view_sendSym hL, apply_ite (view W), ite_self]
  have h2 : view W s2 = view W s1 := view_wrBit s1 _ hk
  have h6 : view W s6 = view W s2 := by
    simp only [s6, s5, s4, s3, view_inc, view_wrBit, view_wr, view_addSat, linkWords hL, linkSumWords hL, not_false_eq_true]
  have h10 : view W s10 = view W s6 := by
    simp only [s10, s9, s8, s7, view_parts, view_expireRecs hL, view_setPort, view_closePacket hL]
  have h11 : view W s11 = view W s10 := by
    simp only [s11, view_wrBit, view_addSat, poolWords hL, not_false_eq_true, view_setCells, view_dropCred hL, view_dropCopies hL,
      apply_ite (view W), ite_self]
  have h12 : view W s12 = view W s11 := view_timePortLost hW s11 k
  have h13 : view W s13 = view W s12 := by
    dsimp only [s13]
    split
    · simp only [view_faultConseq, view_fault, apply_ite (view W), ite_self]
    · rfl
  rw [view_trySignal hL, h13, h12, h11, h10, h6, h2, h1]

theorem view_identJudge (k : Nat) (hk : ¬W (TG_LDLY_VALID k).addr) : view W (s.identJudge k) = view W s := by
  unfold State.identJudge
  split
  · rfl
  · simp only [view_queueSym, view_setPort, apply_ite (view W), ite_self]
  · simp only [view_fault, view_portDown hW _ _ _ hk, apply_ite (view W), ite_self]

theorem view_cfgChanged (k : Nat) (hk : ¬W (TG_LDLY_VALID k).addr) : view W (s.cfgChanged k) = view W s := by
  simp only [State.cfgChanged, view_portDown hW _ _ _ hk, view_trySignal hW.low, view_wrBit, view_wr, linkWords hW.low, not_false_eq_true,
    apply_ite (view W), ite_self]

theorem view_applyPorts (before : List Word) : view W (s.applyPorts before) = view W s := by
  unfold State.applyPorts
  have inRange : ∀ k ∈ allPorts, ¬W (TG_LDLY_VALID k).addr := by
    intro k hk
    have lt : k < 256 := List.mem_range.1 hk
    exact hW.not_of_out (.inl (by simp only [TG_LDLY_VALID]; omega))
  generalize allPorts = ports at inRange
  induction ports generalizing s with
  | nil => rfl
  | cons k ports ih =>
    refine (ih _ (fun j hj => inRange j (List.mem_cons_of_mem _ hj))).trans ?_
    have hk := inRange k List.mem_cons_self
    simp only [view_cfgChanged hW _ _ hk, view_identJudge hW _ _ hk, view_queueIdent, apply_ite (view W), ite_self]

/-! ### Packets that the apply held -/

theorem view_rtFirst (cause k : Nat) : view W (s.rtFirst cause k) = view W s := by
  simp only [State.rtFirst, view_fault, view_wrBit, view_wr, routeWords hW.low, not_false_eq_true, apply_ite (view W), ite_self]

theorem view_rejPacket (cause k : Nat) : view W (s.rejPacket cause k) = view W s := by
  simp only [State.rejPacket, view_rtFirst hW, view_inc, routeWords hW.low, not_false_eq_true]

omit hW in
theorem view_credCell (k v owner q die : Nat) : view W (s.credCell k v owner q die).2 = view W s := by
  unfold State.credCell
  split
  · rename_i e
    exact view_allocCell s _ _ _ _ _ _ e
  · rfl

omit hW in
theorem view_logGap : view W s.logGap = view W s := by
  unfold State.logGap
  split
  · rfl
  · rw [view_hall, view_parts]

theorem view_recordFull : view W s.recordFull = view W s := by
  unfold State.recordFull
  rw [view_fault, view_raise _ (replayWords hW).1]
  exact (view_parts s.logGap ..).trans (view_logGap s)

theorem view_logWrite (tick : Nat) (head : List Byte) (port : Nat) (data : Option (List Byte)) (pdig : Nat) :
    view W (s.logWrite tick head port data pdig) = view W s := by
  delta State.logWrite
  extract_lets flag bs cap wrap
  split
  · rfl
  · split
    · exact view_recordFull hW s
    · split
      rename_i ok s1 written
      have h1 : view W s1 = view W s := by
        rw [show s1 = _ from (congrArg Prod.snd written).symm]
        exact view_memWrite hW.low s _ _ _
      extract_lets s2
      have h2 : view W s2 = view W s1 := view_logGap s1
      simp only [view_add64, replayWords hW, not_false_eq_true, view_parts, h2, h1]

theorem view_logLost (n : Nat) : view W (s.logLost n) = view W s := by
  simp only [State.logLost, view_fault, view_parts, view_raise, view_addSat, replayWords hW, not_false_eq_true, apply_ite (view W), ite_self]

theorem view_diverge (port : Nat) : view W (s.diverge port) = view W s := by
  simp only [State.diverge, view_wr64, view_wrBit, view_wr, view_fault, view_raise, replayWords hW, not_false_eq_true, view_parts,
    apply_ite (view W), ite_self]

theorem view_logVerify (port : Nat) (head data : List Byte) (flit : Bool) : view W (s.logVerify port head data flit) = view W s := by
  cases found : s.logFind port (s.logSize / 32) (((s.det.vpos.find? (fun e => e.1 == port)).map (·.2)).getD 0) with
  | none => simp only [State.logVerify, found, view_diverge hW, apply_ite (view W), ite_self]
  | some pos =>
    simp only [State.logVerify, found, view_diverge hW, view_add64, replayWords hW, not_false_eq_true, view_parts, apply_ite (view W), ite_self]

theorem view_accept (port : Nat) (sum head data : List Byte) (flit room : Bool) : view W (s.accept port sum head data flit room) = view W s := by
  delta State.accept
  extract_lets s1
  have h1 : view W s1 = view W s := by simp only [s1, State.addIn, view_parts, apply_ite (view W), ite_self]
  split
  · exact h1
  · split
    · simp only [view_logWrite hW, view_logLost hW, apply_ite (view W), ite_self, h1]
    · exact (view_logVerify hW s1 _ _ _ _).trans h1
    · exact h1

theorem view_acceptFlit (k : Nat) (f : Flit) (room : Bool) : view W (s.acceptFlit k f room) = view W s := view_accept hW s _ _ _ _ _ _
end
end Sys2Proof.Proofs.Casting
end

section
/-! PROOFS. The packets held over an apply, as they are switched at its end, leave the staging path (R339 to R342, R398, R405). -/

open Sys2Proof Sys2Proof.Machine

namespace Sys2Proof.Proofs.Casting

section
variable {W : Nat → Prop} (hW : CastWords W) (s : State)

/-! ### Streams that end here -/

theorem view_rxEntry (k : Nat) (lbl : Bool) (key vc room : Nat) (x : RxStream × State) (e : s.rxEntry k lbl key vc room = some x) :
    view W x.2 = view W s := by
  unfold State.rxEntry at e
  split at e
  · cases e
    rfl
  · split at e
    · cases e
    · cases e
      exact view_parts s ..

theorem view_sendAck (x : RxStream) (nak : Bool) : view W (s.sendAck x nak) = view W s := by
  unfold State.sendAck
  dsimp only
  split
  · rw [view_queueAck, view_setRx]
  · split
    · rw [view_queueAck, view_setRx]
    · exact view_setRx s _

theorem view_endTake (x : RxStream) : view W (s.endTake x) = view W s := by
  simp only [State.endTake, view_sendAck, view_setRx, apply_ite (view W), ite_self]

include hW

theorem view_gapAt (k : Nat) (x : RxStream) : view W (s.gapAt k x) = view W s := by
  simp only [State.gapAt, view_sendAck, view_inc, linkWords hW.low, not_false_eq_true, view_setRx, apply_ite (view W), ite_self]

theorem view_tmFirst (u cause : Nat) : view W (s.tmFirst u cause) = view W s := by
  simp only [State.tmFirst, view_wrBit, view_wr, touchFirstWords hW.low, not_false_eq_true, apply_ite (view W), ite_self]

theorem view_endFlit (k : Nat) (lbl : Bool) (key vc room : Nat) (f : Flit) (ordered : Bool)
    (act : List Nat → State → Option (List Nat) × State) (hact : ∀ l s, view W (act l s).2 = view W s) :
    view W (s.endFlit k lbl key vc room f ordered act) = view W s := by
  have acked : ∀ (u : State) (x : RxStream) (b : Bool), view W ((u.inc (LK_GAP k)).sendAck x b) = view W u := fun u x b => by
    simp only [view_sendAck, view_inc, linkWords hW.low, not_false_eq_true]
  unfold State.endFlit
  split
  · simp only [view_tmFirst hW, view_inc, touchWords hW.low, not_false_eq_true]
  · rename_i x s1 entry
    have h1 : view W s1 = view W s := view_rxEntry s _ _ _ _ _ _ entry
    dsimp only
    refine view_ite s ((acked _ _ _).trans h1) (view_ite s (view_ite s ?_ ?_) (view_ite s ?_ ?_))
    · split
      · rename_i acts
        rw [view_endTake, ← h1, ← hact _ s1, acts]
      · rename_i acts
        rw [view_gapAt hW, ← h1, ← hact _ s1, acts]
    · exact (view_setRx s1 _).trans h1
    · exact (view_gapAt hW s1 _ _).trans h1
    · exact (acked _ _ _).trans h1

theorem view_toService (k : Nat) (f : Flit) (src : Nat) (room ordered : Bool) : view W (s.toService k f src room ordered) = view W s := by
  have taken : ∀ s : State, view W ({ s.acceptFlit k f room with
      fab := { (s.acceptFlit k f room).fab with mgmtIn := (s.acceptFlit k f room).fab.mgmtIn ++ [(src, false, k, f)] } } : State) = view W s :=
    fun s => (view_parts (s.acceptFlit k f room) ..).trans (view_acceptFlit hW s k f room)
  unfold State.toService
  refine view_ite s (view_endFlit hW s _ _ _ _ _ _ _ _ fun _ s => taken s) (view_ite s (taken s) rfl)

/-! ### Flits that go on -/

theorem view_countDrop (k : Nat) (d : DropAs) : view W (s.countDrop k d) = view W s := by
  cases d <;>
    simp only [State.countDrop, view_rtFirst hW, view_inc, routeWords hW.low, poolWords hW.low, not_false_eq_true]

theorem view_dropFor (j : Nat) : view W (s.dropFor j) = view W s := by
  simp only [State.dropFor, view_inc, poolWords hW.low, not_false_eq_true, view_poolFail hW.low]

theorem view_forward (k j : Nat) (f : Flit) (o : OpenPkt) (room : Bool) : view W (s.forward k j f o room) = view W s := by
  unfold State.forward
  dsimp only
  split
  · split
    · simp only [view_inc, poolWords hW.low, not_false_eq_true]
    · simp only [view_enqueue hW.low, view_releaseCell hW.low, view_crossDie hW.low, view_setOpen, apply_ite (view W), ite_self]
  · simp only [view_enqueue hW.low, view_credCell, view_crossDie hW.low, view_acceptFlit hW, apply_ite (view W), ite_self]

omit hW in
theorem view_packetCells (k j q : Nat) (x : List (Nat × Nat) × State) (e : s.packetCells k j q = some x) : view W x.2 = view W s := by
  unfold State.packetCells at e
  dsimp only at e
  split at e
  · cases e
  · refine view_foldl_option _ (fun r a y he => ?_) _ _ _ _ e
    split at he
    · cases he
    · rename_i t
      split at he
      · rename_i alloc
        cases he
        exact ⟨_, rfl, view_allocCell t _ _ _ _ _ _ alloc⟩
      · cases he

/-! ### Packets without a label -/

/-- A packet whose egress is known goes on with its first flit (R402). -/
theorem view_openForward (k j : Nat) (f : Flit) (room : Bool) (o : OpenPkt → OpenPkt) :
    view W (match ((s.setOpen k o).port k).openRx with
      | some o' => (s.setOpen k o).forward k j f o' room
      | none => s.setOpen k o) = view W s := by
  split
  · rw [view_forward hW, view_setOpen]
  · exact view_setOpen s k o

theorem view_openPacket (k : Nat) (f : Flit) (room : Bool) : view W (s.openPacket k f room) = view W s := by
  delta State.openPacket
  extract_lets w src s1 dropped s2
  have h1 : view W s1 = view W s := view_setOpen s k _
  have hd : ∀ u d, view W (dropped u d) = view W u := fun u d => view_dropRest u k d
  refine view_ite s ?_ (view_ite s (view_ite s ?_ ?_) (view_ite s ?_ ?_))
  · have h2 : view W s2 = view W s1 := view_rejPacket hW s1 6 k
    simp only [hd, view_fault, view_note1, apply_ite (view W), ite_self, h2, h1]
  · exact (view_toService hW s1 _ _ _ _ _).trans h1
  · exact (hd _ _).trans ((view_rejPacket hW s1 8 k).trans h1)
  · exact (hd _ _).trans ((view_countDrop hW s1 k _).trans h1)
  · split
    · exact (view_toService hW s1 _ _ _ _ _).trans h1
    · exact (hd _ _).trans ((view_countDrop hW s1 k _).trans h1)
    · extract_lets vc aim go
      have hgo : ∀ u cs, view W (go u cs) = view W u := fun u cs => view_openForward hW u k _ f room _
      refine view_ite s ?_ ((hgo _ _).trans h1)
      split
      · exact (hd _ _).trans ((view_dropFor hW s1 _).trans h1)
      · rename_i cells
        exact (hgo _ _).trans ((view_packetCells s1 _ _ _ _ cells).trans h1)

theorem view_nextFlit (k : Nat) (f : Flit) (o : OpenPkt) (room ordered : Bool) : view W (s.nextFlit k f o room ordered) = view W s := by
  unfold State.nextFlit
  split
  · exact view_countDrop hW s k _
  · exact view_toService hW s _ _ _ _ _
  · refine view_ite s rfl (view_ite s ?_ (view_ite s ?_ (view_forward hW s _ _ _ _ _)))
    · simp only [view_inc, routeWords hW.low, not_false_eq_true]
    · split
      · rw [view_dropRest, view_dropFor hW]
      · rename_i cells
        exact (view_forward hW _ _ _ _ _ _).trans (view_packetCells s _ _ _ _ cells)

theorem view_rxPacket (k : Nat) (f : Flit) (first room : Bool) : view W (s.rxPacket k f first room) = view W s := by
  unfold State.rxPacket
  refine view_ite s ?_ (view_ite s ?_ (view_ite s (view_openPacket hW s k f room) ?_))
  · rw [view_dropRest, view_rejPacket hW]
  · exact (view_parts (s.credCell k f.vc k f.vc (dieOf k)).2 ..).trans (view_credCell s _ _ _ _ _)
  · split
    · exact view_nextFlit hW s _ _ _ _ _
    · rfl

/-- The packets that an apply held are switched (R398). -/
theorem view_switchHeld : view W s.switchHeld = view W s := by
  delta State.switchHeld
  extract_lets l fab s1
  refine (view_foldl _ (fun s k => ?_) _ _).trans (view_parts s ..)
  extract_lets now s2
  have h2 : view W s2 = view W s := by
    refine view_foldl _ (fun s e => ?_) _ s
    split
    extract_lets s3 n first p s4 s5 s6
    have h3 : view W s3 = view W s := view_releaseCell hW.low s _ _
    have h4 : view W s4 = view W s3 := by simp only [s4, view_setPort, apply_ite (view W), ite_self]
    have h5 : view W s5 = view W s4 := by simp only [s5, view_setOpen, view_rxPacket hW]
    have h6 : view W s6 = view W s5 := by simp only [s6, view_closePacket hW.low, apply_ite (view W), ite_self]
    simp only [view_freeCredit, apply_ite (view W), ite_self, h6, h5, h4, h3]
  simp only [view_setPort, apply_ite (view W), ite_self, h2]

end
end Sys2Proof.Proofs.Casting
end

section
/-! PROOFS. Quenches and power transitions change neither the clock nor the staging path (R251, R521, R592 to R602). -/

open Sys2Proof Sys2Proof.Machine

namespace Sys2Proof.Proofs.Casting

section
variable {W : Nat → Prop} (hW : ∀ a, ¬W a) (s : State)
include hW

theorem lowWords_of_none : LowWords W := (castWords_of_none hW).low

/-! ### Lanes -/

theorem view_laneSync (k : Nat) : view W (s.laneSync k) = view W s := view_wrBit s _ (hW _)

theorem view_laneFail (k : Nat) : view W (s.laneFail k) = view W s := by
  have failed : view W (s.laneFailed k) = view W s := by
    simp only [State.laneFailed, view_faultConseq, view_fault, view_wrBit, hW, not_false_eq_true, apply_ite (view W), ite_self]
  simp only [State.laneFail, State.laneDown, view_portDown (castWords_of_none hW), hW, not_false_eq_true, failed, apply_ite (view W), ite_self]

theorem view_sigFall (k : Nat) : view W (s.sigFall k) = view W s := by
  simp only [State.sigFall, view_laneFail hW, view_laneSync hW, view_setLane, view_wrBit, hW, not_false_eq_true, apply_ite (view W), ite_self]

/-! ### Power transitions -/

theorem view_domStops (d : Nat) : view W (s.domStops d) = view W s := by
  have ports : view W ((domPorts d).foldl (fun s k => if s.rd (LK_STAT_STATE k) = 0 then s else s.portDown k 3) s) = view W s := by
    refine view_foldl _ (fun s k => ?_) _ s
    simp only [view_portDown (castWords_of_none hW), hW, not_false_eq_true, apply_ite (view W), ite_self]
  unfold State.domStops
  refine view_ite s ?_ (view_ite s ?_ (view_ite s ?_ ports))
  · exact (view_foldl _ (fun s i => view_sigFall hW s _) _ _).trans ports
  · exact (view_foldl _ (fun s i => view_wrBit s _ (hW _)) _ _).trans ports
  · exact (view_foldl _ (fun s n => view_wrBit s _ (hW _)) _ _).trans ports

theorem view_startTrans (x : Trans) : view W (s.startTrans x) = view W s := by
  simp only [State.startTrans, view_domStops hW, view_wr, hW, not_false_eq_true, view_parts, apply_ite (view W), ite_self]

theorem view_startUps (n : Nat) : view W (s.startUps n) = view W s := by
  induction n generalizing s with
  | zero => rfl
  | succ n ih =>
    unfold State.startUps
    split
    · rfl
    · exact view_ite s ((ih _).trans (view_startTrans hW s _)) rfl

theorem view_startTransitions : view W s.startTransitions = view W s := by
  unfold State.startTransitions
  rw [view_startUps hW]
  refine view_foldl _ (fun s x => ?_) _ s
  exact view_ite s (view_startTrans hW s x) rfl

theorem view_askTrans (d target cause : Nat) : view W (s.askTrans d target cause) = view W s := by
  simp only [State.askTrans, view_parts, view_wr, hW, not_false_eq_true]

theorem view_nodeTrans (d target cause : Nat) : view W (s.nodeTrans d target cause) = view W s := by
  have asked := (view_startTransitions hW (s.askTrans d target cause)).trans (view_askTrans hW s d target cause)
  unfold State.nodeTrans
  split <;> exact view_ite s rfl asked

/-! ### Quenches -/

theorem view_noList (k : Nat) : view W (s.noList k) = view W s := by
  simp only [State.noList, view_wr, view_wrBit, hW, not_false_eq_true, view_setPort]

theorem view_stopLists : view W s.stopLists = view W s := by
  refine view_foldl _ (fun s k => ?_) _ s
  exact view_ite s (view_noList hW s k) rfl

theorem view_updateStop (t seam st : Nat) (bad : List (Nat × Nat)) : view W (s.updateStop t seam st bad) = view W s := by
  simp only [State.updateStop, view_splitFail (lowWords_of_none hW), view_wr, view_wrBit, hW, not_false_eq_true, view_parts, apply_ite (view W),
    ite_self]

theorem view_stockQuench : view W s.stockQuench = view W s := by
  refine view_foldl _ (fun s u => ?_) _ s
  exact view_ite s rfl (view_updateStop hW s _ _ _ _)

theorem view_temperQuench : view W s.temperQuench = view W s := by
  unfold State.temperQuench
  refine view_foldl _ (fun s x => ?_) _ s
  exact view_temperStop (lowWords_of_none hW) s _ _

theorem view_collQuench : view W s.collQuench = view W s := view_failThose (lowWords_of_none hW) s _ _

omit hW in
theorem view_quenchBenches : view W s.quenchBenches = view W s := by
  refine view_foldl _ (fun s l => ?_) _ s
  exact view_ite s rfl (view_setBench s l _)

theorem view_quenchJob (cls : FClass) (code : Nat) : view W (s.quenchJob cls code) = view W s := by
  simp only [State.quenchJob, view_msix, view_parts, view_stopLists hW, view_stockQuench hW, view_temperQuench hW, view_collQuench hW,
    view_quenchBenches, view_wr64, view_wrBit, hW, not_false_eq_true, apply_ite (view W), ite_self]

/-! ### Halls -/

theorem view_hallQuench (h : Nat) (sw : Bool) : view W (s.hallQuench h sw) = view W s := by
  simp only [State.hallQuench, view_quenchJob hW, view_fault, apply_ite (view W), ite_self]

theorem view_mapChanged (old cause : Nat) : view W (s.mapChanged old cause) = view W s := by
  simp only [State.mapChanged, view_wrBit, hW, not_false_eq_true, view_hall, apply_ite (view W), ite_self]

theorem view_disableHalls (mask mapCause cause : Nat) (sw : Bool) : view W (s.disableHalls mask mapCause cause sw) = view W s := by
  unfold State.disableHalls
  dsimp only
  rw [view_foldl _ (fun s h => view_nodeTrans hW s h pwOff cause), view_mapChanged hW, view_setWord _ _ (hW _),
    view_foldl _ (fun s h => view_hallQuench hW s h sw)]

theorem view_writeRefused (c : Nat) (m : Master) : view W (s.writeRefused c m) = view W s := by
  simp only [State.writeRefused, view_swNote, view_wr, view_raise, hW, not_false_eq_true]

theorem view_ruleRefused (m : Master) : view W (s.ruleRefused m) = view W s := by
  simp only [State.ruleRefused, view_swNote, view_raise, hW, not_false_eq_true]

theorem view_hallDisWrite (m : Master) (v : Nat) : view W (s.hallDisWrite m v) = view W s := by
  delta State.hallDisWrite
  extract_lets s1 dis clear
  have h1 : view W s1 = view W s := view_disableHalls hW s _ _ _ _
  refine view_ite s h1 ?_
  split
  · exact (view_writeRefused hW s1 _ _).trans h1
  · exact ((view_mapChanged hW _ _ _).trans (view_setWord s1 _ (hW _))).trans h1

theorem view_powerReq (m : Master) (d q : Nat) : view W (s.powerReq m d q) = view W s := by
  unfold State.powerReq
  split
  · simp only [view_ruleRefused hW, view_raise, view_wr, hW, not_false_eq_true]
  · simp only [view_startTransitions hW, view_askTrans hW, view_wr, hW, not_false_eq_true, apply_ite (view W), ite_self]

end
end Sys2Proof.Proofs.Casting
end

section
/-! PROOFS. The fields that a Casting sets, and the steps of its apply, change neither the clock nor the staging path, but for the image that
comes into force (R46, R65). -/

open Sys2Proof Sys2Proof.Machine

namespace Sys2Proof.Proofs.Casting

section
variable {W : Nat → Prop} (hW : ∀ a, ¬W a) (s : State)
include hW

/-! ### Fields that act -/

theorem view_bcFails (code : Nat) : view W (s.bcFails code) = view W s := by
  simp only [State.bcFails, view_wr, view_raise, hW, not_false_eq_true]

omit hW in
theorem view_denyEnd : view W s.denyEnd = view W s := by
  delta State.denyEnd
  extract_lets overT done sec s1
  exact (view_foldl _ (fun s w => view_hall s _ _ _) _ _).trans (view_parts s ..)

theorem view_deny (m : GMaster) (acc : GAcc) (a n : Nat) : view W (s.deny m acc a n) = view W s := by
  delta State.deny
  extract_lets t s1 b1 b2 b3 b4 s2 same sec w s3
  have h1 : view W s1 = view W s := (view_inc _ (hW _)).trans (view_denyEnd s)
  have h2 : view W s2 = view W s1 := by
    simp only [s2, b4, b3, b2, b1, view_wrBit, view_wr, hW, not_false_eq_true, apply_ite (view W), ite_self]
  have h3 : view W s3 = view W s2 := view_hall s2 _ _ _
  exact view_ite s ((view_parts s2 ..).trans (h2.trans h1)) ((view_parts s3 ..).trans (h3.trans (h2.trans h1)))

theorem view_bcWrite (v : Nat) : view W (s.bcWrite v) = view W s := by
  delta State.bcWrite
  extract_lets a s1
  have h1 : view W s1 = view W s := by
    refine view_ite s ?_ ?_
    · split
      · rename_i u written
        rw [show u = _ from (congrArg Prod.snd written).symm]
        exact view_memWrite (lowWords_of_none hW) s _ _ _
      · rename_i u written
        rw [view_bcFails hW, view_fault, show u = _ from (congrArg Prod.snd written).symm]
        exact view_memWrite (lowWords_of_none hW) s _ _ _
    · simp only [State.bcDeny, State.hostDeny, view_bcFails hW, view_fault, view_deny hW]
  simp only [State.bcAdvance, view_add64, hW, not_false_eq_true, h1]

theorem view_burnishCtrl (v : Nat) : view W (s.burnishCtrl v) = view W s := by
  simp only [State.burnishCtrl, view_hall, view_setWord, hW, not_false_eq_true, apply_ite (view W), ite_self]

theorem view_tmEnable (u : Nat) (v : Bool) : view W (s.tmEnable u v) = view W s := by
  simp only [State.tmEnable, State.hallGuard, State.setTmList, view_hall, view_parts, view_wrBit, hW, not_false_eq_true, apply_ite (view W),
    ite_self]

theorem view_txDis (n mask : Nat) : view W (s.txDis n mask) = view W s := by
  refine (view_foldl _ (fun s j => ?_) _ _).trans (view_wr s _ (hW _))
  refine view_ite s ?_ rfl
  rw [view_fault, view_portDown (castWords_of_none hW) _ _ _ (hW _)]

theorem view_patRefused (m : Master) (k : Nat) : view W (s.patRefused m k) = view W s := by
  simp only [State.patRefused, view_swNote, view_raise, hW, not_false_eq_true]

theorem view_tryUp (k : Nat) : view W (s.tryUp k) = view W s := by
  delta State.tryUp
  extract_lets p quiet s1 s2 q m
  have h1 : view W s1 = view W s := (view_wrBit _ _ (hW _)).trans (view_toPortState (lowWords_of_none hW) s k 5)
  have h2 : view W s2 = view W s1 := by
    refine view_foldl _ (fun s n => ?_) _ s1
    simp only [view_wr, hW, not_false_eq_true, view_setLane]
  refine view_ite s ?_ rfl
  simp only [view_queueCredit, h2, h1]

theorem view_clearChecker (k : Nat) : view W (s.clearChecker k) = view W s := by
  simp only [State.clearChecker, view_wr64, view_wr, hW, not_false_eq_true]

theorem view_patternWrite (m : Master) (k tx rx : Nat) : view W (s.patternWrite m k tx rx) = view W s := by
  simp only [State.patternWrite, view_tryUp hW, view_clearChecker hW, view_patRefused hW, view_wrBit, view_wr, hW, not_false_eq_true,
    view_setLane, apply_ite (view W), ite_self]

omit hW in
theorem view_cmd (d : Option Nat) (f : State → State) (h : view W (f s) = view W s) : view W (s.cmd d f) = view W s := view_ite s h rfl

theorem view_slip (m : Master) (k : Nat) : view W (s.slip m k) = view W s := by
  simp only [State.slip, view_patRefused hW, view_wrBit, view_wr, hW, not_false_eq_true, view_setLane, apply_ite (view W), ite_self]

theorem view_sweepWrite (m : Master) (k : Nat) : view W (s.sweepWrite m k) = view W s := by
  simp only [State.sweepWrite, State.startSweep, view_patRefused hW, view_laneSync hW, view_setLane, apply_ite (view W), ite_self]

theorem view_laneCtrl (p : Master) (k v : Nat) : view W (s.laneCtrl p k v) = view W s := by
  delta State.laneCtrl
  extract_lets s1 d s2 s3
  have h1 : view W s1 = view W s := (view_wrBit _ _ (hW _)).trans (view_patternWrite hW s _ _ _ _)
  have h2 : view W s2 = view W s := view_ite s ((view_cmd s1 _ _ (view_slip hW s1 _ _)).trans h1) h1
  have h3 : view W s3 = view W s := view_ite s ((view_cmd s2 _ _ (view_sweepWrite hW s2 _ _)).trans h2) h2
  exact view_ite s (view_patRefused hW s _ _) (view_ite s ((view_cmd s3 _ _ (view_clearChecker hW s3 _)).trans h3) h3)

theorem view_peakCode (k code : Nat) : view W (s.peakCode k code) = view W s := by
  simp only [State.peakCode, view_laneSync hW, view_wr, hW, not_false_eq_true, view_setLane]

theorem view_takeDown (k cause : Nat) : view W (s.takeDown k cause) = view W s :=
  view_ite s rfl (view_portDown (castWords_of_none hW) s k cause (hW _))

theorem view_linkCtrl (p : Master) (k v : Nat) : view W (s.linkCtrl p k v) = view W s := by
  have hL := lowWords_of_none hW
  delta State.linkCtrl
  extract_lets s1 d s2
  have h1 : view W s1 = view W s := by
    simp only [s1, State.admin, view_trySignal hL, view_takeDown hW, view_ruleRefused hW, view_wrBit, hW, not_false_eq_true,
      apply_ite (view W), ite_self]
  have h2 : view W s2 = view W s :=
    view_ite s ((view_cmd s1 _ _ (view_ite s1 (view_toPortState hL s1 _ _) rfl)).trans h1) h1
  have retrained : view W (s2.retrain k) = view W s2 := (view_trySignal hL _ _).trans (view_takeDown hW s2 _ _)
  exact view_ite s ((view_cmd s2 _ _ retrained).trans h2) h2

theorem view_ownWrite (m : Master) (a v : Nat) : view W (s.ownWrite m a v) = view W s := by
  unfold State.ownWrite
  refine view_ite s (view_bcWrite hW s v) (view_ite s (view_hallDisWrite hW s m v) (view_ite s (view_burnishCtrl hW s v) ?_))
  split
  · exact view_powerReq hW s m _ _
  · exact view_tmEnable hW s _ _
  · exact view_txDis hW s _ _
  · split
    · exact view_laneCtrl hW s m _ v
    · exact view_peakCode hW s _ _
    · exact view_linkCtrl hW s m _ v
    · rfl

end
end Sys2Proof.Proofs.Casting
end

section
/-! PROOFS. The steps of an apply leave the clock, and the staged image as the Casting in force (R46, R65). -/

open Sys2Proof Sys2Proof.Machine

namespace Sys2Proof.Proofs.Casting

section
variable {W : Nat → Prop} (hW : ∀ a, ¬W a) (s : State)

/-! ### FLDS -/

theorem view_movedCells (old : List Nat) : view W (s.movedCells old) = view W s := by
  refine view_foldl _ (fun s d => ?_) _ s
  exact view_ite s ((view_parts (s.undefine _ _ _) ..).trans (view_undefine s _ _ _)) rfl

include hW

theorem view_detPause (m : Master) (n : Nat) : view W (s.detPause m n) = view W s := by
  simp only [State.detPause, view_writeRefused hW, view_wr64, hW, not_false_eq_true, apply_ite (view W), ite_self]

theorem view_fieldEffects (old : State) (a : Nat) : view W (s.fieldEffects old a) = view W s := by
  simp only [State.fieldEffects, view_movedCells, view_ppsGate, view_wr, hW, not_false_eq_true, apply_ite (view W), ite_self]

theorem view_setFields (a v m : Nat) : view W (s.setFields a v m) = view W s := by
  simp only [State.setFields, view_fieldEffects hW, view_detPause hW, view_ownWrite hW, State.putBits, view_setWord, hW, not_false_eq_true,
    apply_ite (view W), ite_self]

theorem view_applyFlds (n : Nat) : view W (s.applyFlds n) = view W s := by
  refine view_foldl _ (fun s i => ?_) _ s
  exact view_ite s (view_setFields hW s _ _ _) rfl

/-! ### The steps -/

theorem view_flushDown : view W s.flushDown.2 = view W s := by
  have hL := lowWords_of_none hW
  unfold State.flushDown
  refine view_foldl_snd _ (fun r k => ?_) _ _
  simp only [view_dropCred hL, view_dropCopies hL]

omit hW in
theorem view_dropJobData : view W s.dropJobData = view W s := by
  delta State.dropJobData
  extract_lets keepHold s1 txs fab s2
  have h2 : view W s2 = view W s := (view_parts s1 ..).trans (view_setCells s _)
  exact (view_foldl _ (fun s k => view_setPort s k _) _ _).trans h2

theorem view_applyStep1 : view W s.applyStep1 = view W s := by
  have cleared : view W ((s.resetWhere applyResets).resetOrder) = view W s :=
    (view_parts (s.resetWhere applyResets) ..).trans (view_foldl _ (fun s e => view_setWord s _ (hW _)) _ s)
  simp only [State.applyStep1, view_parts, view_wrBit, view_wr, hW, not_false_eq_true, cleared]

theorem view_applyPort : view W s.applyPort = view W s := by
  refine view_foldl _ (fun s k => ?_) _ s
  simp only [view_wr, hW, not_false_eq_true]

theorem view_applyPool : view W s.applyPool = view W s := by
  unfold State.applyPool
  split
  · rfl
  · refine (view_foldl _ (fun s k => view_wr s _ (hW _)) _ _).trans ?_
    refine (view_foldl _ (fun s i => ?_) _ _).trans ?_
    · simp only [view_wr, hW, not_false_eq_true]
    refine (view_foldl _ (fun s d => ?_) _ _).trans ?_
    · simp only [view_wr, hW, not_false_eq_true]
    simp only [view_wr, hW, not_false_eq_true]

theorem view_applyMand : view W s.applyMand = view W s := by
  unfold State.applyMand
  dsimp only
  split <;> simp only [view_wr, hW, not_false_eq_true]

theorem view_cacheAdmit (t r : Nat) (pinned : Bool) : view W (s.cacheAdmit t r pinned) = view W s := by
  have failed : ∀ d, view W (s.poolFail d) = view W s := fun d => view_inc s (hW _)
  delta State.cacheAdmit
  extract_lets img d
  split
  · exact failed d
  · extract_lets got
    cases admitted : got with
    | none => exact failed d
    | some x =>
      obtain ⟨cs, u⟩ := x
      refine (view_parts u ..).trans ?_
      refine view_foldl_option _ (fun x p y he => ?_) _ _ _ _ admitted
      split at he
      · cases he
      · rename_i u
        obtain ⟨c, alloc, hy⟩ := Option.map_eq_some_iff.1 he
        exact ⟨_, rfl, hy ▸ view_allocCell u _ _ _ _ _ _ alloc⟩

theorem view_cachePins : view W s.cachePins = view W s := by
  refine view_foldl _ (fun s t => ?_) _ s
  exact view_ite s rfl (view_foldl _ (fun s r => view_cacheAdmit hW s t r true) _ s)

theorem view_applyStck : view W s.applyStck = view W s := by
  unfold State.applyStck
  split
  · rfl
  · refine (view_cachePins hW _).trans ((view_foldl _ (fun s t => view_wr64 s _ (hW _) (hW _)) _ _).trans ?_)
    simp only [view_wr, view_setWord, hW, not_false_eq_true]

theorem view_applyGateRec (g : List Byte) (o : Nat) : view W (s.applyGateRec g o) = view W s := by
  refine (view_foldl _ (fun s e => ?_) _ _).trans ?_
  · simp only [view_wr, hW, not_false_eq_true]
  simp only [view_wr64, view_wr, hW, not_false_eq_true]
  refine (view_foldl _ (fun s q => ?_) _ _).trans ?_
  · simp only [view_setWord, hW, not_false_eq_true]
  simp only [view_wr, view_setWord, hW, not_false_eq_true]

theorem view_applyGate : view W s.applyGate = view W s := by
  unfold State.applyGate
  split
  · rfl
  · exact (view_foldl _ (fun s i => view_applyGateRec hW s _ _) _ _).trans (view_wr s _ (hW _))

theorem view_applyNump : view W s.applyNump = view W s := by
  delta State.applyNump
  extract_lets n s1 s2 s3 s4
  have h1 : view W s1 = view W s := view_setWord s _ (hW _)
  have h3 : view W s3 = view W s1 := by simp only [s3, s2, view_setWord, view_wr64, hW, not_false_eq_true]
  have h4 : view W s4 = view W s3 := view_foldl _ (fun s st => view_wr64 s _ (hW _) (hW _)) _ s3
  refine view_ite s h1 ((view_foldl _ (fun s l => ?_) _ _).trans (h4.trans (h3.trans h1)))
  simp only [view_wr, hW, not_false_eq_true]

theorem view_applyKern : view W s.applyKern = view W s := by
  delta State.applyKern
  extract_lets k s1 n new p old bench mk s2
  have h1 : view W s1 = view W s := view_memWrite (lowWords_of_none hW) s _ _ _
  have h2 : view W s2 = view W s1 := (view_foldl _ (fun s l => view_setBench s l _) _ _).trans (view_parts s1 ..)
  exact (view_parts s2 ..).trans (h2.trans h1)

theorem view_applySeam : view W s.applySeam = view W s := by
  simp only [State.applySeam, State.schedule, view_wr64, hW, not_false_eq_true, view_parts, apply_ite (view W), ite_self]

theorem view_applySteps : view W s.applySteps = view W (withCst s { s.cst with img := s.cst.staged }) := by
  have hf := view_eq_iff.1 (view_flushDown hW s)
  simp only [State.applySteps, view_applySeam hW, view_applyKern hW, view_applyFlds hW, view_applyNump hW, view_applyGate hW, view_applyStck hW,
    view_applyMand hW, view_movedCells, view_applyPool hW, view_applyPort hW, view_addSat, hW, not_false_eq_true, view_applyStep1 hW,
    view_dropJobData]
  refine view_eq_iff.2 ⟨hf.1, ?_, fun a ha => absurd ha (hW a)⟩
  simp only [hf.2.1, withCst_cst]

end

/-- What the steps leave of the clock and of the staging path (R65). -/
theorem applySteps_spec (s : State) : s.applySteps.now = s.now ∧ s.applySteps.cst = { s.cst with img := s.cst.staged } := by
  obtain ⟨hn, hc, -⟩ := view_eq_iff.1 (view_applySteps (W := fun _ => False) (fun _ h => h) s)
  exact ⟨hn, hc⟩

end Sys2Proof.Proofs.Casting
end

section
/-! PROOFS. The staged Casting comes into force (R56, R65), and APPLY_COMPLETE. -/

open Sys2Proof Sys2Proof.Machine

namespace Sys2Proof.Proofs.Casting

/-! ### Digests -/

theorem ofLeBytes_lt (bs : List Byte) : ofLeBytes bs < 256 ^ bs.length := by
  induction bs with
  | nil => exact Nat.one_pos
  | cons b bs ih =>
    have hb := b.isLt
    simp only [ofLeBytes, List.length_cons, pow_succ]
    omega

theorem leAt_lt (bs : List Byte) (off n : Nat) : leAt bs off n < 256 ^ n := by
  have h := ofLeBytes_lt (slice bs off n)
  rwa [slice_length] at h

section
variable {w : Nat}

theorem shaRound_length (sh : ShaShape) (k m : BitVec w) (v : List (BitVec w)) (h : v.length = 8) : (shaRound sh k m v).length = 8 := by
  simp [shaRound, h]

theorem shaRounds_length (sh : ShaShape) (ks win v : List (BitVec w)) (h : v.length = 8) : (shaRounds sh ks win v).length = 8 := by
  induction ks generalizing win v with
  | nil => exact h
  | cons k ks ih => exact ih _ _ (shaRound_length sh k _ v h)

theorem shaBlocks_length (sh : ShaShape) (ks : List (BitVec w)) (n : Nat) (bs : List Byte) (v : List (BitVec w)) (h : v.length = 8) :
    (shaBlocks sh ks n bs v).length = 8 := by
  induction n generalizing bs v with
  | zero => exact h
  | succ n ih => exact ih _ _ (by rw [List.length_zipWith, shaRounds_length sh ks _ v h, h, Nat.min_self])

theorem words_bytes_length (v : List (BitVec w)) : (v.flatMap (fun x => beBytes 8 x.toNat)).length = 8 * v.length := by
  induction v with
  | nil => rfl
  | cons x v ih => rw [List.flatMap_cons, List.length_append, ih, beBytes_length, List.length_cons]; omega

end

theorem sha384Init_length : sha384Init.length = 8 := rfl

theorem sha384_length (bs : List Byte) : (sha384 bs).length = 48 := by
  unfold sha384
  rw [List.length_take, words_bytes_length, shaBlocks_length _ _ _ _ _ sha384Init_length]
  rfl

theorem imgDigest_length (img : List Byte) : (imgDigest img).length = 48 := sha384_length _

/-! ### The Casting in force -/

/-- What the registers show of a Casting once its apply is done (R56, R65). -/
def ShowsCasting (img : List Byte) (u : State) : Prop :=
  u.nodeState = stCast ∧ u.phase? = phIdle ∧ u.bound = false ∧ (∀ i < 12, u.rd (CST_DIGEST i) = leAt (imgDigest img) (4 * i) 4) ∧
    u.rd CST_STATE_CONTRACT = imgContract img % 2 ^ 16 ∧ u.rd CST_STATE_SCALE = imgScale img % 2 ∧ u.bit CST_STATE_MAPINV = imgMapInv img

/-- The fields of CST_STATE and the digest that an apply sets last, before the counts (R65). -/
def castShown (s : State) (img : List Byte) : State :=
  (((s.wrBytes CST_DIGEST (imgDigest img)).wr CST_STATE_SCALE (imgScale img)).wrBit CST_STATE_MAPINV (imgMapInv img)).wr CST_STATE_CONTRACT
    (imgContract img)

section
variable (s : State) (img : List Byte)

theorem words_castShown : WordsOnly (CST_STATE_STATE.addr :: wordsFrom CST_DIGEST 12) s (castShown s img) := by
  have digest := words_wrBytes s CST_DIGEST (imgDigest img)
  rw [imgDigest_length] at digest
  have fields : WordsOnly [CST_STATE_STATE.addr] (s.wrBytes CST_DIGEST (imgDigest img)) (castShown s img) :=
    ((State.words_wr _ CST_STATE_SCALE _).trans (State.words_wrBit _ CST_STATE_MAPINV _)).trans (State.words_wr _ CST_STATE_CONTRACT _)
  exact (digest.mono (by simp)).trans (fields.mono (by simp))

theorem only_castShown : Only [.regs] s (castShown s img) :=
  (((only_wrBytes s _ _).trans (State.only_wr _ _ _)).trans (State.only_wrBit _ _ _)).trans (State.only_wr _ _ _)

theorem digest_castShown (i : Nat) (hi : i < 12) : (castShown s img).rd (CST_DIGEST i) = leAt (imgDigest img) (4 * i) 4 := by
  have apart : ∀ f ∈ [CST_STATE_SCALE, CST_STATE_MAPINV, CST_STATE_CONTRACT], f.addr ≠ (CST_DIGEST i).addr := by
    simp only [List.mem_cons, List.not_mem_nil, or_false, forall_eq_or_imp, forall_eq, CST_STATE_SCALE, CST_STATE_MAPINV, CST_STATE_CONTRACT,
      CST_DIGEST]
    omega
  unfold castShown
  rw [State.rd_wr_ne _ _ _ _ (.inl (apart _ (by simp))), State.rd_wrBit_ne _ _ _ _ (.inl (apart _ (by simp))),
    State.rd_wr_ne _ _ _ _ (.inl (apart _ (by simp))),
    rd_wrBytes _ _ _ (by simp [CST_DIGEST]) (fun _ => rfl) (fun _ => rfl) _ (by rw [imgDigest_length]; exact hi)]
  exact Nat.mod_eq_of_lt (leAt_lt _ _ 4)

theorem contract_castShown : (castShown s img).rd CST_STATE_CONTRACT = imgContract img % 2 ^ 16 := State.rd_wr_same _ _ _ (by decide)

theorem mapInv_castShown : (castShown s img).bit CST_STATE_MAPINV = imgMapInv img := by
  unfold castShown
  rw [bit_of_rd (State.rd_wr_ne _ _ _ _ (.inr (by decide))), State.bit_wrBit _ _ _ rfl (by decide)]

theorem scale_castShown : (castShown s img).rd CST_STATE_SCALE = imgScale img % 2 := by
  unfold castShown
  rw [State.rd_wr_ne _ _ _ _ (.inr (by decide)), State.rd_wrBit_ne _ _ _ _ (.inr (by decide)), State.rd_wr_same _ _ _ (by decide)]
  rfl

/-- The end of an apply: the fields are shown, the apply counts, nothing is staged and the node is CAST (R65). -/
def castDone : State := ((castShown s img).inc CST_CASTS).dropStaged.toNodeState stCast 0

/-- What an apply's last steps leave of the fields shown before them. -/
theorem rd_castDone (f : Fld) (hd : f.addr ∉ wordsFrom CST_STAGED_DIGEST 12) (hc : CST_CASTS.addr ≠ f.addr)
    (hs : f.addr ∉ [CST_SINCE_LO.addr, CST_SINCE_HI.addr])
    (ha : ∀ g ∈ [CST_STATE_STATE, CST_STATE_COMMIT, CST_STATE_PHASE], g.addr ≠ f.addr ∨ g.apart f) :
    (castDone s img).rd f = (castShown s img).rd f := by
  simp only [List.mem_cons, List.not_mem_nil, or_false, not_or, forall_eq_or_imp, forall_eq] at hs ha
  obtain ⟨hstate, hcommit, hphase⟩ := ha
  unfold castDone
  rw [rd_toNodeState_ne _ _ _ _ hstate (Ne.symm hs.1) (Ne.symm hs.2), rd_dropStaged_ne _ _ hd hcommit hphase]
  exact rd_addSat_ne _ _ _ _ (.inl hc)

theorem casts_castDone : (castDone s img).rd CST_CASTS = min (s.rd CST_CASTS + 1) (2 ^ 32 - 1) := by
  unfold castDone
  rw [rd_toNodeState_ne _ _ _ _ (.inl (by decide)) (by decide) (by decide),
    rd_dropStaged_ne _ _ (by decide) (.inl (by decide)) (.inl (by decide))]
  refine (State.rd_addSat _ CST_CASTS 1 (by decide)).trans ?_
  rw [rd_of_words (words_castShown s img) (by decide)]
  rfl

theorem only_inc (f : Fld) : Only [.regs] s (s.inc f) := s.only_addSat f 1

theorem only_castDone : Only [.regs, .outs, .cst, .sec] s (castDone s img) := by
  have shown := ((only_castShown s img).trans (only_inc _ CST_CASTS)).mono (m := [.regs, .outs, .cst, .sec]) (by simp)
  unfold castDone
  exact (shown.trans ((only_dropStaged _).mono (by simp))).trans ((only_toNodeState _ _ _).mono (by simp))

theorem cst_castDone : (castDone s img).cst = unstaged s.cst := by
  have shown : ((castShown s img).inc CST_CASTS).cst = s.cst := ((only_castShown s img).trans (only_inc _ CST_CASTS)) .cst (by decide)
  unfold castDone
  rw [State.toNodeState_cst, dropStaged_cst, shown]

theorem now_castDone : (castDone s img).now = s.now := (only_castDone s img .clock (by decide)).1

theorem since_castDone : (castDone s img).rd64 CST_SINCE_LO = s.now % 2 ^ 64 := by
  have before : ((castShown s img).inc CST_CASTS).dropStaged.now = s.now := by
    rw [← now_castDone s img, castDone, State.toNodeState_now]
  unfold castDone
  rw [since_toNodeState, before]

theorem castDone_shows : ShowsCasting img (castDone s img) := by
  have digestApart : ∀ i < 12, (CST_DIGEST i).addr ∉ wordsFrom CST_STAGED_DIGEST 12 ∧ CST_CASTS.addr ≠ (CST_DIGEST i).addr ∧
      (CST_DIGEST i).addr ∉ [CST_SINCE_LO.addr, CST_SINCE_HI.addr] ∧
      ∀ g ∈ [CST_STATE_STATE, CST_STATE_COMMIT, CST_STATE_PHASE], g.addr ≠ (CST_DIGEST i).addr := by decide
  refine ⟨?_, ?_, ?_, fun i hi => ?_, ?_, ?_, ?_⟩
  · rw [castDone, nodeState_toNodeState _ _ _ (by decide)]
  · rw [castDone, State.phase?, rd_toNodeState_ne _ _ _ _ (.inr (by decide)) (by decide) (by decide)]
    exact phase_dropStaged _
  · rw [castDone, State.bound, bit_of_rd (rd_toNodeState_ne _ _ _ _ (.inr (by decide)) (by decide) (by decide))]
    exact bound_dropStaged _
  · obtain ⟨hd, hc, hs, ha⟩ := digestApart i hi
    rw [rd_castDone s img _ hd hc hs fun g hg => .inl (ha g hg), digest_castShown s img i hi]
  · rw [rd_castDone s img _ (by decide) (by decide) (by decide) (by decide), contract_castShown]
  · rw [rd_castDone s img _ (by decide) (by decide) (by decide) (by decide), scale_castShown]
  · rw [bit_of_rd (rd_castDone s img _ (by decide) (by decide) (by decide) (by decide)), mapInv_castShown]

end

/-! ### The apply -/

theorem view_applyGuards {W : Nat → Prop} (s : State) (assay watch : Nat) : view W (s.applyGuards assay watch) = view W s := by
  simp only [State.applyGuards, view_hallAfter, apply_ite (view W), ite_self]

/-- The hallmarks of a Casting that comes into force: its own, and those of the guard values that it sets (R56, R276). -/
def castMarked (s : State) (assay watch : Nat) : State :=
  (s.hall 3 (imgDigest s.cst.img ++ leBytes 8 (imgSeq s.cst.img) ++ leBytes 8 (imgJob s.cst.img) ++
    [BitVec.ofNat 8 (imgKeySlot s.cst.img), 0, 0, 0])).applyGuards assay watch

theorem view_castMarked {W : Nat → Prop} (s : State) (assay watch : Nat) : view W (castMarked s assay watch) = view W s :=
  (view_applyGuards _ _ _).trans (view_hall s _ _ _)

theorem castInForce_eq (s : State) (assay watch : Nat) : s.castInForce assay watch = castDone (castMarked s assay watch) s.cst.img := rfl

theorem unstaged_img (c : CstState) : (unstaged c).img = c.img := rfl

theorem unstaged_staged (c : CstState) : (unstaged c).staged = [] := rfl

/-- What putting a Casting in force leaves (R56, R65). -/
theorem castInForce_spec (s : State) (assay watch : Nat) :
    let u := s.castInForce assay watch
    ShowsCasting s.cst.img u ∧ u.cst = unstaged s.cst ∧ u.now = s.now ∧ u.rd64 CST_SINCE_LO = s.now % 2 ^ 64 ∧
      u.rd CST_CASTS = min (s.rd CST_CASTS + 1) (2 ^ 32 - 1) := by
  obtain ⟨hn, hc, hw⟩ := view_eq_iff.1 (view_castMarked (W := fun _ => True) s assay watch)
  have counted : (castMarked s assay watch).rd CST_CASTS = s.rd CST_CASTS := by rw [State.rd, hw _ trivial, State.rd]
  intro u
  rw [show u = castDone (castMarked s assay watch) s.cst.img from castInForce_eq s assay watch]
  refine ⟨castDone_shows _ _, ?_, ?_, ?_, ?_⟩
  · rw [cst_castDone, hc]
  · rw [now_castDone, hn]
  · rw [since_castDone, hn]
  · rw [casts_castDone, counted]

/-- The words of the staging path (R56 to R60). -/
def castSpan (a : Nat) : Prop := 0xC0000 ≤ a ∧ a < 0x100000

theorem castWords_castSpan : CastWords castSpan := fun _ h => h

theorem rd_of_view {W : Nat → Prop} {s u : State} (h : view W u = view W s) {f : Fld} (hf : W f.addr) : u.rd f = s.rd f := by
  rw [State.rd, (view_eq_iff.1 h).2.2 _ hf, State.rd]

theorem rd64_of_view {W : Nat → Prop} {s u : State} (h : view W u = view W s) {f : Fld} (hf : W f.addr) (hh : W f.hi.addr) :
    u.rd64 f = s.rd64 f := by
  rw [State.rd64, rd_of_view h hf, rd_of_view h hh, State.rd64]

/-- A Casting is shown wherever the words of the staging path stay. -/
theorem ShowsCasting.of_view {img : List Byte} {s u : State} (h : view castSpan u = view castSpan s) (hs : ShowsCasting img s) :
    ShowsCasting img u := by
  obtain ⟨hstate, hphase, hbound, hdigest, hcontract, hscale, hinv⟩ := hs
  have stateWord : castSpan CST_STATE_STATE.addr := ⟨by decide, by decide⟩
  refine ⟨(rd_of_view h stateWord).trans hstate, (rd_of_view (f := CST_STATE_PHASE) h stateWord).trans hphase,
    (bit_of_rd (rd_of_view (f := CST_STATE_COMMIT) h stateWord)).trans hbound, fun i hi => ?_,
    (rd_of_view (f := CST_STATE_CONTRACT) h stateWord).trans hcontract, (rd_of_view (f := CST_STATE_SCALE) h stateWord).trans hscale,
    (bit_of_rd (rd_of_view (f := CST_STATE_MAPINV) h stateWord)).trans hinv⟩
  have digestWord : castSpan (CST_DIGEST i).addr := by
    simp only [castSpan, CST_DIGEST]
    omega
  exact (rd_of_view h digestWord).trans (hdigest i hi)

theorem view_applyRoot {W : Nat → Prop} (hW : CastWords W) (s : State) (was : Bool) : view W (s.applyRoot was) = view W s := by
  simp only [State.applyRoot, State.freeRun, view_ppsGate, view_wrBit, view_wr, timeWords hW, not_false_eq_true, view_parts, apply_ite (view W),
    ite_self]

theorem view_judgeReadies {W : Nat → Prop} (l : List Ready) (s : State) : view W (l.foldl State.judgeReady s) = view W s := by
  refine view_foldl _ (fun s r => ?_) l s
  exact view_ite s (view_fault s _ _ _ _ _ _ _) rfl

/-- The state in which the ports and the packets held take up the Casting: it is in force (R65). -/
def applied (s : State) : State :=
  (s.applySteps.applyRoot s.isRoot).castInForce (s.word NUM_ASSAY_RATE.addr).toNat (s.word NUM_WATCH_SILENT_RUN.addr).toNat

theorem view_applyWhole {W : Nat → Prop} (hW : CastWords W) (s : State) : view W s.applyWhole = view W (applied s) := by
  unfold State.applyWhole applied
  dsimp only
  rw [view_judgeReadies, view_takeSectLists hW.low, view_switchHeld hW, view_applyPorts hW]

/-- What an apply leaves (R65). -/
theorem applyWhole_spec (s : State) :
    let u := s.applyWhole
    ShowsCasting s.cst.staged u ∧ u.cst.img = s.cst.staged ∧ u.cst.staged = [] ∧ u.now = s.now ∧ u.rd64 CST_SINCE_LO = s.now % 2 ^ 64 := by
  obtain ⟨hn, hc⟩ := applySteps_spec s
  obtain ⟨rn, rc, -⟩ := view_eq_iff.1 (view_applyRoot castWords_castSpan s.applySteps s.isRoot)
  have himg : (s.applySteps.applyRoot s.isRoot).cst.img = s.cst.staged := by rw [rc, hc]
  obtain ⟨shown, ccst, cnow, csince, -⟩ := castInForce_spec (s.applySteps.applyRoot s.isRoot) (s.word NUM_ASSAY_RATE.addr).toNat
    (s.word NUM_WATCH_SILENT_RUN.addr).toNat
  have kept := view_applyWhole castWords_castSpan s
  obtain ⟨un, uc, -⟩ := view_eq_iff.1 kept
  rw [himg] at shown
  refine ⟨shown.of_view kept, ?_, ?_, ?_, ?_⟩
  · rw [uc, applied, ccst, unstaged_img, himg]
  · rw [uc, applied, ccst, unstaged_staged]
  · rw [un, applied, cnow, rn, hn]
  · rw [rd64_of_view kept ⟨by decide, by decide⟩ ⟨by decide, by decide⟩, applied, csince, rn, hn]

section
variable {s : State}

theorem exec_applyComplete (t : Nat) : exec (.applyComplete t) s = .next (s.at t).applyComplete := rfl

theorem applyComplete_acts (hs : s.nodeState = stApplying) (hr : s.hallsReady = true) : s.applyComplete = s.applyWhole := if_pos ⟨hs, hr⟩

theorem applyComplete_idle (h : s.nodeState ≠ stApplying ∨ s.hallsReady = false) : s.applyComplete = s := by
  refine if_neg fun ⟨hs, hr⟩ => ?_
  rcases h with h | h
  · exact h hs
  · simp [h] at hr

end

/-- Settles O18: the steps keep the staging path, what comes into force is shown by the last writes, and the ports and the packets held keep
those words. -/
theorem applyPutsTheCastingInForce : Obligations.ApplyPutsTheCastingInForce := by
  refine ⟨fun t s hstate hready => ?_, fun t s h => ?_, fun s => ?_, fun s a w => ?_⟩
  · obtain ⟨⟨ustate, uphase, ubound, udigest, ucontract, uscale, uinv⟩, uimg, ustaged, unow, usince⟩ := applyWhole_spec (s.at t)
    exact ⟨_, (exec_applyComplete t).trans (congrArg _ (applyComplete_acts hstate hready)), rfl, ustate, uimg, ustaged, uphase, ubound, udigest,
      ucontract, uscale, uinv, by rw [usince, unow], unow⟩
  · exact ⟨_, (exec_applyComplete t).trans (congrArg _ (applyComplete_idle h)), s.only_at t⟩
  · rw [(applySteps_spec s).2]
  · obtain ⟨⟨ustate, uphase, ubound, udigest, ucontract, uscale, uinv⟩, ucst, -, usince, ucasts⟩ := castInForce_spec s a w
    exact ⟨ustate, by rw [ucst]; rfl, by rw [ucst]; rfl, uphase, ubound, udigest, ucontract, uscale, uinv, ucasts, usince⟩

end Sys2Proof.Proofs.Casting
end

section
/-! PROOFS. The parts of a seam and of a first epoch (R71, R95 to R101, R487 to R492). -/

open Sys2Proof Sys2Proof.Machine

namespace Sys2Proof.Proofs.Casting

/-! ### What each part of a seam leaves -/

section
variable {W : Nat → Prop} (s : State)

theorem view_release (kind unit rel ready : Nat) (hlate : ∀ f ∈ [TG_LATE_COUNT, TG_SLACK_MIN, TG_LATE_UNIT, TG_LATE_REL_LO, TG_LATE_REL_LO.hi,
    TG_LATE_ACT_LO, TG_LATE_ACT_LO.hi, TG_STATUS_TIMING_LOST], ¬W f.addr) : view W (s.release kind unit rel ready) = view W s := by
  simp only [List.mem_cons, List.not_mem_nil, or_false, forall_eq_or_imp, forall_eq] at hlate
  simp only [State.release, view_fault, view_wrBit, view_wr64, view_wr, view_inc, hlate, not_false_eq_true, view_parts, apply_ite (view W),
    ite_self]

theorem view_chainSeam (hW : LowWords W) (n : Nat) (ws : List SWrite) (sw : List (Nat × Bool × Nat)) :
    view W (s.chainSeam n ws sw).2 = view W s := by
  have chain : ∀ i, ¬W (DET_CTL i).addr := fun i => hW.not_of_lt (by simp only [DET_CTL]; omega)
  unfold State.chainSeam
  split
  · rfl
  · exact view_wrBytes s _ _ chain

theorem view_seamSums (hW : LowWords W) : view W s.seamSums = view W s := by
  have sums : ∀ i, ¬W (DET_INSUM i).addr ∧ ¬W (DET_OUTSUM i).addr := fun i =>
    ⟨hW.not_of_lt (by simp only [DET_INSUM]; omega), hW.not_of_lt (by simp only [DET_OUTSUM]; omega)⟩
  delta State.seamSums
  extract_lets s1
  exact (view_parts s1 ..).trans ((view_wrBytes _ _ _ fun i => (sums i).2).trans (view_wrBytes s _ _ fun i => (sums i).1))

theorem view_seamGuards (assay watch : Option Word) : view W (s.seamGuards assay watch) = view W s := by
  delta State.seamGuards
  extract_lets a w s1
  have h1 : view W s1 = view W s := by
    dsimp only [s1]
    split
    · exact view_ite s (view_hallAfter s _ _ _) rfl
    · rfl
  split
  · exact view_ite s ((view_hallAfter s1 _ _ _).trans h1) h1
  · exact h1

theorem view_seamClears (hW : LowWords W) : view W s.seamClears = view W s := by
  delta State.seamClears
  extract_lets s1 s2
  have h1 : view W s1 = view W s := by
    refine view_resetWords s _ fun a ha => ?_
    obtain ⟨e, he, rfl⟩ := List.mem_map.1 ha
    have inRange := of_decide_eq_true (List.mem_filter.1 he).2
    exact hW.not_of_lt (Nat.lt_of_lt_of_le (by decide) inRange.1)
  have h2 : view W s2 = view W s1 := (view_stockSeam hW _).trans (view_collSeam hW s1)
  exact (view_parts s2 ..).trans (h2.trans h1)

/-! ### Epochs that begin -/

theorem only_setBench (l : Nat) (b : Bench) : Only [.benches] s (s.setBench l b) := by
  intro p hp
  cases p
  case benches => simp at hp
  all_goals simp [Part.same, State.setBench, State.word, State.byteAt]

theorem only_setRan (l : Nat) : Only [.mill] s (s.setRan l) := by
  intro p hp
  cases p
  case mill => simp at hp
  all_goals simp [Part.same, State.setRan, State.word, State.byteAt]

theorem only_foldStart : Only [.benches, .mill] s s.foldStart := by
  refine Only.foldl _ (fun s l => ?_) _ s
  have kept := fun b => (only_setBench s l b).mono (m := [.benches, .mill]) (by simp)
  have ran := fun b => (kept b).trans ((only_setRan (s.setBench l b) l).mono (by simp))
  dsimp only
  split
  · split
    · exact ran _
    · exact kept _
  · split
    · exact ran _
    · exact kept _
  · split
    · exact ran _
    · exact kept _
  · exact Only.rfl

theorem only_epochBenches : Only [.benches, .mill] s s.epochBenches := by
  unfold State.epochBenches
  refine (Only.foldl _ (fun s l => ?_) _ s).trans (only_foldStart _)
  exact (only_setBench s l _).mono (by simp)

/-- No seam stops replay on a node that replays nothing (R505). -/
theorem replayStops_idle (n : Nat) (h : s.rd DET_STAT_MODE = 0) : s.replayStops n = false := by
  rw [State.replayStops, h]
  rfl

/-- A seam that was not asked to hold holds nothing (R497). -/
theorem seamHold_idle (n : Nat) (hm : s.rd DET_STAT_MODE = 0) (hp : s.rd64 DET_PAUSE_LO = 0) : s.seamHold n = s := by
  rw [State.seamHold, replayStops_idle s n hm, if_neg (by simp), if_neg]
  rw [hp]
  exact fun h => h.2 h.1.symm

/-- The scheduled tick of the seam that ends an epoch which begins at a tick; none is scheduled past the last (R99). -/
def seamTick (m : List Byte) (n start : Nat) : Nat := match epochOf m n with | some (len, _) => start + len | none => noSeam

theorem seamTick_some {m : List Byte} {n : Nat} (start : Nat) {len fl : Nat} (h : epochOf m n = some (len, fl)) :
    seamTick m n start = start + len := by
  rw [seamTick, h]

theorem seamTick_none {m : List Byte} {n : Nat} (start : Nat) (h : epochOf m n = none) : seamTick m n start = noSeam := by
  rw [seamTick, h]

theorem schedule_eq (start : Nat) : s.schedule start = s.wr64 TG_NEXT_LO (seamTick s.seamSect (s.rd64 TG_SEAM_LO) start) := rfl

/-- The node whose epoch begins at a tick. -/
def begun (start : Nat) : State := { s with tg := { s.tg with epochStart := start, lastRelease := 0 } }

/-- The next epoch of a cast node that is not held (R99, R101). -/
theorem nextEpoch_eq (n sched : Nat) (hs : s.nodeState = stCast) (hh : s.bit DET_STAT_HELD = false) :
    s.nextEpoch n sched = (begun s sched).epochBenches.wr64 TG_NEXT_LO (seamTick s.seamSect n sched) := by
  have sect : (begun s sched).epochBenches.seamSect = s.seamSect := by
    rw [State.seamSect, only_epochBenches (begun s sched) .cst (by decide)]
    rfl
  delta State.nextEpoch
  extract_lets tg s1 drained cst s2
  have notDraining : ¬s1.nodeState = stDraining := by
    rw [show s1.nodeState = stCast from hs]
    decide
  have notHeld : ¬s1.bit DET_STAT_HELD = true := by
    rw [show s1.bit DET_STAT_HELD = false from hh]
    decide
  rw [if_neg notDraining, if_neg notHeld, show s2.seamSect = s.seamSect from sect]
  unfold seamTick
  cases epochOf s.seamSect n <;> rfl

theorem nextEpoch_spec (n sched : Nat) (hs : s.nodeState = stCast) (hh : s.bit DET_STAT_HELD = false) :
    (s.nextEpoch n sched).tg.epochStart = sched ∧ (s.nextEpoch n sched).rd64 TG_NEXT_LO = seamTick s.seamSect n sched % 2 ^ 64 := by
  rw [nextEpoch_eq s n sched hs hh]
  refine ⟨?_, State.rd64_wr64 _ TG_NEXT_LO _ rfl rfl⟩
  rw [State.wr64_tg, only_epochBenches (begun s sched) .tg (by decide)]
  rfl

theorem view_nextEpoch (n sched : Nat) (hs : s.nodeState = stCast) (hh : s.bit DET_STAT_HELD = false) (hl : ¬W TG_NEXT_LO.addr)
    (hhi : ¬W TG_NEXT_LO.hi.addr) : view W (s.nextEpoch n sched) = view W s := by
  rw [nextEpoch_eq s n sched hs hh, view_wr64 _ _ hl hhi, view_epochBenches]
  exact view_parts s ..

end

/-! ### A seam -/

/-- The words that the parts of a seam past its changes leave, but for TG_NEXT: the node's state, the seam count, the limit of R107 and what
the job records or holds. -/
def seamSpan (a : Nat) : Prop :=
  a ∈ [CST_STATE_STATE.addr, TG_SEAM_LO.addr, TG_SEAM_LO.hi.addr, TG_LATE_LIMIT.addr, DET_STAT_MODE.addr, DET_PAUSE_LO.addr, DET_PAUSE_LO.hi.addr]

theorem lowWords_seamSpan : LowWords seamSpan := by
  intro a ha
  simp only [seamSpan, List.mem_cons, List.not_mem_nil, or_false, CST_STATE_STATE, TG_SEAM_LO, TG_LATE_LIMIT, DET_STAT_MODE, DET_PAUSE_LO,
    Fld.hi] at ha
  omega

/-- A cast job that neither records, replays nor is held, and that no seam is asked to hold. -/
def Plain (s : State) : Prop := s.nodeState = stCast ∧ s.bit DET_STAT_HELD = false ∧ s.rd DET_STAT_MODE = 0 ∧ s.rd64 DET_PAUSE_LO = 0

theorem Plain.of_view {s u : State} (h : view seamSpan u = view seamSpan s) (hs : Plain s) : Plain u := by
  obtain ⟨hstate, hheld, hmode, hpause⟩ := hs
  have inSpan : ∀ a ∈ [CST_STATE_STATE.addr, DET_STAT_MODE.addr, DET_PAUSE_LO.addr, DET_PAUSE_LO.hi.addr], seamSpan a := by
    simp only [seamSpan]
    decide
  exact ⟨(rd_of_view h (inSpan _ (by decide))).trans hstate,
    (bit_of_rd (rd_of_view (f := DET_STAT_HELD) h (inSpan _ (by decide)))).trans hheld, (rd_of_view h (inSpan _ (by decide))).trans hmode,
    (rd64_of_view h (inSpan _ (by decide)) (inSpan _ (by decide))).trans hpause⟩

/-- A seam from its count on (R72, R100). -/
def counted (s : State) : State :=
  (if s.rd64 TG_NEXT_LO < s.now then s.release 4 0 (s.rd64 TG_NEXT_LO) s.now else s).wr64 TG_SEAM_LO (s.rd64 TG_SEAM_LO + 1)

/-- The next epoch begins after seam `n` from a state that shows what another one shows. -/
def BeginsNext (n sched : Nat) (u x : State) : Prop := ∃ v, view seamSpan v = view seamSpan u ∧ x = v.nextEpoch n sched

/-- What a seam does past its changes (R72, R99, R100, R490, R492). -/
theorem seam_beginsNext (s : State) (ws : List SWrite) (u : State) (hmay : s.seamMay = true)
    (hc : (counted s).seamChanges (s.rd64 TG_SEAM_LO + 1) (s.rd64 TG_NEXT_LO) = (ws, u)) (hu : Plain u) :
    BeginsNext (s.rd64 TG_SEAM_LO + 1) (s.rd64 TG_NEXT_LO) u s.seam := by
  have hL := lowWords_seamSpan
  delta State.seam
  rw [if_pos hmay]
  extract_lets sched n s1 oldA oldW s2
  rw [show s2.seamChanges n sched = (ws, u) from hc]
  split
  rename_i ws' u' changes
  obtain ⟨rfl, rfl⟩ := Prod.mk.inj changes
  split
  rename_i ls s3 swapped
  have h3 : view seamSpan s3 = view seamSpan u := by
    rw [show s3 = _ from (congrArg Prod.snd swapped).symm]
    exact view_seamSwap u
  extract_lets sw
  split
  rename_i chain s4 chained
  have h4 : view seamSpan s4 = view seamSpan s3 := by
    rw [show s4 = _ from (congrArg Prod.snd chained).symm]
    exact view_chainSeam s3 hL n _ sw
  extract_lets s5
  have h5 : view seamSpan s5 = view seamSpan s4 :=
    (view_seamGuards _ _ _).trans ((view_hall _ _ _ _).trans (view_seamSums s4 hL))
  split
  rename_i now later parted
  extract_lets s6 mill s7 s8 s9
  have h8 : view seamSpan s8 = view seamSpan s5 := by
    rw [show s8 = s7.seamClears from rfl, view_seamClears s7 hL]
    exact (view_parts s6 ..).trans (view_foldl _ (fun s e => view_hall s _ _ _) _ s5)
  have kept : view seamSpan s8 = view seamSpan u := h8.trans (h5.trans (h4.trans h3))
  obtain ⟨-, -, hmode, hpause⟩ := hu.of_view kept
  have unlogged : s9 = s8 := if_neg (by rw [hmode]; decide)
  exact ⟨s8, kept, by rw [unlogged, seamHold_idle s8 n hmode hpause]⟩

/-- What a seam leaves of a plain job (R72, R99, R100). -/
theorem seam_spec (s : State) (ws : List SWrite) (u : State) (hmay : s.seamMay = true)
    (hc : (counted s).seamChanges (s.rd64 TG_SEAM_LO + 1) (s.rd64 TG_NEXT_LO) = (ws, u)) (hu : Plain u) :
    view seamSpan s.seam = view seamSpan u ∧ s.seam.tg.epochStart = s.rd64 TG_NEXT_LO ∧
      s.seam.rd64 TG_NEXT_LO = seamTick u.seamSect (s.rd64 TG_SEAM_LO + 1) (s.rd64 TG_NEXT_LO) % 2 ^ 64 := by
  obtain ⟨v, kept, hv⟩ := seam_beginsNext s ws u hmay hc hu
  obtain ⟨hstate, hheld, -, -⟩ := hu.of_view kept
  have sect : v.seamSect = u.seamSect := by rw [State.seamSect, (view_eq_iff.1 kept).2.1, State.seamSect]
  obtain ⟨hstart, hnext⟩ := nextEpoch_spec v (s.rd64 TG_SEAM_LO + 1) (s.rd64 TG_NEXT_LO) hstate hheld
  rw [hv]
  refine ⟨?_, hstart, sect ▸ hnext⟩
  rw [view_nextEpoch v _ _ hstate hheld (by simp only [seamSpan]; decide) (by simp only [seamSpan]; decide), kept]

end Sys2Proof.Proofs.Casting
end

section
/-! PROOFS. FIRST_EPOCH_START and SEAM (R71, R72, R95 to R101). -/

open Sys2Proof Sys2Proof.Machine

namespace Sys2Proof.Proofs.Casting

/-! ### The changes of a seam -/

section
variable (s : State)

/-- The words of a plain job that the count of a seam leaves. -/
def countSpan (a : Nat) : Prop :=
  a ∈ [CST_STATE_STATE.addr, TG_LATE_LIMIT.addr, DET_STAT_MODE.addr, DET_PAUSE_LO.addr, DET_PAUSE_LO.hi.addr]

theorem view_counted : view countSpan (counted s) = view countSpan s := by
  have outside : ∀ f ∈ [TG_LATE_COUNT, TG_SLACK_MIN, TG_LATE_UNIT, TG_LATE_REL_LO, TG_LATE_REL_LO.hi, TG_LATE_ACT_LO, TG_LATE_ACT_LO.hi,
      TG_STATUS_TIMING_LOST, TG_SEAM_LO, TG_SEAM_LO.hi], ¬countSpan f.addr := by
    simp only [countSpan]
    decide
  rw [counted, view_wr64 _ _ (outside _ (by simp)) (outside _ (by simp))]
  exact view_ite s (view_release s _ _ _ _ fun f hf => outside f (by simp at hf ⊢; tauto)) rfl

/-- A plain job is one as long as the words of `countSpan` stay. -/
theorem Plain.of_countSpan {s u : State} (h : view countSpan u = view countSpan s) (hs : Plain s) : Plain u := by
  obtain ⟨hstate, hheld, hmode, hpause⟩ := hs
  have inSpan : ∀ a ∈ [CST_STATE_STATE.addr, DET_STAT_MODE.addr, DET_PAUSE_LO.addr, DET_PAUSE_LO.hi.addr], countSpan a := by
    simp only [countSpan]
    decide
  exact ⟨(rd_of_view h (inSpan _ (by decide))).trans hstate,
    (bit_of_rd (rd_of_view (f := DET_STAT_HELD) h (inSpan _ (by decide)))).trans hheld, (rd_of_view h (inSpan _ (by decide))).trans hmode,
    (rd64_of_view h (inSpan _ (by decide)) (inSpan _ (by decide))).trans hpause⟩

theorem seam_counted : (counted s).rd64 TG_SEAM_LO = (s.rd64 TG_SEAM_LO + 1) % 2 ^ 64 := State.rd64_wr64 _ TG_SEAM_LO _ rfl rfl

theorem cst_counted : (counted s).cst = s.cst := (view_eq_iff.1 (view_counted s)).2.1

theorem applyFlds_nil (n : Nat) (h : sect s.cst.img tyFLDS = []) : s.applyFlds n = s := by
  rw [State.applyFlds, h]
  rfl

/-- Whether a pending write came in time for a seam (R72). -/
def inTime (sched : Nat) (w : SWrite) : Bool := decide (w.tick + 64 ≤ sched)

theorem seamChanges_eq (n sched : Nat) (h : sect s.cst.img tyFLDS = []) : s.seamChanges n sched =
    (s.cst.spend.filter (inTime sched), (s.cst.spend.filter (inTime sched)).foldl State.applyWrite
      (withCst s { s.cst with spend := s.cst.spend.filter (fun w => !inTime sched w) })) := by
  unfold State.seamChanges
  rw [applyFlds_nil s _ h]
  rfl

/-- A pending write of TG_LATE_LIMIT that takes effect sets it whole (R72). -/
theorem applyWrite_lateLimit (v tick : Nat) : s.applyWrite ⟨TG_LATE_LIMIT.addr, 0xFFFFFFFF, v, tick⟩ = s.wr TG_LATE_LIMIT v := by
  have noWindow : ¬(0x1000000 ≤ TG_LATE_LIMIT.addr ∧ TG_LATE_LIMIT.addr < 0x1400000) := by decide
  rw [State.applyWrite, if_neg noWindow, State.wr, put_whole ⟨rfl, rfl⟩]
  have whole : ∀ w : Word, w &&& ~~~BitVec.allOnes 32 ||| BitVec.ofNat 32 v = BitVec.ofNat 32 v := fun w => by
    rw [BitVec.not_allOnes, BitVec.and_zero, BitVec.zero_or]
  exact congrArg _ (whole _)

/-- A pending write that came in time takes effect at the seam and pends no longer (R72). -/
theorem seamChanges_inTime (n sched : Nat) {w : SWrite} (h : sect s.cst.img tyFLDS = []) (hw : s.cst.spend = [w])
    (hi : inTime sched w = true) : s.seamChanges n sched = ([w], (withCst s { s.cst with spend := [] }).applyWrite w) := by
  rw [seamChanges_eq s n sched h, hw, List.filter_singleton, List.filter_singleton, hi]
  rfl

/-- A pending write that came later still pends (R72). -/
theorem seamChanges_late (n sched : Nat) {w : SWrite} (h : sect s.cst.img tyFLDS = []) (hw : s.cst.spend = [w])
    (hi : inTime sched w = false) : s.seamChanges n sched = ([], withCst s { s.cst with spend := [w] }) := by
  rw [seamChanges_eq s n sched h, hw, List.filter_singleton, List.filter_singleton, hi]
  rfl

/-- A state after the changes of a seam: a plain job with the seam counted, whose Casting in force is that of another. -/
def Counted (s u : State) : Prop := Plain u ∧ u.rd64 TG_SEAM_LO = (s.rd64 TG_SEAM_LO + 1) % 2 ^ 64 ∧ u.cst.img = s.cst.img

theorem counted_withCst (c : CstState) (hc : c.img = s.cst.img) (hs : Plain s) : Counted s (withCst (counted s) c) := by
  have plain : Plain (counted s) := hs.of_countSpan (view_counted s)
  exact ⟨plain, seam_counted s, hc⟩

theorem Counted.wr_lateLimit {s u : State} (h : Counted s u) (v : Nat) : Counted s (u.wr TG_LATE_LIMIT v) := by
  obtain ⟨⟨hstate, hheld, hmode, hpause⟩, hseam, himg⟩ := h
  exact ⟨⟨(State.rd_wr_ne _ _ _ _ (.inl (by decide))).trans hstate, (bit_of_rd (State.rd_wr_ne _ _ _ _ (.inl (by decide)))).trans hheld,
    (State.rd_wr_ne _ _ _ _ (.inl (by decide))).trans hmode, (rd64_wr_ne _ _ _ _ (by decide) (by decide)).trans hpause⟩,
    (rd64_wr_ne _ _ _ _ (by decide) (by decide)).trans hseam, himg⟩

/-- The limit of R107 as the count of a seam leaves it. -/
theorem lateLimit_counted : (counted s).rd TG_LATE_LIMIT = s.rd TG_LATE_LIMIT :=
  rd_of_view (view_counted s) (by simp only [countSpan]; decide)

theorem seam_idle (h : s.seamMay = false) : s.seam = s := if_neg (by rw [h]; decide)

/-- What a seam with no more than pending writes of TG_LATE_LIMIT leaves (R72, R99, R100). -/
theorem seam_next (s : State) (ws : List SWrite) (u : State) (hmay : s.seamMay = true)
    (hc : (counted s).seamChanges (s.rd64 TG_SEAM_LO + 1) (s.rd64 TG_NEXT_LO) = (ws, u)) (hu : Counted s u) :
    (s.seam.rd64 TG_SEAM_LO = (s.rd64 TG_SEAM_LO + 1) % 2 ^ 64 ∧ s.seam.tg.epochStart = s.rd64 TG_NEXT_LO ∧ s.seam.nodeState = stCast ∧
      (∀ len fl, epochOf s.seamSect (s.rd64 TG_SEAM_LO + 1) = some (len, fl) →
        s.seam.rd64 TG_NEXT_LO = (s.rd64 TG_NEXT_LO + len) % 2 ^ 64) ∧
      (epochOf s.seamSect (s.rd64 TG_SEAM_LO + 1) = none → s.seam.rd64 TG_NEXT_LO = noSeam)) ∧
    s.seam.rd TG_LATE_LIMIT = u.rd TG_LATE_LIMIT ∧ s.seam.cst = u.cst := by
  obtain ⟨hplain, hseam, himg⟩ := hu
  obtain ⟨kept, hstart, hnext⟩ := seam_spec s ws u hmay hc hplain
  have inSpan : ∀ a ∈ [CST_STATE_STATE.addr, TG_SEAM_LO.addr, TG_SEAM_LO.hi.addr, TG_LATE_LIMIT.addr], seamSpan a := by
    simp only [seamSpan]
    decide
  have sect : u.seamSect = s.seamSect := by rw [State.seamSect, himg, State.seamSect]
  rw [sect] at hnext
  refine ⟨⟨(rd64_of_view kept (inSpan _ (by decide)) (inSpan _ (by decide))).trans hseam, hstart, (hplain.of_view kept).1, fun len fl h => ?_,
    fun h => ?_⟩, rd_of_view kept (inSpan _ (by decide)), (view_eq_iff.1 kept).2.1⟩
  · rw [hnext, seamTick_some _ h]
  · rw [hnext, seamTick_none _ h]
    decide

end

/-! ### The first epoch -/

section
variable {W : Nat → Prop} (s : State)

theorem view_formRunKey (hkey : ∀ i, ¬W (DET_RKEY i).addr ∧ ¬W (DET_BKEY i).addr) (hstat : ¬W DET_STAT_RKVALID.addr) :
    view W s.formRunKey = view W s := by
  have changed : ¬W DET_STAT_MAPCHG.addr := hstat
  delta State.formRunKey
  extract_lets r key bkey s1
  have h1 : view W s1 = view W s := (view_wrBytes _ _ _ fun i => (hkey i).2).trans (view_wrBytes s _ _ fun i => (hkey i).1)
  rw [view_hall, view_wrBit _ _ changed, view_wrBit _ _ hstat, h1]

theorem only_formRunKey : Only [.regs, .sec] s s.formRunKey := by
  delta State.formRunKey
  extract_lets r key bkey s1
  have h1 : Only [.regs] s s1 := (only_wrBytes s _ _).trans (only_wrBytes _ _ _)
  have marked := h1.trans ((s1.only_wrBit DET_STAT_RKVALID true).trans (State.only_wrBit _ DET_STAT_MAPCHG false))
  exact marked.comp (State.only_hall _ _ _ _) (by simp) (by simp)

/-- The run key is valid once it is formed, and the mode of R501 stays. -/
theorem formRunKey_status : s.formRunKey.bit DET_STAT_RKVALID = true ∧ s.formRunKey.rd DET_STAT_MODE = s.rd DET_STAT_MODE := by
  delta State.formRunKey
  extract_lets r key bkey s1
  have h1 : view (· = DET_STAT_MODE.addr) s1 = view (· = DET_STAT_MODE.addr) s := by
    have keys : ∀ i, ¬(DET_RKEY i).addr = DET_STAT_MODE.addr ∧ ¬(DET_BKEY i).addr = DET_STAT_MODE.addr := fun i => by
      simp only [DET_RKEY, DET_BKEY, DET_STAT_MODE]
      omega
    exact (view_wrBytes _ _ _ fun i => (keys i).2).trans (view_wrBytes s _ _ fun i => (keys i).1)
  have shown : (s1.wrBit DET_STAT_RKVALID true).bit DET_STAT_RKVALID = true := State.bit_wrBit _ _ _ rfl (by decide)
  refine ⟨(bit_of_rd (State.rd_wrBit_ne _ DET_STAT_MAPCHG DET_STAT_RKVALID _ (.inr (by decide)))).trans shown, ?_⟩
  exact (State.rd_wrBit_ne _ DET_STAT_MAPCHG DET_STAT_MODE _ (.inr (by decide))).trans
    ((State.rd_wrBit_ne _ DET_STAT_RKVALID DET_STAT_MODE _ (.inr (by decide))).trans (rd_of_view h1 rfl))

/-- A report that waits for the collector stays where another state keeps every one. -/
def KeepsReports (s u : State) : Prop := ∀ r ∈ s.flt.reports, r ∈ u.flt.reports

theorem keepsReports_of_flt {s u : State} (h : u.flt = s.flt) : KeepsReports s u := fun _ hr => h ▸ hr

theorem KeepsReports.trans {s u v : State} (h : KeepsReports s u) (k : KeepsReports u v) : KeepsReports s v := fun r hr => k r (h r hr)

theorem keepsReports_foldl {α : Type} (f : State → α → State) (h : ∀ s x, KeepsReports s (f s x)) :
    ∀ (l : List α) (s : State), KeepsReports s (l.foldl f s)
  | [], _ => keepsReports_of_flt rfl
  | x :: l, s => (h s x).trans (keepsReports_foldl f h l (f s x))

theorem keepsReports_fault (c : FClass) (l k : Nat) (m : Master) : KeepsReports s (s.fault c l k m) :=
  fun _ hr => List.mem_append_left _ hr

theorem keepsReports_takeList (k teff b cycle : Nat) (ents : List (Nat × Nat)) (rel : Bool) :
    KeepsReports s (s.takeList k teff b cycle ents rel) := by
  delta State.takeList
  extract_lets limit late start p s1 s2 s3
  have h2 : KeepsReports s s2 := keepsReports_of_flt rfl
  split
  · split
    · exact h2
    · exact h2.trans (keepsReports_fault s3 _ _ _ _)
  · exact keepsReports_of_flt rfl

theorem keepsReports_takeSectLists (mode base : Nat) : KeepsReports s (s.takeSectLists mode base) := by
  refine keepsReports_foldl _ (fun s i => ?_) _ s
  dsimp only
  split
  · exact keepsReports_takeList s _ _ _ _ _ _
  · exact keepsReports_of_flt rfl

/-- A job that has started (R96). -/
def started (start : Nat) : State := (s.lateStart? start).wrBit TG_STATUS_STARTED true

theorem view_started (start : Nat) (h : ¬W TG_STATUS_STARTED.addr) : view W (started s start) = view W s := by
  have lost : ¬W TG_STATUS_TIMING_LOST.addr := h
  rw [started, view_wrBit _ _ h]
  exact view_ite s ((view_fault _ _ _ _ _ _ _ _).trans (view_wrBit s _ lost)) rfl

/-- A late start is reported (R96). -/
theorem started_late {start : Nat} (h : start < s.now) : (started s start).bit TG_STATUS_TIMING_LOST = true ∧
    ⟨.time, 1, 0, mTime, 7, 0, s.now, false, false⟩ ∈ (started s start).flt.reports := by
  have lost : (s.wrBit TG_STATUS_TIMING_LOST true).bit TG_STATUS_TIMING_LOST = true := State.bit_wrBit _ _ _ rfl (by decide)
  rw [started, State.lateStart?, if_pos h]
  exact ⟨(bit_of_rd (State.rd_wrBit_ne _ TG_STATUS_STARTED TG_STATUS_TIMING_LOST _ (.inr (by decide)))).trans lost,
    List.mem_append_right _ (List.mem_singleton.2 rfl)⟩

theorem view_beginEpochs (start : Nat) (hl : ¬W TG_NEXT_LO.addr) (hh : ¬W TG_NEXT_LO.hi.addr) : view W (s.beginEpochs start) = view W s := by
  delta State.beginEpochs
  extract_lets tg s1
  rw [view_epochBenches, schedule_eq, view_wr64 _ _ hl hh]
  exact view_parts s ..

/-- What the schedule holds once it begins (R99, R158). -/
theorem beginEpochs_spec (start : Nat) : (s.beginEpochs start).tg.start = none ∧ (s.beginEpochs start).tg.epochStart = start ∧
    (s.beginEpochs start).rd64 TG_NEXT_LO = seamTick s.seamSect (s.rd64 TG_SEAM_LO) start % 2 ^ 64 ∧
    (s.beginEpochs start).flt = s.flt := by
  delta State.beginEpochs
  extract_lets tg s1
  have benches := only_epochBenches (s1.schedule start)
  have time : (s1.schedule start).epochBenches.tg = s1.tg := benches .tg (by decide)
  have next : (s1.schedule start).rd64 TG_NEXT_LO = seamTick s.seamSect (s.rd64 TG_SEAM_LO) start % 2 ^ 64 := by
    rw [schedule_eq]
    exact State.rd64_wr64 _ TG_NEXT_LO _ rfl rfl
  exact ⟨congrArg TgState.start time, congrArg TgState.epochStart time,
    (rd64_of_view (W := fun _ => True) (view_epochBenches _) trivial trivial).trans next, benches .flt (by decide)⟩

/-- The words that tell how a job stands when its first epoch begins. -/
def startSpan (a : Nat) : Prop :=
  a ∈ [CST_STATE_STATE.addr, TG_STATUS_STARTED.addr, TG_SEAM_LO.addr, TG_SEAM_LO.hi.addr, DET_STAT_MODE.addr]

theorem lowWords_startSpan : LowWords startSpan := by
  intro a ha
  simp only [startSpan, List.mem_cons, List.not_mem_nil, or_false, CST_STATE_STATE, TG_STATUS_STARTED, TG_SEAM_LO, DET_STAT_MODE,
    Fld.hi] at ha
  omega

/-- The node of a started job before its schedule begins (R427, R486). -/
def readied (start : Nat) : State := (started s start).formRunKey.takeSectLists 0 start

/-- What the first epoch's schedule leaves of the node that its gate lists wait on. -/
theorem view_begun (start : Nat) : view startSpan ((readied s start).beginEpochs start) = view startSpan (started s start).formRunKey := by
  rw [view_beginEpochs _ _ (by simp only [startSpan]; decide) (by simp only [startSpan]; decide)]
  exact view_takeSectLists lowWords_startSpan _ _ _

/-- The words that the start of a job and its run key leave. -/
def keySpan (a : Nat) : Prop := a ∈ [CST_STATE_STATE.addr, TG_SEAM_LO.addr, TG_SEAM_LO.hi.addr, DET_RCTL_MODE.addr]

theorem view_keyed (start : Nat) : view keySpan (started s start).formRunKey = view keySpan s := by
  have keys : ∀ i, ¬keySpan (DET_RKEY i).addr ∧ ¬keySpan (DET_BKEY i).addr := fun i => by
    simp only [keySpan, List.mem_cons, List.not_mem_nil, or_false, DET_RKEY, DET_BKEY, CST_STATE_STATE, TG_SEAM_LO, DET_RCTL_MODE, Fld.hi]
    omega
  rw [view_formRunKey _ keys (by simp only [keySpan]; decide)]
  exact view_started s start (by simp only [keySpan]; decide)

/-- The mode of R501 stays idle while the first epoch begins. -/
theorem mode_keyed (start : Nat) : (started s start).formRunKey.rd DET_STAT_MODE = s.rd DET_STAT_MODE :=
  (formRunKey_status _).2.trans (rd_of_view (view_started (W := (· = DET_STAT_MODE.addr)) s start (by decide)) rfl)

theorem engageMode_idle (start : Nat) (h : s.rd DET_RCTL_MODE = 0) : s.engageMode start = s := if_pos h

/-- The first epoch of a job that neither records nor replays begins (R95, R96, R98, R99). -/
theorem firstEpoch_eq (start : Nat) (hstart : s.tg.start = some start) (hs : s.nodeState = stCast) (hq : s.quenched = false)
    (hn : start ≤ s.now) (hst : s.bit TG_STATUS_STARTED = false) (hr : s.rd DET_RCTL_MODE = 0) (hm : s.rd DET_STAT_MODE = 0) :
    s.firstEpoch = (readied s start).beginEpochs start := by
  have asked : (started s start).formRunKey.rd DET_RCTL_MODE = 0 :=
    (rd_of_view (view_keyed s start) (by simp only [keySpan]; decide)).trans hr
  have idle : ((readied s start).beginEpochs start).rd DET_STAT_MODE = 0 :=
    (rd_of_view (view_begun s start) (by simp only [startSpan]; decide)).trans ((mode_keyed s start).trans hm)
  delta State.firstEpoch
  rw [hstart]
  dsimp only
  rw [if_pos ⟨hs, hq, hn⟩, if_neg (by rw [hst]; decide), ← started, engageMode_idle _ start asked, ← readied]
  exact if_neg (by rw [replayStops_idle _ _ idle]; decide)

/-- No first epoch begins before its tick (R98). -/
theorem firstEpoch_idle (start : Nat) (hstart : s.tg.start = some start) (hn : s.now < start) : s.firstEpoch = s := by
  delta State.firstEpoch
  rw [hstart]
  exact if_neg fun h => absurd h.2.2 (Nat.not_le.2 hn)

/-- What the first epoch of a job that neither records nor replays leaves (R95, R96, R98, R99). -/
theorem firstEpoch_spec (start : Nat) (hs : s.nodeState = stCast) (x : State) (hx : x = (readied s start).beginEpochs start) :
    x.bit TG_STATUS_STARTED = true ∧ x.bit DET_STAT_RKVALID = true ∧ x.tg.start = none ∧ x.tg.epochStart = start ∧ x.nodeState = stCast ∧
      (∀ len fl, epochOf s.seamSect (s.rd64 TG_SEAM_LO) = some (len, fl) → x.rd64 TG_NEXT_LO = (start + len) % 2 ^ 64) ∧
      (start < s.now → x.bit TG_STATUS_TIMING_LOST = true ∧ ⟨.time, 1, 0, mTime, 7, 0, s.now, false, false⟩ ∈ x.flt.reports) := by
  have inSpan : ∀ a ∈ [CST_STATE_STATE.addr, TG_STATUS_STARTED.addr, TG_SEAM_LO.addr, TG_SEAM_LO.hi.addr, DET_STAT_MODE.addr], startSpan a :=
    fun _ h => h
  have inKeySpan : ∀ a ∈ [CST_STATE_STATE.addr, TG_SEAM_LO.addr, TG_SEAM_LO.hi.addr], keySpan a := by
    simp only [keySpan]
    decide
  have kept : view startSpan x = view startSpan (started s start).formRunKey := hx ▸ view_begun s start
  have keyed : view keySpan (started s start).formRunKey = view keySpan s := view_keyed s start
  have listed : view startSpan (readied s start) = view startSpan (started s start).formRunKey :=
    view_takeSectLists lowWords_startSpan _ _ _
  obtain ⟨hstart, hepoch, hnext, hflt⟩ := beginEpochs_spec (readied s start) start
  have sect : (readied s start).seamSect = s.seamSect := by
    rw [State.seamSect, (view_eq_iff.1 listed).2.1, (view_eq_iff.1 keyed).2.1, State.seamSect]
  have seam : (readied s start).rd64 TG_SEAM_LO = s.rd64 TG_SEAM_LO :=
    (rd64_of_view listed (inSpan _ (by decide)) (inSpan _ (by decide))).trans
      (rd64_of_view keyed (inKeySpan _ (by decide)) (inKeySpan _ (by decide)))
  have timed : ∀ f : Fld, f.addr = TG_STATUS_STARTED.addr → x.rd f = (started s start).rd f := fun f hf => by
    have keys : ∀ i, ¬(DET_RKEY i).addr = f.addr ∧ ¬(DET_BKEY i).addr = f.addr := fun i => by
      simp only [hf, DET_RKEY, DET_BKEY, TG_STATUS_STARTED]
      omega
    rw [rd_of_view kept (hf ▸ inSpan _ (by decide))]
    exact rd_of_view (view_formRunKey (W := (· = f.addr)) _ keys (by rw [hf]; decide)) rfl
  refine ⟨?_, ?_, hx ▸ hstart, hx ▸ hepoch, ?_, fun len fl h => ?_, fun late => ?_⟩
  · exact (bit_of_rd (timed TG_STATUS_STARTED rfl)).trans (State.bit_wrBit _ _ _ rfl (by decide))
  · exact (bit_of_rd (rd_of_view (f := DET_STAT_RKVALID) kept (inSpan _ (by decide)))).trans (formRunKey_status _).1
  · exact (rd_of_view kept (inSpan _ (by decide))).trans ((rd_of_view keyed (inKeySpan _ (by decide))).trans hs)
  · rw [hx, hnext, sect, seam, seamTick_some _ h]
  · obtain ⟨lost, reported⟩ := started_late s late
    refine ⟨(bit_of_rd (timed TG_STATUS_TIMING_LOST rfl)).trans lost, ?_⟩
    rw [hx, hflt]
    have formed : (started s start).formRunKey.flt = (started s start).flt := only_formRunKey _ .flt (by decide)
    exact keepsReports_takeSectLists _ _ _ _ (formed ▸ reported)

end

/-! ### O24 -/

theorem exec_firstEpochStart (t : Nat) (s : State) : exec (.firstEpochStart t) s = .next (s.at t).firstEpoch := rfl

theorem exec_seam (t : Nat) (s : State) : exec (.seam t) s = .next (s.at t).seam := rfl

/-- Settles O24: a seam counts, lets the writes that came in time take effect and begins the next epoch, and no part of either row past those
touches what tells how the job stands. -/
theorem seamsEndAndBeginEpochs : Obligations.SeamsEndAndBeginEpochs := by
  unfold Obligations.SeamsEndAndBeginEpochs
  intro t s
  refine ⟨fun start hstart hs hq hst hr hm => ⟨fun early => ?_, fun due => ?_⟩, fun hmay => ?_, fun hmay hs hflds hheld hm hp => ?_⟩
  · refine ⟨_, exec_firstEpochStart t s, ?_⟩
    rw [firstEpoch_idle (s.at t) start hstart early]
    exact s.only_at t
  · exact ⟨_, rfl, firstEpoch_spec (s.at t) start hs _ (firstEpoch_eq (s.at t) start hstart hs hq due hst hr hm)⟩
  · refine ⟨_, exec_seam t s, ?_⟩
    rw [seam_idle (s.at t) hmay]
    exact s.only_at t
  · have plain : Plain (s.at t) := ⟨hs, hheld, hm, hp⟩
    have casting : (counted (s.at t)).cst = s.cst := cst_counted _
    have noFlds : sect (counted (s.at t)).cst.img tyFLDS = [] := casting ▸ hflds
    have pends : ∀ ws, Counted (s.at t) (withCst (counted (s.at t)) { (counted (s.at t)).cst with spend := ws }) := fun ws => by
      have image : (counted (s.at t)).cst.img = s.cst.img := congrArg CstState.img casting
      exact counted_withCst _ _ image plain
    refine ⟨fun none => ?_, fun v tick hv one => ?_⟩
    · have changes := seamChanges_eq _ (s.rd64 TG_SEAM_LO + 1) (s.rd64 TG_NEXT_LO) noFlds
      rw [casting, none, List.filter_nil, List.filter_nil] at changes
      obtain ⟨begins, limit, -⟩ := seam_next (s.at t) _ _ hmay changes (casting ▸ pends [])
      exact ⟨_, exec_seam t s, begins, limit.trans (lateLimit_counted (s.at t))⟩
    · have pending : (counted (s.at t)).cst.spend = [⟨TG_LATE_LIMIT.addr, 0xFFFFFFFF, v, tick⟩] := casting ▸ one
      refine ⟨_, exec_seam t s, ?_⟩
      by_cases came : tick + 64 ≤ s.rd64 TG_NEXT_LO
      · have changes := seamChanges_inTime _ (s.rd64 TG_SEAM_LO + 1) (s.rd64 TG_NEXT_LO) noFlds pending (decide_eq_true came)
        rw [applyWrite_lateLimit] at changes
        obtain ⟨begins, limit, rest⟩ := seam_next (s.at t) _ _ hmay changes ((pends []).wr_lateLimit v)
        refine ⟨begins, fun _ => ⟨?_, congrArg CstState.spend rest⟩, fun late => absurd came (by omega)⟩
        rw [limit, State.rd_wr_same _ _ _ (by decide)]
        exact Nat.mod_eq_of_lt hv
      · have changes := seamChanges_late _ (s.rd64 TG_SEAM_LO + 1) (s.rd64 TG_NEXT_LO) noFlds pending (decide_eq_false came)
        obtain ⟨begins, limit, rest⟩ := seam_next (s.at t) _ _ hmay changes (pends _)
        exact ⟨begins, fun h => absurd h came, fun _ => ⟨limit.trans (lateLimit_counted (s.at t)),
          (congrArg CstState.spend rest).trans one.symm⟩⟩

end Sys2Proof.Proofs.Casting
end

section
/-! PROOFS. The shared rules of the time grid: its own part of the state, TG_NEXT, and symbols that a link brings (R84 to R95, R335). -/

open Sys2Proof Sys2Proof.Machine Sys2Proof.Proofs.Casting

namespace Sys2Proof.Proofs.Grid

/-- The node with another time grid. -/
def withTg (s : State) (g : TgState) : State := { s with tg := g }

theorem only_withTg (s : State) (g : TgState) : Only [.tg] s (withTg s g) := by
  intro p hp
  cases p
  case tg => simp at hp
  all_goals simp [Part.same, withTg, State.word, State.byteAt]

@[simp] theorem withTg_tg (s : State) (g : TgState) : (withTg s g).tg = g := rfl

@[simp] theorem withTg_flt (s : State) (g : TgState) : (withTg s g).flt = s.flt := rfl

@[simp] theorem rd_withTg (s : State) (g : TgState) (f : Fld) : (withTg s g).rd f = s.rd f := rfl

theorem words_withTg (s : State) (g : TgState) : WordsOnly [] s (withTg s g) := words_of_regs rfl

theorem only_setPort (s : State) (k : Nat) (p : Port) : Only [.fab] s (s.setPort k p) := by
  intro part hp
  cases part
  case fab => simp at hp
  all_goals simp [Part.same, State.setPort, State.word, State.byteAt]

theorem port_setPort (s : State) (k j : Nat) (p : Port) : (s.setPort k p).port j = if k = j then p else s.port j :=
  Sparse.get_set _ _ _ _ _

/-- No two writes meet in one 64-bit value (R8). -/
theorem rd64_wr64_ne (s : State) (f g : Fld) (v : Nat)
    (h : f.addr ≠ g.addr ∧ f.addr + 4 ≠ g.addr ∧ f.addr ≠ g.addr + 4) : (s.wr64 f v).rd64 g = s.rd64 g := by
  obtain ⟨low, high, below⟩ := h
  unfold State.rd64
  rw [rd_wr64_ne _ _ _ _ low high, rd_wr64_ne _ _ g.hi _ below fun e => low (Nat.add_right_cancel e)]

/-- A report that a unit of the grid flags (R513, R516). -/
theorem reports_fault (s : State) {c : FClass} (l k : Nat) (m : Master) (hc : c ≠ .mem) :
    (s.fault c l k m).flt.reports = s.flt.reports ++ [⟨c, l, k, m, 7, 0, s.now, false, false⟩] := by
  have uninjected : s.injMem c m 0 = false := by rw [State.injMem, beq_false_of_ne hc, Bool.false_and]
  rw [State.fault, State.flag_reports, uninjected]
  rfl

/-- A row whose condition fails changes nothing but the clock (log 2). -/
theorem idle_of_eq {c : Instr} {t : Nat} {s u : State} (hc : exec c s = .next u) (hu : u = s.at t) :
    ∃ x, exec c s = .next x ∧ Only [.clock] s x := ⟨u, hc, hu ▸ s.only_at t⟩

/-- What an operation that starts once the clock has moved may change. -/
theorem only_after_at {l : List Part} {s u : State} {t : Nat} (h : Only l (s.at t) u) : Only (.clock :: l) s u :=
  (s.only_at t).comp h (by simp) (by simp)

/-! ### Symbols -/

section
variable {s : State} {k : Nat} {u : List Byte}

/-- A port that carries no symbols receives none (R346). -/
theorem rxSymbol_down (allowed : List Nat) (sub : Nat) (h : s.rd (LK_STAT_STATE k) < 4) : s.rxSymbol k allowed u sub = s := if_pos h

variable (h : 4 ≤ s.rd (LK_STAT_STATE k))
include h

theorem rxSymbol_barrier (sub : Nat) (hty : symType u = some 1) :
    s.rxSymbol k [1] u sub = s.barrierRx k (symBody u) (64 * s.now + sub % 64) := by
  rw [State.rxSymbol, if_neg (Nat.not_lt.2 h), hty]
  rfl

theorem rxSymbol_timeinfo (sub : Nat) (hty : symType u = some 2) : s.rxSymbol k [2] u sub = s.timeinfoRx k (symBody u) := by
  rw [State.rxSymbol, if_neg (Nat.not_lt.2 h), hty]
  rfl

theorem rxSymbol_barevt (sub : Nat) (hty : symType u = some 3) : s.rxSymbol k [3] u sub = s.barevtRx k (symBody u) := by
  rw [State.rxSymbol, if_neg (Nat.not_lt.2 h), hty]
  rfl

theorem rxSymbol_techo (sub : Nat) (hty : symType u = some 5) :
    s.rxSymbol k [5] u sub = s.techoRx k (symBody u) (64 * s.now + sub % 64) := by
  rw [State.rxSymbol, if_neg (Nat.not_lt.2 h), hty]
  rfl

end

end Sys2Proof.Proofs.Grid
end

section
/-! PROOFS. BARRIER and TIMEINFO symbols from the port that the node takes time from, and from any other (R81 to R86, R337). -/

open Sys2Proof Sys2Proof.Machine Sys2Proof.Proofs.Casting

namespace Sys2Proof.Proofs.Grid

section
variable (s : State) (k hops : Nat) (o : Int)

/-! ### A barrier word from the parent -/

/-- The node that shows the parent of its time (R83, R109). -/
def parentShown : State := (s.setTimePort k).wr TG_STATUS_HOPS (min 31 (hops + 1))

/-- What a locked node shows of a barrier word that leaves it locked (R80, R81, R85). -/
def offsetShown : State :=
  (((withTg (parentShown s k hops) { s.tg with lockRun := 0 }).wr TG_STATUS_SYNC syLocked).wr TG_OFFSET (toWord32 o)).wr TG_SLEW (toWord32 (slewOf o))

theorem words_parentShown : WordsOnly [TG_STATUS_SYNC.addr] s (parentShown s k hops) :=
  ((s.words_wr TG_STATUS_PARENT_PORT _).trans (State.words_wr _ TG_STATUS_PARENT_DIR _)).trans (State.words_wr _ TG_STATUS_HOPS _)

/-- A field of TG_STATUS that tells nothing of the parent. -/
theorem rd_parentShown_ne {f : Fld} (h : TG_STATUS_PARENT_PORT.apart f) (h' : TG_STATUS_PARENT_DIR.apart f) (h'' : TG_STATUS_HOPS.apart f) :
    (parentShown s k hops).rd f = s.rd f := by
  rw [parentShown, State.setTimePort, State.rd_wr_ne _ _ _ _ (.inr h''), State.rd_wr_ne _ _ _ _ (.inr h'), State.rd_wr_ne _ _ _ _ (.inr h)]

theorem parentShown_spec : (parentShown s k hops).rd TG_STATUS_HOPS = min 31 (hops + 1) ∧
    (parentShown s k hops).rd TG_STATUS_PARENT_PORT = k % 16 ∧ (parentShown s k hops).rd TG_STATUS_PARENT_DIR = dirOf k % 8 := by
  refine ⟨?_, ?_, ?_⟩
  · rw [parentShown, State.rd_wr_same _ _ _ (by decide)]
    exact Nat.mod_eq_of_lt (Nat.lt_of_le_of_lt (Nat.min_le_left _ _) (by decide))
  · rw [parentShown, State.setTimePort, State.rd_wr_ne _ _ _ _ (by decide), State.rd_wr_ne _ _ _ _ (by decide),
      State.rd_wr_same _ _ _ (by decide)]
    exact Nat.mod_eq_of_lt (Nat.lt_trans (Nat.mod_lt _ (by decide)) (by decide))
  · rw [parentShown, State.setTimePort, State.rd_wr_ne _ _ _ _ (by decide), State.rd_wr_same _ _ _ (by decide)]
    rfl

variable {s} {o}

/-- A locked node that a barrier word leaves locked: no step, and no count of words (R81, R85, R86). -/
theorem followParent_locked (hs : s.rd TG_STATUS_SYNC = syLocked) (ho : s.nodeState = stUncast → o.natAbs ≤ 4096) :
    s.followParent k hops o = (offsetShown s k hops o).offsetCheck o := by
  delta State.followParent
  extract_lets shown sync uncast sync' run locked step o' stepped
  have state : shown.nodeState = s.nodeState := rd_of_words (words_parentShown s k hops) (by decide)
  have wasLocked : sync = syLocked := (rd_parentShown_ne s k hops (by decide) (by decide) (by decide)).trans hs
  have stays : sync' = syLocked := by
    refine (if_pos wasLocked).trans (if_neg fun far => ?_)
    simp only [uncast, state, Bool.and_eq_true, beq_iff_eq, decide_eq_true_eq] at far
    exact absurd (ho far.1) (Nat.not_le.2 far.2)
  have noAcquire : sync' ≠ syAcquire := by rw [stays]; decide
  have noRun : run = 0 := if_neg fun acquires => noAcquire acquires.1
  have unlocked : locked = false := by simp only [locked, noRun]; decide
  have noStep : step = 0 := if_neg fun acquires => noAcquire acquires.1
  have whole : o' = o := by simp only [o', noStep]; omega
  have still : stepped = shown := if_pos noStep
  show ((((withTg stepped { stepped.tg with lockRun := if locked = true then 0 else run }).wr TG_STATUS_SYNC
    (if locked = true then syLocked else sync')).wr TG_OFFSET (toWord32 o')).wr TG_SLEW (toWord32 (slewOf o'))).offsetCheck o' = _
  rw [still, unlocked, noRun, stays, whole]
  rfl

/-! ### The offset of a locked node -/

variable (s o)

/-- A field of TG_STATUS other than SYNC shows what it showed once the parent was known. -/
theorem rd_offsetShown {f : Fld} (ha : f.addr = TG_STATUS_SYNC.addr) (h : TG_STATUS_SYNC.apart f) :
    (offsetShown s k hops o).rd f = (parentShown s k hops).rd f := by
  rw [offsetShown, State.rd_wr_ne _ _ _ _ (.inl (by rw [ha]; decide)), State.rd_wr_ne _ _ _ _ (.inl (by rw [ha]; decide)),
    State.rd_wr_ne _ _ _ _ (.inr h), rd_withTg]

theorem offsetShown_spec : (offsetShown s k hops o).rd TG_STATUS_SYNC = syLocked ∧
    (offsetShown s k hops o).rd TG_OFFSET = toWord32 o ∧
    (offsetShown s k hops o).rd TG_STATUS_TIMING_LOST = s.rd TG_STATUS_TIMING_LOST ∧
    WordsOnly [TG_STATUS_SYNC.addr, TG_OFFSET.addr, TG_SLEW.addr] s (offsetShown s k hops o) ∧
    Only [.regs, .tg] s (offsetShown s k hops o) := by
  have range : toWord32 o < 2 ^ 32 := by
    unfold toWord32
    omega
  refine ⟨?_, ?_, ?_, ?_, ?_⟩
  · rw [offsetShown, State.rd_wr_ne _ _ _ _ (by decide), State.rd_wr_ne _ _ _ _ (by decide), State.rd_wr_same _ _ _ (by decide)]
    rfl
  · rw [offsetShown, State.rd_wr_ne _ _ _ _ (by decide), State.rd_wr_same _ _ _ (by decide)]
    exact Nat.mod_eq_of_lt range
  · rw [rd_offsetShown s k hops o (f := TG_STATUS_TIMING_LOST) rfl (by decide), rd_parentShown_ne s k hops (by decide) (by decide) (by decide)]
  · have known := (words_parentShown s k hops).trans ((words_withTg _ { s.tg with lockRun := 0 }).mono (by simp))
    exact (known.mono (by simp)).trans (((State.words_wr _ TG_STATUS_SYNC _).mono (by simp)).trans
      (((State.words_wr _ TG_OFFSET _).mono (by simp)).trans ((State.words_wr _ TG_SLEW _).mono (by simp))))
  · have known : Only [.regs] s (parentShown s k hops) := ((s.only_wr _ _).trans (State.only_wr _ _ _)).trans (State.only_wr _ _ _)
    have counted : Only [.regs, .tg] s (withTg (parentShown s k hops) { s.tg with lockRun := 0 }) :=
      known.comp (only_withTg _ _) (by simp) (by simp)
    exact counted.trans ((((State.only_wr _ _ _).trans (State.only_wr _ _ _)).trans (State.only_wr _ _ _)).mono (by simp))

/-- The parent that a locked node shows (R83, R109). -/
theorem offsetShown_parent : (offsetShown s k hops o).rd TG_STATUS_HOPS = min 31 (hops + 1) ∧
    (offsetShown s k hops o).rd TG_STATUS_PARENT_PORT = k % 16 ∧ (offsetShown s k hops o).rd TG_STATUS_PARENT_DIR = dirOf k % 8 := by
  obtain ⟨hops', port, dir⟩ := parentShown_spec s k hops
  exact ⟨(rd_offsetShown s k hops o (f := TG_STATUS_HOPS) rfl (by decide)).trans hops',
    (rd_offsetShown s k hops o (f := TG_STATUS_PARENT_PORT) rfl (by decide)).trans port,
    (rd_offsetShown s k hops o (f := TG_STATUS_PARENT_DIR) rfl (by decide)).trans dir⟩

/-- The node that shows an offset beyond 16 ticks (R86). -/
def offsetMarked : State := (withTg s { s.tg with offLost := true }).wrBit TG_STATUS_TIMING_LOST true

/-- The node that reported an offset beyond 16 ticks (R86). -/
def offsetLost : State := (offsetMarked s).fault .time 1 0 mTime

theorem rd_offsetLost (f : Fld) : (offsetLost s).rd f = (offsetMarked s).rd f := State.rd_fault (offsetMarked s) _ _ _ _ _ _ _ f

theorem offsetLost_spec : (offsetLost s).bit TG_STATUS_TIMING_LOST = true ∧
    (offsetLost s).flt.reports = s.flt.reports ++ [⟨.time, 1, 0, mTime, 7, 0, s.now, false, false⟩] := by
  have marked : (offsetMarked s).bit TG_STATUS_TIMING_LOST = true := State.bit_wrBit (withTg s _) _ _ rfl (by decide)
  exact ⟨(bit_of_rd (rd_offsetLost s _)).trans marked, rfl⟩

theorem only_offsetLost : Only [.regs, .tg, .flt] s (offsetLost s) := by
  have marked : Only [.regs, .tg] s (offsetMarked s) := (only_withTg s _).comp (State.only_wrBit _ _ _) (by simp) (by simp)
  exact marked.comp (State.only_fault _ _ _ _ _ _ _ _) (by simp) (by simp)

theorem words_offsetLost : WordsOnly [TG_STATUS_TIMING_LOST.addr] s (offsetLost s) := by
  have marked : WordsOnly [TG_STATUS_TIMING_LOST.addr] s (offsetMarked s) :=
    ((words_withTg s _).mono (by simp)).trans (State.words_wrBit _ TG_STATUS_TIMING_LOST true)
  exact marked.trans ((words_of_regs rfl).mono (by simp))

theorem offsetCheck_lost (hf : s.inForce = true) (hfar : 1024 < o.natAbs) (hl : s.tg.offLost = false) : s.offsetCheck o = offsetLost s :=
  if_pos (by rw [hf, decide_eq_true hfar, hl]; rfl)

theorem offsetCheck_near (h : o.natAbs ≤ 1024) : s.offsetCheck o = withTg s { s.tg with offLost := false } := by
  have near : decide (1024 < o.natAbs) = false := decide_eq_false (Nat.not_lt.2 h)
  delta State.offsetCheck
  simp only [near]
  rw [if_neg (by simp), Bool.and_false]
  rfl

/-- The judgment of an offset sets TIMING_LOST and reports it, or changes neither (R86). -/
theorem offsetCheck_cases : s.offsetCheck o = offsetLost s ∨ ∃ b, s.offsetCheck o = withTg s { s.tg with offLost := b } := by
  delta State.offsetCheck
  extract_lets beyond
  split_ifs
  · exact .inl rfl
  · exact .inr ⟨_, rfl⟩

/-- What the judgment of an offset leaves (R86). -/
theorem offsetCheck_keeps : (∀ f : Fld, f.addr ≠ TG_STATUS_TIMING_LOST.addr ∨ TG_STATUS_TIMING_LOST.apart f → (s.offsetCheck o).rd f = s.rd f) ∧
    (s.offsetCheck o).now = s.now ∧ WordsOnly [TG_STATUS_TIMING_LOST.addr] s (s.offsetCheck o) ∧
    Only [.regs, .tg, .flt] s (s.offsetCheck o) := by
  rcases offsetCheck_cases s o with lost | ⟨b, kept⟩
  · rw [lost]
    exact ⟨fun f hf => (rd_offsetLost s f).trans (State.rd_wrBit_ne (withTg s _) _ _ _ (hf.imp_left Ne.symm)), rfl, words_offsetLost s,
      only_offsetLost s⟩
  · rw [kept]
    exact ⟨fun f _ => rfl, rfl, (words_withTg s _).mono (by simp), (only_withTg s _).mono (by simp)⟩

/-- What a barrier word leaves of a locked node that it leaves locked (R80, R81, R85, R86). -/
theorem followParent_spec (hs : s.rd TG_STATUS_SYNC = syLocked) (ho : s.nodeState = stUncast → o.natAbs ≤ 4096) (x : State)
    (hx : s.followParent k hops o = x) :
    x.now = s.now ∧ x.rd TG_STATUS_SYNC = syLocked ∧ x.rd TG_STATUS_HOPS = min 31 (hops + 1) ∧ x.rd TG_STATUS_PARENT_PORT = k % 16 ∧
      x.rd TG_STATUS_PARENT_DIR = dirOf k % 8 ∧ x.rd TG_OFFSET = toWord32 o ∧
      (s.inForce = true → 1024 < o.natAbs → s.tg.offLost = false → x.bit TG_STATUS_TIMING_LOST = true ∧
        x.flt.reports = s.flt.reports ++ [⟨.time, 1, 0, mTime, 7, 0, s.now, false, false⟩]) ∧
      (o.natAbs ≤ 1024 → x.rd TG_STATUS_TIMING_LOST = s.rd TG_STATUS_TIMING_LOST ∧ x.flt = s.flt) ∧
      WordsOnly [TG_STATUS_SYNC.addr, TG_OFFSET.addr, TG_SLEW.addr] s x ∧ Only [.regs, .tg, .flt] s x := by
  obtain ⟨sync, offset, lost, words, only⟩ := offsetShown_spec s k hops o
  obtain ⟨hops', port, dir⟩ := offsetShown_parent s k hops o
  rw [followParent_locked k hops hs ho] at hx
  have state : (offsetShown s k hops o).nodeState = s.nodeState := rd_of_words words (by decide)
  have clock : (offsetShown s k hops o).now = s.now := (only .clock (by decide)).1
  have flt : (offsetShown s k hops o).flt = s.flt := only .flt (by decide)
  have unreported : (offsetShown s k hops o).tg.offLost = s.tg.offLost := by
    rw [offsetShown, State.wr_tg, State.wr_tg, State.wr_tg, withTg_tg]
  generalize offsetShown s k hops o = y at *
  subst hx
  obtain ⟨fields, now, words', only'⟩ := offsetCheck_keeps y o
  refine ⟨now.trans clock, (fields _ (by decide)).trans sync, (fields _ (by decide)).trans hops', (fields _ (by decide)).trans port,
    (fields _ (by decide)).trans dir, (fields _ (by decide)).trans offset, fun force far fresh => ?_, fun near => ?_,
    words.trans (words'.mono (by decide)), (only.mono (by simp)).trans only'⟩
  · rw [offsetCheck_lost y o (by rw [State.inForce, state]; exact force) far (unreported.trans fresh), ← flt, ← clock]
    exact offsetLost_spec y
  · rw [offsetCheck_near y o near, rd_withTg, withTg_flt]
    exact ⟨lost, flt⟩

/-! ### Symbols of a port -/

variable (body arr : Nat)

/-- The node that received a barrier word on a port (R337). -/
def heard : State := s.setPort k { s.port k with rxBar := some (body / 2 ^ 15 % 2 ^ 3, arr) }

theorem barrierRx_eq (h : body / 2 ^ 21 % 2 = 0) : s.barrierRx k body arr =
    if (s.follows && s.timePort == some k) = true then
      (heard s k body arr).followParent k (body / 2 ^ 10 % 32)
        ((body / 2 ^ 22 % 2 ^ 70 : Nat) + (s.rd (TG_LDLY_DELAY k) : Nat) - (arr : Nat))
    else heard s k body arr := by
  have noMeasure : ¬(body / 2 ^ 21 % 2 ^ 1 = 1 ∧ (heard s k body arr).measureDue k = true) := fun due => by omega
  delta State.barrierRx
  extract_lets f p s1 s2
  have unmeasured : s2 = heard s k body arr := if_neg noMeasure
  rw [unmeasured]
  rfl

theorem barrierRx_parent (h : body / 2 ^ 21 % 2 = 0) (hf : s.follows = true) (hp : s.timePort = some k) : s.barrierRx k body arr =
    (heard s k body arr).followParent k (body / 2 ^ 10 % 32)
      ((body / 2 ^ 22 % 2 ^ 70 : Nat) + (s.rd (TG_LDLY_DELAY k) : Nat) - (arr : Nat)) :=
  (barrierRx_eq s k body arr h).trans (if_pos (by simp [hf, hp]))

theorem barrierRx_other (h : body / 2 ^ 21 % 2 = 0) (ho : s.follows = false ∨ s.timePort ≠ some k) :
    s.barrierRx k body arr = heard s k body arr :=
  (barrierRx_eq s k body arr h).trans (if_neg (by rcases ho with ho | ho <;> simp [ho]))

/-- The PPS phase and the TAI seconds that a TIMEINFO symbol gives (R84). -/
def timeGiven : TgState :=
  { s.tg with phase := some (body / 2 ^ 8 % 2 ^ 64), tai := if body / 2 ^ 72 % 2 ^ 48 = 0 then none else some (body / 2 ^ 72 % 2 ^ 48) }

theorem timeinfoRx_parent (hf : s.follows = true) (hp : s.timePort = some k) : s.timeinfoRx k body = withTg s (timeGiven s body) :=
  if_pos (by simp [hf, hp])

theorem timeinfoRx_other (ho : s.follows = false ∨ s.timePort ≠ some k) : s.timeinfoRx k body = s :=
  if_neg (by rcases ho with ho | ho <;> simp [ho])

variable {s k} {u : List Byte} (t : Nat) (h : 4 ≤ s.rd (LK_STAT_STATE k))
include h

theorem exec_barrierRx (sub : Nat) (hty : symType u = some 1) :
    exec (.barrierRx t k u sub) s = .next ((s.at t).barrierRx k (symBody u) (64 * max s.now t + sub % 64)) :=
  congrArg Host.Outcome.next (rxSymbol_barrier (s := s.at t) h sub hty)

theorem exec_timeinfoRx (hty : symType u = some 2) : exec (.timeinfoRx t k u) s = .next ((s.at t).timeinfoRx k (symBody u)) :=
  congrArg Host.Outcome.next (rxSymbol_timeinfo (s := s.at t) h 0 hty)

end

/-! ### O19 -/

/-- Settles O19: the locked node shows its parent and the offset of a barrier word, and the offset is then judged. -/
theorem timeFollowsTheParent : Obligations.TimeFollowsTheParent := by
  unfold Obligations.TimeFollowsTheParent
  intro t k sub u s link
  refine ⟨fun type plain follows port locked range => ?_, fun type plain other => ?_,
    fun type => ⟨fun follows port => ?_, fun other => ?_⟩⟩
  · have heardOnly : Only [.clock, .fab] s (heard (s.at t) k (symBody u) (64 * max s.now t + sub % 64)) :=
      only_after_at (only_setPort (s.at t) k _)
    obtain ⟨now, sync, hops, port', dir, offset, lost, near, words, only⟩ :=
      followParent_spec (heard (s.at t) k (symBody u) (64 * max s.now t + sub % 64)) k (symBody u / 2 ^ 10 % 32) _ locked range _ rfl
    exact ⟨_, (exec_barrierRx t link sub type).trans (congrArg Host.Outcome.next (barrierRx_parent (s.at t) k _ _ plain follows port)),
      now, sync, hops, port', dir, offset, lost, near, words, (heardOnly.mono (by simp)).trans (only.mono (by simp))⟩
  · refine ⟨_, (exec_barrierRx t link sub type).trans (congrArg Host.Outcome.next (barrierRx_other (s.at t) k _ _ plain other)), rfl,
      only_after_at (only_setPort _ _ _), fun j hj => ?_⟩
    exact (port_setPort _ _ _ _).trans (if_neg (Ne.symm hj))
  · exact ⟨_, (exec_timeinfoRx t link type).trans (congrArg Host.Outcome.next (timeinfoRx_parent (s.at t) k _ follows port)), rfl,
      only_after_at (only_withTg _ _)⟩
  · exact idle_of_eq (exec_timeinfoRx t link type) (timeinfoRx_other (s.at t) k _ other)

end Sys2Proof.Proofs.Grid
end

section
/-! PROOFS. What the release of cells, packets and records, and symbols that leave, spare of the links (R330, R350, R366 to R370, R384, R482). -/

open Sys2Proof Sys2Proof.Machine Sys2Proof.Proofs.Casting

namespace Sys2Proof.Proofs.Grid

/-! ### Operations that spare the links -/

/-- Words below the fault collector's, but for TG_STATUS, and the words of the link blocks. -/
def linkWord (a : Nat) : Prop := (a < 0x100000 ∧ a ≠ TG_STATUS_SYNC.addr) ∨ (0x400000 ≤ a ∧ a < 0x420000)

/-- A port that receives no packet, and on which nothing waits for a replay. -/
def Quiet (p : Port) : Prop := p.txHeld = [] ∧ p.openRx = none

/-- An operation that writes no link word and gives no quiet port anything to receive or to replay. -/
structure SparesLinks (s u : State) : Prop where
  only : Only [.regs, .fab, .tg, .flt, .outs] s u
  words : ∀ a, linkWord a → u.word a = s.word a
  quiet : ∀ j, Quiet (s.port j) → Quiet (u.port j)

theorem SparesLinks.rfl {s : State} : SparesLinks s s := ⟨Only.rfl, fun _ _ => Eq.refl _, fun _ h => h⟩

theorem SparesLinks.trans {s u v : State} (h : SparesLinks s u) (k : SparesLinks u v) : SparesLinks s v :=
  ⟨h.only.trans k.only, fun a ha => (k.words a ha).trans (h.words a ha), fun j hj => k.quiet j (h.quiet j hj)⟩

theorem SparesLinks.ite {s u v : State} {c : Prop} [Decidable c] (h : SparesLinks s u) (k : SparesLinks s v) :
    SparesLinks s (if c then u else v) := by
  split <;> assumption

theorem SparesLinks.foldl {α : Type} (f : State → α → State) (h : ∀ s x, SparesLinks s (f s x)) :
    ∀ (l : List α) (s : State), SparesLinks s (l.foldl f s)
  | [], _ => SparesLinks.rfl
  | x :: l, s => (h s x).trans (SparesLinks.foldl f h l (f s x))

/-- A fold that carries a value beside the state. -/
theorem SparesLinks.foldl_snd {α β : Type} (f : β × State → α → β × State) (h : ∀ r x, SparesLinks r.2 (f r x).2) :
    ∀ (l : List α) (r : β × State), SparesLinks r.2 (l.foldl f r).2
  | [], _ => SparesLinks.rfl
  | x :: l, r => (h r x).trans (SparesLinks.foldl_snd f h l (f r x))

section
variable (s : State)

/-- An update of parts that hold neither a register nor the ports. -/
theorem SparesLinks.of_only {l : List Part} {u : State} (h : Only l s u) (hl : l ⊆ [.tg, .flt, .outs]) : SparesLinks s u := by
  have outside : ∀ p, p ∉ [Part.tg, .flt, .outs] → p.same s u := fun p hp => h p fun hm => hp (hl hm)
  have fab : u.fab = s.fab := outside .fab (by decide)
  refine ⟨h.mono fun p hp => ?_, fun a _ => outside .regs (by decide) a, fun j hj => ?_⟩
  · have := hl hp
    simp only [List.mem_cons, List.not_mem_nil, or_false] at this ⊢
    tauto
  · rw [State.port, fab]
    exact hj

theorem spares_fault (c : FClass) (l k : Nat) (m : Master) (x y : Nat) (i : Bool) : SparesLinks s (s.fault c l k m x y i) :=
  .of_only s (s.only_fault _ _ _ _ _ _ _) (by simp)

theorem spares_faultConseq (c : FClass) (l k : Nat) (m : Master) : SparesLinks s (s.faultConseq c l k m) :=
  .of_only s (s.only_flag _) (by simp)

theorem spares_out (o : Out) : SparesLinks s (s.out o) := .of_only s (s.only_out o) (by simp)

theorem spares_withTg (g : TgState) : SparesLinks s (withTg s g) := .of_only s (only_withTg s g) (by simp)

theorem spares_wr {f : Fld} (v : Nat) (h : ¬linkWord f.addr) : SparesLinks s (s.wr f v) := by
  refine ⟨(s.only_wr f v).mono (by simp), fun a ha => s.words_wr f v a ?_, fun j hj => hj⟩
  simp only [List.mem_singleton]
  rintro rfl
  exact h ha

theorem spares_wrBit {f : Fld} (b : Bool) (h : ¬linkWord f.addr) : SparesLinks s (s.wrBit f b) := spares_wr s _ h

theorem spares_addSat {f : Fld} (n : Nat) (h : ¬linkWord f.addr) : SparesLinks s (s.addSat f n) := spares_wr s _ h

/-- The fabric with another state. -/
def withFab (g : FabState) : State := { s with fab := g }

theorem only_withFab (g : FabState) : Only [.fab] s (withFab s g) := by
  intro p hp
  cases p
  case fab => simp at hp
  all_goals simp [Part.same, withFab, State.word, State.byteAt]

/-- An update of the fabric beside its ports. -/
theorem spares_withFab {g : FabState} (h : g.ports = s.fab.ports) : SparesLinks s (withFab s g) := by
  refine ⟨(only_withFab s g).mono (by simp), fun _ _ => Eq.refl _, fun j hj => ?_⟩
  have same : (withFab s g).port j = s.port j := congrArg (fun m => Sparse.get (fun _ => Port.init) m j) h
  rwa [same]

theorem spares_setPort {k : Nat} {p : Port} (h : Quiet (s.port k) → Quiet p) : SparesLinks s (s.setPort k p) := by
  refine ⟨(only_setPort s k p).mono (by simp), fun _ _ => Eq.refl _, fun j hj => ?_⟩
  rw [port_setPort]
  split
  · rename_i same
    exact h (same ▸ hj)
  · exact hj

/-! ### Symbols -/

theorem faultWords_spared : ¬linkWord FLT_INJ_LEFT_LEFT.addr ∧ ¬linkWord FLT_INJ_LEFT_ARMED.addr := by
  simp only [linkWord, FLT_INJ_LEFT_LEFT, FLT_INJ_LEFT_ARMED]
  omega

theorem spares_takeInj (kind idx : Nat) : SparesLinks s (s.takeInj kind idx).2 := by
  obtain ⟨left, armed⟩ := faultWords_spared
  unfold State.takeInj
  split
  · exact (spares_wr s _ left).trans (.ite (spares_wrBit _ _ armed) .rfl)
  · exact .rfl

theorem spares_queueSym (k prio ty body : Nat) : SparesLinks s (s.queueSym k prio ty body) := spares_setPort s fun h => h

theorem spares_unitsSent (k n : Nat) : SparesLinks s (s.unitsSent k n) := by
  delta State.unitsSent
  extract_lets p c sym s1
  have counted : SparesLinks s s1 := spares_setPort s fun h => h
  split
  rename_i hits s2 injected
  have h2 : SparesLinks s1 s2 := by
    rw [show s2 = _ from (congrArg Prod.snd injected).symm]
    refine SparesLinks.foldl_snd _ (fun r _ => ?_) _ (0, s1)
    exact spares_takeInj r.2 5 k
  exact .ite (counted.trans h2) ((counted.trans h2).trans (spares_out s2 _))

theorem spares_sendSym (k ty body : Nat) : SparesLinks s (s.sendSym k ty body) :=
  ((spares_takeInj s 7 k).trans (spares_out _ _)).trans (spares_unitsSent _ k 1)

/-! ### Cells -/

theorem poolWords_spared (d : Nat) : ¬linkWord (BP_RELREF d).addr ∧ ¬linkWord (BP_FIRST_CAUSE d).addr ∧ ¬linkWord (BP_FIRST_CELL d).addr ∧
    ¬linkWord (BP_FIRST_VALID d).addr := by
  simp only [linkWord, BP_RELREF, BP_FIRST_CAUSE, BP_FIRST_CELL, BP_FIRST_VALID]
  omega

theorem flush_spared (d : Nat) : ¬linkWord (BP_FLUSH d).addr := by
  simp only [linkWord, BP_FLUSH]
  omega

theorem kept_spared (k : Nat) : ¬linkWord (SW_PSTAT_KEPT k).addr := by
  simp only [linkWord, SW_PSTAT_KEPT]
  omega

theorem spares_bpFirst (d cause cell : Nat) : SparesLinks s (s.bpFirst d cause cell) := by
  obtain ⟨-, hcause, hcell, hvalid⟩ := poolWords_spared d
  exact .ite .rfl (((spares_wr s _ hcause).trans (spares_wr _ _ hcell)).trans (spares_wrBit _ _ hvalid))

theorem spares_setCells (l : List PCell) : SparesLinks s (s.setCells l) := spares_withFab s (Eq.refl _)

theorem spares_releaseCell (c : Nat × Nat) (o : Owner) : SparesLinks s (s.releaseCell c o) := by
  have freed : SparesLinks s (s.setCell c fun x => { x with holds := x.holds.filter (fun h => h.1 ≠ o) }) := spares_setCells s _
  have refused := (spares_addSat s 1 (poolWords_spared c.1).1).trans (spares_bpFirst _ c.1 1 c.2)
  exact .ite .rfl (.ite (freed.trans (spares_withFab _ (Eq.refl _))) (refused.trans (spares_fault _ _ _ _ _ _ _ _)))

theorem spares_freeCredit (k vc : Nat) : SparesLinks s (s.freeCredit k vc) :=
  .ite ((spares_setPort s fun h => by exact h).trans (spares_queueSym _ k _ _ _)) (spares_setPort s fun h => by exact h)

theorem spares_releaseEnt (k q : Nat) (c : Nat × Nat) : SparesLinks s (s.releaseEnt k q c) := by
  have released := spares_releaseCell s c (.queue k q)
  unfold State.releaseEnt
  dsimp only
  split
  · exact .ite (released.trans (spares_freeCredit _ _ _)) released
  · exact released

theorem spares_dropCopies (k : Nat) (fence : Bool) : SparesLinks s (s.dropCopies k fence).2 := by
  delta State.dropCopies
  extract_lets p uni mul held s1 mqs txs fab s2 gone
  have emptied : SparesLinks s s1 := spares_setPort s fun h => h
  have listed : SparesLinks s1 s2 := spares_withFab s1 (Eq.refl _)
  exact (emptied.trans listed).trans (SparesLinks.foldl _ (fun s e => spares_releaseEnt s k e.1 e.2) gone s2)

/-- Cells released one after another. -/
theorem spares_releaseCells {α : Type} (c : α → Nat × Nat) (o : α → Owner) (l : List α) :
    SparesLinks s (l.foldl (fun s e => s.releaseCell (c e) (o e)) s) := SparesLinks.foldl _ (fun s e => spares_releaseCell s (c e) (o e)) l s

theorem spares_dropCred (k : Nat) : SparesLinks s (s.dropCred k).2 := by
  delta State.dropCred
  extract_lets mine
  split
  rename_i n s1 emptied
  extract_lets mul fab s2 s3
  have h1 : SparesLinks s s1 := by
    rw [show s1 = _ from (congrArg Prod.snd emptied).symm]
    refine SparesLinks.foldl_snd _ (fun r j => ?_) _ (0, s)
    extract_lets p gone t
    split
    · exact .rfl
    · exact (spares_setPort r.2 fun h => by exact h).trans (spares_releaseCells t (·.2) (fun e => .queue j e.1) gone)
  have h2 : SparesLinks s1 s2 := spares_withFab s1 (Eq.refl _)
  have h3 : SparesLinks s2 s3 := spares_releaseCells s2 (fun e => e.2.2) (fun e => .queue e.1 e.2.1) mul
  exact ((h1.trans h2).trans h3).trans (spares_setCells s3 _)

theorem spares_freeRest (o : OpenPkt) : SparesLinks s (s.freeRest o) := by
  unfold State.freeRest
  split
  · exact spares_releaseCells s id (fun _ => _) _
  · exact .rfl

theorem spares_closePacket (k : Nat) (keep : Bool) : SparesLinks s (s.closePacket k keep) := by
  delta State.closePacket
  extract_lets p
  split
  · exact (spares_setPort s fun h => ⟨by exact h.1, by rfl⟩).trans (spares_freeRest _ _)
  · exact .rfl

theorem spares_expireRecs {u : Nat} (p : TmRec → Bool) (hu : u < 512) : SparesLinks s (s.expireRecs u p) := by
  have expired : ¬linkWord (TM_EXPIRED u).addr := by
    simp only [linkWord, TM_EXPIRED]
    omega
  delta State.expireRecs
  extract_lets l gone keep rest recs fab
  exact .ite .rfl ((spares_withFab s (g := { fab with tmRecs := recs }) (Eq.refl _)).trans (spares_addSat _ _ expired))

/-! ### The time of a port that goes down -/

theorem spares_timePortLost (k : Nat) : SparesLinks s (s.timePortLost k) := by
  have status : ∀ f : Fld, f.addr = TG_STATUS_SYNC.addr → ¬linkWord f.addr := fun f hf h => by
    simp only [linkWord, hf, TG_STATUS_SYNC] at h
    omega
  delta State.timePortLost
  split
  · extract_lets s1
    have shown : SparesLinks s s1 := by
      dsimp only [s1]
      split
      · exact (spares_wr s _ (status TG_STATUS_PARENT_PORT (Eq.refl _))).trans (spares_wr _ _ (status TG_STATUS_PARENT_DIR (Eq.refl _)))
      · exact spares_wr s _ (status TG_STATUS_SYNC (Eq.refl _))
    exact shown.trans (spares_fault s1 _ _ _ _ _ _ _)
  · exact .rfl

end

end Sys2Proof.Proofs.Grid
end

section
/-! PROOFS. A port goes down, and rises again where nothing holds it (R346, R350, R353, R384, R385). -/

open Sys2Proof Sys2Proof.Machine Sys2Proof.Proofs.Casting

namespace Sys2Proof.Proofs.Grid

section
variable (s : State) {k : Nat}

/-! ### Bring-up -/

/-- A field that a change of a port's state leaves (R346). -/
def KeptByState (k : Nat) (f : Fld) : Prop := (LK_STAT_STATE k).addr ≠ f.addr ∨ (LK_STAT_STATE k).apart f

theorem rd_toPortState (st : Nat) {f : Fld} (h : KeptByState k f) : (s.toPortState k st).rd f = s.rd f := State.rd_wr_ne _ _ _ _ h

theorem state_toPortState {st : Nat} (h : st < 8) : (s.toPortState k st).rd (LK_STAT_STATE k) = st :=
  (State.rd_wr_same _ _ _ (show 0 + 3 ≤ 32 by decide)).trans (Nat.mod_eq_of_lt h)

theorem only_toPortState (st : Nat) : Only [.regs, .fab] s (s.toPortState k st) :=
  (only_setPort s k _).comp (State.only_wr _ _ _) (by simp) (by simp)

theorem quiet_toPortState (st : Nat) (h : Quiet (s.port k)) : Quiet ((s.toPortState k st).port k) := by
  have stored : (s.toPortState k st).port k =
      { s.port k with since := s.now, downAt := if st = 5 then none else (s.port k).downAt } := (port_setPort s k k _).trans (if_pos rfl)
  rw [stored]
  exact h

theorem all_lanes_congr {p q : Nat → Bool} (hk : k < 256) (h : ∀ n < 1024, p n = q n) : (lanesOf k).all p = (lanesOf k).all q := by
  have lane : ∀ n ∈ lanesOf k, n < 1024 := fun n hn => by
    obtain ⟨i, hi, rfl⟩ := List.mem_map.1 hn
    have := List.mem_range.1 hi
    omega
  rw [Bool.eq_iff_iff, List.all_eq_true, List.all_eq_true]
  exact forall₂_congr fun n hn => by rw [h n (lane n hn)]

/-- What tells whether a port may rise is kept by a change of its state (R346, R522, R591). -/
theorem mayRise_toPortState (st : Nat) (hk : k < 256) : (s.toPortState k st).mayRise k = s.mayRise k := by
  have bits : ∀ f, KeptByState k f → (s.toPortState k st).bit f = s.bit f := fun f hf => bit_of_rd (rd_toPortState s st hf)
  have power : ∀ d < 64, (s.toPortState k st).domOn d = s.domOn d := fun d hd => by
    rw [State.domOn, rd_toPortState s st, State.domOn]
    exact .inl (by simp only [LK_STAT_STATE, PWR_STATE_STATE]; omega)
  have admin : KeptByState k (LK_CTRL_ADMIN k) := .inl (by simp only [LK_STAT_STATE, LK_CTRL_ADMIN]; omega)
  have use : KeptByState k (LK_CFG_USE k) := .inl (by simp only [LK_STAT_STATE, LK_CFG_USE]; omega)
  have held : KeptByState k (LK_STAT_HELD k) := .inr (.inl (by simp only [LK_STAT_STATE, LK_STAT_HELD]; omega))
  have quench : KeptByState k FLT_STAT_NODEQ := .inl (by simp only [LK_STAT_STATE, FLT_STAT_NODEQ]; omega)
  have lanes : (lanesOf k).all (fun n => (s.toPortState k st).bit (LN_STAT_SIG n)) = (lanesOf k).all (fun n => s.bit (LN_STAT_SIG n)) :=
    all_lanes_congr hk fun n hn => bits _ (.inl (by simp only [LK_STAT_STATE, LN_STAT_SIG]; omega))
  have die : dieOf k < 2 := by unfold dieOf; omega
  simp only [State.mayRise, State.portUse, State.nodeQuenched, State.portPower, bits _ admin, bits _ use, bits _ held, bits _ quench, lanes,
    power 48 (by decide), power (32 + k / 32) (by omega), power (40 + dieOf k) (by omega)]

theorem lanesReady_toPortState (st : Nat) (hk : k < 256) : (s.toPortState k st).lanesReady k = s.lanesReady k :=
  all_lanes_congr hk fun n hn => by
    rw [bit_of_rd (rd_toPortState s st (f := LN_STAT_FAILED n) (.inl (by simp only [LK_STAT_STATE, LN_STAT_FAILED]; omega)))]
    rfl

/-- The state that a port which leaves DOWN takes where it may (R346). -/
def risenState (u : State) (k : Nat) : Nat := if u.mayRise k then (if u.lanesReady k then 2 else 1) else 0

/-- A state that bring-up left another one for: fields beside the port's state are kept, and the port stays quiet. -/
structure Rises (k : Nat) (s u : State) : Prop where
  fields : ∀ f, KeptByState k f → u.rd f = s.rd f
  may : u.mayRise k = s.mayRise k
  ready : u.lanesReady k = s.lanesReady k
  quiet : Quiet (s.port k) → Quiet (u.port k)
  only : Only [.regs, .fab] s u

variable {s} in
theorem Rises.trans {u v : State} (h : Rises k s u) (h' : Rises k u v) : Rises k s v :=
  ⟨fun f hf => (h'.fields f hf).trans (h.fields f hf), h'.may.trans h.may, h'.ready.trans h.ready, fun q => h'.quiet (h.quiet q),
    h.only.trans h'.only⟩

theorem rises_toPortState (st : Nat) (hk : k < 256) : Rises k s (s.toPortState k st) :=
  ⟨fun _ => rd_toPortState s st, mayRise_toPortState s st hk, lanesReady_toPortState s st hk, quiet_toPortState s st, only_toPortState s st⟩

/-- A port that is DOWN rises as far as it may (R346). -/
theorem trySignal_spec (hk : k < 256) (h : s.rd (LK_STAT_STATE k) = 0) :
    Rises k s (s.trySignal k) ∧ (s.trySignal k).rd (LK_STAT_STATE k) = risenState (s.trySignal k) k := by
  have signal := rises_toPortState s 1 hk
  have signalled : (s.toPortState k 1).rd (LK_STAT_STATE k) = 1 := state_toPortState s (by decide)
  unfold State.trySignal State.tryAlign
  by_cases may : s.mayRise k = true
  · rw [if_pos ⟨h, may⟩]
    by_cases ready : s.lanesReady k = true
    · have align := signal.trans (rises_toPortState (s.toPortState k 1) 2 hk)
      rw [if_pos ⟨signalled, signal.ready.trans ready⟩]
      refine ⟨align, (state_toPortState _ (by decide)).trans ?_⟩
      rw [risenState, align.may, align.ready, if_pos may, if_pos ready]
    · rw [if_neg fun both => ready (signal.ready.symm.trans both.2)]
      refine ⟨signal, signalled.trans ?_⟩
      rw [risenState, signal.may, signal.ready, if_pos may, if_neg ready]
  · rw [if_neg fun both => may both.2]
    exact ⟨⟨fun _ _ => rfl, rfl, rfl, id, Only.rfl⟩, h.trans (if_neg may).symm⟩

/-! ### A port goes down -/

/-- What the registers show of a port that has gone down and has not yet risen (R350, R353). -/
structure Lowered (k cause : Nat) (s u : State) : Prop where
  state : u.rd (LK_STAT_STATE k) = 0
  shown : u.rd (LK_STAT_CAUSE k) = cause
  held : u.bit (LK_STAT_HELD k) = (cause == 2 || !s.bit (LK_CTRL_ADMIN k) || !s.bit (LK_CFG_USE k))
  downs : u.rd (LK_STAT_DOWNS k) = min (s.rd (LK_STAT_DOWNS k) + 1) (2 ^ (LK_STAT_DOWNS k).width - 1)
  sum : u.rd LK_SUM_DOWNS = min (s.rd LK_SUM_DOWNS + 1) (2 ^ LK_SUM_DOWNS.width - 1)
  valid : u.bit (TG_LDLY_VALID k) = false

/-- The words that tell how a port stands, or fell. -/
def standWords (k : Nat) : List Nat :=
  [(LK_STAT_STATE k).addr, LK_SUM_DOWNS.addr, (LK_CTRL_ADMIN k).addr, (LK_CFG_USE k).addr, (TG_LDLY_VALID k).addr]

theorem linkWord_stand (hk : k < 256) : ∀ a ∈ standWords k, linkWord a := by
  simp only [standWords, linkWord, LK_STAT_STATE, LK_SUM_DOWNS, LK_CTRL_ADMIN, LK_CFG_USE, TG_LDLY_VALID, TG_STATUS_SYNC, List.mem_cons,
    List.not_mem_nil, or_false]
  omega

/-- The link delay and what waited for a replay are lost (R350). -/
def cutOff (s : State) (k gone : Nat) : State := (s.wrBit (TG_LDLY_VALID k) false).addSat (LK_UNCORR k) gone

theorem words_cutOff (gone : Nat) : WordsOnly [(TG_LDLY_VALID k).addr, (LK_UNCORR k).addr] s (cutOff s k gone) :=
  ((s.words_wrBit _ _).mono (by simp)).trans ((State.words_addSat _ _ _).mono (by simp))

/-- A port shows DOWN with its cause (R350). -/
def shownCause (s : State) (k cause : Nat) : State := (s.wr (LK_STAT_STATE k) 0).wr (LK_STAT_CAUSE k) cause

theorem words_shownCause (cause : Nat) : WordsOnly [(LK_STAT_STATE k).addr] s (shownCause s k cause) :=
  (s.words_wr (LK_STAT_STATE k) 0).trans (State.words_wr _ (LK_STAT_CAUSE k) _)

/-- A port shows DOWN with its cause, held or not (R350, R353). -/
def shownDown (s : State) (k cause : Nat) (held : Bool) : State := (shownCause s k cause).wrBit (LK_STAT_HELD k) held

theorem shownDown_spec {cause : Nat} (hc : cause < 32) (held : Bool) : (shownDown s k cause held).rd (LK_STAT_STATE k) = 0 ∧
    (shownDown s k cause held).rd (LK_STAT_CAUSE k) = cause ∧ (shownDown s k cause held).bit (LK_STAT_HELD k) = held ∧
    (shownDown s k cause held).rd (LK_STAT_DOWNS k) = s.rd (LK_STAT_DOWNS k) := by
  have causeState : (LK_STAT_CAUSE k).apart (LK_STAT_STATE k) := .inr (show 0 + 3 ≤ 3 by decide)
  have heldState : (LK_STAT_HELD k).apart (LK_STAT_STATE k) := .inr (show 0 + 3 ≤ 8 by decide)
  have heldCause : (LK_STAT_HELD k).apart (LK_STAT_CAUSE k) := .inr (show 3 + 5 ≤ 8 by decide)
  have stateDowns : (LK_STAT_STATE k).apart (LK_STAT_DOWNS k) := .inl (show 0 + 3 ≤ 16 by decide)
  have causeDowns : (LK_STAT_CAUSE k).apart (LK_STAT_DOWNS k) := .inl (show 3 + 5 ≤ 16 by decide)
  have heldDowns : (LK_STAT_HELD k).apart (LK_STAT_DOWNS k) := .inl (show 8 + 1 ≤ 16 by decide)
  refine ⟨?_, ?_, State.bit_wrBit _ _ _ rfl (show 8 + 1 ≤ 32 by decide), ?_⟩
  · rw [shownDown, shownCause, State.rd_wrBit_ne _ _ _ _ (.inr heldState), State.rd_wr_ne _ _ _ _ (.inr causeState),
      State.rd_wr_same _ _ _ (show 0 + 3 ≤ 32 by decide), Nat.zero_mod]
  · rw [shownDown, shownCause, State.rd_wrBit_ne _ _ _ _ (.inr heldCause), State.rd_wr_same _ _ _ (show 3 + 5 ≤ 32 by decide)]
    exact Nat.mod_eq_of_lt hc
  · rw [shownDown, shownCause, State.rd_wrBit_ne _ _ _ _ (.inr heldDowns), State.rd_wr_ne _ _ _ _ (.inr causeDowns),
      State.rd_wr_ne _ _ _ _ (.inr stateDowns)]

theorem words_shownDown (cause : Nat) (held : Bool) : WordsOnly [(LK_STAT_STATE k).addr] s (shownDown s k cause held) :=
  (words_shownCause s cause).trans (State.words_wrBit _ (LK_STAT_HELD k) _)

/-- Both counters of downs move (R350). -/
def countedDown (s : State) (k : Nat) : State := (s.inc (LK_STAT_DOWNS k)).inc LK_SUM_DOWNS

theorem rd_countedDown_ne {f : Fld} (h : (LK_STAT_DOWNS k).addr ≠ f.addr ∨ (LK_STAT_DOWNS k).apart f) (h' : LK_SUM_DOWNS.addr ≠ f.addr) :
    (countedDown s k).rd f = s.rd f := by
  rw [countedDown, State.inc, rd_addSat_ne _ _ _ _ (.inl h'), State.inc, rd_addSat_ne _ _ _ _ h]

theorem countedDown_spec : (countedDown s k).rd (LK_STAT_DOWNS k) = min (s.rd (LK_STAT_DOWNS k) + 1) (2 ^ (LK_STAT_DOWNS k).width - 1) ∧
    (countedDown s k).rd LK_SUM_DOWNS = min (s.rd LK_SUM_DOWNS + 1) (2 ^ LK_SUM_DOWNS.width - 1) := by
  have apart : (LK_STAT_DOWNS k).addr ≠ LK_SUM_DOWNS.addr := by simp only [LK_STAT_DOWNS, LK_SUM_DOWNS]; omega
  refine ⟨?_, ?_⟩
  · rw [countedDown, State.inc, rd_addSat_ne _ _ _ _ (.inl apart.symm), State.inc, State.rd_addSat _ _ _ (show 16 + 16 ≤ 32 by decide)]
  · rw [countedDown, State.inc, State.rd_addSat _ _ _ (by decide), State.inc, rd_addSat_ne _ _ _ _ (.inl apart)]

/-- Whether a port that goes down is held there (R353). -/
def heldDown (s : State) (k cause gone : Nat) : Bool :=
  let shown := shownCause (cutOff s k gone) k cause
  cause = 2 || !shown.bit (LK_CTRL_ADMIN k) || !shown.portUse k

/-- The registers of a port that goes down (R350, R353). -/
def lowered (s : State) (k cause gone : Nat) : State :=
  countedDown (shownDown (cutOff s k gone) k cause (heldDown s k cause gone)) k

/-- What a port that goes down reads of the words that tell how it stood. -/
theorem rd_cutOff (hk : k < 256) (gone : Nat) {f : Fld}
    (hf : f.addr ∈ [(LK_STAT_STATE k).addr, LK_SUM_DOWNS.addr, (LK_CTRL_ADMIN k).addr, (LK_CFG_USE k).addr]) :
    (cutOff s k gone).rd f = s.rd f := by
  refine rd_of_words (words_cutOff s gone) ?_
  simp only [LK_STAT_STATE, LK_SUM_DOWNS, LK_CTRL_ADMIN, LK_CFG_USE, List.mem_cons, List.not_mem_nil, or_false] at hf
  simp only [TG_LDLY_VALID, LK_UNCORR, List.mem_cons, List.not_mem_nil, or_false]
  omega

theorem heldDown_eq (hk : k < 256) (cause gone : Nat) :
    heldDown s k cause gone = (cause == 2 || !s.bit (LK_CTRL_ADMIN k) || !s.bit (LK_CFG_USE k)) := by
  have admin : (LK_CTRL_ADMIN k).addr ∉ [(LK_STAT_STATE k).addr] := by
    simp only [LK_CTRL_ADMIN, LK_STAT_STATE, List.mem_singleton]
    omega
  have use : (LK_CFG_USE k).addr ∉ [(LK_STAT_STATE k).addr] := by
    simp only [LK_CFG_USE, LK_STAT_STATE, List.mem_singleton]
    omega
  have shown := words_shownCause (cutOff s k gone) (k := k) cause
  dsimp only [heldDown]
  rw [State.portUse, bit_of_rd (rd_of_words shown admin), bit_of_rd (rd_of_words shown use),
    bit_of_rd (rd_cutOff s hk gone (f := LK_CTRL_ADMIN k) (by simp)), bit_of_rd (rd_cutOff s hk gone (f := LK_CFG_USE k) (by simp))]
  rfl

theorem only_lowered (cause gone : Nat) : Only [.regs] s (lowered s k cause gone) := by
  have cut : Only [.regs] s (cutOff s k gone) := (s.only_wrBit _ _).trans (State.only_addSat _ _ _)
  have shown : ∀ u held, Only [.regs] u (shownDown u k cause held) := fun u held =>
    ((u.only_wr _ _).trans (State.only_wr _ _ _)).trans (State.only_wrBit _ _ _)
  exact (cut.trans (shown _ _)).trans ((State.only_addSat _ _ _).trans (State.only_addSat _ _ _))

theorem lowered_spec {cause : Nat} (hk : k < 256) (hc : cause < 32) (gone : Nat) : Lowered k cause s (lowered s k cause gone) := by
  have sumApart : LK_SUM_DOWNS.addr ≠ (LK_STAT_STATE k).addr := by simp only [LK_SUM_DOWNS, LK_STAT_STATE]; omega
  have delayApart : (TG_LDLY_VALID k).addr ≠ (LK_STAT_STATE k).addr ∧ (TG_LDLY_VALID k).addr ≠ LK_SUM_DOWNS.addr ∧
      (TG_LDLY_VALID k).addr ≠ (LK_UNCORR k).addr := by
    simp only [TG_LDLY_VALID, LK_STAT_STATE, LK_SUM_DOWNS, LK_UNCORR]
    omega
  obtain ⟨noStat, noSum, noUncorr⟩ := delayApart
  have shown := words_shownDown (cutOff s k gone) (k := k) cause (heldDown s k cause gone)
  obtain ⟨state, cause', held, downs⟩ := shownDown_spec (cutOff s k gone) (k := k) hc (heldDown s k cause gone)
  obtain ⟨downs', sum⟩ := countedDown_spec (shownDown (cutOff s k gone) k cause (heldDown s k cause gone)) (k := k)
  refine ⟨?_, ?_, ?_, ?_, ?_, ?_⟩
  · exact (rd_countedDown_ne _ (f := LK_STAT_STATE k) (.inr (.inr (show 0 + 3 ≤ 16 by decide))) sumApart).trans state
  · exact (rd_countedDown_ne _ (f := LK_STAT_CAUSE k) (.inr (.inr (show 3 + 5 ≤ 16 by decide))) sumApart).trans cause'
  · refine (bit_of_rd (rd_countedDown_ne _ (f := LK_STAT_HELD k) (.inr (.inr (show 8 + 1 ≤ 16 by decide))) sumApart)).trans (held.trans ?_)
    exact heldDown_eq s hk cause gone
  · rw [lowered, downs', downs, rd_cutOff s hk gone (f := LK_STAT_DOWNS k) List.mem_cons_self]
  · rw [lowered, sum, rd_of_words shown (by simpa using sumApart), rd_cutOff s hk gone (by simp)]
  · have invalid : (cutOff s k gone).bit (TG_LDLY_VALID k) = false :=
      (bit_of_rd (rd_addSat_ne _ _ _ _ (.inl noUncorr.symm))).trans (State.bit_wrBit _ _ _ rfl (show 31 + 1 ≤ 32 by decide))
    refine (bit_of_rd (rd_countedDown_ne _ (.inl noStat.symm) noSum.symm)).trans ((bit_of_rd ?_).trans invalid)
    exact rd_of_words shown (by simpa using noStat)

variable {s} {u v : State} {cause : Nat}

theorem SparesLinks.rd (h : SparesLinks s u) {f : Fld} (hf : linkWord f.addr) : u.rd f = s.rd f := by
  rw [State.rd, h.words _ hf, State.rd]

/-- What spares the links leaves a lowered port as it shows. -/
theorem Lowered.spared (h : Lowered k cause s u) (hk : k < 256) (hu : SparesLinks u v) : Lowered k cause s v := by
  have link := linkWord_stand hk
  have stat : linkWord (LK_STAT_STATE k).addr := link _ (by simp [standWords])
  exact ⟨(hu.rd stat).trans h.state, (hu.rd (f := LK_STAT_CAUSE k) stat).trans h.shown, (bit_of_rd (hu.rd (f := LK_STAT_HELD k) stat)).trans h.held,
    (hu.rd (f := LK_STAT_DOWNS k) stat).trans h.downs, (hu.rd (link _ (by simp [standWords]))).trans h.sum,
    (bit_of_rd (hu.rd (link _ (by simp [standWords])))).trans h.valid⟩

/-- Fields that tell how a port stood before it went down. -/
def SameStand (k : Nat) (s u : State) : Prop :=
  u.rd (LK_STAT_DOWNS k) = s.rd (LK_STAT_DOWNS k) ∧ u.rd LK_SUM_DOWNS = s.rd LK_SUM_DOWNS ∧ u.bit (LK_CTRL_ADMIN k) = s.bit (LK_CTRL_ADMIN k) ∧
    u.bit (LK_CFG_USE k) = s.bit (LK_CFG_USE k)

theorem SparesLinks.sameStand (h : SparesLinks s u) (hk : k < 256) : SameStand k s u := by
  have link := linkWord_stand hk
  exact ⟨h.rd (f := LK_STAT_DOWNS k) (link (LK_STAT_STATE k).addr (by simp [standWords])), h.rd (link _ (by simp [standWords])),
    bit_of_rd (h.rd (link _ (by simp [standWords]))), bit_of_rd (h.rd (link _ (by simp [standWords])))⟩

theorem Lowered.of_start (h : Lowered k cause u v) (hs : SameStand k s u) : Lowered k cause s v := by
  obtain ⟨downs, sum, admin, use⟩ := hs
  exact ⟨h.state, h.shown, by rw [h.held, admin, use], by rw [h.downs, downs], by rw [h.sum, sum], h.valid⟩

theorem portDown_of_start (h : PortDown k cause u v) (hs : SameStand k s u) (only : Only [.clock, .regs, .fab] s u) : PortDown k cause s v := by
  obtain ⟨downs, sum, admin, use⟩ := hs
  obtain ⟨state, shown, held, downs', sum', rest⟩ := h
  obtain ⟨valid, noReplay, noPacket, only'⟩ := rest
  exact ⟨state, shown, by rw [held, admin, use], by rw [downs', downs], by rw [sum', sum], valid, noReplay, noPacket,
    (only.mono (by simp)).trans only'⟩

/-- A port that is down and quiet rises as far as it may (R346). -/
theorem portDown_of_lowered (hk : k < 256) (low : Lowered k cause s u) (quiet : Quiet (u.port k))
    (only : Only [.regs, .fab, .tg, .flt, .outs] s u) : PortDown k cause s (u.trySignal k) := by
  obtain ⟨rises, state⟩ := trySignal_spec u hk low.state
  have sum : KeptByState k LK_SUM_DOWNS := .inl (by simp only [LK_SUM_DOWNS, LK_STAT_STATE]; omega)
  have valid : KeptByState k (TG_LDLY_VALID k) := .inl (by simp only [TG_LDLY_VALID, LK_STAT_STATE]; omega)
  obtain ⟨noReplay, noPacket⟩ := rises.quiet quiet
  exact ⟨state, (rises.fields (LK_STAT_CAUSE k) (.inr (.inl (show 0 + 3 ≤ 3 by decide)))).trans low.shown,
    (bit_of_rd (rises.fields (LK_STAT_HELD k) (.inr (.inl (show 0 + 3 ≤ 8 by decide))))).trans low.held,
    (rises.fields (LK_STAT_DOWNS k) (.inr (.inl (show 0 + 3 ≤ 16 by decide)))).trans low.downs, (rises.fields _ sum).trans low.sum,
    (bit_of_rd (rises.fields _ valid)).trans low.valid, noReplay, noPacket, (only.mono (by simp)).trans (rises.only.mono (by simp))⟩

/-- A port goes down (R346, R350, R353). -/
theorem portDown_spec (s : State) (hk : k < 256) (hc : cause < 32) : PortDown k cause s (s.portDown k cause) := by
  delta State.portDown
  extract_lets st s1 s2 s3 s4 s5 s6 s7 s8 s9 tg s10 s11 s12 s13
  have told : SparesLinks s s1 := .ite (spares_sendSym s _ _ _) .rfl
  have fallen : s6 = lowered s1 k cause (s2.port k).txHeld.length := rfl
  have closed : SparesLinks s6 s7 := spares_closePacket s6 k false
  have cut : SparesLinks s7 s8 := spares_setPort s7 fun _ => ⟨rfl, rfl⟩
  have isCut : Quiet (s8.port k) := by
    rw [show s8.port k = (s7.port k).cut s7.now from (port_setPort _ _ _ _).trans (if_pos rfl)]
    exact ⟨rfl, rfl⟩
  have expired : SparesLinks s8 s9 := (spares_expireRecs s8 _ (by omega)).trans (spares_expireRecs _ _ (by omega))
  have forgot : SparesLinks s9 s10 := spares_withTg s9 _
  have emptied : SparesLinks s10 s11 := by
    have flush := flush_spared (dieOf k)
    have kept := kept_spared k
    dsimp only [s11]
    refine .ite ((spares_setCells s10 _).trans (spares_wrBit _ true kept)) ?_
    have copies := spares_dropCopies s10 k false
    generalize s10.dropCopies k false = dropped at copies ⊢
    have credits := spares_dropCred dropped.2 k
    generalize dropped.2.dropCred k = freed at credits ⊢
    exact (copies.trans credits).trans (spares_addSat _ _ flush)
  have timed : SparesLinks s11 s12 := spares_timePortLost s11 k
  have reported : SparesLinks s12 s13 := by
    dsimp only [s13]
    split
    · exact .ite (spares_faultConseq s12 _ _ _ _) (spares_fault s12 _ _ _ _ _ _ _)
    · exact .rfl
  have after : SparesLinks s8 s13 := (((expired.trans forgot).trans emptied).trans timed).trans reported
  have spared : SparesLinks s6 s13 := (closed.trans cut).trans after
  have low : Lowered k cause s s6 := fallen ▸ (lowered_spec s1 hk hc _).of_start (told.sameStand hk)
  have only : Only [.regs, .fab, .tg, .flt, .outs] s s6 := told.only.trans ((fallen ▸ only_lowered s1 _ _).mono (by simp))
  exact portDown_of_lowered hk (low.spared hk spared) (after.quiet k isCut) (only.trans spared.only)

end

end Sys2Proof.Proofs.Grid
end

section
/-! PROOFS. A link delay is recorded, from the stamps of both ends or from an echo, and takes the port down above its reach (R88, R338, R350). -/

open Sys2Proof Sys2Proof.Machine Sys2Proof.Proofs.Casting

namespace Sys2Proof.Proofs.Grid

section
variable (s : State) {k : Nat} (v : Nat)

/-- The longest delay of a link within its configured reach, in 1/64 tick (R350). -/
def reachOf (s : State) (k : Nat) : Nat := 64 * (8 * s.rd (LK_CFG_REACH k) + 64)

/-- TG_LDLY holds a delay, and the port when it was measured (R88, R111). -/
def delayStored (s : State) (k v : Nat) : State :=
  ((s.setPort k { s.port k with measAt := some s.now }).wr (TG_LDLY_DELAY k) (min v (2 ^ 30 - 1))).wrBit (TG_LDLY_VALID k) true

theorem words_delayStored : WordsOnly [(TG_LDLY_VALID k).addr] s (delayStored s k v) :=
  (State.words_wr (s.setPort k _) (TG_LDLY_DELAY k) _).trans (State.words_wrBit _ (TG_LDLY_VALID k) _)

theorem only_delayStored : Only [.regs, .fab] s (delayStored s k v) :=
  (only_setPort s k _).comp ((State.only_wr _ _ _).trans (State.only_wrBit _ _ _)) (by simp) (by simp)

theorem delay_delayStored (hv : v < 2 ^ 30) : (delayStored s k v).rd (TG_LDLY_DELAY k) = v := by
  rw [delayStored, State.rd_wrBit_ne _ _ _ _ (.inr (.inr (show 0 + 30 ≤ 31 by decide))),
    State.rd_wr_same _ _ _ (show 0 + 30 ≤ 32 by decide), Nat.min_eq_left (by omega)]
  exact Nat.mod_eq_of_lt hv

theorem valid_delayStored : (delayStored s k v).bit (TG_LDLY_VALID k) = true := State.bit_wrBit _ _ _ rfl (show 31 + 1 ≤ 32 by decide)

/-- The link blocks lie apart from TG_LDLY. -/
theorem rd_delayStored {f : Fld} (hk : k < 256) (hf : 0x400000 ≤ f.addr) : (delayStored s k v).rd f = s.rd f := by
  refine rd_of_words (words_delayStored s v) ?_
  simp only [TG_LDLY_VALID, List.mem_singleton]
  omega

theorem sameStand_delayStored (hk : k < 256) : SameStand k s (delayStored s k v) := by
  have link : ∀ n, 0x400000 ≤ 0x410000 + n + 0x40 * k := fun n => by omega
  exact ⟨rd_delayStored s v (f := LK_STAT_DOWNS k) hk (link 4), rd_delayStored s v hk (by decide),
    bit_of_rd (rd_delayStored s v (f := LK_CTRL_ADMIN k) hk (link 0)), bit_of_rd (rd_delayStored s v (f := LK_CFG_USE k) hk (link 8))⟩

theorem recordDelay_eq (hk : k < 256) (d : Int) : s.recordDelay k d =
    if reachOf s k < (d / 2).toNat then (delayStored s k (d / 2).toNat).portDown k 11 else delayStored s k (d / 2).toNat := by
  have reach : (delayStored s k (d / 2).toNat).rd (LK_CFG_REACH k) = s.rd (LK_CFG_REACH k) :=
    rd_delayStored s _ hk (show 0x400000 ≤ 0x410008 + 0x40 * k by omega)
  rw [reachOf, ← reach]
  rfl

/-- A command that records a link delay at a tick: half of the round trip, or a port that goes down for its reach (R88, R350). -/
theorem records_delay {c : Instr} {t : Nat} {d : Int} (hk : k < 256) (hc : exec c s = .next ((s.at t).recordDelay k d)) :
    ((d / 2).toNat < 2 ^ 30 → (d / 2).toNat ≤ reachOf s k →
      ∃ x, exec c s = .next x ∧ x.rd (TG_LDLY_DELAY k) = (d / 2).toNat ∧ x.bit (TG_LDLY_VALID k) = true ∧
        WordsOnly [(TG_LDLY_VALID k).addr] s x ∧ Only [.clock, .regs, .fab] s x) ∧
    (reachOf s k < (d / 2).toNat → ∃ x, exec c s = .next x ∧ PortDown k 11 s x) := by
  have only := only_after_at (only_delayStored (s.at t) (k := k) (d / 2).toNat)
  rw [recordDelay_eq (s.at t) hk] at hc
  constructor
  · intro small within
    have near : ¬reachOf (s.at t) k < (d / 2).toNat := Nat.not_lt.2 within
    rw [if_neg near] at hc
    exact ⟨_, hc, delay_delayStored _ _ small, valid_delayStored _ _, words_delayStored (s.at t) _, only⟩
  · intro above
    have far : reachOf (s.at t) k < (d / 2).toNat := above
    rw [if_pos far] at hc
    exact ⟨_, hc, portDown_of_start (portDown_spec _ hk (by decide)) (sameStand_delayStored (s.at t) _ hk) only⟩

variable {s}

theorem ldlyMeasure_up (h : 4 ≤ s.rd (LK_STAT_STATE k)) (t1 t2 t3 t4 : Nat) :
    s.ldlyMeasure k t1 t2 t3 t4 = s.recordDelay k ((t4 : Int) - t1 - ((t3 : Int) - t2)) := if_pos h

theorem ldlyMeasure_down (h : s.rd (LK_STAT_STATE k) < 4) (t1 t2 t3 t4 : Nat) : s.ldlyMeasure k t1 t2 t3 t4 = s := if_neg (Nat.not_le.2 h)

/-- An echo of a symbol that an endpoint port sent (R338). -/
theorem techoRx_sent {body at1 : Nat} (arr : Nat) (he : isEndpoint k = true)
    (hs : (s.port k).sentAt.find? (fun e => e.1 == body / 2 ^ 8 % 8) = some (body / 2 ^ 8 % 8, at1)) :
    s.techoRx k body arr = s.recordDelay k ((arr : Int) - at1 - (body / 2 ^ 11 % 2 ^ 26 : Nat)) := by
  rw [State.techoRx, if_pos he, hs]

end

/-- Settles O20: both commands come to `recordDelay`, whose delay is within the reach or takes the port down. -/
theorem linkDelayIsHalfTheRoundTrip : Obligations.LinkDelayIsHalfTheRoundTrip := by
  intro t k t1 t2 t3 t4 sub u s hk
  refine ⟨fun up => ?_, fun up endpoint echo at1 sent => ?_, fun down => ⟨?_, ?_⟩⟩
  · exact records_delay s hk (congrArg Host.Outcome.next (ldlyMeasure_up (s := s.at t) up t1 t2 t3 t4))
  · have received := (rxSymbol_techo (s := s.at t) up sub echo).trans (techoRx_sent (s := s.at t) _ endpoint sent)
    exact records_delay s hk (congrArg Host.Outcome.next received)
  · exact idle_of_eq (t := t) rfl (ldlyMeasure_down (s := s.at t) down t1 t2 t3 t4)
  · exact idle_of_eq (t := t) rfl (rxSymbol_down (s := s.at t) [5] sub down)

end Sys2Proof.Proofs.Grid
end

section
/-! PROOFS. READY and START of the barrier that begins an epoch (R71, R93 to R96, R336, R337). -/

open Sys2Proof Sys2Proof.Machine Sys2Proof.Proofs.Casting

namespace Sys2Proof.Proofs.Grid

section
variable (s : State)

/-! ### Events to other nodes -/

theorem only_queueSym (k prio ty body : Nat) : Only [.fab] s (s.queueSym k prio ty body) := only_setPort s _ _

theorem only_sendEvent (node evt arg : Nat) : Only [.fab] s (s.sendEvent node evt arg) := by
  unfold State.sendEvent
  split
  · exact only_queueSym s _ _ _ _
  · exact Only.rfl

/-- The port over which an event reaches a node (R336). -/
def eventPort (node : Nat) : Option Nat :=
  fabricPorts.find? (fun k => decide (4 ≤ s.rd (LK_STAT_STATE k)) && s.portReach k == node)

theorem ctrl_sendEvent {node j : Nat} (evt arg : Nat) (h : eventPort s node = some j) :
    ((s.sendEvent node evt arg).port j).ctrl = (s.port j).ctrl ++ [⟨2, 3, evt * 2 ^ 8 + arg % 2 ^ 64 * 2 ^ 16, s.now⟩] := by
  rw [State.sendEvent, ← eventPort, h]
  dsimp only
  rw [State.queueSym, port_setPort, if_pos rfl]

/-! ### A start tick -/

/-- The node that told its children the start tick (R93). -/
def toldChildren (start : Nat) : State := s.children.foldl (fun s c => s.sendEvent c 2 start) s

theorem only_toldChildren (start : Nat) : Only [.fab] s (toldChildren s start) :=
  Only.foldl _ (fun s c => only_sendEvent s c 2 start) _ s

theorem words_toldChildren (start : Nat) : WordsOnly [] s (toldChildren s start) :=
  fun a _ => only_toldChildren s start .regs (by decide) a

/-- The time grid of a node that knows its start tick (R93). -/
def startKnown (start : Nat) : TgState := { s.tg with readies := [], sentReady := false, start := some start }

theorem forwardStart_eq (start : Nat) : s.forwardStart start = withTg ((toldChildren s start).schedule start) (startKnown s start) := by
  have grid : (toldChildren s start).tg = s.tg := only_toldChildren s start .tg (by decide)
  rw [startKnown, ← grid]
  rfl

/-- The seam that ends the epoch which begins at a start tick is scheduled, and no other register changes (R71, R99). -/
theorem forwardStart_spec (start : Nat) : (s.forwardStart start).tg = startKnown s start ∧
    (s.forwardStart start).rd64 TG_NEXT_LO =
      (match epochOf s.seamSect (s.rd64 TG_SEAM_LO) with | some e => (start + e.1) % 2 ^ 64 | none => noSeam) ∧
    WordsOnly [TG_NEXT_LO.addr, TG_NEXT_HI.addr] s (s.forwardStart start) ∧ Only [.regs, .tg, .fab] s (s.forwardStart start) := by
  have told := only_toldChildren s start
  have sect : (toldChildren s start).seamSect = s.seamSect := by rw [State.seamSect, told .cst (by decide), State.seamSect]
  have seam : (toldChildren s start).rd64 TG_SEAM_LO = s.rd64 TG_SEAM_LO :=
    rd64_of_words (words_toldChildren s start) (by simp) (by simp)
  have next : ((toldChildren s start).schedule start).rd64 TG_NEXT_LO = seamTick s.seamSect (s.rd64 TG_SEAM_LO) start % 2 ^ 64 := by
    rw [schedule_eq, State.rd64_wr64 _ _ _ rfl rfl, sect, seam]
  have words : WordsOnly [TG_NEXT_LO.addr, TG_NEXT_HI.addr] s ((toldChildren s start).schedule start) := by
    rw [schedule_eq]
    exact ((words_toldChildren s start).mono (by simp)).trans (State.words_wr64 _ TG_NEXT_LO _)
  have scheduled : Only [.regs, .fab] s ((toldChildren s start).schedule start) := by
    rw [schedule_eq]
    exact told.comp (State.only_wr64 _ _ _) (by simp) (by simp)
  rw [forwardStart_eq]
  refine ⟨rfl, next.trans ?_, words.trans ((words_withTg _ _).mono (by simp)), scheduled.comp (only_withTg _ _) (by simp) (by simp)⟩
  unfold seamTick
  cases epochOf s.seamSect (s.rd64 TG_SEAM_LO) <;> rfl

/-! ### NODE_READY -/

/-- The lead of the start tick that a root chooses (R93). -/
def startLead : Nat := if s.rd TG_BAR_LEAD = 0 then 4096 else s.rd TG_BAR_LEAD

theorem nodeReady_root (hr : s.isReady = true) (hs : s.tg.sentReady = false) (hroot : s.isRoot = true) :
    s.nodeReady = s.forwardStart (s.now + startLead s) :=
  (if_pos (by simp [hr, hs])).trans (if_pos hroot)

/-- The node that sent READY. -/
def saidReady : State := withTg s { s.tg with sentReady := true }

theorem nodeReady_child {c : Nat} (hr : s.isReady = true) (hs : s.tg.sentReady = false) (hroot : s.isRoot = false)
    (hp : s.parent = some c) : s.nodeReady = (saidReady s).sendEvent c 1 s.seamDigest := by
  refine (if_pos (by simp [hr, hs])).trans ((if_neg (by simp [hroot])).trans ?_)
  rw [hp]
  rfl

theorem nodeReady_idle (h : s.isReady = false ∨ s.tg.sentReady = true) : s.nodeReady = s :=
  if_neg (by rcases h with h | h <;> simp [h])

/-! ### READY_RX -/

/-- The READY that a child's symbol brings replaces the child's earlier one (R93). -/
def keptReady (c k dig : Nat) : State :=
  withTg s { s.tg with readies := s.tg.readies.filter (fun r => decide (r.node ≠ c)) ++ [⟨c, k, dig⟩] }

theorem readyRx_child {k dig : Nat} (hk : isEndpoint k = false) (hf : s.inForce = true)
    (hc : s.children.contains (s.portReach k) = true) : s.readyRx k dig =
      if dig = s.seamDigest then keptReady s (s.portReach k) k dig
      else (keptReady s (s.portReach k) k dig).fault .cast 1 0 mCast := by
  have judged : (keptReady s (s.portReach k) k dig).inForce = true ∧
      (keptReady s (s.portReach k) k dig).children.contains (s.portReach k) = true := ⟨hf, hc⟩
  refine (if_neg (by rw [hk, hf, hc]; decide)).trans ?_
  change (keptReady s (s.portReach k) k dig).judgeReady ⟨s.portReach k, k, dig⟩ = _
  have own : (keptReady s (s.portReach k) k dig).seamDigest = s.seamDigest := rfl
  unfold State.judgeReady
  rw [judged.1, judged.2, own]
  by_cases same : dig = s.seamDigest <;> simp [same]

theorem readyRx_stranger {k : Nat} (dig : Nat) (hf : s.inForce = true) (hc : s.children.contains (s.portReach k) = false) :
    s.readyRx k dig = s := if_pos (by rw [hf, hc]; simp)

theorem readyRx_keeps {k dig : Nat} (hk : isEndpoint k = false) (hf : s.inForce = true)
    (hc : s.children.contains (s.portReach k) = true) :
    (s.readyRx k dig).tg = { s.tg with readies := s.tg.readies.filter (fun r => decide (r.node ≠ s.portReach k)) ++ [⟨s.portReach k, k, dig⟩] } ∧
      (s.readyRx k dig).flt.reports = s.flt.reports ++
        (if dig = s.seamDigest then [] else [⟨.cast, 1, 0, mCast, 7, 0, s.now, false, false⟩]) ∧ Only [.tg, .flt] s (s.readyRx k dig) := by
  have kept : Only [.tg, .flt] s (keptReady s (s.portReach k) k dig) := (only_withTg s _).mono (by simp)
  rw [readyRx_child s hk hf hc]
  split_ifs
  · exact ⟨rfl, (List.append_nil _).symm, kept⟩
  · exact ⟨rfl, rfl, kept.trans ((State.only_fault _ _ _ _ _ _ _ _).mono (by simp))⟩

/-! ### START_RX -/

theorem startRx_parent {k start : Nat} (hk : isEndpoint k = false) (hp : s.parent = some (s.portReach k)) (hs : s.tg.sentReady = true) :
    s.startRx k start = s.forwardStart start := if_pos (by simp [hk, hp, hs])

/-- The node that noted an ignored START (R95). -/
def notedStart : State := (withTg s { s.tg with ignoredNoted := true }).fault .time 0 0 mTime

theorem startRx_ignored {k : Nat} (start : Nat) (hf : s.inForce = true)
    (h : s.parent ≠ some (s.portReach k) ∨ s.tg.sentReady = false) :
    s.startRx k start = if s.tg.ignoredNoted = true then s else notedStart s := by
  have ignored : ¬(!isEndpoint k && s.parent == some (s.portReach k) && s.tg.sentReady) = true := by
    rcases h with h | h <;> simp [h]
  refine (if_neg ignored).trans ?_
  rw [hf, Bool.not_true, Bool.or_false]
  rfl

theorem barevtRx_ready {k body : Nat} (h : body / 2 ^ 8 % 4 = 1) : s.barevtRx k body = s.readyRx k (body / 2 ^ 16 % 2 ^ 32) := by
  rw [State.barevtRx, h]
  rfl

theorem barevtRx_start {k body : Nat} (h : body / 2 ^ 8 % 4 = 2) : s.barevtRx k body = s.startRx k (body / 2 ^ 16 % 2 ^ 64) := by
  rw [State.barevtRx, h]
  rfl

variable {s} {k : Nat} {u : List Byte} (t : Nat) (h : 4 ≤ s.rd (LK_STAT_STATE k)) (hty : symType u = some 3)
include h hty

theorem exec_readyRx (hb : symBody u / 2 ^ 8 % 4 = 1) :
    exec (.readyRx t k u) s = .next ((s.at t).readyRx k (symBody u / 2 ^ 16 % 2 ^ 32)) := by
  refine congrArg Host.Outcome.next ((if_pos (.inl hb)).trans ?_)
  rw [rxSymbol_barevt (s := s.at t) h 0 hty, barevtRx_ready (s.at t) hb]

theorem exec_startRx (hb : symBody u / 2 ^ 8 % 4 = 2) :
    exec (.startRx t k u) s = .next ((s.at t).startRx k (symBody u / 2 ^ 16 % 2 ^ 64)) := by
  refine congrArg Host.Outcome.next ((if_pos (.inl hb)).trans ?_)
  rw [rxSymbol_barevt (s := s.at t) h 0 hty, barevtRx_start (s.at t) hb]

end

/-! ### O21 -/

/-- Settles O21: what a ready node, a READY and a START do, each in its cases. -/
theorem barrierStart : Obligations.BarrierStart := by
  unfold Obligations.BarrierStart
  intro t k u s
  refine ⟨fun ready unsent root => ?_, fun ready unsent other c parent => ?_, fun idle => ?_,
    fun link type fabric inForce => ⟨fun evt child => ?_, fun evt stranger => ?_, fun evt parent sent => ?_,
      fun evt stray => ⟨fun noted => ?_, fun fresh => ?_⟩⟩⟩
  · obtain ⟨grid, next, words, only⟩ := forwardStart_spec (s.at t) (max s.now t + startLead s)
    exact ⟨_, congrArg Host.Outcome.next (nodeReady_root (s.at t) ready unsent root), grid, next, words, only_after_at only⟩
  · have sent := only_sendEvent (saidReady (s.at t)) c 1 s.seamDigest
    refine ⟨_, congrArg Host.Outcome.next (nodeReady_child (s.at t) ready unsent other parent), sent .tg (by decide), ?_, fun j hj => ?_⟩
    · exact only_after_at ((only_withTg (s.at t) _).comp sent (by simp) (by simp))
    · exact ctrl_sendEvent (saidReady (s.at t)) 1 s.seamDigest hj
  · exact idle_of_eq rfl (nodeReady_idle (s.at t) idle)
  · obtain ⟨grid, reports, only⟩ := readyRx_keeps (s.at t) (dig := symBody u / 2 ^ 16 % 2 ^ 32) fabric inForce child
    exact ⟨_, exec_readyRx t link type evt, grid, reports, only_after_at only⟩
  · exact idle_of_eq (exec_readyRx t link type evt) (readyRx_stranger (s.at t) _ inForce stranger)
  · obtain ⟨grid, next, words, only⟩ := forwardStart_spec (s.at t) (symBody u / 2 ^ 16 % 2 ^ 64)
    refine ⟨_, (exec_startRx t link type evt).trans (congrArg Host.Outcome.next (startRx_parent (s.at t) fabric parent sent)), grid, next, words,
      only_after_at only⟩
  · exact idle_of_eq (exec_startRx t link type evt) ((startRx_ignored (s.at t) _ inForce stray).trans (if_pos noted))
  · have ignored : (s.at t).startRx k (symBody u / 2 ^ 16 % 2 ^ 64) = notedStart (s.at t) :=
      (startRx_ignored (s.at t) _ inForce stray).trans (if_neg (by rw [State.at_tg, fresh]; decide))
    exact ⟨_, (exec_startRx t link type evt).trans (congrArg Host.Outcome.next ignored), rfl, rfl,
      only_after_at ((only_withTg _ _).comp (State.only_fault _ _ _ _ _ _ _ _) (by simp) (by simp))⟩

end Sys2Proof.Proofs.Grid
end

section
/-! PROOFS. PPS_IN, PPS_OUT, TOD_IN, TOD_OUT and REF_IN (R81, R87, R91, R92, R621). -/

open Sys2Proof Sys2Proof.Machine Sys2Proof.Proofs.Casting

namespace Sys2Proof.Proofs.Grid

section
variable (s : State)

/-! ### PPS_IN -/

/-- The node with PPS_OK and SYNC set (R109). -/
def withSync (ok : Bool) (sync : Nat) : State := (s.wrBit TG_STATUS_PPS_OK ok).wr TG_STATUS_SYNC sync

theorem withSync_spec (ok : Bool) {sync : Nat} (h : sync < 4) :
    (withSync s ok sync).bit TG_STATUS_PPS_OK = ok ∧ (withSync s ok sync).rd TG_STATUS_SYNC = sync ∧
      WordsOnly [TG_STATUS_SYNC.addr] s (withSync s ok sync) ∧ Only [.regs] s (withSync s ok sync) := by
  refine ⟨?_, (State.rd_wr_same _ _ _ (by decide)).trans (Nat.mod_eq_of_lt h), ?_, (s.only_wrBit _ _).trans (State.only_wr _ _ _)⟩
  · exact (bit_of_rd (State.rd_wr_ne _ _ _ _ (.inr (by decide)))).trans (State.bit_wrBit s _ _ rfl (by decide))
  · exact (s.words_wrBit TG_STATUS_PPS_OK ok).trans (State.words_wr _ TG_STATUS_SYNC _)

theorem ppsIn_idle (h : s.ppsRoot = false) : s.ppsIn = s := if_neg (by simp [h])

/-- An edge of PPS_IN at a root that follows it (R87). -/
theorem ppsIn_spec (h : s.ppsRoot = true) :
    s.ppsIn.tg.phase = some s.now ∧ s.ppsIn.tg.ppsEdge = some s.now ∧ s.ppsIn.bit TG_STATUS_PPS_OK = true ∧
      s.ppsIn.rd TG_STATUS_SYNC = syLocked ∧ WordsOnly [TG_STATUS_SYNC.addr, TG_SLEW.addr] s s.ppsIn ∧ Only [.regs, .tg] s s.ppsIn := by
  delta State.ppsIn
  rw [if_pos h]
  extract_lets cur slewed past tai tg grid
  have steered : WordsOnly [TG_SLEW.addr] s slewed ∧ Only [.regs] s slewed ∧ slewed.now = s.now := by
    dsimp only [slewed]
    split
    · exact ⟨s.words_wr _ _, s.only_wr _ _, rfl⟩
    · exact ⟨WordsOnly.rfl, Only.rfl, rfl⟩
  obtain ⟨words, only, clock⟩ := steered
  have edge : Only [.regs, .tg] s grid := only.comp (only_withTg slewed _) (by simp) (by simp)
  obtain ⟨ok, locked, status, regs⟩ := withSync_spec grid true (sync := syLocked) (by decide)
  exact ⟨congrArg some clock, congrArg some clock, ok, locked, (words.mono (by simp)).trans (status.mono (by simp)),
    edge.trans (regs.mono (by simp))⟩

/-- The last edge of PPS_IN, or the tick at which the node state began where there was none (R87). -/
def lastEdge : Nat := s.tg.ppsEdge.getD (s.rd64 CST_SINCE_LO)

theorem ppsLoss_early (h : s.now < lastEdge s + 3200000000) : s.ppsLoss = s := by
  have early : ¬lastEdge s + 2 * ppsTicks ≤ s.now := Nat.not_le.2 h
  exact if_neg (by rw [← lastEdge, decide_eq_false early]; simp)

/-- No edge for 2 s (R87). -/
theorem ppsLoss_spec (hroot : s.ppsRoot = true) (h : lastEdge s + 3200000000 ≤ s.now) (hsync : s.rd TG_STATUS_SYNC ≠ syHoldover) :
    s.ppsLoss.rd TG_STATUS_SYNC = syHoldover ∧ s.ppsLoss.bit TG_STATUS_PPS_OK = false ∧
      s.ppsLoss.flt.reports = s.flt.reports ++ [⟨.time, 1, 0, mTime, 7, 0, s.now, false, false⟩] ∧
      WordsOnly [TG_STATUS_SYNC.addr] s s.ppsLoss ∧ Only [.regs, .flt] s s.ppsLoss := by
  have late : lastEdge s + 2 * ppsTicks ≤ s.now := h
  have lost : s.ppsLoss = (withSync s false syHoldover).fault .time 1 0 mTime :=
    if_pos (by rw [← lastEdge, decide_eq_true late, hroot]; simpa using hsync)
  obtain ⟨ok, holdover, words, regs⟩ := withSync_spec s false (sync := syHoldover) (by decide)
  rw [lost]
  exact ⟨holdover, ok, rfl, words, regs.comp (State.only_fault _ _ _ _ _ _ _ _) (by simp) (by simp)⟩

/-! ### PPS_OUT -/

/-- Whether a tick lies whole seconds from the PPS phase (R91). -/
def OnSecond : Prop := ((s.now : Int) - (s.tg.phase.getD 0 : Nat)) % 1600000000 = 0

theorem ppsMay_iff : s.ppsMay = true ↔ s.bit TG_CTRL_PPS_OUT_EN = true ∧ (s.rd TG_STATUS_SYNC ≠ syFree ∨ s.isRoot = true) := by
  simp [State.ppsMay]

theorem ppsOutStart_idle (h : s.ppsMay = false ∨ ¬OnSecond s) : s.ppsOutStart = s := by
  refine if_neg fun ⟨on, _, may⟩ => ?_
  rcases h with h | h
  · exact Bool.false_ne_true (h.symm.trans may)
  · exact h on

/-- The TAI seconds at a pulse, 0 where they are not known (R91). -/
def taiNow : Nat := (s.tg.tai.map (· + (s.now - s.tg.phase.getD 0) / 1600000000)).getD 0

/-- The node whose PPS_OUT has just gone high (R91). -/
def pulsed : State := withTg s { s.tg with ppsHigh := some s.now, todDue := some s.now }

theorem ppsOutStart_eq (hon : OnSecond s) (hlow : s.tg.ppsHigh = none) (hmay : s.ppsMay = true) :
    s.ppsOutStart = ((pulsed s).wr64 TG_PPS_TICK_LO s.now).wr64 TG_PPS_TAI_LO (taiNow s) := if_pos ⟨hon, hlow, hmay⟩

theorem ppsOutStart_spec (hon : OnSecond s) (hlow : s.tg.ppsHigh = none) (hmay : s.ppsMay = true) :
    s.ppsOutStart.tg.ppsHigh = some s.now ∧ s.ppsOutStart.tg.todDue = some s.now ∧
      s.ppsOutStart.rd64 TG_PPS_TICK_LO = s.now % 2 ^ 64 ∧ s.ppsOutStart.rd64 TG_PPS_TAI_LO = taiNow s % 2 ^ 64 ∧
      WordsOnly [TG_PPS_TICK_LO.addr, TG_PPS_TICK_HI.addr, TG_PPS_TAI_LO.addr, TG_PPS_TAI_HI.addr] s s.ppsOutStart ∧
      Only [.regs, .tg] s s.ppsOutStart := by
  rw [ppsOutStart_eq s hon hlow hmay]
  have tick := (pulsed s).words_wr64 TG_PPS_TICK_LO s.now
  have tai := ((pulsed s).wr64 TG_PPS_TICK_LO s.now).words_wr64 TG_PPS_TAI_LO (taiNow s)
  refine ⟨rfl, rfl, ?_, State.rd64_wr64 _ _ _ rfl rfl, ?_, ?_⟩
  · rw [rd64_wr64_ne _ _ _ _ (by decide), State.rd64_wr64 _ _ _ rfl rfl]
  · exact ((words_withTg s _).mono (by simp)).trans ((tick.mono (by decide)).trans (tai.mono (by decide)))
  · exact (only_withTg s _).comp ((State.only_wr64 _ _ _).trans (State.only_wr64 _ _ _)) (by simp) (by simp)

theorem ppsOutEnd_due {p : Nat} (hp : s.tg.ppsHigh = some p) (h : p + 1600000 ≤ s.now) :
    s.ppsOutEnd = withTg s { s.tg with ppsHigh := none } := by
  simp only [State.ppsOutEnd, hp, if_pos h, withTg]

theorem ppsOutEnd_early {p : Nat} (hp : s.tg.ppsHigh = some p) (h : s.now < p + 1600000) : s.ppsOutEnd = s := by
  simp only [State.ppsOutEnd, hp, if_neg (Nat.not_le.2 h)]

/-! ### Time of day -/

/-- FLAGS of a TOD frame (R92): bit 0 where the TAI seconds are known, bit 1 where the node is locked or the root. -/
def todFlags : Nat :=
  (if s.rd64 TG_PPS_TAI_LO = 0 then 0 else 1) + (if s.rd TG_STATUS_SYNC = syLocked ∨ s.isRoot = true then 2 else 0)

theorem todFlags_tai : todFlags s % 2 = 1 ↔ s.rd64 TG_PPS_TAI_LO ≠ 0 := by
  unfold todFlags
  split_ifs <;> simp [*]

theorem todFlags_locked : todFlags s / 2 % 2 = 1 ↔ s.rd TG_STATUS_SYNC = syLocked ∨ s.isRoot = true := by
  unfold todFlags
  split_ifs <;> simp [*]

theorem todOut_idle {p : Nat} (hp : s.tg.todDue = some p) (h : s.bit TG_CTRL_TOD_OUT_EN = false ∨ s.now < p + 16000000) :
    s.todOut = s := by
  simp only [State.todOut, hp]
  refine if_neg fun due => ?_
  simp only [Bool.and_eq_true, decide_eq_true_eq] at due
  obtain ⟨on, after, -⟩ := due
  rcases h with h | h
  · exact Bool.false_ne_true (h.symm.trans on)
  · omega

/-- The TOD frame of a pulse leaves (R92). -/
theorem todOut_due {p : Nat} (hp : s.tg.todDue = some p) (hon : s.bit TG_CTRL_TOD_OUT_EN = true) (h : p + 16000000 ≤ s.now)
    (h' : s.now ≤ p + 800000000) :
    s.todOut = (withTg s { s.tg with todDue := none }).out (.tod (todFrame (todFlags s) (s.rd64 TG_PPS_TAI_LO) p)) := by
  simp only [State.todOut, hp]
  exact if_pos (by rw [hon, decide_eq_true ⟨h, h'⟩]; rfl)

/-- Whether a TOD frame is to be dropped: its TMAGIC or its CRC is wrong (R92). -/
def BadTod (fr : List Byte) : Prop := leAt fr 0 2 ≠ 0x4454 ∨ leAt fr 22 2 ≠ touchCrc 3 (slice fr 0 22)

theorem todIn_bad {fr : List Byte} (h : BadTod fr) : s.todIn fr = s.inc TG_TOD_BAD := if_pos h

theorem todIn_taken {fr : List Byte} (h : ¬BadTod fr) (hroot : s.ppsRoot = true) (hv : leAt fr 3 1 % 2 = 1) :
    s.todIn fr = withTg s { s.tg with tai := some (leAt fr 4 8) } := (if_neg h).trans (if_pos (by simp [hroot, hv]))

theorem todIn_idle {fr : List Byte} (h : ¬BadTod fr) (hv : s.ppsRoot = false ∨ leAt fr 3 1 % 2 = 0) : s.todIn fr = s := by
  refine (if_neg h).trans (if_neg ?_)
  rcases hv with hv | hv <;> simp [hv]

end

/-! ### O22 -/

/-- Settles O22: each row of the pulses is one of the equations above, on the node whose clock has moved to the row's tick. -/
theorem pulsesAndTimeOfDay : Obligations.PulsesAndTimeOfDay := by
  unfold Obligations.PulsesAndTimeOfDay
  intro t fr s
  refine ⟨fun hroot => ?_, fun hroot => ?_, fun hroot late sync => ?_, fun early => ?_, fun on low en sync => ?_, fun off => ?_,
    fun p high => ⟨fun due => ?_, fun early => ?_⟩, fun p due => ⟨fun en after before => ?_, fun early => ?_⟩,
    ⟨fun bad => ?_, fun good hroot valid => ?_, fun good other => ?_⟩, ?_⟩
  · obtain ⟨phase, edge, ok, locked, words, only⟩ := ppsIn_spec (s.at t) hroot
    exact ⟨_, rfl, phase, edge, ok, locked, words, only_after_at only⟩
  · exact idle_of_eq rfl (ppsIn_idle (s.at t) hroot)
  · obtain ⟨holdover, lost, reported, words, only⟩ := ppsLoss_spec (s.at t) hroot late sync
    exact ⟨_, rfl, holdover, lost, reported, words, only_after_at only⟩
  · exact idle_of_eq rfl (ppsLoss_early (s.at t) early)
  · obtain ⟨high, due, tick, tai, words, only⟩ := ppsOutStart_spec (s.at t) on low ((ppsMay_iff s).2 ⟨en, sync⟩)
    exact ⟨_, rfl, high, due, tick, tai, words, only_after_at only⟩
  · refine idle_of_eq rfl (ppsOutStart_idle (s.at t) ?_)
    rcases off with off | off | ⟨free, other⟩
    · exact .inl (Bool.eq_false_iff.2 fun may => Bool.false_ne_true (off.symm.trans ((ppsMay_iff s).1 may).1))
    · exact .inr off
    · refine .inl (Bool.eq_false_iff.2 fun may => ?_)
      rcases ((ppsMay_iff s).1 may).2 with h | h
      · exact h free
      · exact Bool.false_ne_true (other.symm.trans h)
  · exact ⟨_, congrArg Host.Outcome.next (ppsOutEnd_due (s.at t) high due), rfl, only_after_at (only_withTg _ _)⟩
  · exact idle_of_eq rfl (ppsOutEnd_early (s.at t) high early)
  · refine ⟨_, todFlags s, congrArg Host.Outcome.next (todOut_due (s.at t) due en after before), rfl, rfl, todFlags_tai s, todFlags_locked s, ?_⟩
    exact only_after_at ((only_withTg _ _).comp (State.only_out _ _) (by simp) (by simp))
  · exact idle_of_eq rfl (todOut_idle (s.at t) due early)
  · exact ⟨_, congrArg Host.Outcome.next (todIn_bad (s.at t) bad), State.rd_addSat (s.at t) _ 1 (by decide), State.words_addSat (s.at t) _ _,
      only_after_at (State.only_addSat _ _ _)⟩
  · exact ⟨_, congrArg Host.Outcome.next (todIn_taken (s.at t) good hroot valid), rfl, only_after_at (only_withTg _ _)⟩
  · exact idle_of_eq rfl (todIn_idle (s.at t) good other)
  · exact ⟨_, rfl, rfl, only_after_at (State.only_fault (s.at t) _ _ _ _ _ _ _)⟩

end Sys2Proof.Proofs.Grid
end

section
/-! PROOFS. Results that leave their release gates, and overdue ones (R103 to R107). -/

open Sys2Proof Sys2Proof.Machine Sys2Proof.Proofs.Casting

namespace Sys2Proof.Proofs.Grid

/-! ### The least of a list -/

theorem leastBy_eq_none {α : Type} {key : α → Nat} {l : List α} (h : leastBy key l = none) : l = [] := by
  cases l with
  | nil => rfl
  | cons x xs =>
    simp only [leastBy] at h
    split at h
    · split at h <;> cases h
    · cases h

/-- The least of a list is in it, and none of it is less. -/
theorem leastBy_spec {α : Type} {key : α → Nat} {l : List α} {x : α} (h : leastBy key l = some x) : x ∈ l ∧ ∀ e ∈ l, key x ≤ key e := by
  induction l generalizing x with
  | nil => cases h
  | cons y ys ih =>
    simp only [leastBy] at h
    split at h
    · rename_i z hz
      obtain ⟨mem, least⟩ := ih hz
      split at h
      · rename_i less
        cases h
        exact ⟨List.mem_cons_of_mem _ mem, List.forall_mem_cons.2 ⟨less.le, least⟩⟩
      · rename_i notLess
        cases h
        exact ⟨List.mem_cons_self, List.forall_mem_cons.2 ⟨le_rfl, fun e he => (Nat.not_lt.1 notLess).trans (least e he)⟩⟩
    · rename_i hz
      cases h
      simp [leastBy_eq_none hz]

section
variable (s : State)

/-! ### A result that leaves -/

/-- The node in which a result left at its tick (R100). -/
def released : State := withTg s { s.tg with lastRelease := max s.tg.lastRelease s.now }

theorem only_release (kind unit rel ready : Nat) : Only [.tg, .regs, .flt] s (s.release kind unit rel ready) := by
  delta State.release
  extract_lets tg s1 first counted named stamped
  have left : Only [.tg, .regs, .flt] s s1 := (only_withTg s _).mono (by simp)
  have late : Only [.regs] s1 counted := (s1.only_addSat _ _).trans (State.only_wr _ _ _)
  have capture : Only [.regs] counted stamped := (counted.only_wr _ _).trans ((named.only_wr64 _ _).trans (State.only_wr64 _ _ _))
  split_ifs
  · exact left.trans ((late.trans (capture.trans (stamped.only_wrBit _ _))).comp (State.only_fault _ _ _ _ _ _ _ _) (by simp) (by simp))
  · exact left.trans (late.mono (by simp))
  · exact left.trans ((s1.only_wr _ _).mono (by simp))

theorem tg_release (kind unit rel ready : Nat) :
    (s.release kind unit rel ready).tg = { s.tg with lastRelease := max s.tg.lastRelease s.now } := by
  delta State.release
  extract_lets tg s1 first counted named stamped
  split_ifs <;> rfl

/-- A result that leaves in time (R104). -/
theorem release_inTime (kind unit : Nat) {rel : Nat} (ready : Nat) (h : s.now ≤ rel) :
    s.release kind unit rel ready = (released s).wr TG_SLACK_MIN (min (s.rd TG_SLACK_MIN) (rel - ready)) :=
  if_neg (by rw [State.isLate, decide_eq_true_eq]; exact Nat.not_lt.2 h)

/-- The node in which a late result was counted (R105). -/
def countedLate : State := ((released s).inc TG_LATE_COUNT).wr TG_SLACK_MIN 0

theorem countedLate_spec : (countedLate s).rd TG_SLACK_MIN = 0 ∧
    (countedLate s).rd TG_LATE_COUNT = min (s.rd TG_LATE_COUNT + 1) (2 ^ 32 - 1) ∧ (countedLate s).flt = s.flt ∧
    WordsOnly [TG_SLACK_MIN.addr, TG_LATE_COUNT.addr] s (countedLate s) := by
  refine ⟨State.rd_wr_same _ _ _ (by decide), ?_, rfl, ?_⟩
  · rw [countedLate, State.rd_wr_ne _ _ _ _ (by decide)]
    exact (released s).rd_addSat _ _ (by decide)
  · have counted := (released s).words_addSat TG_LATE_COUNT 1
    exact ((words_withTg s _).mono (by simp)).trans ((counted.mono (by simp)).trans ((State.words_wr _ TG_SLACK_MIN _).mono (by simp)))

/-- A late result after the first since the apply (R105). -/
theorem release_lateAgain (kind unit : Nat) {rel : Nat} (ready : Nat) (h : rel < s.now) (hn : s.rd TG_LATE_COUNT ≠ 0) :
    s.release kind unit rel ready = countedLate s :=
  (if_pos (decide_eq_true h)).trans (if_neg fun first => hn (eq_of_beq first))

/-- The node that captured the first late result since the apply (R105). -/
def capturedLate (kind unit rel : Nat) : State :=
  ((countedLate s).wr TG_LATE_UNIT (kind * 2 ^ 28 + unit)).wr64 TG_LATE_REL_LO rel |>.wr64 TG_LATE_ACT_LO s.now

theorem release_lateFirst (kind unit : Nat) {rel : Nat} (ready : Nat) (h : rel < s.now) (hn : s.rd TG_LATE_COUNT = 0) :
    s.release kind unit rel ready =
      ((capturedLate s kind unit rel).wrBit TG_STATUS_TIMING_LOST true).fault .sched 0 0 (gateMaster kind unit) :=
  (if_pos (decide_eq_true h)).trans (if_pos (beq_iff_eq.2 hn))

/-- What the first late result since the apply leaves (R105, R106). -/
theorem capturedLate_spec (kind unit rel : Nat) : (capturedLate s kind unit rel).rd TG_SLACK_MIN = (countedLate s).rd TG_SLACK_MIN ∧
    (capturedLate s kind unit rel).rd TG_LATE_COUNT = (countedLate s).rd TG_LATE_COUNT ∧
    (capturedLate s kind unit rel).rd64 TG_LATE_REL_LO = rel % 2 ^ 64 ∧ (capturedLate s kind unit rel).rd64 TG_LATE_ACT_LO = s.now % 2 ^ 64 := by
  have words : WordsOnly [TG_LATE_UNIT.addr, TG_LATE_REL_LO.addr, TG_LATE_REL_LO.hi.addr, TG_LATE_ACT_LO.addr, TG_LATE_ACT_LO.hi.addr]
      (countedLate s) (capturedLate s kind unit rel) :=
    ((State.words_wr _ _ _).mono (by simp)).trans (((State.words_wr64 _ _ _).mono (by simp)).trans ((State.words_wr64 _ _ _).mono (by simp)))
  refine ⟨rd_of_words words (by decide), rd_of_words words (by decide), ?_, State.rd64_wr64 _ _ _ rfl rfl⟩
  rw [capturedLate, rd64_wr64_ne _ _ _ _ (by decide), State.rd64_wr64 _ _ _ rfl rfl]

theorem release_late (kind unit : Nat) {rel : Nat} (ready : Nat) (h : rel < s.now) :
    (s.release kind unit rel ready).rd TG_SLACK_MIN = 0 ∧
      (s.release kind unit rel ready).rd TG_LATE_COUNT = min (s.rd TG_LATE_COUNT + 1) (2 ^ 32 - 1) := by
  obtain ⟨slack, count, -, -⟩ := countedLate_spec s
  by_cases hn : s.rd TG_LATE_COUNT = 0
  · obtain ⟨slack', count', -, -⟩ := capturedLate_spec s kind unit rel
    rw [release_lateFirst s kind unit ready h hn, State.rd_fault, State.rd_fault, State.rd_wrBit_ne _ _ _ _ (by decide),
      State.rd_wrBit_ne _ _ _ _ (by decide)]
    exact ⟨slack'.trans slack, count'.trans count⟩
  · rw [release_lateAgain s kind unit ready h hn]
    exact ⟨slack, count⟩

theorem release_captures (kind unit : Nat) {rel : Nat} (ready : Nat) (h : rel < s.now) (hn : s.rd TG_LATE_COUNT = 0) :
    let x := s.release kind unit rel ready
    x.bit TG_STATUS_TIMING_LOST = true ∧ x.rd64 TG_LATE_REL_LO = rel % 2 ^ 64 ∧ x.rd64 TG_LATE_ACT_LO = s.now % 2 ^ 64 ∧
      x.flt.reports = s.flt.reports ++ [⟨.sched, 0, 0, gateMaster kind unit, 7, 0, s.now, false, false⟩] := by
  intro x
  obtain ⟨-, -, rel', act⟩ := capturedLate_spec s kind unit rel
  have captured : x = _ := release_lateFirst s kind unit ready h hn
  have same : ∀ f : Fld, x.rd f = ((capturedLate s kind unit rel).wrBit TG_STATUS_TIMING_LOST true).rd f := fun f => by
    rw [captured, State.rd_fault]
  have kept : (capturedLate s kind unit rel).flt = s.flt ∧ (capturedLate s kind unit rel).now = s.now := by
    rw [capturedLate, State.wr64_flt, State.wr64_now, State.wr64_flt, State.wr64_now]
    exact ⟨rfl, rfl⟩
  refine ⟨(bit_of_rd (same _)).trans (State.bit_wrBit _ _ _ rfl (by decide)), ?_, ?_, ?_⟩
  · rw [← rel', ← rd64_wr_ne (capturedLate s kind unit rel) TG_STATUS_TIMING_LOST TG_LATE_REL_LO 1 (by decide) (by decide)]
    simp only [State.rd64, same]
    rfl
  · rw [← act, ← rd64_wr_ne (capturedLate s kind unit rel) TG_STATUS_TIMING_LOST TG_LATE_ACT_LO 1 (by decide) (by decide)]
    simp only [State.rd64, same]
    rfl
  · rw [captured, reports_fault _ _ _ _ (by decide), State.wrBit_flt, State.wrBit_now, kept.1, kept.2]

/-! ### The act of a gate -/

theorem only_markSlot (l id pos : Nat) (p : SlotPhase) : Only [.benches] s (s.markSlot l id pos p) := only_setBench s l _

/-- A POST to a counter that no folded-out Bench waits on (R158, R197). -/
theorem postSync_eq (c : Nat) (h : ∀ j, j < s.benchN → (s.bench j).st = .foldedOut → ∀ v, (s.bench j).waitc ≠ some (c, v)) :
    s.postSync c = s.inc (MIL_SYNC c) := by
  have nobody : (List.range s.benchN).filter (fun l => (s.bench l).st == .foldedOut && ((s.bench l).waitc.map (·.1)) == some c) = [] := by
    refine List.filter_eq_nil_iff.2 fun j hj waits => ?_
    simp only [Bool.and_eq_true, beq_iff_eq, Option.map_eq_some_iff] at waits
    obtain ⟨folded, ⟨c', v⟩, wait, rfl⟩ := waits
    exact h j (List.mem_range.1 hj) folded v wait
  have filtered : (List.range (s.inc (MIL_SYNC c)).benchN).filter (fun l => ((s.inc (MIL_SYNC c)).bench l).st == .foldedOut &&
      (((s.inc (MIL_SYNC c)).bench l).waitc.map (·.1)) == some c) = [] := nobody
  unfold State.postSync
  dsimp only
  rw [filtered]
  rfl

/-! ### RESULT_RELEASE -/

/-- The results of a unit that may leave (R103, R150). -/
def mayLeave (kind unit : Nat) : List Gate :=
  s.tg.gates.filter (fun g => g.kind == kind && g.unit == unit && decide (g.rel ≤ s.now ∧ (g.ready ≤ g.rel ∨ g.ready < s.now)) &&
    !s.behindStore g)

/-- The node without a result that it held. -/
def withoutGate (g : Gate) : State := withTg s { s.tg with gates := s.tg.gates.erase g }

theorem resultRelease_eq (kind unit : Nat) : s.resultRelease kind unit = match leastBy (·.rel) (mayLeave s kind unit) with
    | none => s
    | some g => ((withoutGate s g).release g.kind g.unit g.rel g.ready).gateAct g.unit g.act := by
  have same : s.tg.gates.filter (fun g => g.kind == kind && g.unit == unit && s.mayRelease g.rel g.ready && !s.behindStore g) =
      mayLeave s kind unit := by
    simp only [mayLeave, State.mayRelease, Bool.decide_and, Bool.decide_or]
  rw [State.resultRelease, same]
  rfl

theorem resultRelease_some {kind unit : Nat} {g : Gate} (h : leastBy (·.rel) (mayLeave s kind unit) = some g) :
    s.resultRelease kind unit = ((withoutGate s g).release g.kind g.unit g.rel g.ready).gateAct g.unit g.act := by
  rw [resultRelease_eq, h]

theorem resultRelease_none {kind unit : Nat} (h : mayLeave s kind unit = []) : s.resultRelease kind unit = s := by
  rw [resultRelease_eq, h]
  rfl

/-! ### OVERDUE_STEP -/

/-- Whether a result is overdue and was not reported so (R107). -/
def Overdue (kind unit rel : Nat) : Prop :=
  s.jobRuns = true ∧ s.owes kind unit rel = true ∧ rel + s.rd TG_LATE_LIMIT ≤ s.now ∧ s.tg.overdue.contains (kind, unit, rel) = false

theorem overdue_iff (kind unit rel : Nat) : Overdue s kind unit rel ↔ (s.jobRuns && s.owes kind unit rel &&
    decide (rel + s.rd TG_LATE_LIMIT ≤ s.now) && !s.tg.overdue.contains (kind, unit, rel)) = true := by
  simp only [Overdue, Bool.and_eq_true, decide_eq_true_eq, Bool.not_eq_true', and_assoc]

theorem overdueStep_due {kind unit rel : Nat} (h : Overdue s kind unit rel) :
    s.overdueStep kind unit rel =
      (withTg s { s.tg with overdue := (kind, unit, rel) :: s.tg.overdue }).fault .sched 1 0 (gateMaster kind unit) :=
  if_pos ((overdue_iff s kind unit rel).1 h)

theorem overdueStep_idle {kind unit rel : Nat} (h : ¬Overdue s kind unit rel) : s.overdueStep kind unit rel = s :=
  if_neg fun due => h ((overdue_iff s kind unit rel).2 due)

end

/-! ### O23 -/

/-- Settles O23: the least of the results that may leave passes its gate in time or late, and then does its act. -/
theorem resultsLeaveAtTheirTick : Obligations.ResultsLeaveAtTheirTick := by
  unfold Obligations.ResultsLeaveAtTheirTick
  intro t kind unit rel s
  refine ⟨fun g hg => ?_, fun none => ?_, fun due => ?_, fun notDue => ?_⟩
  · obtain ⟨mem, least⟩ := leastBy_spec hg
    let y := withoutGate (s.at t) g
    have gone : Only [.clock, .tg] s y := only_after_at (only_withTg _ _)
    refine ⟨mem, least, y.release g.kind g.unit g.rel g.ready, y, congrArg Host.Outcome.next (resultRelease_some (s.at t) hg), rfl, rfl, gone,
      tg_release y _ _ _ _, fun inTime => ?_, fun late => ⟨?_, ?_, fun first => ?_, fun again => ?_⟩, fun c b p act waits => ?_⟩
    · rw [release_inTime y g.kind g.unit g.ready (ge_of_eq inTime)]
      exact ⟨State.rd_wr_same _ _ _ (by decide), State.words_wr (released y) TG_SLACK_MIN _,
        (gone.mono (by simp)).trans (((only_withTg y _).mono (by simp)).trans ((State.only_wr _ _ _).mono (by simp)))⟩
    · exact (release_late y g.kind g.unit g.ready late).1
    · exact (release_late y g.kind g.unit g.ready late).2
    · exact release_captures y g.kind g.unit g.ready late first
    · rw [release_lateAgain y g.kind g.unit g.ready late again]
      obtain ⟨-, -, flt, words⟩ := countedLate_spec y
      exact ⟨flt, words⟩
    · let x := y.release g.kind g.unit g.rel g.ready
      have kept : x.cst = s.cst ∧ x.benches = s.benches :=
        ⟨only_release y _ _ _ _ .cst (by decide), only_release y _ _ _ _ .benches (by decide)⟩
      have posted : x.gateAct g.unit g.act = (x.inc (MIL_SYNC c)).markSlot g.unit b p .complete := by
        rw [act, State.gateAct, postSync_eq]
        intro j hj
        rw [State.benchN, kept.1] at hj
        rw [State.bench, kept.2]
        exact waits j hj
      rw [posted]
      exact ⟨x.rd_addSat (MIL_SYNC c) 1 (Nat.le_refl 32), x.words_addSat (MIL_SYNC c) 1,
        (x.only_addSat _ _).comp (only_markSlot _ _ _ _ _) (by simp) (by simp)⟩
  · exact idle_of_eq rfl (resultRelease_none (s.at t) none)
  · exact ⟨_, congrArg Host.Outcome.next (overdueStep_due (s.at t) due), rfl, rfl,
      only_after_at ((only_withTg _ _).comp (State.only_fault _ _ _ _ _ _ _ _) (by simp) (by simp))⟩
  · exact idle_of_eq rfl (overdueStep_idle (s.at t) notDue)

end Sys2Proof.Proofs.Grid
end

section
/-! PROOFS. The rules of one logical Bench among the others: where it is stored, the slot that a row performs, the physical Bench that hosts
it, its flags, and the errors that stop its stream (R142, R143, R157, R181, R214). -/

open Sys2Proof Sys2Proof.Machine Sys2Proof.Proofs.Casting Sys2Proof.Proofs.Grid

namespace Sys2Proof.Proofs.Numbers

section
variable (s : State)

/-! ### Stored Benches -/

@[simp] theorem bench_setBench_same (l : Nat) (b : Bench) : (s.setBench l b).bench l = b := Sparse.get_set_same _ _ _ _

theorem bench_setBench_ne {l j : Nat} (b : Bench) (h : j ≠ l) : (s.setBench l b).bench j = s.bench j :=
  Sparse.get_set_ne _ _ _ h.symm

theorem benchIs_setBench (l : Nat) (b : Bench) : BenchIs l b s (s.setBench l b) :=
  ⟨bench_setBench_same s l b, fun _ h => bench_setBench_ne s b h⟩

theorem benchIs_markSlot (l id pos : Nat) (p : SlotPhase) : BenchIs l ((s.bench l).mark id pos p) s (s.markSlot l id pos p) :=
  benchIs_setBench s l _

variable {s}

/-- Every Bench stays where the Benches' part of the state stays. -/
theorem bench_of_only {parts : List Part} {u : State} (h : Only parts s u) (out : .benches ∉ parts) (j : Nat) : u.bench j = s.bench j := by
  have same : u.benches = s.benches := h .benches out
  rw [State.bench, same, State.bench]

theorem benchIs_trans {l : Nat} {b c : Bench} {u v : State} (h : BenchIs l b s u) (k : BenchIs l c u v) : BenchIs l c s v :=
  ⟨k.1, fun j hj => (k.2 j hj).trans (h.2 j hj)⟩

/-- Updates of other parts follow one of a Bench. -/
theorem benchIs_then_only {parts : List Part} {l : Nat} {b : Bench} {u v : State} (h : BenchIs l b s u) (k : Only parts u v)
    (out : .benches ∉ parts) : BenchIs l b s v :=
  ⟨(bench_of_only k out l).trans h.1, fun j hj => (bench_of_only k out j).trans (h.2 j hj)⟩

/-- A slot that is ready stands at the row's place and carries its operation. -/
theorem place_and_op_of_ready {l pos op : Nat} {u : Bundle} {x : Slot} (h : s.ready? l pos op = some (u, x)) :
    x.pos = pos ∧ slotOp pos x.word = op := by
  unfold State.ready? State.nextSlot at h
  split at h
  · split at h
    · cases h
    · rename_i found
      have here := List.find?_some found
      split at h
      · rename_i starts
        cases h
        simp only [Bool.and_eq_true, beq_iff_eq] at here starts
        obtain ⟨⟨place, -⟩, -⟩ := here
        obtain ⟨⟨operation, -⟩, -⟩ := starts
        exact ⟨place, operation⟩
      · cases h
  · cases h

/-! ### The physical Bench (R157) -/

/-- The words that placement reads. -/
def placeWords : List Nat := [CST_STATE_STATE.addr, MIL_HALL_FUSE.addr, MIL_HALL_DIS.addr]

theorem physOf_of_words {words : List Nat} {u : State} (h : WordsOnly words s u) (out : ∀ a ∈ placeWords, a ∉ words) (hm : u.mill = s.mill)
    (l : Nat) : u.physOf l = s.physOf l := by
  have state : u.nodeState = s.nodeState := rd_of_words h (out _ (by decide))
  have halls : u.hallMap = s.hallMap := by
    rw [State.hallMap, h _ (out _ (by decide)), h _ (out _ (by decide)), State.hallMap]
  have map : u.placeMap = s.placeMap := by
    rw [State.placeMap, State.inForce, state, halls, hm, State.placeMap, State.inForce]
  rw [State.physOf, State.physN, map, State.physOf, State.physN]

variable (s)

/-- The address of the flags of the physical Bench that hosts a logical one (R142). -/
def flagsAddr (l : Nat) : Nat := (NUM_BFLAGS_T_INVALID (s.physOf l)).addr

/-- No injection is counted in a Bench's flags. -/
theorem flagsAddr_ne_injection (l : Nat) : flagsAddr s l ≠ FLT_INJ_LEFT_LEFT.addr := by
  simp only [flagsAddr, NUM_BFLAGS_T_INVALID, FLT_INJ_LEFT_LEFT]
  omega

/-! ### Flags (R142, R143) -/

theorem only_raiseBits (a : Nat) (m : Word) : Only [.regs, .clock] s (s.raiseBits a m) := by
  intro p hp
  cases p
  case regs => simp at hp
  case clock => simp at hp
  all_goals simp [Part.same, State.byteAt]

theorem word_raiseBits (a b : Nat) (m : Word) : (s.raiseBits a m).word b = if a = b then s.word a ||| m else s.word b := by
  have same : (s.raiseBits a m).word b = (s.setWord a (s.word a ||| m)).word b := State.word_congr rfl b
  rw [same, State.word_setWord]

theorem words_raiseBits (a : Nat) (m : Word) : WordsOnly [a] s (s.raiseBits a m) := fun b hb => by
  rw [word_raiseBits, if_neg fun same => hb (List.mem_singleton.2 same.symm)]

/-- The node in which a unit's first invalid operation was noted (R143). -/
def withNoted (p : Nat) : State := { s with mill := { s.mill with noted := p :: s.mill.noted } }

theorem only_withNoted (p : Nat) : Only [.mill] s (withNoted s p) := by
  intro part hp
  cases part
  case mill => simp at hp
  all_goals simp [Part.same, withNoted, State.word, State.byteAt]

/-- What the flags `f` of logical Bench `l` leave: they stand in the word of its physical Bench, and no report is made where no operation was
invalid. -/
structure FlagsRaised (l : Nat) (f : Flags) (y : State) : Prop where
  word : y.word (flagsAddr s l) = s.word (flagsAddr s l) ||| f.setWidth 32
  words : WordsOnly [flagsAddr s l] s y
  quiet : f &&& (tInvalid ||| sInvalid) = 0 → y.flt = s.flt ∧ y.mill = s.mill
  now : y.now = s.now
  only : Only [.clock, .regs, .mill, .flt] s y

/-- The node in which the flags `f` were raised, before any report. -/
def withFlags (l : Nat) (f : Flags) : State := s.raiseBits (flagsAddr s l) (f.setWidth 32)

theorem benchFlags_eq (l : Nat) (f : Flags) : s.benchFlags l f =
    if f = 0 then s
    else if f &&& (tInvalid ||| sInvalid) ≠ 0 ∧ s.physOf l ∉ s.mill.noted then
      (withNoted (withFlags s l f) (s.physOf l)).fault .num 0 0 (mBench l) 6
    else withFlags s l f := rfl

theorem benchFlags_raises (l : Nat) (f : Flags) : FlagsRaised s l f (s.benchFlags l f) := by
  have word : (withFlags s l f).word (flagsAddr s l) = s.word (flagsAddr s l) ||| f.setWidth 32 := by
    rw [withFlags, word_raiseBits, if_pos rfl]
  have words : WordsOnly [flagsAddr s l] s (withFlags s l f) := words_raiseBits s _ _
  have only : Only [.clock, .regs, .mill, .flt] s (withFlags s l f) := (only_raiseBits s _ _).mono (by simp)
  rw [benchFlags_eq]
  split_ifs with raisesNone first
  · subst raisesNone
    exact ⟨by simp, WordsOnly.rfl, fun _ => ⟨rfl, rfl⟩, rfl, Only.rfl⟩
  · let noted := withNoted (withFlags s l f) (s.physOf l)
    have reported : Only [.mill, .flt] (withFlags s l f) (noted.fault .num 0 0 (mBench l) 6) :=
      (only_withNoted _ _).comp (noted.only_fault _ _ _ _ _ _ _) (by simp) (by simp)
    have same : ∀ a, (noted.fault .num 0 0 (mBench l) 6).word a = (withFlags s l f).word a := reported .regs (by decide)
    exact ⟨(same _).trans word, fun a ha => (same a).trans (words a ha), fun valid => absurd valid first.1,
      (reported .clock (by decide)).1.trans (s.raiseBits_now _ _), only.trans (reported.mono (by simp))⟩
  · exact ⟨word, words, fun _ => ⟨s.raiseBits_flt _ _, s.raiseBits_mill _ _⟩, s.raiseBits_now _ _, only⟩

/-! ### Stream errors (R214) -/

/-- A Bench whose stream stopped at bundle `id`, issued from `pc`. -/
def stopped (b : Bench) (id pc : Nat) : Bench :=
  { b with st := .error, flight := b.flight.filter (fun x => decide (x.id < id)), pc := pc, waitc := none }

/-- The node that shows the error of logical Bench `l`. -/
def errorShown (l slot code : Nat) : State := (s.wr (MIL_BERR_CODE l) code).wr (MIL_BERR_SLOT l) slot

/-- The node that counts a Bench which was not in error before (R217). -/
def errorCounted (st : BState) : State := if st = .error then s else s.inc MIL_ERR_COUNT

/-- The node that captures the first Bench in error. -/
def errorCaptured (l : Nat) : State :=
  if s.bit MIL_ERR_FIRST_VALID then s else (s.wr MIL_ERR_FIRST_LBENCH l).wrBit MIL_ERR_FIRST_VALID true

theorem streamError_eq (l id pc slot code acc addr : Nat) :
    s.streamError l id pc slot code acc addr =
      let t := s.moverFree l (fun i _ => decide (id ≤ i))
      (errorCaptured (errorCounted (errorShown (t.setBench l (stopped (t.bench l) id pc)) l slot code) (t.bench l).st) l).fault
        (streamClass code) 2 code (mBench l) acc addr := rfl

theorem errorShown_spec {l slot code : Nat} (hslot : slot < 16) (hcode : code < 256) :
    (errorShown s l slot code).rd (MIL_BERR_CODE l) = code ∧ (errorShown s l slot code).rd (MIL_BERR_SLOT l) = slot ∧
      WordsOnly [(MIL_BERR_CODE l).addr] s (errorShown s l slot code) ∧ Only [.regs] s (errorShown s l slot code) := by
  refine ⟨?_, ?_, (s.words_wr _ _).trans (State.words_wr _ (MIL_BERR_SLOT l) _), (s.only_wr _ _).trans (State.only_wr _ _ _)⟩
  · rw [errorShown, State.rd_wr_ne _ _ _ _ (.inr (.inr le_rfl)), State.rd_wr_same _ _ _ (by simp [MIL_BERR_CODE])]
    exact Nat.mod_eq_of_lt hcode
  · rw [errorShown, State.rd_wr_same _ _ _ (by simp [MIL_BERR_SLOT])]
    exact Nat.mod_eq_of_lt hslot

theorem errorCounted_spec (st : BState) :
    (errorCounted s st).rd MIL_ERR_COUNT = (if st = .error then s.rd MIL_ERR_COUNT else min (s.rd MIL_ERR_COUNT + 1) (2 ^ 32 - 1)) ∧
      WordsOnly [MIL_ERR_COUNT.addr] s (errorCounted s st) ∧ Only [.regs] s (errorCounted s st) := by
  unfold errorCounted
  split
  · exact ⟨rfl, WordsOnly.rfl, Only.rfl⟩
  · exact ⟨s.rd_addSat _ _ (by decide), s.words_addSat _ _, s.only_addSat _ _⟩

theorem errorCaptured_spec {l : Nat} (hl : l < 1024) :
    (errorCaptured s l).bit MIL_ERR_FIRST_VALID = true ∧
      (errorCaptured s l).rd MIL_ERR_FIRST_LBENCH = (if s.bit MIL_ERR_FIRST_VALID then s.rd MIL_ERR_FIRST_LBENCH else l) ∧
      WordsOnly [MIL_ERR_FIRST_VALID.addr] s (errorCaptured s l) ∧ Only [.regs] s (errorCaptured s l) := by
  unfold errorCaptured
  split
  · rename_i valid
    exact ⟨valid, rfl, WordsOnly.rfl, Only.rfl⟩
  · refine ⟨State.bit_wrBit _ _ _ rfl (by decide), ?_, (s.words_wr MIL_ERR_FIRST_LBENCH _).trans (State.words_wrBit _ MIL_ERR_FIRST_VALID _),
      (s.only_wr _ _).trans (State.only_wrBit _ _ _)⟩
    rw [State.rd_wrBit_ne _ _ _ _ (by decide), State.rd_wr_same _ _ _ (by decide)]
    exact Nat.mod_eq_of_lt hl

/-- A stream error at a slot stops the stream. -/
theorem streamError_stops {l id pc slot code : Nat} (acc addr : Nat) (hl : l < 1024) (hslot : slot < 16) (hcode : code < 256) :
    StreamStops l id pc slot code s (s.streamError l id pc slot code acc addr) := by
  rw [streamError_eq, StreamStops]
  generalize s.moverFree l (fun i _ => decide (id ≤ i)) = t
  let dropped := t.setBench l (stopped (t.bench l) id pc)
  let shown := errorShown dropped l slot code
  let counted := errorCounted shown (t.bench l).st
  let captured := errorCaptured counted l
  obtain ⟨showsCode, showsSlot, words1, only1⟩ := errorShown_spec dropped (l := l) hslot hcode
  obtain ⟨counts, words2, only2⟩ := errorCounted_spec shown (t.bench l).st
  obtain ⟨valid, lbench, words3, only3⟩ := errorCaptured_spec counted hl
  have words23 : WordsOnly [MIL_ERR_COUNT.addr, MIL_ERR_FIRST_VALID.addr] shown captured := (words2.mono (by simp)).trans (words3.mono (by simp))
  have regs : Only [.regs] dropped captured := (only1.trans only2).trans only3
  have apart : ∀ a ∈ [MIL_ERR_COUNT.addr, MIL_ERR_FIRST_VALID.addr], a ≠ (MIL_BERR_CODE l).addr := by
    simp only [MIL_BERR_CODE, MIL_ERR_COUNT, MIL_ERR_FIRST_VALID, List.mem_cons, List.not_mem_nil, or_false]
    omega
  have berr : (MIL_BERR_CODE l).addr ∉ [MIL_ERR_COUNT.addr, MIL_ERR_FIRST_VALID.addr] := fun h => apart _ h rfl
  have before : ∀ f : Fld, f.addr ∈ [MIL_ERR_COUNT.addr, MIL_ERR_FIRST_VALID.addr] → shown.rd f = t.rd f := fun f hf =>
    rd_of_words words1 fun e => apart _ hf (List.mem_singleton.1 e)
  have first : ∀ f : Fld, f.addr = MIL_ERR_FIRST_VALID.addr → counted.rd f = t.rd f := fun f hf =>
    (rd_of_words words2 (by rw [hf]; decide)).trans (before f (by rw [hf]; decide))
  have flt : captured.flt = t.flt := regs .flt (by decide)
  have now : captured.now = t.now := (regs .clock (by decide)).1
  have bench : BenchIs l (stopped (t.bench l) id pc) t captured := benchIs_then_only (benchIs_setBench t l _) regs (by decide)
  refine ⟨bench, (rd_of_words words23 berr).trans showsCode, ?_, ?_, valid, ?_, ?_, ?_, ?_⟩
  · exact (rd_of_words (f := MIL_BERR_SLOT l) words23 berr).trans showsSlot
  · rw [← before _ (by decide), ← counts]
    exact rd_of_words words3 (by decide)
  · rw [← first MIL_ERR_FIRST_LBENCH rfl, ← bit_of_rd (first MIL_ERR_FIRST_VALID rfl)]
    exact lbench
  · exact (words1.mono (by simp)).trans (words23.mono (by simp))
  · exact ⟨_, congrArg (fun f : FltState => f.reports ++ _) flt, rfl, rfl, rfl, rfl, now, rfl⟩
  · exact ((only_setBench t l _).comp regs (by simp) (by simp)).trans ((State.only_fault _ _ _ _ _ _ _ _).mono (by simp))

/-- The stream of logical Bench `l` stops with an error at a slot. -/
def Stops (c : Instr) (l : Nat) (u : Bundle) (x : Slot) (code : Nat) (s : State) : Prop :=
  ∃ y, exec c s = .next y ∧ StreamStops l u.id u.pc x.pos code s y

variable {s}

theorem stops_of_streamError {c : Instr} {l pos op code acc : Nat} {u : Bundle} {x : Slot} (hl : l < 1024) (h : s.ready? l pos op = some (u, x))
    (hpos : pos < 16) (hcode : code < 256) (hc : exec c s = .next (s.streamError l u.id u.pc x.pos code acc)) : Stops c l u x code s :=
  ⟨_, hc, streamError_stops s acc 0 hl ((place_and_op_of_ready h).1 ▸ hpos) hcode⟩

end

end Sys2Proof.Proofs.Numbers
end

section
/-! PROOFS. Bytes of a bench store, and elements as bytes: what is packed reads back, and a write of the store (R40, R116, R148, R528). -/

open Sys2Proof Sys2Proof.Machine Sys2Proof.Proofs.Casting

namespace Sys2Proof.Proofs.Numbers

/-! ### Numbers as bytes -/

theorem ofLeBytes_leBytes (n v : Nat) : ofLeBytes (leBytes n v) = v % 256 ^ n := by
  induction n generalizing v with
  | zero => simp [leBytes, ofLeBytes, Nat.mod_one]
  | succ n ih => rw [leBytes, ofLeBytes, ih, pow_succ', Nat.mod_mul, BitVec.toNat_ofNat]

/-- A slice within a list needs no padding. -/
theorem slice_of_le {bs : List Byte} {off n : Nat} (h : off + n ≤ bs.length) : slice bs off n = (bs.drop off).take n := by
  have whole : ((bs.drop off).take n).length = n := by
    rw [List.length_take, List.length_drop]
    omega
  simp [slice, whole]

theorem leAt_append_left {as : List Byte} (bs : List Byte) {off n : Nat} (h : off + n ≤ as.length) : leAt (as ++ bs) off n = leAt as off n := by
  have fits : n ≤ (as.drop off).length := by
    rw [List.length_drop]
    omega
  rw [leAt, leAt, slice_of_le (h.trans (by simp)), slice_of_le h, List.drop_append_of_le_length (by omega), List.take_append_of_le_length fits]

theorem leAt_append_right (as bs : List Byte) (off n : Nat) : leAt (as ++ bs) (as.length + off) n = leAt bs off n := by
  rw [leAt, leAt, slice, slice, List.drop_append, List.drop_of_length_le (by omega), List.nil_append, Nat.add_sub_cancel_left]

theorem leAt_leBytes (n v : Nat) : leAt (leBytes n v) 0 n = v % 256 ^ n := by
  rw [leAt, slice_of_le (by simp), List.drop_zero, List.take_of_length_le (by simp), ofLeBytes_leBytes]

theorem leAt_byte (c : Byte) (bs : List Byte) : leAt (c :: bs) 0 1 = c.toNat := by
  rw [leAt, slice_of_le (by simp)]
  simp [ofLeBytes]

/-! ### Elements -/

/-- Only the 4-bit formats have elements of no whole bytes (R112). -/
theorem whole_bytes {f : Fmt} (h : f.bits ≠ 4) : 8 * (f.bits / 8) = f.bits := by
  revert h
  cases f <;> decide

theorem pow_bytes {f : Fmt} (h : f.bits ≠ 4) : 256 ^ (f.bits / 8) = 2 ^ f.bits := by
  rw [show 256 = 2 ^ 8 from rfl, ← pow_mul, whole_bytes h]

theorem packElems_length (f : Fmt) (cs : List Nat) : (packElems f cs).length = vecBytes cs.length f.bits := by
  by_cases half : f.bits = 4
  · fun_induction packElems f cs with
    | case1 => simp [vecBytes]
    | case2 => simp [half, vecBytes]
    | case3 c h => exact absurd half h
    | case4 c c' cs _ ih =>
      rw [List.length_cons, ih]
      simp only [vecBytes, List.length_cons, half]
      omega
    | case5 c c' cs h => exact absurd half h
  · have bytes : ∀ n, vecBytes n f.bits = n * (f.bits / 8) := fun n => by
      rw [vecBytes, ← whole_bytes half, Nat.mul_div_cancel_left _ (by decide), Nat.mul_left_comm]
      omega
    rw [bytes]
    fun_induction packElems f cs with
    | case1 => simp
    | case2 c h => exact absurd h half
    | case3 c => simp
    | case4 c c' cs h => exact absurd h half
    | case5 c c' cs _ ih =>
      rw [List.length_append, ih, leBytes_length, List.length_cons (a := c), Nat.succ_mul, Nat.add_comm]

theorem unpackElems_getD (f : Fmt) (bs : List Byte) {n i : Nat} (h : i < n) : (unpackElems f bs n).getD i 0 =
    if f.bits = 4 then leAt bs (i / 2) 1 / 16 ^ (i % 2) % 16 else leAt bs (i * (f.bits / 8)) (f.bits / 8) := by
  simp [unpackElems, h]

/-- A 4-bit element reads back its low bits. -/
theorem leAt_packElems_half {f : Fmt} (half : f.bits = 4) (cs : List Nat) {i : Nat} (h : i < cs.length) :
    leAt (packElems f cs) (i / 2) 1 / 16 ^ (i % 2) % 16 = cs.getD i 0 % 16 := by
  fun_induction packElems f cs generalizing i with
  | case1 => simp at h
  | case2 c =>
    have first : i = 0 := by simpa using h
    subst first
    simp only [Nat.zero_div, Nat.zero_mod, leAt_byte, BitVec.toNat_ofNat, List.getD_cons_zero]
    omega
  | case3 c notHalf => exact absurd half notHalf
  | case4 c c' cs _ ih =>
    match i with
    | 0 =>
      simp only [Nat.zero_div, Nat.zero_mod, leAt_byte, BitVec.toNat_ofNat, List.getD_cons_zero]
      omega
    | 1 =>
      simp only [show 1 / 2 = 0 from rfl, show 16 ^ (1 % 2) = 16 from rfl, leAt_byte, BitVec.toNat_ofNat, List.getD_cons_succ, List.getD_cons_zero]
      omega
    | i + 2 =>
      have next : leAt (BitVec.ofNat 8 (c % 16 + 16 * (c' % 16)) :: packElems f cs) ((i + 2) / 2) 1 = leAt (packElems f cs) (i / 2) 1 := by
        rw [show (i + 2) / 2 = 1 + i / 2 by omega]
        exact leAt_append_right [_] _ _ _
      rw [next, Nat.add_mod_right, ih (by simpa using h), List.getD_cons_succ, List.getD_cons_succ]
  | case5 c c' cs notHalf => exact absurd half notHalf

/-- An element of whole bytes reads back. -/
theorem leAt_packElems_whole {f : Fmt} (whole : f.bits ≠ 4) (cs : List Nat) {i : Nat} (h : i < cs.length) :
    leAt (packElems f cs) (i * (f.bits / 8)) (f.bits / 8) = cs.getD i 0 % 2 ^ f.bits := by
  have head : ∀ (c : Nat) (bs : List Byte), leAt (leBytes (f.bits / 8) c ++ bs) 0 (f.bits / 8) = c % 2 ^ f.bits := fun c bs => by
    rw [leAt_append_left _ (by simp), leAt_leBytes, pow_bytes whole]
  fun_induction packElems f cs generalizing i with
  | case1 => simp at h
  | case2 c half => exact absurd half whole
  | case3 c =>
    have first : i = 0 := by simpa using h
    subst first
    rw [Nat.zero_mul, List.getD_cons_zero, ← head c [], List.append_nil]
  | case4 c c' cs half => exact absurd half whole
  | case5 c c' cs _ ih =>
    cases i with
    | zero => rw [Nat.zero_mul, head, List.getD_cons_zero]
    | succ i =>
      have next := leAt_append_right (leBytes (f.bits / 8) c) (packElems f (c' :: cs)) (i * (f.bits / 8)) (f.bits / 8)
      rw [leBytes_length] at next
      rw [Nat.succ_mul, Nat.add_comm, next, ih (by simpa using h), List.getD_cons_succ]

/-- What is packed reads back, cut to the format's bits (R116). -/
theorem unpackElems_packElems (f : Fmt) (cs : List Nat) {n i : Nat} (hn : i < n) (h : i < cs.length) :
    (unpackElems f (packElems f cs) n).getD i 0 = cs.getD i 0 % 2 ^ f.bits := by
  rw [unpackElems_getD f _ hn]
  split
  · rename_i half
    rw [leAt_packElems_half half cs h, half]
    rfl
  · rename_i whole
    exact leAt_packElems_whole whole cs h

/-! ### Bytes of a bench store -/

section
variable (b : Bench)

@[simp] theorem bytes_length (a n : Nat) : (b.bytes a n).length = n := by
  induction n generalizing a with
  | zero => rfl
  | succ n ih => rw [Bench.bytes, List.length_cons, ih]

theorem bytes_add (a m n : Nat) : b.bytes a (m + n) = b.bytes a m ++ b.bytes (a + m) n := by
  induction m generalizing a with
  | zero => rw [Nat.zero_add]; rfl
  | succ m ih => rw [Nat.succ_add, Bench.bytes, ih, Bench.bytes, List.cons_append, Nat.add_assoc, Nat.add_comm 1]

/-- A number in a range of the store stands at its own address. -/
theorem leAt_bytes (a : Nat) {off k n : Nat} (h : off + k ≤ n) : leAt (b.bytes a n) off k = leAt (b.bytes (a + off) k) 0 k := by
  obtain ⟨rest, rfl⟩ := Nat.exists_eq_add_of_le h
  rw [bytes_add, bytes_add, leAt_append_left _ (by simp)]
  have skip := leAt_append_right (b.bytes a off) (b.bytes (a + off) k) 0 k
  rwa [bytes_length, Nat.add_zero] at skip

theorem vecBytes_32 (vl : Nat) : vecBytes vl 32 = 4 * vl := by
  rw [vecBytes]
  omega

/-- A binary32 element of a range stands at its own address. -/
theorem unpackElems_fp32 (a : Nat) {vl i : Nat} (h : i < vl) :
    (unpackElems .fp32 (b.bytes a (vecBytes vl 32)) vl).getD i 0 = leAt (b.bytes (a + 4 * i) 4) 0 4 := by
  rw [unpackElems_getD _ _ h, vecBytes_32, ← leAt_bytes b a (show 4 * i + 4 ≤ 4 * vl by omega), Nat.mul_comm 4 i]
  rfl

variable {b}

theorem bytes_congr {c : Bench} {a n : Nat} (h : ∀ i < n, c.byte (a + i) = b.byte (a + i)) : c.bytes a n = b.bytes a n := by
  induction n generalizing a with
  | zero => rfl
  | succ n ih =>
    have rest := ih (a := a + 1) fun i hi => by
      rw [Nat.add_assoc, Nat.add_comm 1]
      exact h (i + 1) (by omega)
    rw [Bench.bytes, Bench.bytes, rest, show c.byte a = b.byte a from h 0 (by omega)]

/-- A byte depends on what was written and on what nothing has written. -/
theorem byte_congr {c : Bench} (hs : c.store = b.store) (hf : c.fill = b.fill) (a : Nat) : c.byte a = b.byte a := by
  unfold Bench.byte
  rw [hs, hf]

/-! ### Writes of a bench store -/

/-- Bytes beside a write keep their values. -/
theorem byte_write_out {a j : Nat} {bs : List Byte} (h : j < a ∨ a + bs.length ≤ j) : (b.write a bs).byte j = b.byte j := by
  unfold Bench.byte
  split
  · exact Sparse.get_setList_out _ bs b.store a j h
  · rfl

/-- A write within the store reads back. -/
theorem bytes_write {a : Nat} {bs : List Byte} (h : a + bs.length ≤ 2 ^ 18) : (b.write a bs).bytes a bs.length = bs := by
  suffices each : ∀ (cs : List Byte) (c : Bench) (k : Nat), (∀ i (hi : i < cs.length), c.byte (k + i) = cs[i]) → c.bytes k cs.length = cs from
    each bs _ a fun i hi => by
      rw [Bench.byte, if_pos (by omega)]
      exact Sparse.get_setList_in _ bs b.store a i hi
  intro cs c k same
  induction cs generalizing k with
  | nil => rfl
  | cons x cs ih =>
    have rest := ih (k + 1) fun i hi => by
      rw [Nat.add_assoc, Nat.add_comm 1]
      exact same (i + 1) (by simpa using hi)
    rw [List.length_cons, Bench.bytes, rest, show c.byte k = x from same 0 (by simp)]

end

/-! ### Writes of the store of one logical Bench (R528) -/

section
variable (s : State) (l a : Nat)

/-- An armed injection damages words of the Bench's store alone, and counts them. -/
theorem injectBench_spec (n : Nat) :
    (∃ d, BenchIs l { s.bench l with damage := d } s (s.injectBench l a n)) ∧ WordsOnly [FLT_INJ_LEFT_LEFT.addr] s (s.injectBench l a n) ∧
      (s.bit FLT_INJ_LEFT_ARMED = false → s.injectBench l a n = s) ∧ Only [.benches, .regs] s (s.injectBench l a n) := by
  unfold State.injectBench
  split
  · rename_i met
    extract_lets b ws hit syms left s1 s2
    have armed : s.bit FLT_INJ_LEFT_ARMED = true := by
      simp only [Bool.and_eq_true] at met
      obtain ⟨⟨armed, -⟩, -⟩ := met
      exact armed
    obtain ⟨d, damaged⟩ : ∃ d, BenchIs l { b with damage := d } s s1 := ⟨_, benchIs_setBench s l _⟩
    have counted : Only [.regs] s1 s2 := s1.only_wr _ _
    have words : WordsOnly [FLT_INJ_LEFT_LEFT.addr] s1 s2 := s1.words_wr _ _
    have disarmed : Only [.regs] s2 (s2.wrBit FLT_INJ_LEFT_ARMED false) := s2.only_wrBit _ _
    have only : Only [.benches, .regs] s s1 := (only_setBench s l _).mono (by simp)
    split
    · exact ⟨⟨_, benchIs_then_only damaged (counted.trans disarmed) (by decide)⟩, words.trans (s2.words_wrBit FLT_INJ_LEFT_ARMED _),
        fun off => absurd (armed.symm.trans off) (by decide), only.trans ((counted.trans disarmed).mono (by simp))⟩
    · exact ⟨⟨_, benchIs_then_only damaged counted (by decide)⟩, words, fun off => absurd (armed.symm.trans off) (by decide),
        only.trans (counted.mono (by simp))⟩
  · exact ⟨⟨_, rfl, fun _ _ => rfl⟩, WordsOnly.rfl, fun _ => rfl, Only.rfl⟩

/-- What a write of the store of logical Bench `l` leaves: the bytes, and damage only where an injection is armed. -/
structure StoreWritten (bs : List Byte) (y : State) : Prop where
  bench : ∃ d, BenchIs l { (s.bench l).write a bs with damage := d } s y
  words : WordsOnly [FLT_INJ_LEFT_LEFT.addr] s y
  unarmed : s.bit FLT_INJ_LEFT_ARMED = false → WordsOnly [] s y
  only : Only [.benches, .regs] s y

theorem benchWrite_writes (bs : List Byte) : StoreWritten s l a bs (s.benchWrite l a bs) := by
  have written := benchIs_setBench s l ((s.bench l).write a bs)
  obtain ⟨⟨d, damaged⟩, words, idle, only⟩ := injectBench_spec (s.setBench l ((s.bench l).write a bs)) l a bs.length
  rw [bench_setBench_same] at damaged
  refine ⟨⟨d, benchIs_trans written damaged⟩, words, fun off => ?_, (((only_setBench s l _).mono (by simp)).trans only)⟩
  rw [State.benchWrite, idle off]
  exact WordsOnly.rfl

end

end Sys2Proof.Proofs.Numbers
end

section
/-! PROOFS. VEC slots: the checks of their ranges and sources, and their elements, for every operation at once (R142, R143, R194, R195,
R214). -/

open Sys2Proof Sys2Proof.Machine Sys2Proof.Proofs.Casting Sys2Proof.Proofs.Grid

namespace Sys2Proof.Proofs.Numbers

/-! ### The bytes of a result -/

section
variable (b : Bench) (w : BitVec 64) (f : Fmt) (cs : List Nat)

/-- An odd number of 4-bit elements is written with one more, which stays as it was. -/
theorem vecBytesOut_eq : ∃ kept : List Nat, b.vecBytesOut w f cs = packElems f (cs ++ kept) ∧
    vecBytes (cs.length + kept.length) f.bits = vecBytes cs.length f.bits := by
  unfold Bench.vecBytesOut
  split
  · rename_i half
    refine ⟨[_], rfl, ?_⟩
    simp only [vecBytes, half.1, List.length_singleton]
    omega
  · exact ⟨[], by rw [List.append_nil], rfl⟩

theorem vecBytesOut_length : (b.vecBytesOut w f cs).length = vecBytes cs.length f.bits := by
  obtain ⟨kept, out, length⟩ := vecBytesOut_eq b w f cs
  rw [out, packElems_length, List.length_append, length]

theorem unpackElems_vecBytesOut {i : Nat} (h : i < cs.length) :
    (unpackElems f (b.vecBytesOut w f cs) cs.length).getD i 0 = cs.getD i 0 % 2 ^ f.bits := by
  obtain ⟨kept, out, -⟩ := vecBytesOut_eq b w f cs
  rw [out, unpackElems_packElems f _ h (by rw [List.length_append]; omega), List.getD_append _ _ _ _ h]

end

/-! ### What a VEC slot leaves -/

/-- The flags of a list of elements, as the physical Bench of logical Bench `l` shows them (R142, R143). -/
def FlagsAre (l : Nat) (fs : List Flags) (s y : State) : Prop :=
  let f := fs.foldl (fun a x => a ||| x) 0
  let a := flagsAddr s l
  y.word a = s.word a ||| f.setWidth 32 ∧ WordsOnly [a, FLT_INJ_LEFT_LEFT.addr] s y ∧ (s.bit FLT_INJ_LEFT_ARMED = false → WordsOnly [a] s y) ∧
    (f &&& (tInvalid ||| sInvalid) = 0 → y.flt = s.flt ∧ y.mill = s.mill) ∧ y.now = s.now ∧ Only [.clock, .benches, .regs, .mill, .flt] s y

/-- A slot of logical Bench `l` is performed and wrote at most `n` bytes from byte `at'` of the store on. -/
def SlotWrote (l id pos at' n : Nat) (s y : State) : Prop :=
  (∀ a, (a < at' ∨ at' + n ≤ a) → (y.bench l).byte a = (s.bench l).byte a) ∧ (∀ j, j ≠ l → y.bench j = s.bench j) ∧
    y.bench l = { (s.bench l).mark id pos .performed with store := (y.bench l).store, damage := (y.bench l).damage }

/-- What a VEC slot leaves whose elements of format `dst` are those of `r`, with their flags. -/
structure VecDone (l : Nat) (u : Bundle) (x : Slot) (dst : Fmt) (r : Nat → Nat × Flags) (s y : State) : Prop where
  elems : ∀ i, i < u.regs.vl →
    (unpackElems dst ((y.bench l).bytes (vecAt x.word 7) (vecBytes u.regs.vl dst.bits)) u.regs.vl).getD i 0 = (r i).1 % 2 ^ dst.bits
  wrote : SlotWrote l u.id x.pos (vecAt x.word 7) (vecBytes u.regs.vl dst.bits) s y
  flags : FlagsAre l ((List.range u.regs.vl).map (fun i => (r i).2)) s y

section
variable (s : State) (l : Nat) (u : Bundle) (x : Slot)

/-- The node in which a slot of logical Bench `l` has written bytes of the store, raised flags and is performed. -/
def storeResult (at' : Nat) (bs : List Byte) (f : Flags) : State := ((s.benchWrite l at' bs).benchFlags l f).markSlot l u.id x.pos .performed

/-- The flags stand in the word of the physical Bench, which no injection touches. -/
theorem storeResult_flags (at' : Nat) (bs : List Byte) (fs : List Flags) :
    FlagsAre l fs s (storeResult s l u x at' bs (fs.foldl (fun a x => a ||| x) 0)) := by
  obtain ⟨-, words, unarmed, only⟩ := benchWrite_writes s l at' bs
  have apart : flagsAddr s l ∉ [FLT_INJ_LEFT_LEFT.addr] := fun e => flagsAddr_ne_injection s l (List.mem_singleton.1 e)
  have host : flagsAddr (s.benchWrite l at' bs) l = flagsAddr s l := by
    rw [flagsAddr, physOf_of_words words (by decide) (only .mill (by decide)), flagsAddr]
  obtain ⟨word, words', quiet, now, only'⟩ := benchFlags_raises (s.benchWrite l at' bs) l (fs.foldl (fun a x => a ||| x) 0)
  rw [host] at word words'
  refine ⟨word.trans (by rw [words _ apart]), ?_, fun off => ?_, fun valid => ?_, now.trans (only .clock (by decide)).1, ?_⟩
  · exact (words.mono (by simp)).trans (words'.mono (by simp))
  · exact ((unarmed off).mono (by simp)).trans words'
  · obtain ⟨flt, mill⟩ := quiet valid
    exact ⟨flt.trans (only .flt (by decide)), mill.trans (only .mill (by decide))⟩
  · exact (only.comp only' (by simp) (by simp)).trans ((only_markSlot _ l _ _ _).mono (by simp))

theorem storeResult_benchIs (at' : Nat) (bs : List Byte) (f : Flags) :
    ∃ d, BenchIs l { ((s.bench l).write at' bs).mark u.id x.pos .performed with damage := d } s (storeResult s l u x at' bs f) := by
  obtain ⟨⟨d, written⟩, -, -, -⟩ := benchWrite_writes s l at' bs
  have flagged := benchIs_then_only written (benchFlags_raises (s.benchWrite l at' bs) l f).only (by decide)
  have marked := benchIs_markSlot ((s.benchWrite l at' bs).benchFlags l f) l u.id x.pos .performed
  rw [flagged.1] at marked
  exact ⟨d, benchIs_trans flagged marked⟩

theorem storeResult_wrote (at' : Nat) (bs : List Byte) (f : Flags) : SlotWrote l u.id x.pos at' bs.length s (storeResult s l u x at' bs f) := by
  obtain ⟨d, own, others⟩ := storeResult_benchIs s l u x at' bs f
  refine ⟨fun a out => ?_, others, ?_⟩
  · rw [own, ← byte_write_out (b := s.bench l) out]
    exact byte_congr rfl rfl a
  · rw [own]
    rfl

theorem storeResult_bytes {at' : Nat} {bs : List Byte} (f : Flags) (h : at' + bs.length ≤ 2 ^ 18) :
    ((storeResult s l u x at' bs f).bench l).bytes at' bs.length = bs := by
  obtain ⟨d, own, -⟩ := storeResult_benchIs s l u x at' bs f
  rw [own]
  refine Eq.trans (bytes_congr fun _ _ => ?_) (bytes_write (b := s.bench l) h)
  exact byte_congr rfl rfl _

/-! ### The slot -/

variable (srcs : List (Nat × Fmt)) (dst : Fmt) (g : List Nat → Nat × Flags)

/-- Element `i` of a VEC result: the operation on the elements of the sources. -/
def vecElem (i : Nat) : Nat × Flags := g (srcs.map (fun p => ((s.bench l).vecSrc x.word p.1 p.2 u.regs.vl).getD i 0))

/-- The source ranges of a VEC slot, with the bits of their elements. -/
def srcBits (srcs : List (Nat × Fmt)) : List (Nat × Nat) := srcs.map (fun p => (p.1, p.2.bits))

variable {srcs dst}

theorem vecSlot_badRange (h : vecRanges x.word (srcBits srcs) (some (7, dst.bits)) u.regs.vl = false) :
    s.vecSlot l u x srcs dst g = s.streamError l u.id u.pc x.pos 2 :=
  if_pos (by rw [← srcBits, h]; rfl)

variable (hr : vecRanges x.word (srcBits srcs) (some (7, dst.bits)) u.regs.vl = true)
include hr

theorem vecSlot_damaged (h : (s.bench l).vecDamaged x.word (srcBits srcs) u.regs.vl = true) :
    s.vecSlot l u x srcs dst g = s.streamError l u.id u.pc x.pos 10 0 :=
  (if_neg (by rw [← srcBits, hr]; decide)).trans (if_pos h)

theorem vecSlot_wrote (h : (s.bench l).vecDamaged x.word (srcBits srcs) u.regs.vl = false) :
    s.vecSlot l u x srcs dst g =
      storeResult s l u x (vecAt x.word 7) ((s.bench l).vecBytesOut x.word dst ((List.range u.regs.vl).map (fun i => (vecElem s l u x srcs g i).1)))
        (((List.range u.regs.vl).map (fun i => (vecElem s l u x srcs g i).2)).foldl (fun a x => a ||| x) 0) := by
  have unfolded := (if_neg (by rw [← srcBits, hr]; decide)).trans (if_neg (by rw [← srcBits, h]; decide)) (a := s.vecSlot l u x srcs dst g)
  simp only [List.map_map, Function.comp_def, List.foldl_map] at unfolded ⊢
  exact unfolded

/-- The destination of a VEC slot lies in the store. -/
theorem dst_fits : vecAt x.word 7 + vecBytes u.regs.vl dst.bits ≤ 2 ^ 18 := by
  simp only [vecRanges, Bool.and_eq_true, decide_eq_true_eq] at hr
  obtain ⟨-, fits, -⟩ := hr
  exact fits

theorem vecSlot_done (h : (s.bench l).vecDamaged x.word (srcBits srcs) u.regs.vl = false) :
    VecDone l u x dst (vecElem s l u x srcs g) s (s.vecSlot l u x srcs dst g) := by
  rw [vecSlot_wrote s l u x g hr h]
  let cs := (List.range u.regs.vl).map (fun i => (vecElem s l u x srcs g i).1)
  have count : cs.length = u.regs.vl := by simp [cs]
  have length : ((s.bench l).vecBytesOut x.word dst cs).length = vecBytes u.regs.vl dst.bits := by rw [vecBytesOut_length, count]
  refine ⟨fun i hi => ?_, length ▸ storeResult_wrote s l u x _ _ _, storeResult_flags s l u x _ _ _⟩
  have fits := dst_fits u x hr
  rw [← length] at fits ⊢
  rw [storeResult_bytes s l u x _ fits, ← count, unpackElems_vecBytesOut _ _ _ _ (by omega)]
  simp [cs, hi]

end

end Sys2Proof.Proofs.Numbers
end

section
/-! PROOFS. The operations of VEC slots, and the statement about them (R136, R137, R194, R195, R214, R630). -/

open Sys2Proof Sys2Proof.Machine Sys2Proof.Proofs.Casting Sys2Proof.Proofs.Grid

namespace Sys2Proof.Proofs.Numbers

/-! ### Elements -/

/-- The binary32 element `i` of the range at field `lo`. -/
def elem32 (b : Bench) (w : BitVec 64) (lo i : Nat) : Nat := leAt (b.bytes (vecAt w lo + 4 * i) 4) 0 4

theorem vecSrc_fp32 (b : Bench) (w : BitVec 64) (lo : Nat) {vl i : Nat} (h : i < vl) : (b.vecSrc w lo .fp32 vl).getD i 0 = elem32 b w lo i :=
  unpackElems_fp32 b _ h

/-- A slot whose results are binary32, element by element. -/
def VecDone32 (l : Nat) (u : Bundle) (x : Slot) (r : Nat → Nat × Flags) (s y : State) : Prop :=
  (∀ i, i < u.regs.vl → elem32 (y.bench l) x.word 7 i = (r i).1 % 2 ^ 32) ∧
    SlotWrote l u.id x.pos (vecAt x.word 7) (4 * u.regs.vl) s y ∧ FlagsAre l ((List.range u.regs.vl).map (fun i => (r i).2)) s y

section
variable {s y : State} {l : Nat} {u : Bundle} {x : Slot} {r q : Nat → Nat × Flags}

/-- Only the elements below VL matter. -/
theorem vecDone_congr {dst : Fmt} (h : VecDone l u x dst r s y) (same : ∀ i < u.regs.vl, r i = q i) : VecDone l u x dst q s y := by
  have flags : (List.range u.regs.vl).map (fun i => (r i).2) = (List.range u.regs.vl).map (fun i => (q i).2) :=
    List.map_congr_left fun i hi => by rw [same i (List.mem_range.1 hi)]
  exact ⟨fun i hi => same i hi ▸ h.elems i hi, h.wrote, flags ▸ h.flags⟩

theorem vecDone_binary32 (h : VecDone l u x .fp32 r s y) : VecDone32 l u x r s y :=
  ⟨fun i hi => (unpackElems_fp32 _ _ hi).symm.trans (h.elems i hi), vecBytes_32 _ ▸ h.wrote, h.flags⟩

end

/-! ### Slots that are ready -/

/-- A command that performs a VEC slot: its errors, and what it leaves without one. -/
structure VecSlotDoes (c : Instr) (l : Nat) (u : Bundle) (x : Slot) (srcs : List (Nat × Nat)) (dst : Fmt) (done : State → State → Prop)
    (s : State) : Prop where
  badRange : vecRanges x.word srcs (some (7, dst.bits)) u.regs.vl = false → Stops c l u x 2 s
  damaged : vecRanges x.word srcs (some (7, dst.bits)) u.regs.vl = true → (s.bench l).vecDamaged x.word srcs u.regs.vl = true → Stops c l u x 10 s
  performs : vecRanges x.word srcs (some (7, dst.bits)) u.regs.vl = true → (s.bench l).vecDamaged x.word srcs u.regs.vl = false →
    ∃ y, exec c s = .next y ∧ done s y

section
variable {s : State} {l op : Nat} {u : Bundle} {x : Slot} {c : Instr} (hl : l < 1024) (h : s.ready? l 4 op = some (u, x))
include hl h

theorem vecSlot_does {srcs : List (Nat × Fmt)} {dst : Fmt} {g : List Nat → Nat × Flags} (hc : exec c s = .next (s.vecSlot l u x srcs dst g)) :
    VecSlotDoes c l u x (srcBits srcs) dst (VecDone l u x dst (vecElem s l u x srcs g)) s where
  badRange bad := stops_of_streamError hl h (by decide) (by decide) (hc.trans (congrArg _ (vecSlot_badRange s l u x g bad)))
  damaged ok bad := stops_of_streamError hl h (by decide) (by decide) (hc.trans (congrArg _ (vecSlot_damaged s l u x g ok bad)))
  performs ok whole := ⟨_, hc, vecSlot_done s l u x g ok whole⟩

/-- A slot whose sources and results are binary32. -/
theorem vecSlot32_does {fields : List Nat} {g : List Nat → Nat × Flags}
    (hc : exec c s = .next (s.vecSlot l u x (fields.map (fun lo => (lo, .fp32))) .fp32 g)) :
    VecSlotDoes c l u x (fields.map (fun lo => (lo, 32))) .fp32
      (VecDone32 l u x (fun i => g (fields.map (fun lo => elem32 (s.bench l) x.word lo i)))) s := by
  have does := vecSlot_does hl h hc
  have bits : srcBits (fields.map (fun lo => (lo, .fp32))) = fields.map (fun lo => (lo, 32)) := by
    rw [srcBits, List.map_map]
    rfl
  rw [bits] at does
  refine ⟨does.badRange, does.damaged, fun ok whole => ?_⟩
  obtain ⟨y, next, done⟩ := does.performs ok whole
  refine ⟨y, next, vecDone_binary32 (vecDone_congr done fun i hi => ?_)⟩
  simp only [vecElem, List.map_map, Function.comp_def, vecSrc_fp32 _ _ _ hi]

theorem vec2_does {f : Rm → Nat → Nat → Nat × Flags} (hc : exec c s = .next (s.vec2 l op f)) :
    VecSlotDoes c l u x [(20, 32), (33, 32)] .fp32
      (VecDone32 l u x (fun i => f s.policy.rm (elem32 (s.bench l) x.word 20 i) (elem32 (s.bench l) x.word 33 i))) s :=
  vecSlot32_does (fields := [20, 33]) (g := fun a => f s.policy.rm (a.getD 0 0) (a.getD 1 0)) hl h (hc.trans (by rw [State.vec2, h]; rfl))

end

section
variable {s : State} {l : Nat} {u : Bundle} {x : Slot}

/-! ### ANY -/

/-- ANY, once its source range is in the store and whole: the flag shows whether some element is no zero. -/
theorem any_performs (h : s.ready? l 4 11 = some (u, x)) (ok : vecRanges x.word [(20, 32)] none u.regs.vl = true)
    (whole : (s.bench l).vecDamaged x.word [(20, 32)] u.regs.vl = false) :
    ∃ y v, exec (.any l) s = .next y ∧ (v = true ↔ ∃ i, i < u.regs.vl ∧ elem32 (s.bench l) x.word 20 i % 2 ^ 31 ≠ 0) ∧
      BenchIs l (((s.bench l).setPf (bitsOf x.word 46 4) v).mark u.id x.pos .performed) s y ∧ Only [.benches] s y := by
  let v := ((s.bench l).vecSrc x.word 20 .fp32 u.regs.vl).any anyCode
  have performed : s.opAny l = (s.setBench l ((s.bench l).setPf (bitsOf x.word 46 4) v)).markSlot l u.id x.pos .performed := by
    rw [State.opAny, h]
    simp [ok, whole, v]
  have shown : v = true ↔ ∃ i, i < u.regs.vl ∧ elem32 (s.bench l) x.word 20 i % 2 ^ 31 ≠ 0 := by
    have length : ((s.bench l).vecSrc x.word 20 .fp32 u.regs.vl).length = u.regs.vl := by simp [Bench.vecSrc, unpackElems]
    simp only [v, List.any_eq_true, anyCode, bne_iff_ne, List.mem_iff_getElem, length]
    constructor
    · rintro ⟨e, ⟨i, hi, rfl⟩, nonzero⟩
      rw [← List.getD_eq_getElem _ 0, vecSrc_fp32 _ _ _ hi] at nonzero
      exact ⟨i, hi, nonzero⟩
    · rintro ⟨i, hi, nonzero⟩
      refine ⟨_, ⟨i, hi, rfl⟩, ?_⟩
      rwa [← List.getD_eq_getElem _ 0, vecSrc_fp32 _ _ _ hi]
  have set := benchIs_setBench s l ((s.bench l).setPf (bitsOf x.word 46 4) v)
  have marked := benchIs_markSlot (s.setBench l ((s.bench l).setPf (bitsOf x.word 46 4) v)) l u.id x.pos .performed
  rw [bench_setBench_same] at marked
  exact ⟨_, v, congrArg Host.Outcome.next performed, shown, benchIs_trans set marked, (only_setBench s l _).trans (only_markSlot _ _ _ _ _)⟩

variable (hl : l < 1024)
include hl

theorem any_stops (h : s.ready? l 4 11 = some (u, x)) :
    (vecRanges x.word [(20, 32)] none u.regs.vl = false → Stops (.any l) l u x 2 s) ∧
      (vecRanges x.word [(20, 32)] none u.regs.vl = true → (s.bench l).vecDamaged x.word [(20, 32)] u.regs.vl = true →
        Stops (.any l) l u x 10 s) := by
  have performed : exec (.any l) s = .next (s.opAny l) := rfl
  rw [State.opAny, h] at performed
  refine ⟨fun bad => stops_of_streamError (acc := 6) hl h (by decide) (by decide) ?_,
    fun ok bad => stops_of_streamError (acc := 0) hl h (by decide) (by decide) ?_⟩
  · rw [performed]
    simp [bad]
  · rw [performed]
    simp [ok, bad]

/-! ### FMA and SQRT -/

theorem fma_does (h : s.ready? l 4 3 = some (u, x)) : VecSlotDoes (.fma l) l u x [(20, 32), (33, 32), (46, 32)] .fp32
    (VecDone32 l u x (fun i => fma32 s.policy.rm (elem32 (s.bench l) x.word 20 i) (elem32 (s.bench l) x.word 33 i)
      (elem32 (s.bench l) x.word 46 i))) s :=
  have performed : exec (.fma l) s = .next (s.opFma l) := rfl
  vecSlot32_does (fields := [20, 33, 46]) (g := fun a => fma32 s.policy.rm (a.getD 0 0) (a.getD 1 0) (a.getD 2 0)) hl h
    (performed.trans (by rw [State.opFma, h]; rfl))

theorem sqrt_does (h : s.ready? l 4 7 = some (u, x)) : VecSlotDoes (.sqrt l) l u x [(20, 32)] .fp32
    (VecDone32 l u x (fun i => sqrt32 s.policy.rm (elem32 (s.bench l) x.word 20 i))) s :=
  have performed : exec (.sqrt l) s = .next (s.opSqrt l) := rfl
  vecSlot32_does (fields := [20]) (g := fun a => sqrt32 s.policy.rm (a.getD 0 0)) hl h (performed.trans (by rw [State.opSqrt, h]; rfl))

/-! ### Conversions -/

/-- A binary32 code as an element of format `f`, strict or not (R130, R630). -/
def toFmt (s : State) (w : BitVec 64) (f : Fmt) (c : Nat) : Nat × Flags :=
  if bitsOf w 6 1 = 1 then f.strictOfNum s.policy.rm (f32.decode c) else f.ofNum s.policy (f32.decode c)

/-- An element of format `f` as binary32, strict or not. -/
def ofFmt (s : State) (w : BitVec 64) (f : Fmt) (c : Nat) : Nat × Flags :=
  if bitsOf w 6 1 = 1 then Fmt.fp32.strictOfNum s.policy.rm (f.decode c) else Fmt.fp32.ofNum s.policy (f.decode c)

theorem cvtf_stops (h : s.ready? l 4 12 = some (u, x)) (reserved : convFmt x.word = none) : Stops (.cvtf l) l u x 2 s := by
  have performed : exec (.cvtf l) s = .next (s.opCvtf l) := rfl
  exact stops_of_streamError (acc := 6) hl h (by decide) (by decide) (performed.trans (by rw [State.opCvtf, h]; simp only [reserved]))

theorem cvtt_stops (h : s.ready? l 4 13 = some (u, x)) (reserved : convFmt x.word = none) : Stops (.cvtt l) l u x 2 s := by
  have performed : exec (.cvtt l) s = .next (s.opCvtt l) := rfl
  exact stops_of_streamError (acc := 6) hl h (by decide) (by decide) (performed.trans (by rw [State.opCvtt, h]; simp only [reserved]))

theorem cvtf_does (h : s.ready? l 4 12 = some (u, x)) {f : Fmt} (hf : convFmt x.word = some f) :
    VecSlotDoes (.cvtf l) l u x [(20, 32)] f (VecDone l u x f (fun i => toFmt s x.word f (elem32 (s.bench l) x.word 20 i))) s := by
  have performed : exec (.cvtf l) s = .next (s.opCvtf l) := rfl
  have slot : s.opCvtf l = s.vecSlot l u x [(20, .fp32)] f (fun a => toFmt s x.word f (a.getD 0 0)) := by
    rw [State.opCvtf, h]
    simp only [hf, toFmt, beq_iff_eq]
  have does := vecSlot_does hl h (performed.trans (congrArg _ slot))
  refine ⟨does.badRange, does.damaged, fun ok whole => ?_⟩
  obtain ⟨y, next, done⟩ := does.performs ok whole
  refine ⟨y, next, vecDone_congr done fun i hi => ?_⟩
  simp only [vecElem, List.map_cons, List.getD_cons_zero, vecSrc_fp32 _ _ _ hi]

theorem cvtt_does (h : s.ready? l 4 13 = some (u, x)) {f : Fmt} (hf : convFmt x.word = some f) :
    VecSlotDoes (.cvtt l) l u x [(20, f.bits)] .fp32
      (VecDone32 l u x (fun i => ofFmt s x.word f (((s.bench l).vecSrc x.word 20 f u.regs.vl).getD i 0))) s := by
  have performed : exec (.cvtt l) s = .next (s.opCvtt l) := rfl
  have slot : s.opCvtt l = s.vecSlot l u x [(20, f)] .fp32 (fun a => ofFmt s x.word f (a.getD 0 0)) := by
    rw [State.opCvtt, h]
    simp only [hf, ofFmt, beq_iff_eq]
  have does := vecSlot_does hl h (performed.trans (congrArg _ slot))
  refine ⟨does.badRange, does.damaged, fun ok whole => ?_⟩
  obtain ⟨y, next, done⟩ := does.performs ok whole
  exact ⟨y, next, vecDone_binary32 done⟩

end

/-! ### O31 -/

/-- Settles O31: one slot that is ready checks its ranges and its sources, and then writes the elements of its operation. -/
theorem vectorSlotsComputeElementwise : Obligations.VectorSlotsComputeElementwise := by
  unfold Obligations.VectorSlotsComputeElementwise
  intro l op u x s hl h b w vl rm el stops flagsAre writes vec two
  have parts : ∀ {c : Instr} {fields : List Nat} {f : Nat → Nat × Flags},
      VecSlotDoes c l u x (fields.map (fun lo => (lo, 32))) .fp32 (VecDone32 l u x f) s → vec c fields f :=
    fun does => ⟨does.badRange, does.damaged, does.performs⟩
  have ofTwo : ∀ {c : Instr} {k : Nat} (f : Rm → Nat → Nat → Nat × Flags), op = k → exec c s = .next (s.vec2 l k f) → two c f := by
    rintro c k f rfl hc
    exact parts (fields := [20, 33]) (vec2_does hl h hc)
  refine ⟨(ofTwo add32 · rfl), (ofTwo sub32 · rfl), (ofTwo mul32 · rfl), ?fma, (ofTwo (fun _ => min32) · rfl), (ofTwo (fun _ => max32) · rfl),
    (ofTwo div32 · rfl), ?sqrt, (ofTwo (fun _ => cmplt32) · rfl), (ofTwo (fun _ => cmpeq32) · rfl), (ofTwo (fun _ => cmple32) · rfl), ?any, ?cvtf,
    ?cvtt⟩ <;> rintro rfl
  case fma => exact parts (fields := [20, 33, 46]) (fma_does hl h)
  case sqrt => exact parts (fields := [20]) (sqrt_does hl h)
  case any =>
    obtain ⟨badRange, damaged⟩ := any_stops hl h
    exact ⟨badRange, damaged, any_performs h⟩
  case cvtf =>
    refine ⟨cvtf_stops hl h, fun f hf => (cvtf_does hl h hf).badRange, fun f hf => (cvtf_does hl h hf).damaged, fun f hf ok whole => ?_⟩
    obtain ⟨y, next, elems, wrote, flags⟩ := (cvtf_does hl h hf).performs ok whole
    exact ⟨y, next, elems, wrote, flags⟩
  case cvtt =>
    exact ⟨cvtt_stops hl h, fun f hf => (cvtt_does hl h hf).badRange, fun f hf => (cvtt_does hl h hf).damaged,
      fun f hf => (cvtt_does hl h hf).performs⟩

end Sys2Proof.Proofs.Numbers
end

section
/-! PROOFS. MAC and MACZ: the bench tile of outputs, the checks of the slot, and the statement about them (R126 to R128, R145, R147, R190,
R191, R214). -/

open Sys2Proof Sys2Proof.Machine Sys2Proof.Proofs.Casting Sys2Proof.Proofs.Grid

namespace Sys2Proof.Proofs.Numbers

/-! ### Accumulator sets -/

theorem get_put (a : AccSet) (i j : Nat) (v : Int) : (a.put i v).get j = if i = j then v else a.get j := Sparse.get_set _ _ _ _ _

@[simp] theorem set_setAcc (b : Bench) (n : Nat) (a : AccSet) : (b.setAcc n a).set n = a := by
  unfold Bench.setAcc Bench.set
  split <;> rfl

/-- A set depends on the two sets of the Bench alone. -/
theorem set_of_same {b c : Bench} (hx : c.setX = b.setX) (hy : c.setY = b.setY) (n : Nat) : c.set n = b.set n := by
  unfold Bench.set
  rw [hx, hy]

section
variable {α : Type} (key : α → Nat) (out : α → Int → Int × Flags)

/-- One accumulator takes what its item makes of its old value; the flags gather. -/
def accStep (r : AccSet × Flags) (e : α) : AccSet × Flags :=
  (r.1.put (key e) (out e (r.1.get (key e))).1, r.2 ||| (out e (r.1.get (key e))).2)

theorem accStep_foldl_kind (es : List α) (r : AccSet × Flags) :
    (es.foldl (accStep key out) r).1.ty = r.1.ty ∧ (es.foldl (accStep key out) r).1.lsb = r.1.lsb := by
  induction es generalizing r with
  | nil => exact ⟨rfl, rfl⟩
  | cons e es ih => exact ih (accStep key out r e)

/-- An accumulator that no item names keeps its value. -/
theorem accStep_foldl_out {es : List α} {m : Nat} (h : ∀ e ∈ es, key e ≠ m) (r : AccSet × Flags) :
    (es.foldl (accStep key out) r).1.get m = r.1.get m := by
  induction es generalizing r with
  | nil => rfl
  | cons e es ih =>
    rw [List.foldl_cons, ih fun e' he => h e' (List.mem_cons_of_mem _ he), accStep, get_put, if_neg (h e List.mem_cons_self)]

/-- An accumulator that one item names takes what that item makes of its old value. -/
theorem accStep_foldl_in {es : List α} (once : (es.map key).Nodup) {e : α} (he : e ∈ es) (r : AccSet × Flags) :
    (es.foldl (accStep key out) r).1.get (key e) = (out e (r.1.get (key e))).1 := by
  induction es generalizing r with
  | nil => cases he
  | cons e' es ih =>
    rw [List.map_cons, List.nodup_cons] at once
    obtain ⟨apart, once⟩ := once
    rw [List.foldl_cons]
    rcases List.mem_cons.1 he with rfl | later
    · have others : ∀ e' ∈ es, key e' ≠ key e := fun e' he same => apart (same ▸ List.mem_map_of_mem he)
      rw [accStep_foldl_out key out others, accStep, get_put, if_pos rfl]
    · have other : key e' ≠ key e := fun same => apart (same ▸ List.mem_map_of_mem later)
      rw [ih once later, accStep, get_put, if_neg other]

end

/-! ### The bench tile -/

section
variable (A B : Operand) (kind : PairKind) (fast : Bool) (koff n : Nat) (set : AccSet)

/-- The outputs of a bench tile (R147, R190). -/
def tileOuts : List (Nat × Nat) := (List.range A.lines).product (List.range B.lines)

/-- The place of an output in an accumulator set. -/
def outAt (ij : Nat × Nat) : Nat := 64 * ij.1 + ij.2

/-- What the groups of an output make of its old value. -/
def outOf (ij : Nat × Nat) (old : Int) : Int × Flags := macOne set.ty set.lsb kind fast old (macGroups A B ij.1 ij.2 kind.group n koff n)

theorem macTile_eq : macTile A B kind fast koff n set = (tileOuts A B).foldl (accStep outAt (outOf A B kind fast koff n set)) (set, 0) := rfl

variable {A B}

theorem mem_tileOuts {ij : Nat × Nat} : ij ∈ tileOuts A B ↔ ij.1 < A.lines ∧ ij.2 < B.lines := by
  rw [tileOuts, ← Prod.mk.eta (p := ij), List.pair_mem_product, List.mem_range, List.mem_range]

/-- Each output of at most 64 columns has a place of its own. -/
theorem outAt_nodup (h : B.lines ≤ 64) : ((tileOuts A B).map outAt).Nodup := by
  refine List.Nodup.map_on (fun ij hij kl hkl same => ?_) (List.nodup_range.product List.nodup_range)
  have hj := (mem_tileOuts.1 hij).2
  have hl := (mem_tileOuts.1 hkl).2
  simp only [outAt] at same
  ext <;> omega

theorem macTile_in (h : B.lines ≤ 64) {i j : Nat} (hi : i < A.lines) (hj : j < B.lines) :
    (macTile A B kind fast koff n set).1.get (64 * i + j) =
      (macOne set.ty set.lsb kind fast (set.get (64 * i + j)) (macGroups A B i j kind.group n koff n)).1 :=
  accStep_foldl_in outAt (outOf A B kind fast koff n set) (outAt_nodup h) ((mem_tileOuts (ij := (i, j))).2 ⟨hi, hj⟩) (set, 0)

theorem macTile_out (h : B.lines ≤ 64) {m : Nat} (hm : A.lines ≤ m / 64 ∨ B.lines ≤ m % 64) :
    (macTile A B kind fast koff n set).1.get m = set.get m := by
  have unnamed : ∀ ij ∈ tileOuts A B, outAt ij ≠ m := fun ij hij same => by
    obtain ⟨hi, hj⟩ := mem_tileOuts.1 hij
    simp only [outAt] at same
    omega
  rw [macTile_eq, accStep_foldl_out _ _ unnamed]

theorem macTile_kind : (macTile A B kind fast koff n set).1.ty = set.ty ∧ (macTile A B kind fast koff n set).1.lsb = set.lsb :=
  macTile_eq A B kind fast koff n set ▸ accStep_foldl_kind outAt _ _ (set, 0)

end

/-! ### The slot -/

/-- What the FORMAT rules of a MAC slot leave: operand B has at most 64 lines, and a MAC keeps the type of its set. -/
theorem macBad_false {w oa ob : BitVec 64} {set : AccSet} (h : macBad w oa ob set = false) :
    orLines ob ≤ 64 ∧ (bitsOf w 0 4 ≠ 1 → accTypeOf (bitsOf w 13 2) = set.ty) := by
  unfold macBad at h
  extract_lets z ty k koff bad at h
  split at h
  · simp only [Bool.or_eq_false_iff, Bool.and_eq_false_iff] at h
    obtain ⟨⟨⟨⟨⟨⟨⟨⟨-, -⟩, badB⟩, -⟩, -⟩, -⟩, -⟩, -⟩, kept⟩ := h
    simp only [bad, Bool.or_eq_false_iff, decide_eq_false_iff_not, Nat.not_lt] at badB
    obtain ⟨⟨⟨-, lines⟩, -⟩, -⟩ := badB
    refine ⟨lines, fun mac => ?_⟩
    have same := (kept.resolve_left (by simp [z, mac])).1
    simpa using same
  · cases h

/-- The set that a MAC adds to: a MACZ begins it at +0 with its type and LSB (R190). -/
def startSet (w : BitVec 64) (set : AccSet) : AccSet :=
  let ty := accTypeOf (bitsOf w 13 2)
  if bitsOf w 0 4 = 1 then ⟨ty, if ty = .int64 then sext 8 (bitsOf w 16 8) else 0, []⟩ else set

theorem startSet_mac {w : BitVec 64} (set : AccSet) (h : bitsOf w 0 4 ≠ 1) : startSet w set = set := if_neg h

theorem startSet_macz {w : BitVec 64} (set : AccSet) (h : bitsOf w 0 4 = 1) :
    startSet w set = ⟨accTypeOf (bitsOf w 13 2), if accTypeOf (bitsOf w 13 2) = .int64 then sext 8 (bitsOf w 16 8) else 0, []⟩ := if_pos h

/-- Whether a MAC takes the fast passes. -/
def macFast (s : State) (w : BitVec 64) : Bool := bitsOf w 15 1 == 1 && s.bit NUM_POLICY_FAST_ALLOW

/-- A MAC tile is sampled where the draw takes it (R272, R280). -/
def sampled (s : State) (l : Nat) (A B : Operand) (kind : PairKind) (fast : Bool) (koff n : Nat) (old new : AccSet) (index : Nat) : State :=
  match s.drawn (s.rd64 TG_SEAM_LO) 0xFFFFFF index with
  | some unit => s.sampleMac l unit A B kind fast koff n old new
  | none => s

section
variable (s : State) (l : Nat) (A B : Operand) (kind : PairKind) (fast : Bool) (koff n : Nat) (old new : AccSet) (index : Nat)

theorem only_addSample (e : Sample) : Only [.temper] s (s.addSample e) := by
  intro p hp
  cases p
  case temper => simp at hp
  all_goals simp [Part.same, State.addSample, State.word, State.byteAt]

theorem only_sampled : Only [.temper] s (sampled s l A B kind fast koff n old new index) := by
  unfold sampled
  split
  · exact only_addSample s _
  · exact Only.rfl

/-- No tile is sampled at rate 31. -/
theorem sampled_off (h : s.rd NUM_ASSAY_RATE = 31) : sampled s l A B kind fast koff n old new index = s := by
  rw [sampled, State.drawn, h]
  rfl

end

section
variable (s : State) (l : Nat) (u : Bundle) (x : Slot)

/-- The operand registers of a MAC slot, as its bundle reads them. -/
def operandA : BitVec 64 := u.regs.or.getD (bitsOf x.word 4 4) 0
def operandB : BitVec 64 := u.regs.or.getD (bitsOf x.word 8 4) 0

/-- Whether an operand of a MAC slot holds an uncorrectable word. -/
def macDamaged : Bool := (orCells (operandA u x) ++ orCells (operandB u x)).any (fun c => (s.bench l).bad (256 * c.1) (256 * c.2))

/-- The accumulator set that a MAC slot names. -/
def macSet : AccSet := (s.bench l).set (bitsOf x.word 12 1)

/-- The set and the flags that a MAC slot leaves. -/
def macResult (fa fb : Fmt) (kind : PairKind) : AccSet × Flags :=
  macTile ((s.bench l).operand (operandA u x) fa) ((s.bench l).operand (operandB u x) fb) kind (macFast s x.word) (bitsOf x.word 40 16)
    (bitsOf x.word 24 16) (startSet x.word (macSet s l x))

/-- The Bench with a new set, its MAC counted (R272). -/
def macBench (new : AccSet) : Bench := { (s.bench l).setAcc (bitsOf x.word 12 1) new with macs := (s.bench l).macs + 1 }

/-- The node with the result of a MAC slot, sampled where the draw takes it. -/
def macSampled (fa fb : Fmt) (kind : PairKind) : State :=
  let new := (macResult s l u x fa fb kind).1
  sampled (s.setBench l (macBench s l x new)) l ((s.bench l).operand (operandA u x) fa) ((s.bench l).operand (operandB u x) fb) kind
    (macFast s x.word) (bitsOf x.word 40 16) (bitsOf x.word 24 16) (startSet x.word (macSet s l x)) new (l * 2 ^ 30 + (s.bench l).macs)

theorem set_macBench (new : AccSet) (id pos : Nat) (p : SlotPhase) : ((macBench s l x new).mark id pos p).set (bitsOf x.word 12 1) = new := by
  refine Eq.trans (set_of_same ?_ ?_ _) (set_setAcc (s.bench l) _ new) <;> rfl

variable {s l u x}

theorem macSlot_badFormat (h : macBad x.word (operandA u x) (operandB u x) (macSet s l x) = true) :
    s.macSlot l u x = s.streamError l u.id u.pc x.pos 2 := if_pos h

theorem macSlot_damaged (h : macBad x.word (operandA u x) (operandB u x) (macSet s l x) = false) (bad : macDamaged s l u x = true) :
    s.macSlot l u x = s.streamError l u.id u.pc x.pos 10 0 := (if_neg (Bool.eq_false_iff.1 h)).trans (if_pos bad)

variable {fa fb : Fmt} {kind : PairKind}

theorem macSlot_adds (h : macBad x.word (operandA u x) (operandB u x) (macSet s l x) = false) (whole : macDamaged s l u x = false)
    (ha : Fmt.ofCode (orFmt (operandA u x)) = some fa) (hb : Fmt.ofCode (orFmt (operandB u x)) = some fb) (hk : pairKind fa fb = some kind) :
    s.macSlot l u x = ((macSampled s l u x fa fb kind).benchFlags l (macResult s l u x fa fb kind).2).markSlot l u.id x.pos .performed := by
  refine (if_neg (Bool.eq_false_iff.1 h)).trans ((if_neg (Bool.eq_false_iff.1 whole)).trans ?_)
  unfold operandA at ha
  unfold operandB at hb
  simp only [ha, hb, hk]
  rfl

variable (s l u x fa fb kind)

theorem macSampled_spec : BenchIs l (macBench s l x (macResult s l u x fa fb kind).1) s (macSampled s l u x fa fb kind) ∧
    Only [.benches, .temper] s (macSampled s l u x fa fb kind) ∧
    (s.rd NUM_ASSAY_RATE = 31 → (macSampled s l u x fa fb kind).temper = s.temper) := by
  let t := s.setBench l (macBench s l x (macResult s l u x fa fb kind).1)
  have taken : Only [.temper] t (macSampled s l u x fa fb kind) := only_sampled t l _ _ _ _ _ _ _ _ _
  refine ⟨benchIs_then_only (benchIs_setBench s l _) taken (by decide), (only_setBench s l _).comp taken (by simp) (by simp), fun off => ?_⟩
  have unsampled : macSampled s l u x fa fb kind = t := sampled_off t l _ _ _ _ _ _ _ _ _ off
  rw [unsampled]
  rfl

/-- What a MAC slot leaves beside its accumulators: it is performed and counted, and the flags stand in the word of the physical Bench. -/
theorem macSlot_frame (f : Flags) :
    let y := ((macSampled s l u x fa fb kind).benchFlags l f).markSlot l u.id x.pos .performed
    BenchIs l ((macBench s l x (macResult s l u x fa fb kind).1).mark u.id x.pos .performed) s y ∧ WordsOnly [flagsAddr s l] s y ∧
      y.now = s.now ∧ Only [.clock, .benches, .regs, .mill, .flt, .temper] s y ∧ (s.rd NUM_ASSAY_RATE = 31 → y.temper = s.temper) := by
  intro y
  obtain ⟨bench, only, unsampled⟩ := macSampled_spec s l u x fa fb kind
  obtain ⟨-, words, -, now, flagged⟩ := benchFlags_raises (macSampled s l u x fa fb kind) l f
  have same : WordsOnly [] s (macSampled s l u x fa fb kind) := fun a _ => only .regs (by decide) a
  have host : flagsAddr (macSampled s l u x fa fb kind) l = flagsAddr s l := by
    rw [flagsAddr, physOf_of_words same (by simp) (only .mill (by decide)), flagsAddr]
  have set := benchIs_then_only bench flagged (by decide)
  have marked := benchIs_markSlot ((macSampled s l u x fa fb kind).benchFlags l f) l u.id x.pos .performed
  rw [set.1] at marked
  refine ⟨benchIs_trans set marked, (same.mono (by simp)).trans (host ▸ words), now.trans (only .clock (by decide)).1, ?_, fun off => ?_⟩
  · exact (only.comp flagged (by simp) (by simp)).trans ((only_markSlot _ l _ _ _).mono (by simp))
  · exact (flagged .temper (by decide)).trans (unsampled off)

end

/-! ### O32 -/

/-- Settles O32: the tile puts each output once, at a place of its own, so each takes what its groups make of its old value. -/
theorem matrixSlotsAccumulate : Obligations.MatrixSlotsAccumulate := by
  unfold Obligations.MatrixSlotsAccumulate
  intro l op u x s hl h two c b w oa ob set ty n damaged
  obtain ⟨-, code⟩ := place_and_op_of_ready h
  replace code : bitsOf w 0 4 = op := code
  have performed : exec c s = .next (s.macSlot l u x) := by
    have slot : s.opMac l op = s.macSlot l u x := by rw [State.opMac, h]
    rw [← slot]
    obtain rfl | rfl : op = 0 ∨ op = 1 := by omega
    · rfl
    · rfl
  refine ⟨fun bad => ?_, fun ok bad => ?_, fun ok whole fa fb kind ha hb hk => ?_⟩
  · exact stops_of_streamError hl h (by decide) (by decide) (performed.trans (congrArg _ (macSlot_badFormat bad)))
  · exact stops_of_streamError hl h (by decide) (by decide) (performed.trans (congrArg _ (macSlot_damaged ok bad)))
  · intro A B fast lsb old
    obtain ⟨columns, keeps⟩ := macBad_false ok
    have start : (startSet w (b.set set)).ty = ty ∧ (startSet w (b.set set)).lsb = lsb ∧ ∀ m, (startSet w (b.set set)).get m = old m := by
      by_cases mac : op = 0
      · rw [startSet_mac _ (by omega)]
        exact ⟨(keeps (by omega)).symm, (if_pos mac).symm, fun m => (if_pos mac).symm⟩
      · rw [startSet_macz _ (by omega)]
        exact ⟨rfl, (if_neg mac).symm, fun m => (if_neg mac).symm⟩
    obtain ⟨hty, hlsb, hget⟩ := start
    obtain ⟨bench, words, now, only, unsampled⟩ := macSlot_frame s l u x fa fb kind (macResult s l u x fa fb kind).2
    refine ⟨_, performed.trans (congrArg _ (macSlot_adds ok whole ha hb hk)), ?_⟩
    rw [bench.1, set_macBench]
    refine ⟨fun i j hi hj => ?_, fun m hm => ?_, ?_, ?_, rfl, bench.2, words, now, only, unsampled⟩
    · rw [← hty, ← hlsb, ← hget]
      exact macTile_in kind fast _ n _ columns hi hj
    · rw [← hget]
      exact macTile_out kind fast _ n _ columns hm
    · exact (macTile_kind kind fast _ n _).1.trans hty
    · exact (macTile_kind kind fast _ n _).2.trans hlsb

end Sys2Proof.Proofs.Numbers
end

section
/-! PROOFS. SYNC slots: counters of a Hall, the waits on them, and the physical Bench that may switch meanwhile (R158, R197, R203). -/

open Sys2Proof Sys2Proof.Machine Sys2Proof.Proofs.Casting Sys2Proof.Proofs.Grid Sys2Proof.Proofs.Numbers

namespace Sys2Proof.Proofs.Mill

/-- One Bench becomes `b`, and nothing else changes. -/
def Becomes (l : Nat) (b : Bench) (s y : State) : Prop := BenchIs l b s y ∧ Only [.benches] s y

section
variable {s : State} {l : Nat}

/-- A Bench that is stored twice is what was stored last. -/
theorem becomes_trans {b c : Bench} {t u : State} (h : Becomes l b s t) (k : Becomes l c t u) : Becomes l c s u :=
  ⟨benchIs_trans h.1 k.1, h.2.trans k.2⟩

theorem becomes_setBench (b : Bench) : Becomes l b s (s.setBench l b) := ⟨benchIs_setBench s l b, only_setBench s l b⟩

theorem becomes_markSlot (id pos : Nat) (p : SlotPhase) : Becomes l ((s.bench l).mark id pos p) s (s.markSlot l id pos p) :=
  becomes_setBench _

/-! ### Fold switches (R158) -/

/-- A physical Bench with no other Bench to run does not switch. -/
theorem foldTry_stays (alone : ∀ r, s.resident l = some r → s.foldNext r = none) : s.foldTry l = s := by
  unfold State.foldTry
  split
  · rfl
  · rename_i r runs
    rw [alone r runs, ite_self]

/-- Whether a Bench is ready to be switched in does not change with a Bench that is folded out neither before nor after. -/
theorem foldReady_setBench {b : Bench} (before : (s.bench l).st ≠ .foldedOut) (after : b.st ≠ .foldedOut) (j : Nat) :
    (s.setBench l b).foldReady j = s.foldReady j := by
  by_cases own : j = l
  · subst own
    simp [State.foldReady, beq_false_of_ne before, beq_false_of_ne after]
  · unfold State.foldReady
    rw [bench_setBench_ne s b own]
    rfl

theorem foldNext_setBench {b : Bench} (before : (s.bench l).st ≠ .foldedOut) (after : b.st ≠ .foldedOut) (r : Nat) :
    (s.setBench l b).foldNext r = s.foldNext r := by
  have ready : (s.setBench l b).foldReady = s.foldReady := funext (foldReady_setBench before after)
  have hosted : (s.setBench l b).coHosted r = s.coHosted r := rfl
  rw [State.foldNext, ready, hosted]
  rfl

/-- A Bench that begins to wait, or goes on waiting, leaves a physical Bench that has no other to run as it is. -/
theorem foldTry_setBench {b : Bench} (before : (s.bench l).st ≠ .foldedOut) (after : b.st ≠ .foldedOut)
    (alone : ∀ r, s.resident l = some r → s.foldNext r = none) : (s.setBench l b).foldTry l = s.setBench l b :=
  foldTry_stays fun r runs => (foldNext_setBench before after r).trans (alone r runs)

/-! ### Waits -/

/-- A Bench that no longer waits on a counter; one that waited runs. -/
def woken (b : Bench) : Bench := { b with st := if b.st = .waiting then .running else b.st, waitc := none }

theorem wakeBench_wakes (h : (s.bench l).st ≠ .foldedOut) : Becomes l (woken (s.bench l)) s (s.wakeBench l) := by
  have here : s.wakeBench l = s.setBench l (woken (s.bench l)) := by
    unfold State.wakeBench woken
    cases st : (s.bench l).st <;> simp_all
  exact here ▸ becomes_setBench _

/-- A slot that ends a wait is complete and its Bench runs again. -/
theorem markSlot_wakes {id pos : Nat} (h : (s.bench l).st ≠ .foldedOut) :
    Becomes l (woken ((s.bench l).mark id pos .complete)) s ((s.markSlot l id pos .complete).wakeBench l) := by
  have marked : (s.markSlot l id pos .complete).bench l = (s.bench l).mark id pos .complete := bench_setBench_same s l _
  have wakes := wakeBench_wakes (s := s.markSlot l id pos .complete) (l := l) (marked ▸ h)
  rw [marked] at wakes
  exact becomes_trans (becomes_markSlot id pos .complete) wakes

/-- Whether every earlier slot has completed. -/
theorem earlierDone_iff {b : Bench} {id pos : Nat} : b.earlierDone id pos (fun _ => true) = true ↔
    ∀ e ∈ b.slots, e.1.id < id ∨ (e.1.id = id ∧ e.2.pos < pos) → e.2.phase = .complete := by
  simp only [Bench.earlierDone, List.all_eq_true, Bool.or_eq_true, Bool.not_eq_true', Bool.or_eq_false_iff, decide_eq_false_iff_not,
    Bool.and_eq_false_iff, beq_eq_false_iff_ne, beq_iff_eq, Bool.not_true, Bool.false_eq_true, or_false]
  exact forall₂_congr fun e _ => by tauto

/-! ### The slots (R197) -/

section
variable {u : Bundle} {x : Slot}

/-- A Bench that waits on a counter. -/
def waitsOn (b : Bench) (ctr value : Nat) : Bench := { b with st := .waiting, waitc := some (ctr, value) }

theorem opWaitc_ends (h : s.ready? l 6 0 = some (u, x)) (high : syncVal x.word ≤ s.rd (MIL_SYNC (syncCtr x.word)))
    (running : (s.bench l).st ≠ .foldedOut) : Becomes l (woken ((s.bench l).mark u.id x.pos .complete)) s (s.opWaitc l) := by
  have ends : s.opWaitc l = (s.markSlot l u.id x.pos .complete).wakeBench l := by
    rw [State.opWaitc, h]
    exact if_pos high
  exact ends ▸ markSlot_wakes running

theorem opWaitc_waits (h : s.ready? l 6 0 = some (u, x)) (low : s.rd (MIL_SYNC (syncCtr x.word)) < syncVal x.word)
    (waits : (s.bench l).st = .running ∨ (s.bench l).st = .waiting) (alone : ∀ r, s.resident l = some r → s.foldNext r = none) :
    Becomes l (waitsOn (s.bench l) (syncCtr x.word) (syncVal x.word)) s (s.opWaitc l) := by
  have folded : (s.bench l).st ≠ .foldedOut := by
    rcases waits with st | st <;> rw [st] <;> decide
  have begins : s.opWaitc l = (s.setBench l (waitsOn (s.bench l) (syncCtr x.word) (syncVal x.word))).foldTry l := by
    rw [State.opWaitc, h]
    refine (if_neg (Nat.not_le.2 low)).trans ?_
    rcases waits with st | st <;> simp only [st, waitsOn]
  rw [begins, foldTry_setBench folded (by simp [waitsOn]) alone]
  exact becomes_setBench _

/-- Whether every ST before a POST has completed. -/
def stored (b : Bench) (u : Bundle) (x : Slot) : Bool := b.earlierDone u.id x.pos (fun y => y.pos == 1)

theorem opPost_early (h : s.ready? l 6 1 = some (u, x)) (early : stored (s.bench l) u x = false) : s.opPost l = s := by
  rw [State.opPost, h]
  exact if_neg (Bool.eq_false_iff.1 early)

theorem opPost_held (h : s.ready? l 6 1 = some (u, x)) (after : stored (s.bench l) u x = true) {rel : Nat} (hr : u.regs.rel = some rel) :
    s.opPost l = (s.markSlot l u.id x.pos .performed).hold 0 l rel (.post (syncCtr x.word) u.id x.pos) := by
  rw [State.opPost, h]
  refine (if_pos after).trans ?_
  rw [hr]

theorem opPost_posts (h : s.ready? l 6 1 = some (u, x)) (after : stored (s.bench l) u x = true) (hr : u.regs.rel = none)
    (nobody : ∀ j, j < s.benchN → (s.bench j).st = .foldedOut → ∀ v, (s.bench j).waitc ≠ some (syncCtr x.word, v)) :
    s.opPost l = (s.inc (MIL_SYNC (syncCtr x.word))).markSlot l u.id x.pos .complete := by
  rw [State.opPost, h]
  refine (if_pos after).trans ?_
  rw [hr, postSync_eq s _ nobody]

theorem opDrainw_ends (h : s.ready? l 6 2 = some (u, x)) (before : (s.bench l).earlierDone u.id x.pos (fun _ => true) = true)
    (running : (s.bench l).st ≠ .foldedOut) : Becomes l (woken ((s.bench l).mark u.id x.pos .complete)) s (s.opDrainw l) := by
  have ends : s.opDrainw l = (s.markSlot l u.id x.pos .complete).wakeBench l := by
    rw [State.opDrainw, h]
    exact if_pos before
  exact ends ▸ markSlot_wakes running

theorem opDrainw_waits (h : s.ready? l 6 2 = some (u, x)) (before : ¬(s.bench l).earlierDone u.id x.pos (fun _ => true) = true) :
    s.opDrainw l = if (s.bench l).st = .running then s.setBench l { s.bench l with st := .waiting } else s := by
  rw [State.opDrainw, h]
  refine (if_neg before).trans ?_
  cases st : (s.bench l).st <;> simp [st]

theorem opTestc_tests (h : s.ready? l 6 3 = some (u, x)) :
    Becomes l (((s.bench l).setPf (bitsOf x.word 16 4) (decide (syncVal x.word ≤ s.rd (MIL_SYNC (syncCtr x.word))))).mark u.id x.pos .complete) s
      (s.opTestc l) := by
  rw [State.opTestc, h]
  dsimp only
  generalize (s.bench l).setPf _ _ = b
  have marked := becomes_markSlot (s := s.setBench l b) (l := l) u.id x.pos .complete
  rw [bench_setBench_same] at marked
  exact becomes_trans (becomes_setBench b) marked

/-- A result held at its release gate (R103). -/
theorem only_hold (kind unit rel : Nat) (act : GateAct) : Only [.tg] s (s.hold kind unit rel act) := only_withTg s _

end

end

/-! ### O29 -/

/-- Settles O29: a wait that begins leaves no Bench readier to be switched in than it was. -/
theorem syncSlotsWaitAndCount : Obligations.SyncSlotsWaitAndCount := by
  unfold Obligations.SyncSlotsWaitAndCount
  intro l op u x s h b ctr value becomes woken
  have does {c : Instr} {b : Bench} {y : State} (hc : exec c s = .next y) (hy : Becomes l b s y) : becomes c b := ⟨y, hc, hy⟩
  have waitc : exec (.waitc l) s = .next (s.opWaitc l) := rfl
  have post : exec (.post l) s = .next (s.opPost l) := rfl
  have drainw : exec (.drainw l) s = .next (s.opDrainw l) := rfl
  refine ⟨?_, ?_, ?_, ?_⟩
  · rintro rfl
    exact ⟨fun high running => does waitc (opWaitc_ends h high running), fun low waits alone => does waitc (opWaitc_waits h low waits alone)⟩
  · rintro rfl _
    refine ⟨fun after hr nobody => ?_, fun rel after hr => ?_, fun early => post.trans (congrArg _ (opPost_early h early))⟩
    · have posts := post.trans (congrArg _ (opPost_posts h after hr nobody))
      have marked := becomes_markSlot (s := s.inc (MIL_SYNC ctr)) (l := l) u.id x.pos .complete
      exact ⟨_, posts, marked.1, s.rd_addSat _ _ (by simp [MIL_SYNC]), s.words_addSat _ _, (s.only_addSat _ _).comp marked.2 (by simp) (by simp)⟩
    · have held := post.trans (congrArg _ (opPost_held h after hr))
      have marked := becomes_markSlot (s := s) (l := l) u.id x.pos .performed
      exact ⟨_, held, benchIs_then_only marked.1 (only_hold _ _ _ _) (by decide), rfl, marked.2.comp (only_hold _ _ _ _) (by simp) (by simp)⟩
  · rintro rfl before
    refine ⟨fun done running => does drainw (opDrainw_ends h (earlierDone_iff.2 done) running), fun notDone running => ?_,
      fun notDone stays => ?_⟩
    · refine does (drainw.trans (congrArg _ (opDrainw_waits h (mt earlierDone_iff.1 notDone)))) ?_
      rw [if_pos running]
      exact becomes_setBench _
    · refine drainw.trans (congrArg _ ((opDrainw_waits h (mt earlierDone_iff.1 notDone)).trans (if_neg stays)))
  · rintro rfl
    exact does rfl (opTestc_tests h)

end Sys2Proof.Proofs.Mill
end

section
/-! PROOFS. The bytes that DRAIN writes and MERGE reads: whole cells of values, row after row (R189, R192, R193). -/

open Sys2Proof Sys2Proof.Machine Sys2Proof.Proofs.Numbers

namespace Sys2Proof.Proofs.Mill

/-! ### Whole cells -/

/-- Padded bytes are the bytes with zeros after them. -/
theorem padCells_eq (bs : List Byte) : padCells bs = bs ++ List.replicate ((bs.length + 255) / 256 * 256 - bs.length) 0 := by
  have fits : bs.length ≤ (bs.length + 255) / 256 * 256 := by omega
  simp [padCells, slice, List.take_of_length_le fits]

@[simp] theorem padCells_length (bs : List Byte) : (padCells bs).length = (bs.length + 255) / 256 * 256 := slice_length _ _ _

/-- Numbers of four bytes each, one after another, are packed binary32 elements. -/
theorem flatMap_leBytes_eq_packElems (cs : List Nat) : cs.flatMap (leBytes 4) = packElems .fp32 cs := by
  induction cs with
  | nil => rfl
  | cons c cs ih =>
    rw [List.flatMap_cons, ih]
    cases cs with
    | nil => exact List.append_nil _
    | cons c' cs => rfl

/-- The number at a place among padded numbers of four bytes. -/
theorem leAt_padCells_flatMap (cs : List Nat) {k : Nat} (h : k < cs.length) :
    4 * k + 4 ≤ (padCells (cs.flatMap (leBytes 4))).length ∧ leAt (padCells (cs.flatMap (leBytes 4))) (4 * k) 4 = cs.getD k 0 % 2 ^ 32 := by
  have length : (cs.flatMap (leBytes 4)).length = 4 * cs.length := by
    simp [List.length_flatMap, Nat.mul_comm]
  refine ⟨by rw [padCells_length]; omega, ?_⟩
  rw [padCells_eq, leAt_append_left _ (by omega), flatMap_leBytes_eq_packElems, Nat.mul_comm]
  exact leAt_packElems_whole (f := .fp32) (by decide) cs h

theorem toBits_lt (n : Nat) (v : Int) : toBits n v < 2 ^ n := by
  have bound := Int.emod_lt_of_pos v (show (0 : Int) < 2 ^ n by positivity)
  have nonneg := Int.emod_nonneg v (show (2 ^ n : Int) ≠ 0 by positivity)
  rw [toBits, Int.toNat_lt nonneg]
  exact_mod_cast bound

/-! ### The accumulators of a drain, row by row (R192) -/

theorem accIndices_eq {rows cols : Nat} (hc : 0 < cols) :
    accIndices rows cols = (List.range (rows * cols)).map (fun n => 64 * (n / cols) + n % cols) := by
  induction rows with
  | zero => simp [accIndices]
  | succ rows ih =>
    have row : (List.range cols).map (fun j => 64 * ((rows * cols + j) / cols) + (rows * cols + j) % cols) =
        (List.range cols).map (fun j => 64 * rows + j) := List.map_congr_left fun j hj => by
      have hj := List.mem_range.1 hj
      rw [Nat.mul_comm rows, Nat.mul_add_div hc, Nat.mul_add_mod, Nat.div_eq_of_lt hj, Nat.mod_eq_of_lt hj, Nat.add_zero]
    have before : accIndices (rows + 1) cols = accIndices rows cols ++ (List.range cols).map (fun j => 64 * rows + j) := by
      simp [accIndices, List.range_succ, List.flatMap_append]
    rw [before, ih, Nat.succ_mul rows, List.range_add, List.map_append, List.map_map, ← row]
    rfl

theorem accIndices_length (rows cols : Nat) : (accIndices rows cols).length = rows * cols := by
  simp [accIndices, List.length_flatMap]

/-- The accumulator (i, j) is value number COLS * i + j. -/
theorem accIndices_getElem? {rows cols i j : Nat} (hi : i < rows) (hj : j < cols) : (accIndices rows cols)[cols * i + j]? = some (64 * i + j) := by
  have hc : 0 < cols := by omega
  have inside : cols * i + j < rows * cols := calc
    cols * i + j < cols * i + cols := by omega
    _ = cols * (i + 1) := (Nat.mul_succ ..).symm
    _ ≤ rows * cols := Nat.mul_comm rows _ ▸ Nat.mul_le_mul_left _ hi
  rw [accIndices_eq hc, List.getElem?_map, List.getElem?_range inside, Option.map_some, Nat.mul_add_div hc, Nat.mul_add_mod,
    Nat.div_eq_of_lt hj, Nat.mod_eq_of_lt hj, Nat.add_zero]

/-- Each of at most 64 columns has accumulators of its own. -/
theorem accIndices_nodup {rows cols : Nat} (h : cols ≤ 64) : (accIndices rows cols).Nodup := by
  rcases Nat.eq_zero_or_pos cols with rfl | hc
  · simp [accIndices, List.flatMap_eq_nil_iff.2]
  · rw [accIndices_eq hc]
    refine List.Nodup.map_on (fun n _ m _ same => ?_) List.nodup_range
    have hn := Nat.mod_lt n hc
    have hm := Nat.mod_lt m hc
    have div : n / cols = m / cols := by omega
    have mod : n % cols = m % cols := by omega
    rw [← Nat.div_add_mod n cols, div, mod, Nat.div_add_mod]

theorem mem_accIndices {rows cols m : Nat} (h : m ∈ accIndices rows cols) (hc : cols ≤ 64) : m / 64 < rows ∧ m % 64 < cols := by
  simp only [accIndices, List.mem_flatMap, List.mem_map, List.mem_range] at h
  obtain ⟨i, hi, j, hj, rfl⟩ := h
  omega

/-! ### The rules of a drain (R189, R192) -/

section
variable {w : BitVec 64} {ty : AccType}

theorem accError_lt {k : Nat} (h : accError w ty = some k) : k < 256 := by
  unfold accError at h
  split_ifs at h <;> cases h <;> decide

/-- What the rules of a drain or merge leave. -/
theorem accError_none (h : accError w ty = none) : accBad w = false ∧ bitsOf w 5 10 + drainCells w ty ≤ 1024 := by
  unfold accError at h
  split_ifs at h with bad out
  exact ⟨Bool.eq_false_iff.2 bad, Nat.not_lt.1 out⟩

theorem cols_le {w : BitVec 64} (h : accBad w = false) : bitsOf w 40 7 ≤ 64 := by
  simp only [accBad, Bool.or_eq_false_iff, decide_eq_false_iff_not, Nat.not_lt] at h
  obtain ⟨⟨-, cols⟩, -⟩ := h
  exact cols

theorem format_of_not_raw (h : accBad w = false) (raw : accRaw w = false) : ∃ f, Fmt.ofCode (bitsOf w 15 4) = some f := by
  cases hf : Fmt.ofCode (bitsOf w 15 4) with
  | none => simp [accBad, raw, hf] at h
  | some f => exact ⟨f, rfl⟩

/-- A drain writes whole cells: those of its values, and those of its scales. -/
theorem drainOut_length (a : AccSet) (pol : NumPolicy) (h : accBad w = false) : (drainOut a w pol).1.length = 256 * drainCells w a.ty := by
  unfold drainOut drainCells drainBytes
  by_cases raw : accRaw w = true
  · cases hty : a.ty <;> simp [raw, drainBits, List.length_flatMap, accIndices_length, Function.comp_def] <;> omega
  · obtain ⟨f, hf⟩ := format_of_not_raw h (Bool.eq_false_iff.2 raw)
    have bits : drainBits false a.ty (bitsOf w 15 4) = f.bits := by simp [drainBits, fmtBits, hf]
    by_cases plain : sdDir (bitsOf w 19 8) = 0
    · have scales : scaleBlocks (bitsOf w 19 8) (bitsOf w 33 7) (bitsOf w 40 7) = 0 := by simp only [scaleBlocks, plain]
      simp [raw, bits, hf, plain, scales, packElems_length, vecBytes, accIndices_length, Nat.mul_comm]
    · simp [raw, bits, hf, plain, drainScaled, packElems_length, vecBytes, accIndices_length, Nat.mul_add, Nat.mul_comm]

/-- The raw value of accumulator (i, j) is the word COLS * i + j of a drain (R192). -/
theorem leAt_drainOut_raw (a : AccSet) (pol : NumPolicy) (raw : accRaw w = true) (narrow : a.ty ≠ .int64) {i j : Nat} (hi : i < bitsOf w 33 7)
    (hj : j < bitsOf w 40 7) : 4 * (bitsOf w 40 7 * i + j) + 4 ≤ (drainOut a w pol).1.length ∧
      leAt (drainOut a w pol).1 (4 * (bitsOf w 40 7 * i + j)) 4 = toBits 32 (a.get (64 * i + j)) := by
  let vs := (accIndices (bitsOf w 33 7) (bitsOf w 40 7)).map a.get
  have out : (drainOut a w pol).1 = padCells ((vs.map (toBits 32)).flatMap (leBytes 4)) := by
    simp only [drainOut, raw, if_true, if_neg narrow, List.flatMap_map, vs]
  have value : (vs.map (toBits 32))[bitsOf w 40 7 * i + j]? = some (toBits 32 (a.get (64 * i + j))) := by
    simp only [vs, List.getElem?_map, accIndices_getElem? hi hj, Option.map_some]
  obtain ⟨inside, -⟩ := List.getElem?_eq_some_iff.1 value
  obtain ⟨fits, word⟩ := leAt_padCells_flatMap _ inside
  rw [List.getD_eq_getElem?_getD, value, Option.getD_some, Nat.mod_eq_of_lt (toBits_lt 32 _)] at word
  exact out ▸ ⟨fits, word⟩

end

end Sys2Proof.Proofs.Mill
end

section
/-! PROOFS. ACC slots: DRAIN, DRAINK, CLEAR and MERGE (R142, R147, R192, R193, R214). -/

open Sys2Proof Sys2Proof.Machine Sys2Proof.Proofs.Casting Sys2Proof.Proofs.Grid Sys2Proof.Proofs.Numbers

namespace Sys2Proof.Proofs.Mill

/-! ### Flags of a slot that is performed -/

section
variable {s t : State} {l : Nat}

theorem words_setBench (s : State) (l : Nat) (b : Bench) (words : List Nat) : WordsOnly words s (s.setBench l b) := fun _ _ => rfl

/-- What the flags and the mark of a slot leave of a node in which one Bench, and what an injection counts, have changed. -/
theorem flagged_marked {c : Bench} (bench : BenchIs l c s t) (words : WordsOnly [FLT_INJ_LEFT_LEFT.addr] s t) (only : Only [.benches, .regs] s t)
    (f : Flags) (id pos : Nat) (p : SlotPhase) :
    let y := (t.benchFlags l f).markSlot l id pos p
    BenchIs l (c.mark id pos p) s y ∧ WordsOnly [flagsAddr s l, FLT_INJ_LEFT_LEFT.addr] s y ∧ y.now = s.now ∧
      Only [.clock, .benches, .regs, .mill, .flt] s y := by
  intro y
  obtain ⟨-, words', -, now, only'⟩ := benchFlags_raises t l f
  have host : flagsAddr t l = flagsAddr s l := by
    rw [flagsAddr, physOf_of_words words (by decide) (only .mill (by decide)), flagsAddr]
  have flagged := benchIs_then_only bench only' (by decide)
  have marked := benchIs_markSlot (t.benchFlags l f) l id pos p
  rw [flagged.1] at marked
  refine ⟨benchIs_trans flagged marked, ?_, now.trans (only .clock (by decide)).1, ?_⟩
  · exact (words.mono (by simp)).trans ((host ▸ words').mono (by simp))
  · exact (only.comp only' (by simp) (by simp)).trans ((only_markSlot _ l _ _ _).mono (by simp))

end

/-! ### Sets of a Bench -/

theorem setAcc_set (b : Bench) (n : Nat) : b.setAcc n (b.set n) = b := by
  unfold Bench.setAcc Bench.set
  split <;> rfl

theorem set_mark_setAcc (b : Bench) (n : Nat) (a : AccSet) (id pos : Nat) (p : SlotPhase) : ((b.setAcc n a).mark id pos p).set n = a :=
  (set_of_same rfl rfl n).trans (set_setAcc b n a)

/-- A set that is cleared keeps its type (R192). -/
def cleared (a : AccSet) : AccSet := { a with vals := [] }

/-- What DRAIN and DRAINK leave of the set that they drain. -/
def drained (keep : Bool) (a : AccSet) : AccSet := if keep then a else cleared a

section
variable (s : State) (l : Nat) (x : Slot)

/-- The set that an ACC slot names. -/
def accSet : AccSet := (s.bench l).set (bitsOf x.word 4 1)

/-- The byte of the store at which an ACC slot's cells begin. -/
def accAt : Nat := 256 * bitsOf x.word 5 10

/-! ### DRAIN and DRAINK -/

/-- The bytes and flags of a drain. -/
def drainedOut : List Byte × Flags := drainOut (accSet s l x) x.word s.policy

/-- The node with the drained bytes in the store, its set cleared where the drain does not keep it. -/
def drainedState (keep : Bool) : State :=
  let t := s.benchWrite l (accAt x) (drainedOut s l x).1
  if keep then t else t.setBench l ((t.bench l).setAcc (bitsOf x.word 4 1) (cleared (accSet s l x)))

variable {s l x} {u : Bundle} {op : Nat}

theorem opDrain_stops {keep : Bool} (h : s.ready? l 3 op = some (u, x)) {k : Nat} (bad : accError x.word (accSet s l x).ty = some k) :
    s.opDrain l op keep = s.streamError l u.id u.pc x.pos k := by
  unfold accSet at bad
  simp only [State.opDrain, h, bad]

theorem opDrain_drains {keep : Bool} (h : s.ready? l 3 op = some (u, x)) (ok : accError x.word (accSet s l x).ty = none) :
    s.opDrain l op keep = ((drainedState s l x keep).benchFlags l (drainedOut s l x).2).markSlot l u.id x.pos .performed := by
  unfold accSet at ok
  simp only [State.opDrain, h, ok]
  rfl

/-- The drained bytes stand in the store, and the set is what the drain leaves. -/
theorem drainedState_spec (keep : Bool) :
    let b := (s.bench l).setAcc (bitsOf x.word 4 1) (drained keep (accSet s l x))
    (∃ d, BenchIs l { b.write (accAt x) (drainedOut s l x).1 with damage := d } s (drainedState s l x keep)) ∧
      WordsOnly [FLT_INJ_LEFT_LEFT.addr] s (drainedState s l x keep) ∧ Only [.benches, .regs] s (drainedState s l x keep) := by
  obtain ⟨⟨d, bench⟩, words, -, only⟩ := benchWrite_writes s l (accAt x) (drainedOut s l x).1
  cases keep with
  | true =>
    refine ⟨⟨d, ?_⟩, words, only⟩
    rw [drained, if_pos rfl, accSet, setAcc_set]
    exact bench
  | false =>
    let t := s.benchWrite l (accAt x) (drainedOut s l x).1
    obtain ⟨own, others⟩ := benchIs_setBench t l ((t.bench l).setAcc (bitsOf x.word 4 1) (cleared (accSet s l x)))
    have whole : (t.bench l).setAcc (bitsOf x.word 4 1) (cleared (accSet s l x)) =
        { ((s.bench l).setAcc (bitsOf x.word 4 1) (cleared (accSet s l x))).write (accAt x) (drainedOut s l x).1 with damage := d } := by
      rw [bench.1]
      unfold Bench.setAcc
      split <;> rfl
    exact ⟨⟨d, benchIs_trans bench ⟨own.trans whole, others⟩⟩, words.trans (words_setBench t l _ _), only.trans ((only_setBench t l _).mono (by simp))⟩

/-- What a drain leaves. -/
theorem drain_drains {c : Instr} {keep : Bool} (h : s.ready? l 3 op = some (u, x)) (hc : exec c s = .next (s.opDrain l op keep))
    (ok : accError x.word (accSet s l x).ty = none) :
    ∃ y, exec c s = .next y ∧ (y.bench l).bytes (accAt x) (drainedOut s l x).1.length = (drainedOut s l x).1 ∧
      (∀ i, (i < accAt x ∨ accAt x + (drainedOut s l x).1.length ≤ i) → (y.bench l).byte i = (s.bench l).byte i) ∧
      y.bench l = { ((s.bench l).setAcc (bitsOf x.word 4 1) (drained keep (accSet s l x))).mark u.id x.pos .performed with
        store := (y.bench l).store, damage := (y.bench l).damage } ∧
      (∀ j, j ≠ l → y.bench j = s.bench j) ∧ WordsOnly [flagsAddr s l, FLT_INJ_LEFT_LEFT.addr] s y ∧ y.now = s.now ∧
      Only [.clock, .benches, .regs, .mill, .flt] s y := by
  obtain ⟨⟨d, bench⟩, words, only⟩ := drainedState_spec (s := s) (l := l) (x := x) keep
  obtain ⟨⟨own, others⟩, words, now, only⟩ := flagged_marked bench words only (drainedOut s l x).2 u.id x.pos .performed
  have fits : accAt x + (drainedOut s l x).1.length ≤ 2 ^ 18 := by
    obtain ⟨rules, cells⟩ := accError_none ok
    rw [drainedOut, drainOut_length _ _ rules, accAt]
    omega
  let b := (s.bench l).setAcc (bitsOf x.word 4 1) (drained keep (accSet s l x))
  have same : ∀ i, b.byte i = (s.bench l).byte i := byte_congr (by unfold b Bench.setAcc; split <;> rfl) (by unfold b Bench.setAcc; split <;> rfl)
  refine ⟨_, hc.trans (congrArg _ (opDrain_drains h ok)), ?_, fun i out => ?_, ?_, others, words, now, only⟩
  · rw [own]
    refine Eq.trans (bytes_congr fun _ _ => ?_) (bytes_write (b := b) fits)
    exact byte_congr rfl rfl _
  · rw [own, ← same, ← byte_write_out (b := b) out]
    exact byte_congr rfl rfl i
  · rw [own]
    rfl

/-! ### CLEAR -/

theorem opClear_clears (h : s.ready? l 3 1 = some (u, x)) :
    BenchIs l (((s.bench l).setAcc (bitsOf x.word 4 1) (cleared (accSet s l x))).mark u.id x.pos .performed) s (s.opClear l) ∧
      Only [.benches] s (s.opClear l) := by
  let b := (s.bench l).setAcc (bitsOf x.word 4 1) (cleared (accSet s l x))
  have slot : s.opClear l = (s.setBench l b).markSlot l u.id x.pos .performed := by
    rw [State.opClear, h]
    rfl
  have marked := benchIs_markSlot (s.setBench l b) l u.id x.pos .performed
  rw [bench_setBench_same] at marked
  exact slot ▸ ⟨benchIs_trans (benchIs_setBench s l b) marked, (only_setBench s l b).trans (only_markSlot _ _ _ _ _)⟩

/-! ### MERGE -/

/-- The bytes that a MERGE reads. -/
def mergeBytes (s : State) (l : Nat) (x : Slot) : List Byte := (s.bench l).bytes (accAt x) (drainBytes x.word (accSet s l x).ty).1

/-- What a raw value makes of an accumulator; values come with their numbers. -/
def mergeOf (ty : AccType) (bs : List Byte) (e : Nat × Nat) (old : Int) : Int × Flags := accMerge ty old (rawAt ty bs e.2)

/-- The accumulators that a MERGE adds to, numbered row by row. -/
def mergeItems (x : Slot) : List (Nat × Nat) := (accIndices (bitsOf x.word 33 7) (bitsOf x.word 40 7)).zipIdx

/-- The set and the flags that a MERGE leaves. -/
def merged (s : State) (l : Nat) (x : Slot) : AccSet × Flags :=
  (mergeItems x).foldl (accStep Prod.fst (mergeOf (accSet s l x).ty (mergeBytes s l x))) (accSet s l x, 0)

theorem opMerge_stops (h : s.ready? l 3 3 = some (u, x)) {k : Nat} (bad : accError x.word (accSet s l x).ty = some k) :
    s.opMerge l = s.streamError l u.id u.pc x.pos k := by
  unfold accSet at bad
  simp only [State.opMerge, h, bad]

theorem opMerge_damaged (h : s.ready? l 3 3 = some (u, x)) (ok : accError x.word (accSet s l x).ty = none)
    (bad : (s.bench l).bad (accAt x) (drainBytes x.word (accSet s l x).ty).1 = true) :
    s.opMerge l = s.streamError l u.id u.pc x.pos 10 0 := by
  unfold accSet at ok
  simp only [State.opMerge, h, ok]
  exact if_pos bad

theorem opMerge_merges (h : s.ready? l 3 3 = some (u, x)) (ok : accError x.word (accSet s l x).ty = none)
    (whole : (s.bench l).bad (accAt x) (drainBytes x.word (accSet s l x).ty).1 = false) :
    s.opMerge l = ((s.setBench l ((s.bench l).setAcc (bitsOf x.word 4 1) (merged s l x).1)).benchFlags l (merged s l x).2).markSlot l u.id x.pos
      .performed := by
  unfold accSet at ok
  simp only [State.opMerge, h, ok]
  exact if_neg (Bool.eq_false_iff.1 whole)

theorem mergeItems_keys (x : Slot) : (mergeItems x).map Prod.fst = accIndices (bitsOf x.word 33 7) (bitsOf x.word 40 7) := List.zipIdx_map_fst ..

theorem merged_in (hc : bitsOf x.word 40 7 ≤ 64) {i j : Nat} (hi : i < bitsOf x.word 33 7) (hj : j < bitsOf x.word 40 7) :
    (merged s l x).1.get (64 * i + j) = (accMerge (accSet s l x).ty ((accSet s l x).get (64 * i + j))
      (rawAt (accSet s l x).ty (mergeBytes s l x) (bitsOf x.word 40 7 * i + j))).1 := by
  have item : (64 * i + j, bitsOf x.word 40 7 * i + j) ∈ mergeItems x := List.mk_mem_zipIdx_iff_getElem?.2 (accIndices_getElem? hi hj)
  have once : ((mergeItems x).map Prod.fst).Nodup := mergeItems_keys x ▸ accIndices_nodup hc
  exact accStep_foldl_in Prod.fst (mergeOf (accSet s l x).ty (mergeBytes s l x)) once item (accSet s l x, 0)

theorem merged_out (hc : bitsOf x.word 40 7 ≤ 64) {m : Nat} (hm : bitsOf x.word 33 7 ≤ m / 64 ∨ bitsOf x.word 40 7 ≤ m % 64) :
    (merged s l x).1.get m = (accSet s l x).get m := by
  refine accStep_foldl_out Prod.fst _ (fun e he same => ?_) (accSet s l x, 0)
  have key : m ∈ accIndices (bitsOf x.word 33 7) (bitsOf x.word 40 7) := mergeItems_keys x ▸ same ▸ List.mem_map_of_mem he
  have place := mem_accIndices key hc
  omega

theorem merged_kind : (merged s l x).1.ty = (accSet s l x).ty ∧ (merged s l x).1.lsb = (accSet s l x).lsb :=
  accStep_foldl_kind Prod.fst _ _ (accSet s l x, 0)

end

/-! ### O33 -/

/-- Settles O33: a drain writes as many cells as its bounds rule counts, and a merge names each accumulator once. -/
theorem accumulatorSlotsMoveSets : Obligations.AccumulatorSlotsMoveSets := by
  unfold Obligations.AccumulatorSlotsMoveSets
  intro l op u x s hl h b w n a rows cols dst flagsOnly stops drains
  have halts {c : Instr} (hc : ∀ k, accError w a.ty = some k → exec c s = .next (s.streamError l u.id u.pc x.pos k)) : stops c :=
    fun k bad => stops_of_streamError hl h (by decide) (accError_lt bad) (hc k bad)
  have drain {c : Instr} {keep : Bool} (hc : exec c s = .next (s.opDrain l op keep)) : drains c keep ∧ stops c := by
    refine ⟨fun ok => ?_, halts fun k bad => hc.trans (congrArg _ (opDrain_stops h bad))⟩
    intro bs
    obtain ⟨y, next, bytes, beside, own, others, words, now, only⟩ := drain_drains h hc ok
    refine ⟨y, next, bytes, beside, own, fun raw narrow i j hi hj => ?_, others, words, now, only⟩
    obtain ⟨fits, word⟩ := leAt_drainOut_raw a s.policy raw narrow hi hj
    exact (leAt_bytes (y.bench l) dst fits).symm.trans ((congrArg (leAt · _ 4) bytes).trans word)
  refine ⟨?_, ?_, ?_, ?_⟩
  · rintro rfl
    exact drain rfl
  · rintro rfl
    exact drain rfl
  · rintro rfl
    obtain ⟨bench, only⟩ := opClear_clears h
    refine ⟨_, rfl, bench, fun m => ?_, only⟩
    rw [bench.1, set_mark_setAcc]
    rfl
  · rintro rfl
    have merge : exec (.merge l) s = .next (s.opMerge l) := rfl
    refine ⟨halts fun k bad => merge.trans (congrArg _ (opMerge_stops h bad)), fun ok bad => ?_, fun ok whole => ?_⟩
    · exact stops_of_streamError hl h (by decide) (by decide) (merge.trans (congrArg _ (opMerge_damaged h ok bad)))
    · obtain ⟨rules, -⟩ := accError_none ok
      obtain ⟨bench, words, now, only⟩ := flagged_marked (benchIs_setBench s l (b.setAcc n (merged s l x).1)) (words_setBench s l _ _)
        ((only_setBench s l _).mono (by simp)) (merged s l x).2 u.id x.pos .performed
      refine ⟨_, merge.trans (congrArg _ (opMerge_merges h ok whole)), ?_⟩
      rw [bench.1, set_mark_setAcc]
      exact ⟨fun i j hi hj => merged_in (cols_le rules) hi hj, fun m hm => merged_out (cols_le rules) hm, merged_kind.1, merged_kind.2, rfl,
        bench.2, words, now, only⟩

end Sys2Proof.Proofs.Mill
end

section
/-! PROOFS. The monitors and supply faults: what a transition of no domain does as a Hall loses its power (R593, R602). -/

open Sys2Proof Sys2Proof.Machine
namespace Sys2Proof.Proofs.Mill

/-- The node with that stray transition whose Hall 0 is On and shows power-good. -/
def strayHall : State := (Scope.strayTransition.wr (PWR_STATE_STATE 0) pwOn).wrBit (PWR_STATE_PGOOD 0) true

theorem powerGood_strayHall : strayHall.bit (PWR_STATE_PGOOD 0) = true := by decide +kernel

/-- As Hall 0 loses its power, the stray transition begins too, and its state, in transit, disables Hall 1 in MIL_HALL_DIS. -/
theorem goodLoss_strayHall : ((strayHall.at 0).goodLoss 0).hallOn 1 ≠ strayHall.hallOn 1 := by decide +kernel

/-- Refutes O58: POWER_GOOD_LOSS of a Hall begins whatever transition may begin, and one of a domain number past 50, which the statement
allows in the state it starts from, changes the enabled-Hall mask at another Hall. -/
theorem not_monitorsThrottleAndSupplyFaults : ¬ Obligations.MonitorsThrottleAndSupplyFaults := by
  intro h
  obtain ⟨-, -, -, -, loses, -⟩ := h 0 0 ⟨[], [], [], [], 0, 0, [], [], []⟩ strayHall
  obtain ⟨u, hu, -, -, hall, -⟩ := loses (by decide) powerGood_strayHall
  obtain ⟨-, others, -⟩ := hall (by decide)
  have step : exec (.powerGoodLoss 0 0) strayHall = .next ((strayHall.at 0).goodLoss 0) := rfl
  obtain rfl : (strayHall.at 0).goodLoss 0 = u := Host.Outcome.next.inj (step.symm.trans hu)
  exact goodLoss_strayHall (others 1 (by decide) (by decide))

end Sys2Proof.Proofs.Mill
end

section
/-! PROOFS. A quench leaves the power domains, and every report before it stays (R251, R263, R297, R426, R521). -/

open Sys2Proof Sys2Proof.Machine

namespace Sys2Proof.Proofs.Mill

/-- The power controller is the same, and every report flagged before still waits for the collector. -/
def Grows (s u : State) : Prop := u.pwr = s.pwr ∧ s.flt.reports <+: u.flt.reports

theorem Grows.rfl {s : State} : Grows s s := ⟨Eq.refl _, List.prefix_refl _⟩

theorem Grows.trans {s u v : State} (h : Grows s u) (k : Grows u v) : Grows s v := ⟨k.1.trans h.1, h.2.trans k.2⟩

/-- An update of the parts beside these two. -/
theorem Grows.parts {s u : State} (h : Grows s u)
    (pending now regs sets mem errs free outs cst tg sec mgt det msys benches mill fab coll temper stock) :
    Grows s ⟨pending, now, regs, sets, mem, errs, free, outs, cst, tg, u.flt, sec, mgt, u.pwr, det, msys, benches, mill, fab, coll, temper,
      stock⟩ := h

theorem Grows.ite {c : Prop} [Decidable c] {s a b : State} (ha : Grows s a) (hb : Grows s b) : Grows s (if c then a else b) := by
  split <;> assumption

theorem Grows.foldl {α : Type} (f : State → α → State) (h : ∀ s x, Grows s (f s x)) (xs : List α) (s : State) : Grows s (xs.foldl f s) := by
  induction xs generalizing s with
  | nil => exact .rfl
  | cons x xs ih => exact (h s x).trans (ih _)

/-- A fold that carries a value beside the state. -/
theorem Grows.foldl_snd {α β : Type} (f : β × State → α → β × State) (h : ∀ r x, Grows r.2 (f r x).2) (xs : List α) (r : β × State) :
    Grows r.2 (xs.foldl f r).2 := by
  induction xs generalizing r with
  | nil => exact .rfl
  | cons x xs ih => exact (h r x).trans (ih _)

/-! ### Words, reports and injections -/

section
variable {s u : State} (h : Grows s u)
include h

theorem Grows.wr (f : Fld) (v : Nat) : Grows s (u.wr f v) := h.trans .rfl
theorem Grows.wrBit (f : Fld) (b : Bool) : Grows s (u.wrBit f b) := h.wr f _
theorem Grows.inc (f : Fld) : Grows s (u.inc f) := h.wr f _
theorem Grows.wr64 (f : Fld) (v : Nat) : Grows s (u.wr64 f v) := (h.wr f _).wr _ _
theorem Grows.raise (f : Fld) : Grows s (u.raise f) := h.trans .rfl
theorem Grows.hall (ty : Nat) (b : List Byte) (au : Bool) : Grows s (u.hall ty b au) := h.trans .rfl

end

section
variable (s : State)

theorem grows_fault (c : FClass) (l k : Nat) (m : Master) (x y : Nat) (i : Bool) : Grows s (s.fault c l k m x y i) :=
  ⟨Eq.refl _, List.prefix_append _ _⟩

theorem grows_faultConseq (c : FClass) (l k : Nat) (m : Master) (x : Nat) : Grows s (s.faultConseq c l k m x) :=
  ⟨Eq.refl _, List.prefix_append _ _⟩

theorem grows_takeInj (kind idx : Nat) : Grows s (s.takeInj kind idx).2 := by
  unfold State.takeInj
  split
  · exact Grows.ite (a := (s.wr _ _).wrBit _ _) .rfl .rfl
  · exact .rfl

/-! ### Cells and queues -/

theorem grows_bpFirst (d c i : Nat) : Grows s (s.bpFirst d c i) :=
  .ite .rfl (((Grows.rfl.wr _ _).wr _ _).wrBit _ _)

theorem grows_releaseCell (c : Nat × Nat) (o : Owner) : Grows s (s.releaseCell c o) := by
  refine .ite .rfl (.ite .rfl ?_)
  exact ((Grows.rfl.inc _).trans (grows_bpFirst _ _ _ _)).trans (grows_fault _ _ _ _ _ _ _ _)

theorem grows_freeCredit (k v : Nat) : Grows s (s.freeCredit k v) := .ite .rfl .rfl

theorem grows_releaseEnt (k q : Nat) (c : Nat × Nat) : Grows s (s.releaseEnt k q c) := by
  unfold State.releaseEnt
  dsimp only
  split
  · exact .ite ((grows_releaseCell s _ _).trans (grows_freeCredit _ _ _)) (grows_releaseCell s _ _)
  · exact grows_releaseCell s _ _

theorem grows_countOversize (k q : Nat) : Grows s (s.countOversize k q) := by
  unfold State.countOversize
  extract_lets s1 s2
  have h1 : Grows s s1 := Grows.rfl.inc _
  have h2 : Grows s s2 := (((h1.wr _ _).wr _ _).wr _ _).wrBit _ _
  exact .ite h1 (h2.trans (grows_fault s2 _ _ _ _ _ _ _))

theorem grows_dropOversize (k q : Nat) (f : Flit) : Grows s (s.dropOversize k q f) := by
  unfold State.dropOversize
  extract_lets p l gone s1 s2 its s3
  have h2 : Grows s1 s2 := .foldl _ (fun s _ => grows_releaseEnt s _ _ _) _ _
  have h3 : Grows s2 s3 := by
    refine .foldl _ (fun s j => ?_) _ _
    dsimp only
    split
    · exact .ite .rfl .rfl
    · exact .rfl
  have h : Grows s s3 := h2.trans h3
  exact .ite (h.trans (grows_countOversize s3 _ _)) h

theorem grows_enqueue (k q : Nat) (e : QEnt) : Grows s (s.enqueue k q e) := by
  unfold State.enqueue
  extract_lets p l s1 _ s2
  have same : Grows s s2 := .rfl
  exact .ite (same.trans (grows_dropOversize s2 _ _ _)) same

theorem grows_crossDie (a b : Nat) : Grows s (s.crossDie a b).2 := by
  unfold State.crossDie
  split
  · exact .rfl
  · extract_lets s1 fatal
    split
    rename_i hit s2 met
    have injected : Grows s s2 := by
      rw [show s2 = _ from (congrArg Prod.snd met).symm]
      exact Grows.foldl_snd (fun (r : Bool × State) (_ : Nat) => (r.1 || (r.2.takeInj 4 a).1, (r.2.takeInj 4 a).2))
        (fun r _ => grows_takeInj r.2 4 a) _ (false, s1)
    split
    · exact injected.trans (grows_fault (s2.poolFail b) _ _ _ _ _ _ _)
    · exact injected

theorem grows_allocCell (d r : Nat) (h : List (Owner × Acct × Bool)) (m : Bool) (v : Nat) (x : (Nat × Nat) × State)
    (e : s.allocCell d r h m v = some x) : Grows s x.2 := by
  unfold State.allocCell at e
  split at e
  · cases e
  · cases e
    exact .rfl

theorem grows_enqueueOwn (from' r k vc : Nat) (f : Flit) (x : Option Nat) : Grows s (s.enqueueOwn from' r k vc f x) := by
  unfold State.enqueueOwn
  extract_lets d put
  have h1 : ∀ (u : State) (c : Nat × Nat), Grows s u → Grows s (put u c) := fun u c h => h.trans (grows_enqueue u _ _ _)
  split
  · exact h1 _ _ (grows_crossDie s _ _)
  · split
    · exact h1 (s.poolFail d) _ .rfl
    · split
      rename_i ok t crossed
      have h2 : Grows s t := by
        rw [show t = _ from (congrArg Prod.snd crossed).symm]
        exact grows_crossDie s from' d
      split
      · split
        · exact h1 _ _ h2
        · rename_i e
          exact h1 _ _ (h2.trans (grows_allocCell _ _ _ _ _ _ _ e))
      · exact h2

theorem grows_dropMulti (d k o : Nat) (f : Flit) : Grows s (s.dropMulti d k o f) := by
  unfold State.dropMulti
  extract_lets q mine gone mqs
  split
  · rename_i _ s1 _
    have h1 : Grows s s1 := Grows.foldl _ (fun s m => grows_releaseEnt s _ _ _) gone { s with fab := { s.fab with mqs := mqs } }
    exact .ite (h1.trans (grows_countOversize s1 _ _)) h1
  · exact .rfl

theorem grows_shareDie (d from' r : Nat) (v : Option Nat) (f : Flit) (acct : Nat → Acct) (own : Bool) (copies : List (Nat × Nat × Option Nat)) :
    Grows s (s.shareDie d from' r v f acct own copies).2 := by
  unfold State.shareDie
  extract_lets mine refused ask got
  have hr : ∀ u, Grows u (refused u).2 := fun u =>
    (Grows.rfl.inc (BP_FAIL d)).trans (.foldl _ (fun _ _ => Grows.rfl.inc _) mine (u.poolFail d))
  refine dite (mine = []) (fun none' => ?_) (fun some' => ?_)
  · rw [if_pos none']
    exact .rfl
  · rw [if_neg some']
    cases got with
    | none => exact hr s
    | some parts =>
      dsimp only
      have h2 := grows_crossDie s from' d
      split
      · split
        · exact h2.trans (hr _)
        · rename_i e
          have h3 := h2.trans (grows_allocCell _ _ _ _ _ _ _ e)
          exact h3.trans (.foldl _ (fun s c => grows_dropMulti s _ _ _ _) _ _)
      · exact h2

/-! ### Labels and collectives -/

theorem grows_txStream (u : StreamUnit) (k : Nat) (l : Bool) (key vc w : Nat) : Grows s (s.txStream u k l key vc w).2 := by
  unfold State.txStream
  split
  · exact .ite .rfl .rfl
  · exact .rfl

theorem grows_labelStream (u : StreamUnit) (k o vc w : Nat) : Grows s (s.labelStream u k o vc w).2 := by
  unfold State.labelStream
  split
  · exact grows_txStream s _ _ _ _ _ _
  · exact .rfl

theorem grows_injectLabel (u : StreamUnit) (l vc from' r : Nat) (last : Bool) (fidx : Nat) (data : List Byte) (chk : Check) (keep : Nat → Bool) :
    Grows s (s.injectLabel u l vc from' r last fidx data chk keep) := by
  unfold State.injectLabel
  extract_lets f
  split
  · exact .rfl
  · rename_i e _
    refine .ite .rfl (.ite ?_ (.ite ?_ .rfl))
    · extract_lets s1
      have h1 : Grows s s1 := .ite .rfl .rfl
      split
      rename_i cs s2 streams
      have h2 : Grows s1 s2 := by
        rw [show s2 = _ from (congrArg Prod.snd streams).symm]
        refine Grows.foldl_snd _ (fun a c => ?_) _ (_, s1)
        exact grows_labelStream a.2 _ _ _ _ _
      refine (h1.trans h2).trans (Grows.foldl _ (fun s d => ?_) _ _)
      extract_lets one
      have h3 : ∀ s, Grows s (one s) := fun s => Grows.foldl _ (fun s c => grows_enqueueOwn s _ _ _ _ _ _) _ s
      refine .ite (h3 s) ?_
      split
      rename_i ok t shared
      have h4 : Grows s t := by
        rw [show t = _ from (congrArg Prod.snd shared).symm]
        exact grows_shareDie s _ _ _ _ _ _ _ _
      exact .ite h4 (h4.trans (h3 t))
    · split
      · exact .rfl
      · exact .ite .rfl ((grows_labelStream s _ _ _ _ _).trans (grows_enqueueOwn _ _ _ _ _ _ _))

theorem grows_genCheck (u : Nat) (data : List Byte) (fail : Bool) : Grows s (s.genCheck u data fail).2 := by
  unfold State.genCheck
  split
  · exact grows_takeInj s 8 u
  · exact .rfl

theorem grows_collFlits (d die vc : Nat) (l : Nat → Option Nat) (keep : Nat → Bool) (bs : List Byte) : Grows s (s.collFlits d die vc l keep bs) := by
  refine .foldl _ (fun s x => ?_) _ s
  dsimp only
  split
  · exact .rfl
  · exact (grows_genCheck s _ _ _).trans (grows_injectLabel _ _ _ _ _ _ _ _ _ _ _)

theorem grows_sendMarkers (i : CollInst) (st : Nat) : Grows s (s.sendMarkers i st) :=
  .foldl _ (fun s _ => .ite .rfl (grows_collFlits s _ _ _ _ _ _)) _ s

theorem grows_cruSync : Grows s s.cruSync := by
  unfold State.cruSync
  extract_lets s1 s2 h0 h1 s3
  have contexts : Grows s s1 := .foldl _ (fun _ _ => Grows.rfl.wr _ _) _ s
  have cells : Grows s s3 := ((contexts.wr _ _).wr _ _).wr _ _
  exact (cells.wr _ _).wr _ _

theorem grows_endInst (i : CollInst) : Grows s (s.endInst i) := by
  have held : Grows s (s.dropHolds i) := .foldl _ (fun s h => grows_releaseCell s _ _) _ s
  unfold State.endInst
  exact ((held.parts ..).wr _ _).trans (grows_cruSync _)

theorem grows_splitFail (m : Master) (st seam : Nat) (spans bad : List (Nat × Nat)) : Grows s (s.splitFail m st seam spans bad) := by
  unfold State.splitFail
  extract_lets gs ds map ing parts s1 s2 s3
  have h2 : Grows s s2 := (((((Grows.rfl.wr _ _).wr _ _).wr _ _).wr _ _).raise _).wr64 _ _
  have h3 : Grows s s3 := .ite .rfl (h2.trans (.foldl _ (fun _ _ => Grows.rfl.wr _ _) _ s2))
  exact h3.hall _ _ _

theorem grows_temperStop (st status : Nat) : Grows s (s.temperStop st status) := by
  unfold State.temperStop
  exact ((Grows.rfl.wr _ _).wr _ _).parts ..

theorem grows_failOne (i : CollInst) (st : Nat) (bad : Option (Nat × Nat × Nat)) (lane : Option Nat) : Grows s (s.failOne i st bad lane) := by
  delta State.failOne
  extract_lets d s1 s2 s3 parts
  have h1 : Grows s s1 := (Grows.rfl.wr _ _).inc _
  have h2 : Grows s s2 := .ite h1 (((h1.wr _ _).wr _ _).wrBit _ _)
  have h3 : Grows s s3 := h2.hall _ _ _
  split
  rename_i acc a _
  extract_lets s4
  have h4 : Grows s3 s4 := by
    dsimp only [s4]
    split
    · exact grows_faultConseq s3 _ _ _ _ _
    · split <;> exact grows_fault s3 _ _ _ _ _ _ _
    · exact grows_fault s3 _ _ _ _ _ _ _
    · exact .rfl
  split
  extract_lets s5
  have h5 : Grows s4 s5 := .ite .rfl (grows_splitFail s4 _ _ _ _ _)
  exact ((h3.trans h4).trans h5).trans ((grows_sendMarkers s5 _ _).trans (grows_endInst _ _))

theorem grows_failInst (i : CollInst) (st : Nat) (bad : Option (Nat × Nat × Nat)) (lane : Option Nat) : Grows s (s.failInst i st bad lane) := by
  delta State.failInst
  extract_lets img s1
  have h1 : Grows s s1 := grows_failOne s i st bad lane
  split
  · exact h1
  · rename_i stage _
    extract_lets s2 ag
    have h2 : Grows s s2 := h1.trans (grows_temperStop s1 stage st)
    split
    · exact h2
    · split
      · exact h2.trans (grows_failOne s2 _ _ _ _)
      · exact h2.parts ..

theorem grows_collQuench : Grows s s.collQuench := by
  unfold State.collQuench State.failThose
  refine .foldl _ (fun s i => ?_) _ s
  split
  · exact grows_failInst s _ _ _ _
  · exact .rfl

/-! ### Benches, steps, updates and lists of gates -/

theorem grows_quenchBenches : Grows s s.quenchBenches := by
  unfold State.quenchBenches
  refine .foldl _ (fun s l => ?_) _ s
  exact .ite .rfl .rfl

theorem grows_temperQuench : Grows s s.temperQuench := .foldl _ (fun s _ => grows_temperStop s _ _) _ s

theorem grows_updateStop (t seam st : Nat) (bad : List (Nat × Nat)) : Grows s (s.updateStop t seam st bad) := by
  unfold State.updateStop
  extract_lets torn s1 s2 _ s3 s4
  have h1 : Grows s s1 := (Grows.rfl.wr _ _).wr _ _
  have h2 : Grows s s2 := .ite (h1.wrBit _ _) h1
  have h4 : Grows s s4 := (h2.parts ..).wr _ _
  exact .ite h4 (h4.trans (grows_splitFail s4 _ _ _ _ _))

theorem grows_stockQuench : Grows s s.stockQuench := by
  unfold State.stockQuench
  exact .foldl _ (fun s _ => .ite .rfl (grows_updateStop s _ _ _ _)) _ s

theorem grows_stopLists : Grows s s.stopLists := by
  unfold State.stopLists
  refine .foldl _ (fun s k => ?_) _ s
  exact .ite (((Grows.trans .rfl .rfl).wrBit _ _).wr _ _ |>.wr _ _) .rfl

theorem grows_quenchJob (cls : FClass) (code : Nat) : Grows s (s.quenchJob cls code) := by
  unfold State.quenchJob
  extract_lets s1 s2
  have h1 : Grows s s1 := (Grows.rfl.wrBit _ _).wr64 _ _
  have h2 : Grows s1 s2 := ((((grows_quenchBenches s1).trans (grows_collQuench _)).trans (grows_temperQuench _)).trans
    (grows_stockQuench _)).trans (grows_stopLists _)
  have ended : ∀ u : State, Grows u (({ u with tg := { u.tg with gates := [] }, flt := { u.flt with quenchBy := some (cls, code) } } : State).msix 2) :=
    fun u => ⟨rfl, List.prefix_refl _⟩
  exact .ite ((h1.trans h2).trans (ended s2)) .rfl

end
end Sys2Proof.Proofs.Mill
end

section
/-! PROOFS. A quench of the job writes none of the low words but CST_STATE (R56, R521). -/

open Sys2Proof Sys2Proof.Machine Sys2Proof.Proofs.Casting

namespace Sys2Proof.Proofs.Mill

section
variable {W : Nat → Prop} (hW : LowWords W) (s : State)
include hW

theorem low_stopLists : view W s.stopLists = view W s := by
  refine view_foldl _ (fun s k => ?_) _ s
  simp only [State.noList, view_wr, view_wrBit, gateWords hW, not_false_eq_true, view_setPort, apply_ite (view W), ite_self]

theorem low_updateStop (t seam st : Nat) (bad : List (Nat × Nat)) : view W (s.updateStop t seam st bad) = view W s := by
  simp only [State.updateStop, view_splitFail hW, view_wr, view_wrBit, engineWords hW, not_false_eq_true, view_parts, apply_ite (view W), ite_self]

theorem low_stockQuench : view W s.stockQuench = view W s := by
  refine view_foldl _ (fun s u => ?_) _ s
  exact view_ite s rfl (low_updateStop hW s _ _ _ _)

theorem low_temperQuench : view W s.temperQuench = view W s := by
  unfold State.temperQuench
  exact view_foldl _ (fun s x => view_temperStop hW s _ _) _ s

/-- Beside TG_NEXT a quench writes only QUENCHED of the low words. -/
theorem low_quenchJob (hn : ¬W TG_NEXT_LO.addr ∧ ¬W TG_NEXT_LO.hi.addr) (hf : s.inForce = true) (hq : s.quenched = false) (cls : FClass)
    (code : Nat) : view W (s.quenchJob cls code) = view W (s.wrBit CST_STATE_QUENCHED true) := by
  have guard : (s.inForce && !s.quenched) = true := by rw [hf, hq]; rfl
  rw [State.quenchJob, if_pos guard]
  simp only [view_msix, view_parts, low_stopLists hW, low_stockQuench hW, low_temperQuench hW, State.collQuench, view_failThose hW,
    view_quenchBenches, view_wr64, hn, not_false_eq_true]

end

/-- The words that tell what a quench leaves of the node and power states. -/
def stateWords (a : Nat) : Prop := a = CST_STATE_QUENCHED.addr ∨ ∃ h < 50, a = (PWR_STATE_STATE h).addr

theorem stateWords_low : LowWords stateWords := by
  rintro a (rfl | ⟨h, hh, rfl⟩)
  · exact .inl (by decide)
  · exact .inl (by simp only [PWR_STATE_STATE]; omega)

theorem stateWords_next : ¬stateWords TG_NEXT_LO.addr ∧ ¬stateWords TG_NEXT_LO.hi.addr := by
  constructor
  all_goals
    rintro (e | ⟨h, hh, e⟩)
    · exact absurd e (by decide)
    · simp only [PWR_STATE_STATE, TG_NEXT_LO, Fld.hi] at e
      omega

end Sys2Proof.Proofs.Mill
end

section
/-! PROOFS. HALL_DISABLE: the write of MIL_HALL_DIS, the mask of the Halls and the transition of a Hall that it disables (R154 to R156, R595). -/

open Sys2Proof Sys2Proof.Machine Sys2Proof.Proofs.Casting

namespace Sys2Proof.Proofs.Mill

/-! ### Bits of the mask -/

/-- A number with one more bit set. -/
theorem eq_add_two_pow_of_bits {v d h : Nat} (hd : d.testBit h = false) (hv : ∀ j, v.testBit j = (d.testBit j || decide (j = h))) :
    v = d + 2 ^ h := by
  induction h generalizing v d with
  | zero =>
    have halves : v / 2 = d / 2 := Nat.eq_of_testBit_eq fun j => by
      rw [Nat.testBit_div_two, Nat.testBit_div_two, hv]
      simp
    have low := hv 0
    simp only [Nat.testBit_zero, decide_true, Bool.or_true, decide_eq_true_eq, decide_eq_false_iff_not] at low hd
    omega
  | succ h ih =>
    have halves : v / 2 = d / 2 + 2 ^ h := by
      refine ih (by rw [Nat.testBit_div_two]; exact hd) fun j => ?_
      rw [Nat.testBit_div_two, Nat.testBit_div_two, hv]
      simp
    have low : (v % 2 = 1) = (d % 2 = 1) := by simpa using hv 0
    have parity : v % 2 = d % 2 := by
      rcases Nat.mod_two_eq_zero_or_one d with e | e <;> rw [e] at low ⊢ <;> simp at low <;> omega
    rw [Nat.pow_succ]
    omega

theorem rd_hallDis (s : State) : s.rd MIL_HALL_DIS = (s.word MIL_HALL_DIS.addr).toNat := by
  simp [State.rd, Fld.get, MIL_HALL_DIS, Nat.mod_eq_of_lt (BitVec.isLt _)]

/-- The Halls of the mask `v` that are not disabled yet. -/
def newHalls (s : State) (v : Nat) : List Nat := (maskHalls v).filter (fun h => decide (s.rd MIL_HALL_DIS / 2 ^ h % 2 = 0))

theorem mem_newHalls {s : State} {v h : Nat} :
    h ∈ newHalls s v ↔ h < 32 ∧ (v.testBit h && !(s.rd MIL_HALL_DIS).testBit h) = true := by
  simp only [newHalls, maskHalls, List.mem_filter, List.mem_range, beq_iff_eq, decide_eq_true_eq, Bool.and_eq_true, Bool.not_eq_true',
    Nat.testBit_eq_decide_div_mod_eq, decide_eq_false_iff_not]
  omega

theorem newHalls_nil {s : State} {v : Nat} (none' : ∀ h, (v.testBit h && !(s.rd MIL_HALL_DIS).testBit h) = false) : newHalls s v = [] := by
  refine List.eq_nil_iff_forall_not_mem.2 fun h m => ?_
  exact absurd (mem_newHalls.1 m).2 (by rw [none' h]; decide)

theorem newHalls_one {s : State} {v h : Nat} (hh : h < 32) (one : ∀ j, (v.testBit j && !(s.rd MIL_HALL_DIS).testBit j) = decide (j = h)) :
    newHalls s v = [h] := by
  have nodup : (newHalls s v).Nodup := (List.nodup_range.filter _).filter _
  refine List.perm_singleton.1 ((List.perm_ext_iff_of_nodup nodup (List.nodup_singleton h)).2 fun j => ?_)
  rw [mem_newHalls, one, List.mem_singleton, decide_eq_true_eq]
  exact ⟨And.right, fun e => ⟨e ▸ hh, e⟩⟩

/-! ### A change of the mask -/

section
variable (s : State) (old cause : Nat)

theorem mapChanged_same (h : s.hallMap = old) : s.mapChanged old cause = s := if_pos h

theorem words_mapChanged : WordsOnly [DET_STAT_MAPCHG.addr] s (s.mapChanged old cause) := by
  unfold State.mapChanged
  split
  · exact .rfl
  · dsimp only
    split
    · exact State.words_wrBit (s.hall _ _) DET_STAT_MAPCHG true
    · exact WordsOnly.rfl (s := s)

theorem only_mapChanged : Only [.regs, .sec] s (s.mapChanged old cause) := by
  unfold State.mapChanged
  split
  · exact .rfl
  · dsimp only
    have told := (s.only_hall 0xB (leBytes 4 old ++ leBytes 4 s.hallMap ++ [BitVec.ofNat 8 cause, 0, 0, 0]) false).mono (m := [.regs, .sec]) (by simp)
    split
    · exact told.trans ((State.only_wrBit _ _ _).mono (by simp))
    · exact told

theorem mem_mapChanged : (s.mapChanged old cause).mem = s.mem := by
  unfold State.mapChanged
  split
  · rfl
  · dsimp only
    split <;> rfl

theorem hallMap_of_words {l : List Nat} {u : State} (h : WordsOnly l s u) (hl : MIL_HALL_FUSE.addr ∉ l ∧ MIL_HALL_DIS.addr ∉ l) :
    u.hallMap = s.hallMap := by
  rw [State.hallMap, h _ hl.1, h _ hl.2]
  rfl

theorem hallMap_mapChanged : (s.mapChanged old cause).hallMap = s.hallMap := hallMap_of_words s (words_mapChanged s old cause) (by decide)

theorem mapChanged_waits (h : s.hallMap ≠ old) :
    ∃ g ∈ (s.mapChanged old cause).sec.wait, g.tick = s.now ∧ ∃ r ∈ g.recs, r.ty = 0xB := by
  rw [State.mapChanged, if_neg h]
  have told := s.hall_waits 0xB (leBytes 4 old ++ leBytes 4 s.hallMap ++ [BitVec.ofNat 8 cause, 0, 0, 0]) false
  dsimp only
  split
  · exact told
  · exact told

end

/-- A write of the value that a word holds leaves every word. -/
theorem word_rewritten (s : State) (a b : Nat) : (s.setWord a (s.word a)).word b = s.word b := by
  rw [State.word_setWord]
  split
  · rename_i same
    rw [same]
  · rfl

/-! ### The Halls that a write disables -/

theorem disableHalls_eq (s : State) (v mapCause cause : Nat) (sw : Bool) : s.disableHalls v mapCause cause sw =
    (newHalls s v).foldl (fun s h => s.nodeTrans h pwOff cause)
      ((((newHalls s v).foldl (fun s h => s.hallQuench h sw) s).setWord MIL_HALL_DIS.addr
        (s.word MIL_HALL_DIS.addr ||| BitVec.ofNat 32 v)).mapChanged s.hallMap mapCause) := by
  unfold State.disableHalls newHalls
  rw [rd_hallDis]
  dsimp only
  rw [BitVec.ofNat_toNat, BitVec.setWidth_eq]

/-- Where no bit is new, nothing changes. -/
theorem disableHalls_none {s : State} {v mapCause cause : Nat} {sw : Bool}
    (none' : ∀ h, (v.testBit h && !(s.rd MIL_HALL_DIS).testBit h) = false) :
    s.disableHalls v mapCause cause sw = s.setWord MIL_HALL_DIS.addr (s.word MIL_HALL_DIS.addr) := by
  have same : s.word MIL_HALL_DIS.addr ||| BitVec.ofNat 32 v = s.word MIL_HALL_DIS.addr := by
    refine BitVec.eq_of_getLsbD_eq fun j hj => ?_
    have h := none' j
    rw [rd_hallDis, BitVec.testBit_toNat] at h
    rw [BitVec.getLsbD_or, BitVec.getLsbD_ofNat]
    revert h
    cases v.testBit j <;> cases (s.word MIL_HALL_DIS.addr).getLsbD j <;> simp
  rw [disableHalls_eq, newHalls_nil none', same]
  exact mapChanged_same _ _ _ (hallMap_of_words s (l := []) (fun a _ => word_rewritten s _ a) (by simp))

/-- Where one bit is new and none is cleared, the job is quenched, the register takes the value, and the Hall turns Off. -/
theorem disableHalls_one {s : State} {v h cause : Nat} (hh : h < 32)
    (one : ∀ j, (v.testBit j && !(s.rd MIL_HALL_DIS).testBit j) = decide (j = h))
    (keep : ∀ j, ((s.rd MIL_HALL_DIS).testBit j && !v.testBit j) = false) : s.disableHalls v 1 cause true =
      (((s.hallQuench h true).setWord MIL_HALL_DIS.addr (BitVec.ofNat 32 v)).mapChanged s.hallMap 1).nodeTrans h pwOff cause := by
  have word : s.word MIL_HALL_DIS.addr ||| BitVec.ofNat 32 v = BitVec.ofNat 32 v := by
    refine BitVec.eq_of_getLsbD_eq fun j hj => ?_
    have kept := keep j
    rw [rd_hallDis, BitVec.testBit_toNat] at kept
    rw [BitVec.getLsbD_or, BitVec.getLsbD_ofNat]
    revert kept
    cases v.testBit j <;> cases (s.word MIL_HALL_DIS.addr).getLsbD j <;> simp [hj]
  rw [disableHalls_eq, newHalls_one hh one, word]
  rfl

/-- A power domain of a Hall stops nothing else as it leaves On. -/
theorem domStops_hall (s : State) {h : Nat} (hh : h < 32) : s.domStops h = s := by
  have ports : domPorts h = [] := by
    unfold domPorts
    rw [if_neg (by omega), if_neg (by omega), if_neg (by omega)]
  unfold State.domStops
  rw [ports, if_neg (by omega), if_neg (by omega), if_neg (by omega)]
  rfl

theorem startUps_idle (s : State) (n : Nat) (h : ∀ x ∈ s.pwr.trans, x.target ≠ pwOn) : s.startUps n = s := by
  have none' : s.nextUp = none := by
    refine List.findSome?_eq_none_iff.2 fun d _ => List.find?_eq_none.2 fun x hx => ?_
    simp [h x hx]
  cases n with
  | zero => rfl
  | succ n => rw [State.startUps, none']

/-- The node with another power controller. -/
def withPwr (s : State) (p : PwrState) : State := { s with pwr := p }

theorem only_withPwr (s : State) (q : PwrState) : Only [.pwr] s (withPwr s q) := by
  intro p hp
  cases p
  case pwr => simp at hp
  all_goals simp [Part.same, withPwr, State.word, State.byteAt]

/-- A transition of a Hall's domain begins. -/
theorem startTrans_hall (s : State) (x : Trans) (hx : x.dom < 32) : Only [.regs, .pwr] s (s.startTrans x) ∧
    WordsOnly [(PWR_STATE_STATE x.dom).addr] s (s.startTrans x) ∧ (s.startTrans x).mem = s.mem ∧
    (s.startTrans x).pwr.trans = s.pwr.trans.map (fun y => if y = x then { y with start := some s.now } else y) := by
  unfold State.startTrans
  extract_lets begin' inc old _ s1 on s2
  have h1 : Only [.pwr] s s1 := only_withPwr s s1.pwr
  have h2 : Only [.regs] s1 s2 := (State.only_wr _ _ _).trans (State.only_wr _ _ _)
  have words : WordsOnly [(PWR_STATE_STATE x.dom).addr] s1 s2 := (s1.words_wr (PWR_STATE_STATE x.dom) _).trans (State.words_wr _ (PWR_STATE_TARGET x.dom) _)
  rw [domStops_hall _ hx, ite_self]
  exact ⟨h1.comp h2 (by simp) (by simp), words, rfl, rfl⟩

/-- The words of the power controller that a transition of domain `h` writes. -/
def powerWords (h : Nat) : List Nat := [(PWR_CTRL_REQ h).addr, (PWR_STATE_STATE h).addr]

/-- The node turns a Hall Off that is On, with no other transition under way (R595). -/
theorem nodeTrans_hall {s : State} {h : Nat} (cause : Nat) (hh : h < 32) (idle : s.pwr.trans = []) (on : s.dom h = pwOn) :
    Only [.regs, .pwr] s (s.nodeTrans h pwOff cause) ∧ WordsOnly (powerWords h) s (s.nodeTrans h pwOff cause) ∧
    (s.nodeTrans h pwOff cause).mem = s.mem ∧ ∃ x ∈ (s.nodeTrans h pwOff cause).pwr.trans, x.dom = h ∧ x.target = pwOff ∧ x.cause = cause := by
  have away : s.dom h ≠ pwOff := by rw [on]; decide
  have asks : s.nodeTrans h pwOff cause = (s.askTrans h pwOff cause).startTransitions := by
    rw [State.nodeTrans, idle]
    exact if_neg away
  rw [asks]
  generalize hx : (⟨h, pwOff, cause, none⟩ : Trans) = x
  have hdom : x.dom = h := hx ▸ rfl
  have htarget : x.target = pwOff := hx ▸ rfl
  have hcause : x.cause = cause := hx ▸ rfl
  generalize ha : s.askTrans h pwOff cause = a
  have only : Only [.regs, .pwr] s a := by
    rw [← ha]
    exact (s.only_wr _ _).comp (only_withPwr (s.wr (PWR_CTRL_REQ h) pwOff) _) (by simp) (by simp)
  have words : WordsOnly (powerWords h) s a := by
    rw [← ha]
    exact (s.words_wr (PWR_CTRL_REQ h) pwOff).mono (by simp [powerWords])
  have mem : a.mem = s.mem := ha ▸ rfl
  have asked : a.pwr.trans = [x] := by
    rw [← ha, ← hx]
    show s.pwr.trans ++ _ = _
    rw [idle]
    rfl
  obtain ⟨only', words', mem', began⟩ := startTrans_hall a x (by omega)
  rw [asked, List.map_singleton, if_pos rfl] at began
  rw [State.startTransitions, asked, List.foldl_cons, List.foldl_nil, State.startDown]
  split
  · rw [startUps_idle _ _ (by rw [began]; simp [htarget, pwOff, pwOn])]
    rw [hdom] at words'
    refine ⟨only.trans only', words.trans (words'.mono (by simp [powerWords])), mem'.trans mem, { x with start := some a.now }, ?_, hdom, htarget, hcause⟩
    rw [began]
    exact List.mem_singleton_self _
  · rw [startUps_idle _ _ (by rw [asked]; simp [htarget, pwOff, pwOn])]
    exact ⟨only, words, mem, x, asked ▸ List.mem_singleton_self _, hdom, htarget, hcause⟩

/-! ### The quench that a Hall causes -/

theorem hallQuench_idle {s : State} {h : Nat} (sw : Bool) (hn : s.hallPlaced h = false ∨ s.quenched = true) : s.hallQuench h sw = s := by
  refine if_neg ?_
  rcases hn with e | e <;> simp [e]

theorem inForce_of_placed {s : State} {h : Nat} (hp : s.hallPlaced h = true) : s.inForce = true := (Bool.and_eq_true_iff.1 hp).1

/-- The Hall's quench leaves the power domains, reports the disable, and quenches the job (R155). -/
theorem hallQuench_acts {s : State} {h : Nat} (hp : s.hallPlaced h = true) (hq : s.quenched = false) :
    let u := s.hallQuench h true
    u.pwr = s.pwr ∧ (∀ d < 50, u.dom d = s.dom d) ∧ u.quenched = true ∧
      ⟨.sw, 2, 0, mHall h, 7, 0, s.now, false, false⟩ ∈ u.flt.reports := by
  intro u
  have guard : (s.hallPlaced h && !s.quenched) = true := by rw [hp, hq]; rfl
  generalize hf : s.fault .sw 2 0 (mHall h) = f
  have hu : u = f.quenchJob .sw 0 := by
    rw [← hf]
    exact if_pos guard
  have same : f.regs = s.regs := hf ▸ rfl
  have flagged : f.flt.reports = s.flt.reports ++ [⟨.sw, 2, 0, mHall h, 7, 0, s.now, false, false⟩] := hf ▸ rfl
  have inForce : f.inForce = true := hf ▸ inForce_of_placed hp
  have unquenched : f.quenched = false := hf ▸ hq
  have power : f.pwr = s.pwr := hf ▸ rfl
  have seen := low_quenchJob stateWords_low f stateWords_next inForce unquenched .sw 0
  have grows := grows_quenchJob f .sw 0
  rw [← hu] at seen grows
  obtain ⟨-, -, hwords⟩ := view_eq_iff.1 seen
  refine ⟨grows.1.trans power, fun d hd => ?_, ?_, grows.2.subset ?_⟩
  · show u.rd (PWR_STATE_STATE d) = s.rd (PWR_STATE_STATE d)
    have apart : CST_STATE_QUENCHED.addr ≠ (PWR_STATE_STATE d).addr := by simp only [CST_STATE_QUENCHED, PWR_STATE_STATE]; omega
    rw [← State.rd_congr same, ← State.rd_wrBit_ne f CST_STATE_QUENCHED (PWR_STATE_STATE d) true (.inl apart)]
    unfold State.rd
    rw [hwords _ (.inr ⟨d, hd, rfl⟩)]
  · have set : (f.wrBit CST_STATE_QUENCHED true).bit CST_STATE_QUENCHED = true := State.bit_wrBit _ _ _ rfl (by decide)
    rw [← set]
    refine bit_of_rd ?_
    unfold State.rd
    rw [hwords _ (.inl rfl)]
  · rw [flagged]
    simp

/-- Quenched or not, a Hall that is On with no transition under way stays so. -/
theorem hallQuench_power {s : State} {h : Nat} (hh : h < 32) (idle : s.pwr.trans = []) (on : s.dom h = pwOn) :
    (s.hallQuench h true).pwr.trans = [] ∧ (s.hallQuench h true).dom h = pwOn := by
  by_cases hn : s.hallPlaced h = true ∧ s.quenched = false
  · obtain ⟨power, dom, -⟩ := hallQuench_acts hn.1 hn.2
    exact ⟨(congrArg PwrState.trans power).trans idle, (dom h (by omega)).trans on⟩
  · rw [hallQuench_idle]
    · exact ⟨idle, on⟩
    · rcases Bool.eq_false_or_eq_true (s.hallPlaced h) with e | e
      · exact .inr ((Bool.not_eq_false _).mp fun f => hn ⟨e, f⟩)
      · exact .inl e

/-! ### The write -/

/-- The bits that a write of MIL_HALL_DIS clears, where it sets none. -/
theorem cleared_eq_zero_iff (w : Word) (v : Nat) :
    w &&& ~~~(BitVec.ofNat 32 v) = 0 ↔ ∀ h, (w.toNat.testBit h && !v.testBit h) = false := by
  have bit : ∀ h, (w &&& ~~~(BitVec.ofNat 32 v)).getLsbD h = (w.toNat.testBit h && !v.testBit h) := fun h => by
    rw [BitVec.getLsbD_and, BitVec.getLsbD_not, BitVec.getLsbD_ofNat, BitVec.testBit_toNat]
    by_cases hh : h < 32
    · simp [hh]
    · simp [hh, BitVec.getLsbD_of_ge w h (by omega)]
  constructor
  · intro z h
    rw [← bit, z]
    exact BitVec.getLsbD_zero
  · exact fun h => BitVec.eq_of_getLsbD_eq fun j _ => (bit j).trans ((h j).trans BitVec.getLsbD_zero.symm)

theorem hallOn_eq_false {s : State} {h : Nat} (hd : (s.rd MIL_HALL_DIS).testBit h = true) : s.hallOn h = false := by
  have bit : s.hallMap.testBit h = false := by
    rw [State.hallMap, BitVec.testBit_toNat, BitVec.getLsbD_not, BitVec.getLsbD_or]
    rw [rd_hallDis, BitVec.testBit_toNat] at hd
    simp [hd]
  rw [Nat.testBit_eq_decide_div_mod_eq, decide_eq_false_iff_not] at bit
  simpa [State.hallOn] using bit

theorem rd_setHallDis (s : State) (v : Word) : (s.setWord MIL_HALL_DIS.addr v).rd MIL_HALL_DIS = v.toNat := by
  rw [rd_hallDis, State.word_setWord, if_pos rfl]

section
variable {s : State} {t v : Nat} {p : Path} (hr : s.ready = true)
include hr

theorem exec_hallDisable : exec (.hallDisable t p v) s = .next ((s.at t).hallDisWrite p.master v) := next_cmd hr

section
variable (none' : ∀ h, (v.testBit h && !(s.rd MIL_HALL_DIS).testBit h) = false)
include none'

/-- A write that sets no new bit, on an uncast node (R155, R156). -/
theorem hallDisable_uncast (hv : v < 2 ^ 32) (hs : s.nodeState = stUncast) :
    ∃ u : State, exec (.hallDisable t p v) s = .next u ∧ u.rd MIL_HALL_DIS = v ∧
      (u.hallMap ≠ s.hallMap → ∃ g ∈ u.sec.wait, g.tick = max s.now t ∧ ∃ r ∈ g.recs, r.ty = 0xB) ∧
      (u.hallMap = s.hallMap → u.sec = s.sec) ∧ WordsOnly [MIL_HALL_DIS.addr, DET_STAT_MAPCHG.addr] s u ∧ Only [.clock, .regs, .sec] s u := by
  rw [exec_hallDisable hr]
  refine ⟨_, rfl, ?_⟩
  unfold State.hallDisWrite
  rw [disableHalls_none (s := s.at t) none']
  generalize hk : (s.at t).setWord MIL_HALL_DIS.addr ((s.at t).word MIL_HALL_DIS.addr) = k
  have kept : ∀ a, k.word a = s.word a := fun a => hk ▸ word_rewritten (s.at t) _ a
  have keptMap : k.hallMap = s.hallMap := hallMap_of_words s (l := []) (fun a _ => kept a) (by simp)
  have only : Only [.clock, .regs] s k := hk ▸ (s.only_at t).comp (State.only_setWord _ _ _) (by simp) (by simp)
  have hsec : k.sec = s.sec := hk ▸ rfl
  have hnow : k.now = max s.now t := hk ▸ rfl
  have acts : k.disp .c = .now := by
    refine if_pos ?_
    rw [← hs]
    exact congrArg (fun w => CST_STATE_STATE.get w) (kept _)
  dsimp only
  rw [acts]
  dsimp only
  split
  · rename_i clear
    rw [kept, cleared_eq_zero_iff] at clear
    refine ⟨?_, fun h => absurd keptMap h, fun _ => hsec, fun a _ => kept a, only.mono (by simp)⟩
    rw [rd_hallDis, kept, ← rd_hallDis]
    refine Nat.eq_of_testBit_eq fun j => ?_
    have h1 := none' j
    have h2 := clear j
    rw [← rd_hallDis] at h2
    revert h1 h2
    cases v.testBit j <;> cases (s.rd MIL_HALL_DIS).testBit j <;> simp
  · generalize hu : k.setWord MIL_HALL_DIS.addr (BitVec.ofNat 32 v) = u
    have words : WordsOnly [MIL_HALL_DIS.addr] s u := fun a ha => (hu ▸ k.words_setWord _ _ a ha).trans (kept a)
    have onlyU : Only [.clock, .regs] s u := only.trans (hu ▸ (k.only_setWord _ _).mono (by simp))
    have hnowU : u.now = max s.now t := hu ▸ hnow
    have hsecU : u.sec = s.sec := hu ▸ hsec
    refine ⟨?_, fun h => ?_, fun h => ?_, (words.mono (by simp)).trans ((words_mapChanged u _ _).mono (by simp)),
      onlyU.comp (only_mapChanged u _ _) (by simp) (by simp)⟩
    · rw [rd_of_words (words_mapChanged u _ _) (by decide), ← hu, rd_setHallDis, BitVec.toNat_ofNat, Nat.mod_eq_of_lt hv]
    · rw [hallMap_mapChanged, ← keptMap] at h
      exact hnowU ▸ mapChanged_waits u k.hallMap 1 h
    · rw [hallMap_mapChanged, ← keptMap] at h
      rw [mapChanged_same u _ _ h, hsecU]

/-- A write that clears a bit while a Casting is applied or in force (R155, R69). -/
theorem hallDisable_refused (hc : ∃ h, ((s.rd MIL_HALL_DIS).testBit h && !v.testBit h) = true) (hs : s.nodeState ≠ stUncast)
    (hs4 : s.nodeState < 4) : ∃ u : State, exec (.hallDisable t p v) s = .next u ∧ u.rd MIL_HALL_DIS = s.rd MIL_HALL_DIS ∧
      u.bit CST_ERR_WRITE_REF = true ∧ u.rd CST_ERR_CODE = (if s.nodeState = stApplying then ceBusy else ceSealed) ∧
      WordsOnly [CST_ERR_CODE.addr] s u ∧ Only [.clock, .regs, .flt] s u := by
  rw [exec_hallDisable hr]
  refine ⟨_, rfl, ?_⟩
  unfold State.hallDisWrite
  rw [disableHalls_none (s := s.at t) none']
  generalize hk : (s.at t).setWord MIL_HALL_DIS.addr ((s.at t).word MIL_HALL_DIS.addr) = k
  have kept : ∀ a, k.word a = s.word a := fun a => hk ▸ word_rewritten (s.at t) _ a
  have only : Only [.clock, .regs] s k := hk ▸ (s.only_at t).comp (State.only_setWord _ _ _) (by simp) (by simp)
  have clears : k.word MIL_HALL_DIS.addr &&& ~~~(BitVec.ofNat 32 v) ≠ 0 := by
    rw [kept, Ne, cleared_eq_zero_iff, ← rd_hallDis]
    obtain ⟨h, e⟩ := hc
    exact fun all => absurd (all h) (by rw [e]; decide)
  have state : k.nodeState = s.nodeState := congrArg (fun w => CST_STATE_STATE.get w) (kept _)
  obtain ⟨e, he, hcode, small⟩ : ∃ e, k.disp .c = .refuse e ∧ e = (if s.nodeState = stApplying then ceBusy else ceSealed) ∧ e < 256 := by
    by_cases ha : s.nodeState = stApplying
    · exact ⟨ceBusy, (disp_applying (state.trans ha)).1, (if_pos ha).symm, by decide⟩
    · have inForce : k.nodeState = stCast ∨ k.nodeState = stDraining := by
        simp only [stUncast, stApplying, stCast, stDraining] at hs ha ⊢
        omega
      exact ⟨ceSealed, (disp_inForce inForce).1, (if_neg ha).symm, by decide⟩
  dsimp only
  rw [if_neg clears, he]
  dsimp only
  refine ⟨?_, bit_writeRefused _ _ _, ?_, ?_, ?_⟩
  · rw [rd_of_words (words_writeRefused k e p.master) (by decide), rd_hallDis, kept, ← rd_hallDis]
  · rw [rd_writeRefused_code, Nat.mod_eq_of_lt small, hcode]
  · exact fun a ha => (words_writeRefused k e p.master a ha).trans (kept a)
  · exact only.comp (State.only_writeRefused k e p.master) (by simp) (by simp)

end

/-- A write that disables one enabled Hall that is On (R155). -/
theorem hallDisable_disables {h : Nat} (idle : s.pwr.trans = []) (hv : v < 2 ^ 32) (hh : h < 32)
    (one : ∀ j, (v.testBit j && !(s.rd MIL_HALL_DIS).testBit j) = decide (j = h))
    (keep : ∀ j, ((s.rd MIL_HALL_DIS).testBit j && !v.testBit j) = false) (on : s.dom h = pwOn) :
    ∃ u : State, exec (.hallDisable t p v) s = .next u ∧ u.rd MIL_HALL_DIS = s.rd MIL_HALL_DIS + 2 ^ h ∧ u.hallOn h = false ∧
      (∃ x ∈ u.pwr.trans, x.dom = h ∧ x.target = pwOff ∧ x.cause = pcHallDis) ∧
      ((s.at t).hallPlaced h = true → s.quenched = false → u.quenched = true ∧
        ⟨.sw, 2, 0, mHall h, 7, 0, max s.now t, false, false⟩ ∈ u.flt.reports) ∧
      ((s.at t).hallPlaced h = false ∨ s.quenched = true → u.quenched = s.quenched ∧ u.cst = s.cst ∧ u.mem = s.mem) := by
  rw [exec_hallDisable hr]
  refine ⟨_, rfl, ?_⟩
  have bits : ∀ j, v.testBit j = ((s.rd MIL_HALL_DIS).testBit j || decide (j = h)) := fun j => by
    have h1 := one j
    have h2 := keep j
    revert h1 h2
    cases v.testBit j <;> cases (s.rd MIL_HALL_DIS).testBit j <;> simp
  have fresh : (s.rd MIL_HALL_DIS).testBit h = false := by
    have := one h
    revert this
    cases (s.rd MIL_HALL_DIS).testBit h <;> simp
  have sum := eq_add_two_pow_of_bits fresh bits
  have disabled := disableHalls_one (s := s.at t) (cause := pcHallDis) hh one keep
  obtain ⟨powerQ, domQ⟩ := hallQuench_power (s := s.at t) hh idle on
  generalize hq : (s.at t).hallQuench h true = q at disabled powerQ domQ
  generalize hm : (q.setWord MIL_HALL_DIS.addr (BitVec.ofNat 32 v)).mapChanged (s.at t).hallMap 1 = m at disabled
  have wordsM : WordsOnly [MIL_HALL_DIS.addr, DET_STAT_MAPCHG.addr] q m :=
    hm ▸ ((q.words_setWord _ _).mono (by simp)).trans ((words_mapChanged _ _ _).mono (by simp))
  have onlyM : Only [.regs, .sec] q m := hm ▸ (q.only_setWord _ _).comp (only_mapChanged _ _ _) (by simp) (by simp)
  have rdM : m.rd MIL_HALL_DIS = v := by
    rw [← hm, rd_of_words (words_mapChanged _ _ _) (by decide), rd_setHallDis, BitVec.toNat_ofNat, Nat.mod_eq_of_lt hv]
  have apart : ∀ d < 50, (PWR_STATE_STATE d).addr ∉ [MIL_HALL_DIS.addr, DET_STAT_MAPCHG.addr] := fun d hd => by
    simp only [PWR_STATE_STATE, MIL_HALL_DIS, DET_STAT_MAPCHG, List.mem_cons, List.not_mem_nil, or_false]
    omega
  have powerM : m.pwr.trans = [] := (congrArg PwrState.trans (onlyM .pwr (by simp))).trans powerQ
  have domM : m.dom h = pwOn := (rd_of_words wordsM (apart h (by omega))).trans domQ
  obtain ⟨onlyU, wordsU, memU, asked⟩ := nodeTrans_hall pcHallDis hh powerM domM
  generalize hu : m.nodeTrans h pwOff pcHallDis = u at onlyU wordsU memU asked disabled
  have far : MIL_HALL_DIS.addr ∉ powerWords h ∧ CST_STATE_QUENCHED.addr ∉ powerWords h := by
    simp only [powerWords, PWR_STATE_STATE, PWR_CTRL_REQ, MIL_HALL_DIS, CST_STATE_QUENCHED, List.mem_cons, List.not_mem_nil, or_false]
    omega
  have rdU : u.rd MIL_HALL_DIS = v := (rd_of_words wordsU far.1).trans rdM
  have written : (s.at t).hallDisWrite p.master v = u := by
    unfold State.hallDisWrite
    rw [disabled]
    refine if_pos ((cleared_eq_zero_iff _ _).2 fun j => ?_)
    rw [← rd_hallDis, rdU]
    cases v.testBit j <;> rfl
  rw [written]
  have quenchedU : u.quenched = q.quenched := bit_of_rd ((rd_of_words wordsU far.2).trans (rd_of_words wordsM (by decide)))
  refine ⟨rdU.trans sum, hallOn_eq_false ?_, asked, fun hp hn => ?_, fun hn => ?_⟩
  · rw [rdU, bits]
    simp
  · obtain ⟨-, -, quenched, told⟩ := hallQuench_acts hp (show (s.at t).quenched = false from hn)
    rw [hq] at quenched told
    refine ⟨quenchedU.trans quenched, ?_⟩
    rw [onlyU .flt (by simp), onlyM .flt (by simp)]
    exact told
  · have same : q = s.at t := hq ▸ hallQuench_idle true hn
    have memM : m.mem = q.mem := hm ▸ mem_mapChanged _ _ _
    rw [quenchedU, onlyU .cst (by simp), onlyM .cst (by simp), memU, memM, same]
    exact ⟨rfl, rfl, rfl⟩

end

/-- Settles O37: a write that sets no bit acts by the node state, and one that disables a Hall acts in every state. -/
theorem hallsAreDisabledAtOnce : Obligations.HallsAreDisabledAtOnce := by
  intro t v p s hr idle hv
  refine ⟨fun none' => ⟨fun hs => hallDisable_uncast hr none' hv hs, fun hc hs hs4 => hallDisable_refused hr none' hc hs hs4⟩,
    fun h hh one keep _ on => hallDisable_disables hr idle hv hh one keep on⟩

end Sys2Proof.Proofs.Mill
end

section
/-! PROOFS. Accesses of whole memory: with no injection armed and no damaged word, a read gives the bytes as stored and leaves all but the
counts of its groups (R449, R454 to R456, R464, R475, R480, R528). -/

open Sys2Proof Sys2Proof.Machine

namespace Sys2Proof.Proofs.Mill

/-! ### Words of a span -/

/-- A code word that a span touches begins less than a word before it. -/
theorem bounds_of_mem_wordsOf {a n w : Nat} (h : w ∈ wordsOf a n) : a < w + 64 ∧ w < a + n := by
  unfold wordsOf at h
  split at h
  · cases h
  · rename_i some'
    obtain ⟨i, hi, rfl⟩ := List.mem_map.1 h
    have size : 0 < wordSize a ∧ wordSize a ≤ 64 := by unfold wordSize; split <;> decide
    have first : wordBase a ≤ a ∧ a < wordBase a + wordSize a :=
      ⟨Nat.div_mul_le_self _ _, Nat.lt_div_mul_add size.1⟩
    have last : wordBase (a + n - 1) ≤ a + n - 1 := Nat.div_mul_le_self _ _
    have step : i * wordSize a ≤ (wordBase (a + n - 1) - wordBase a) / wordSize a * wordSize a :=
      Nat.mul_le_mul_right _ (by have := List.mem_range.1 hi; omega)
    have whole := Nat.div_mul_le_self (wordBase (a + n - 1) - wordBase a) (wordSize a)
    omega

/-! ### Injections that are not armed (R528) -/

section
variable {s : State} (off : s.bit FLT_INJ_LEFT_ARMED = false)
include off

theorem takeInj_unarmed (kind idx : Nat) : s.takeInj kind idx = (false, s) := by
  simp [State.takeInj, off]

theorem cellChecks_unarmed (a n : Nat) : s.cellChecks a n = (false, s) := by
  unfold State.cellChecks
  induction (wordsOf a n).filter (fun w => decide (w < hbmEnd) && (decide (w % 256 = 0) || w == wordBase a)) with
  | nil => rfl
  | cons w ws ih =>
    rw [List.foldl_cons]
    simp only [takeInj_unarmed off, Bool.or_false, ite_self]
    exact ih

end

/-! ### Counted accesses (R480) -/

/-- Every group counts its accesses of every stream as its controller does. -/
def InStep (s : State) (k : Nat) : Prop := aliveOf s.msys.seq k = aliveOf s.msys.alive k

/-- The groups of HBM counted accesses, each in step as before, and nothing else changed. -/
structure Counted (s t : State) : Prop where
  only : Only [.alive] s t
  step : ∀ k, InStep s k → InStep t k

theorem Counted.rfl {s : State} : Counted s s := ⟨Only.rfl, fun _ h => h⟩

theorem Counted.trans {s t u : State} (h : Counted s t) (k : Counted t u) : Counted s u :=
  ⟨h.only.trans k.only, fun i hi => k.step i (h.step i hi)⟩

/-- A state with other counts of the accesses of HBM groups. -/
def withAlive (s : State) (seq alive : List (Nat × Nat)) : State := { s with msys := { s.msys with seq := seq, alive := alive } }

theorem only_withAlive (s : State) (seq alive : List (Nat × Nat)) : Only [.alive] s (withAlive s seq alive) := by
  intro p hp
  cases p
  case alive => simp at hp
  all_goals simp [Part.same, withAlive, State.word, State.byteAt]

theorem rd_of_only {l : List Part} {s t : State} (h : Only l s t) (hl : .regs ∉ l) (f : Fld) : t.rd f = s.rd f :=
  Casting.rd_of_words (l := []) (fun a _ => h .regs hl a) (by simp)

theorem bit_of_only {l : List Part} {s t : State} (h : Only l s t) (hl : .regs ∉ l) (f : Fld) : t.bit f = s.bit f :=
  Casting.bit_of_rd (rd_of_only h hl f)

theorem bytesAt_congr {s t : State} (h : ∀ a, t.byteAt a = s.byteAt a) (a n : Nat) : t.bytesAt a n = s.bytesAt a n := by
  induction n generalizing a with
  | zero => rfl
  | succ n ih => rw [State.bytesAt, State.bytesAt, ih, h]

theorem errAt_congr {s t : State} (h : t.errs = s.errs) (w : Nat) : t.errAt w = s.errAt w := by
  rw [State.errAt, h, State.errAt]

/-- A span stays whole where no word, no damage and no count changes, or the counts only in step. -/
theorem whole_of_step {l : List Part} {s t : State} (h : Only l s t) (hr : .regs ∉ l) (he : .errs ∉ l) (step : ∀ k, InStep s k → InStep t k)
    {a n : Nat} (hw : Whole s a n) : Whole t a n := by
  obtain ⟨off, clean, even⟩ := hw
  exact ⟨(bit_of_only h hr _).trans off, fun w h1 h2 => (errAt_congr (h .errs he) w).trans (clean w h1 h2),
    fun w c hc hh h1 h2 => step _ (even w c hc hh h1 h2)⟩

theorem whole_of_only {l : List Part} {s t : State} (h : Only l s t) (hr : .regs ∉ l) (he : .errs ∉ l) (ha : .alive ∉ l) {a n : Nat}
    (hw : Whole s a n) : Whole t a n := by
  obtain ⟨seq, alive⟩ := h .alive ha
  refine whole_of_step h hr he (fun k hk => ?_) hw
  rw [InStep, seq, alive]
  exact hk

section
variable {s t : State} (h : Counted s t)
include h

theorem Counted.unarmed (off : s.bit FLT_INJ_LEFT_ARMED = false) : t.bit FLT_INJ_LEFT_ARMED = false :=
  (bit_of_only h.only (by decide) _).trans off

theorem Counted.bytesAt (a n : Nat) : t.bytesAt a n = s.bytesAt a n := bytesAt_congr (h.only .mem (by decide)) a n

theorem Counted.whole {a n : Nat} (hw : Whole s a n) : Whole t a n := whole_of_step h.only (by decide) (by decide) h.step hw

end

theorem streamOf_lt (m : Master) : streamOf m < 5 := by
  unfold streamOf
  split <;> decide

/-- An access in step is counted by both, and nothing breaks. -/
theorem groupAccess_counts {s : State} (m : Master) {w : Nat} (off : s.bit FLT_INJ_LEFT_ARMED = false)
    (step : w < hbmEnd → InStep s (5 * groupOf w + streamOf m)) : Counted s (s.groupAccess m w) := by
  unfold State.groupAccess
  split
  · rename_i hbm
    have same := step hbm
    unfold InStep at same
    simp only [takeInj_unarmed off, Bool.false_eq_true, if_false]
    rw [if_pos same]
    refine ⟨only_withAlive s _ _, fun k hk => ?_⟩
    simp only [InStep, aliveOf, aliveSet] at hk same ⊢
    rw [Sparse.get_set, Sparse.get_set, same, hk]
  · exact .rfl

theorem accesses_count (m : Master) (ws : List Nat) (s : State) (off : s.bit FLT_INJ_LEFT_ARMED = false)
    (step : ∀ w ∈ ws, w < hbmEnd → InStep s (5 * groupOf w + streamOf m)) : Counted s (ws.foldl (fun s w => s.groupAccess m w) s) := by
  induction ws generalizing s with
  | nil => exact .rfl
  | cons w ws ih =>
    have one := groupAccess_counts m off (step w List.mem_cons_self)
    exact one.trans (ih _ (one.unarmed off) fun v hv hbm => one.step _ (step v (List.mem_cons_of_mem _ hv) hbm))

/-! ### Reads (R456, R464) -/

theorem readWords_clean (m : Master) (ty : Nat) {s : State} (ws : List Nat) (clean : ∀ w ∈ ws, s.errAt w = none) :
    s.readWords m ty ws = (true, s) := by
  induction ws with
  | nil => rfl
  | cons w ws ih =>
    have word : s.readWord m ty w = (true, s) := by
      unfold State.readWord State.decodeWord
      rw [clean w List.mem_cons_self]
    rw [State.readWords, word]
    simp only [ih fun v hv => clean v (List.mem_cons_of_mem _ hv), Bool.and_self]

/-- A whole span gives its bytes. -/
theorem memRead_whole (m : Master) {s : State} {a n : Nat} (hw : Whole s a n) :
    ∃ t, s.memRead m a n = (some (s.bytesAt a n), t) ∧ Counted s t := by
  have counted : Counted s ((wordsOf a n).foldl (fun s w => s.groupAccess m w) s) := by
    obtain ⟨off, -, step⟩ := hw
    exact accesses_count m _ s off fun w h hbm => step w _ (streamOf_lt m) hbm (bounds_of_mem_wordsOf h).1 (bounds_of_mem_wordsOf h).2
  refine ⟨_, ?_, counted⟩
  obtain ⟨off, clean, -⟩ := counted.whole hw
  have words := readWords_clean m 0 (wordsOf a n) fun w h => clean w (bounds_of_mem_wordsOf h).1 (bounds_of_mem_wordsOf h).2
  unfold State.memRead State.memReadChk
  rw [words]
  simp only [cellChecks_unarmed off, if_true, counted.bytesAt]

/-- The bytes of spans, one after another. -/
def spanBytes (s : State) (l : List (Nat × Nat)) : List Byte := l.flatMap (fun p => s.bytesAt p.1 p.2)

theorem spanBytes_congr {s t : State} (h : ∀ a, t.byteAt a = s.byteAt a) (l : List (Nat × Nat)) : spanBytes t l = spanBytes s l := by
  simp only [spanBytes, bytesAt_congr h]

theorem Counted.spanBytes {s t : State} (h : Counted s t) (l : List (Nat × Nat)) : spanBytes t l = spanBytes s l :=
  spanBytes_congr (h.only .mem (by decide)) l

theorem readSpans_whole (m : Master) {s : State} {l : List (Nat × Nat)} (hw : ∀ p ∈ l, Whole s p.1 p.2) :
    ∃ t, s.readSpans m l = (.ok (spanBytes s l), t) ∧ Counted s t := by
  induction l generalizing s with
  | nil => exact ⟨s, rfl, .rfl⟩
  | cons p l ih =>
    obtain ⟨t, read, counted⟩ := memRead_whole m (hw p List.mem_cons_self)
    obtain ⟨u, reads, counts⟩ := ih fun q hq => counted.whole (hw q (List.mem_cons_of_mem _ hq))
    refine ⟨u, ?_, counted.trans counts⟩
    rw [State.readSpans, read]
    simp only [reads, counted.spanBytes]
    rfl

/-- The bytes of a tile: its dense tile, padded to whole cells, then its scale cells. -/
def tileBytes (s : State) (sp : List (Nat × Nat) × List (Nat × Nat)) : List Byte := padCells (spanBytes s sp.1) ++ spanBytes s sp.2

theorem tileBytes_congr {s t : State} (h : ∀ a, t.byteAt a = s.byteAt a) (sp : List (Nat × Nat) × List (Nat × Nat)) :
    tileBytes t sp = tileBytes s sp := by
  rw [tileBytes, spanBytes_congr h, spanBytes_congr h, tileBytes]

theorem readTile_whole (m : Master) {s : State} {sp : List (Nat × Nat) × List (Nat × Nat)} (hw : ∀ p ∈ sp.1 ++ sp.2, Whole s p.1 p.2) :
    ∃ t, s.readTile m sp = (.ok (tileBytes s sp), t) ∧ Counted s t := by
  obtain ⟨t, read, counted⟩ := readSpans_whole m fun p hp => hw p (List.mem_append_left _ hp)
  obtain ⟨u, reads, counts⟩ := readSpans_whole m fun p hp => counted.whole (hw p (List.mem_append_right _ hp))
  refine ⟨u, ?_, counted.trans counts⟩
  rw [State.readTile, read]
  simp only [reads, counted.spanBytes]
  rfl

/-! ### The bytes of a tile (R185, R186) -/

theorem bytesAt_length (s : State) (a n : Nat) : (s.bytesAt a n).length = n := by
  induction n generalizing a with
  | zero => rfl
  | succ n ih => rw [State.bytesAt, List.length_cons, ih]

theorem bytesAt_getElem? (s : State) {a n i : Nat} (h : i < n) : (s.bytesAt a n)[i]? = some (s.byteAt (a + i)) := by
  induction n generalizing a i with
  | zero => omega
  | succ n ih =>
    cases i with
    | zero => rfl
    | succ i => rw [State.bytesAt, List.getElem?_cons_succ, ih (by omega), Nat.add_assoc, Nat.add_comm 1]

/-- Rows of one length, one after another. -/
theorem rows_flatMap {α : Type} (f : Nat → List α) {k : Nat} (m : Nat) (hf : ∀ r, (f r).length = k) :
    ((List.range m).flatMap f).length = m * k ∧ ∀ r i, r < m → i < k → ((List.range m).flatMap f)[r * k + i]? = (f r)[i]? := by
  induction m with
  | zero => simp
  | succ m ih =>
    obtain ⟨length, rows⟩ := ih
    simp only [List.range_succ, List.flatMap_append, List.flatMap_singleton]
    refine ⟨by rw [List.length_append, length, hf, Nat.succ_mul], fun r i hr hi => ?_⟩
    rcases Nat.lt_succ_iff_lt_or_eq.1 hr with before | rfl
    · have inside : r * k + i < m * k := calc
        r * k + i < (r + 1) * k := by rw [Nat.succ_mul]; omega
        _ ≤ m * k := Nat.mul_le_mul_right _ before
      rw [List.getElem?_append_left (by omega), rows r i before hi]
    · rw [List.getElem?_append_right (by omega), length, Nat.add_sub_cancel_left]

section
variable (s : State) (d : Desc) (ix : Nat)

/-- The dense tile, row after row. -/
theorem dataBytes_spec : (spanBytes s (d.dataSpans ix)).length = d.rows * d.rb ∧ ∀ r i, r < d.rows → i < d.rb →
    (spanBytes s (d.dataSpans ix))[r * d.rb + i]? = some (s.byteAt (d.base + ix * d.step + r * d.stride + i)) := by
  unfold spanBytes Desc.dataSpans
  dsimp only
  split
  · rename_i dense
    rw [List.flatMap_singleton, bytesAt_length]
    refine ⟨rfl, fun r i hr hi => ?_⟩
    have inside : r * d.rb + i < d.rows * d.rb := calc
      r * d.rb + i < (r + 1) * d.rb := by rw [Nat.succ_mul]; omega
      _ ≤ d.rows * d.rb := Nat.mul_le_mul_right _ hr
    rw [bytesAt_getElem? s inside, dense, ← Nat.add_assoc]
  · rw [List.flatMap_map]
    obtain ⟨length, rows⟩ := rows_flatMap (fun r => s.bytesAt (d.base + ix * d.step + r * d.stride) d.rb) d.rows fun r => bytesAt_length _ _ _
    exact ⟨length, fun r i hr hi => (rows r i hr hi).trans (bytesAt_getElem? s hi)⟩

/-- The scale cells. -/
theorem scaleBytes_spec : (spanBytes s (d.scaleSpans ix)).length = 256 * d.scaleCells ∧ (sdDir d.sdesc ≠ 0 → ∀ i, i < 256 * d.scaleCells →
    (spanBytes s (d.scaleSpans ix))[i]? = some (s.byteAt (d.sbase + ix * d.step + i))) := by
  unfold spanBytes Desc.scaleSpans
  split
  · rename_i none'
    have cells : d.scaleCells = 0 := by
      simp [Desc.scaleCells, scaleBlocks, none']
    exact ⟨by rw [cells]; rfl, fun some' => absurd none' some'⟩
  · rw [List.flatMap_singleton, bytesAt_length]
    exact ⟨rfl, fun _ i hi => bytesAt_getElem? s hi⟩

/-- What a tile brings into the bench store: rows, zeros to the end of its last cell, and scale cells. -/
theorem tileBytes_spec :
    let bs := tileBytes s (d.dataSpans ix, d.scaleSpans ix)
    bs.length = 256 * (d.tileCells + d.scaleCells) ∧
      (∀ r i, r < d.rows → i < d.rb → bs[r * d.rb + i]? = some (s.byteAt (d.base + ix * d.step + r * d.stride + i))) ∧
      (∀ i, d.rows * d.rb ≤ i → i < 256 * d.tileCells → bs[i]? = some 0) ∧
      (sdDir d.sdesc ≠ 0 → ∀ i, i < 256 * d.scaleCells → bs[256 * d.tileCells + i]? = some (s.byteAt (d.sbase + ix * d.step + i))) := by
  obtain ⟨dataLength, rows⟩ := dataBytes_spec s d ix
  obtain ⟨scaleLength, scales⟩ := scaleBytes_spec s d ix
  intro bs
  have padded : (padCells (spanBytes s (d.dataSpans ix))).length = 256 * d.tileCells := by
    rw [padCells_length, dataLength, Desc.tileCells, Nat.mul_comm]
  have cells : d.rows * d.rb ≤ 256 * d.tileCells := by
    rw [Desc.tileCells]
    omega
  refine ⟨by simp only [bs, tileBytes, List.length_append]; omega, fun r i hr hi => ?_, fun i h1 h2 => ?_, fun hs i hi => ?_⟩
  · have inside : r * d.rb + i < d.rows * d.rb := calc
      r * d.rb + i < (r + 1) * d.rb := by rw [Nat.succ_mul]; omega
      _ ≤ d.rows * d.rb := Nat.mul_le_mul_right _ hr
    simp only [bs, tileBytes]
    rw [List.getElem?_append_left (by omega), padCells_eq, List.getElem?_append_left (by omega), rows r i hr hi]
  · simp only [bs, tileBytes]
    rw [List.getElem?_append_left (by omega), padCells_eq, List.getElem?_append_right (by omega), dataLength, List.getElem?_replicate,
      if_pos (by rw [← dataLength, ← padCells_length, padded, dataLength]; omega)]
  · simp only [bs, tileBytes]
    rw [List.getElem?_append_right (by omega), padded, Nat.add_sub_cancel_left, scales hs i hi]

end

end Sys2Proof.Proofs.Mill
end

section
/-! PROOFS. LD and LDB: what stops a load, the mover's cells, and where a tile lands (R157, R165, R184 to R189, R214, R362, R364). -/

open Sys2Proof Sys2Proof.Machine Sys2Proof.Proofs.Casting Sys2Proof.Proofs.Grid Sys2Proof.Proofs.Numbers

namespace Sys2Proof.Proofs.Mill

/-! ### The slot's tile -/

/-- The descriptor that a LOAD or STORE slot of a Bench names, and the value of its index source. -/
def tileDesc (s : State) (l : Nat) (x : Slot) : Desc := kDesc (s.kimg (s.bench l)) (bitsOf x.word 4 8)
def tileIndex (u : Bundle) (x : Slot) : Nat := ((u.regs.src (bitsOf x.word 12 4)).getD 0).toNat

/-- The spans of the slot: data, then scales. -/
def slotTile (s : State) (l : Nat) (u : Bundle) (x : Slot) : List (Nat × Nat) := (tileDesc s l x).spans (tileIndex u x)

/-- The descriptor and its format are well formed, and the tile fits (R186, R189). -/
structure Formed (s : State) (l : Nat) (u : Bundle) (x : Slot) : Prop where
  bounds : tileBad (s.kimg (s.bench l)) u.regs x.word = false
  format : (Fmt.ofCode (tileDesc s l x).fmt).isSome = true
  rows : bitsOf x.word 30 1 = 1 → (tileDesc s l x).rows ≤ 64

theorem tile_fits {s : State} {l : Nat} {u : Bundle} {x : Slot} (h : tileBad (s.kimg (s.bench l)) u.regs x.word = false) :
    256 * bitsOf x.word 16 10 + 256 * ((tileDesc s l x).tileCells + (tileDesc s l x).scaleCells) ≤ 2 ^ 18 := by
  simp only [tileBad, Bool.or_eq_false_iff, decide_eq_false_iff_not] at h
  obtain ⟨-, fits⟩ := h
  unfold tileDesc
  omega

/-- The tile of a slot stands in the bench store, and the slot is performed: `s` is the node before. -/
structure Loaded (s : State) (l : Nat) (u : Bundle) (x : Slot) (c : Bench) : Prop where
  rows : ∀ r i, r < (tileDesc s l x).rows → i < (tileDesc s l x).rb → c.byte (256 * bitsOf x.word 16 10 + r * (tileDesc s l x).rb + i) =
    s.byteAt ((tileDesc s l x).base + tileIndex u x * (tileDesc s l x).step + r * (tileDesc s l x).stride + i)
  zeros : ∀ i, (tileDesc s l x).rows * (tileDesc s l x).rb ≤ i → i < 256 * (tileDesc s l x).tileCells → c.byte (256 * bitsOf x.word 16 10 + i) = 0
  scales : sdDir (tileDesc s l x).sdesc ≠ 0 → ∀ i, i < 256 * (tileDesc s l x).scaleCells →
    c.byte (256 * bitsOf x.word 16 10 + 256 * (tileDesc s l x).tileCells + i) =
      s.byteAt ((tileDesc s l x).sbase + tileIndex u x * (tileDesc s l x).step + i)
  others : ∀ a, (a < 256 * bitsOf x.word 16 10 ∨
    256 * bitsOf x.word 16 10 + 256 * ((tileDesc s l x).tileCells + (tileDesc s l x).scaleCells) ≤ a) → c.byte a = (s.bench l).byte a
  bench : c = { (s.bench l).mark u.id x.pos .performed with
    store := c.store
    damage := (s.bench l).damage.filter (fun e => !(decide (e.1 < 256 * bitsOf x.word 16 10 +
      256 * ((tileDesc s l x).tileCells + (tileDesc s l x).scaleCells) ∧ 256 * bitsOf x.word 16 10 < e.1 + 32))) }

/-- A byte of a range that was written. -/
theorem byte_write_getElem? {b : Bench} {a i : Nat} {bs : List Byte} {v : Byte} (h : a + bs.length ≤ 2 ^ 18) (hv : bs[i]? = some v) :
    (b.write a bs).byte (a + i) = v := by
  obtain ⟨hi, rfl⟩ := List.getElem?_eq_some_iff.1 hv
  rw [Bench.byte, if_pos (by omega)]
  exact Sparse.get_setList_in _ bs b.store a i hi

/-- A tile that was read lands (R186). -/
theorem landTile_becomes {s : State} {l : Nat} {u : Bundle} {x : Slot} (bs : List Byte) (off : s.bit FLT_INJ_LEFT_ARMED = false) :
    Becomes l (((s.bench l).write (256 * bitsOf x.word 16 10) bs).mark u.id x.pos .performed) s (s.landTile l u x (.ok bs)) := by
  obtain ⟨-, -, idle, -⟩ := injectBench_spec (s.setBench l ((s.bench l).write (256 * bitsOf x.word 16 10) bs)) l (256 * bitsOf x.word 16 10) bs.length
  have written : s.benchWrite l (256 * bitsOf x.word 16 10) bs = s.setBench l ((s.bench l).write (256 * bitsOf x.word 16 10) bs) := idle off
  rw [State.landTile, written]
  have marked := becomes_markSlot (s := s.setBench l ((s.bench l).write (256 * bitsOf x.word 16 10) bs)) (l := l) u.id x.pos .performed
  rw [bench_setBench_same] at marked
  exact becomes_trans (becomes_setBench _) marked

/-- The bytes of the slot's own tile, written at its cells, make the Bench loaded. -/
theorem loaded_of_write {s : State} {l : Nat} {u : Bundle} {x : Slot} (h : tileBad (s.kimg (s.bench l)) u.regs x.word = false) :
    Loaded s l u x (((s.bench l).write (256 * bitsOf x.word 16 10) (tileBytes s (s.tileSpans l u x))).mark u.id x.pos .performed) := by
  have fits := tile_fits h
  obtain ⟨length, rows, zeros, scales⟩ := tileBytes_spec s (tileDesc s l x) (tileIndex u x)
  have spans : s.tileSpans l u x = ((tileDesc s l x).dataSpans (tileIndex u x), (tileDesc s l x).scaleSpans (tileIndex u x)) := rfl
  rw [spans]
  generalize tileBytes s ((tileDesc s l x).dataSpans (tileIndex u x), (tileDesc s l x).scaleSpans (tileIndex u x)) = bs at *
  generalize hd : 256 * bitsOf x.word 16 10 = dst at *
  rw [← length] at fits
  have marked : ∀ a, (((s.bench l).write dst bs).mark u.id x.pos .performed).byte a = ((s.bench l).write dst bs).byte a := byte_congr rfl rfl
  refine ⟨fun r i hr hi => ?_, fun i h1 h2 => ?_, fun hs i hi => ?_, fun a ha => ?_, ?_⟩
  · rw [marked, hd, Nat.add_assoc dst, byte_write_getElem? fits (rows r i hr hi)]
  · rw [marked, hd, byte_write_getElem? fits (zeros i h1 h2)]
  · rw [marked, hd, Nat.add_assoc dst, byte_write_getElem? fits (scales hs i hi)]
  · rw [marked, byte_write_out (by rw [length, ← hd]; exact ha)]
  · rw [hd, ← length]
    rfl

end Sys2Proof.Proofs.Mill
end

section
/-! PROOFS. The mover's cells and what refuses a tile (R165, R189, R362, R364, R550). -/

open Sys2Proof Sys2Proof.Machine Sys2Proof.Proofs.Casting Sys2Proof.Proofs.Grid Sys2Proof.Proofs.Numbers

namespace Sys2Proof.Proofs.Mill

/-! ### The mover's cells -/

/-- Cells were taken: only the pools and what the mover holds changed, and Halls stay where they were placed. -/
structure CellsTaken (s t : State) : Prop where
  only : Only [.fab, .mill] s t
  map : t.mill.map = s.mill.map

theorem CellsTaken.trans {s t u : State} (h : CellsTaken s t) (k : CellsTaken t u) : CellsTaken s u := ⟨h.only.trans k.only, k.map.trans h.map⟩

/-- The node with other mover cells in transit. -/
def withTransit (s : State) (l : List (Nat × Nat × Nat × (Nat × Nat))) : State := { s with mill := { s.mill with transit := l } }

theorem only_withTransit (s : State) (l : List (Nat × Nat × Nat × (Nat × Nat))) : Only [.mill] s (withTransit s l) := by
  intro part hp
  cases part
  case mill => simp at hp
  all_goals simp [Part.same, withTransit, State.word, State.byteAt]

theorem allocCell_takes {s : State} {d r : Nat} {holds : List (Owner × Acct × Bool)} {x : (Nat × Nat) × State}
    (h : s.allocCell d r holds false = some x) : Only [.fab] s x.2 ∧ x.2.mill = s.mill := by
  unfold State.allocCell at h
  split at h
  · cases h
  · cases h
    exact ⟨only_withFab s _, rfl⟩

section
variable {s : State} {l id pos : Nat} {spans : List (Nat × Nat)}

theorem moverTake_takes (h : (s.moverTake l id pos spans).1 = true) : CellsTaken s (s.moverTake l id pos spans).2 := by
  have all : ∀ (ds : List Nat) (s : State), CellsTaken s (ds.foldl (fun s d =>
      match (s.grant1 d .milm 0 0).bind (fun sh => s.allocCell d (reqOther d (s.physOf l / 256)) [(.mover l, .milm, sh)] false) with
      | some (c, s) => { s with mill := { s.mill with transit := s.mill.transit ++ [(l, id, pos, c)] } }
      | none => s) s) := by
    intro ds
    induction ds with
    | nil => exact fun s => ⟨Only.rfl, rfl⟩
    | cons d ds ih =>
      intro s
      refine CellsTaken.trans ?_ (ih _)
      dsimp only
      split
      · rename_i c t taken
        obtain ⟨sh, -, alloc⟩ := Option.bind_eq_some_iff.1 taken
        obtain ⟨only, mill⟩ := allocCell_takes alloc
        have map : t.mill.map = s.mill.map := congrArg MillState.map mill
        exact ⟨only.comp (only_withTransit t _) (by simp) (by simp), map⟩
      · exact ⟨Only.rfl, rfl⟩
  unfold State.moverTake at h ⊢
  dsimp only at h ⊢
  split at h
  · cases h
  · exact all _ s

theorem moverTake_fails (h : (s.moverTake l id pos spans).1 = false) : Only [.regs] s (s.moverTake l id pos spans).2 ∧
    ∃ d, WordsOnly [(BP_FAIL d).addr] s (s.moverTake l id pos spans).2 := by
  unfold State.moverTake at h ⊢
  dsimp only at h ⊢
  split at h
  · rename_i d found
    exact ⟨s.only_addSat _ _, d, s.words_addSat (BP_FAIL d) 1⟩
  · cases h

end

/-! ### A refused span (R550) -/

theorem denyEnd_regs (s : State) : s.denyEnd.regs = s.regs := by
  unfold State.denyEnd
  dsimp only
  generalize s.sec.deny.filter (fun w => decide (w.first + 2 ^ 20 ≤ s.now)) = ws
  generalize hz : ({ s with sec := { s.sec with deny := s.sec.deny.filter (fun w => !decide (w.first + 2 ^ 20 ≤ s.now)) } } : State) = z
  have start : z.regs = s.regs := hz ▸ rfl
  rw [← start]
  clear hz start
  induction ws.filter (fun w => decide (w.count ≠ 0)) generalizing z with
  | nil => rfl
  | cons w ws ih => exact ih _

/-- The node with other refusals counted. -/
def withSec (s : State) (c : SecState) : State := { s with sec := c }

theorem only_withSec (s : State) (c : SecState) : Only [.sec] s (withSec s c) := by
  intro part hp
  cases part
  case sec => simp at hp
  all_goals simp [Part.same, withSec, State.word, State.byteAt]

theorem only_denyEnd (s : State) : Only [.sec] s s.denyEnd := by
  unfold State.denyEnd
  exact (only_withSec s _).trans (Only.foldl _ (fun s w => s.only_hall _ _ _) _ _)

/-- The first refusal is captured. -/
def denyCaptured (s : State) (t : Nat) (m : GMaster) (acc : GAcc) : State :=
  if s.bit SEC_DFIRST_VALID then s
  else ((((s.wr SEC_DFIRST_TARGET t).wr SEC_DFIRST_KIND m.kind).wr SEC_DFIRST_ACC acc.code).wr SEC_DFIRST_INDEX m.idx).wrBit SEC_DFIRST_VALID true

theorem denyCaptured_spec (s : State) (t : Nat) (m : GMaster) (acc : GAcc) :
    (denyCaptured s t m acc).rd SEC_DENY = s.rd SEC_DENY ∧ Only [.regs] s (denyCaptured s t m acc) := by
  unfold denyCaptured
  split
  · exact ⟨rfl, Only.rfl⟩
  · refine ⟨?_, ((((s.only_wr _ _).trans (State.only_wr _ _ _)).trans (State.only_wr _ _ _)).trans (State.only_wr _ _ _)).trans
      (State.only_wrBit _ _ _)⟩
    rw [State.rd_wrBit_ne _ _ _ _ (by decide), State.rd_wr_ne _ _ _ _ (by decide), State.rd_wr_ne _ _ _ _ (by decide),
      State.rd_wr_ne _ _ _ _ (by decide), State.rd_wr_ne _ _ _ _ (by decide)]

/-- A refusal is counted, and what else it writes is captured or waits for its record (R550). -/
theorem deny_counts (s : State) (m : GMaster) (acc : GAcc) (a n : Nat) :
    (s.deny m acc a n).rd SEC_DENY = min (s.rd SEC_DENY + 1) (2 ^ 32 - 1) ∧ Only [.regs, .sec] s (s.deny m acc a n) := by
  unfold State.deny
  extract_lets t s1 _ _ _ _ f same _ _ g
  have counted : s1.rd SEC_DENY = min (s.rd SEC_DENY + 1) (2 ^ 32 - 1) := by
    rw [← State.rd_congr (denyEnd_regs s) SEC_DENY]
    exact State.rd_addSat _ _ _ (by decide)
  have onlyCount : Only [.regs, .sec] s s1 := (only_denyEnd s).comp (State.only_addSat _ _ _) (by simp) (by simp)
  obtain ⟨kept, onlyFirst⟩ : f.rd SEC_DENY = s1.rd SEC_DENY ∧ Only [.regs] s1 f := denyCaptured_spec s1 _ m acc
  have only : Only [.regs, .sec] s f := onlyCount.trans (onlyFirst.mono (by simp))
  split
  · exact ⟨kept.trans counted, only.trans ((only_withSec f _).mono (by simp))⟩
  · have told : Only [.regs, .sec] s g := only.trans ((f.only_hall _ _ _).mono (by simp))
    exact ⟨kept.trans counted, told.trans ((only_withSec g _).mono (by simp))⟩

/-! ### What refuses a load -/

section
variable {s : State} {l : Nat} {u : Bundle} {x : Slot}

theorem loadRefused_bounds (h : tileBad (s.kimg (s.bench l)) u.regs x.word = true) :
    s.loadRefused l u x = some (s.streamError l u.id u.pc x.pos 3) := if_pos h

theorem loadRefused_format (h : tileBad (s.kimg (s.bench l)) u.regs x.word = false)
    (hf : (Fmt.ofCode (tileDesc s l x).fmt).isSome = false ∨ (bitsOf x.word 30 1 = 1 ∧ 64 < (tileDesc s l x).rows)) :
    s.loadRefused l u x = some (s.streamError l u.id u.pc x.pos 2) := by
  have named : (Fmt.ofCode (tileDesc s l x).fmt).isNone = true ∨ (bitsOf x.word 30 1 = 1 ∧ 64 < (tileDesc s l x).rows) := by
    rwa [← Option.not_isSome, Bool.not_eq_true']
  exact (if_neg (by rw [h]; decide)).trans (if_pos named)

theorem loadRefused_formed (h : Formed s l u x) : s.loadRefused l u x = (s.refusedSpan (gBench l) .r (slotTile s l u x)).map
    (fun r => (s.deny (gBench l) .r r.1 r.2).streamError l u.id u.pc x.pos 9 0 r.1) := by
  obtain ⟨bounds, format, rows⟩ := h
  have fine : ¬((Fmt.ofCode (tileDesc s l x).fmt).isNone = true ∨ (bitsOf x.word 30 1 = 1 ∧ 64 < (tileDesc s l x).rows)) := by
    rintro (none' | ⟨set, many⟩)
    · rw [← Option.not_isSome, format] at none'
      cases none'
    · exact absurd (rows set) (by omega)
  exact (if_neg (by rw [bounds]; decide)).trans (if_neg fine)

/-- A load that nothing refuses takes its cells and reads. -/
theorem loadTile_moves (h : s.loadRefused l u x = none) (ht : (s.moverTake l u.id x.pos (slotTile s l u x)).1 = true) :
    let t := (s.moverTake l u.id x.pos (slotTile s l u x)).2
    s.loadTile l u x = (t.readTile (mBench l) (s.tileSpans l u x)).2.landTile l u x (t.readTile (mBench l) (s.tileSpans l u x)).1 := by
  intro t
  have taken : s.moverTake l u.id x.pos ((s.tileSpans l u x).1 ++ (s.tileSpans l u x).2) = (true, t) := Prod.ext ht rfl
  rw [State.loadTile, h]
  dsimp only
  rw [taken]

theorem loadTile_waits (h : s.loadRefused l u x = none) (ht : (s.moverTake l u.id x.pos (slotTile s l u x)).1 = false) :
    s.loadTile l u x = (s.moverTake l u.id x.pos (slotTile s l u x)).2 := by
  have taken : s.moverTake l u.id x.pos ((s.tileSpans l u x).1 ++ (s.tileSpans l u x).2) =
    (false, (s.moverTake l u.id x.pos (slotTile s l u x)).2) := Prod.ext ht rfl
  rw [State.loadTile, h]
  dsimp only
  rw [taken]

end

end Sys2Proof.Proofs.Mill
end

section
/-! PROOFS. A poisoned word stays poisoned through reads, and a span with one gives no data (R456, R465, R470). -/

open Sys2Proof Sys2Proof.Machine Sys2Proof.Proofs.Casting

namespace Sys2Proof.Proofs.Mill

/-! ### The damage of words -/

theorem find_put {α : Type} (m : List (Nat × α)) (k j : Nat) (v : α) :
    ((Sparse.put m k v).find? (fun e => e.1 == j)).map (·.2) = if k = j then some v else (m.find? (fun e => e.1 == j)).map (·.2) := by
  induction m with
  | nil => by_cases h : k = j <;> simp [Sparse.put, h]
  | cons e m ih =>
    rw [Sparse.put]
    by_cases h : e.1 = k
    · by_cases hj : k = j <;> simp [h, hj]
    · rw [if_neg h]
      by_cases hk : k < e.1
      · rw [if_pos hk]
        by_cases hj : k = j <;> simp [hj]
      · rw [if_neg hk]
        by_cases he : e.1 = j
        · have apart : k ≠ j := fun c => h (he.trans c.symm)
          simp [he, apart]
        · simp [he, ih]

theorem errAt_setErr (s : State) (w v : Nat) (e : WordErr) : (s.setErr w e).errAt v = if w = v then some e else s.errAt v := find_put s.errs w v e

/-! ### Reads of any memory -/

/-- What a read may change. -/
def readParts : List Part := [.clock, .regs, .mem, .errs, .free, .alive, .flt]

/-- A read: what it may change, and poisoned words stay so. -/
structure Read (s t : State) : Prop where
  only : Only readParts s t
  poison : ∀ w, s.errAt w = some .poison → t.errAt w = some .poison

theorem Read.rfl {s : State} : Read s s := ⟨Only.rfl, fun _ h => h⟩

theorem Read.trans {s t u : State} (h : Read s t) (k : Read t u) : Read s u := ⟨h.only.trans k.only, fun w hw => k.poison w (h.poison w hw)⟩

theorem Read.of_errs {s t : State} {l : List Part} (h : Only l s t) (hl : l ⊆ readParts) (he : .errs ∉ l) : Read s t :=
  ⟨h.mono hl, fun w hw => (errAt_congr (h .errs he) w).trans hw⟩

theorem Read.foldl {α : Type} (f : State → α → State) (h : ∀ s x, Read s (f s x)) (xs : List α) (s : State) : Read s (xs.foldl f s) := by
  induction xs generalizing s with
  | nil => exact .rfl
  | cons x xs ih => exact (h s x).trans (ih _)

section
variable (s : State)

theorem only_takeInj (kind idx : Nat) : Only [.regs] s (s.takeInj kind idx).2 := by
  unfold State.takeInj
  split
  · dsimp only
    split
    · exact (s.only_wr _ _).trans (State.only_wrBit _ _ _)
    · exact s.only_wr _ _
  · exact Only.rfl

theorem only_aliveBreak (g : Nat) : Only [.regs, .flt] s (s.aliveBreak g) := by
  unfold State.aliveBreak
  extract_lets u s1 s2
  have first : Only [.regs] s1 s2 := by
    dsimp only [s2]
    split
    · exact Only.rfl
    · exact ((s1.only_wr _ _).trans (State.only_wr _ _ _)).trans (State.only_wrBit _ _ _)
  exact ((s.only_addSat _ _).trans first).comp (State.only_fault s2 _ _ _ _ _ _ _) (by simp) (by simp)

theorem read_groupAccess (m : Master) (w : Nat) : Read s (s.groupAccess m w) := by
  unfold State.groupAccess
  split
  · extract_lets g k n want
    split
    rename_i hit t taken
    have counted : Only [.regs] s t := by
      rw [show t = _ from (congrArg Prod.snd taken).symm]
      exact only_takeInj s 10 g
    extract_lets got
    have numbered : Only [.regs, .alive] s (withAlive t (aliveSet t.msys.seq k (n + 1)) (aliveSet t.msys.alive k (got + 1))) :=
      counted.comp (only_withAlive t _ _) (by simp) (by simp)
    refine Read.of_errs (l := [.regs, .alive, .flt]) ?_ (by decide) (by decide)
    split
    · exact numbered.mono (by simp)
    · exact numbered.comp (only_aliveBreak _ g) (by simp) (by simp)
  · exact .rfl

theorem only_countCorrected (w : Nat) (l : List Nat) : Only [.regs] s (s.countCorrected w l) := by
  unfold State.countCorrected
  split
  · extract_lets s1 g
    have counted : Only [.regs] s s1 := s.only_addSat _ _
    split
    · split
      · exact counted.trans (s1.only_addSat _ _)
      · exact counted.trans ((s1.only_wr _ _).trans (State.only_wr _ _ _))
    · exact counted
  · exact s.only_addSat _ _

theorem only_countUncorr (w : Nat) (m : Master) (ty : Nat) (p : Bool) : Only [.regs] s (s.countUncorr w m ty p) := by
  unfold State.countUncorr
  extract_lets s1 s2 s3 s4 s5 s6
  have counted : Only [.regs] s s1 := by
    dsimp only [s1]
    split <;> exact s.only_addSat _ _
  have h2 : Only [.regs] s s2 := counted.trans (s1.only_wr _ _)
  have h3 : Only [.regs] s s3 := h2.trans (s2.only_wr _ _)
  have h4 : Only [.regs] s s4 := h3.trans (s3.only_wrBit _ _)
  have h5 : Only [.regs] s s5 := h4.trans (s4.only_wrBit _ _)
  have h6 : Only [.regs] s s6 := h5.trans (s5.only_wr64 _ _)
  split
  · exact counted
  · exact h6.trans (s6.only_wr64 _ _)

theorem read_readWord (m : Master) (ty w : Nat) : Read s (s.readWord m ty w).2 := by
  unfold State.readWord
  split
  · exact .rfl
  · rename_i l _
    have counted : Read s (s.countCorrected w l) := .of_errs (only_countCorrected s w l) (by decide) (by decide)
    dsimp only
    split
    · exact counted
    · have changed := ((s.countCorrected w l).only_setBytes w ((List.range (wordSize w)).map (fun i => Config.miscorrect (w + i) (s.countCorrected w l).free)))
      exact counted.trans (.of_errs (changed.comp (n := [.mem, .free]) (State.only_freeNext _) (by simp) (by simp)) (by decide) (by decide))
  · have counted : Read s (s.countUncorr w m ty false) := .of_errs (only_countUncorr s w m ty false) (by decide) (by decide)
    generalize s.countUncorr w m ty false = t at counted
    refine counted.trans ⟨((t.only_setErr w .poison).comp (State.only_freeNext _) (by decide) (by decide)), fun v hv => ?_⟩
    show (t.setErr w .poison).errAt v = _
    rw [errAt_setErr]
    split
    · rfl
    · exact hv
  · exact .of_errs (only_countUncorr s w m ty true) (by decide) (by decide)

theorem read_readWords (m : Master) (ty : Nat) (ws : List Nat) : Read s (s.readWords m ty ws).2 := by
  induction ws generalizing s with
  | nil => exact .rfl
  | cons w ws ih => exact (read_readWord s m ty w).trans (ih _)

/-- Words with a poisoned one among them give no data. -/
theorem readWords_poisoned (m : Master) (ty : Nat) {ws : List Nat} {w : Nat} (hw : w ∈ ws) (bad : s.errAt w = some .poison) :
    (s.readWords m ty ws).1 = false := by
  induction ws generalizing s with
  | nil => cases hw
  | cons v ws ih =>
    rw [State.readWords]
    dsimp only
    rcases List.mem_cons.1 hw with rfl | later
    · have fails : (s.readWord m ty w).1 = false := by
        unfold State.readWord State.decodeWord
        rw [bad]
      rw [fails, Bool.false_and]
    · rw [ih (s.readWord m ty v).2 later ((read_readWord s m ty v).poison w bad), Bool.and_false]

theorem read_cellChecks (a n : Nat) : Read s (s.cellChecks a n).2 := by
  unfold State.cellChecks
  refine .of_errs (l := [.regs]) ?_ (by decide) (by decide)
  generalize (wordsOf a n).filter (fun w => decide (w < hbmEnd) && (decide (w % 256 = 0) || w == wordBase a)) = ws
  suffices all : ∀ r : Bool × State, Only [.regs] r.2 (ws.foldl (fun (r : Bool × State) w =>
      let u := 640 + groupOf w
      if r.2.bit (TM_CFG_EN u) then let (hit, s) := r.2.takeInj 8 u; (r.1 || hit, s) else r) r).2 from all (false, s)
  induction ws with
  | nil => exact fun r => Only.rfl
  | cons w ws ih =>
    intro r
    refine Only.trans ?_ (ih _)
    dsimp only
    split
    · exact only_takeInj r.2 8 _
    · exact Only.rfl

theorem read_memRead (m : Master) (a n : Nat) : Read s (s.memRead m a n).2 := by
  have accessed : Read s ((wordsOf a n).foldl (fun s w => s.groupAccess m w) s) := .foldl _ (fun s w => read_groupAccess s m w) _ s
  have words := accessed.trans (read_readWords _ m 0 (wordsOf a n))
  unfold State.memRead State.memReadChk
  dsimp only
  split
  · exact words.trans (read_cellChecks _ a n)
  · exact words

theorem memRead_poisoned (m : Master) {a n w : Nat} (hw : w ∈ wordsOf a n) (bad : s.errAt w = some .poison) : (s.memRead m a n).1 = none := by
  have accessed : Read s ((wordsOf a n).foldl (fun s w => s.groupAccess m w) s) := .foldl _ (fun s w => read_groupAccess s m w) _ s
  have fails := readWords_poisoned _ m 0 hw (accessed.poison w bad)
  unfold State.memRead State.memReadChk
  dsimp only
  rw [fails]
  rfl

theorem read_readSpans (m : Master) (l : List (Nat × Nat)) : Read s (s.readSpans m l).2 := by
  induction l generalizing s with
  | nil => exact .rfl
  | cons p l ih =>
    have one := read_memRead s m p.1 p.2
    rw [State.readSpans]
    split
    · rename_i t read
      rwa [read] at one
    · rename_i bs t read
      rw [read] at one
      have rest := ih t
      split
      · rename_i r v reads
        rw [reads] at rest
        exact one.trans rest
      · rename_i r v reads
        rw [reads] at rest
        exact one.trans rest

/-- Spans with a poisoned word in one of them give no data. -/
theorem readSpans_poisoned (m : Master) {l : List (Nat × Nat)} (bad : ∃ p ∈ l, ∃ w ∈ wordsOf p.1 p.2, s.errAt w = some .poison) :
    ∃ a, (s.readSpans m l).1 = .error a := by
  induction l generalizing s with
  | nil =>
    obtain ⟨p, hp, -⟩ := bad
    cases hp
  | cons q l ih =>
    obtain ⟨p, hp, w, hw, poisoned⟩ := bad
    have one := read_memRead s m q.1 q.2
    rw [State.readSpans]
    split
    · exact ⟨_, rfl⟩
    · rename_i bs t read
      rw [read] at one
      rcases List.mem_cons.1 hp with rfl | later
      · have fails := memRead_poisoned s m hw poisoned
        rw [read] at fails
        cases fails
      · obtain ⟨a, fails⟩ := ih t ⟨p, later, w, hw, one.poison w poisoned⟩
        split
        · rename_i r v reads
          rw [reads] at fails
          cases fails
        · exact ⟨_, rfl⟩

/-- A tile with a poisoned word is read as an error. -/
theorem readTile_poisoned (m : Master) {sp : List (Nat × Nat) × List (Nat × Nat)}
    (bad : ∃ p ∈ sp.1 ++ sp.2, ∃ w ∈ wordsOf p.1 p.2, s.errAt w = some .poison) :
    (∃ a, (s.readTile m sp).1 = .error a) ∧ Read s (s.readTile m sp).2 := by
  obtain ⟨p, hp, w, hw, poisoned⟩ := bad
  have data := read_readSpans s m sp.1
  rw [State.readTile]
  split
  · rename_i a t read
    rw [read] at data
    exact ⟨⟨a, rfl⟩, data⟩
  · rename_i bs t read
    rw [read] at data
    have scale := read_readSpans t m sp.2
    have fails : ∃ a, (t.readSpans m sp.2).1 = .error a := by
      rcases List.mem_append.1 hp with early | late
      · obtain ⟨a, fails⟩ := readSpans_poisoned s m ⟨p, early, w, hw, poisoned⟩
        rw [read] at fails
        cases fails
      · exact readSpans_poisoned t m ⟨p, late, w, hw, data.poison w poisoned⟩
    obtain ⟨a, fails⟩ := fails
    split
    · rename_i b v reads
      rw [reads] at scale
      exact ⟨⟨b, rfl⟩, data.trans scale⟩
    · rename_i cs v reads
      rw [reads] at fails
      cases fails

end

end Sys2Proof.Proofs.Mill
end

section
/-! PROOFS. LD and the LDB of a folded Casting (R186, R187, R189, R214). -/

open Sys2Proof Sys2Proof.Machine Sys2Proof.Proofs.Casting Sys2Proof.Proofs.Grid Sys2Proof.Proofs.Numbers

namespace Sys2Proof.Proofs.Mill

/-- The slot's tile may be loaded, and every span of it is whole. -/
structure Loadable (s : State) (l : Nat) (u : Bundle) (x : Slot) : Prop where
  formed : Formed s l u x
  granted : s.refusedSpan (gBench l) .r (slotTile s l u x) = none
  whole : ∀ p ∈ slotTile s l u x, Whole s p.1 p.2

/-- The mover's cells of a LOAD or STORE slot. -/
def slotTakes (s : State) (l : Nat) (u : Bundle) (x : Slot) : Bool × State := s.moverTake l u.id x.pos (slotTile s l u x)

theorem loadRefused_none {s : State} {l : Nat} {u : Bundle} {x : Slot} (hf : Formed s l u x)
    (hg : s.refusedSpan (gBench l) .r (slotTile s l u x) = none) : s.loadRefused l u x = none := by
  rw [loadRefused_formed hf, hg]
  rfl

/-- A command that loads the tile of a slot: what each case leaves. -/
structure LoadDoes (c : Instr) (s : State) (l : Nat) (u : Bundle) (x : Slot) : Prop where
  moves : Loadable s l u x → (slotTakes s l u x).1 = true → Only [.fab, .mill] s (slotTakes s l u x).2 ∧ ∃ y, exec c s = .next y ∧
    Loaded s l u x (y.bench l) ∧ (∀ j, j ≠ l → y.bench j = s.bench j) ∧ Only [.benches, .alive] (slotTakes s l u x).2 y
  waits : Loadable s l u x → (slotTakes s l u x).1 = false → exec c s = .next (slotTakes s l u x).2 ∧ Only [.regs] s (slotTakes s l u x).2 ∧
    ∃ d, WordsOnly [(BP_FAIL d).addr] s (slotTakes s l u x).2
  bounds : tileBad (s.kimg (s.bench l)) u.regs x.word = true → Stops c l u x 3 s
  format : tileBad (s.kimg (s.bench l)) u.regs x.word = false →
    (Fmt.ofCode (tileDesc s l x).fmt).isSome = false ∨ (bitsOf x.word 30 1 = 1 ∧ 64 < (tileDesc s l x).rows) → Stops c l u x 2 s
  refused : ∀ r, Formed s l u x → s.refusedSpan (gBench l) .r (slotTile s l u x) = some r →
    ∃ z y, exec c s = .next y ∧ z.rd SEC_DENY = min (s.rd SEC_DENY + 1) (2 ^ 32 - 1) ∧ Only [.regs, .sec] s z ∧
      StreamStops l u.id u.pc x.pos 9 z y
  poisoned : Formed s l u x → s.refusedSpan (gBench l) .r (slotTile s l u x) = none → (slotTakes s l u x).1 = true →
    (∃ p ∈ slotTile s l u x, ∃ w ∈ wordsOf p.1 p.2, s.errAt w = some .poison) →
    ∃ z y, exec c s = .next y ∧ Only [.clock, .regs, .mem, .errs, .free, .msys, .alive, .flt, .fab, .mill] s z ∧
      StreamStops l u.id u.pc x.pos 10 z y

section
variable {s : State} {l : Nat} {u : Bundle} {x : Slot}

/-- Bytes read by a state whose Benches are those of `s` land as in `s`. -/
theorem landTile_bench {t : State} (bs : List Byte) (off : t.bit FLT_INJ_LEFT_ARMED = false) (same : t.bench l = s.bench l) :
    Becomes l (((s.bench l).write (256 * bitsOf x.word 16 10) bs).mark u.id x.pos .performed) t (t.landTile l u x (.ok bs)) :=
  same ▸ landTile_becomes bs off

/-- After its cells are taken, a whole tile is read as `s` holds it. -/
theorem readTile_taken {t : State} {sp : List (Nat × Nat) × List (Nat × Nat)} (m : Master) (taken : CellsTaken s t)
    (whole : ∀ p ∈ sp.1 ++ sp.2, Whole s p.1 p.2) : ∃ v, t.readTile m sp = (.ok (tileBytes s sp), v) ∧ Counted t v := by
  obtain ⟨v, read, counted⟩ := readTile_whole m fun p hp => whole_of_only taken.only (by decide) (by decide) (by decide) (whole p hp)
  rw [tileBytes_congr (taken.only .mem (by decide))] at read
  exact ⟨v, read, counted⟩

theorem load_does {c : Instr} (off : s.bit FLT_INJ_LEFT_ARMED = false) (hl : l < 1024) (hpos : x.pos < 16)
    (hc : exec c s = .next (s.loadTile l u x)) : LoadDoes c s l u x where
  moves good ht := by
    obtain ⟨formed, granted, whole⟩ := good
    have taken : CellsTaken s (slotTakes s l u x).2 := moverTake_takes ht
    obtain ⟨v, read, counted⟩ := readTile_taken (sp := s.tileSpans l u x) (mBench l) taken whole
    have moved : s.loadTile l u x = v.landTile l u x (.ok (tileBytes s (s.tileSpans l u x))) := by
      rw [loadTile_moves (loadRefused_none formed granted) ht]
      show (((slotTakes s l u x).2.readTile (mBench l) (s.tileSpans l u x)).2).landTile l u x _ = _
      rw [read]
      exact congrArg (State.landTile v l u x) (congrArg Prod.fst read)
    have benches : ∀ j, v.bench j = s.bench j := fun j => by
      have same : v.benches = s.benches := (counted.only .benches (by decide)).trans (taken.only .benches (by decide))
      rw [State.bench, same, State.bench]
    obtain ⟨⟨own, others⟩, only⟩ := landTile_bench (u := u) (x := x) (tileBytes s (s.tileSpans l u x))
      (counted.unarmed ((bit_of_only taken.only (by decide) _).trans off)) (benches l)
    refine ⟨taken.only, _, hc.trans (congrArg _ moved), ?_, fun j hj => (others j hj).trans (benches j),
      counted.only.comp only (by simp) (by simp)⟩
    rw [own]
    exact loaded_of_write formed.bounds
  waits good ht := ⟨hc.trans (congrArg _ (loadTile_waits (loadRefused_none good.formed good.granted) ht)), moverTake_fails ht⟩
  bounds bad := ⟨_, hc.trans (congrArg _ (by rw [State.loadTile, loadRefused_bounds bad])), streamError_stops s _ _ hl hpos (by decide)⟩
  format ok bad := ⟨_, hc.trans (congrArg _ (by rw [State.loadTile, loadRefused_format ok bad])), streamError_stops s _ _ hl hpos (by decide)⟩
  refused r formed refused := by
    obtain ⟨count, only⟩ := deny_counts s (gBench l) .r r.1 r.2
    refine ⟨_, _, hc.trans (congrArg _ ?_), count, only, streamError_stops _ 0 r.1 hl hpos (by decide)⟩
    rw [State.loadTile, loadRefused_formed formed, refused]
    rfl
  poisoned formed granted ht bad := by
    have taken : CellsTaken s (slotTakes s l u x).2 := moverTake_takes ht
    obtain ⟨p, hp, w, hw, poisoned⟩ := bad
    obtain ⟨⟨a, fails⟩, read⟩ := readTile_poisoned (slotTakes s l u x).2 (mBench l) (sp := s.tileSpans l u x)
      ⟨p, hp, w, hw, (errAt_congr (taken.only .errs (by decide)) w).trans poisoned⟩
    refine ⟨_, _, hc.trans (congrArg _ ?_), taken.only.comp read.only (by decide) (by decide), streamError_stops _ 0 a hl hpos (by decide)⟩
    rw [loadTile_moves (loadRefused_none formed granted) ht]
    show State.landTile _ l u x ((slotTakes s l u x).2.readTile (mBench l) (s.tileSpans l u x)).1 = _
    rw [fails]
    rfl

end

end Sys2Proof.Proofs.Mill
end

section
/-! PROOFS. The Hall broadcast of LDB, and the statement about LD and LDB (R153, R157, R187). -/

open Sys2Proof Sys2Proof.Machine Sys2Proof.Proofs.Casting Sys2Proof.Proofs.Grid Sys2Proof.Proofs.Numbers

namespace Sys2Proof.Proofs.Mill

/-! ### What a Bench's slots see -/

/-- The node after loads of other Benches: their stores, the pools and the counts of memory may differ, the placement not. -/
structure Beside (s t : State) : Prop where
  only : Only [.benches, .alive, .fab, .mill] s t
  map : t.mill.map = s.mill.map

section
variable {s t : State} (h : Beside s t)
include h

theorem Beside.rd (f : Fld) : t.rd f = s.rd f := rd_of_only h.only (by decide) f

theorem Beside.bit (f : Fld) : t.bit f = s.bit f := bit_of_only h.only (by decide) f

theorem Beside.cst : t.cst = s.cst := h.only .cst (by decide)

theorem Beside.kern : t.kern = s.kern := by rw [State.kern, h.cst, State.kern]

theorem Beside.kimg (b : Bench) : t.kimg b = s.kimg b := by rw [State.kimg, h.kern, State.kimg]

theorem Beside.inForce : t.inForce = s.inForce := by simp only [State.inForce, State.nodeState, h.rd]

theorem Beside.placeMap : t.placeMap = s.placeMap := by
  have word : ∀ a, t.word a = s.word a := h.only .regs (by decide)
  rw [State.placeMap, h.inForce, h.map, State.hallMap, word, word, State.placeMap, State.hallMap]

theorem Beside.physN : t.physN = s.physN := by rw [State.physN, h.placeMap, State.physN]

theorem Beside.physOf (l : Nat) : t.physOf l = s.physOf l := by rw [State.physOf, h.physN, h.placeMap, State.physOf]

theorem Beside.mapped (a n : Nat) : t.mapped a n = s.mapped a n := by
  have pcells : t.pcells = s.pcells := funext fun _ => h.rd _
  have bit : t.bit = s.bit := funext h.bit
  rw [State.mapped, pcells, bit]
  rfl

theorem Beside.reserved : t.reserved = s.reserved := by
  have rd : t.rd = s.rd := funext h.rd
  have rd64 : t.rd64 = s.rd64 := funext fun f => by rw [State.rd64, rd, State.rd64]
  rw [State.reserved, h.inForce, h.cst, h.physN, rd, rd64]
  rfl

theorem Beside.granted (m : GMaster) (acc : GAcc) (a n : Nat) : t.granted m acc a n = s.granted m acc a n := by
  have grantable : t.grantable a n = s.grantable a n := by rw [State.grantable, h.mapped, h.reserved, State.grantable]
  rw [State.granted, grantable, h.inForce, h.cst]
  rfl

theorem Beside.refusedSpan (m : GMaster) (acc : GAcc) (l : List (Nat × Nat)) : t.refusedSpan m acc l = s.refusedSpan m acc l := by
  simp only [State.refusedSpan, h.granted]

variable {j : Nat} (same : t.bench j = s.bench j)
include same

theorem Beside.ready (pos op : Nat) : t.ready? j pos op = s.ready? j pos op := by
  have acts : t.benchActs j = s.benchActs j := by
    have quenched : t.quenched = s.quenched := h.bit _
    have benchN : t.benchN = s.benchN := by rw [State.benchN, h.cst, State.benchN]
    rw [State.benchActs, h.inForce, quenched, h.bit, benchN, h.rd, h.physOf, same]
    rfl
  have clear : t.slotClear = s.slotClear := by
    funext b u x
    rw [State.slotClear, h.kimg]
    rfl
  rw [State.ready?, acts, same, State.nextSlot, clear]
  rfl

theorem Beside.ldbReady (g : Nat) : t.ldbReady g j = s.ldbReady g j := by
  rw [State.ldbReady, h.ready same, State.ldbReady]

theorem Beside.tileSpans (u : Bundle) (x : Slot) : t.tileSpans j u x = s.tileSpans j u x := by
  rw [State.tileSpans, same, h.kimg, State.tileSpans]

theorem Beside.slotTile (u : Bundle) (x : Slot) : slotTile t j u x = slotTile s j u x := by
  rw [Mill.slotTile, tileDesc, same, h.kimg, Mill.slotTile, tileDesc]

theorem Beside.loadable {u : Bundle} {x : Slot} (formed : Formed s j u x) (granted : s.refusedSpan (gBench j) .r (Mill.slotTile s j u x) = none) :
    t.loadRefused j u x = none := by
  obtain ⟨bounds, format, rows⟩ := formed
  refine loadRefused_none ⟨?_, ?_, ?_⟩ ?_
  · rwa [same, h.kimg]
  · rwa [tileDesc, same, h.kimg]
  · rwa [tileDesc, same, h.kimg]
  · rw [h.slotTile same, h.refusedSpan, granted]

end

/-! ### The broadcast -/

/-- A member's LDB may start, and its tile lies in the spans `sp`. -/
def Joins (s : State) (g : Nat) (sp : List (Nat × Nat) × List (Nat × Nat)) (j : Nat) : Prop :=
  ∃ v z, s.ldbReady g j = some (v, z) ∧ Formed s j v z ∧ s.refusedSpan (gBench j) .r (slotTile s j v z) = none ∧ s.tileSpans j v z = sp

/-- A member's Bench once the bytes have landed. -/
def Lands (s : State) (g : Nat) (bs : List Byte) (j : Nat) (c : Bench) : Prop :=
  ∀ v z, s.ldbReady g j = some (v, z) → c = ((s.bench j).write (256 * bitsOf z.word 16 10) bs).mark v.id z.pos .performed

theorem landTile_lands {s t : State} {g j : Nat} {v : Bundle} {z : Slot} (bs : List Byte) (off : t.bit FLT_INJ_LEFT_ARMED = false)
    (same : t.bench j = s.bench j) (h : s.ldbReady g j = some (v, z)) :
    Lands s g bs j ((t.landTile j v z (.ok bs)).bench j) ∧ (∀ i, i ≠ j → (t.landTile j v z (.ok bs)).bench i = t.bench i) ∧
      Only [.benches] t (t.landTile j v z (.ok bs)) := by
  obtain ⟨⟨own, others⟩, only⟩ := landTile_bench (u := v) (x := z) bs off same
  refine ⟨fun v' z' h' => ?_, others, only⟩
  obtain ⟨rfl, rfl⟩ := Prod.mk.inj (Option.some.inj (h.symm.trans h'))
  exact own

/-- Every member that names the spans read already takes their bytes. -/
theorem broadcast_lands {s : State} {g : Nat} {sp : List (Nat × Nat) × List (Nat × Nat)} (bs : List Byte) (js : List Nat) {t : State}
    (nodup : js.Nodup) (beside : Beside s t) (off : t.bit FLT_INJ_LEFT_ARMED = false) (fresh : ∀ j ∈ js, t.bench j = s.bench j)
    (joins : ∀ j ∈ js, Joins s g sp j) :
    (∀ j ∈ js, Lands s g bs j ((t.broadcast g js [(sp, .ok bs)]).bench j)) ∧
      (∀ j, j ∉ js → (t.broadcast g js [(sp, .ok bs)]).bench j = t.bench j) ∧ Only [.benches] t (t.broadcast g js [(sp, .ok bs)]) := by
  induction js generalizing t with
  | nil => exact ⟨by simp, fun _ _ => rfl, Only.rfl⟩
  | cons j js ih =>
    obtain ⟨apart, nodup⟩ := List.nodup_cons.1 nodup
    have same := fresh j List.mem_cons_self
    obtain ⟨v, z, starts, formed, granted, spans⟩ := joins j List.mem_cons_self
    have step : t.broadcast g (j :: js) [(sp, .ok bs)] = (t.landTile j v z (.ok bs)).broadcast g js [(sp, .ok bs)] := by
      rw [State.broadcast, beside.ldbReady same, starts]
      simp only [beside.loadable same formed granted, beside.tileSpans same, spans, List.find?_cons_of_pos, beq_self_eq_true]
    obtain ⟨own, others, only⟩ := landTile_lands bs off same starts
    generalize t.landTile j v z (.ok bs) = u at step own others only
    have mill : u.mill = t.mill := only .mill (by decide)
    obtain ⟨land, rest, onlyRest⟩ := ih nodup ⟨beside.only.trans (only.mono (by simp)), by rw [mill, beside.map]⟩
      ((bit_of_only only (by decide) _).trans off)
      (fun i hi => (others i fun e => apart (e ▸ hi)).trans (fresh i (List.mem_cons_of_mem _ hi)))
      fun i hi => joins i (List.mem_cons_of_mem _ hi)
    rw [step]
    refine ⟨fun i hi => ?_, fun i hi => ?_, only.trans onlyRest⟩
    · rcases List.mem_cons.1 hi with rfl | later
      · rw [rest i apart]
        exact own
      · exact land i later
    · obtain ⟨other, later⟩ := not_or.1 (fun e => hi (List.mem_cons.2 e))
      rw [rest i later, others i other]

theorem hallMembers_nodup (s : State) (g l : Nat) : (s.hallMembers g l).Nodup := (List.nodup_range.filter _).filter _

section
variable {s : State} {l : Nat} {u : Bundle} {x : Slot} (h : s.ready? l 0 1 = some (u, x))
include h

theorem opLdb_outside (out : kernInGroup s.kern (bitsOf x.word 32 8) l = false) : s.opLdb l = s.streamError l u.id u.pc x.pos 8 := by
  rw [State.opLdb, h]
  exact if_pos (by rw [out]; rfl)

variable (inside : kernInGroup s.kern (bitsOf x.word 32 8) l = true)
include inside

theorem opLdb_folded (folded : s.foldDepth ≠ 1) : s.opLdb l = s.loadTile l u x := by
  rw [State.opLdb, h]
  exact (if_neg (by rw [inside]; decide)).trans (if_neg folded)

theorem opLdb_hall (flat : s.foldDepth = 1) : s.opLdb l =
    if (s.hallMembers (bitsOf x.word 32 8) l).all (fun j => (s.ldbReady (bitsOf x.word 32 8) j).isSome)
    then s.broadcast (bitsOf x.word 32 8) (s.hallMembers (bitsOf x.word 32 8) l) [] else s := by
  rw [State.opLdb, h]
  exact (if_neg (by rw [inside]; decide)).trans (if_pos flat)

end

/-- The members of a Hall load together: the first one reads the spans that all of them name. -/
theorem broadcast_loads {s : State} {g j0 : Nat} {js : List Nat} {v0 : Bundle} {z0 : Slot} (off : s.bit FLT_INJ_LEFT_ARMED = false)
    (nodup : (j0 :: js).Nodup) (first : s.ldbReady g j0 = some (v0, z0)) (ht : (slotTakes s j0 v0 z0).1 = true)
    (joins : ∀ j ∈ j0 :: js, Joins s g (s.tileSpans j0 v0 z0) j) (whole : ∀ p ∈ slotTile s j0 v0 z0, Whole s p.1 p.2) :
    (∀ j ∈ j0 :: js, Lands s g (tileBytes s (s.tileSpans j0 v0 z0)) j ((s.broadcast g (j0 :: js) []).bench j)) ∧
      (∀ j, j ∉ j0 :: js → (s.broadcast g (j0 :: js) []).bench j = s.bench j) ∧
      Only [.benches, .alive] (slotTakes s j0 v0 z0).2 (s.broadcast g (j0 :: js) []) := by
  obtain ⟨apart, nodup⟩ := List.nodup_cons.1 nodup
  obtain ⟨v, z, starts, formed, granted, -⟩ := joins j0 List.mem_cons_self
  obtain ⟨rfl, rfl⟩ := Prod.mk.inj (Option.some.inj (starts.symm.trans first))
  have taken : CellsTaken s (slotTakes s j0 v z).2 := moverTake_takes ht
  obtain ⟨t, read, counted⟩ := readTile_taken (sp := s.tileSpans j0 v z) (mBench j0) taken whole
  generalize hbs : tileBytes s (s.tileSpans j0 v z) = bs at *
  have took : s.moverTake j0 v.id z.pos ((s.tileSpans j0 v z).1 ++ (s.tileSpans j0 v z).2) = (true, (slotTakes s j0 v z).2) := Prod.ext ht rfl
  have step : s.broadcast g (j0 :: js) [] = (t.landTile j0 v z (.ok bs)).broadcast g js [(s.tileSpans j0 v z, .ok bs)] := by
    rw [State.broadcast, starts]
    simp only [loadRefused_none formed granted, List.find?_nil, took, read]
  have benches : t.benches = s.benches := (counted.only .benches (by decide)).trans (taken.only .benches (by decide))
  have bench : ∀ j, t.bench j = s.bench j := fun j => by rw [State.bench, benches, State.bench]
  have offT : t.bit FLT_INJ_LEFT_ARMED = false := counted.unarmed ((bit_of_only taken.only (by decide) _).trans off)
  obtain ⟨own, others, only⟩ := landTile_lands bs offT (bench j0) starts
  generalize t.landTile j0 v z (.ok bs) = y at step own others only
  have onlyT : Only [.benches, .alive] (slotTakes s j0 v z).2 y := counted.only.comp only (by simp) (by simp)
  have map : y.mill.map = s.mill.map := by
    rw [show y.mill = (slotTakes s j0 v z).2.mill from onlyT .mill (by decide)]
    exact taken.map
  obtain ⟨land, rest, onlyRest⟩ := broadcast_lands bs js nodup ⟨taken.only.comp onlyT (by simp) (by simp), map⟩
    ((bit_of_only only (by decide) _).trans offT) (fun i hi => (others i fun e => apart (e ▸ hi)).trans (bench i))
    fun i hi => joins i (List.mem_cons_of_mem _ hi)
  rw [step]
  refine ⟨fun i hi => ?_, fun i hi => ?_, onlyT.trans (onlyRest.mono (by simp))⟩
  · rcases List.mem_cons.1 hi with rfl | later
    · rw [rest i apart]
      exact own
    · exact land i later
  · obtain ⟨other, later⟩ := not_or.1 (fun e => hi (List.mem_cons.2 e))
    rw [rest i later, others i other, bench]

/-- A member that takes the bytes of its own tile is loaded. -/
theorem loaded_of_lands {s : State} {g j : Nat} {v : Bundle} {z : Slot} {c : Bench} {sp : List (Nat × Nat) × List (Nat × Nat)}
    (h : Lands s g (tileBytes s sp) j c) (starts : s.ldbReady g j = some (v, z)) (formed : Formed s j v z) (spans : s.tileSpans j v z = sp) :
    Loaded s j v z c := by
  rw [h v z starts, ← spans]
  exact loaded_of_write formed.bounds

/-- Settles O34: what a load does is the same for LD and for a folded LDB; a Hall broadcast reads once and lands for each member. -/
theorem loadsCopyTilesIntoTheStore : Obligations.LoadsCopyTilesIntoTheStore := by
  intro l s hl off desc index spans formed good takes loaded loads
  have form : ∀ {j u x}, formed j u x → Formed s j u x := fun ⟨bounds, format, rows⟩ => ⟨bounds, format, rows⟩
  have able : ∀ {j u x}, good j u x → Loadable s j u x := fun ⟨f, granted, whole⟩ => ⟨form f, granted, whole⟩
  have loads_of : ∀ {c u x}, x.pos < 16 → exec c s = .next (s.loadTile l u x) → loads c u x := by
    intro c u x hpos hc
    have does := load_does off hl hpos hc
    refine ⟨fun g => ⟨fun ht => ?_, fun ht => does.waits (able g) ht⟩, does.bounds, does.format, fun r f refused => does.refused r (form f) refused,
      fun f granted ht bad => does.poisoned (form f) granted ht bad⟩
    obtain ⟨only, y, next, landed, others, onlyY⟩ := does.moves (able g) ht
    exact ⟨only, y, next, ⟨landed.rows, landed.zeros, landed.scales, landed.others, landed.bench⟩, others, onlyY⟩
  have place : ∀ {op u x}, s.ready? l 0 op = some (u, x) → x.pos < 16 := fun h => by
    rw [(place_and_op_of_ready h).1]
    decide
  refine ⟨fun u x h => loads_of (place h) ?_, fun u x h => ?_⟩
  · show Host.Outcome.next (s.opLd l) = _
    rw [State.opLd, h]
  · intro g
    have next : exec (.ldb l) s = .next (s.opLdb l) := rfl
    refine ⟨fun out => ?_, fun inside folded => loads_of (place h) (next.trans (congrArg _ (opLdb_folded h inside folded))), fun inside flat => ?_⟩
    · exact ⟨_, next.trans (congrArg _ (opLdb_outside h out)), streamError_stops s _ _ hl (place h) (by decide)⟩
    · have hall := opLdb_hall h inside flat
      refine ⟨fun ⟨j, hj, waits⟩ => ?_, fun j0 js v0 z0 members first ht all => ?_⟩
      · rw [next, hall, if_neg]
        intro every
        have ready := List.all_eq_true.1 every j hj
        rw [waits] at ready
        cases ready
      · have joins : ∀ j ∈ j0 :: js, Joins s g (s.tileSpans j0 v0 z0) j := fun j hj => by
          obtain ⟨v, z, starts, able', same⟩ := all j (members ▸ hj)
          obtain ⟨formed', granted, -⟩ := able able'
          exact ⟨v, z, starts, formed', granted, same⟩
        have every : (s.hallMembers g l).all (fun j => (s.ldbReady g j).isSome) = true := List.all_eq_true.2 fun j hj => by
          obtain ⟨v, z, starts, -⟩ := joins j (members ▸ hj)
          rw [starts]
          rfl
        have whole : ∀ p ∈ slotTile s j0 v0 z0, Whole s p.1 p.2 := by
          obtain ⟨v, z, starts, able', -⟩ := all j0 (members ▸ List.mem_cons_self)
          obtain ⟨rfl, rfl⟩ := Prod.mk.inj (Option.some.inj (starts.symm.trans first))
          exact (able able').whole
        obtain ⟨land, rest, only⟩ := broadcast_loads off (members ▸ hallMembers_nodup s g l) first ht joins whole
        refine ⟨_, next.trans (congrArg _ (hall.trans (if_pos every))), ?_, ?_, ?_⟩
        all_goals rw [members]
        · intro j hj v z starts
          obtain ⟨v', z', starts', formed', -, same⟩ := joins j hj
          obtain ⟨rfl, rfl⟩ := Prod.mk.inj (Option.some.inj (starts'.symm.trans starts))
          have landed := loaded_of_lands (land j hj) starts formed' same
          exact ⟨landed.rows, landed.zeros, landed.scales, landed.others, landed.bench⟩
        · exact rest
        · exact only

end Sys2Proof.Proofs.Mill
end

section
/-! PROOFS. Writes of whole words of memory: the bytes of a span are replaced, with no injection armed and no word read first (R449, R452 to
R455, R475, R480, R528). -/

open Sys2Proof Sys2Proof.Machine

namespace Sys2Proof.Proofs.Mill

/-! ### Spans of whole cells -/

/-- A span of whole cells in one kind of memory, as a guild grants it. -/
structure CellSpan (a n : Nat) : Prop where
  start : a % 256 = 0
  length : n % 256 = 0
  some : 0 < n
  kind : a + n ≤ hbmEnd ∨ hbmEnd ≤ a

theorem kind_of_mapped {s : State} {a n : Nat} (h : s.mapped a n = true) : a + n ≤ hbmEnd ∨ hbmEnd ≤ a := by
  by_cases hbm : a < hbmEnd
  · have target : targetOf a = some (2 + a / stackSize) := if_pos hbm
    rw [State.mapped, target] at h
    dsimp only at h
    rw [if_neg (Nat.not_lt.2 (Nat.le_add_right _ _)), Bool.and_eq_true, decide_eq_true_eq] at h
    have stack : a / stackSize < 8 := by
      simp only [hbmEnd, stackSize] at hbm ⊢
      omega
    have bound : (2 + a / stackSize - 1) * stackSize ≤ 8 * stackSize := Nat.mul_le_mul_right _ (by generalize a / stackSize = i at stack; omega)
    exact .inl (h.1.trans (bound.trans (by decide)))
  · exact .inr (by omega)

theorem mapped_of_granted {s : State} {m : GMaster} {acc : GAcc} {a n : Nat} (h : s.granted m acc a n = true) : s.mapped a n = true := by
  unfold State.granted at h
  split at h
  · cases h
  · rename_i able
    have grantable : s.grantable a n = true := by simpa using able
    exact (Bool.and_eq_true_iff.1 grantable).1

/-- The words of a span of whole cells lie in it, and cover it. -/
theorem words_of_cellSpan {a n : Nat} (h : CellSpan a n) :
    (∀ w ∈ wordsOf a n, a ≤ w ∧ w + wordSize w ≤ a + n) ∧ ∀ j, a ≤ j → j < a + n → ∃ w ∈ wordsOf a n, w ≤ j ∧ j < w + wordSize w := by
  obtain ⟨start, length, some', kind⟩ := h
  have same : ∀ j, a ≤ j → j < a + n → wordSize j = wordSize a := fun j h1 h2 => by
    unfold wordSize
    rcases kind with e | e
    · rw [if_pos (by omega), if_pos (by omega)]
    · rw [if_neg (by omega), if_neg (by omega)]
  obtain ⟨W, hW, size⟩ : ∃ W, wordSize a = W ∧ (W = 32 ∨ W = 64) := ⟨_, rfl, by unfold wordSize; split <;> simp⟩
  have words : wordsOf a n = (List.range (n / W)).map (fun i => a + i * W) := by
    rw [wordsOf, if_neg (by omega), wordBase, wordBase, same (a + n - 1) (by omega) (by omega), hW]
    rcases size with rfl | rfl
    · rw [show a / 32 * 32 = a by omega, show ((a + n - 1) / 32 * 32 - a) / 32 + 1 = n / 32 by omega]
    · rw [show a / 64 * 64 = a by omega, show ((a + n - 1) / 64 * 64 - a) / 64 + 1 = n / 64 by omega]
  rw [words]
  have inside : ∀ i < n / W, a + i * W + W ≤ a + n := fun i hi => by
    rcases size with rfl | rfl <;> omega
  constructor
  · intro w hw
    obtain ⟨i, hi, rfl⟩ := List.mem_map.1 hw
    have fits := inside i (List.mem_range.1 hi)
    rw [same _ (by omega) (by omega), hW]
    exact ⟨by omega, fits⟩
  · intro j h1 h2
    have hi : (j - a) / W < n / W := by rcases size with rfl | rfl <;> omega
    have fits := inside _ hi
    refine ⟨_, List.mem_map.2 ⟨_, List.mem_range.2 hi, rfl⟩, ?_⟩
    rw [same _ (by omega) (by rcases size with rfl | rfl <;> omega), hW]
    rcases size with rfl | rfl <;> omega

/-! ### Words -/

section
variable {s : State} (off : s.bit FLT_INJ_LEFT_ARMED = false)
include off

theorem injectWord_unarmed (w : Nat) : s.injectWord w = s := by
  unfold State.injectWord
  simp [takeInj_unarmed off]

/-- A word that a write covers is replaced whole. -/
theorem writeWord_whole (m : Master) {a w : Nat} {bs : List Byte} (h : a ≤ w ∧ w + wordSize w ≤ a + bs.length) :
    s.writeWord m a bs w = (true, (s.clearErr w).setBytes w ((bs.drop (w - a)).take (wordSize w))) := by
  have lo : max a w = w := by omega
  have hi : min (a + bs.length) (w + wordSize w) = w + wordSize w := by omega
  have written : ((s.clearErr w).setBytes w ((bs.drop (w - a)).take (wordSize w))).bit FLT_INJ_LEFT_ARMED = false := off
  simp only [State.writeWord, lo, hi, Nat.add_sub_cancel_left, if_true, injectWord_unarmed written]

end

/-- The bytes of a list of words of a write are replaced, and no other. -/
theorem writeWords_whole (m : Master) {a : Nat} {bs : List Byte} (ws : List Nat) (s : State) (off : s.bit FLT_INJ_LEFT_ARMED = false)
    (h : ∀ w ∈ ws, a ≤ w ∧ w + wordSize w ≤ a + bs.length) :
    Only [.mem, .errs] s (s.writeWords m a bs ws).2 ∧
      (∀ j, (∃ w ∈ ws, w ≤ j ∧ j < w + wordSize w) → bs[j - a]? = some ((s.writeWords m a bs ws).2.byteAt j)) ∧
      ∀ j, (∀ w ∈ ws, ¬(w ≤ j ∧ j < w + wordSize w)) → (s.writeWords m a bs ws).2.byteAt j = s.byteAt j := by
  induction ws generalizing s with
  | nil => exact ⟨Only.rfl, by simp, fun _ _ => rfl⟩
  | cons w ws ih =>
    have here := h w List.mem_cons_self
    have step : (s.writeWords m a bs (w :: ws)).2 =
        (((s.clearErr w).setBytes w ((bs.drop (w - a)).take (wordSize w))).writeWords m a bs ws).2 := by
      rw [State.writeWords, writeWord_whole off m here]
    rw [step]
    generalize hp : (bs.drop (w - a)).take (wordSize w) = part
    have size : part.length = wordSize w := by
      rw [← hp, List.length_take, List.length_drop]
      omega
    obtain ⟨only, ins, out⟩ := ih ((s.clearErr w).setBytes w part) off fun v hv => h v (List.mem_cons_of_mem _ hv)
    refine ⟨((s.only_clearErr w).comp (State.only_setBytes _ w part) (by simp) (by simp)).trans only, fun j hj => ?_, fun j hj => ?_⟩
    · by_cases later : ∃ v ∈ ws, v ≤ j ∧ j < v + wordSize v
      · exact ins j later
      · have now : w ≤ j ∧ j < w + wordSize w := by
          obtain ⟨v, hv, e⟩ := hj
          rcases List.mem_cons.1 hv with rfl | hv
          · exact e
          · exact absurd ⟨v, hv, e⟩ later
        rw [out j fun v hv e => later ⟨v, hv, e⟩]
        obtain ⟨i, rfl⟩ := Nat.exists_eq_add_of_le now.1
        have hi : i < part.length := by omega
        rw [State.byteAt_setBytes_in _ w i part hi, ← List.getElem?_eq_getElem hi, ← hp, List.getElem?_take_of_lt (by omega), List.getElem?_drop]
        congr 1
        omega
    · rw [out j fun v hv => hj v (List.mem_cons_of_mem _ hv), State.byteAt_setBytes_out]
      · rfl
      · have := hj w List.mem_cons_self
        omega

/-! ### Spans -/

/-- What a write of `bs` at `a` leaves. -/
structure SpanWritten (a : Nat) (bs : List Byte) (s t : State) : Prop where
  only : Only [.mem, .errs, .alive] s t
  step : ∀ k, InStep s k → InStep t k
  inside : ∀ j, a ≤ j → j < a + bs.length → bs[j - a]? = some (t.byteAt j)
  outside : ∀ j, (j < a ∨ a + bs.length ≤ j) → t.byteAt j = s.byteAt j

theorem only_newChecks (s : State) (a n : Nat) : Only [] s (s.newChecks a n) := by
  intro p _
  cases p <;> simp [Part.same, State.newChecks, State.word, State.byteAt]

theorem memWrite_whole (m : Master) {s : State} {a : Nat} {bs : List Byte} (off : s.bit FLT_INJ_LEFT_ARMED = false)
    (span : CellSpan a bs.length) (step : ∀ w ∈ wordsOf a bs.length, w < hbmEnd → InStep s (5 * groupOf w + streamOf m)) :
    SpanWritten a bs s (s.memWrite m a bs).2 := by
  obtain ⟨within, cover⟩ := words_of_cellSpan span
  have counted := accesses_count m (wordsOf a bs.length) s off step
  unfold State.memWrite
  generalize (wordsOf a bs.length).foldl (fun s w => s.groupAccess m w) s = t at counted
  have checks := only_newChecks t a bs.length
  have kept : Only [.alive] s (t.newChecks a bs.length) := counted.only.trans (checks.mono (by simp))
  obtain ⟨only, ins, out⟩ := writeWords_whole m (wordsOf a bs.length) (t.newChecks a bs.length) ((bit_of_only kept (by decide) _).trans off) within
  refine ⟨kept.comp only (by simp) (by simp), fun k hk => ?_, fun j h1 h2 => ins j (cover j h1 h2), fun j hj => ?_⟩
  · obtain ⟨seq, alive⟩ := only .alive (by decide)
    rw [InStep, seq, alive]
    exact counted.step k hk
  · rw [out j fun w hw e => by
      have := within w hw
      omega]
    exact kept .mem (by decide) j

theorem storeSpans_cons (s : State) (l : Nat) (w : Nat × List Byte) (ws : List (Nat × List Byte)) :
    s.storeSpans l (w :: ws) = (s.memWrite (mBench l) w.1 w.2).2.storeSpans l ws := rfl

/-- A write that may be made: whole cells of one kind of memory, whose groups are in step. -/
structure MayWrite (s : State) (m : Master) (w : Nat × List Byte) : Prop where
  span : CellSpan w.1 w.2.length
  step : ∀ v ∈ wordsOf w.1 w.2.length, v < hbmEnd → InStep s (5 * groupOf v + streamOf m)

/-- A byte lies in a write. -/
def Covers (w : Nat × List Byte) (j : Nat) : Prop := w.1 ≤ j ∧ j < w.1 + w.2.length

theorem storeSpans_writes (l : Nat) (ws : List (Nat × List Byte)) (s : State) (off : s.bit FLT_INJ_LEFT_ARMED = false)
    (may : ∀ w ∈ ws, MayWrite s (mBench l) w) :
    Only [.mem, .errs, .alive] s (s.storeSpans l ws) ∧ (∀ k, InStep s k → InStep (s.storeSpans l ws) k) ∧
      (∀ j, (∀ w ∈ ws, ¬Covers w j) → (s.storeSpans l ws).byteAt j = s.byteAt j) ∧
      ∀ j v, (∃ w ∈ ws, Covers w j) → (∀ w ∈ ws, Covers w j → w.2[j - w.1]? = some v) → (s.storeSpans l ws).byteAt j = v := by
  induction ws generalizing s with
  | nil => exact ⟨Only.rfl, fun _ h => h, fun _ _ => rfl, by simp⟩
  | cons w ws ih =>
    obtain ⟨span, step⟩ := may w List.mem_cons_self
    obtain ⟨only, steps, inside, outside⟩ := memWrite_whole (mBench l) off span step
    rw [storeSpans_cons]
    generalize (s.memWrite (mBench l) w.1 w.2).2 = t at only steps inside outside
    obtain ⟨onlyR, stepsR, outR, inR⟩ := ih t ((bit_of_only only (by decide) _).trans off) fun v hv => by
      obtain ⟨span', step'⟩ := may v (List.mem_cons_of_mem _ hv)
      exact ⟨span', fun x hx hbm => steps _ (step' x hx hbm)⟩
    refine ⟨only.trans onlyR, fun k hk => stepsR k (steps k hk), fun j hj => ?_, fun j v some' same => ?_⟩
    · rw [outR j fun v hv => hj v (List.mem_cons_of_mem _ hv), outside]
      have := hj w List.mem_cons_self
      unfold Covers at this
      omega
    · by_cases later : ∃ x ∈ ws, Covers x j
      · exact inR j v later fun x hx => same x (List.mem_cons_of_mem _ hx)
      · have now : Covers w j := by
          obtain ⟨x, hx, e⟩ := some'
          rcases List.mem_cons.1 hx with rfl | hx
          · exact e
          · exact absurd ⟨x, hx, e⟩ later
        rw [outR j fun x hx e => later ⟨x, hx, e⟩]
        have value := inside j now.1 now.2
        rw [same w List.mem_cons_self now] at value
        exact (Option.some.inj value).symm

end Sys2Proof.Proofs.Mill
end

section
/-! PROOFS. ST: the bytes of a tile, span by span, what refuses a store, and the statement about it (R165, R184, R185, R188, R189, R203, R214). -/

open Sys2Proof Sys2Proof.Machine Sys2Proof.Proofs.Casting Sys2Proof.Proofs.Grid Sys2Proof.Proofs.Numbers

namespace Sys2Proof.Proofs.Mill

/-! ### The bytes of an ST -/

theorem bytes_getElem? (b : Bench) {a n i : Nat} (h : i < n) : (b.bytes a n)[i]? = some (b.byte (a + i)) := by
  induction n generalizing a i with
  | zero => omega
  | succ n ih =>
    cases i with
    | zero => rfl
    | succ i => rw [Bench.bytes, List.getElem?_cons_succ, ih (by omega), Nat.add_assoc, Nat.add_comm 1]

/-- Rows of one length are cut one after another. -/
theorem cutSpans_rows (b : Bench) (f : Nat → Nat) (src k : Nat) (n m : Nat) :
    cutSpans ((List.range' m n).map (fun i => (f i, k))) (b.bytes (src + m * k) (n * k)) =
      (List.range' m n).map (fun i => (f i, b.bytes (src + i * k) k)) := by
  induction n generalizing m with
  | zero => rfl
  | succ n ih =>
    have bytes : b.bytes (src + m * k) ((n + 1) * k) = b.bytes (src + m * k) k ++ b.bytes (src + (m + 1) * k) (n * k) := by
      rw [Nat.succ_mul, Nat.add_comm (n * k), bytes_add, Nat.succ_mul, Nat.add_assoc src]
    rw [List.range'_succ, List.map_cons, List.map_cons, cutSpans, bytes, List.take_left' (bytes_length b _ k), List.drop_left' (bytes_length b _ k), ih]

section
variable (b : Bench) (d : Desc) (ix cell : Nat)

/-- The writes of the dense tile, and of its scale cells. -/
def dataWrites : List (Nat × List Byte) := cutSpans (d.dataSpans ix) (b.bytes (256 * cell) (d.rows * d.rb))
def scaleWrites : List (Nat × List Byte) := cutSpans (d.scaleSpans ix) (b.bytes (256 * (cell + d.tileCells)) (256 * d.scaleCells))

theorem stWrites_eq : stWrites b d ix cell = dataWrites b d ix cell ++ scaleWrites b d ix cell := rfl

theorem dataWrites_dense (h : d.stride = d.rb) :
    dataWrites b d ix cell = [(d.base + ix * d.step, b.bytes (256 * cell) (d.rows * d.rb))] := by
  rw [dataWrites, Desc.dataSpans, if_pos h, cutSpans, List.take_of_length_le (bytes_length b _ _).le]
  rfl

theorem dataWrites_rows (h : d.stride ≠ d.rb) : dataWrites b d ix cell =
    (List.range d.rows).map (fun r => (d.base + ix * d.step + r * d.stride, b.bytes (256 * cell + r * d.rb) d.rb)) := by
  have cut := cutSpans_rows b (fun r => d.base + ix * d.step + r * d.stride) (256 * cell) d.rb d.rows 0
  rw [Nat.zero_mul, Nat.add_zero, ← List.range_eq_range'] at cut
  rw [dataWrites, Desc.dataSpans, if_neg h]
  exact cut

theorem scaleWrites_none (h : sdDir d.sdesc = 0) : scaleWrites b d ix cell = [] := by
  rw [scaleWrites, Desc.scaleSpans, if_pos h]
  rfl

theorem scaleWrites_some (h : sdDir d.sdesc ≠ 0) :
    scaleWrites b d ix cell = [(d.sbase + ix * d.step, b.bytes (256 * (cell + d.tileCells)) (256 * d.scaleCells))] := by
  rw [scaleWrites, Desc.scaleSpans, if_neg h, cutSpans, List.take_of_length_le (bytes_length b _ _).le]
  rfl

/-- The writes are the spans, with bytes. -/
theorem spans_of_dataWrites : (dataWrites b d ix cell).map (fun w => (w.1, w.2.length)) = d.dataSpans ix := by
  by_cases h : d.stride = d.rb
  · rw [dataWrites_dense b d ix cell h, Desc.dataSpans, if_pos h, List.map_singleton, bytes_length]
  · rw [dataWrites_rows b d ix cell h, Desc.dataSpans, if_neg h, List.map_map]
    exact List.map_congr_left fun r _ => by simp

theorem spans_of_scaleWrites : (scaleWrites b d ix cell).map (fun w => (w.1, w.2.length)) = d.scaleSpans ix := by
  by_cases h : sdDir d.sdesc = 0
  · rw [scaleWrites_none b d ix cell h, Desc.scaleSpans, if_pos h]
    rfl
  · rw [scaleWrites_some b d ix cell h, Desc.scaleSpans, if_neg h, List.map_singleton, bytes_length]

theorem spans_of_stWrites : (stWrites b d ix cell).map (fun w => (w.1, w.2.length)) = d.spans ix := by
  rw [stWrites_eq, List.map_append, spans_of_dataWrites, spans_of_scaleWrites, Desc.spans]

/-- A byte of a row is in a write of the dense tile, and every such write that it is in holds it. -/
theorem dataWrites_byte (apart : d.rb ≤ d.stride) {r i : Nat} (hr : r < d.rows) (hi : i < d.rb) :
    (∃ w ∈ dataWrites b d ix cell, Covers w (d.base + ix * d.step + r * d.stride + i)) ∧
      ∀ w ∈ dataWrites b d ix cell, Covers w (d.base + ix * d.step + r * d.stride + i) →
        w.2[d.base + ix * d.step + r * d.stride + i - w.1]? = some (b.byte (256 * cell + r * d.rb + i)) := by
  by_cases h : d.stride = d.rb
  · have inside : r * d.rb + i < d.rows * d.rb := calc
      r * d.rb + i < (r + 1) * d.rb := by rw [Nat.succ_mul]; omega
      _ ≤ d.rows * d.rb := Nat.mul_le_mul_right _ hr
    rw [dataWrites_dense b d ix cell h, h]
    refine ⟨⟨_, List.mem_singleton_self _, ⟨by omega, by rw [bytes_length]; omega⟩⟩, fun w hw _ => ?_⟩
    rw [List.mem_singleton.1 hw, show d.base + ix * d.step + r * d.rb + i - (d.base + ix * d.step) = r * d.rb + i by omega,
      bytes_getElem? b inside, Nat.add_assoc]
  · rw [dataWrites_rows b d ix cell h]
    refine ⟨⟨_, List.mem_map.2 ⟨r, List.mem_range.2 hr, rfl⟩, ⟨by omega, by rw [bytes_length]; omega⟩⟩, fun w hw covers => ?_⟩
    obtain ⟨q, -, rfl⟩ := List.mem_map.1 hw
    obtain ⟨low, high⟩ := covers
    rw [bytes_length] at high
    have row : q = r := by
      rcases Nat.lt_trichotomy q r with before | same | after
      · have next : (q + 1) * d.stride ≤ r * d.stride := Nat.mul_le_mul_right _ before
        rw [Nat.succ_mul] at next
        omega
      · exact same
      · have next : (r + 1) * d.stride ≤ q * d.stride := Nat.mul_le_mul_right _ after
        rw [Nat.succ_mul] at next
        omega
    subst row
    rw [Nat.add_sub_cancel_left, bytes_getElem? b hi]

end

/-! ### What refuses a store -/

theorem cellSpan_of_spansOk {l : List (Nat × Nat)} (h : spansOk l = true) {p : Nat × Nat} (hp : p ∈ l) (kind : p.1 + p.2 ≤ hbmEnd ∨ hbmEnd ≤ p.1) :
    CellSpan p.1 p.2 := by
  have all := List.all_eq_true.1 h p hp
  simp only [Bool.and_eq_true, beq_iff_eq, decide_eq_true_eq] at all
  obtain ⟨⟨⟨start, length⟩, some'⟩, -⟩ := all
  exact ⟨start, length, some', kind⟩

theorem granted_of_refusedSpan {s : State} {m : GMaster} {acc : GAcc} {l : List (Nat × Nat)} (h : s.refusedSpan m acc l = none) {p : Nat × Nat}
    (hp : p ∈ l) : s.granted m acc p.1 p.2 = true := by
  have none' := List.find?_eq_none.1 h p hp
  simpa using none'

section
variable {s : State} {l : Nat} {u : Bundle} {x : Slot}

/-- The spans of a slot that nothing refuses are whole cells of one kind of memory. -/
theorem cellSpan_of_tile (ok : tileBad (s.kimg (s.bench l)) u.regs x.word = false) {m : GMaster} {acc : GAcc}
    (granted : s.refusedSpan m acc (slotTile s l u x) = none) {p : Nat × Nat} (hp : p ∈ slotTile s l u x) : CellSpan p.1 p.2 := by
  simp only [tileBad, Bool.or_eq_false_iff, Bool.not_eq_false'] at ok
  obtain ⟨⟨-, spans⟩, -⟩ := ok
  exact cellSpan_of_spansOk spans hp (kind_of_mapped (mapped_of_granted (granted_of_refusedSpan granted hp)))

/-- The writes of the slot. -/
def tileWrites (s : State) (l : Nat) (u : Bundle) (x : Slot) : List (Nat × List Byte) :=
  stWrites (s.bench l) (tileDesc s l x) (tileIndex u x) (bitsOf x.word 16 10)

variable (h : s.ready? l 1 0 = some (u, x))
include h

theorem opSt_bounds (bad : tileBad (s.kimg (s.bench l)) u.regs x.word = true) : s.opSt l = s.streamError l u.id u.pc x.pos 3 := by
  rw [State.opSt, h]
  exact if_pos bad

variable (ok : tileBad (s.kimg (s.bench l)) u.regs x.word = false)
include ok

theorem opSt_format (bad : Fmt.ofCode (tileDesc s l x).fmt = none) : s.opSt l = s.streamError l u.id u.pc x.pos 2 := by
  rw [State.opSt, h]
  exact (if_neg (by rw [ok]; decide)).trans (if_pos (by rw [Option.isNone_iff_eq_none]; exact bad))

variable (format : (Fmt.ofCode (tileDesc s l x).fmt).isSome = true)
include format

theorem opSt_formed : s.opSt l = match s.refusedSpan (gBench l) .w (slotTile s l u x) with
    | some r => (s.deny (gBench l) .w r.1 r.2).streamError l u.id u.pc x.pos 9 3 r.1
    | none =>
      if (s.bench l).bad (256 * bitsOf x.word 16 10) (256 * ((tileDesc s l x).tileCells + (tileDesc s l x).scaleCells)) then
        s.streamError l u.id u.pc x.pos 10 0
      else
        match slotTakes s l u x with
        | (false, s) => s
        | (true, t) =>
          match u.regs.rel with
          | some rel => (t.markSlot l u.id x.pos .performed).hold 0 l rel (.store (tileWrites s l u x) u.id x.pos)
          | none => (t.markSlot l u.id x.pos .performed).storeSpans l (tileWrites s l u x) := by
  have some' : ¬(Fmt.ofCode (tileDesc s l x).fmt).isNone = true := by
    rw [← Option.not_isSome, format]
    decide
  rw [State.opSt, h]
  exact (if_neg (by rw [ok]; decide)).trans (if_neg some')

end

/-! ### What a store leaves -/

theorem benchIs_before {l : Nat} {b : Bench} {s t y : State} (h : BenchIs l b t y) (same : ∀ j, t.bench j = s.bench j) : BenchIs l b s y :=
  ⟨h.1, fun j hj => (h.2 j hj).trans (same j)⟩

theorem hold_tg (s : State) (kind unit rel : Nat) (act : GateAct) :
    (s.hold kind unit rel act).tg = { s.tg with gates := s.tg.gates ++ [⟨kind, unit, rel, s.now, act⟩] } := rfl

theorem storeSpans_append (s : State) (l : Nat) (ws vs : List (Nat × List Byte)) : s.storeSpans l (ws ++ vs) = (s.storeSpans l ws).storeSpans l vs :=
  List.foldl_append

/-- Memory and the Bench after the writes of a slot: `s` is the node before, and `t` once its cells are taken. -/
structure Stored (s t : State) (l : Nat) (u : Bundle) (x : Slot) (y : State) : Prop where
  bench : BenchIs l ((s.bench l).mark u.id x.pos .performed) s y
  rows : (tileDesc s l x).rb ≤ (tileDesc s l x).stride → ∀ r i, r < (tileDesc s l x).rows → i < (tileDesc s l x).rb →
    (∀ p ∈ (tileDesc s l x).scaleSpans (tileIndex u x),
      (tileDesc s l x).base + tileIndex u x * (tileDesc s l x).step + r * (tileDesc s l x).stride + i < p.1 ∨
        p.1 + p.2 ≤ (tileDesc s l x).base + tileIndex u x * (tileDesc s l x).step + r * (tileDesc s l x).stride + i) →
    y.byteAt ((tileDesc s l x).base + tileIndex u x * (tileDesc s l x).step + r * (tileDesc s l x).stride + i) =
      (s.bench l).byte (256 * bitsOf x.word 16 10 + r * (tileDesc s l x).rb + i)
  scales : sdDir (tileDesc s l x).sdesc ≠ 0 → ∀ i, i < 256 * (tileDesc s l x).scaleCells →
    y.byteAt ((tileDesc s l x).sbase + tileIndex u x * (tileDesc s l x).step + i) =
      (s.bench l).byte (256 * bitsOf x.word 16 10 + 256 * (tileDesc s l x).tileCells + i)
  others : ∀ a, (∀ p ∈ slotTile s l u x, a < p.1 ∨ p.1 + p.2 ≤ a) → y.byteAt a = s.byteAt a
  only : Only [.benches, .mem, .errs, .alive] t y

section
variable {s : State} {l : Nat} {u : Bundle} {x : Slot}

/-- A write of the slot fills a span of its tile. -/
theorem span_of_slotWrites {w : Nat × List Byte} (hw : w ∈ tileWrites s l u x) : (w.1, w.2.length) ∈ slotTile s l u x := by
  rw [slotTile, ← spans_of_stWrites (s.bench l) (tileDesc s l x) (tileIndex u x) (bitsOf x.word 16 10)]
  exact List.mem_map_of_mem hw

/-- The writes of a slot that nothing refuses may be made once its cells are taken. -/
theorem slotWrites_may {t : State} (ok : tileBad (s.kimg (s.bench l)) u.regs x.word = false)
    (granted : s.refusedSpan (gBench l) .w (slotTile s l u x) = none)
    (step : ∀ p ∈ slotTile s l u x, ∀ w c, c < 5 → w < hbmEnd → p.1 < w + 64 → w < p.1 + p.2 → InStep s (5 * groupOf w + c))
    {parts : List Part} (only : Only parts s t) (ha : .alive ∉ parts) : ∀ w ∈ tileWrites s l u x, MayWrite t (mBench l) w := by
  intro w hw
  have span := span_of_slotWrites hw
  refine ⟨cellSpan_of_tile ok granted span, fun v hv hbm => ?_⟩
  obtain ⟨low, high⟩ := bounds_of_mem_wordsOf hv
  obtain ⟨seq, alive⟩ := only .alive ha
  rw [InStep, seq, alive]
  exact step _ span v _ (streamOf_lt _) hbm low high

theorem storeSpans_stores {t : State} (off : s.bit FLT_INJ_LEFT_ARMED = false) (taken : CellsTaken s t)
    (may : ∀ w ∈ tileWrites s l u x, MayWrite (t.markSlot l u.id x.pos .performed) (mBench l) w) :
    Stored s t l u x ((t.markSlot l u.id x.pos .performed).storeSpans l (tileWrites s l u x)) := by
  have benches : ∀ j, t.bench j = s.bench j := fun j => by
    have same : t.benches = s.benches := taken.only .benches (by decide)
    rw [State.bench, same, State.bench]
  obtain ⟨marked, onlyMark⟩ := becomes_markSlot (s := t) (l := l) u.id x.pos .performed
  rw [benches] at marked
  generalize t.markSlot l u.id x.pos .performed = m at marked onlyMark may
  have onlyM : Only [.benches, .fab, .mill] s m := taken.only.comp onlyMark (by simp) (by simp)
  have offM : m.bit FLT_INJ_LEFT_ARMED = false := (bit_of_only onlyM (by decide) _).trans off
  obtain ⟨only, -, out, ins⟩ := storeSpans_writes l (tileWrites s l u x) m offM may
  have parts : tileWrites s l u x = dataWrites (s.bench l) (tileDesc s l x) (tileIndex u x) (bitsOf x.word 16 10) ++
    scaleWrites (s.bench l) (tileDesc s l x) (tileIndex u x) (bitsOf x.word 16 10) := rfl
  refine ⟨?_, fun apart r i hr hi clear => ?_, fun some' i hi => ?_, fun a ha => ?_, onlyMark.comp only (by simp) (by simp)⟩
  · exact benchIs_before (benchIs_then_only marked only (by decide)) benches
  · obtain ⟨⟨w, hw, covers⟩, value⟩ := dataWrites_byte (s.bench l) (tileDesc s l x) (tileIndex u x) (bitsOf x.word 16 10) apart hr hi
    refine ins _ _ ⟨w, parts ▸ List.mem_append_left _ hw, covers⟩ fun v hv at' => ?_
    rcases List.mem_append.1 (parts ▸ hv) with data | scale
    · exact value v data at'
    · have span := clear (v.1, v.2.length) (spans_of_scaleWrites (s.bench l) (tileDesc s l x) (tileIndex u x) (bitsOf x.word 16 10) ▸
        List.mem_map_of_mem scale)
      obtain ⟨low, high⟩ := at'
      omega
  · rw [scaleWrites_some _ _ _ _ some'] at parts
    rw [parts] at may ⊢
    obtain ⟨onlyD, stepD, -, -⟩ := storeSpans_writes l _ m offM fun w hw => may w (List.mem_append_left _ hw)
    rw [storeSpans_append]
    generalize m.storeSpans l (dataWrites (s.bench l) (tileDesc s l x) (tileIndex u x) (bitsOf x.word 16 10)) = z at onlyD stepD
    obtain ⟨-, -, -, insZ⟩ := storeSpans_writes l [_] z ((bit_of_only onlyD (by decide) _).trans offM) fun w hw => by
      obtain ⟨span, step⟩ := may w (List.mem_append_right _ hw)
      exact ⟨span, fun v hv hbm => stepD _ (step v hv hbm)⟩
    refine insZ _ _ ⟨_, List.mem_singleton_self _, ⟨Nat.le_add_right _ _, by rw [bytes_length]; omega⟩⟩ fun w hw _ => ?_
    rw [List.mem_singleton.1 hw, Nat.add_sub_cancel_left, bytes_getElem? _ hi, Nat.mul_add]
  · rw [out a fun w hw covers => ?_]
    · exact onlyM .mem (by decide) a
    · have := ha _ (span_of_slotWrites hw)
      obtain ⟨low, high⟩ := covers
      omega

end

/-- Settles O35: the checks of an ST in their order, then its writes, or its wait at the gate. -/
theorem storesWriteTheirSpans : Obligations.StoresWriteTheirSpans := by
  intro l u x s hl off h b d ix spans base src sc bad damaged takes
  have hpos : x.pos < 16 := by
    rw [(place_and_op_of_ready h).1]
    decide
  have next : exec (.st l) s = .next (s.opSt l) := rfl
  refine ⟨fun hb => ?_, fun hb hf => ?_, fun r hb hf hr => ?_, fun hb hf hr => ?_⟩
  · exact ⟨_, next.trans (congrArg _ (opSt_bounds h hb)), streamError_stops s _ _ hl hpos (by decide)⟩
  · exact ⟨_, next.trans (congrArg _ (opSt_format h hb hf)), streamError_stops s _ _ hl hpos (by decide)⟩
  · obtain ⟨count, only⟩ := deny_counts s (gBench l) .w r.1 r.2
    have formed := opSt_formed h hb hf
    rw [show s.refusedSpan (gBench l) .w (slotTile s l u x) = some r from hr] at formed
    exact ⟨_, _, next.trans (congrArg _ formed), count, only, streamError_stops _ 3 r.1 hl hpos (by decide)⟩
  · have formed := opSt_formed h hb hf
    rw [show s.refusedSpan (gBench l) .w (slotTile s l u x) = none from hr] at formed
    dsimp only at formed
    have taken : takes.1 = true → CellsTaken s takes.2 := moverTake_takes
    have whole : damaged = false → s.opSt l = match slotTakes s l u x with
        | (false, s) => s
        | (true, t) =>
          match u.regs.rel with
          | some rel => (t.markSlot l u.id x.pos .performed).hold 0 l rel (.store (tileWrites s l u x) u.id x.pos)
          | none => (t.markSlot l u.id x.pos .performed).storeSpans l (tileWrites s l u x) := fun hd => by
      rw [formed]
      exact if_neg (Bool.eq_false_iff.1 hd)
    refine ⟨fun hd => ?_, fun hd ht => ?_, fun ht => (taken ht).only, fun hd ht hrel step => ?_, fun rel hd ht hrel => ?_⟩
    · exact ⟨_, next.trans (congrArg _ (formed.trans (if_pos hd))), streamError_stops s _ _ hl hpos (by decide)⟩
    · have took : slotTakes s l u x = (false, takes.2) := Prod.ext ht rfl
      have waits := whole hd
      rw [took] at waits
      exact ⟨next.trans (congrArg _ waits), moverTake_fails ht⟩
    · have took : slotTakes s l u x = (true, takes.2) := Prod.ext ht rfl
      have stores := whole hd
      rw [took, hrel] at stores
      have marked : Only [.benches, .fab, .mill] s (takes.2.markSlot l u.id x.pos .performed) :=
        (taken ht).only.comp (only_markSlot _ _ _ _ _) (by simp) (by simp)
      have stored := storeSpans_stores off (taken ht) (slotWrites_may hb hr step marked (by decide))
      exact ⟨_, next.trans (congrArg _ stores), stored.bench, stored.rows, stored.scales, stored.others, stored.only⟩
    · have took : slotTakes s l u x = (true, takes.2) := Prod.ext ht rfl
      have holds := whole hd
      rw [took, hrel] at holds
      obtain ⟨marked, onlyMark⟩ := becomes_markSlot (s := takes.2) (l := l) u.id x.pos .performed
      have benches : ∀ j, takes.2.bench j = s.bench j := fun j => by
        have same : takes.2.benches = s.benches := (taken ht).only .benches (by decide)
        rw [State.bench, same, State.bench]
      rw [benches] at marked
      have held := benchIs_then_only marked (only_hold 0 l rel (.store (tileWrites s l u x) u.id x.pos)) (by decide)
      have only := (taken ht).only.comp onlyMark (n := [.benches, .fab, .mill]) (by simp) (by simp)
      refine ⟨_, next.trans (congrArg _ holds), benchIs_before held benches, ?_, onlyMark.comp (only_hold _ _ _ _) (by simp) (by simp)⟩
      rw [hold_tg, only .tg (by decide), (only .clock (by decide)).1]
      rfl

end Sys2Proof.Proofs.Mill
end

section
/-! PROOFS. MOVE slots: the registers that each writes, the fields of an operand register, and the feature values (R171, R178, R196). -/

open Sys2Proof Sys2Proof.Machine Sys2Proof.Proofs.Casting Sys2Proof.Proofs.Numbers Sys2Proof.Proofs.Mill

namespace Sys2Proof.Proofs.Streams

/-! ### Fields (R178) -/

theorem bitsOf_lt (w : BitVec 64) (lo n : Nat) : bitsOf w lo n < 2 ^ n := Nat.mod_lt _ (Nat.two_pow_pos n)

theorem bitsOf_testBit (w : BitVec 64) (lo n i : Nat) : (bitsOf w lo n).testBit i = (decide (i < n) && w.getLsbD (lo + i)) := by
  rw [bitsOf, Nat.testBit_mod_two_pow, Nat.testBit_div_two_pow, Nat.add_comm]
  rfl

/-- A field that is replaced holds the new value, and every other bit stays. -/
theorem getLsbD_setBits (o : BitVec 64) {lo n v : Nat} (fits : lo + n ≤ 64) (hv : v < 2 ^ n) (i : Nat) :
    (setBits o lo n v).getLsbD i = if lo ≤ i ∧ i < lo + n then v.testBit (i - lo) else o.getLsbD i := by
  have high : ∀ j, n ≤ j → v.testBit j = false := fun j hj =>
    Nat.testBit_lt_two_pow (hv.trans_le (Nat.pow_le_pow_right (by decide) hj))
  simp only [setBits, BitVec.getLsbD_or, BitVec.getLsbD_and, BitVec.getLsbD_not, BitVec.getLsbD_ofNat, Nat.testBit_mul_two_pow,
    Nat.testBit_two_pow_sub_one]
  by_cases word : i < 64
  · by_cases low : lo ≤ i
    · by_cases inside : i - lo < n
      · simp [word, low, inside, show i < lo + n by omega]
      · simp [word, low, inside, show ¬i < lo + n by omega, high (i - lo) (by omega)]
    · simp [word, low]
  · have past : o.getLsbD i = false := BitVec.getLsbD_of_ge _ _ (by omega)
    simp [word, past, show ¬i < lo + n by omega]

theorem bitsOf_setBits (o : BitVec 64) {lo n v : Nat} (fits : lo + n ≤ 64) (hv : v < 2 ^ n) : bitsOf (setBits o lo n v) lo n = v := by
  apply Nat.eq_of_testBit_eq
  intro i
  rw [bitsOf_testBit, getLsbD_setBits o fits hv]
  by_cases inside : i < n
  · simp [inside]
  · simp [inside, Nat.testBit_lt_two_pow (hv.trans_le (Nat.pow_le_pow_right (by decide) (Nat.not_lt.1 inside)))]

/-- The fields that ORSET can name, with their low bits and widths, lie in the register. -/
theorem orField_spec : ∀ f ∈ [(0, 0, 10), (1, 10, 16), (2, 26, 7), (3, 33, 4), (4, 37, 8), (5, 45, 13)],
    orField f.1 = some (f.2.1, f.2.2) ∧ f.2.1 + f.2.2 ≤ 64 := by decide

theorem orField_none {x : Nat} (h : 5 < x) : orField x = none := by
  obtain ⟨k, rfl⟩ := Nat.exists_eq_add_of_le' (Nat.succ_le_of_lt h)
  rfl

/-! ### Comparisons, and the feature values (R171, R196) -/

/-- The comparison with an immediate value is one of numbers. -/
theorem cmpRel_imm (a : Word) {imm : Nat} (h : imm < 2 ^ 32) :
    cmpRel 0 a (BitVec.ofNat 32 imm) = some (decide (a.toNat = imm)) ∧ cmpRel 1 a (BitVec.ofNat 32 imm) = some (decide (a.toNat ≠ imm)) ∧
      cmpRel 2 a (BitVec.ofNat 32 imm) = some (decide (a.toNat < imm)) ∧ cmpRel 3 a (BitVec.ofNat 32 imm) = some (decide (imm ≤ a.toNat)) := by
  have value : (BitVec.ofNat 32 imm).toNat = imm := Nat.mod_eq_of_lt h
  have same : (a == BitVec.ofNat 32 imm) = decide (a.toNat = imm) := by
    rw [Bool.beq_eq_decide_eq]
    exact decide_eq_decide.2 (BitVec.toNat_eq.trans (by rw [value]))
  have below : a.ult (BitVec.ofNat 32 imm) = decide (a.toNat < imm) := by rw [BitVec.ult, value]
  refine ⟨congrArg some same, congrArg some ?_, congrArg some below, congrArg some ?_⟩
  · rw [bne, same, ← decide_not]
  · rw [below, ← decide_not, decide_eq_decide, Nat.not_lt]

theorem cmpRel_none {x : Nat} (h : 3 < x) (a b : Word) : cmpRel x a b = none := by
  obtain ⟨k, rfl⟩ := Nat.exists_eq_add_of_le' (Nat.succ_le_of_lt h)
  rfl

theorem featVal_eq_getD (l n : Nat) {i : Nat} (h : i ≤ 15) :
    featVal l n i = ([1, 1024, 1024, 768, 256, 4096, l, n, 65536, 4, 16, 16, 8, 256, 4096, 64] : List Nat).getD i 0 := by
  interval_cases i <;> rfl

/-! ### The registers that a slot writes (R196) -/

section
variable {s : State} {l op : Nat} {u : Bundle} {x : Slot} {f : Bundle → BitVec 64 → BRegs → Option BRegs}

theorem opMove_sets (h : s.ready? l 5 op = some (u, x)) {r : BRegs} (hf : f u x.word (s.bench l).regs = some r) :
    Becomes l (({ s.bench l with regs := r }).mark u.id x.pos .complete) s (s.opMove l op f) := by
  have marked := becomes_markSlot (s := s.setBench l { s.bench l with regs := r }) (l := l) u.id x.pos .complete
  rw [bench_setBench_same] at marked
  have performed : s.opMove l op f = (s.setBench l { s.bench l with regs := r }).markSlot l u.id x.pos .complete := by
    rw [State.opMove, h]
    dsimp only
    rw [hf]
  exact performed ▸ becomes_trans (becomes_setBench _) marked

theorem opMove_stops (h : s.ready? l 5 op = some (u, x)) (hf : f u x.word (s.bench l).regs = none) :
    s.opMove l op f = s.streamError l u.id u.pc x.pos 2 := by
  rw [State.opMove, h]
  dsimp only
  rw [hf]

/-- A MOVE slot sets the registers of its Bench to `r`, and is complete. -/
def MoveSets (c : Instr) (l : Nat) (u : Bundle) (x : Slot) (r : BRegs) (s : State) : Prop :=
  ∃ y, exec c s = .next y ∧ BenchIs l (({ s.bench l with regs := r }).mark u.id x.pos .complete) s y ∧ Only [.benches] s y

theorem moveSets {c : Instr} (hc : exec c s = .next (s.opMove l op f)) (h : s.ready? l 5 op = some (u, x)) {r : BRegs}
    (hf : f u x.word (s.bench l).regs = some r) : MoveSets c l u x r s := ⟨_, hc, opMove_sets h hf⟩

theorem moveStops {c : Instr} (hc : exec c s = .next (s.opMove l op f)) (h : s.ready? l 5 op = some (u, x)) (hl : l < 1024)
    (hf : f u x.word (s.bench l).regs = none) : Stops c l u x 2 s :=
  stops_of_streamError hl h (by decide) (by decide) (hc.trans (congrArg _ (opMove_stops h hf)))

/-- An index register that the slot names is written; there is none above IX7. -/
theorem moveIx_does {c : Instr} (hc : exec c s = .next (s.opMove l op f)) (h : s.ready? l 5 op = some (u, x)) (hl : l < 1024) {v : Word}
    (hf : ∀ r, f u x.word r = moveIx x.word r v) :
    if bitsOf x.word 4 4 < 8 then MoveSets c l u x { (s.bench l).regs with ix := (s.bench l).regs.ix.set (bitsOf x.word 4 4) v } s
    else Stops c l u x 2 s := by
  split
  · rename_i named
    exact moveSets hc h ((hf _).trans (if_neg (Nat.not_lt.2 (Nat.le_of_lt_succ named))))
  · rename_i above
    exact moveStops hc h hl ((hf _).trans (if_pos (Nat.lt_of_succ_le (Nat.not_lt.1 above))))

/-- ORSET writes the field that X names where the value fits it. -/
theorem orset_does (h : s.ready? l 5 7 = some (u, x)) (hl : l < 1024) {lo n : Nat} (field : orField (bitsOf x.word 12 4) = some (lo, n))
    (fits : lo + n ≤ 64) :
    if bitsOf x.word 32 32 < 2 ^ n then
      ∃ o, MoveSets (.orset l) l u x { (s.bench l).regs with or := (s.bench l).regs.or.set (bitsOf x.word 4 4) o } s ∧
        bitsOf o lo n = bitsOf x.word 32 32 ∧
        ∀ i, (i < lo ∨ lo + n ≤ i) → o.getLsbD i = ((s.bench l).regs.or.getD (bitsOf x.word 4 4) 0).getLsbD i
    else Stops (.orset l) l u x 2 s := by
  have found : orField (mvX x.word) = some (lo, n) := field
  split
  · rename_i small
    refine ⟨setBits ((s.bench l).regs.or.getD (bitsOf x.word 4 4) 0) lo n (bitsOf x.word 32 32), moveSets rfl h ?_, bitsOf_setBits _ fits small,
      fun i out => ?_⟩
    · rw [found]
      exact if_neg (Nat.not_le.2 small)
    · rw [getLsbD_setBits _ fits small, if_neg (by omega)]
  · rename_i large
    refine moveStops rfl h hl ?_
    rw [found]
    exact if_pos (Nat.not_lt.1 large)

end

/-! ### O28 -/

/-- Settles O28, each operation by the registers that its slot computes. -/
theorem moveSlotsWriteRegisters : Obligations.MoveSlotsWriteRegisters := by
  unfold Obligations.MoveSlotsWriteRegisters
  intro l op u x s hl h b r w d src X imm sets bad
  have small : imm < 2 ^ 32 := bitsOf_lt w 32 32
  refine ⟨?_, ?_, ?_, ?_, ?_, ?_, ?_, ?_, ?_, ?_⟩
  · rintro rfl
    exact moveIx_does rfl h hl fun _ => rfl
  · rintro rfl
    exact moveIx_does rfl h hl fun _ => rfl
  · rintro rfl
    exact moveIx_does rfl h hl fun _ => rfl
  · rintro rfl
    obtain ⟨eq, ne, lt, ge⟩ := cmpRel_imm src small
    have compares {v : Bool} (rel : cmpRel X src (BitVec.ofNat 32 imm) = some v) : sets (.cmpi l) { r with pf := r.pf.set d v } :=
      moveSets rfl h (congrArg (Option.map _) rel)
    exact ⟨fun hX => compares (hX ▸ eq), fun hX => compares (hX ▸ ne), fun hX => compares (hX ▸ lt), fun hX => compares (hX ▸ ge),
      fun above => moveStops rfl h hl (congrArg (Option.map _) (cmpRel_none above src _))⟩
  · rintro rfl p q
    have combines {v : Bool} (value : plogOp (imm % 4) p q = v) : sets (.plog l) { r with pf := r.pf.set d v } :=
      moveSets rfl h (congrArg (fun v => some { r with pf := r.pf.set d v }) value)
    exact ⟨fun code => combines (by rw [code]; rfl), fun code => combines (by rw [code]; rfl), fun code => combines (by rw [code]; rfl),
      fun code => combines (by rw [code]; rfl)⟩
  · rintro rfl
    exact moveSets rfl h (congrArg (fun v => some { r with pf := r.pf.set d v }) (Bool.beq_eq_decide_eq _ _))
  · rintro rfl
    split
    · rename_i inRange
      exact moveSets rfl h (if_neg fun out : imm = 0 ∨ 65536 < imm => by omega)
    · rename_i outside
      exact moveStops rfl h hl (if_pos (show imm = 0 ∨ 65536 < imm by omega))
  · rintro rfl
    refine ⟨fun f hf hX => ?_, fun above => ?_⟩
    · obtain ⟨field, fits⟩ := orField_spec f hf
      exact orset_does h hl ((congrArg orField hX).trans field) fits
    · have reserved : orField (mvX w) = none := orField_none above
      refine moveStops rfl h hl ?_
      rw [reserved]
  · rintro rfl
    exact moveSets rfl h rfl
  · rintro rfl
    split
    · rename_i named
      obtain ⟨index, register⟩ := named
      refine moveSets rfl h ((if_neg (Nat.not_lt.2 index)).trans ((if_neg (by show ¬7 < d; omega)).trans ?_))
      exact congrArg (fun v => some { r with ix := r.ix.set d (BitVec.ofNat 32 v) }) (featVal_eq_getD l s.benchN index)
    · rename_i outside
      refine moveStops rfl h hl ?_
      by_cases index : 15 < imm
      · exact if_pos index
      · exact (if_neg index).trans (if_pos (show 7 < d by omega))

end Sys2Proof.Proofs.Streams
end

section
/-! PROOFS. The physical Bench of a logical one whose state changes, and the CTRL slots (R157, R158, R199 to R205). -/

open Sys2Proof Sys2Proof.Machine Sys2Proof.Proofs.Casting Sys2Proof.Proofs.Grid Sys2Proof.Proofs.Numbers Sys2Proof.Proofs.Mill

namespace Sys2Proof.Proofs.Streams

/-! ### Placement and fold switches (R157, R158) -/

/-- Two nodes that place Benches alike: the same Casting on the same Halls. -/
structure PlacesAs (s t : State) : Prop where
  img : t.cst.img = s.cst.img
  map : t.placeMap = s.placeMap

namespace PlacesAs

variable {s t : State}

theorem physN (h : PlacesAs s t) : t.physN = s.physN := by rw [State.physN, h.map, State.physN]

theorem physOf (h : PlacesAs s t) (l : Nat) : t.physOf l = s.physOf l := by rw [State.physOf, h.physN, h.map, State.physOf]

theorem benchN (h : PlacesAs s t) : t.benchN = s.benchN := congrArg kernN h.img

theorem coHosted (h : PlacesAs s t) (l : Nat) : t.coHosted l = s.coHosted l := by rw [State.coHosted, h.physN, h.img, State.coHosted]

end PlacesAs

/-- Two nodes that place and fold alike: also the same Benches run, and the counters are equal. -/
structure FoldsAs (s t : State) : Prop extends PlacesAs s t where
  ran : t.mill.ran = s.mill.ran
  sync : ∀ c, t.rd (MIL_SYNC c) = s.rd (MIL_SYNC c)

/-- A word that neither placement nor a wait on a counter reads. -/
def FoldWord (a : Nat) : Prop := a ∉ placeWords ∧ ∀ c, (MIL_SYNC c).addr ≠ a

theorem foldWord_control {l : Nat} (h : l < 1024) : FoldWord (MIL_BCTL_HIT_SW l).addr := by
  simp only [FoldWord, placeWords, MIL_BCTL_HIT_SW, MIL_SYNC, CST_STATE_STATE, MIL_HALL_FUSE, MIL_HALL_DIS, List.mem_cons, List.not_mem_nil,
    or_false]
  exact ⟨by omega, fun c => by omega⟩

theorem placeMap_of_words {words : List Nat} {s t : State} (h : WordsOnly words s t) (out : ∀ a ∈ placeWords, a ∉ words)
    (map : t.mill.map = s.mill.map) : t.placeMap = s.placeMap := by
  have state : t.nodeState = s.nodeState := rd_of_words h (out _ (by decide))
  have halls : t.hallMap = s.hallMap := by rw [State.hallMap, h _ (out _ (by decide)), h _ (out _ (by decide)), State.hallMap]
  rw [State.placeMap, State.inForce, state, halls, map, State.placeMap, State.inForce]

theorem foldsAs_of_words {words : List Nat} {s t : State} (h : WordsOnly words s t) (out : ∀ a ∈ words, FoldWord a) (cst : t.cst = s.cst)
    (mill : t.mill = s.mill) : FoldsAs s t where
  img := congrArg CstState.img cst
  map := placeMap_of_words h (fun a place listed => (out a listed).1 place) (by rw [mill])
  ran := by rw [mill]
  sync c := rd_of_words h fun listed => (out _ listed).2 c rfl

theorem foldsAs_of_only {parts : List Part} {s t : State} (h : Only parts s t) (out : ∀ p ∈ [.regs, .cst, .mill], p ∉ parts) : FoldsAs s t := by
  have words : WordsOnly [] s t := fun a _ => h .regs (out _ (by simp)) a
  exact foldsAs_of_words words (by simp) (h .cst (out _ (by simp))) (h .mill (out _ (by simp)))

namespace FoldsAs

section
variable {s t : State} (h : FoldsAs s t)
include h

theorem resident (l : Nat) : t.resident l = s.resident l := by rw [State.resident, h.ran, h.physOf, State.resident]

theorem yields {j : Nat} (same : t.bench j = s.bench j) : t.yields j = s.yields j := by simp only [State.yields, same, h.sync]

theorem foldReady {j : Nat} (same : t.bench j = s.bench j) : t.foldReady j = s.foldReady j := by
  simp only [State.foldReady, same, h.sync]

/-- A Bench that ends folded in leaves a physical Bench that has no other to run as it is. -/
theorem foldTry_stays {l : Nat} {b : Bench} (becomes : BenchIs l b s t) (foldedIn : b.st ≠ .foldedOut)
    (alone : ∀ r, s.resident l = some r → s.foldNext r = none) : t.foldTry l = t := by
  have ready : ∀ j, t.foldReady j = true → s.foldReady j = true := fun j hj => by
    by_cases own : j = l
    · subst own
      simp [State.foldReady, becomes.1, foldedIn] at hj
    · rwa [h.foldReady (becomes.2 j own)] at hj
  refine Mill.foldTry_stays fun r runs => ?_
  have none' := alone r ((h.resident l).symm.trans runs)
  rw [State.foldNext, List.find?_eq_none] at none' ⊢
  exact fun j hosted => mt (ready j) (none' j (by rwa [h.coHosted] at hosted))

end

end FoldsAs

theorem foldsAs_of_becomes {l : Nat} {b : Bench} {s t : State} (h : Becomes l b s t) : FoldsAs s t := foldsAs_of_only h.2 (by decide)

/-- A Bench whose state changes stays in place where its physical Bench has no other to run. -/
theorem becomes_foldTry {l : Nat} {b : Bench} {s t : State} (h : Becomes l b s t) (foldedIn : b.st ≠ .foldedOut)
    (alone : ∀ r, s.resident l = some r → s.foldNext r = none) : Becomes l b s (t.foldTry l) := by
  rwa [(foldsAs_of_becomes h).foldTry_stays h.1 foldedIn alone]

/-! ### Breaks (R212) -/

/-- A Bench at a break. -/
def broken (b : Bench) : Bench := { b with st := .brk }

/-- What a break with a hit bit leaves: the Bench at the break, and the bit set. -/
structure Breaks (l : Nat) (b : Bench) (hit : Fld) (s y : State) : Prop where
  bench : BenchIs l (broken b) s y
  isSet : y.bit hit = true
  words : WordsOnly [hit.addr] s y
  only : Only [.clock, .benches, .regs] s y
  now : y.now = s.now

/-- A hit bit of a control word. -/
structure HitBit (l : Nat) (hit : Fld) : Prop where
  addr : hit.addr = (MIL_BCTL_HIT_SW l).addr
  width : hit.width = 1
  low : hit.lo < 32

/-- A Bench stops at a break where its physical Bench has no other to run. -/
theorem breaks_foldTry {l : Nat} {b : Bench} {hit : Fld} {s t : State} (hl : l < 1024) (control : HitBit l hit)
    (alone : ∀ r, s.resident l = some r → s.foldNext r = none) (stops : Breaks l b hit s t) : Breaks l b hit s (t.foldTry l) := by
  have folds : FoldsAs s t := foldsAs_of_words stops.words (fun a ha => by
    rw [List.mem_singleton.1 ha, control.addr]
    exact foldWord_control hl) (stops.only .cst (by decide)) (stops.only .mill (by decide))
  rwa [folds.foldTry_stays stops.bench (by simp [broken]) alone]

/-! ### The CTRL slots (R199 to R205) -/

section
variable {s : State} {l : Nat} {u : Bundle} {x : Slot}

/-- A slot is marked, and its Bench becomes `f` of what it was then. -/
theorem becomes_marked (id pos : Nat) (p : SlotPhase) (f : Bench → Bench) :
    Becomes l (f ((s.bench l).mark id pos p)) s ((s.markSlot l id pos p).setBench l (f ((s.markSlot l id pos p).bench l))) := by
  have marked : (s.markSlot l id pos p).bench l = (s.bench l).mark id pos p := bench_setBench_same s l _
  rw [marked]
  exact becomes_trans (becomes_markSlot id pos p) (becomes_setBench _)

theorem opNop_completes (h : s.ready? l 7 0 = some (u, x)) : Becomes l ((s.bench l).mark u.id x.pos .complete) s (s.opNop l) := by
  rw [State.opNop, h]
  exact becomes_markSlot _ _ _

/-- The END of a LOOP, and the count that it latches (R201). -/
def loopEnd (x : Slot) : Nat := bitsOf x.word 4 13
def loopCount (u : Bundle) (x : Slot) : Nat :=
  if bitsOf x.word 17 4 = 15 then bitsOf x.word 32 32 else ((u.regs.src (bitsOf x.word 17 4)).getD 0).toNat

/-- Whether an END lies past that of the enclosing level (R202). -/
def crossesOuter (loops : List LoopLevel) (stop : Nat) : Bool := match loops with | v :: _ => decide (v.stop < stop) | [] => false

theorem crossesOuter_iff {loops : List LoopLevel} {stop : Nat} : crossesOuter loops stop = true ↔ ∃ v vs, loops = v :: vs ∧ v.stop < stop := by
  cases loops with
  | nil => simp [crossesOuter]
  | cons v vs => simp [crossesOuter]

/-- A Bench whose innermost loop level begins at the next bundle. -/
def loopBegun (b : Bench) (u : Bundle) (x : Slot) : Bench := { b with loops := ⟨u.next, loopEnd x, loopCount u x, 0⟩ :: b.loops, pc := u.next }

/-- Outside every loop the stream goes straight on. -/
theorem loopNext_outermost {loops : List LoopLevel} (h : loops = []) (pc : Nat) : loopNext loops pc = (loops, pc) := by
  rw [h, loopNext]

/-- A Bench that goes on at an END. -/
def loopPassed (b : Bench) (x : Slot) : Bench := { b with loops := (loopNext b.loops (loopEnd x)).1, pc := (loopNext b.loops (loopEnd x)).2 }

theorem opLoop_eq (h : s.ready? l 7 1 = some (u, x)) :
    s.opLoop l = if loopEnd x < u.next ∨ crossesOuter (s.bench l).loops (loopEnd x) = true ∨ kCodeEnd (s.kimg (s.bench l)) < loopEnd x then
        s.streamError l u.id u.pc x.pos 5
      else
        let t := s.markSlot l u.id x.pos .complete
        if loopCount u x = 0 ∨ loopEnd x = u.next then t.setBench l (loopPassed (t.bench l) x)
        else if 4 ≤ (t.bench l).loops.length then t.streamError l u.id u.pc x.pos 6
        else t.setBench l (loopBegun (t.bench l) u x) := by
  rw [State.opLoop, h]
  rfl

/-- The END of a LOOP is legal (R202). -/
structure LoopLegal (s : State) (l : Nat) (u : Bundle) (x : Slot) : Prop where
  after : u.next ≤ loopEnd x
  inside : ¬∃ v vs, (s.bench l).loops = v :: vs ∧ v.stop < loopEnd x
  code : loopEnd x ≤ kCodeEnd (s.kimg (s.bench l))

theorem opLoop_stops (h : s.ready? l 7 1 = some (u, x))
    (bad : loopEnd x < u.next ∨ (∃ v vs, (s.bench l).loops = v :: vs ∧ v.stop < loopEnd x) ∨ kCodeEnd (s.kimg (s.bench l)) < loopEnd x) :
    s.opLoop l = s.streamError l u.id u.pc x.pos 5 := by
  rw [← crossesOuter_iff] at bad
  rw [opLoop_eq h, if_pos bad]

theorem opLoop_legal (h : s.ready? l 7 1 = some (u, x)) (legal : LoopLegal s l u x) :
    s.opLoop l =
      let t := s.markSlot l u.id x.pos .complete
      if loopCount u x = 0 ∨ loopEnd x = u.next then t.setBench l (loopPassed (t.bench l) x)
      else if 4 ≤ (s.bench l).loops.length then t.streamError l u.id u.pc x.pos 6
      else t.setBench l (loopBegun (t.bench l) u x) := by
  obtain ⟨after, inside, code⟩ := legal
  rw [← crossesOuter_iff] at inside
  have marked : (s.markSlot l u.id x.pos .complete).bench l = (s.bench l).mark u.id x.pos .complete := bench_setBench_same s l _
  rw [opLoop_eq h, if_neg (by simp only [not_or]; exact ⟨by omega, inside, by omega⟩)]
  simp only [marked]
  rfl

theorem opLoop_passes (h : s.ready? l 7 1 = some (u, x)) (legal : LoopLegal s l u x) (empty : loopCount u x = 0 ∨ loopEnd x = u.next) :
    Becomes l (loopPassed ((s.bench l).mark u.id x.pos .complete) x) s (s.opLoop l) := by
  rw [opLoop_legal h legal]
  dsimp only
  rw [if_pos empty]
  exact becomes_marked _ _ _ (loopPassed · x)

theorem opLoop_begins (h : s.ready? l 7 1 = some (u, x)) (legal : LoopLegal s l u x) (body : ¬(loopCount u x = 0 ∨ loopEnd x = u.next))
    (room : (s.bench l).loops.length < 4) : Becomes l (loopBegun ((s.bench l).mark u.id x.pos .complete) u x) s (s.opLoop l) := by
  rw [opLoop_legal h legal]
  dsimp only
  rw [if_neg body, if_neg (Nat.not_le.2 room)]
  exact becomes_marked _ _ _ (loopBegun · u x)

theorem opLoop_tooDeep (h : s.ready? l 7 1 = some (u, x)) (legal : LoopLegal s l u x) (body : ¬(loopCount u x = 0 ∨ loopEnd x = u.next))
    (full : 4 ≤ (s.bench l).loops.length) : s.opLoop l = (s.markSlot l u.id x.pos .complete).streamError l u.id u.pc x.pos 6 := by
  rw [opLoop_legal h legal]
  dsimp only
  rw [if_neg body, if_pos full]

/-- A Bench that has reached its SEAM bundle (R204), and one whose stream is drained (R205). -/
def seamReached (b : Bench) : Bench := { b with atSeam := true, st := match b.st with | .running => .waiting | y => y }
def halted (b : Bench) : Bench := { b with halted := true, st := match b.st with | .running | .waiting | .foldedOut => .drained | y => y }

theorem opSeam_early (h : s.ready? l 7 2 = some (u, x)) (early : ¬(s.bench l).earlierDone u.id x.pos (fun _ => true) = true) : s.opSeam l = s := by
  rw [State.opSeam, h]
  exact if_neg early

theorem opSeam_reaches (h : s.ready? l 7 2 = some (u, x)) (before : (s.bench l).earlierDone u.id x.pos (fun _ => true) = true)
    (runs : (s.bench l).st = .running) (alone : ∀ r, s.resident l = some r → s.foldNext r = none) :
    Becomes l { (s.bench l).mark u.id x.pos .performed with atSeam := true, st := .waiting } s (s.opSeam l) := by
  let t := s.markSlot l u.id x.pos .performed
  have reaches : s.opSeam l = (t.setBench l (seamReached (t.bench l))).foldTry l := by
    rw [State.opSeam, h]
    exact if_pos before
  have waits : seamReached ((s.bench l).mark u.id x.pos .performed) =
      { (s.bench l).mark u.id x.pos .performed with atSeam := true, st := .waiting } := by
    simp only [seamReached, Bench.mark, runs]
  rw [reaches, ← waits]
  exact becomes_foldTry (becomes_marked _ _ _ seamReached) (by simp [waits]) alone

theorem opHalt_early (h : s.ready? l 7 3 = some (u, x)) (early : ¬(s.bench l).earlierDone u.id x.pos (fun _ => true) = true) : s.opHalt l = s := by
  rw [State.opHalt, h]
  exact if_neg early

theorem opHalt_drains (h : s.ready? l 7 3 = some (u, x)) (before : (s.bench l).earlierDone u.id x.pos (fun _ => true) = true)
    (runs : (s.bench l).st = .running) (alone : ∀ r, s.resident l = some r → s.foldNext r = none) :
    Becomes l { (s.bench l).mark u.id x.pos .complete with halted := true, st := .drained } s (s.opHalt l) := by
  let t := s.markSlot l u.id x.pos .complete
  have halts : s.opHalt l = (t.setBench l (halted (t.bench l))).foldTry l := by
    rw [State.opHalt, h]
    exact if_pos before
  have ends : halted ((s.bench l).mark u.id x.pos .complete) = { (s.bench l).mark u.id x.pos .complete with halted := true, st := .drained } := by
    simp only [halted, Bench.mark, runs]
  rw [halts, ← ends]
  exact becomes_foldTry (becomes_marked _ _ _ halted) (by simp [ends]) alone

/-- A Bench with a release tick. -/
def released (b : Bench) (tick : Nat) : Bench := { b with regs := { b.regs with rel := some tick } }

theorem opRelease_sets (h : s.ready? l 7 4 = some (u, x)) :
    Becomes l ((released (s.bench l) (s.tg.epochStart + bitsOf x.word 24 40)).mark u.id x.pos .complete) s (s.opRelease l) := by
  rw [State.opRelease, h]
  let b := released (s.bench l) (s.tg.epochStart + bitsOf x.word 24 40)
  have marked := becomes_markSlot (s := s.setBench l b) (l := l) u.id x.pos .complete
  rw [bench_setBench_same] at marked
  exact becomes_trans (becomes_setBench b) marked

theorem opBrk_breaks (h : s.ready? l 7 5 = some (u, x)) (hl : l < 1024) (runs : (s.bench l).st = .running)
    (alone : ∀ r, s.resident l = some r → s.foldNext r = none) :
    Breaks l ((s.bench l).mark u.id x.pos .complete) (MIL_BCTL_HIT_SW l) s (s.opBrk l) := by
  have marked : (s.markSlot l u.id x.pos .complete).bench l = (s.bench l).mark u.id x.pos .complete := bench_setBench_same s l _
  let t := (s.markSlot l u.id x.pos .complete).setBench l (broken ((s.markSlot l u.id x.pos .complete).bench l))
  have breaks : s.opBrk l = (t.raise (MIL_BCTL_HIT_SW l)).foldTry l := by
    rw [State.opBrk, h]
    simp only [marked, Bench.mark, runs, t]
    rfl
  have stands : Becomes l (broken ((s.bench l).mark u.id x.pos .complete)) s t := becomes_marked _ _ _ broken
  have raised := t.only_raise (MIL_BCTL_HIT_SW l)
  have fifth : 5 < 32 := by decide
  rw [breaks]
  have isSet : (t.raise (MIL_BCTL_HIT_SW l)).bit (MIL_BCTL_HIT_SW l) = true := bit_raise _ _ rfl fifth
  refine breaks_foldTry hl ⟨rfl, rfl, fifth⟩ alone ⟨benchIs_then_only stands.1 raised (by decide), isSet, ?_, ?_, rfl⟩
  · exact fun a ha => (words_raise t _ a ha).trans (stands.2 .regs (by decide) a)
  · exact stands.2.comp raised (by simp) (by simp)

end

/-! ### O30 -/

/-- Settles O30: a Bench that stops or waits while no other can be switched in stays in place. -/
theorem controlSlotsSteerTheStream : Obligations.ControlSlotsSteerTheStream := by
  unfold Obligations.ControlSlotsSteerTheStream
  intro l op u x s hl h runs alone b w m becomes before
  have does {c : Instr} {b : Bench} {y : State} (hc : exec c s = .next y) (hy : Becomes l b s y) : becomes c b := ⟨y, hc, hy⟩
  refine ⟨?_, ?_, ?_, ?_, ?_, ?_⟩
  · rintro rfl
    exact does rfl (opNop_completes h)
  · rintro rfl stop count crosses
    refine ⟨fun bad => ?_, fun after inside code => ?_⟩
    · exact stops_of_streamError hl h (by decide) (by decide) (congrArg _ (opLoop_stops h bad))
    · have legal : LoopLegal s l u x := ⟨after, inside, code⟩
      refine ⟨fun empty outermost => ?_, fun repeats body room => ?_, fun repeats body full => ?_⟩
      · have passed := opLoop_passes h legal empty
        have goesOn : loopPassed m x = { m with pc := stop } := by
          rw [loopPassed, loopNext_outermost (loops := m.loops) outermost]
          rfl
        exact does rfl (goesOn ▸ passed)
      · exact does rfl (opLoop_begins h legal (by show ¬(count = 0 ∨ stop = u.next); omega) room)
      · have marked := becomes_markSlot (s := s) (l := l) u.id x.pos .complete
        have place : x.pos = 7 := (place_and_op_of_ready h).1
        have tooDeep := opLoop_tooDeep h legal (by show ¬(count = 0 ∨ stop = u.next); omega) full
        refine ⟨_, _, marked.1, marked.2, congrArg Host.Outcome.next tooDeep, ?_⟩
        exact streamError_stops _ _ _ hl (by omega) (by decide)
  · rintro rfl
    exact ⟨fun done => does rfl (opSeam_reaches h (earlierDone_iff.2 done) runs alone),
      fun early => congrArg _ (opSeam_early h (mt earlierDone_iff.1 early))⟩
  · rintro rfl
    exact ⟨fun done => does rfl (opHalt_drains h (earlierDone_iff.2 done) runs alone),
      fun early => congrArg _ (opHalt_early h (mt earlierDone_iff.1 early))⟩
  · rintro rfl
    exact does rfl (opRelease_sets h)
  · rintro rfl
    obtain ⟨bench, hit, words, only, now⟩ := opBrk_breaks h hl runs alone
    exact ⟨_, rfl, bench, hit, words, only, now⟩

end Sys2Proof.Proofs.Streams
end

section
/-! PROOFS. The stream rows on a Bench with no slot ready for them (R180, R181). -/

open Sys2Proof Sys2Proof.Machine Sys2Proof.Proofs.Casting Sys2Proof.Proofs.Grid Sys2Proof.Proofs.Numbers Sys2Proof.Proofs.Mill

namespace Sys2Proof.Proofs.Streams

/-! ### Rows with no slot ready -/

section
variable {s : State} {l op : Nat}

theorem opLd_idle (h : s.ready? l 0 0 = none) : s.opLd l = s := by rw [State.opLd, h]
theorem opLdb_idle (h : s.ready? l 0 1 = none) : s.opLdb l = s := by rw [State.opLdb, h]
theorem opKld_idle (h : s.ready? l 0 2 = none) : s.opKld l = s := by rw [State.opKld, h]
theorem opSt_idle (h : s.ready? l 1 0 = none) : s.opSt l = s := by rw [State.opSt, h]
theorem opMac_idle (h : s.ready? l 2 op = none) : s.opMac l op = s := by rw [State.opMac, h]
theorem opDrain_idle {keep : Bool} (h : s.ready? l 3 op = none) : s.opDrain l op keep = s := by rw [State.opDrain, h]
theorem opClear_idle (h : s.ready? l 3 1 = none) : s.opClear l = s := by rw [State.opClear, h]
theorem opMerge_idle (h : s.ready? l 3 3 = none) : s.opMerge l = s := by rw [State.opMerge, h]
theorem vec2_idle {f : Rm → Nat → Nat → Nat × Flags} (h : s.ready? l 4 op = none) : s.vec2 l op f = s := by rw [State.vec2, h]
theorem opFma_idle (h : s.ready? l 4 3 = none) : s.opFma l = s := by rw [State.opFma, h]
theorem opSqrt_idle (h : s.ready? l 4 7 = none) : s.opSqrt l = s := by rw [State.opSqrt, h]
theorem opAny_idle (h : s.ready? l 4 11 = none) : s.opAny l = s := by rw [State.opAny, h]
theorem opCvtf_idle (h : s.ready? l 4 12 = none) : s.opCvtf l = s := by rw [State.opCvtf, h]
theorem opCvtt_idle (h : s.ready? l 4 13 = none) : s.opCvtt l = s := by rw [State.opCvtt, h]
theorem opMove_idle {f : Bundle → BitVec 64 → BRegs → Option BRegs} (h : s.ready? l 5 op = none) : s.opMove l op f = s := by
  rw [State.opMove, h]
theorem opWaitc_idle (h : s.ready? l 6 0 = none) : s.opWaitc l = s := by rw [State.opWaitc, h]
theorem opPost_idle (h : s.ready? l 6 1 = none) : s.opPost l = s := by rw [State.opPost, h]
theorem opDrainw_idle (h : s.ready? l 6 2 = none) : s.opDrainw l = s := by rw [State.opDrainw, h]
theorem opTestc_idle (h : s.ready? l 6 3 = none) : s.opTestc l = s := by rw [State.opTestc, h]
theorem opNop_idle (h : s.ready? l 7 0 = none) : s.opNop l = s := by rw [State.opNop, h]
theorem opLoop_idle (h : s.ready? l 7 1 = none) : s.opLoop l = s := by rw [State.opLoop, h]
theorem opSeam_idle (h : s.ready? l 7 2 = none) : s.opSeam l = s := by rw [State.opSeam, h]
theorem opHalt_idle (h : s.ready? l 7 3 = none) : s.opHalt l = s := by rw [State.opHalt, h]
theorem opRelease_idle (h : s.ready? l 7 4 = none) : s.opRelease l = s := by rw [State.opRelease, h]
theorem opBrk_idle (h : s.ready? l 7 5 = none) : s.opBrk l = s := by rw [State.opBrk, h]

end

/-! ### O25 -/

/-- Settles O25, kind by kind: loads and the store, MAC, ACC, VEC, MOVE, SYNC and CTRL. -/
theorem slotRowsWaitForTheirTurn : Obligations.SlotRowsWaitForTheirTurn := by
  unfold Obligations.SlotRowsWaitForTheirTurn
  intro l s
  have same {y : State} (h : y = s) : (.next y : Host.Outcome State Fault Refusal) = .next s := congrArg _ h
  simp only [List.forall_mem_cons]
  refine ⟨fun h => same (opLd_idle h), fun h => same (opLdb_idle h), fun h => same (opKld_idle h), fun h => same (opSt_idle h), ?_⟩
  refine ⟨fun h => same (opMac_idle h), fun h => same (opMac_idle h), ?_⟩
  refine ⟨fun h => same (opDrain_idle h), fun h => same (opClear_idle h), fun h => same (opDrain_idle h), fun h => same (opMerge_idle h), ?_⟩
  refine ⟨fun h => same (vec2_idle h), fun h => same (vec2_idle h), fun h => same (vec2_idle h), fun h => same (opFma_idle h), ?_⟩
  refine ⟨fun h => same (vec2_idle h), fun h => same (vec2_idle h), fun h => same (vec2_idle h), fun h => same (opSqrt_idle h), ?_⟩
  refine ⟨fun h => same (vec2_idle h), fun h => same (vec2_idle h), fun h => same (vec2_idle h), ?_⟩
  refine ⟨fun h => same (opAny_idle h), fun h => same (opCvtf_idle h), fun h => same (opCvtt_idle h), ?_⟩
  refine ⟨fun h => same (opMove_idle h), fun h => same (opMove_idle h), fun h => same (opMove_idle h), fun h => same (opMove_idle h), ?_⟩
  refine ⟨fun h => same (opMove_idle h), fun h => same (opMove_idle h), fun h => same (opMove_idle h), fun h => same (opMove_idle h), ?_⟩
  refine ⟨fun h => same (opMove_idle h), fun h => same (opMove_idle h), ?_⟩
  refine ⟨fun h => same (opWaitc_idle h), fun h => same (opPost_idle h), fun h => same (opDrainw_idle h), fun h => same (opTestc_idle h), ?_⟩
  refine ⟨fun h => same (opNop_idle h), fun h => same (opLoop_idle h), fun h => same (opSeam_idle h), fun h => same (opHalt_idle h), ?_⟩
  exact ⟨fun h => same (opRelease_idle h), fun h => same (opBrk_idle h), List.forall_mem_nil _⟩

end Sys2Proof.Proofs.Streams
end

section
/-! PROOFS. The issue of bundles: what the checks of the bundle at PC decide, one after the other (R179 to R183, R200, R206, R212, R214). -/

open Sys2Proof Sys2Proof.Machine Sys2Proof.Proofs.Casting Sys2Proof.Proofs.Grid Sys2Proof.Proofs.Numbers Sys2Proof.Proofs.Mill

namespace Sys2Proof.Proofs.Streams

/-! ### The next bundle (R179, R200) -/

section
variable (s : State) (l : Nat)

/-- The header of the next bundle, its slots, and the address after them. -/
def nextHeader : BitVec 64 := kWord (s.kimg (s.bench l)) (s.bench l).pc
def nextSlots : List Slot := bundleSlots (s.kimg (s.bench l)) (s.bench l).pc (bitsOf (nextHeader s l) 0 8)
def nextPc : Nat := (s.bench l).pc + 1 + (nextSlots s l).length

/-- Its predicate: the sense and the flag, and whether it fails. -/
def nextSense : Nat := bitsOf (nextHeader s l) 12 2
def nextFlag : Nat := bitsOf (nextHeader s l) 8 4
abbrev NextFails : Prop := nextSense s l ≠ 0 ∧ (s.bench l).regs.pf.getD (nextFlag s l) false ≠ (nextSense s l == 1)

/-- A stream error of the bundle at PC. -/
def nextError (slot code : Nat) : State := s.streamError l (s.bench l).nextId (s.bench l).pc slot code

/-- Whether a MAC and an ACC of a bundle name one accumulator set (R183). -/
def sameSet (xs : List Slot) : Bool :=
  match xs.find? (fun x => x.pos == 2), xs.find? (fun x => x.pos == 3) with
  | some m, some a => bitsOf m.word 12 1 == bitsOf a.word 4 1
  | _, _ => false

/-- Whether a bundle holds a SEAM or a HALT (R204, R205). -/
def endsStream (xs : List Slot) : Bool := xs.any (fun x => x.pos == 7 && (bitsOf x.word 0 4 == 2 || bitsOf x.word 0 4 == 3))

/-- What a bundle with legal slots does (R181 to R183). -/
def legalIssues : State :=
  if sameSet (nextSlots s l) then nextError s l 3 4
  else if endsStream (nextSlots s l) && !(s.bench l).settled then s
  else if (nextSlots s l).any (fun x => (s.bench l).slots.any (slotBehind (s.kimg (s.bench l)) (s.bench l).snapshot x)) then s
  else s.issueBundle l (nextPc s l) (nextSlots s l)

/-- What a bundle does whose predicate holds. -/
def slotsIssue : State :=
  if (nextSlots s l).any (fun x => x.pos == 5 && bitsOf x.word 0 4 == 4) ∧ (s.bench l).flagsPending ≠ [] then s
  else match (nextSlots s l).find? (fun x => !slotLegal x.pos x.word) with
  | some x => nextError s l x.pos 1
  | none => legalIssues s l

/-- Issue may go on to the bundle at PC: it lies in the code, in no loop, and no tag break is enabled. -/
structure Fetchable : Prop where
  code : nextPc s l ≤ kCodeEnd (s.kimg (s.bench l))
  untagged : s.bit (MIL_BCTL_TAG_EN l) = false
  outermost : (s.bench l).loops = []

/-- A header uses no reserved bit (R179). -/
structure HeaderLegal : Prop where
  sense : nextSense s l < 3
  low : bitsOf (nextHeader s l) 14 2 = 0
  high : bitsOf (nextHeader s l) 32 32 = 0

variable {s l}

theorem bundleIssue_held
    (h : s.benchActs l = false ∨ (s.bench l).st ≠ .running ∨ s.issueHeld l (s.bench l) = true ∨ s.bit DET_STAT_HELD = true) :
    s.bundleIssue l = s := by
  refine if_neg fun runs => ?_
  simp only [Bool.and_eq_true, beq_iff_eq, Bool.not_eq_true'] at runs
  obtain ⟨⟨⟨acts, running⟩, free⟩, unheld⟩ := runs
  simp [acts, running, free, unheld] at h

/-- A stream that acts and runs, with nothing that holds issue. -/
structure Issues (s : State) (l : Nat) : Prop where
  acts : s.benchActs l = true
  runs : (s.bench l).st = .running
  free : s.issueHeld l (s.bench l) = false
  unheld : s.bit DET_STAT_HELD = false

theorem bundleIssue_issues (h : Issues s l) : s.bundleIssue l =
    if (s.bench l).pc < kCodeStart (s.kimg (s.bench l)) ∨ kCodeEnd (s.kimg (s.bench l)) ≤ (s.bench l).pc then nextError s l 8 7
    else s.issueFetched l :=
  if_pos (by simp [h.acts, h.runs, h.free, h.unheld])

theorem issueFetched_eq (h : Fetchable s l) : s.issueFetched l =
    if nextSense s l = 3 ∨ bitsOf (nextHeader s l) 14 2 ≠ 0 ∨ bitsOf (nextHeader s l) 32 32 ≠ 0 then nextError s l 8 1
    else if nextSense s l ≠ 0 ∧ nextFlag s l ∈ (s.bench l).flagsPending then s
    else if NextFails s l then s.skipBundle l (nextPc s l) (nextSlots s l)
    else slotsIssue s l := by
  obtain ⟨code, untagged, outermost⟩ := h
  refine (if_neg (Nat.not_lt.2 code)).trans ((if_neg (by simp [untagged])).trans ?_)
  dsimp only
  rw [outermost]
  exact ite_congr rfl (fun _ => rfl) fun _ => if_neg Bool.false_ne_true

theorem issueFetched_reserved (h : Fetchable s l)
    (reserved : nextSense s l = 3 ∨ bitsOf (nextHeader s l) 14 2 ≠ 0 ∨ bitsOf (nextHeader s l) 32 32 ≠ 0) :
    s.issueFetched l = nextError s l 8 1 := by
  rw [issueFetched_eq h, if_pos reserved]

/-- The predicate of the next bundle can be judged (R181, R200). -/
def Decided (s : State) (l : Nat) : Prop := nextSense s l ≠ 0 → nextFlag s l ∉ (s.bench l).flagsPending

theorem issueFetched_decided (h : Fetchable s l) (header : HeaderLegal s l) (decided : Decided s l) :
    s.issueFetched l = if NextFails s l then s.skipBundle l (nextPc s l) (nextSlots s l) else slotsIssue s l := by
  obtain ⟨sense, low, high⟩ := header
  rw [issueFetched_eq h, if_neg (by simp [low, high]; omega), if_neg fun pending => decided pending.1 pending.2]

/-! ### Slots of a bundle (R179) -/

theorem pos_of_bundleSlots (k : List Byte) (pc m : Nat) :
    (bundleSlots k pc m).map Slot.pos = (List.range 8).filter (fun i => m / 2 ^ i % 2 == 1) := by
  rw [bundleSlots]
  exact List.ext_getElem? fun i => by simp [Option.map_map, Function.comp_def]

theorem pos_lt_of_mem {k : List Byte} {pc m : Nat} {x : Slot} (h : x ∈ bundleSlots k pc m) : x.pos < 8 := by
  have place : x.pos ∈ (bundleSlots k pc m).map Slot.pos := List.mem_map_of_mem h
  rw [pos_of_bundleSlots] at place
  exact List.mem_range.1 (List.mem_of_mem_filter place)

/-- A bundle has one slot at a place. -/
theorem find_place {k : List Byte} {pc m : Nat} {x : Slot} (h : x ∈ bundleSlots k pc m) :
    (bundleSlots k pc m).find? (fun y => y.pos == x.pos) = some x := by
  have once : ((bundleSlots k pc m).map Slot.pos).Nodup := by
    rw [pos_of_bundleSlots]
    exact List.nodup_range.filter _
  cases found : (bundleSlots k pc m).find? (fun y => y.pos == x.pos) with
  | none => exact absurd (List.find?_eq_none.1 found x h) (by simp)
  | some y =>
    have place : y.pos = x.pos := beq_iff_eq.1 (List.find?_some (p := fun y : Slot => y.pos == x.pos) found)
    rw [List.inj_on_of_nodup_map once (List.mem_of_find?_eq_some found) h place]

theorem sameSet_iff (k : List Byte) (pc m : Nat) : sameSet (bundleSlots k pc m) = true ↔
    ∃ y ∈ bundleSlots k pc m, ∃ a ∈ bundleSlots k pc m, y.pos = 2 ∧ a.pos = 3 ∧ bitsOf y.word 12 1 = bitsOf a.word 4 1 := by
  constructor
  · intro same
    unfold sameSet at same
    split at same
    · rename_i y a mac acc
      exact ⟨y, List.mem_of_find?_eq_some mac, a, List.mem_of_find?_eq_some acc, by simpa using List.find?_some mac,
        by simpa using List.find?_some acc, beq_iff_eq.1 same⟩
    · cases same
  · rintro ⟨y, hy, a, ha, mac, acc, same⟩
    have first := find_place hy
    have second := find_place ha
    rw [mac] at first
    rw [acc] at second
    simp [sameSet, first, second, same]

/-! ### What a bundle does (R180 to R183, R200, R214) -/

theorem legalIssues_sameSet (h : sameSet (nextSlots s l) = true) : legalIssues s l = nextError s l 3 4 := if_pos h

/-- A bundle whose slots judge alone what it does: no MAC and ACC of one set, no SEAM, no HALT. -/
theorem legalIssues_eq (h : ¬sameSet (nextSlots s l) = true) (goesOn : endsStream (nextSlots s l) = false) : legalIssues s l =
    if (nextSlots s l).any (fun x => (s.bench l).slots.any (slotBehind (s.kimg (s.bench l)) (s.bench l).snapshot x)) then s
    else s.issueBundle l (nextPc s l) (nextSlots s l) :=
  (if_neg h).trans (if_neg (by simp [goesOn]))

theorem slotsIssue_illegal (h : (nextSlots s l).any (fun x => x.pos == 5 && bitsOf x.word 0 4 == 4) = true → (s.bench l).flagsPending = [])
    {x : Slot} (illegal : (nextSlots s l).find? (fun x => !slotLegal x.pos x.word) = some x) : slotsIssue s l = nextError s l x.pos 1 := by
  rw [slotsIssue, if_neg fun waits => waits.2 (h waits.1), illegal]

theorem slotsIssue_legal (h : (nextSlots s l).any (fun x => x.pos == 5 && bitsOf x.word 0 4 == 4) = true → (s.bench l).flagsPending = [])
    (legal : ∀ x ∈ nextSlots s l, slotLegal x.pos x.word = true) : slotsIssue s l = legalIssues s l := by
  have found : (nextSlots s l).find? (fun x => !slotLegal x.pos x.word) = none := List.find?_eq_none.2 fun x hx => by simp [legal x hx]
  rw [slotsIssue, if_neg fun waits => waits.2 (h waits.1), found]

theorem retireOne_counts (h : s.bit (MIL_BCTL_RET_EN l) = false ∨ ((s.bench l).ret + 1) % 2 ^ 64 ≠ s.rd64 (MIL_BRK_RET_LO l)) :
    s.retireOne l = s.setBench l { s.bench l with ret := ((s.bench l).ret + 1) % 2 ^ 64 } := by
  refine if_neg fun reached => ?_
  obtain ⟨enabled, count⟩ := reached
  rcases h with off | apart
  · exact absurd (off.symm.trans enabled) (by decide)
  · exact apart count

/-- A bundle that is skipped with nothing in flight retires at once. -/
theorem skipBundle_retires {next : Nat} {xs : List Slot} (outermost : (s.bench l).loops = []) (empty : (s.bench l).flight = [])
    (noCtrl : ∀ x ∈ xs, x.pos ≠ 7) (off : s.bit (MIL_BCTL_RET_EN l) = false) :
    Becomes l { s.bench l with pc := next, nextId := (s.bench l).nextId + 1, resumed := false, ret := ((s.bench l).ret + 1) % 2 ^ 64 } s
      (s.skipBundle l next xs) := by
  have noLoop : xs.find? (fun x => x.pos == 7 && bitsOf x.word 0 4 == 1) = none := List.find?_eq_none.2 fun x hx => by simp [noCtrl x hx]
  let b : Bench := { s.bench l with pc := next, nextId := (s.bench l).nextId + 1, resumed := false }
  have skips : s.skipBundle l next xs = (s.setBench l b).retireOne l := by
    simp only [State.skipBundle, noLoop, loopNext_outermost outermost]
    exact if_pos (by rw [empty]; rfl)
  have retires : (s.setBench l b).retireOne l = _ := retireOne_counts (.inl off)
  rw [skips, retires, bench_setBench_same]
  exact becomes_trans (becomes_setBench b) (becomes_setBench _)

/-- A bundle with no LOOP that issues: its slots wait with the registers as they stand before it, and PC moves past it. -/
theorem issueBundle_issues {next : Nat} {xs : List Slot} (outermost : (s.bench l).loops = [])
    (noLoop : xs.any (fun x => x.pos == 7 && bitsOf x.word 0 4 == 1) = false) :
    Becomes l { s.bench l with
        flight := (s.bench l).flight ++ [⟨(s.bench l).nextId, (s.bench l).pc, next, (s.bench l).snapshot, xs⟩]
        nextId := (s.bench l).nextId + 1, pc := next, resumed := false
        regs := { (s.bench l).regs with or := xs.foldl (setOr (s.kimg (s.bench l))) (s.bench l).regs.or } } s (s.issueBundle l next xs) := by
  simp only [State.issueBundle, noLoop, Bool.false_eq_true, if_false, loopNext_outermost outermost]
  exact becomes_setBench _

end

/-! ### O26 -/

/-- Settles O26: what the checks of issue decide, one after the other. -/
theorem bundlesIssueInOrder : Obligations.BundlesIssueInOrder := by
  unfold Obligations.BundlesIssueInOrder
  intro t l s hl b k h xs next psense stops
  have clock : Only [.clock] s (s.at t) := s.only_at t
  have stays {y : State} (hy : (s.at t).bundleIssue l = y) (same : y = s.at t) :
      ∃ u : State, exec (.bundleIssue t l) s = .next u ∧ Only [.clock] s u := ⟨_, congrArg Host.Outcome.next (hy.trans same), clock⟩
  have errs {slot code : Nat} (hy : (s.at t).bundleIssue l = nextError (s.at t) l slot code) (hslot : slot < 16) (hcode : code < 256) :
      stops slot code := ⟨_, congrArg Host.Outcome.next hy, streamError_stops _ _ _ hl hslot hcode⟩
  have becomes {c : Bench} {y : State} (hy : (s.at t).bundleIssue l = y) (hc : Becomes l c (s.at t) y) :
      ∃ u : State, exec (.bundleIssue t l) s = .next u ∧ BenchIs l c s u ∧ Only [.clock, .benches] s u :=
    ⟨y, congrArg Host.Outcome.next hy, hc.1, clock.comp hc.2 (by simp) (by simp)⟩
  refine ⟨fun held => stays (bundleIssue_held held) rfl, fun acts runs free unheld => ?_⟩
  have issues : (s.at t).bundleIssue l = _ := bundleIssue_issues ⟨acts, runs, free, unheld⟩
  refine ⟨fun outside => errs (issues.trans (if_pos outside)) (by decide) (by decide), fun starts code outermost untagged => ?_⟩
  have fetchable : Fetchable (s.at t) l := ⟨code, untagged, outermost⟩
  have inside : ¬(b.pc < kCodeStart k ∨ kCodeEnd k ≤ b.pc) := by omega
  have fetches : (s.at t).bundleIssue l = (s.at t).issueFetched l := issues.trans (if_neg inside)
  refine ⟨fun reserved => errs (fetches.trans (issueFetched_reserved fetchable reserved)) (by decide) (by decide), fun sense low high => ?_⟩
  intro fails
  have header : HeaderLegal (s.at t) l := ⟨sense, low, high⟩
  refine ⟨fun failing decided empty noCtrl off => ?_, fun holds decided plog => ?_⟩
  · have skips := (fetches.trans (issueFetched_decided fetchable header fun _ => decided)).trans (if_pos failing)
    exact becomes skips (skipBundle_retires outermost empty noCtrl off)
  · have slots := (fetches.trans (issueFetched_decided fetchable header decided)).trans (if_neg holds)
    refine ⟨fun x illegal => ?_, fun legal => ?_⟩
    · have place : x.pos < 8 := pos_lt_of_mem (List.mem_of_find?_eq_some illegal)
      exact errs (slots.trans (slotsIssue_illegal (s := s.at t) plog illegal)) (by omega) (by decide)
    have legals : (s.at t).bundleIssue l = legalIssues (s.at t) l := slots.trans (slotsIssue_legal (s := s.at t) plog legal)
    refine ⟨fun m hm a ha mac acc same => ?_, fun apart noCtrl => ?_⟩
    · have one : sameSet xs = true := (sameSet_iff ..).2 ⟨m, hm, a, ha, mac, acc, same⟩
      exact errs (legals.trans (legalIssues_sameSet one)) (by decide) (by decide)
    have two : ¬sameSet xs = true := fun same => by
      obtain ⟨m, hm, a, ha, mac, acc, one⟩ := (sameSet_iff ..).1 same
      exact apart m hm a ha mac acc one
    have noOp {x : Slot} (hx : x ∈ xs) (place : x.pos = 7) {i : Nat} (hi : 0 < i ∧ i < 4) : bitsOf x.word 0 4 ≠ i := fun op => by
      have other := noCtrl x hx place
      omega
    have goesOn : endsStream xs = false := List.any_eq_false.2 fun x hx => by
      simp only [Bool.and_eq_true, Bool.or_eq_true, beq_iff_eq]
      rintro ⟨place, seam | halt⟩
      · exact noOp hx place (by decide) seam
      · exact noOp hx place (by decide) halt
    have noLoop : xs.any (fun x => x.pos == 7 && bitsOf x.word 0 4 == 1) = false := List.any_eq_false.2 fun x hx => by
      simp only [Bool.and_eq_true, beq_iff_eq]
      exact fun ⟨place, loop⟩ => noOp hx place (by decide) loop
    have waits := legals.trans (legalIssues_eq two goesOn)
    refine ⟨fun behind => ?_, fun clear => ?_⟩
    · obtain ⟨x, hx, e, he, waitsFor⟩ := behind
      exact stays waits (if_pos (List.any_eq_true.2 ⟨x, hx, List.any_eq_true.2 ⟨e, he, waitsFor⟩⟩))
    · have free : ¬xs.any (fun x => b.slots.any (slotBehind k b.snapshot x)) = true := fun some => by
        obtain ⟨x, hx, others⟩ := List.any_eq_true.1 some
        obtain ⟨e, he, waitsFor⟩ := List.any_eq_true.1 others
        exact absurd (waitsFor.symm.trans (clear x hx e he)) (by decide)
      exact becomes (waits.trans (if_neg free)) (issueBundle_issues outermost noLoop)

end Sys2Proof.Proofs.Streams
end

section
/-! PROOFS. Slots that complete, bundles that retire, and Benches that resume from a break (R157, R158, R207, R212, R362). -/

open Sys2Proof Sys2Proof.Machine Sys2Proof.Proofs.Casting Sys2Proof.Proofs.Grid Sys2Proof.Proofs.Numbers Sys2Proof.Proofs.Mill

namespace Sys2Proof.Proofs.Streams

/-! ### Mover cells that are released (R362, R368) -/

theorem only_bpFirst (s : State) (d cause cell : Nat) : Only [.regs] s (s.bpFirst d cause cell) := by
  unfold State.bpFirst
  split
  · exact Only.rfl
  · exact ((s.only_wr _ _).trans (State.only_wr _ (BP_FIRST_CELL d) _)).trans (State.only_wrBit _ (BP_FIRST_VALID d) _)

theorem only_releaseCell (s : State) (cell : Nat × Nat) (o : Owner) : Only [.fab, .regs, .flt] s (s.releaseCell cell o) := by
  unfold State.releaseCell
  split_ifs
  · exact Only.rfl
  · exact (only_withFab s _).mono (by simp)
  · have counted := (only_inc s (BP_RELREF cell.1)).trans (only_bpFirst _ cell.1 1 cell.2)
    exact counted.comp (State.only_fault _ _ _ _ _ _ _ _) (by simp) (by simp)

section
variable (s : State) (l : Nat) (p : Nat → Nat → Bool)

/-- The cells in transit that a release takes, and those that stay. -/
def freed : List (Nat × Nat × Nat × (Nat × Nat)) := s.mill.transit.filter (fun e => e.1 == l && p e.2.1 e.2.2.1)
def kept : List (Nat × Nat × Nat × (Nat × Nat)) := s.mill.transit.filter (fun e => !(e.1 == l && p e.2.1 e.2.2.1))

theorem moverFree_eq : s.moverFree l p = (freed s l p).foldl (fun s e => s.releaseCell e.2.2.2 (.mover l)) (withTransit s (kept s l p)) := rfl

theorem moverFree_frees : (s.moverFree l p).mill.transit = kept s l p ∧ Only [.mill, .fab, .regs, .flt] s (s.moverFree l p) := by
  have released : Only [.fab, .regs, .flt] (withTransit s (kept s l p)) (s.moverFree l p) :=
    Only.foldl _ (fun s _ => only_releaseCell s _ _) _ _
  have mill : (s.moverFree l p).mill = (withTransit s (kept s l p)).mill := released .mill (by decide)
  exact ⟨by rw [mill]; rfl, (only_withTransit s _).comp released (by simp) (by simp)⟩

variable {s l p}

/-- A release of no cell changes nothing. -/
theorem moverFree_none (h : freed s l p = []) : s.moverFree l p = s := by
  have stay : kept s l p = s.mill.transit := by
    refine List.filter_eq_self.2 fun e he => ?_
    have apart := List.filter_eq_nil_iff.1 h e he
    simp only [Bool.eq_false_iff.2 apart, Bool.not_false]
  rw [moverFree_eq, h, stay]
  rfl

end

/-! ### Completion (R207) -/

section
variable {s : State} {l : Nat}

/-- The slot that SLOT_COMPLETE completes. -/
def endedSlot (s : State) (l pos : Nat) : Option (Bundle × Slot) :=
  (s.bench l).slots.find? (fun e => e.2.pos == pos && e.2.phase == .performed && completesAlone pos e.2.word && !s.gated l e.1.id pos)

theorem slotComplete_idle {pos : Nat} (h : endedSlot s l pos = none) : s.slotComplete l pos = s := by
  unfold endedSlot at h
  unfold State.slotComplete
  split
  · rw [h]
  · rfl

theorem slotComplete_ends {pos : Nat} (acts : s.benchActs l = true) {u : Bundle} {x : Slot} (h : endedSlot s l pos = some (u, x)) :
    s.slotComplete l pos = (s.markSlot l u.id pos .complete).moverFree l (fun i q => i == u.id && q == pos) := by
  unfold endedSlot at h
  rw [State.slotComplete, if_pos acts, h]

/-! ### Retirement (R207, R212) -/

theorem bundleRetire_empty (h : (s.bench l).flight = []) : s.bundleRetire l = s := by
  unfold State.bundleRetire
  split
  · dsimp only
    rw [h]
  · rfl

theorem bundleRetire_waits {u : Bundle} {us : List Bundle} (h : (s.bench l).flight = u :: us)
    (unfinished : ∃ x ∈ u.slots, x.phase ≠ .complete) : s.bundleRetire l = s := by
  obtain ⟨x, hx, incomplete⟩ := unfinished
  unfold State.bundleRetire
  split
  · dsimp only
    rw [h]
    refine if_neg fun all => incomplete ?_
    simpa using List.all_eq_true.1 all x hx
  · rfl

theorem bundleRetire_retires (acts : s.benchActs l = true) {u : Bundle} {us : List Bundle} (h : (s.bench l).flight = u :: us)
    (ended : ∀ x ∈ u.slots, x.phase = .complete) : s.bundleRetire l = (s.setBench l { s.bench l with flight := us }).retireOne l := by
  rw [State.bundleRetire, if_pos acts]
  dsimp only
  rw [h]
  exact if_pos (List.all_eq_true.2 fun x hx => by simp [ended x hx])

/-- A Bench with one more bundle retired. -/
def retired (b : Bench) : Bench := { b with ret := (b.ret + 1) % 2 ^ 64 }

/-- The node with the retire count of a Bench advanced and its hit bit set. -/
def retireHit (s : State) (l : Nat) : State := (s.setBench l (retired (s.bench l))).raise (MIL_BCTL_HIT_RET l)

theorem retireOne_breaks (enabled : s.bit (MIL_BCTL_RET_EN l) = true) (reached : ((s.bench l).ret + 1) % 2 ^ 64 = s.rd64 (MIL_BRK_RET_LO l))
    (stops : (s.bench l).st ∈ [.running, .waiting, .foldedOut, .drained]) :
    s.retireOne l = ((retireHit s l).setBench l (broken (retired (s.bench l)))).foldTry l := by
  have shown : (retireHit s l).bench l = retired (s.bench l) := bench_setBench_same s l _
  have hits : s.retireOne l = match ((retireHit s l).bench l).st with
      | .running | .waiting | .foldedOut | .drained =>
        ((retireHit s l).setBench l { (retireHit s l).bench l with st := .brk }).foldTry l
      | _ => retireHit s l := if_pos ⟨enabled, reached⟩
  rw [hits, shown]
  simp only [List.mem_cons, List.not_mem_nil, or_false] at stops
  rcases stops with st | st | st | st <;> simp only [retired, st] <;> rfl

/-- Where the retire count reaches the break, the Bench stops at it. -/
theorem bundleRetire_breaks (hl : l < 1024) (acts : s.benchActs l = true) {u : Bundle} {us : List Bundle} (h : (s.bench l).flight = u :: us)
    (ended : ∀ x ∈ u.slots, x.phase = .complete) (enabled : s.bit (MIL_BCTL_RET_EN l) = true)
    (reached : ((s.bench l).ret + 1) % 2 ^ 64 = s.rd64 (MIL_BRK_RET_LO l)) (stops : (s.bench l).st ∈ [.running, .waiting, .foldedOut, .drained])
    (alone : ∀ r, s.resident l = some r → s.foldNext r = none) :
    Breaks l (retired { s.bench l with flight := us }) (MIL_BCTL_HIT_RET l) s (s.bundleRetire l) := by
  let c : Bench := { s.bench l with flight := us }
  let t := s.setBench l c
  have shown : t.bench l = c := bench_setBench_same s l c
  have breaks : t.retireOne l = ((retireHit t l).setBench l (broken (retired (t.bench l)))).foldTry l :=
    retireOne_breaks enabled (by rw [shown]; exact reached) (by rw [shown]; exact stops)
  have third : 3 < 32 := by decide
  let counted := t.setBench l (retired c)
  have stored : Only [.benches] s counted := (only_setBench s l c).trans (only_setBench t l _)
  have raised : Only [.regs, .clock] counted (counted.raise (MIL_BCTL_HIT_RET l)) := State.only_raise _ _
  have hit : Only [.clock, .benches, .regs] s (counted.raise (MIL_BCTL_HIT_RET l)) := stored.comp raised (by simp) (by simp)
  rw [bundleRetire_retires acts h ended, breaks, retireHit, shown]
  have isSet : (counted.raise (MIL_BCTL_HIT_RET l)).bit (MIL_BCTL_HIT_RET l) = true := bit_raise counted _ rfl third
  refine breaks_foldTry hl ⟨rfl, rfl, third⟩ alone ⟨⟨bench_setBench_same _ l _, fun j hj => ?_⟩, isSet, ?_, ?_, ?_⟩
  · rw [bench_setBench_ne _ _ hj]
    exact (bench_of_only raised (by decide) j).trans ((bench_setBench_ne t _ hj).trans (bench_setBench_ne s c hj))
  · exact fun a ha => (words_raise counted _ a ha).trans (stored .regs (by decide) a)
  · exact hit.trans ((only_setBench _ l _).mono (by simp))
  · exact (State.raise_now counted (MIL_BCTL_HIT_RET l)).trans (stored .clock (by decide)).1

/-! ### One Bench that resumes (R212) -/

/-- The state that a Bench at a break goes back to, where its physical Bench runs it. -/
def backTo (b : Bench) : BState := if b.halted then .drained else if b.atSeam = true ∨ b.waitc.isSome = true then .waiting else .running

/-- A Bench at a break, its Hall On. -/
def Stopped (s : State) (l : Nat) : Prop := (s.bench l).st = .brk ∧ s.domOn (s.physOf l / 32) = true

theorem resumeBench_idle (h : ¬Stopped s l) : s.resumeBench l = s := if_neg h

theorem resumeBench_resumes (h : Stopped s l) : s.resumeBench l = (s.setBench l { s.bench l with
    st := if (s.bench l).halted then .drained else if s.resident l ≠ some l then .foldedOut
      else if (s.bench l).atSeam || (s.bench l).waitc.isSome then .waiting else .running }).foldTry l := if_pos h

theorem resumeBench_sets (h : Stopped s l) : ∃ b, s.resumeBench l = (s.setBench l b).foldTry l := ⟨_, resumeBench_resumes h⟩

theorem resumeBench_runs (h : Stopped s l) (runs : s.resident l = some l) (alone : s.foldNext l = none) :
    Becomes l { s.bench l with st := backTo (s.bench l) } s (s.resumeBench l) := by
  have back : (if (s.bench l).halted then .drained else if s.resident l ≠ some l then .foldedOut
      else if (s.bench l).atSeam || (s.bench l).waitc.isSome then .waiting else .running) = backTo (s.bench l) := by
    simp only [runs, ne_eq, not_true_eq_false, if_false, Bool.or_eq_true, backTo]
  have foldedIn : backTo (s.bench l) ≠ .foldedOut := by
    unfold backTo
    split_ifs <;> simp
  rw [resumeBench_resumes h, back]
  refine becomes_foldTry (becomes_setBench _) foldedIn fun r other => ?_
  rw [runs] at other
  exact Option.some.inj other ▸ alone

/-- A physical Bench whose Bench has not left it does not switch. -/
theorem foldTry_keeps {r : Nat} (runs : s.resident l = some r) (keeps : s.yields r = false) : s.foldTry l = s := by
  rw [State.foldTry, runs]
  simp [keeps]

theorem resumeBench_foldsOut (h : Stopped s l) {r : Nat} (runs : s.resident l = some r) (other : r ≠ l) (keeps : s.yields r = false) :
    Becomes l { s.bench l with st := if (s.bench l).halted then .drained else .foldedOut } s (s.resumeBench l) := by
  have out : s.resident l ≠ some l := fun own => other (Option.some.inj (runs.symm.trans own))
  rw [resumeBench_resumes h, if_pos out]
  have set : Becomes l { s.bench l with st := if (s.bench l).halted then .drained else .foldedOut } s (s.setBench l _) := becomes_setBench _
  have folds := foldsAs_of_becomes set
  rwa [foldTry_keeps ((folds.resident l).trans runs) ((folds.yields (set.1.2 r other)).trans keeps)]

end

end Sys2Proof.Proofs.Streams
end

section
/-! PROOFS. BREAK_RESUME of every Bench: what a Bench that resumes leaves of those on other physical Benches (R157, R158, R212). -/

open Sys2Proof Sys2Proof.Machine Sys2Proof.Proofs.Casting Sys2Proof.Proofs.Grid Sys2Proof.Proofs.Numbers Sys2Proof.Proofs.Mill

namespace Sys2Proof.Proofs.Streams

/-! ### Every Bench that resumes (R157, R158, R212) -/

/-- The slots of a map are different physical Benches. -/
theorem slotBench_inj {m i j : Nat} (hi : i < 32 * (maskHalls m).length) (hj : j < 32 * (maskHalls m).length)
    (h : slotBench m i = slotBench m j) : i = j := by
  have inI : i / 32 < (maskHalls m).length := by omega
  have inJ : j / 32 < (maskHalls m).length := by omega
  have once : (maskHalls m).Nodup := List.nodup_range.filter _
  simp only [slotBench, List.getD_eq_getElem?_getD, List.getElem?_eq_getElem inI, List.getElem?_eq_getElem inJ, Option.getD_some] at h
  have hall : (maskHalls m)[i / 32] = (maskHalls m)[j / 32] := by omega
  have index := (once.getElem_inj_iff).1 hall
  omega

section
variable {s t : State} {i j k l : Nat}

theorem mem_coHosted : k ∈ s.coHosted l ↔ k < s.benchN ∧ s.physN ≠ 0 ∧ k % s.physN = l % s.physN := by
  simp [State.coHosted, State.benchN]

/-- The logical Benches of one physical Bench (R157). -/
theorem physOf_of_coHosted (h : k ∈ s.coHosted l) : s.physOf k = s.physOf l := by
  obtain ⟨-, -, same⟩ := mem_coHosted.1 h
  rw [State.physOf, State.physOf, same]

theorem coHosted_of_physOf (hi : i < s.benchN) (halls : s.physN ≠ 0) (h : s.physOf i = s.physOf j) : i ∈ s.coHosted j := by
  have inside : ∀ l, l % s.physN < 32 * (maskHalls s.placeMap).length := fun l => Nat.mod_lt _ (Nat.pos_of_ne_zero halls)
  rw [State.physOf, State.physOf, if_neg halls, if_neg halls] at h
  exact mem_coHosted.2 ⟨hi, halls, slotBench_inj (inside i) (inside j) h⟩

theorem foldNext_spec {r : Nat} (h : s.foldNext r = some k) : k ∈ s.coHosted r ∧ k ≠ r := by
  have found := List.mem_of_find?_eq_some h
  simp only [List.mem_append, List.mem_filter, decide_eq_true_eq] at found
  rcases found with ⟨hosted, later⟩ | ⟨hosted, earlier⟩
  · exact ⟨hosted, by omega⟩
  · exact ⟨hosted, by omega⟩

/-- A Bench that alone has its physical Bench has no other to be switched for. -/
theorem foldNext_alone (alone : ∀ i ∈ s.coHosted j, i = j) : s.foldNext j = none := by
  cases next : s.foldNext j with
  | none => rfl
  | some k =>
    obtain ⟨hosted, other⟩ := foldNext_spec next
    exact absurd (alone k hosted) other

/-- Each physical Bench runs a logical Bench that it hosts. -/
def Placed (s : State) : Prop := ∀ e ∈ s.mill.ran, s.physOf e.2 = e.1

theorem physOf_of_resident (placed : Placed s) {r : Nat} (h : s.resident l = some r) : s.physOf r = s.physOf l := by
  obtain ⟨e, found, rfl⟩ := Option.map_eq_some_iff.1 h
  have here : e.1 = s.physOf l := beq_iff_eq.1 (List.find?_some (p := fun e : Nat × Nat => e.1 == s.physOf l) found)
  exact (placed e (List.mem_of_find?_eq_some found)).trans here

/-- The node after a switch of a physical Bench from `r` to `k`. -/
def switched (s : State) (r k : Nat) : State :=
  let t := s.setBench r { s.bench r with st := match (s.bench r).st with | .running | .waiting => .foldedOut | x => x }
  ((t.setBench k { t.bench k with st := if (t.bench k).waitc.isSome then .waiting else .running }).setRan k).inc MIL_FOLDS

theorem foldTry_cases (s : State) (l : Nat) :
    s.foldTry l = s ∨ ∃ r k, s.resident l = some r ∧ s.foldNext r = some k ∧ s.foldTry l = switched s r k := by
  cases runs : s.resident l with
  | none => exact .inl (by rw [State.foldTry, runs])
  | some r =>
    cases leaves : (if s.yields r then s.foldNext r else none) with
    | none => exact .inl (by rw [State.foldTry, runs]; dsimp only; rw [leaves])
    | some k =>
      have next : s.foldNext r = some k := by
        split at leaves
        · exact leaves
        · cases leaves
      refine .inr ⟨r, k, rfl, next, ?_⟩
      rw [State.foldTry, runs]
      dsimp only
      rw [leaves]
      rfl

/-- What a resumed Bench may change: the Benches, which of them run, and the count of switches. -/
structure Resumes (s t : State) : Prop where
  words : WordsOnly [MIL_FOLDS.addr] s t
  only : Only [.clock, .regs, .benches, .mill] s t
  map : t.mill.map = s.mill.map

theorem Resumes.rfl : Resumes s s := ⟨WordsOnly.rfl, Only.rfl, Eq.refl _⟩

theorem Resumes.trans {u : State} (h : Resumes s t) (k : Resumes t u) : Resumes s u :=
  ⟨h.words.trans k.words, h.only.trans k.only, k.map.trans h.map⟩

theorem Resumes.places (h : Resumes s t) : PlacesAs s t :=
  ⟨congrArg CstState.img (h.only .cst (by decide)), placeMap_of_words h.words (by decide) h.map⟩

/-- A Bench stands in one of the 32 Halls. -/
theorem hall_lt (s : State) (l : Nat) : s.physOf l / 32 < 32 := by
  have halls : ∀ n, (maskHalls s.placeMap).getD n 0 < 32 := fun n => by
    rw [List.getD_eq_getElem?_getD]
    cases found : (maskHalls s.placeMap)[n]? with
    | none => decide
    | some h => exact List.mem_range.1 (List.mem_of_mem_filter (List.mem_of_getElem? found))
  have hall := halls ((if s.physN = 0 then 0 else l % s.physN) / 32)
  rw [State.physOf, slotBench]
  omega

theorem Resumes.stopped (h : Resumes s t) (same : t.bench j = s.bench j) : Stopped t j ↔ Stopped s j := by
  have hall := hall_lt s j
  have apart : (PWR_STATE_STATE (s.physOf j / 32)).addr ∉ [MIL_FOLDS.addr] := fun listed => by
    have word : 0x40200 + 0x4 * (s.physOf j / 32) = 0x1800018 := List.mem_singleton.1 listed
    omega
  rw [Stopped, same, h.places.physOf, State.domOn, rd_of_words h.words apart, Stopped, State.domOn]

theorem resumes_setBench (s : State) (l : Nat) (b : Bench) : Resumes s (s.setBench l b) :=
  ⟨fun _ _ => Eq.refl _, (only_setBench s l b).mono (by simp), Eq.refl _⟩

theorem resumes_setRan (s : State) (l : Nat) : Resumes s (s.setRan l) :=
  ⟨fun a _ => only_setRan s l .regs (by decide) a, (only_setRan s l).mono (by simp), Eq.refl _⟩

theorem resumes_inc (s : State) : Resumes s (s.inc MIL_FOLDS) :=
  ⟨s.words_addSat MIL_FOLDS 1, (only_inc s MIL_FOLDS).mono (by simp), Eq.refl _⟩

theorem resumes_switched (s : State) (r k : Nat) : Resumes s (switched s r k) :=
  (((resumes_setBench s r _).trans (resumes_setBench _ k _)).trans (resumes_setRan _ k)).trans (resumes_inc _)

theorem resumes_foldTry (s : State) (l : Nat) : Resumes s (s.foldTry l) := by
  rcases foldTry_cases s l with stays | ⟨r, k, -, -, switches⟩
  · rw [stays]
    exact Resumes.rfl
  · exact switches ▸ resumes_switched s r k

theorem resumes_resumeBench (s : State) (l : Nat) : Resumes s (s.resumeBench l) := by
  by_cases h : Stopped s l
  · rw [resumeBench_resumes h]
    exact (resumes_setBench s l _).trans (resumes_foldTry _ l)
  · rw [resumeBench_idle h]
    exact Resumes.rfl

theorem resumes_all (is : List Nat) (s : State) : Resumes s (is.foldl State.resumeBench s) := by
  induction is generalizing s with
  | nil => exact Resumes.rfl
  | cons i is ih => exact (resumes_resumeBench s i).trans (ih _)

/-- The Bench `j`, and the one that runs in its place, are as they were. -/
structure Undisturbed (j : Nat) (s t : State) : Prop where
  bench : t.bench j = s.bench j
  resident : t.resident j = s.resident j

theorem ran_switched (s : State) (r k : Nat) :
    (switched s r k).mill.ran = (s.physOf k, k) :: s.mill.ran.filter (fun e => decide (e.1 ≠ s.physOf k)) := rfl

theorem placed_switched (placed : Placed s) (r k : Nat) : Placed (switched s r k) := by
  intro e he
  rw [(resumes_switched s r k).places.physOf]
  rw [ran_switched, List.mem_cons] at he
  rcases he with rfl | stays
  · rfl
  · exact placed e (List.mem_of_mem_filter stays)

theorem placed_resumeBench (placed : Placed s) (l : Nat) : Placed (s.resumeBench l) := by
  by_cases h : Stopped s l
  · obtain ⟨b, resumes⟩ := resumeBench_sets h
    rw [resumes]
    have set : Placed (s.setBench l b) := placed
    rcases foldTry_cases (s.setBench l b) l with stays | ⟨r, k, -, -, switches⟩
    · rw [stays]
      exact set
    · exact switches ▸ placed_switched set r k
  · rw [resumeBench_idle h]
    exact placed

theorem undisturbed_switched {r : Nat} (placed : s.physOf j ≠ s.physOf k) (hr : j ≠ r) (hk : j ≠ k) : Undisturbed j s (switched s r k) := by
  refine ⟨(bench_setBench_ne _ _ hk).trans (bench_setBench_ne s _ hr), ?_⟩
  have other : (fun e : Nat × Nat => decide (decide (e.1 ≠ s.physOf k) = true ∧ (e.1 == s.physOf j) = true)) = fun e => e.1 == s.physOf j :=
    funext fun e => by
      by_cases here : e.1 = s.physOf j
      · simp [here, placed]
      · simp [here]
  rw [State.resident, (resumes_switched s r k).places.physOf, ran_switched, List.find?_cons_of_neg (by simpa using placed.symm), List.find?_filter,
    other, State.resident]

/-- A Bench of another physical Bench that resumes disturbs none. -/
theorem undisturbed_foldTry (placed : Placed s) (hi : i < s.benchN) (alone : ∀ i ∈ s.coHosted j, i = j) (hij : i ≠ j) :
    Undisturbed j s (s.foldTry i) := by
  rcases foldTry_cases s i with stays | ⟨r, k, runs, next, switches⟩
  · rw [stays]
    exact ⟨rfl, rfl⟩
  · obtain ⟨hosted, -⟩ := foldNext_spec next
    have halls : s.physN ≠ 0 := (mem_coHosted.1 hosted).2.1
    have apart : s.physOf i ≠ s.physOf j := fun same => hij (alone i (coHosted_of_physOf hi halls same))
    have atR : s.physOf r = s.physOf i := physOf_of_resident placed runs
    have atK : s.physOf k = s.physOf i := (physOf_of_coHosted hosted).trans atR
    rw [switches]
    exact undisturbed_switched (atK ▸ apart.symm) (fun e => apart (e ▸ atR.symm)) (fun e => apart (e ▸ atK.symm))

theorem undisturbed_resumeBench (placed : Placed s) (hi : i < s.benchN) (alone : ∀ i ∈ s.coHosted j, i = j) (hij : i ≠ j) :
    Undisturbed j s (s.resumeBench i) := by
  by_cases h : Stopped s i
  · obtain ⟨b, resumes⟩ := resumeBench_sets h
    rw [resumes]
    obtain ⟨bench, resident⟩ := undisturbed_foldTry (s := s.setBench i b) (j := j) placed hi alone hij
    exact ⟨bench.trans (bench_setBench_ne s b hij.symm), resident⟩
  · rw [resumeBench_idle h]
    exact ⟨rfl, rfl⟩

/-- What the Benches of a list, resumed one after the other, leave of a Bench that is not among them and alone has its physical Bench. -/
theorem resume_others (is : List Nat) (s : State) (placed : Placed s) (hi : ∀ i ∈ is, i < s.benchN ∧ i ≠ j)
    (alone : ∀ i ∈ s.coHosted j, i = j) : Placed (is.foldl State.resumeBench s) ∧ Undisturbed j s (is.foldl State.resumeBench s) := by
  induction is generalizing s with
  | nil => exact ⟨placed, rfl, rfl⟩
  | cons i is ih =>
    obtain ⟨inside, other⟩ := hi i List.mem_cons_self
    have step := resumes_resumeBench s i
    obtain ⟨bench, resident⟩ := undisturbed_resumeBench placed inside alone other
    obtain ⟨placed', bench', resident'⟩ := ih (s.resumeBench i) (placed_resumeBench placed i)
      (fun k hk => step.places.benchN ▸ hi k (List.mem_cons_of_mem i hk)) (by rwa [step.places.coHosted])
    exact ⟨placed', bench'.trans bench, resident'.trans resident⟩

/-- What BREAK_RESUME of every Bench leaves of one that alone has its physical Bench. -/
theorem resume_all (placed : Placed s) (hj : j < s.benchN) (alone : ∀ i ∈ s.coHosted j, i = j) :
    (Stopped s j → s.resident j = some j →
      ((List.range s.benchN).foldl State.resumeBench s).bench j = { s.bench j with st := backTo (s.bench j) }) ∧
    (¬Stopped s j → ((List.range s.benchN).foldl State.resumeBench s).bench j = s.bench j) := by
  obtain ⟨before, after, split⟩ := List.append_of_mem (List.mem_range.2 hj)
  have once : (before ++ j :: after).Nodup := split ▸ List.nodup_range
  have listed : ∀ i ∈ before ++ j :: after, i < s.benchN := fun i hi => List.mem_range.1 (split ▸ hi)
  rw [List.nodup_append, List.nodup_cons] at once
  obtain ⟨-, ⟨notAfter, -⟩, notBefore⟩ := once
  have first := resumes_all before s
  obtain ⟨placed1, bench1, resident1⟩ := resume_others before s placed
    (fun i hi => ⟨listed i (by simp [hi]), notBefore i hi j List.mem_cons_self⟩) alone
  rw [split, List.foldl_append, List.foldl_cons]
  generalize before.foldl State.resumeBench s = u at *
  have alone1 : ∀ i ∈ u.coHosted j, i = j := by rwa [first.places.coHosted]
  have own := first.trans (resumes_resumeBench u j)
  obtain ⟨-, bench2, -⟩ := resume_others after (u.resumeBench j) (placed_resumeBench placed1 j)
    (fun i hi => ⟨own.places.benchN ▸ listed i (by simp [hi]), fun e => notAfter (by rwa [e] at hi)⟩) (by rwa [own.places.coHosted])
  have stopped := first.stopped bench1
  refine ⟨fun h runs => ?_, fun h => ?_⟩
  · have resumed := resumeBench_runs (stopped.2 h) (resident1.trans runs) (foldNext_alone alone1)
    rw [bench2, resumed.1.1, bench1]
  · rw [bench2, resumeBench_idle (mt stopped.1 h), bench1]

end

/-! ### O27 -/

/-- Settles O27; of the broadcast form: a Bench that alone has its physical Bench is resumed by its own turn only. -/
theorem slotsCompleteAndBundlesRetire : Obligations.SlotsCompleteAndBundlesRetire := by
  unfold Obligations.SlotsCompleteAndBundlesRetire
  intro t l pos s hl b done
  have clock : Only [.clock] s (s.at t) := s.only_at t
  have stays {c : Instr} {y : State} (hc : exec c s = .next y) (same : y = s.at t) : ∃ u : State, exec c s = .next u ∧ Only [.clock] s u :=
    ⟨_, hc.trans (congrArg _ same), clock⟩
  have becomes {c : Instr} {d : Bench} {y : State} (hc : exec c s = .next y) (hy : Becomes l d (s.at t) y) :
      ∃ u : State, exec c s = .next u ∧ BenchIs l d s u ∧ Only [.clock, .benches] s u :=
    ⟨y, hc, hy.1, clock.comp hy.2 (by simp) (by simp)⟩
  have completes : exec (.slotComplete t l pos) s = .next ((s.at t).slotComplete l pos) := rfl
  have retires : exec (.bundleRetire t l) s = .next ((s.at t).bundleRetire l) := rfl
  refine ⟨fun acts => ⟨?_, ?_, ?_, ?_⟩, fun ready => ?_⟩
  · intro u x found held
    have marked := becomes_markSlot (s := s.at t) (l := l) u.id pos .complete
    have frees := moverFree_frees ((s.at t).markSlot l u.id pos .complete) l (fun i q => i == u.id && q == pos)
    have ends := completes.trans (congrArg _ (slotComplete_ends (s := s.at t) acts found))
    refine ⟨_, ends, benchIs_then_only marked.1 frees.2 (by decide), frees.1, fun empty => ?_⟩
    have none' : freed ((s.at t).markSlot l u.id pos .complete) l (fun i q => i == u.id && q == pos) = [] := empty
    rw [moverFree_none none']
    exact clock.comp marked.2 (by simp) (by simp)
  · exact fun none' => stays completes (slotComplete_idle (s := s.at t) none')
  · intro u us first
    refine ⟨fun ended => ?_, fun incomplete => stays retires (bundleRetire_waits first incomplete)⟩
    intro ret
    have advances := bundleRetire_retires (s := s.at t) acts first ended
    refine ⟨fun goes => ?_, fun enabled reached stops alone => ?_⟩
    · have stored : ((s.at t).setBench l { b with flight := us }).bench l = { b with flight := us } := bench_setBench_same _ l _
      have counts := retireOne_counts (s := (s.at t).setBench l { b with flight := us }) (l := l) (by rw [stored]; exact goes)
      rw [stored] at counts
      exact becomes (retires.trans (congrArg _ (advances.trans counts))) (becomes_trans (becomes_setBench _) (becomes_setBench _))
    · obtain ⟨bench, isSet, words, only, -⟩ := bundleRetire_breaks (s := s.at t) hl acts first ended enabled reached stops alone
      exact ⟨_, retires, bench, isSet, words, clock.comp only (by simp) (by simp)⟩
  · exact fun empty => stays retires (bundleRetire_empty (s := s.at t) empty)
  · intro back
    have resume : exec (.breakResume t (some l)) s = .next ((s.at t).resumeBench l) := next_cmd ready
    have resumeAll : exec (.breakResume t none) s = .next ((List.range s.benchN).foldl State.resumeBench (s.at t)) := next_cmd ready
    refine ⟨fun st on => ?_, fun runs => ?_, fun placed => ?_⟩
    · have stopped : Stopped (s.at t) l := ⟨st, on⟩
      refine ⟨fun runs alone => ?_, fun r runs other keeps => ?_⟩
      · obtain ⟨y, hy, bench, only⟩ := becomes resume (resumeBench_runs stopped runs alone)
        exact ⟨y, hy, only, bench⟩
      · obtain ⟨y, hy, bench, only⟩ := becomes resume (resumeBench_foldsOut stopped runs other keeps)
        exact ⟨y, hy, only, bench⟩
    · exact stays resume (resumeBench_idle fun stopped => runs stopped.1)
    · have all : Resumes (s.at t) ((List.range s.benchN).foldl State.resumeBench (s.at t)) :=
        resumes_all _ (s.at t)
      refine ⟨_, resumeAll, all.words, clock.comp all.only (by simp) (by simp), fun j hj alone => ?_⟩
      obtain ⟨resumed, other⟩ := resume_all (s := s.at t) placed hj alone
      exact ⟨fun st on runs => resumed ⟨st, on⟩ runs, fun st => other fun stopped => st stopped.1⟩

end Sys2Proof.Proofs.Streams
end

section
/-! PROOFS. Kernel banks: the image that a Bench runs, and the reload that a KLD starts (R206, R208, R209). -/

open Sys2Proof Sys2Proof.Machine Sys2Proof.Proofs.Casting Sys2Proof.Proofs.Grid Sys2Proof.Proofs.Numbers Sys2Proof.Proofs.Mill

namespace Sys2Proof.Proofs.Streams

/-! ### Banks (R206, R209) -/

/-- The node with other state of the Mill. -/
def withMill (s : State) (m : MillState) : State := { s with mill := m }

theorem only_withMill (s : State) (m : MillState) : Only [.mill] s (withMill s m) := by
  intro part hp
  cases part
  case mill => simp at hp
  all_goals simp [Part.same, withMill, State.word, State.byteAt]

theorem only_dropSwap (s : State) (l : Nat) (bank : Bool) : Only [.mill] s (s.dropSwap l bank) := only_withMill s _

/-- A Bench whose inactive bank holds image `img`, armed. -/
def reloaded (b : Bench) (img : Nat) : Bench := { b.setBank (!b.active) ⟨img, true, none⟩ with armed := true }

/-- A Bench whose banks swapped once its inactive one holds image `img`, and which goes on at its ENTRY. -/
def restarted (b : Bench) (img entry : Nat) : Bench :=
  { reloaded b img with active := !b.active, armed := false, loops := [], restart := true, pc := entry }

/-- The image of a Bench whose banks swapped is the one that was loaded. -/
theorem kimg_swapped (s : State) (b : Bench) (img : Nat) :
    s.kimg { reloaded b img with active := !b.active, armed := false, loops := [] } = kernImage s.kern img := by
  unfold State.kimg reloaded Bench.setBank
  cases b.active <;> rfl

section
variable {s : State} {l : Nat}

theorem endReload_arms (runs : (s.bench l).halted = false) (img : Nat) : s.endReload l img = s.setBench l (reloaded (s.bench l) img) :=
  if_neg (by simp [runs])

theorem active_reloaded (b : Bench) (img : Nat) : (reloaded b img).active = b.active := by
  unfold reloaded Bench.setBank
  cases b.active <;> rfl

theorem swapBanks_eq (s : State) (l : Nat) : s.swapBanks l =
    s.setBench l { s.bench l with active := !(s.bench l).active, armed := false, loops := []
                                  pc := kEntry (s.kimg { s.bench l with active := !(s.bench l).active, armed := false, loops := [] }) } := rfl

theorem endReload_swaps (drained : (s.bench l).halted = true) (img : Nat) :
    Becomes l (restarted (s.bench l) img (kEntry (kernImage s.kern img))) s (s.endReload l img) := by
  let t := s.setBench l (reloaded (s.bench l) img)
  have shown : t.bench l = reloaded (s.bench l) img := bench_setBench_same s l _
  have ends : s.endReload l img = (t.swapBanks l).setBench l { (t.swapBanks l).bench l with restart := true } := if_pos drained
  have image : t.kimg { reloaded (s.bench l) img with active := !(s.bench l).active, armed := false, loops := [] } = kernImage s.kern img :=
    kimg_swapped t (s.bench l) img
  have swapped : (t.swapBanks l).bench l =
      { reloaded (s.bench l) img with active := !(s.bench l).active, armed := false, loops := [], pc := kEntry (kernImage s.kern img) } := by
    rw [swapBanks_eq, bench_setBench_same, shown, active_reloaded, image]
  rw [ends, swapped]
  exact becomes_trans (becomes_trans (becomes_setBench _) (becomes_setBench _)) (becomes_setBench _)

/-! ### KLD (R208 to R210) -/

section
variable {u : Bundle} {x : Slot} (h : s.ready? l 0 2 = some (u, x))
include h

theorem opKld_eq : s.opKld l =
    if kernImgs s.kern ≤ bitsOf x.word 16 12 then s.streamError l u.id u.pc x.pos 11
    else if (bitsOf x.word 4 1 == 1) = (s.bench l).active then (s.markSlot l u.id x.pos .complete).fault .sw 0 12 (mBench l) 6
    else if ((s.bench l).bank (bitsOf x.word 4 1 == 1)).reload.isSome then s
    else ((s.setBench l ((s.bench l).startReload false)).dropSwap l (bitsOf x.word 4 1 == 1)).markSlot l u.id x.pos .performed := by
  rw [State.opKld, h]

theorem opKld_outside (out : kernImgs s.kern ≤ bitsOf x.word 16 12) : s.opKld l = s.streamError l u.id u.pc x.pos 11 := by
  rw [opKld_eq h, if_pos out]

theorem opKld_active (inside : bitsOf x.word 16 12 < kernImgs s.kern) (active : (bitsOf x.word 4 1 == 1) = (s.bench l).active) :
    s.opKld l = (s.markSlot l u.id x.pos .complete).fault .sw 0 12 (mBench l) 6 := by
  rw [opKld_eq h, if_neg (Nat.not_le.2 inside), if_pos active]

variable (inside : bitsOf x.word 16 12 < kernImgs s.kern) (other : (bitsOf x.word 4 1 == 1) ≠ (s.bench l).active)
include inside other

theorem opKld_inactive : s.opKld l =
    if ((s.bench l).bank (!(s.bench l).active)).reload.isSome then s
    else ((s.setBench l ((s.bench l).startReload false)).dropSwap l (!(s.bench l).active)).markSlot l u.id x.pos .performed := by
  rw [opKld_eq h, if_neg (Nat.not_le.2 inside), if_neg other, Bool.eq_not_of_ne other]

theorem opKld_waits (busy : ((s.bench l).bank (!(s.bench l).active)).reload.isSome = true) : s.opKld l = s := by
  rw [opKld_inactive h inside other, if_pos busy]

theorem opKld_starts (free : ((s.bench l).bank (!(s.bench l).active)).reload = none) :
    BenchIs l (((s.bench l).startReload false).mark u.id x.pos .performed) s (s.opKld l) ∧ (s.opKld l).mill.reload = s.mill.reload ∧
      Only [.benches, .mill] s (s.opKld l) := by
  let t := s.setBench l ((s.bench l).startReload false)
  let d := t.dropSwap l (!(s.bench l).active)
  have starts : s.opKld l = d.markSlot l u.id x.pos .performed := by
    rw [opKld_inactive h inside other, free]
    rfl
  have started : BenchIs l ((s.bench l).startReload false) s d :=
    benchIs_then_only (benchIs_setBench s l _) (only_dropSwap t l _) (by decide)
  have marked := benchIs_markSlot d l u.id x.pos .performed
  rw [started.1] at marked
  have only : Only [.benches, .mill] s d := (only_setBench s l _).comp (only_dropSwap t l _) (by simp) (by simp)
  rw [starts]
  exact ⟨benchIs_trans started marked, rfl, only.trans ((only_markSlot _ _ _ _ _).mono (by simp))⟩

end

end

end Sys2Proof.Proofs.Streams
end

section
/-! PROOFS. Host reloads of kernel banks: what refuses a GO, and what it starts (R210, R217). -/

open Sys2Proof Sys2Proof.Machine Sys2Proof.Proofs.Casting Sys2Proof.Proofs.Grid Sys2Proof.Proofs.Numbers Sys2Proof.Proofs.Mill

namespace Sys2Proof.Proofs.Streams

/-- A note of class SW (R214, R217). -/
theorem reports_note (s : State) (m : Master) (acc : Nat) :
    (s.fault .sw 0 12 m acc).flt.reports = s.flt.reports ++ [⟨.sw, 0, 12, m, acc, 0, s.now, false, false⟩] := rfl

/-! ### RELOAD_GO (R210, R217) -/

/-- What a refused GO shows (R217). -/
structure GoRefused (code : Nat) (s y : State) : Prop where
  refused : y.bit MIL_RLD_STAT_REFUSED = true
  code : y.rd MIL_RLD_STAT_CODE = code
  flt : y.flt = s.flt
  words : WordsOnly [MIL_RLD_STAT_CODE.addr] s y
  only : Only [.clock, .regs] s y

theorem reloadRefused_shows (s : State) {code : Nat} (h : code < 256) : GoRefused code s (s.reloadRefused code) where
  refused := (bit_of_rd (State.rd_wr_ne _ _ _ _ (.inr (by decide)))).trans (bit_raise s MIL_RLD_STAT_REFUSED rfl (by decide))
  code := (State.rd_wr_same _ _ _ (by decide)).trans (Nat.mod_eq_of_lt h)
  flt := rfl
  words := (words_raise s MIL_RLD_STAT_REFUSED).trans (State.words_wr _ MIL_RLD_STAT_CODE code)
  only := (s.only_raise _).comp (State.only_wr _ _ _) (by simp) (by simp)

section
variable (s : State) (p : Path)

/-- The logical Benches that a GO names, those of them whose named bank is active, and those whose bank is reloaded. -/
def goNames : List Nat :=
  if s.bit MIL_RLD_SEL_ALL then List.range s.benchN
  else if s.rd MIL_RLD_SEL_LBENCH < s.benchN then [s.rd MIL_RLD_SEL_LBENCH] else []
def goActive (l : Nat) : Bool := (s.bench l).active == s.bit MIL_RLD_SEL_BANK
def goSkips : List Nat := (goNames s).filter (goActive s)
def goStarts : List Nat := (goNames s).filter (fun l => !goActive s l)

/-- The node in which each skipped Bench has left its note. -/
def goNoted : State := (goSkips s).foldl (fun t _ => t.swNote 12 p.master) s

/-- The node in which a GO of every Bench has counted those it skips. -/
def goCounted : State := if s.bit MIL_RLD_SEL_ALL then (goNoted s p).wr MIL_RLD_STAT_SKIPPED (goSkips s).length else goNoted s p

/-- The node with a host reload of Bench `l` begun. -/
def hostStart (bank : Bool) (s : State) (l : Nat) : State := (s.setBench l ((s.bench l).startReload true)).dropSwap l bank

/-- What a GO that may act starts. -/
def goBegins (t : State) : State :=
  let bank := s.bit MIL_RLD_SEL_BANK
  let t := (goStarts s).foldl (hostStart bank) t
  let t := if s.bit MIL_RLD_SEL_ALL then t.dropSwap 0xFFFF bank else t
  if goStarts s = [] then t.raise MIL_RLD_STAT_DONE
  else withMill (t.wrBit MIL_RLD_STAT_BUSY true) { t.mill with
    reload := some ⟨s.bit MIL_RLD_SEL_ALL, s.rd MIL_RLD_SEL_LBENCH, bank, s.rd MIL_RLD_SEL_LIB, goStarts s, none⟩ }

/-- A GO may act: the node is CAST, no reload runs, and the image is in the library. -/
structure GoMay : Prop where
  cast : s.nodeState = stCast
  free : s.bit MIL_RLD_STAT_BUSY = false
  inside : s.rd MIL_RLD_SEL_LIB < kernImgs s.kern

variable {s}

theorem reloadGo_notCast (h : s.nodeState ≠ stCast) : s.reloadGo p = s.reloadRefused 0x22 := if_pos h

theorem reloadGo_busy (cast : s.nodeState = stCast) (busy : s.bit MIL_RLD_STAT_BUSY = true) : s.reloadGo p = s.reloadRefused 0x21 :=
  (if_neg (not_not.2 cast)).trans (if_pos busy)

theorem reloadGo_outside (cast : s.nodeState = stCast) (free : s.bit MIL_RLD_STAT_BUSY = false)
    (out : kernImgs s.kern ≤ s.rd MIL_RLD_SEL_LIB) : s.reloadGo p = s.reloadRefused 0x0B :=
  (if_neg (not_not.2 cast)).trans ((if_neg (by simp [free])).trans (if_pos out))

theorem reloadGo_may (h : GoMay s) : s.reloadGo p =
    if (goStarts s).any (fun l => ((s.bench l).bank (s.bit MIL_RLD_SEL_BANK)).reload.isSome) then s.reloadRefused 0x21
    else if !s.bit MIL_RLD_SEL_ALL && goSkips s ≠ [] then (goCounted s p).reloadRefused 0x0C
    else goBegins s (goCounted s p) := by
  obtain ⟨cast, free, inside⟩ := h
  refine (if_neg (not_not.2 cast)).trans ((if_neg (by simp [free])).trans ((if_neg (Nat.not_le.2 inside)).trans ?_))
  rfl

theorem only_hostStart (bank : Bool) (s : State) (l : Nat) : Only [.benches, .mill] s (hostStart bank s l) :=
  (only_setBench s l _).comp (only_dropSwap _ l bank) (by simp) (by simp)

theorem benchIs_hostStart (bank : Bool) (s : State) (l : Nat) : BenchIs l ((s.bench l).startReload true) s (hostStart bank s l) :=
  benchIs_then_only (benchIs_setBench s l _) (only_dropSwap _ l bank) (by decide)

/-! ### GO of one Bench -/

section
variable {l : Nat} (may : GoMay s) (one : s.bit MIL_RLD_SEL_ALL = false) (named : s.rd MIL_RLD_SEL_LBENCH = l) (placed : l < s.benchN)
include one named placed

theorem goNames_one : goNames s = [l] := by
  rw [goNames, one, named, if_pos placed]
  rfl

theorem goSkips_one : goSkips s = if goActive s l then [l] else [] := by
  rw [goSkips, goNames_one one named placed, List.filter_singleton]
  cases goActive s l <;> rfl

theorem goStarts_one : goStarts s = if goActive s l then [] else [l] := by
  rw [goStarts, goNames_one one named placed, List.filter_singleton]
  cases goActive s l <;> rfl

include may

theorem reloadGo_active (active : goActive s l = true) : s.reloadGo p = (s.swNote 12 p.master).reloadRefused 0x0C := by
  have skips : goSkips s = [l] := (goSkips_one one named placed).trans (if_pos active)
  have starts : goStarts s = [] := (goStarts_one one named placed).trans (if_pos active)
  rw [reloadGo_may p may, starts, goCounted, one, goNoted, skips]
  rfl

theorem reloadGo_reloading (other : goActive s l = false) (busy : ((s.bench l).bank (s.bit MIL_RLD_SEL_BANK)).reload.isSome = true) :
    s.reloadGo p = s.reloadRefused 0x21 := by
  have starts : goStarts s = [l] := (goStarts_one one named placed).trans (if_neg (by simp [other]))
  rw [reloadGo_may p may, starts]
  exact if_pos (by simp [busy])

theorem reloadGo_one (other : goActive s l = false) (free : ((s.bench l).bank (s.bit MIL_RLD_SEL_BANK)).reload = none) :
    s.reloadGo p = withMill ((hostStart (s.bit MIL_RLD_SEL_BANK) s l).wrBit MIL_RLD_STAT_BUSY true)
      { (hostStart (s.bit MIL_RLD_SEL_BANK) s l).mill with
        reload := some ⟨false, l, s.bit MIL_RLD_SEL_BANK, s.rd MIL_RLD_SEL_LIB, [l], none⟩ } := by
  have skips : goSkips s = [] := (goSkips_one one named placed).trans (if_neg (by simp [other]))
  have starts : goStarts s = [l] := (goStarts_one one named placed).trans (if_neg (by simp [other]))
  rw [reloadGo_may p may, goBegins, goCounted, goNoted, skips, starts, one, named]
  exact if_neg (by simp [free])

/-- A GO of one Bench whose named bank is inactive and free starts its reload. -/
theorem reloadGo_starts (other : goActive s l = false) (free : ((s.bench l).bank (s.bit MIL_RLD_SEL_BANK)).reload = none) :
    BenchIs l ((s.bench l).startReload true) s (s.reloadGo p) ∧ (s.reloadGo p).bit MIL_RLD_STAT_BUSY = true ∧
      (s.reloadGo p).mill.reload = some ⟨false, l, s.bit MIL_RLD_SEL_BANK, s.rd MIL_RLD_SEL_LIB, [l], none⟩ ∧
      WordsOnly [MIL_RLD_STAT_BUSY.addr] s (s.reloadGo p) ∧ Only [.regs, .benches, .mill] s (s.reloadGo p) := by
  rw [reloadGo_one p may one named placed other free]
  let v := hostStart (s.bit MIL_RLD_SEL_BANK) s l
  have starts : Only [.benches, .mill] s v := only_hostStart _ s l
  have busy := v.only_wrBit MIL_RLD_STAT_BUSY true
  have reload := only_withMill (v.wrBit MIL_RLD_STAT_BUSY true) { v.mill with
    reload := some ⟨false, l, s.bit MIL_RLD_SEL_BANK, s.rd MIL_RLD_SEL_LIB, [l], none⟩ }
  have rest := busy.comp reload (n := [.regs, .mill]) (by simp) (by simp)
  refine ⟨benchIs_then_only (benchIs_hostStart _ s l) rest (by decide), ?_, rfl, fun a ha => ?_, starts.comp rest (by simp) (by simp)⟩
  · exact (bit_of_only reload (by decide) _).trans (v.bit_wrBit _ true rfl (by decide))
  · exact (reload .regs (by decide) a).trans ((v.words_wrBit _ true a ha).trans (starts .regs (by decide) a))

end

/-! ### GO of every Bench -/

theorem bench_hostStarts (bank : Bool) (go : List Nat) (s : State) (once : go.Nodup) (j : Nat) :
    (go.foldl (hostStart bank) s).bench j = if j ∈ go then (s.bench j).startReload true else s.bench j := by
  induction go generalizing s with
  | nil => rfl
  | cons l go ih =>
    obtain ⟨apart, once'⟩ := List.nodup_cons.1 once
    obtain ⟨own, others⟩ := benchIs_hostStart bank s l
    rw [List.foldl_cons, ih _ once']
    by_cases here : j = l
    · subst here
      rw [if_neg apart, own, if_pos List.mem_cons_self]
    · rw [others j here]
      simp only [List.mem_cons, here, false_or]

theorem mem_goStarts {s : State} (all : s.bit MIL_RLD_SEL_ALL = true) (j : Nat) :
    j ∈ goStarts s ↔ (decide (j < s.benchN) && (s.bench j).active != s.bit MIL_RLD_SEL_BANK) = true := by
  rw [goStarts, goNames, if_pos all, List.mem_filter, List.mem_range, Bool.and_eq_true, decide_eq_true_eq]
  rfl

theorem goSkips_all {s : State} (all : s.bit MIL_RLD_SEL_ALL = true) :
    goSkips s = (List.range s.benchN).filter (fun j => !(decide (j < s.benchN) && (s.bench j).active != s.bit MIL_RLD_SEL_BANK)) := by
  rw [goSkips, goNames, if_pos all]
  refine List.filter_congr fun j hj => ?_
  have inside : j < s.benchN := List.mem_range.1 hj
  simp only [inside, decide_true, Bool.true_and, bne, Bool.not_not]
  rfl

/-- What a GO of every Bench shows: the Benches whose bank starts, and the count of those skipped. -/
structure GoAll (s y : State) : Prop where
  bench : ∀ j, y.bench j = if j ∈ goStarts s then (s.bench j).startReload true else s.bench j
  skipped : y.rd MIL_RLD_STAT_SKIPPED = (goSkips s).length % 2 ^ 16
  busy : goStarts s ≠ [] → y.bit MIL_RLD_STAT_BUSY = true
  only : Only [.clock, .regs, .benches, .mill, .flt] s y

theorem only_goNoted (s : State) (p : Path) : Only [.flt] s (goNoted s p) := Only.foldl _ (fun t _ => t.only_fault _ _ _ _ _ _ _) _ _

theorem reloadGo_all (may : GoMay s) (all : s.bit MIL_RLD_SEL_ALL = true)
    (free : ∀ j ∈ goStarts s, ((s.bench j).bank (s.bit MIL_RLD_SEL_BANK)).reload = none) : GoAll s (s.reloadGo p) := by
  let t := (goNoted s p).wr MIL_RLD_STAT_SKIPPED (goSkips s).length
  let v := ((goStarts s).foldl (hostStart (s.bit MIL_RLD_SEL_BANK)) t).dropSwap 0xFFFF (s.bit MIL_RLD_SEL_BANK)
  have idle : ¬(goStarts s).any (fun l => ((s.bench l).bank (s.bit MIL_RLD_SEL_BANK)).reload.isSome) = true := fun busy => by
    obtain ⟨j, hj, reloads⟩ := List.any_eq_true.1 busy
    rw [free j hj] at reloads
    cases reloads
  have goes : s.reloadGo p = if goStarts s = [] then v.raise MIL_RLD_STAT_DONE
      else withMill (v.wrBit MIL_RLD_STAT_BUSY true) { v.mill with
        reload := some ⟨true, s.rd MIL_RLD_SEL_LBENCH, s.bit MIL_RLD_SEL_BANK, s.rd MIL_RLD_SEL_LIB, goStarts s, none⟩ } := by
    rw [reloadGo_may p may, if_neg idle, goBegins, goCounted, all]
    rfl
  have noted : Only [.regs, .flt] s t := (only_goNoted s p).comp (State.only_wr _ _ _) (by simp) (by simp)
  have started : Only [.benches, .mill] t v :=
    (Only.foldl _ (only_hostStart (s.bit MIL_RLD_SEL_BANK)) _ _).trans ((only_dropSwap _ _ _).mono (by simp))
  have once : (goStarts s).Nodup := by
    rw [goStarts, goNames, if_pos all]
    exact List.nodup_range.filter _
  have bench : ∀ j, v.bench j = if j ∈ goStarts s then (s.bench j).startReload true else s.bench j := fun j => by
    rw [bench_of_only (only_dropSwap _ _ _) (by decide) j, bench_hostStarts _ _ _ once, bench_of_only noted (by decide) j]
  have skipped : v.rd MIL_RLD_STAT_SKIPPED = (goSkips s).length % 2 ^ 16 :=
    (rd_of_only started (by decide) _).trans (State.rd_wr_same _ _ _ (by decide))
  have only : Only [.clock, .regs, .benches, .mill, .flt] s v := noted.comp started (by simp) (by simp)
  rw [goes]
  split
  · rename_i none'
    have raised := v.only_raise MIL_RLD_STAT_DONE
    exact ⟨fun j => (bench_of_only raised (by decide) j).trans (bench j), (rd_raise_ne v _ _ (.inr (by decide))).trans skipped,
      fun some => absurd none' some, only.trans (raised.mono (by simp))⟩
  · have busy := v.only_wrBit MIL_RLD_STAT_BUSY true
    have reload := only_withMill (v.wrBit MIL_RLD_STAT_BUSY true) { v.mill with
      reload := some ⟨true, s.rd MIL_RLD_SEL_LBENCH, s.bit MIL_RLD_SEL_BANK, s.rd MIL_RLD_SEL_LIB, goStarts s, none⟩ }
    refine ⟨fun j => ?_, ?_, fun _ => ?_, ?_⟩
    · exact (bench_of_only reload (by decide) j).trans ((bench_of_only busy (by decide) j).trans (bench j))
    · exact (rd_of_only reload (by decide) _).trans ((State.rd_wrBit_ne v _ _ _ (.inr (by decide))).trans skipped)
    · exact (bit_of_only reload (by decide) _).trans (v.bit_wrBit _ true rfl (by decide))
    · exact only.trans (busy.comp reload (by simp) (by simp))

end

end Sys2Proof.Proofs.Streams
end

section
/-! PROOFS. Reloads of kernel banks that end, of a KLD and of the host (R209 to R211). -/

open Sys2Proof Sys2Proof.Machine Sys2Proof.Proofs.Casting Sys2Proof.Proofs.Grid Sys2Proof.Proofs.Numbers Sys2Proof.Proofs.Mill

namespace Sys2Proof.Proofs.Streams

/-! ### RELOAD_COMPLETE (R209 to R211) -/

section
variable {s : State} {l : Nat}

theorem reloadComplete_none (h : ((s.bench l).bank (!(s.bench l).active)).reload = none) : s.reloadComplete l = s := by
  unfold State.reloadComplete
  dsimp only
  rw [h, ite_self]

/-- The slot of a KLD completes with its reload: the bank is armed, and a drained Bench swaps its banks. -/
theorem endReload_marked (id img : Nat) :
    ((s.bench l).halted = false → Becomes l (reloaded ((s.bench l).mark id 0 .complete) img) s ((s.markSlot l id 0 .complete).endReload l img)) ∧
    ((s.bench l).halted = true → Becomes l (restarted ((s.bench l).mark id 0 .complete) img (kEntry (kernImage s.kern img))) s
      ((s.markSlot l id 0 .complete).endReload l img)) := by
  have shown : (s.markSlot l id 0 .complete).bench l = (s.bench l).mark id 0 .complete := bench_setBench_same s l _
  have marked : Becomes l ((s.bench l).mark id 0 .complete) s (s.markSlot l id 0 .complete) := becomes_markSlot _ _ _
  refine ⟨fun runs => ?_, fun drained => ?_⟩
  · rw [endReload_arms (by rw [shown]; exact runs), shown]
    exact becomes_trans marked (becomes_setBench _)
  · have swaps := endReload_swaps (s := s.markSlot l id 0 .complete) (l := l) (by rw [shown]; exact drained) img
    rw [shown] at swaps
    exact becomes_trans marked swaps

variable (force : s.inForce = true) (placed : l < s.benchN)
include force placed

theorem reloadComplete_kld (asked : ((s.bench l).bank (!(s.bench l).active)).reload = some false) {u : Bundle} {x : Slot}
    (slot : (s.bench l).slots.find? (fun e => e.2.pos == 0 && bitsOf e.2.word 0 4 == 2 && e.2.phase == .performed) = some (u, x)) :
    s.reloadComplete l = (s.markSlot l u.id 0 .complete).endReload l (bitsOf x.word 16 12) := by
  unfold State.reloadComplete
  dsimp only
  rw [if_pos (by simp [force, placed]), asked]
  dsimp only
  rw [slot]

theorem reloadComplete_host {bank : Bool} {lib : Nat} (asked : ((s.bench l).bank (!(s.bench l).active)).reload = some true)
    (reload : s.mill.reload = some ⟨false, l, bank, lib, [l], none⟩) (runs : (s.bench l).halted = false) :
    s.reloadComplete l = withMill (((s.setBench l (reloaded (s.bench l) lib)).wrBit MIL_RLD_STAT_BUSY false).raise MIL_RLD_STAT_DONE)
      { s.mill with swaps := s.mill.swaps.filter (fun e => e ≠ (l, bank, lib)) ++ [(l, bank, lib)], reload := none } := by
  have host : s.reloadComplete l = s.hostReloadEnd l ⟨false, l, bank, lib, [l], none⟩ := by
    unfold State.reloadComplete
    dsimp only
    rw [if_pos (by simp [force, placed]), asked]
    dsimp only
    rw [reload]
    exact if_pos (List.mem_singleton.2 rfl)
  have last : ([l] : List Nat).filter (fun j => decide (j ≠ l)) = [] := by simp
  rw [host]
  simp only [State.hostReloadEnd, runs, endReload_arms runs lib, last, Bool.false_eq_true, if_false, if_true]
  rfl

/-- The last Bench of a host reload ends it: its record waits for the seam of the swap. -/
theorem reloadComplete_ends {bank : Bool} {lib : Nat} (asked : ((s.bench l).bank (!(s.bench l).active)).reload = some true)
    (reload : s.mill.reload = some ⟨false, l, bank, lib, [l], none⟩) (runs : (s.bench l).halted = false) :
    BenchIs l (reloaded (s.bench l) lib) s (s.reloadComplete l) ∧ (s.reloadComplete l).bit MIL_RLD_STAT_BUSY = false ∧
      (s.reloadComplete l).bit MIL_RLD_STAT_DONE = true ∧ (s.reloadComplete l).mill.reload = none ∧
      (l, bank, lib) ∈ (s.reloadComplete l).mill.swaps ∧ WordsOnly [MIL_RLD_STAT_BUSY.addr] s (s.reloadComplete l) ∧
      Only [.clock, .regs, .benches, .mill] s (s.reloadComplete l) := by
  rw [reloadComplete_host force placed asked reload runs]
  let v := s.setBench l (reloaded (s.bench l) lib)
  let idle := v.wrBit MIL_RLD_STAT_BUSY false
  have set : Becomes l (reloaded (s.bench l) lib) s v := becomes_setBench _
  have shown : Only [.clock, .regs] v (idle.raise MIL_RLD_STAT_DONE) :=
    (v.only_wrBit MIL_RLD_STAT_BUSY false).comp (idle.only_raise MIL_RLD_STAT_DONE) (by simp) (by simp)
  have last := only_withMill (idle.raise MIL_RLD_STAT_DONE) { s.mill with
    swaps := s.mill.swaps.filter (fun e => e ≠ (l, bank, lib)) ++ [(l, bank, lib)], reload := none }
  have rest := shown.comp last (n := [.clock, .regs, .mill]) (by simp) (by simp)
  refine ⟨benchIs_then_only set.1 rest (by decide), ?_, ?_, rfl, List.mem_append_right _ (List.mem_singleton.2 rfl), fun a ha => ?_,
    set.2.comp rest (by simp) (by simp)⟩
  · refine (bit_of_only last (by decide) _).trans ((bit_of_rd (rd_raise_ne idle _ _ (.inr (by decide)))).trans ?_)
    exact v.bit_wrBit _ false rfl (by decide)
  · exact (bit_of_only last (by decide) _).trans (bit_raise idle _ rfl (by decide))
  · exact (last .regs (by decide) a).trans ((words_raise idle MIL_RLD_STAT_DONE a ha).trans (v.words_wrBit _ false a ha))

end

/-! ### O36 -/

/-- Settles O36: KLD, then GO by what refuses it, then what ends a reload. -/
theorem kernelBanksReload : Obligations.KernelBanksReload := by
  unfold Obligations.KernelBanksReload
  intro t l p s hl b idle started
  have clock : Only [.clock] s (s.at t) := s.only_at t
  refine ⟨fun u x h => ?_, fun ready => ?_, fun force placed => ?_⟩
  · intro bank img
    have kld : exec (.kld l) s = .next (s.opKld l) := rfl
    refine ⟨fun out => ?_, fun inside active => ?_, fun inside other free => ?_, fun inside other busy => ?_⟩
    · exact stops_of_streamError hl h (by decide) (by decide) (kld.trans (congrArg _ (opKld_outside h out)))
    · have noted := (s.markSlot l u.id x.pos .complete).only_fault .sw 0 12 (mBench l) 6 0 false
      refine ⟨_, kld.trans (congrArg _ (opKld_active h inside active)), ?_, reports_note _ _ _, ?_⟩
      · exact benchIs_then_only (benchIs_markSlot s l _ _ _) noted (by decide)
      · exact (only_markSlot s _ _ _ _).comp noted (by simp) (by simp)
    · obtain ⟨bench, reload, only⟩ := opKld_starts h inside other free
      exact ⟨_, kld, bench, reload, only⟩
    · exact kld.trans (congrArg _ (opKld_waits h inside other busy))
  · intro lib bank refused
    have go : exec (.reloadGo t p) s = .next ((s.at t).reloadGo p) := next_cmd ready
    have refuses {code : Nat} {y : State} {rep : List Report} (hy : (s.at t).reloadGo p = y.reloadRefused code) (hcode : code < 256)
        (noted : Only [.flt] (s.at t) y) (reports : y.flt.reports = s.flt.reports ++ rep) : refused code rep := by
      obtain ⟨isRefused, shown, flt, words, only⟩ := reloadRefused_shows y hcode
      have before : Only [.clock, .regs, .flt] s y := clock.comp noted (by simp) (by simp)
      refine ⟨_, go.trans (congrArg _ hy), isRefused, shown, flt ▸ reports, fun a ha => ?_, before.trans (only.mono (by simp))⟩
      exact (words a ha).trans (noted .regs (by decide) a)
    have plain {code : Nat} (hy : (s.at t).reloadGo p = (s.at t).reloadRefused code) (hcode : code < 256) : refused code [] :=
      refuses hy hcode Only.rfl (List.append_nil _).symm
    refine ⟨fun out => ?_, fun cast busy => ?_, fun cast free out => ?_, fun cast free inside one named placed => ?_,
      fun cast free inside all => ?_⟩
    · exact plain (reloadGo_notCast p out) (by decide)
    · exact plain (reloadGo_busy p cast busy) (by decide)
    · exact plain (reloadGo_outside p cast free out) (by decide)
    · have may : GoMay (s.at t) := ⟨cast, free, inside⟩
      have other (apart : b.active ≠ bank) : goActive (s.at t) l = false := beq_false_of_ne apart
      refine ⟨fun active => ?_, fun apart busy => ?_, fun apart idle' => ?_⟩
      · have goes := reloadGo_active p may one named placed (beq_iff_eq.2 active)
        exact refuses goes (by decide) ((s.at t).only_fault _ _ _ _ _ _ _) (reports_note (s.at t) p.master 3)
      · exact plain (reloadGo_reloading p may one named placed (other apart) busy) (by decide)
      · obtain ⟨bench, busy, reload, words, only⟩ := reloadGo_starts p may one named placed (other apart) idle'
        exact ⟨_, go, bench, busy, reload, words, clock.comp only (by simp) (by simp)⟩
    · intro goes free'
      have may : GoMay (s.at t) := ⟨cast, free, inside⟩
      have starts : ∀ j, j ∈ goStarts (s.at t) ↔ goes j = true := mem_goStarts (s := s.at t) all
      have skips : goSkips (s.at t) = (List.range s.benchN).filter (fun j => !goes j) := goSkips_all (s := s.at t) all
      obtain ⟨bench, skipped, busy, only⟩ := reloadGo_all p may all fun j hj => free' j ((starts j).1 hj)
      refine ⟨_, go, fun j => ?_, skips ▸ skipped, fun ⟨j, hj⟩ => busy (List.ne_nil_of_mem ((starts j).2 hj)), ?_⟩
      · exact (bench j).trans (if_congr (starts j) rfl rfl)
      · exact clock.comp only (by simp) (by simp)
  · intro ended
    have complete : exec (.reloadComplete t l) s = .next ((s.at t).reloadComplete l) := rfl
    refine ⟨fun none' => ⟨_, complete.trans (congrArg _ (reloadComplete_none (s := s.at t) none')), clock⟩, fun u x asked slot => ?_,
      fun asked reload runs => ?_⟩
    · intro img
      have ends := complete.trans (congrArg _ (reloadComplete_kld (s := s.at t) force placed asked slot))
      obtain ⟨arms, swaps⟩ := endReload_marked (s := s.at t) (l := l) u.id img
      refine ⟨fun runs => ?_, fun drained => ?_⟩
      · exact ⟨_, ends, (arms runs).1, clock.comp (arms runs).2 (by simp) (by simp)⟩
      · exact ⟨_, ends, clock.comp (swaps drained).2 (by simp) (by simp), (swaps drained).1⟩
    · obtain ⟨bench, busy, done, none', waits, words, only⟩ := reloadComplete_ends (s := s.at t) force placed asked reload runs
      exact ⟨_, complete, bench, busy, done, none', waits, words, clock.comp only (by simp) (by simp)⟩

end Sys2Proof.Proofs.Streams
end

section
/-! PROOFS. A SELF cell whose check in the Ingot is wrong (R231, R251, R475, R476), and a chunk that finds no pooled cell (R220, R364). -/

open Sys2Proof Sys2Proof.Machine

namespace Sys2Proof.Proofs.Collectives

/-! ### Chunks without cells -/

section
variable {s t : State} {i : CollInst} {phase j : Nat}

/-- A Crucible account whose minimum and maximum are 0 is granted no cell (R363). -/
theorem grant1_cru_none {d : Nat} (lo : t.rd (BP_CRU_MIN_MIN d) = 0) (hi : t.rd (BP_CRU_MAX_MAX d) = 0) (m n : Nat) : t.grant1 d .cru m n = none := by
  simp [State.grant1, State.acctLimits, lo, hi]

/-- A collective that holds nothing and needs a cell of S0 does not get it where the account is granted none. -/
theorem fit_error (holds : i.holds = []) (need : 0 ∈ i.need t.cst.img j) (none : t.grant1 0 .cru 0 0 = none) : t.fit i j = .error 0 := by
  obtain ⟨n, wants⟩ : ∃ n, ((i.need t.cst.img j).filter (fun x => x == 0)).length = n + 1 :=
    Nat.exists_eq_add_one.2 (List.length_pos_of_mem (List.mem_filter.2 ⟨need, rfl⟩))
  simp [State.fit, State.fitDie, holds, wants, State.takeCells, none]

/-- Where the pool has no cell for a chunk that is good, nothing happens but the count (R364). -/
theorem collGo_poolFail {d : Nat} (good : i.bad.contains j = false) (error : t.fit i j = .error d) : s.collGo t i phase j = s.poolFail d := by
  have notBad : j ∉ i.bad := by simpa using good
  simp [State.collGo, notBad, error]

end

/-! ### Cells that wait -/

/-- A collective once in-node rank `r` has brought the bytes of one more cell (R219). -/
def ingested (i : CollInst) (r : Nat) (bs : List Byte) : CollInst :=
  let x := i.ins.getD r .init
  { i with ins := i.ins.set r { x with bytes := x.bytes ++ bs, cells := x.cells + 1 } }

/-- A good cell that waits, and for which the hold has room, is counted as a beat of its Crucible, and its chunk goes on (R228, R243, R254). -/
theorem ingest_waits {s t : State} {i : CollInst} {r cru : Nat} {bs : List Byte} (gather : colOp s.cst.img i.desc ≠ 2)
    (waits : i.waits s.cst.img < (ingested i r bs).waits s.cst.img) (room : (ingested i r bs).waits s.cst.img ≤ colHold s.cst.img i.desc) :
    s.ingest t i r cru bs = s.collGo (t.add64 (CRU_CBEATS_LO cru) 1) (ingested i r bs) (if colMode s.cst.img i.desc = 0 then 0 else 1)
      ((i.ins.getD r .init).cells / colCells s.cst.img i.desc) := by
  unfold ingested at *
  simp only [State.ingest, waits, Nat.not_lt.2 room, gather, decide_true, decide_false, Bool.and_false, Bool.not_true, Bool.false_and,
    Bool.false_eq_true, if_false, if_true]

/-- A good cell that is to wait, of a chunk that needs a cell of S0 and gets none, is not ingested: so after every read that leaves the Casting
and the limits of the Crucibles' account (R364). -/
theorem ingest_poolFail {s t : State} {i : CollInst} {r cru : Nat} {bs : List Byte} (gather : colOp s.cst.img i.desc ≠ 2)
    (waits : i.waits s.cst.img < (ingested i r bs).waits s.cst.img) (room : (ingested i r bs).waits s.cst.img ≤ colHold s.cst.img i.desc)
    (good : i.bad = []) (holds : i.holds = []) (image : t.cst = s.cst)
    (need : 0 ∈ (ingested i r bs).need s.cst.img ((i.ins.getD r .init).cells / colCells s.cst.img i.desc))
    (lo : t.rd (BP_CRU_MIN_MIN 0) = 0) (hi : t.rd (BP_CRU_MAX_MAX 0) = 0) : s.ingest t i r cru bs = s.poolFail 0 := by
  have beats {f : Fld} (low : f.addr < 0x1600008) : (t.add64 (CRU_CBEATS_LO cru) 1).rd f = t.rd f := by
    have : 0x1600008 ≤ (CRU_CBEATS_LO cru).addr := Nat.le_add_right _ _
    exact Casting.rd_wr64_ne t _ f _ (by omega) (by omega)
  have none := grant1_cru_none ((beats (by decide)).trans lo) ((beats (by decide)).trans hi) 0 0
  rw [ingest_waits gather waits room]
  exact collGo_poolFail (by rw [ingested, good]; rfl) (fit_error holds (by rw [State.add64_cst, image]; exact need) none)

/-! ### A wrong check -/

/-- An image of one section, CRUC (R41, R43, R223, R228): a group of SELF alone, and a REDUCE of 64 FP32 elements as aligned integers, from the
first cell of S0's Ingot, which Crucible 0 serves with a hold of one cell. -/
def selfReduceImage : List Byte :=
  List.replicate 6 0 ++ [1, 0] ++ List.replicate 248 0 ++ (leBytes 8 tyCRUC ++ leBytes 8 288 ++ leBytes 8 256 ++ leBytes 8 0) ++
    (leBytes 4 1 ++ leBytes 4 1 ++ List.replicate 56 0) ++ ([1] ++ List.replicate 22 0 ++ [1] ++ List.replicate 8 0) ++ List.replicate 32 0 ++
    ([0, 0, 0, 0, 1, 0x77, 0, 0] ++ leBytes 8 64 ++ leBytes 4 1 ++ leBytes 4 0 ++ leBytes 8 1 ++ List.replicate 32 0 ++ leBytes 4 1 ++
      leBytes 4 0xFFFFFFFF ++ leBytes 4 0 ++ leBytes 4 0xFFFF ++ leBytes 8 ingotBase ++ List.replicate 40 0)

/-- That collective as it runs on this node, nothing contributed yet. -/
def selfReduce : CollInst :=
  { desc := 0, g := 0, mem := [128], seam := 0, start := 0, waiting := false, ins := [.init], pass2 := [], up := [], parts := [], steps := []
    down := [], rx := [], holds := [], bad := [], ready := [], released := [], segs := [], drops := [], served := [], dropped := []
    dst1 := false, stopped := false }

/-- A job that runs it, its Crucible verifying checks, where the cell of SELF keeps a wrong check, as an injection leaves one in the
Ingot (R475, R528), and the pool of S0 has no cell for Crucibles. No word is damaged and no injection armed. -/
def wrongCheck : State :=
  let s := (((State.reset.wr CST_STATE_STATE stCast).wrBit TG_STATUS_STARTED true).wrBit (TM_CFG_EN (tmCru 0)) true).wr (BP_CRU_MAX_MAX 0) 0
  { s with
    cst := { s.cst with img := selfReduceImage }
    coll := ⟨[selfReduce], []⟩
    msys := { s.msys with badChk := [ingotBase] } }

theorem jobRuns_wrongCheck : wrongCheck.jobRuns = true := by decide +kernel

theorem inst_wrongCheck : wrongCheck.inst? 0 0 = some selfReduce := rfl

/-- The cell of SELF is the first of S0's Ingot, and is all that SELF owes. -/
theorem selfSpan_wrongCheck :
    colSrc wrongCheck.cst.img 0 + 256 * (selfReduce.ins.getD 0 .init).cells = ingotBase ∧
      min 256 (selfReduce.owes wrongCheck.cst.img 0) = 256 := by decide +kernel

theorem whole_wrongCheck (a n : Nat) : Whole wrongCheck a n := ⟨by decide +kernel, fun _ _ _ => rfl, fun _ _ _ _ _ _ => rfl⟩

/-- The Crucible finds the check wrong, and the collective fails and ends (R251, R476). -/
theorem selfCell_wrongCheck : (wrongCheck.selfCell selfReduce 0).coll.insts = [] := by decide +kernel

/-- The cell's bytes as a read gives them. -/
def selfBytes : List Byte := wrongCheck.bytesAt ingotBase 256

/-- The cell would wait in the hold for pass 2 (R243), and its chunk would need a cell of the pool (R220). -/
theorem ingested_wrongCheck :
    colOp wrongCheck.cst.img 0 ≠ 2 ∧
      selfReduce.waits wrongCheck.cst.img < (ingested selfReduce 0 selfBytes).waits wrongCheck.cst.img ∧
      (ingested selfReduce 0 selfBytes).waits wrongCheck.cst.img ≤ colHold wrongCheck.cst.img 0 ∧
      0 ∈ (ingested selfReduce 0 selfBytes).need wrongCheck.cst.img (0 / colCells wrongCheck.cst.img 0) := by decide +kernel

theorem limits_wrongCheck : wrongCheck.rd (BP_CRU_MIN_MIN 0) = 0 ∧ wrongCheck.rd (BP_CRU_MAX_MAX 0) = 0 := by decide +kernel

/-- Ingested as a good cell it would find no room in the pool, and the collective would run on. -/
theorem ingest_wrongCheck {y : State} (same : Only [.alive] wrongCheck y) (cru : Nat) :
    wrongCheck.ingest y selfReduce 0 cru selfBytes = wrongCheck.poolFail 0 := by
  have words (f : Fld) : y.rd f = wrongCheck.rd f := congrArg f.get (same .regs (by decide) f.addr)
  obtain ⟨gather, waits, room, need⟩ := ingested_wrongCheck
  obtain ⟨lo, hi⟩ := limits_wrongCheck
  exact ingest_poolFail gather waits room rfl rfl (same .cst (by decide)) need ((words _).trans lo) ((words _).trans hi)

/-- Refutes O38: SELF's cell lies whole in the Ingot, but its check is wrong, which is no damage of a word; so the collective fails with it, where
the statement has the cell ingested as a good one. -/
theorem not_collectivesStartReadAndRelease : ¬ Obligations.CollectivesStartReadAndRelease := by
  intro h
  obtain ⟨-, -, runs⟩ := h 0 0 0 wrongCheck (by decide)
  obtain ⟨-, self, -⟩ := runs selfReduce jobRuns_wrongCheck inst_wrongCheck rfl rfl
  obtain ⟨-, -, -, cell⟩ := self 0 rfl
  obtain ⟨start, size⟩ := selfSpan_wrongCheck
  obtain ⟨y, read, same⟩ := cell (size ▸ (by decide)) (whole_wrongCheck _ _)
  have bytes : wrongCheck.bytesAt (colSrc wrongCheck.cst.img 0 + 256 * (selfReduce.ins.getD 0 .init).cells)
      (min 256 (selfReduce.owes wrongCheck.cst.img 0)) = selfBytes := by rw [start, size, selfBytes]
  have ends : (wrongCheck.poolFail 0).coll.insts = [] := by
    rw [← ingest_wrongCheck same, ← bytes, ← selfCell_wrongCheck, read]
    rfl
  exact absurd ends (by decide)

end Sys2Proof.Proofs.Collectives
end

section
/-! PROOFS. The auditor on a die with an allocated cell that has no owner (R368, R386, R387). -/

open Sys2Proof Sys2Proof.Machine

namespace Sys2Proof.Proofs.Collectives

/-- A die whose marking is done. Cell 7 is taken, and a row of the Ingot cache names it, but nothing is known of its owners: it has too few.
Cell 5 is free by its leaf bit and no list names it, but it still stands among the allocated cells, with an owner count of 0. Every operation of
the model frees a cell as its last owner leaves (R368), so no command leads here; the statement excludes no such state. -/
def ownerlessCell : State :=
  let s := State.reset.wr (BP_AUD_STATE 0) 2
  { s with
    fab := { s.fab with cells := [⟨0, 5, [], 0, false, 0⟩], leaf0 := [(0, 7)] }
    stock := { s.stock with cache := [(0, [⟨0, false, 0, [(0, 7)]⟩])] } }

theorem marked_ownerlessCell : ownerlessCell.rd (BP_AUD_STATE 0) = 2 := by decide +kernel

theorem judged_ownerlessCell : 5 ∈ ownerlessCell.judged 0 := by decide +kernel

/-- As cell 7 gets its count, every cell without an owner is dropped with it. -/
theorem cellAt_markDone_ownerlessCell : ((ownerlessCell.at 0).markDone 0 []).cellAt (0, 5) = none := by decide +kernel

/-- Refutes O49: the judgment of one cell rewrites the list of allocated cells, and drops from it a cell with an owner count of 0, which the
statement has left as it was. -/
theorem not_auditorAndFencesAct : ¬ Obligations.AuditorAndFencesAct := by
  intro h
  obtain ⟨-, -, -, marks, -⟩ := h 0 0 0 0 0 [] .hp0 ownerlessCell (by decide) (by decide) (by decide) (by decide)
  obtain ⟨u, hu, -, -, -, -, judges, -⟩ := marks marked_ownerlessCell
  obtain ⟨leaves, -⟩ := judges (by decide) 5 judged_ownerlessCell
  obtain ⟨kept, -⟩ := leaves (by decide +kernel)
  have step : exec (.auditorMarkDone 0 0 []) ownerlessCell = .next ((ownerlessCell.at 0).markDone 0 []) := rfl
  obtain rfl : (ownerlessCell.at 0).markDone 0 [] = u := Host.Outcome.next.inj (step.symm.trans hu)
  rw [cellAt_markDone_ownerlessCell] at kept
  exact absurd kept (by decide)

end Sys2Proof.Proofs.Collectives
end

section
/-! PROOFS. ASSAY_COMPARE: a sampled comparison that ends is counted, and one that fails is captured, flagged and hallmarked (R275, R528). -/

open Sys2Proof Sys2Proof.Machine
open Sys2Proof.Proofs.Casting (rd_of_words bit_of_rd rd64_of_words only_inc)
open Sys2Proof.Proofs.Mill (only_takeInj)

namespace Sys2Proof.Proofs.Assay

/-! ### Injections that meet an item (R528) -/

/-- An injection of this kind and index is armed and has items left. -/
def Met (s : State) (kind idx : Nat) : Prop :=
  s.bit FLT_INJ_LEFT_ARMED = true ∧ 0 < s.rd FLT_INJ_LEFT_LEFT ∧ s.rd FLT_INJ_KIND = kind ∧ s.rd FLT_INJ_INDEX = idx

theorem met_of_words {l : List Nat} {s u : State} (h : WordsOnly l s u) (left : FLT_INJ_LEFT_LEFT.addr ∉ l) (item : FLT_INJ_KIND.addr ∉ l)
    (kind idx : Nat) : Met u kind idx ↔ Met s kind idx := by
  unfold Met
  rw [bit_of_rd (rd_of_words h (f := FLT_INJ_LEFT_ARMED) left), rd_of_words h left, rd_of_words h item,
    rd_of_words h (f := FLT_INJ_INDEX) item]

section
variable {s : State} {kind idx : Nat}

theorem takeInj_met (h : Met s kind idx) : s.takeInj kind idx =
    (true, if s.rd FLT_INJ_LEFT_LEFT - 1 = 0 then (s.wr FLT_INJ_LEFT_LEFT (s.rd FLT_INJ_LEFT_LEFT - 1)).wrBit FLT_INJ_LEFT_ARMED false
      else s.wr FLT_INJ_LEFT_LEFT (s.rd FLT_INJ_LEFT_LEFT - 1)) := by
  obtain ⟨armed, left, rfl, rfl⟩ := h
  simp [State.takeInj, armed, left]

theorem takeInj_unmet (h : ¬Met s kind idx) : s.takeInj kind idx = (false, s) := by
  refine if_neg fun c => h ?_
  simpa [Met, and_assoc] using c

/-- The item is taken off the count of the injection. -/
theorem left_takeInj (h : Met s kind idx) : (s.takeInj kind idx).2.rd FLT_INJ_LEFT_LEFT = s.rd FLT_INJ_LEFT_LEFT - 1 := by
  have written : (s.wr FLT_INJ_LEFT_LEFT (s.rd FLT_INJ_LEFT_LEFT - 1)).rd FLT_INJ_LEFT_LEFT = s.rd FLT_INJ_LEFT_LEFT - 1 := by
    rw [State.rd_wr_same _ _ _ (by decide), Nat.mod_eq_of_lt (Nat.lt_of_le_of_lt (Nat.sub_le _ _) (s.rd_lt _))]
  rw [takeInj_met h]
  dsimp only
  split
  · exact (State.rd_wrBit_ne _ _ _ _ (.inr (by decide))).trans written
  · exact written

theorem words_takeInj : WordsOnly [FLT_INJ_LEFT_LEFT.addr] s (s.takeInj kind idx).2 := by
  by_cases h : Met s kind idx
  · rw [takeInj_met h]
    dsimp only
    split
    · exact (s.words_wr _ _).trans (State.words_wrBit _ FLT_INJ_LEFT_ARMED _)
    · exact s.words_wr _ _
  · rw [takeInj_unmet h]
    exact .rfl

end

/-! ### The comparison that ends -/

/-- A node whose steps and comparisons are these. -/
def withTemper (s : State) (m : TemperState) : State := { s with temper := m }

theorem only_withTemper (s : State) (m : TemperState) : Only [.temper] s (withTemper s m) := by
  intro p hp
  cases p
  case temper => simp at hp
  all_goals simp [Part.same, withTemper, State.word, State.byteAt]

/-- Comparison `x` is taken and counted in NUM_ASSAY_N. -/
def counted (s : State) (x : Sample) : State :=
  (withTemper s { s.temper with samples := s.temper.samples.erase x }).add64 NUM_ASSAY_N_LO 1

section
variable (s : State) (x : Sample)

theorem words_counted : WordsOnly [NUM_ASSAY_N_LO.addr, NUM_ASSAY_N_HI.addr] s (counted s x) :=
  State.words_wr64 (withTemper s _) NUM_ASSAY_N_LO _

theorem only_counted : Only [.regs, .temper] s (counted s x) :=
  (only_withTemper s _).comp (State.only_wr64 _ _ _) (by simp) (by simp)

theorem n_counted : (counted s x).rd64 NUM_ASSAY_N_LO = (s.rd64 NUM_ASSAY_N_LO + 1) % 2 ^ 64 :=
  State.rd64_wr64 _ NUM_ASSAY_N_LO _ rfl rfl

theorem temper_counted : (counted s x).temper = { s.temper with samples := s.temper.samples.erase x } := rfl

end

/-! ### A failure -/

/-- NUM_ASSAY_CAP names the Bench, the unit and the kind of comparison `x`. -/
def named (s : State) (l : Nat) (x : Sample) : State :=
  (((s.wr NUM_ASSAY_CAP_INDEX l).wr NUM_ASSAY_CAP_UNIT x.unit).wr NUM_ASSAY_CAP_KIND x.kind).wrBit NUM_ASSAY_CAP_VALID true

/-- NUM_ASSAY_NARROW and NUM_ASSAY_WIDE show two values. -/
def valued (s : State) (narrow wide : Nat) : State := (s.wr NUM_ASSAY_NARROW narrow).wr NUM_ASSAY_WIDE wide

/-- The failure is captured where none was before. -/
def captured (s : State) (l : Nat) (x : Sample) (wide : Nat) : State :=
  if s.bit NUM_ASSAY_CAP_VALID then s else valued (named s l x) x.narrow wide

/-- The failure of comparison `x` is counted, captured, flagged and hallmarked. -/
def failed (s : State) (l : Nat) (x : Sample) (wide : Nat) (inj : Bool) : State :=
  let c := captured (s.inc NUM_ASSAY_FAIL) l x wide
  (c.flag { cls := .num, level := if c.bit NUM_ASSAY_ACTION then 2 else 1, code := 0, master := mBench l, acc := 6
            addr := 0, tick := c.now, inj := inj, conseq := false }).hall 0x11
    (leBytes 2 l ++ [BitVec.ofNat 8 x.unit, BitVec.ofNat 8 x.kind] ++ leBytes 4 x.narrow ++ leBytes 4 wide ++ leBytes 8 x.step)

section
variable (s : State) (l : Nat) (x : Sample) (wide : Nat) (inj : Bool)

theorem words_named : WordsOnly [NUM_ASSAY_CAP_INDEX.addr] s (named s l x) :=
  (((s.words_wr NUM_ASSAY_CAP_INDEX l).trans (State.words_wr _ NUM_ASSAY_CAP_UNIT x.unit)).trans
    (State.words_wr _ NUM_ASSAY_CAP_KIND x.kind)).trans (State.words_wrBit _ NUM_ASSAY_CAP_VALID true)

theorem only_named : Only [.regs] s (named s l x) :=
  (((s.only_wr _ _).trans (State.only_wr _ _ _)).trans (State.only_wr _ _ _)).trans (State.only_wrBit _ _ _)

theorem valid_named : (named s l x).bit NUM_ASSAY_CAP_VALID = true := State.bit_wrBit _ NUM_ASSAY_CAP_VALID true rfl (by decide)

variable {l} in
/-- Each field of NUM_ASSAY_CAP is read back from under the writes beside it. -/
theorem rd_named (hl : l < 1024) : (named s l x).rd NUM_ASSAY_CAP_INDEX = l ∧
    (named s l x).rd NUM_ASSAY_CAP_UNIT = x.unit % 2 ^ NUM_ASSAY_CAP_UNIT.width ∧
    (named s l x).rd NUM_ASSAY_CAP_KIND = x.kind % 2 ^ NUM_ASSAY_CAP_KIND.width := by
  unfold named
  refine ⟨?_, ?_, ?_⟩
  · rw [State.rd_wrBit_ne _ _ _ _ (.inr (by decide)), State.rd_wr_ne _ _ _ _ (.inr (by decide)), State.rd_wr_ne _ _ _ _ (.inr (by decide)),
      State.rd_wr_same _ _ _ (by decide)]
    exact Nat.mod_eq_of_lt hl
  · rw [State.rd_wrBit_ne _ _ _ _ (.inr (by decide)), State.rd_wr_ne _ _ _ _ (.inr (by decide)), State.rd_wr_same _ _ _ (by decide)]
  · rw [State.rd_wrBit_ne _ _ _ _ (.inr (by decide)), State.rd_wr_same _ _ _ (by decide)]

theorem words_valued (narrow : Nat) : WordsOnly [NUM_ASSAY_NARROW.addr, NUM_ASSAY_WIDE.addr] s (valued s narrow wide) :=
  ((s.words_wr NUM_ASSAY_NARROW narrow).mono (by simp)).trans ((State.words_wr _ NUM_ASSAY_WIDE wide).mono (by simp))

theorem rd_valued (narrow : Nat) : (valued s narrow wide).rd NUM_ASSAY_NARROW = narrow % 2 ^ 32 ∧
    (valued s narrow wide).rd NUM_ASSAY_WIDE = wide % 2 ^ 32 :=
  ⟨(State.rd_wr_ne _ NUM_ASSAY_WIDE _ _ (.inl (by decide))).trans (s.rd_wr_same NUM_ASSAY_NARROW _ (by decide)),
    State.rd_wr_same _ NUM_ASSAY_WIDE _ (by decide)⟩

theorem words_captured : WordsOnly [NUM_ASSAY_CAP_INDEX.addr, NUM_ASSAY_NARROW.addr, NUM_ASSAY_WIDE.addr] s (captured s l x wide) := by
  unfold captured
  split
  · exact .rfl
  · exact ((words_named s l x).mono (by simp)).trans ((words_valued _ wide x.narrow).mono (by simp))

theorem only_captured : Only [.regs] s (captured s l x wide) := by
  unfold captured
  split
  · exact .rfl
  · exact ((only_named s l x).trans (State.only_wr _ _ _)).trans (State.only_wr _ _ _)

theorem valid_captured : (captured s l x wide).bit NUM_ASSAY_CAP_VALID = true := by
  unfold captured
  split
  · assumption
  · exact (bit_of_rd (rd_of_words (words_valued _ wide x.narrow) (by decide))).trans (valid_named s l x)

variable {s l} in
theorem rd_captured_first (first : s.bit NUM_ASSAY_CAP_VALID = false) (hl : l < 1024) :
    let u := captured s l x wide
    u.rd NUM_ASSAY_CAP_INDEX = l ∧ u.rd NUM_ASSAY_CAP_UNIT = x.unit % 2 ^ NUM_ASSAY_CAP_UNIT.width ∧
      u.rd NUM_ASSAY_CAP_KIND = x.kind % 2 ^ NUM_ASSAY_CAP_KIND.width ∧ u.rd NUM_ASSAY_NARROW = x.narrow % 2 ^ 32 ∧
      u.rd NUM_ASSAY_WIDE = wide % 2 ^ 32 := by
  have kept {f : Fld} (h : f.addr ∉ [NUM_ASSAY_NARROW.addr, NUM_ASSAY_WIDE.addr]) := rd_of_words (words_valued (named s l x) wide x.narrow) h
  obtain ⟨index, unit, kind⟩ := rd_named s x hl
  intro u
  rw [show u = valued (named s l x) x.narrow wide by simp [u, captured, first]]
  exact ⟨(kept (by decide)).trans index, (kept (by decide)).trans unit, (kept (by decide)).trans kind, rd_valued _ wide x.narrow⟩

theorem words_failed : WordsOnly [NUM_ASSAY_FAIL.addr, NUM_ASSAY_CAP_INDEX.addr, NUM_ASSAY_NARROW.addr, NUM_ASSAY_WIDE.addr] s
    (failed s l x wide inj) :=
  ((s.words_addSat NUM_ASSAY_FAIL 1).mono (by simp)).trans ((words_captured (s.inc NUM_ASSAY_FAIL) l x wide).mono (by simp))

theorem only_captured_inc : Only [.regs] s (captured (s.inc NUM_ASSAY_FAIL) l x wide) := (only_inc s _).trans (only_captured _ l x wide)

theorem only_failed : Only [.regs, .flt, .sec] s (failed s l x wide inj) :=
  ((only_captured_inc s l x wide).comp (State.only_flag _ _) (n := [.regs, .flt]) (by simp) (by simp)).comp
    (State.only_hall _ _ _ _) (by simp) (by simp)

theorem fails_failed : (failed s l x wide inj).rd NUM_ASSAY_FAIL = min (s.rd NUM_ASSAY_FAIL + 1) (2 ^ 32 - 1) :=
  (rd_of_words (words_captured (s.inc NUM_ASSAY_FAIL) l x wide) (f := NUM_ASSAY_FAIL) (by decide)).trans
    (s.rd_addSat NUM_ASSAY_FAIL 1 (by decide))

theorem waits_failed : ∃ g ∈ (failed s l x wide inj).sec.wait, g.tick = s.now ∧ ∃ r ∈ g.recs, r.ty = 0x11 := by
  rw [← (only_captured_inc s l x wide .clock (by decide)).1]
  exact State.hall_waits _ _ _ _

theorem reports_failed : (failed s l x wide inj).flt.reports =
    s.flt.reports ++ [⟨.num, if s.bit NUM_ASSAY_ACTION then 2 else 1, 0, mBench l, 6, 0, s.now, inj, false⟩] := by
  have only := only_captured_inc s l x wide
  have action : (captured (s.inc NUM_ASSAY_FAIL) l x wide).bit NUM_ASSAY_ACTION = s.bit NUM_ASSAY_ACTION :=
    bit_of_rd (rd_of_words (words_failed s l x wide inj) (by decide))
  rw [failed, State.hall_flt, State.flag_reports, only .flt (by decide), (only .clock (by decide)).1, action]

end

/-! ### What ASSAY_COMPARE does -/

/-- The wide value with its bit 0 inverted. -/
def flipLow (w : Nat) : Nat := if w % 2 = 1 then w - 1 else w + 1

/-- The node once comparison `x` of Bench `l` is counted and has passed the generator of the checker (R528). -/
def compared (s : State) (t l : Nat) (x : Sample) : State := ((counted (s.at t) x).takeInj 9 l).2

section
variable {s : State} {t l : Nat} {x : Sample}

theorem met_counted : Met (counted (s.at t) x) 9 l ↔ Met s 9 l := met_of_words (words_counted (s.at t) x) (by decide) (by decide) 9 l

theorem words_compared : WordsOnly [NUM_ASSAY_N_LO.addr, NUM_ASSAY_N_HI.addr, FLT_INJ_LEFT_LEFT.addr] s (compared s t l x) :=
  ((words_counted (s.at t) x).mono (by simp)).trans (words_takeInj.mono (by simp))

theorem only_compared : Only [.clock, .regs, .temper] s (compared s t l x) :=
  ((s.only_at t).comp (only_counted _ x) (by simp) (by simp)).trans ((only_takeInj _ 9 l).mono (by simp))

theorem now_compared : (compared s t l x).now = max s.now t :=
  (((only_counted (s.at t) x).comp (only_takeInj _ 9 l) (n := [.regs, .temper]) (by simp) (by simp)) .clock (by decide)).1

theorem temper_compared : (compared s t l x).temper = { s.temper with samples := s.temper.samples.erase x } :=
  (only_takeInj _ 9 l .temper (by decide)).trans (temper_counted (s.at t) x)

theorem n_compared : (compared s t l x).rd64 NUM_ASSAY_N_LO = (s.rd64 NUM_ASSAY_N_LO + 1) % 2 ^ 64 :=
  (rd64_of_words words_takeInj (by decide) (by decide)).trans (n_counted (s.at t) x)

theorem compared_unmet (unmet : ¬Met s 9 l) : compared s t l x = counted (s.at t) x := by
  rw [compared, takeInj_unmet (met_counted.not.2 unmet)]

/-- A Bench with no comparison under way only sees the time. -/
theorem exec_assayCompare_none (none : s.temper.samples.find? (fun x => x.bench == l) = none) :
    exec (.assayCompare t l) s = .next (s.at t) := by
  have same : (s.at t).assayCompare l = s.at t := by rw [State.assayCompare, State.at_temper, none]
  exact congrArg Host.Outcome.next same

variable (found : s.temper.samples.find? (fun x => x.bench == l) = some x)
include found

/-- The comparison fails by itself or by an injection, and passes otherwise (R275, R528). -/
theorem exec_assayCompare_some {inj : Bool} (h : ((counted (s.at t) x).takeInj 9 l).1 = inj) :
    exec (.assayCompare t l) s = .next (if x.fail || inj then failed (compared s t l x) l x (if inj then flipLow x.wide else x.wide) inj
      else compared s t l x) := by
  have step : (s.at t).assayCompare l = if x.fail || inj then
      failed (compared s t l x) l x (if inj then flipLow x.wide else x.wide) inj else compared s t l x := by
    subst h
    rw [State.assayCompare, State.at_temper, found]
    rfl
  exact congrArg Host.Outcome.next step

theorem exec_assayCompare_passes (unmet : ¬Met s 9 l) (passes : x.fail = false) :
    exec (.assayCompare t l) s = .next (compared s t l x) := by
  simpa [passes] using exec_assayCompare_some (t := t) found (inj := false) (by rw [takeInj_unmet (met_counted.not.2 unmet)])

theorem exec_assayCompare_fails (unmet : ¬Met s 9 l) (fails : x.fail = true) :
    exec (.assayCompare t l) s = .next (failed (compared s t l x) l x x.wide false) := by
  simpa [fails] using exec_assayCompare_some (t := t) found (inj := false) (by rw [takeInj_unmet (met_counted.not.2 unmet)])

theorem exec_assayCompare_met (met : Met s 9 l) :
    exec (.assayCompare t l) s = .next (failed (compared s t l x) l x (flipLow x.wide) true) := by
  simpa using exec_assayCompare_some (t := t) found (inj := true) (by rw [takeInj_met (met_counted.2 met)])

end

/-- Settles O40: every comparison is counted. A failure leaves the same with and without an injection, but for the wide value and the mark of the
injection. -/
theorem assayJudgesSampledComparisons : Obligations.AssayJudgesSampledComparisons := by
  intro t l s hl
  refine ⟨fun none => ⟨_, exec_assayCompare_none none, s.only_at t⟩, ?_⟩
  intro x found hit count fail
  have kept {f : Fld} (h : f.addr ∉ [NUM_ASSAY_N_LO.addr, NUM_ASSAY_N_HI.addr, FLT_INJ_LEFT_LEFT.addr]) : (compared s t l x).rd f = s.rd f :=
    rd_of_words words_compared h
  have fails {wide : Nat} {inj : Bool} (c : exec (.assayCompare t l) s = .next (failed (compared s t l x) l x wide inj)) :
      fail (failed (compared s t l x) l x wide inj) wide inj := by
    have only := only_failed (compared s t l x) l x wide inj
    refine ⟨⟨c, (only .temper (by decide)).trans temper_compared, ?_⟩, ?_, valid_captured _ l x wide, fun first => ?_, ?_, ?_, ?_⟩
    · rw [rd64_of_words (words_failed _ l x wide inj) (by decide) (by decide), n_compared]
    · rw [fails_failed, kept (by decide)]
    · refine rd_captured_first x wide ?_ hl
      have valid := rd_of_words ((compared s t l x).words_addSat NUM_ASSAY_FAIL 1) (f := NUM_ASSAY_CAP_VALID) (by decide)
      exact (bit_of_rd (valid.trans (kept (by decide)))).trans first
    · rw [reports_failed, only_compared .flt (by decide), now_compared, bit_of_rd (kept (f := NUM_ASSAY_ACTION) (by decide))]
    · obtain ⟨g, waits, tick, record⟩ := waits_failed (compared s t l x) l x wide inj
      exact ⟨g, waits, tick.trans now_compared, record⟩
    · exact only_compared.comp only (by simp) (by simp)
  refine ⟨fun unmet passes => ?_, fun unmet bad => ⟨_, fails (exec_assayCompare_fails found unmet bad)⟩, fun met => ?_⟩
  · refine ⟨_, ⟨exec_assayCompare_passes found unmet passes, temper_compared, n_compared⟩, ?_, only_compared⟩
    rw [compared_unmet unmet]
    exact words_counted (s.at t) x
  · have left := left_takeInj (met_counted (t := t) (x := x).2 met)
    rw [rd_of_words (words_counted (s.at t) x) (by decide)] at left
    exact ⟨_, fails (exec_assayCompare_met found met), (rd_of_words (words_failed _ l x _ true) (by decide)).trans left⟩

end Sys2Proof.Proofs.Assay
end

section
/-! PROOFS. Frames of single register fields, and the rules of one lane among the others (R5, R307 to R325). -/

open Sys2Proof Sys2Proof.Machine Sys2Proof.Proofs.Casting Sys2Proof.Proofs.Grid

namespace Sys2Proof.Proofs.Lanes

/-! ### Fields that may differ -/

/-- Two fields of different words, or that do not overlap: a write of the first leaves the second. -/
@[simp] def Clear (f g : Fld) : Prop := f.addr ≠ g.addr ∨ f.lo + f.width ≤ g.lo ∨ g.lo + g.width ≤ f.lo

/-- At most the fields of a list differ: every field clear of them reads the same. -/
def FieldsOnly (l : List Fld) (s u : State) : Prop := ∀ g, (∀ f ∈ l, Clear f g) → u.rd g = s.rd g

section
variable {l m : List Fld} {s u v : State}

protected theorem FieldsOnly.rfl : FieldsOnly l s s := fun _ _ => Eq.refl _

theorem FieldsOnly.mono (h : FieldsOnly l s u) (hs : l ⊆ m) : FieldsOnly m s u := fun g hg => h g fun f hf => hg f (hs hf)

theorem FieldsOnly.trans (h : FieldsOnly l s u) (k : FieldsOnly l u v) : FieldsOnly l s v := fun g hg => (k g hg).trans (h g hg)

/-- Two steps of an operation, one after the other. -/
theorem FieldsOnly.append (h : FieldsOnly l s u) (k : FieldsOnly m u v) : FieldsOnly (l ++ m) s v :=
  (h.mono (List.subset_append_left l m)).trans (k.mono (List.subset_append_right l m))

theorem FieldsOnly.foldl {α : Type} (f : State → α → State) :
    ∀ (xs : List α) (s : State), (∀ x ∈ xs, ∀ s, FieldsOnly l s (f s x)) → FieldsOnly l s (xs.foldl f s)
  | [], _, _ => .rfl
  | x :: xs, s, h => (h x List.mem_cons_self s).trans (FieldsOnly.foldl f xs (f s x) fun y hy => h y (List.mem_cons_of_mem x hy))

theorem FieldsOnly.ite {c : Prop} [Decidable c] (h : FieldsOnly l s u) (k : FieldsOnly l s v) : FieldsOnly l s (if c then u else v) := by
  split <;> assumption

/-- Registers that are equal differ in no field. -/
theorem fields_of_regs (h : u.regs = s.regs) : FieldsOnly l s u := fun g _ => State.rd_congr h g

theorem FieldsOnly.bit (h : FieldsOnly l s u) {g : Fld} (hg : ∀ f ∈ l, Clear f g) : u.bit g = s.bit g := bit_of_rd (h g hg)

/-- Where only certain fields differ, only their words do. -/
theorem FieldsOnly.words (h : FieldsOnly l s u) : WordsOnly (l.map Fld.addr) s u := by
  intro a ha
  have whole : u.rd ⟨a, 0, 32⟩ = s.rd ⟨a, 0, 32⟩ := h _ fun f hf => .inl fun e => ha (List.mem_map.2 ⟨f, hf, e⟩)
  have reads : ∀ x : State, x.rd ⟨a, 0, 32⟩ = (x.word a).toNat := fun x => by
    simp only [State.rd, Fld.get, pow_zero, Nat.div_one, Nat.mod_eq_of_lt (x.word a).isLt]
  rw [reads, reads] at whole
  exact BitVec.eq_of_toNat_eq whole

end

theorem fields_wr (s : State) (f : Fld) (v : Nat) : FieldsOnly [f] s (s.wr f v) :=
  fun g hg => State.rd_wr_ne s f g v (hg f (List.mem_singleton.2 rfl))

theorem fields_wrBit (s : State) (f : Fld) (b : Bool) : FieldsOnly [f] s (s.wrBit f b) := fields_wr s f _

theorem fields_addSat (s : State) (f : Fld) (n : Nat) : FieldsOnly [f] s (s.addSat f n) := fields_wr s f _

theorem fields_raise (s : State) (f : Fld) : FieldsOnly [f] s (s.raise f) :=
  fun g hg => rd_raise_ne s f g (hg f (List.mem_singleton.2 rfl))

/-! ### Lanes -/

section
variable (s : State) (k : Nat)

theorem lane_setLane (j : Nat) (x : Lane) : (s.setLane k x).lane j = if k = j then x else s.lane j := Sparse.get_set _ _ _ _ _

@[simp] theorem lane_setLane_same (x : Lane) : (s.setLane k x).lane k = x := (lane_setLane s k k x).trans (if_pos rfl)

theorem fields_setLane {l : List Fld} (x : Lane) : FieldsOnly l s (s.setLane k x) := fields_of_regs rfl

theorem lane_of_lanes {s u : State} (h : u.fab.lanes = s.fab.lanes) (k : Nat) : u.lane k = s.lane k := by rw [State.lane, h, State.lane]

theorem only_setLane (x : Lane) : Only [.fab] s (s.setLane k x) := by
  intro p hp
  cases p
  case fab => simp at hp
  all_goals simp [Part.same, State.setLane, State.word, State.byteAt]


/-- Whether the main code of a lane stands apart from its target or a sweep runs (R325). -/
theorem adapting_laneSync : (s.laneSync k).bit (LN_STAT_ADAPTING k) = ((s.lane k).sweep.isSome || s.rd (LN_STAT_MAIN k) != s.rd (LN_PEAK_CODE k)) :=
  State.bit_wrBit _ _ _ rfl (show 12 + 1 ≤ 32 by decide)

theorem fields_laneSync : FieldsOnly [LN_STAT_ADAPTING k] s (s.laneSync k) := fields_wrBit _ _ _

theorem only_laneSync : Only [.regs] s (s.laneSync k) := s.only_wrBit _ _

@[simp] theorem lane_laneSync (j : Nat) : (s.laneSync k).lane j = s.lane j := lane_of_lanes rfl j

theorem fields_startSweep (data : Bool) : FieldsOnly [LN_STAT_ADAPTING k] s (s.startSweep k data) :=
  (fields_setLane s k _).trans (fields_laneSync _ k)

theorem only_startSweep (data : Bool) : Only [.regs, .fab] s (s.startSweep k data) :=
  (only_setLane s k _).comp (only_laneSync _ k) (by simp) (by simp)

theorem lane_startSweep (data : Bool) :
    (s.startSweep k data).lane k = { s.lane k with sweep := some (data, s.now, s.rd (LN_STAT_MAIN k)) } := by
  rw [State.startSweep, lane_laneSync, lane_setLane_same]

theorem adapting_startSweep (data : Bool) : (s.startSweep k data).bit (LN_STAT_ADAPTING k) = true := by
  refine (adapting_laneSync (s.setLane k _) k).trans ?_
  rw [lane_setLane_same]
  rfl

/-- A write that an up port turns away shows PAT_REF and is noted, and no more (R320). -/
theorem patRefused_spec (m : Master) : (s.patRefused m k).bit (LN_STAT_PAT_REF k) = true ∧
    WordsOnly [(LN_STAT_SIG k).addr] s (s.patRefused m k) ∧
    (s.patRefused m k).flt.reports = s.flt.reports ++ [⟨.sw, 0, 0, m, 3, 0, s.now, false, false⟩] ∧
    Only [.regs, .clock, .flt] s (s.patRefused m k) :=
  ⟨bit_raise s _ rfl (show 14 < 32 by decide), words_raise s (LN_STAT_PAT_REF k), rfl,
    (s.only_raise _).comp (State.only_fault _ _ _ _ _ _ _ _) (by simp) (by simp)⟩

end

end Sys2Proof.Proofs.Lanes
end

section
/-! PROOFS. What a port that goes down leaves beside it: the lanes, the words of other ports and of lanes, and the reports before (R314, R323,
R350, R384, R482). -/

open Sys2Proof Sys2Proof.Machine Sys2Proof.Proofs.Casting Sys2Proof.Proofs.Grid Sys2Proof.Proofs.Mill

namespace Sys2Proof.Proofs.Lanes

/-- The words that tell how port `k` stands and how often it fell. -/
def downWords (k : Nat) : List Nat := [(TG_LDLY_VALID k).addr, (LK_UNCORR k).addr, (LK_STAT_STATE k).addr, LK_SUM_DOWNS.addr]

/-- Words of links, of lanes and of the node's quench, but for those that port `k` writes as it goes down. -/
def AsideWord (k a : Nat) : Prop := (linkWord a ∨ a = FLT_STAT_NODEQ.addr ∨ (0x200000 ≤ a ∧ a < 0x220000)) ∧ a ∉ downWords k

/-- An operation that leaves some words, every lane, and every report that waits for the collector. -/
structure Spares (W : Nat → Prop) (s u : State) : Prop where
  words : ∀ a, W a → u.word a = s.word a
  lanes : u.fab.lanes = s.fab.lanes
  reports : s.flt.reports <+: u.flt.reports

section
variable {W : Nat → Prop}

protected theorem Spares.rfl {s : State} : Spares W s s := ⟨fun _ _ => rfl, rfl, List.prefix_refl _⟩

theorem Spares.trans {s u v : State} (h : Spares W s u) (h' : Spares W u v) : Spares W s v :=
  ⟨fun a ha => (h'.words a ha).trans (h.words a ha), h'.lanes.trans h.lanes, h.reports.trans h'.reports⟩

theorem Spares.mono {V : Nat → Prop} {s u : State} (h : Spares W s u) (hv : ∀ a, V a → W a) : Spares V s u :=
  ⟨fun a ha => h.words a (hv a ha), h.lanes, h.reports⟩

theorem Spares.ite {s u v : State} {c : Prop} [Decidable c] (h : Spares W s u) (h' : Spares W s v) : Spares W s (if c then u else v) := by
  split <;> assumption

theorem Spares.foldl {α : Type} (f : State → α → State) :
    ∀ (l : List α) (s : State), (∀ x ∈ l, ∀ s, Spares W s (f s x)) → Spares W s (l.foldl f s)
  | [], _, _ => .rfl
  | x :: l, s, h => (h x List.mem_cons_self s).trans (Spares.foldl f l (f s x) fun y hy => h y (List.mem_cons_of_mem x hy))

/-- A fold that carries a value beside the state. -/
theorem Spares.foldl_snd {α β : Type} (f : β × State → α → β × State) (h : ∀ r x, Spares W r.2 (f r x).2) :
    ∀ (l : List α) (r : β × State), Spares W r.2 (l.foldl f r).2
  | [], _ => .rfl
  | x :: l, r => (h r x).trans (Spares.foldl_snd f h l (f r x))

end

/-- An operation on port `k` that leaves the words aside from it. -/
abbrev Aside (k : Nat) (s u : State) : Prop := Spares (AsideWord k) s u

section
variable {k : Nat}

/-- An update that leaves registers, lanes and reports. -/
theorem aside_of_same {W : Nat → Prop} {s u : State} (hr : u.regs = s.regs) (hl : u.fab.lanes = s.fab.lanes) (hf : u.flt = s.flt) : Spares W s u :=
  ⟨fun a _ => State.word_congr hr a, hl, hf ▸ List.prefix_refl _⟩

section
variable (s : State)

theorem aside_wr {f : Fld} (v : Nat) (h : ¬AsideWord k f.addr) : Aside k s (s.wr f v) := by
  refine ⟨fun a ha => s.words_wr f v a ?_, rfl, List.prefix_refl _⟩
  simp only [List.mem_singleton]
  rintro rfl
  exact h ha

theorem aside_wrBit {f : Fld} (b : Bool) (h : ¬AsideWord k f.addr) : Aside k s (s.wrBit f b) := aside_wr s _ h

theorem aside_addSat {f : Fld} (n : Nat) (h : ¬AsideWord k f.addr) : Aside k s (s.addSat f n) := aside_wr s _ h

theorem aside_fault {W : Nat → Prop} (c : FClass) (l code : Nat) (m : Master) (x y : Nat) (i : Bool) : Spares W s (s.fault c l code m x y i) :=
  ⟨fun _ _ => rfl, rfl, List.prefix_append _ _⟩

theorem aside_faultConseq (c : FClass) (l code : Nat) (m : Master) (x : Nat) : Aside k s (s.faultConseq c l code m x) :=
  ⟨fun _ _ => rfl, rfl, List.prefix_append _ _⟩

/-! ### Words of pools, of Touchmarks and of port `k` itself -/

theorem pool_notAside (d : Nat) : ¬AsideWord k (BP_RELREF d).addr ∧ ¬AsideWord k (BP_FIRST_CAUSE d).addr ∧ ¬AsideWord k (BP_FIRST_CELL d).addr ∧
    ¬AsideWord k (BP_FIRST_VALID d).addr ∧ ¬AsideWord k (BP_FLUSH d).addr ∧ ¬AsideWord k (SW_PSTAT_KEPT d).addr := by
  simp only [AsideWord, linkWord, FLT_STAT_NODEQ, BP_RELREF, BP_FIRST_CAUSE, BP_FIRST_CELL, BP_FIRST_VALID, BP_FLUSH, SW_PSTAT_KEPT]
  omega

theorem injection_notAside : ¬AsideWord k FLT_INJ_LEFT_LEFT.addr ∧ ¬AsideWord k FLT_INJ_LEFT_ARMED.addr := by
  simp only [AsideWord, linkWord, FLT_STAT_NODEQ, FLT_INJ_LEFT_LEFT, FLT_INJ_LEFT_ARMED]
  omega

theorem expired_notAside {u : Nat} (hu : u < 512) : ¬AsideWord k (TM_EXPIRED u).addr := by
  simp only [AsideWord, linkWord, FLT_STAT_NODEQ, TM_EXPIRED]
  omega

theorem status_notAside : ¬AsideWord k TG_STATUS_SYNC.addr := by
  simp only [AsideWord, linkWord, FLT_STAT_NODEQ, TG_STATUS_SYNC]
  omega

theorem down_notAside {a : Nat} (ha : a ∈ downWords k) : ¬AsideWord k a := fun h => h.2 ha

/-! ### Symbols, cells and records -/

theorem aside_takeInj (kind idx : Nat) : Aside k s (s.takeInj kind idx).2 := by
  obtain ⟨left, armed⟩ := injection_notAside (k := k)
  unfold State.takeInj
  split
  · exact (aside_wr s _ left).trans (.ite (aside_wrBit _ _ armed) .rfl)
  · exact .rfl

theorem aside_out (o : Out) : Aside k s (s.out o) := aside_of_same rfl rfl rfl

theorem aside_setPort (j : Nat) (p : Port) : Aside k s (s.setPort j p) := aside_of_same rfl rfl rfl

theorem aside_withTg (g : TgState) : Aside k s (withTg s g) := aside_of_same rfl rfl rfl

theorem aside_setCells (l : List PCell) : Aside k s (s.setCells l) := aside_of_same rfl rfl rfl

theorem aside_unitsSent (j n : Nat) : Aside k s (s.unitsSent j n) := by
  delta State.unitsSent
  extract_lets p c sym s1
  have counted : Aside k s s1 := aside_setPort s j _
  split
  rename_i hits s2 injected
  have h2 : Aside k s1 s2 := by
    rw [show s2 = _ from (congrArg Prod.snd injected).symm]
    refine Spares.foldl_snd _ (fun r _ => ?_) _ (0, s1)
    exact aside_takeInj r.2 5 j
  exact .ite (counted.trans h2) ((counted.trans h2).trans (aside_out s2 _))

theorem aside_sendSym (j ty body : Nat) : Aside k s (s.sendSym j ty body) :=
  ((aside_takeInj s 7 j).trans (aside_out _ _)).trans (aside_unitsSent _ j 1)

theorem aside_bpFirst (d cause cell : Nat) : Aside k s (s.bpFirst d cause cell) := by
  obtain ⟨-, hcause, hcell, hvalid, -⟩ := pool_notAside (k := k) d
  exact .ite .rfl (((aside_wr s _ hcause).trans (aside_wr _ _ hcell)).trans (aside_wrBit _ _ hvalid))

theorem aside_releaseCell (c : Nat × Nat) (o : Owner) : Aside k s (s.releaseCell c o) := by
  have refused : Aside k s (((s.inc (BP_RELREF c.1)).bpFirst c.1 1 c.2).fault .mem 1 1 mNone 7) :=
    ((aside_addSat s 1 (pool_notAside c.1).1).trans (aside_bpFirst _ c.1 1 c.2)).trans (aside_fault _ _ _ _ _ _ _ _)
  exact .ite .rfl (.ite (aside_of_same rfl rfl rfl) refused)

theorem aside_releaseCells {α : Type} (c : α → Nat × Nat) (o : α → Owner) (l : List α) :
    Aside k s (l.foldl (fun s e => s.releaseCell (c e) (o e)) s) := .foldl _ l s fun e _ s => aside_releaseCell s (c e) (o e)

theorem aside_freeCredit (j vc : Nat) : Aside k s (s.freeCredit j vc) :=
  .ite ((aside_setPort s j _).trans (aside_setPort _ j _)) (aside_setPort s j _)

theorem aside_releaseEnt (j q : Nat) (c : Nat × Nat) : Aside k s (s.releaseEnt j q c) := by
  have released : Aside k s (s.releaseCell c (.queue j q)) := aside_releaseCell s c _
  unfold State.releaseEnt
  dsimp only
  split
  · exact .ite (released.trans (aside_freeCredit _ _ _)) released
  · exact released

theorem aside_dropCopies (j : Nat) (fence : Bool) : Aside k s (s.dropCopies j fence).2 := by
  delta State.dropCopies
  extract_lets p uni mul held s1 mqs txs fab s2 gone
  have emptied : Aside k s s2 := aside_of_same rfl rfl rfl
  exact emptied.trans (.foldl _ gone s2 fun e _ s => aside_releaseEnt s j e.1 e.2)

theorem aside_dropCred (j : Nat) : Aside k s (s.dropCred j).2 := by
  delta State.dropCred
  extract_lets mine
  split
  rename_i n s1 emptied
  extract_lets mul fab s2 s3
  have h1 : Aside k s s1 := by
    rw [show s1 = _ from (congrArg Prod.snd emptied).symm]
    refine Spares.foldl_snd _ (fun r j => ?_) _ (0, s)
    extract_lets p gone t
    split
    · exact .rfl
    · exact (aside_setPort r.2 j _).trans (aside_releaseCells t (·.2) (fun e => .queue j e.1) gone)
  have h2 : Aside k s1 s2 := aside_of_same rfl rfl rfl
  have h3 : Aside k s2 s3 := aside_releaseCells s2 (fun e => e.2.2) (fun e => .queue e.1 e.2.1) mul
  exact ((h1.trans h2).trans h3).trans (aside_setCells s3 _)

theorem aside_freeRest (o : OpenPkt) : Aside k s (s.freeRest o) := by
  unfold State.freeRest
  split
  · exact aside_releaseCells s id (fun _ => _) _
  · exact .rfl

theorem aside_closePacket (j : Nat) (keep : Bool) : Aside k s (s.closePacket j keep) := by
  delta State.closePacket
  extract_lets p
  split
  · exact (aside_setPort s j _).trans (aside_freeRest _ _)
  · exact .rfl

theorem aside_expireRecs {u : Nat} (p : TmRec → Bool) (hu : u < 512) : Aside k s (s.expireRecs u p) := by
  delta State.expireRecs
  extract_lets l gone keep rest recs fab
  have stored : Aside k s (withFab s { fab with tmRecs := recs }) := aside_of_same rfl rfl rfl
  exact .ite .rfl (stored.trans (aside_addSat _ _ (expired_notAside hu)))

theorem aside_timePortLost (j : Nat) : Aside k s (s.timePortLost j) := by
  delta State.timePortLost
  split
  · extract_lets s1
    have shown : Aside k s s1 := by
      dsimp only [s1]
      split
      · exact (aside_wr s (f := TG_STATUS_PARENT_PORT) _ status_notAside).trans (aside_wr _ (f := TG_STATUS_PARENT_DIR) _ status_notAside)
      · exact aside_wr s _ status_notAside
    exact shown.trans (aside_fault s1 _ _ _ _ _ _ _)
  · exact .rfl

/-! ### Port `k` goes down -/

variable (k)

theorem aside_toPortState (st : Nat) : Aside k s (s.toPortState k st) :=
  (aside_setPort s k _).trans (aside_wr _ _ (down_notAside (by simp [downWords])))

theorem aside_tryAlign : Aside k s (s.tryAlign k) := .ite (aside_toPortState k s 2) .rfl

theorem aside_trySignal : Aside k s (s.trySignal k) := .ite ((aside_toPortState k s 1).trans (aside_tryAlign k _)) .rfl

variable {k}

/-- A port that goes down leaves the lanes, the other ports' words and the reports before it (R350). -/
theorem aside_portDown (hk : k < 256) (cause : Nat) : Aside k s (s.portDown k cause) := by
  have own : ∀ a ∈ downWords k, ¬AsideWord k a := fun _ => down_notAside
  simp only [downWords, List.forall_mem_cons] at own
  obtain ⟨delay, uncorr, stat, sum, -⟩ := own
  delta State.portDown
  extract_lets st s1 s2 s3 s4 s5 s6 s7 s8 s9 tg s10 s11 s12 s13
  have told : Aside k s s1 := .ite (aside_sendSym s _ _ _) .rfl
  have cutOff : Aside k s1 s3 := (aside_wrBit s1 _ delay).trans (aside_addSat _ _ uncorr)
  have shown : Aside k s3 s5 := ((aside_wr s3 _ stat).trans (aside_wr _ (f := LK_STAT_CAUSE k) _ stat)).trans (aside_wrBit _ (f := LK_STAT_HELD k) _ stat)
  have counted : Aside k s5 s6 := (aside_addSat s5 (f := LK_STAT_DOWNS k) _ stat).trans (aside_addSat _ _ sum)
  have closed : Aside k s6 s8 := (aside_closePacket s6 k false).trans (aside_setPort _ k _)
  have expired : Aside k s8 s9 := (aside_expireRecs s8 _ (by omega)).trans (aside_expireRecs _ _ (by omega))
  have forgot : Aside k s9 s10 := aside_withTg s9 _
  have emptied : Aside k s10 s11 := by
    obtain ⟨-, -, -, -, flush, -⟩ := pool_notAside (k := k) (dieOf k)
    obtain ⟨-, -, -, -, -, kept⟩ := pool_notAside (k := k) k
    have large : ∀ l, Aside k s10 ((s10.setCells l).wrBit (SW_PSTAT_KEPT k) true) := fun l =>
      (aside_setCells s10 l).trans (aside_wrBit _ true kept)
    dsimp only [s11]
    refine .ite (large _) ?_
    have copies := aside_dropCopies (k := k) s10 k false
    generalize s10.dropCopies k false = dropped at copies ⊢
    have credits := aside_dropCred (k := k) dropped.2 k
    generalize dropped.2.dropCred k = freed at credits ⊢
    exact (copies.trans credits).trans (aside_addSat _ _ flush)
  have reported : Aside k s12 s13 := by
    dsimp only [s13]
    split
    · exact .ite (aside_faultConseq s12 _ _ _ _ _) (aside_fault s12 _ _ _ _ _ _ _)
    · exact .rfl
  have fallen : Aside k s s10 := (((told.trans cutOff).trans shown).trans counted).trans ((closed.trans expired).trans forgot)
  exact ((fallen.trans emptied).trans ((aside_timePortLost s11 k).trans reported)).trans (aside_trySignal k s13)

end
end

end Sys2Proof.Proofs.Lanes
end

section
/-! PROOFS. Lanes that fail, and ports whose lanes are ready or quiet (R310, R314, R346, R347). -/

open Sys2Proof Sys2Proof.Machine Sys2Proof.Proofs.Casting Sys2Proof.Proofs.Grid

namespace Sys2Proof.Proofs.Lanes

/-! ### Fields aside from a port -/

/-- A field of the blocks of lanes and of engines. -/
def LaneFld (f : Fld) : Prop := 0x200000 ≤ f.addr ∧ f.addr < 0x220000

section
variable {p : Nat} {s u : State}

theorem Spares.rd {W : Nat → Prop} (h : Spares W s u) {f : Fld} (hf : W f.addr) : u.rd f = s.rd f := by rw [State.rd, h.words _ hf, State.rd]

theorem asideWord_lane (hp : p < 256) {f : Fld} (hf : LaneFld f) : AsideWord p f.addr := by
  obtain ⟨low, high⟩ := hf
  refine ⟨.inr (.inr ⟨low, high⟩), ?_⟩
  simp only [downWords, TG_LDLY_VALID, LK_UNCORR, LK_STAT_STATE, LK_SUM_DOWNS, List.mem_cons, List.not_mem_nil, or_false]
  omega

theorem Spares.lane {W : Nat → Prop} (h : Spares W s u) (k : Nat) : u.lane k = s.lane k := lane_of_lanes h.lanes k

/-- Fields of lanes and engines alone: every other reads the same (R605). -/
theorem FieldsOnly.beyond {l : List Fld} (h : FieldsOnly l s u) (hl : ∀ f ∈ l, LaneFld f) {g : Fld} (hg : ¬LaneFld g) : u.rd g = s.rd g :=
  h g fun f hf => .inl fun e => hg (by rw [LaneFld, ← e]; exact hl f hf)

/-- A step of an operation that leaves the registers of a port before the port goes down (R350). -/
theorem portDown_after {cause : Nat} {v : State} {l : List Fld} (fields : FieldsOnly l s u)
    (hl : ∀ f ∈ l, LaneFld f) (only : Only [.clock, .regs, .fab, .tg, .flt, .outs] s u) (h : PortDown p cause u v) : PortDown p cause s v := by
  have beyond : ∀ n, ∀ f : Fld, f.addr = 0x410000 + n + 0x40 * p → ¬LaneFld f := fun n f hf inside => by
    have := inside.2
    omega
  obtain ⟨state, shown, held, downs, sum, valid, noReplay, noPacket, rest⟩ := h
  refine ⟨state, shown, ?_, ?_, ?_, valid, noReplay, noPacket, only.trans rest⟩
  · rw [held, bit_of_rd (fields.beyond hl (beyond 0 (LK_CTRL_ADMIN p) rfl)), bit_of_rd (fields.beyond hl (beyond 8 (LK_CFG_USE p) rfl))]
  · rw [downs, fields.beyond hl (beyond 4 (LK_STAT_DOWNS p) rfl)]
  · rw [sum, fields.beyond hl (g := LK_SUM_DOWNS) (by simp [LaneFld, LK_SUM_DOWNS])]

end

/-! ### Ports that may rise -/

theorem mayRise_iff (s : State) (p : Nat) : s.mayRise p = true ↔ s.bit (LK_CTRL_ADMIN p) = true ∧ s.portUse p = true ∧
    s.bit (LK_STAT_HELD p) = false ∧ (∀ n ∈ lanesOf p, s.bit (LN_STAT_SIG n) = true) ∧ s.nodeQuenched = false ∧ s.portPower p = true := by
  simp [State.mayRise, and_assoc]

/-- What a port needs to rise beside its lanes (R346, R522, R591). -/
theorem standing_of_fields {p : Nat} {s u : State} {l : List Fld} (fields : FieldsOnly l s u) (hl : ∀ f ∈ l, LaneFld f) (hp : p < 256) :
    u.bit (LK_CTRL_ADMIN p) = s.bit (LK_CTRL_ADMIN p) ∧ u.portUse p = s.portUse p ∧ u.bit (LK_STAT_HELD p) = s.bit (LK_STAT_HELD p) ∧
      u.nodeQuenched = s.nodeQuenched ∧ u.portPower p = s.portPower p := by
  have beyond : ∀ g : Fld, g.addr < 0x200000 ∨ 0x220000 ≤ g.addr → u.rd g = s.rd g := fun g hg => fields.beyond hl fun inside => by
    obtain ⟨low, high⟩ := inside
    omega
  have power : ∀ d < 64, u.domOn d = s.domOn d := fun d hd => by
    rw [State.domOn, beyond, State.domOn]
    simp only [PWR_STATE_STATE]
    omega
  have block : ∀ n, 0x220000 ≤ 0x410000 + n + 0x40 * p := fun n => by omega
  refine ⟨bit_of_rd (beyond _ (.inr (block 0))), bit_of_rd (beyond _ (.inr (block 8))), bit_of_rd (beyond (LK_STAT_HELD p) (.inr (block 4))),
    bit_of_rd (beyond FLT_STAT_NODEQ (.inl (by decide))), ?_⟩
  have die : dieOf p < 2 := by unfold dieOf; omega
  simp only [State.portPower, power (32 + p / 32) (by omega), power (40 + dieOf p) (by omega), power 48 (by decide)]

/-! ### Lanes that fail -/

section
variable (s : State) (k : Nat)

theorem failed_laneFailed : (s.laneFailed k).bit (LN_STAT_FAILED k) = true := by
  have failed : (s.wrBit (LN_STAT_FAILED k) true).bit (LN_STAT_FAILED k) = true := State.bit_wrBit _ _ _ rfl (show 13 + 1 ≤ 32 by decide)
  unfold State.laneFailed
  dsimp only
  split <;> exact failed

theorem fields_laneFailed : FieldsOnly [LN_STAT_FAILED k] s (s.laneFailed k) :=
  (fields_wrBit s _ true).trans (.ite (fields_of_regs rfl) (fields_of_regs rfl))

theorem lanes_laneFailed : (s.laneFailed k).fab = s.fab := by
  unfold State.laneFailed
  dsimp only
  split <;> rfl

theorem only_laneFailed : Only [.regs, .flt] s (s.laneFailed k) := by
  unfold State.laneFailed
  dsimp only
  split
  · exact (s.only_wrBit _ _).comp (State.only_flag _ _) (by simp) (by simp)
  · exact (s.only_wrBit _ _).comp (State.only_fault _ _ _ _ _ _ _ _) (by simp) (by simp)

/-- A lane that fails is reported; on a quenched node the report is a consequent one (R314, R519). -/
theorem reports_laneFailed : (s.laneFailed k).flt.reports =
    s.flt.reports ++ [⟨.link, 1, 3, mPort (k / 4), 4, 0, s.now, false, s.nodeQuenched⟩] := by
  have quench : (s.wrBit (LN_STAT_FAILED k) true).nodeQuenched = s.nodeQuenched :=
    (fields_wrBit s _ true).bit (g := FLT_STAT_NODEQ) (by simp [LN_STAT_FAILED, FLT_STAT_NODEQ])
  unfold State.laneFailed
  dsimp only
  cases h : (s.wrBit (LN_STAT_FAILED k) true).nodeQuenched
  · rw [← quench, h]
    rfl
  · rw [← quench, h]
    rfl

/-- What a lane that fails on an up port leaves (R314). -/
structure LaneFails (k : Nat) (s u : State) : Prop where
  failed : u.bit (LN_STAT_FAILED k) = true
  down : PortDown (k / 4) 3 s u
  reported : ⟨.link, 1, 3, mPort (k / 4), 4, 0, s.now, false, s.nodeQuenched⟩ ∈ u.flt.reports
  lanes : u.fab.lanes = s.fab.lanes
  reports : s.flt.reports <+: u.flt.reports
  fields : ∀ g, LaneFld g → Clear (LN_STAT_FAILED k) g → u.rd g = s.rd g

variable {k}

theorem laneFld_stat (hk : k < 1024) (lo width : Nat) : LaneFld ⟨0x210004 + 0x40 * k, lo, width⟩ := by
  simp only [LaneFld]
  omega

theorem laneFail_spec (hk : k < 1024) (up : s.portUp (k / 4) = true) : LaneFails k s (s.laneFail k) := by
  have hp : k / 4 < 256 := by omega
  have failedLane : LaneFld (LN_STAT_FAILED k) := laneFld_stat hk _ _
  have state : (s.laneFailed k).rd (LK_STAT_STATE (k / 4)) = 5 := by
    refine (fields_laneFailed s k _ ?_).trans (beq_iff_eq.1 up)
    simp [LN_STAT_FAILED, LK_STAT_STATE]
  have fails : s.laneFail k = (s.laneFailed k).portDown (k / 4) 3 := if_neg (by rw [lanePort, state]; decide)
  have aside := aside_portDown (s.laneFailed k) hp 3
  have reports := reports_laneFailed s k
  rw [fails]
  refine ⟨?_, ?_, ?_, ?_, ?_, fun g hg apart => ?_⟩
  · exact (bit_of_rd (aside.rd (asideWord_lane hp failedLane))).trans (failed_laneFailed s k)
  · exact portDown_after (fields_laneFailed s k) (by simpa using failedLane) ((only_laneFailed s k).mono (by simp))
      (portDown_spec _ hp (by decide))
  · exact aside.reports.subset (by rw [reports]; exact List.mem_append_right _ (List.mem_singleton.2 rfl))
  · rw [aside.lanes, lanes_laneFailed]
  · exact (reports ▸ List.prefix_append _ _).trans aside.reports
  · exact (aside.rd (asideWord_lane hp hg)).trans (fields_laneFailed s k g (by simpa using apart))

/-- A lane that fails after steps that leave the clock and touch lane registers alone (R314). -/
theorem LaneFails.after {s v u : State} {k : Nat} {l : List Fld} (h : LaneFails k v u) (fields : FieldsOnly l s v) (hl : ∀ f ∈ l, LaneFld f)
    (only : Only [.regs, .fab, .flt] s v) : u.bit (LN_STAT_FAILED k) = true ∧ PortDown (k / 4) 3 s u ∧
      ⟨.link, 1, 3, mPort (k / 4), 4, 0, s.now, false, s.nodeQuenched⟩ ∈ u.flt.reports := by
  have quench : v.nodeQuenched = s.nodeQuenched := bit_of_rd (fields.beyond hl (by simp [LaneFld, FLT_STAT_NODEQ]))
  refine ⟨h.failed, portDown_after fields hl (only.mono (by simp)) h.down, ?_⟩
  rw [← (only .clock (by decide)).1, ← quench]
  exact h.reported

end

/-! ### Ports that go on -/

section
variable (s : State) (p : Nat)

/-- A port with a lane that no sweep readies leaves DOWN for SIGNAL, where it may (R346). -/
theorem state_trySignal_unready (hp : p < 256) (unready : s.lanesReady p = false) : (s.trySignal p).rd (LK_STAT_STATE p) =
    if s.rd (LK_STAT_STATE p) = 0 ∧ s.mayRise p = true then 1 else s.rd (LK_STAT_STATE p) := by
  unfold State.trySignal
  split
  · have still : (s.toPortState p 1).lanesReady p = false := (lanesReady_toPortState s 1 hp).trans unready
    rw [State.tryAlign, if_neg (by simp [still])]
    exact state_toPortState s (by decide)
  · rfl

theorem fields_toPortState (st : Nat) : FieldsOnly [LK_STAT_STATE p] s (s.toPortState p st) :=
  (fields_of_regs (u := s.setPort p _) rfl).trans (fields_wr _ _ _)

theorem fields_tryAlign : FieldsOnly [LK_STAT_STATE p] s (s.tryAlign p) := .ite (fields_toPortState s p 2) .rfl

theorem fields_trySignal : FieldsOnly [LK_STAT_STATE p] s (s.trySignal p) :=
  .ite ((fields_toPortState s p 1).trans (fields_tryAlign _ p)) .rfl

theorem only_tryAlign : Only [.regs, .fab] s (s.tryAlign p) := by
  unfold State.tryAlign
  split
  · exact only_toPortState s 2
  · exact Only.rfl

theorem only_trySignal : Only [.regs, .fab] s (s.trySignal p) := by
  unfold State.trySignal
  split
  · exact (only_toPortState s 1).trans (only_tryAlign _ p)
  · exact Only.rfl

theorem state_tryAlign : (s.tryAlign p).rd (LK_STAT_STATE p) =
    if s.rd (LK_STAT_STATE p) = 1 ∧ s.lanesReady p = true then 2 else s.rd (LK_STAT_STATE p) := by
  unfold State.tryAlign
  split
  · exact state_toPortState s (by decide)
  · rfl

theorem tryUp_other (h : s.rd (LK_STAT_STATE p) ≠ 4) : s.tryUp p = s := if_neg fun both => h both.1

/-- The fields that show a port that comes UP (R325, R346, R384). -/
def upFields (p : Nat) : List Fld := [LK_STAT_STATE p, SW_PSTAT_KEPT p] ++ (lanesOf p).map LN_FOMLOG_MIN

theorem fields_tryUp : FieldsOnly (upFields p) s (s.tryUp p) := by
  delta State.tryUp
  extract_lets port quiet s1 s2 q m
  have shown : FieldsOnly (upFields p) s s1 :=
    ((fields_toPortState s p 5).append (fields_wrBit _ (SW_PSTAT_KEPT p) false)).mono (by simp [upFields])
  have anew : FieldsOnly (upFields p) s1 s2 := .foldl _ (lanesOf p) s1 fun n hn u =>
    ((fields_setLane u n _).trans (fields_wr _ (LN_FOMLOG_MIN n) 255)).mono
      (by simpa [upFields] using .inr (.inr ⟨n, hn, rfl⟩))
  have queued : ∀ u vc c, FieldsOnly (upFields p) u (u.queueCredit p vc true c) := fun _ _ _ => fields_of_regs rfl
  exact .ite ((shown.trans anew).trans ((((queued s2 4 q).trans (queued _ 5 q)).trans (queued _ 6 m)).trans (queued _ 7 m))) .rfl

/-- Lane registers beside the logs of figures stay as a port comes UP. -/
theorem clear_upFields (hp : p < 256) {g : Fld} (hg : LaneFld g) (log : g.addr % 64 ≠ 12) : ∀ f ∈ upFields p, Clear f g := by
  obtain ⟨low, high⟩ := hg
  simp only [upFields, lanesOf, List.cons_append, List.nil_append, List.forall_mem_cons, List.mem_map]
  refine ⟨.inl ?_, .inl ?_, ?_⟩
  · simp only [LK_STAT_STATE]
    omega
  · simp only [SW_PSTAT_KEPT]
    omega
  · rintro _ ⟨n, -, rfl⟩
    refine .inl fun e => log ?_
    rw [← e]
    simp only [LN_FOMLOG_MIN]
    omega

theorem only_tryUp : Only [.regs, .fab] s (s.tryUp p) := by
  delta State.tryUp
  extract_lets port quiet s1 s2 q m
  have shown : Only [.regs, .fab] s s1 := (only_toPortState s 5).trans ((State.only_wrBit _ _ _).mono (by simp))
  have anew : Only [.regs, .fab] s1 s2 := Only.foldl _ (fun u n => (only_setLane u n _).comp (State.only_wr _ _ _) (by simp) (by simp)) _ s1
  have queued : ∀ u vc c, Only [.regs, .fab] u (u.queueCredit p vc true c) := fun u vc c => (only_setPort u p _).mono (by simp)
  split
  · exact (shown.trans anew).trans ((((queued s2 4 q).trans (queued _ 5 q)).trans (queued _ 6 m)).trans (queued _ 7 m))
  · exact Only.rfl

end

end Sys2Proof.Proofs.Lanes
end

section
/-! PROOFS. The code that a sweep chooses (R308, R310), and the code that a window moves toward (R311). -/

open Sys2Proof Sys2Proof.Machine

namespace Sys2Proof.Proofs.Lanes

/-! ### The best of a sweep -/

/-- A figure with its code is at least as good a choice as another: a higher figure, else nearer the main code, else not above it (R310). -/
def AtLeast (main : Nat) (r x : Nat × Nat) : Prop :=
  x.1 < r.1 ∨ (x.1 = r.1 ∧ (codeDist r.2 main < codeDist x.2 main ∨ (codeDist r.2 main = codeDist x.2 main ∧ r.2 ≤ x.2)))

theorem AtLeast.refl (main : Nat) (r : Nat × Nat) : AtLeast main r r := .inr ⟨rfl, .inr ⟨rfl, Nat.le_refl _⟩⟩

theorem AtLeast.trans {main : Nat} {a b c : Nat × Nat} (h : AtLeast main a b) (k : AtLeast main b c) : AtLeast main a c := by
  unfold AtLeast at *
  omega

/-- The better of two choices, the first on a tie. -/
def better (main : Nat) (b f : Nat × Nat) : Nat × Nat :=
  if b.1 < f.1 ∨ (b.1 = f.1 ∧ codeDist f.2 main < codeDist b.2 main) then f else b

theorem better_spec {main : Nat} {b f : Nat × Nat} (h : b.2 ≤ f.2) :
    (better main b f = b ∨ better main b f = f) ∧ AtLeast main (better main b f) b ∧ AtLeast main (better main b f) f := by
  unfold better
  split
  · refine ⟨.inr rfl, ?_, .refl _ _⟩
    unfold AtLeast
    omega
  · refine ⟨.inl rfl, .refl _ _, ?_⟩
    unfold AtLeast
    omega

/-- Among choices in the order of their codes, the fold of the better of two finds one that is at least as good as each. -/
theorem foldl_better (main : Nat) : ∀ (l : List (Nat × Nat)) (b : Nat × Nat), (b :: l).Pairwise (fun x y => x.2 ≤ y.2) →
    l.foldl (better main) b ∈ b :: l ∧ ∀ x ∈ b :: l, AtLeast main (l.foldl (better main) b) x
  | [], b, _ => ⟨List.mem_cons_self, fun x hx => List.mem_singleton.1 hx ▸ .refl _ _⟩
  | f :: l, b, h => by
    obtain ⟨below, sorted⟩ := List.pairwise_cons.1 h
    obtain ⟨which, overB, overF⟩ := better_spec (main := main) (below f List.mem_cons_self)
    have sorted' : (better main b f :: l).Pairwise (fun x y => x.2 ≤ y.2) := by
      obtain ⟨aboveF, rest⟩ := List.pairwise_cons.1 sorted
      refine List.pairwise_cons.2 ⟨fun y hy => ?_, rest⟩
      rcases which with e | e <;> rw [e]
      · exact below y (List.mem_cons_of_mem _ hy)
      · exact aboveF y hy
    obtain ⟨found, best⟩ := foldl_better main l (better main b f) sorted'
    have top := best _ List.mem_cons_self
    refine ⟨?_, fun x hx => ?_⟩
    · rcases List.mem_cons.1 found with e | e
      · rw [List.foldl_cons, e]
        rcases which with e | e <;> simp [e]
      · exact List.mem_cons_of_mem _ (List.mem_cons_of_mem _ e)
    · rcases List.mem_cons.1 hx with rfl | hx
      · exact top.trans overB
      · rcases List.mem_cons.1 hx with rfl | hx
        · exact top.trans overF
        · exact best x (List.mem_cons_of_mem _ hx)

/-- A sweep of 32 codes chooses one whose figure is at least as good as every other (R310). -/
theorem sweepBest_spec (main : Nat) (g : Nat → Nat) : ∃ c < 32, sweepBest main ((List.range 32).map g) = (g c, c) ∧
    ∀ e < 32, g e < g c ∨ (g e = g c ∧ (codeDist c main < codeDist e main ∨ (codeDist c main = codeDist e main ∧ c ≤ e))) := by
  have choices : ((List.range 32).map g).zipIdx = (List.range 32).map fun c => (g c, c) :=
    List.ext_getElem (by simp) fun i _ _ => by simp
  have folded : sweepBest main ((List.range 32).map g) = ((List.range 32).map fun c => (g c, c)).foldl (better main) (g 0, 0) := by
    rw [sweepBest, choices]
    rfl
  have sorted : ((g 0, 0) :: (List.range 32).map fun c => (g c, c)).Pairwise (fun x y => x.2 ≤ y.2) := by
    refine List.pairwise_cons.2 ⟨fun _ _ => Nat.zero_le _, List.pairwise_map.2 ?_⟩
    exact List.pairwise_lt_range.imp Nat.le_of_lt
  obtain ⟨found, best⟩ := foldl_better main _ _ sorted
  have chosen : ∃ c < 32, (g c, c) = ((List.range 32).map fun c => (g c, c)).foldl (better main) (g 0, 0) := by
    rcases List.mem_cons.1 found with e | e
    · exact ⟨0, by decide, e.symm⟩
    · obtain ⟨c, hc, e⟩ := List.mem_map.1 e
      exact ⟨c, List.mem_range.1 hc, e⟩
  obtain ⟨c, hc, e⟩ := chosen
  refine ⟨c, hc, folded.trans e.symm, fun d hd => ?_⟩
  have top := best (g d, d) (List.mem_cons_of_mem _ (List.mem_map.2 ⟨d, List.mem_range.2 hd, rfl⟩))
  rw [← e] at top
  exact top

/-! ### Figures and neighbours -/

theorem eyeFom_lt (e : Eye) : eyeFom e < 256 := Nat.lt_succ_of_le (Nat.min_le_left _ _)

/-- A neighbour of a main code is a code (R311). -/
theorem windowNeighbour_lt {hyst c lo f hi n : Nat} (hc : c < 32) (h : windowNeighbour hyst c lo f hi = some n) : n < 32 := by
  have up : ∀ {b : Bool}, (decide (c < 31) && b) = true → c + 1 < 32 := fun hb => by
    have := of_decide_eq_true (Bool.and_eq_true_iff.1 hb).1
    omega
  unfold windowNeighbour at h
  dsimp only at h
  split at h
  · rename_i both
    have := up (Bool.and_eq_true_iff.1 both).2
    split at h <;> cases h <;> omega
  · split at h
    · cases h
      omega
    · split at h
      · rename_i higher
        have := up higher
        cases h
        exact this
      · cases h

theorem oneToward_lt {t n : Nat} (ht : t < 32) (hn : n < 32) : oneToward t n < 32 := by
  unfold oneToward
  split
  · omega
  · split <;> omega

end Sys2Proof.Proofs.Lanes
end

section
/-! PROOFS. Lanes whose signal rises or falls, and sweeps (R309, R310, R312, R314, R317, R320). -/

open Sys2Proof Sys2Proof.Machine Sys2Proof.Proofs.Casting Sys2Proof.Proofs.Grid

namespace Sys2Proof.Proofs.Lanes

section
variable (s : State) (k : Nat)

/-! ### SIG_RISE -/

/-- A lane shows a signal, whether its level is valid, and no slips (R309, R317). -/
def signalled (valid : Bool) : State := ((s.wrBit (LN_STAT_SIG k) true).wrBit (LN_STAT_FOM_VALID k) valid).wr (LN_STAT_SLIPS k) 0

/-- The fields that a rise of the signal shows. -/
def riseFields : List Fld := [LN_STAT_SIG k, LN_STAT_FOM_VALID k, LN_STAT_SLIPS k]

theorem fields_signalled (valid : Bool) : FieldsOnly (riseFields k) s (signalled s k valid) :=
  ((fields_wrBit s _ _).append (fields_wrBit _ _ _)).append (fields_wr _ _ _)

theorem only_signalled (valid : Bool) : Only [.regs] s (signalled s k valid) :=
  ((s.only_wrBit _ _).trans (State.only_wrBit _ _ _)).trans (State.only_wr _ _ _)

/-- What a rise of the signal makes of lane `k` (R310, R317). -/
def risenLane : Lane := { s.lane k with swept := false, hits := 0 }

/-- A lane whose signal rose and whose sweep has not begun. -/
def sigLane (valid : Bool) : State := (signalled s k valid).setLane k (risenLane (signalled s k valid) k)

theorem fields_sigLane (valid : Bool) : FieldsOnly (riseFields k) s (sigLane s k valid) :=
  (fields_signalled s k valid).trans (fields_setLane _ k _)

theorem only_sigLane (valid : Bool) : Only [.regs, .fab] s (sigLane s k valid) :=
  (only_signalled s k valid).comp (only_setLane _ k _) (by simp) (by simp)

theorem lane_sigLane (valid : Bool) : (sigLane s k valid).lane k = risenLane s k := by
  rw [sigLane, lane_setLane_same, risenLane, lane_of_lanes (s := s) (u := signalled s k valid) rfl, risenLane]

/-- A lane whose signal rose, before its port moves (R310). -/
def sigShown (valid : Bool) : State :=
  if (sigLane s k valid).bit (LN_CTRL_ADAPT_EN k) then (sigLane s k valid).startSweep k true else sigLane s k valid

theorem fields_sigShown (valid : Bool) : FieldsOnly (riseFields k ++ [LN_STAT_ADAPTING k]) s (sigShown s k valid) :=
  .ite ((fields_sigLane s k valid).append (fields_startSweep _ k true)) ((fields_sigLane s k valid).mono (List.subset_append_left _ _))

theorem only_sigShown (valid : Bool) : Only [.regs, .fab] s (sigShown s k valid) := by
  unfold sigShown
  split
  · exact (only_sigLane s k valid).trans (only_startSweep _ k true)
  · exact only_sigLane s k valid

theorem sigRise_eq {valid : Bool} (on : s.domOn (32 + k / 128) = true) (dark : s.bit (LN_STAT_SIG k) = false) :
    s.sigRise k valid = (sigShown s k valid).trySignal (k / 4) := by
  have rises : (s.domOn (laneDom k) && !s.bit (LN_STAT_SIG k)) = true := by rw [laneDom, on, dark]; rfl
  exact if_pos rises

theorem sigRise_idle (valid : Bool) (h : ¬s.domOn (32 + k / 128) = true ∨ s.bit (LN_STAT_SIG k) = true) : s.sigRise k valid = s := by
  refine if_neg fun rises => ?_
  obtain ⟨on, dark⟩ := Bool.and_eq_true_iff.1 rises
  rcases h with off | lit
  · exact off on
  · rw [lit] at dark
    exact Bool.false_ne_true dark

theorem shows_sigLane (valid : Bool) : (sigLane s k valid).bit (LN_STAT_SIG k) = true ∧
    (sigLane s k valid).bit (LN_STAT_FOM_VALID k) = valid ∧ (sigLane s k valid).rd (LN_STAT_SLIPS k) = 0 := by
  have lit : (s.wrBit (LN_STAT_SIG k) true).bit (LN_STAT_SIG k) = true := State.bit_wrBit _ _ _ rfl (show 9 + 1 ≤ 32 by decide)
  have stored : FieldsOnly [] (signalled s k valid) (sigLane s k valid) := fields_setLane _ k _
  have slips := (fields_wr ((s.wrBit (LN_STAT_SIG k) true).wrBit (LN_STAT_FOM_VALID k) valid) (LN_STAT_SLIPS k) 0).append stored
  have level := fields_wrBit (s.wrBit (LN_STAT_SIG k) true) (LN_STAT_FOM_VALID k) valid
  refine ⟨((level.append slips).bit ?_).trans lit, (slips.bit ?_).trans (State.bit_wrBit _ _ _ rfl (show 8 + 1 ≤ 32 by decide)),
    (stored _ (by simp)).trans (State.rd_wr_same _ _ _ (show 21 + 6 ≤ 32 by decide))⟩
  · simp [LN_STAT_SIG, LN_STAT_FOM_VALID, LN_STAT_SLIPS]
  · simp [LN_STAT_FOM_VALID, LN_STAT_SLIPS]

/-- From a lane that shows its signal on, a sweep and the port's state are all that move. -/
theorem fields_sigRise (valid : Bool) : FieldsOnly [LN_STAT_ADAPTING k, LK_STAT_STATE (k / 4)] (sigLane s k valid)
    ((sigShown s k valid).trySignal (k / 4)) := by
  have swept : FieldsOnly [LN_STAT_ADAPTING k] (sigLane s k valid) (sigShown s k valid) := .ite (fields_startSweep _ k true) .rfl
  exact swept.append (fields_trySignal _ _)

theorem enabled_sigLane (valid : Bool) : (sigLane s k valid).bit (LN_CTRL_ADAPT_EN k) = s.bit (LN_CTRL_ADAPT_EN k) :=
  (fields_sigLane s k valid).bit (by simp [riseFields, LN_STAT_SIG, LN_STAT_FOM_VALID, LN_STAT_SLIPS, LN_CTRL_ADAPT_EN])

theorem lane_sigShown (valid : Bool) : (sigShown s k valid).lane k = { risenLane s k with
    sweep := if s.bit (LN_CTRL_ADAPT_EN k) then some (true, s.now, s.rd (LN_STAT_MAIN k)) else (s.lane k).sweep } := by
  have main : (sigLane s k valid).rd (LN_STAT_MAIN k) = s.rd (LN_STAT_MAIN k) := fields_sigLane s k valid _
    (by simp [riseFields, LN_STAT_SIG, LN_STAT_FOM_VALID, LN_STAT_SLIPS, LN_STAT_MAIN])
  rw [sigShown, enabled_sigLane]
  split
  · rw [lane_startSweep, lane_sigLane, main, (only_sigLane s k valid .clock (by decide)).1]
  · exact lane_sigLane s k valid

theorem adapting_sigShown {valid : Bool} (en : s.bit (LN_CTRL_ADAPT_EN k) = true) :
    (sigShown s k valid).bit (LN_STAT_ADAPTING k) = true := by
  rw [sigShown, enabled_sigLane, if_pos en]
  exact adapting_startSweep _ k true

/-- The lanes of the port of lane `k`. -/
theorem mem_lanesOf {p n : Nat} : n ∈ lanesOf p ↔ n ∈ [4 * p, 4 * p + 1, 4 * p + 2, 4 * p + 3] := by
  simp [lanesOf, List.range_succ]

variable {k}

theorem mem_lanesOf_self : k ∈ lanesOf (k / 4) := by
  rw [mem_lanesOf]
  simp only [List.mem_cons, List.not_mem_nil, or_false]
  omega

/-- A port whose lane saw its signal rise may rise where every other lane has one and nothing else keeps it (R346). -/
theorem mayRise_sigShown (hk : k < 1024) (valid : Bool) : (sigShown s k valid).mayRise (k / 4) = true ↔
    s.bit (LK_CTRL_ADMIN (k / 4)) = true ∧ s.portUse (k / 4) = true ∧ s.bit (LK_STAT_HELD (k / 4)) = false ∧
      (∀ n ∈ lanesOf (k / 4), n ≠ k → s.bit (LN_STAT_SIG n) = true) ∧ s.nodeQuenched = false ∧ s.portPower (k / 4) = true := by
  have fields := fields_sigShown s k valid
  have inside : ∀ f ∈ riseFields k ++ [LN_STAT_ADAPTING k], LaneFld f := by
    simp [riseFields, LaneFld, LN_STAT_SIG, LN_STAT_FOM_VALID, LN_STAT_SLIPS, LN_STAT_ADAPTING]
    omega
  obtain ⟨admin, use, held, quench, power⟩ := standing_of_fields fields inside (p := k / 4) (by omega)
  have own : (sigShown s k valid).bit (LN_STAT_SIG k) = true := by
    have swept : FieldsOnly [LN_STAT_ADAPTING k] (sigLane s k valid) (sigShown s k valid) := .ite (fields_startSweep _ k true) .rfl
    exact (swept.bit (by simp [LN_STAT_SIG, LN_STAT_ADAPTING])).trans (shows_sigLane s k valid).1
  have others : ∀ n, n ≠ k → (sigShown s k valid).bit (LN_STAT_SIG n) = s.bit (LN_STAT_SIG n) := fun n hn => fields.bit (by
    simp [riseFields, LN_STAT_SIG, LN_STAT_FOM_VALID, LN_STAT_SLIPS, LN_STAT_ADAPTING]
    omega)
  have signals : (∀ n ∈ lanesOf (k / 4), (sigShown s k valid).bit (LN_STAT_SIG n) = true) ↔
      ∀ n ∈ lanesOf (k / 4), n ≠ k → s.bit (LN_STAT_SIG n) = true := by
    refine forall₂_congr fun n _ => ?_
    by_cases hn : n = k
    · subst hn
      simp [own]
    · simp [others n hn, hn]
  rw [mayRise_iff, admin, use, held, quench, power, signals]

/-- What SIG_RISE leaves of a lane without a signal whose quarter is On (R309, R310, R317, R346). -/
theorem sigRise_spec (hk : k < 1024) {valid : Bool} {u : State} (hu : u = (sigShown s k valid).trySignal (k / 4)) :
    u.bit (LN_STAT_SIG k) = true ∧ u.bit (LN_STAT_FOM_VALID k) = valid ∧ u.rd (LN_STAT_SLIPS k) = 0 ∧
      u.lane k = { risenLane s k with
        sweep := if s.bit (LN_CTRL_ADAPT_EN k) then some (true, s.now, s.rd (LN_STAT_MAIN k)) else (s.lane k).sweep } ∧
      (s.bit (LN_CTRL_ADAPT_EN k) = true → u.bit (LN_STAT_ADAPTING k) = true) ∧
      u.rd (LK_STAT_STATE (k / 4)) = (if s.rd (LK_STAT_STATE (k / 4)) = 0 ∧ (sigShown s k valid).mayRise (k / 4) = true then 1
        else s.rd (LK_STAT_STATE (k / 4))) ∧
      WordsOnly [(LN_STAT_SIG k).addr, (LK_STAT_STATE (k / 4)).addr] s u ∧ Only [.regs, .fab] s u := by
  subst hu
  have moved := fields_sigRise s k valid
  have shown := fields_sigShown s k valid
  obtain ⟨sig, fom, slips⟩ := shows_sigLane s k valid
  have lane := (aside_trySignal (k / 4) (sigShown s k valid)).lane k
  refine ⟨(moved.bit ?_).trans sig, (moved.bit ?_).trans fom, (moved _ ?_).trans slips, lane.trans (lane_sigShown s k valid), fun en => ?_, ?_,
    (shown.append (fields_trySignal _ (k / 4))).words.mono ?_, (only_sigShown s k valid).trans (only_trySignal _ _)⟩
  · simp [LN_STAT_SIG, LN_STAT_ADAPTING, LK_STAT_STATE]
  · simp [LN_STAT_FOM_VALID, LN_STAT_ADAPTING, LK_STAT_STATE]
  · simp [LN_STAT_SLIPS, LN_STAT_ADAPTING, LK_STAT_STATE]
  · exact ((fields_trySignal _ _).bit (by simp [LN_STAT_ADAPTING, LK_STAT_STATE])).trans (adapting_sigShown s k en)
  · have unready : (sigShown s k valid).lanesReady (k / 4) = false := by
      rw [State.lanesReady, List.all_eq_false]
      exact ⟨k, mem_lanesOf_self, by rw [lane_sigShown]; simp [risenLane]⟩
    have state : (sigShown s k valid).rd (LK_STAT_STATE (k / 4)) = s.rd (LK_STAT_STATE (k / 4)) := shown _ (by
      simp [riseFields, LN_STAT_SIG, LN_STAT_FOM_VALID, LN_STAT_SLIPS, LN_STAT_ADAPTING, LK_STAT_STATE])
    rw [state_trySignal_unready _ _ (by omega) unready, state]
  · simp [riseFields, LN_STAT_SIG, LN_STAT_FOM_VALID, LN_STAT_SLIPS, LN_STAT_ADAPTING]

end
end Sys2Proof.Proofs.Lanes
end

section
/-! PROOFS. SIG_FALL, SWEEP and SWEEP_COMPLETE (R309, R310, R312, R314, R315, R320). -/

open Sys2Proof Sys2Proof.Machine Sys2Proof.Proofs.Casting Sys2Proof.Proofs.Grid

namespace Sys2Proof.Proofs.Lanes

section
variable (s : State) (k : Nat)

/-! ### SIG_FALL -/

/-- A lane shows no signal, no level and no match (R309). -/
def signalLost : State := ((s.wrBit (LN_STAT_SIG k) false).wrBit (LN_STAT_FOM_VALID k) false).wrBit (LN_STAT_MATCH k) false

/-- A lane whose signal fell, before its port moves. -/
def sigDropped : State :=
  ((signalLost s k).setLane k { (signalLost s k).lane k with sweep := none, swept := false, hits := 0 }).laneSync k

/-- The fields that a fall of the signal clears. -/
def fallFields : List Fld := [LN_STAT_SIG k, LN_STAT_FOM_VALID k, LN_STAT_MATCH k]

theorem fields_signalLost : FieldsOnly (fallFields k) s (signalLost s k) :=
  ((fields_wrBit s _ _).append (fields_wrBit _ _ _)).append (fields_wrBit _ _ _)

theorem fields_dropping : FieldsOnly [LN_STAT_ADAPTING k] (signalLost s k) (sigDropped s k) :=
  (fields_setLane _ k _).trans (fields_laneSync _ k)

theorem fields_sigDropped : FieldsOnly (fallFields k ++ [LN_STAT_ADAPTING k]) s (sigDropped s k) :=
  (fields_signalLost s k).append (fields_dropping s k)

theorem only_sigDropped : Only [.regs, .fab] s (sigDropped s k) := by
  have lost : Only [.regs] s (signalLost s k) := ((s.only_wrBit _ _).trans (State.only_wrBit _ _ _)).trans (State.only_wrBit _ _ _)
  exact (lost.comp (only_setLane _ k _) (by simp) (by simp)).trans ((only_laneSync _ k).mono (by simp))

theorem shows_signalLost : (signalLost s k).bit (LN_STAT_SIG k) = false ∧ (signalLost s k).bit (LN_STAT_FOM_VALID k) = false ∧
    (signalLost s k).bit (LN_STAT_MATCH k) = false := by
  have dark : (s.wrBit (LN_STAT_SIG k) false).bit (LN_STAT_SIG k) = false := State.bit_wrBit _ _ _ rfl (show 9 + 1 ≤ 32 by decide)
  have level := fields_wrBit (s.wrBit (LN_STAT_SIG k) false) (LN_STAT_FOM_VALID k) false
  have matched := fields_wrBit ((s.wrBit (LN_STAT_SIG k) false).wrBit (LN_STAT_FOM_VALID k) false) (LN_STAT_MATCH k) false
  refine ⟨((level.append matched).bit ?_).trans dark, (matched.bit ?_).trans (State.bit_wrBit _ _ _ rfl (show 8 + 1 ≤ 32 by decide)),
    State.bit_wrBit _ _ _ rfl (show 10 + 1 ≤ 32 by decide)⟩
  · simp [LN_STAT_SIG, LN_STAT_FOM_VALID, LN_STAT_MATCH]
  · simp [LN_STAT_FOM_VALID, LN_STAT_MATCH]

/-- What every fall of the signal leaves of its lane (R309). -/
def SigFell (k : Nat) (u : State) : Prop := u.bit (LN_STAT_SIG k) = false ∧ u.bit (LN_STAT_FOM_VALID k) = false ∧
  u.bit (LN_STAT_MATCH k) = false ∧ (u.lane k).sweep = none

theorem sigFell_sigDropped : SigFell k (sigDropped s k) := by
  obtain ⟨sig, fom, hit⟩ := shows_signalLost s k
  have synced := fields_dropping s k
  refine ⟨(synced.bit ?_).trans sig, (synced.bit ?_).trans fom, (synced.bit ?_).trans hit, ?_⟩
  · simp [LN_STAT_SIG, LN_STAT_ADAPTING]
  · simp [LN_STAT_FOM_VALID, LN_STAT_ADAPTING]
  · simp [LN_STAT_MATCH, LN_STAT_ADAPTING]
  · rw [sigDropped, lane_laneSync, lane_setLane_same]

theorem portUp_sigDropped : (sigDropped s k).portUp (k / 4) = s.portUp (k / 4) := by
  have state := fields_sigDropped s k (LK_STAT_STATE (k / 4))
    (by simp [fallFields, LN_STAT_SIG, LN_STAT_FOM_VALID, LN_STAT_MATCH, LN_STAT_ADAPTING, LK_STAT_STATE])
  rw [State.portUp, state, State.portUp]

variable {s k}

theorem sigFall_idle (dark : s.bit (LN_STAT_SIG k) = false) : s.sigFall k = s := if_neg fun lit => Bool.false_ne_true (dark.symm.trans lit)

theorem sigFall_eq (lit : s.bit (LN_STAT_SIG k) = true) : s.sigFall k =
    if s.portUp (k / 4) then (sigDropped s k).laneFail k else sigDropped s k := by
  rw [← portUp_sigDropped]
  exact if_pos lit

/-- On a port that is not up a fall of the signal is all that happens (R309). -/
theorem sigDropped_spec : SigFell k (sigDropped s k) ∧ (sigDropped s k).bit (LN_STAT_FAILED k) = s.bit (LN_STAT_FAILED k) ∧
    WordsOnly [(LN_STAT_SIG k).addr] s (sigDropped s k) := by
  have fields := fields_sigDropped s k
  refine ⟨sigFell_sigDropped s k, fields.bit ?_, fields.words.mono ?_⟩
  · simp [fallFields, LN_STAT_SIG, LN_STAT_FOM_VALID, LN_STAT_MATCH, LN_STAT_ADAPTING, LN_STAT_FAILED]
  · simp [fallFields, LN_STAT_SIG, LN_STAT_FOM_VALID, LN_STAT_MATCH, LN_STAT_ADAPTING]

/-- On an up port the lane fails with its signal (R314). -/
theorem sigFall_fails (hk : k < 1024) (up : s.portUp (k / 4) = true) : SigFell k ((sigDropped s k).laneFail k) ∧
    ((sigDropped s k).laneFail k).bit (LN_STAT_FAILED k) = true ∧ PortDown (k / 4) 3 s ((sigDropped s k).laneFail k) ∧
    ⟨.link, 1, 3, mPort (k / 4), 4, 0, s.now, false, s.nodeQuenched⟩ ∈ ((sigDropped s k).laneFail k).flt.reports := by
  have fails := laneFail_spec (sigDropped s k) hk ((portUp_sigDropped s k).trans up)
  have inside : ∀ f ∈ fallFields k ++ [LN_STAT_ADAPTING k], LaneFld f := by
    simp [fallFields, LaneFld, LN_STAT_SIG, LN_STAT_FOM_VALID, LN_STAT_MATCH, LN_STAT_ADAPTING]
    omega
  obtain ⟨sig, fom, hit, sweep⟩ := sigFell_sigDropped s k
  refine ⟨⟨?_, ?_, ?_, ?_⟩, fails.after (fields_sigDropped s k) inside ((only_sigDropped s k).mono (by simp))⟩
  · exact (bit_of_rd (fails.fields (LN_STAT_SIG k) (laneFld_stat hk _ _) (by simp [LN_STAT_SIG, LN_STAT_FAILED]))).trans sig
  · exact (bit_of_rd (fails.fields (LN_STAT_FOM_VALID k) (laneFld_stat hk _ _) (by simp [LN_STAT_FOM_VALID, LN_STAT_FAILED]))).trans fom
  · exact (bit_of_rd (fails.fields (LN_STAT_MATCH k) (laneFld_stat hk _ _) (by simp [LN_STAT_MATCH, LN_STAT_FAILED]))).trans hit
  · rw [lane_of_lanes fails.lanes, sweep]

/-! ### SWEEP -/

theorem sweepWrite_up (m : Master) (up : s.portUp (k / 4) = true) : s.sweepWrite m k = s.patRefused m k := if_pos up

theorem sweepWrite_starts (m : Master) (notUp : s.portUp (k / 4) ≠ true) (on : s.domOn (32 + k / 128) = true) :
    s.sweepWrite m k = s.startSweep k true := (if_neg notUp).trans (if_pos on)

/-! ### SWEEP_COMPLETE -/

section
variable (s k) (data : Bool) (fom code : Nat)

/-- A lane whose sweep has ended (R310). -/
def sweptLane : State := s.setLane k { s.lane k with sweep := none, swept := true }

/-- Whether a sweep moves nothing: one on the shadow sampler without a valid level or with adaptation off (R309, R315). -/
def stays : Bool := !data && !(s.bit (LN_STAT_FOM_VALID k) && s.bit (LN_CTRL_ADAPT_EN k))

/-- The target that a sweep sets, unless the host wrote it in this instant (R310, R315). -/
def targeted (still : Bool) : State := if still || s.hostCode k then s else s.wr (LN_PEAK_CODE k) code

/-- A sweep judges its lane by the figure it found (R314). -/
def judged (still : Bool) : State := if still then s else s.wrBit (LN_STAT_FAILED k) (fom < s.rd LN_CFG_FOM_FAIL)

/-- A lane whose sweep ended with a figure at a code, before its port moves. -/
def sweepEnded : State :=
  (judged (targeted (sweptLane s k) k code (stays (sweptLane s k) k data)) k fom (stays (sweptLane s k) k data)).laneSync k

theorem fields_sweptLane {l : List Fld} : FieldsOnly l s (sweptLane s k) := fields_setLane s k _

theorem fields_targeted (still : Bool) : FieldsOnly [LN_PEAK_CODE k] s (targeted s k code still) := .ite .rfl (fields_wr s _ _)

theorem fields_judged (still : Bool) : FieldsOnly [LN_STAT_FAILED k] s (judged s k fom still) := .ite .rfl (fields_wrBit s _ _)

theorem fab_targeted (still : Bool) : (targeted s k code still).fab = s.fab := by
  unfold targeted
  split <;> rfl

theorem fab_judged (still : Bool) : (judged s k fom still).fab = s.fab := by
  unfold judged
  split <;> rfl

theorem only_sweepEnded : Only [.regs, .fab] s (sweepEnded s k data fom code) := by
  have ended := only_setLane s k { s.lane k with sweep := none, swept := true }
  have aimed : ∀ u still, Only [.regs] u (targeted u k code still) := fun u still => by
    unfold targeted
    split
    · exact Only.rfl
    · exact u.only_wr _ _
  have marked : ∀ u still, Only [.regs] u (judged u k fom still) := fun u still => by
    unfold judged
    split
    · exact Only.rfl
    · exact u.only_wrBit _ _
  exact ended.comp (((aimed _ _).trans (marked _ _)).trans (only_laneSync _ k)) (by simp) (by simp)

/-- The fields that the end of a sweep moves. -/
def sweptFields : List Fld := [LN_PEAK_CODE k, LN_STAT_FAILED k, LN_STAT_ADAPTING k]

theorem fields_sweepEnded : FieldsOnly (sweptFields k) s (sweepEnded s k data fom code) :=
  (fields_sweptLane s k).trans (((fields_targeted _ k code _).append (fields_judged _ k fom _)).append (fields_laneSync _ k))

theorem lane_sweepEnded (j : Nat) : (sweepEnded s k data fom code).lane j = (sweptLane s k).lane j := by
  rw [sweepEnded, lane_laneSync]
  exact lane_of_lanes (by rw [fab_judged, fab_targeted]) j

theorem stays_sweptLane : stays (sweptLane s k) k data = stays s k data := by
  have fields : ∀ g, (sweptLane s k).bit g = s.bit g := fun g => (fields_sweptLane s k (l := [])).bit (by simp)
  rw [stays, fields, fields, stays]

theorem hostCode_sweptLane : (sweptLane s k).hostCode k = s.hostCode k := by
  rw [State.hostCode, sweptLane, lane_setLane_same]
  rfl

theorem stays_iff : stays s k data = true ↔ data = false ∧ (s.bit (LN_STAT_FOM_VALID k) = false ∨ s.bit (LN_CTRL_ADAPT_EN k) = false) := by
  simp [stays]

theorem hostCode_iff : s.hostCode k = true ↔ (s.lane k).hostAt = some s.now := beq_iff_eq

/-- The target after a sweep (R310, R315). -/
theorem peak_sweepEnded (hc : code < 32) : (sweepEnded s k data fom code).rd (LN_PEAK_CODE k) =
    if stays s k data = true ∨ s.hostCode k = true then s.rd (LN_PEAK_CODE k) else code := by
  have later : (sweepEnded s k data fom code).rd (LN_PEAK_CODE k) =
      (targeted (sweptLane s k) k code (stays (sweptLane s k) k data)).rd (LN_PEAK_CODE k) :=
    ((fields_judged _ k fom _).append (fields_laneSync _ k)) _ (by simp [LN_PEAK_CODE, LN_STAT_FAILED, LN_STAT_ADAPTING])
  rw [later, stays_sweptLane, targeted, hostCode_sweptLane]
  simp only [Bool.or_eq_true]
  split
  · exact fields_sweptLane s k (l := []) _ (by simp)
  · exact (State.rd_wr_same _ _ _ (show 0 + 5 ≤ 32 by decide)).trans (Nat.mod_eq_of_lt hc)

/-- A sweep shows whether the best figure is one of a lane that failed (R314). -/
theorem failed_sweepEnded : (sweepEnded s k data fom code).bit (LN_STAT_FAILED k) =
    if stays s k data = true then s.bit (LN_STAT_FAILED k) else decide (fom < s.rd LN_CFG_FOM_FAIL) := by
  have later : (sweepEnded s k data fom code).bit (LN_STAT_FAILED k) =
      (judged (targeted (sweptLane s k) k code (stays (sweptLane s k) k data)) k fom (stays (sweptLane s k) k data)).bit (LN_STAT_FAILED k) :=
    (fields_laneSync _ k).bit (by simp [LN_STAT_FAILED, LN_STAT_ADAPTING])
  have before : ∀ g, Clear (LN_PEAK_CODE k) g → (targeted (sweptLane s k) k code (stays s k data)).rd g = s.rd g := fun g hg =>
    ((fields_sweptLane s k).trans (fields_targeted _ k code _)) g (by simpa using hg)
  rw [later, stays_sweptLane, judged]
  split
  · exact bit_of_rd (before _ (by simp [LN_PEAK_CODE, LN_STAT_FAILED]))
  · refine (State.bit_wrBit _ _ _ rfl (show 13 + 1 ≤ 32 by decide)).trans ?_
    rw [before LN_CFG_FOM_FAIL (by simp [LN_PEAK_CODE, LN_CFG_FOM_FAIL])]

theorem adapting_sweepEnded : (sweepEnded s k data fom code).bit (LN_STAT_ADAPTING k) =
    ((sweepEnded s k data fom code).rd (LN_STAT_MAIN k) != (sweepEnded s k data fom code).rd (LN_PEAK_CODE k)) := by
  have synced : ∀ u : State, (u.lane k).sweep = none →
      (u.laneSync k).bit (LN_STAT_ADAPTING k) = ((u.laneSync k).rd (LN_STAT_MAIN k) != (u.laneSync k).rd (LN_PEAK_CODE k)) := fun u none => by
    rw [adapting_laneSync, none, fields_laneSync u k (LN_STAT_MAIN k) (by simp [LN_STAT_MAIN, LN_STAT_ADAPTING]),
      fields_laneSync u k (LN_PEAK_CODE k) (by simp [LN_PEAK_CODE, LN_STAT_ADAPTING])]
    rfl
  refine synced _ ?_
  rw [lane_of_lanes (congrArg FabState.lanes ((fab_judged _ k fom _).trans (fab_targeted _ k code _))), sweptLane, lane_setLane_same]

end

theorem sweepComplete_idle (figs : List Eye) (h : (s.lane k).sweep = none ∨ ¬s.domOn (32 + k / 128) = true) : s.sweepComplete k figs = s := by
  unfold State.sweepComplete
  split
  · rfl
  · rename_i data t0 main running
    refine if_pos (.inr ?_)
    rcases h with none | off
    · rw [running] at none
      cases none
    · exact Bool.not_eq_true _ ▸ off

section
variable {data : Bool} {t0 main : Nat} (running : (s.lane k).sweep = some (data, t0, main))
include running

theorem sweepComplete_early (figs : List Eye) (early : s.now < t0 + 32 * 16384) : s.sweepComplete k figs = s := by
  rw [State.sweepComplete, running]
  exact if_pos (.inl early)

theorem sweepComplete_eq (figs : List Eye) (due : t0 + 32 * 16384 ≤ s.now) (on : s.domOn (32 + k / 128) = true) {fom code : Nat}
    (best : sweepBest main ((List.range 32).map fun c => ((figs[c]?).map eyeFom).getD 0) = (fom, code)) :
    s.sweepComplete k figs = ((sweepEnded s k data fom code).tryAlign (k / 4)).tryUp (k / 4) := by
  have passed : ¬(s.now < t0 + 524288 ∨ s.domOn (laneDom k) = false) := by
    rintro (early | off)
    · omega
    · rw [laneDom, on] at off
      cases off
  rw [State.sweepComplete, running]
  dsimp only
  rw [if_neg passed, best]
  rfl

end

theorem lanesReady_iff (u : State) (p : Nat) : u.lanesReady p = true ↔ ∀ n ∈ lanesOf p, (u.lane n).swept = true ∧ (u.lane n).sweep = none ∧
    u.bit (LN_STAT_FAILED n) = false := by
  simp [State.lanesReady, and_assoc]

/-- Every port state: what the end of a sweep shows of its lane (R310, R314, R325). -/
theorem sweepComplete_shows (hk : k < 1024) (data : Bool) (fom : Nat) {code : Nat} (hc : code < 32) {u : State}
    (hu : u = ((sweepEnded s k data fom code).tryAlign (k / 4)).tryUp (k / 4)) :
    u.rd (LN_PEAK_CODE k) = (if stays s k data = true ∨ s.hostCode k = true then s.rd (LN_PEAK_CODE k) else code) ∧
      u.bit (LN_STAT_FAILED k) = (if stays s k data = true then s.bit (LN_STAT_FAILED k) else decide (fom < s.rd LN_CFG_FOM_FAIL)) ∧
      u.rd (LN_STAT_MAIN k) = s.rd (LN_STAT_MAIN k) ∧ u.bit (LN_STAT_ADAPTING k) = (s.rd (LN_STAT_MAIN k) != u.rd (LN_PEAK_CODE k)) ∧
      Only [.regs, .fab] s u := by
  subst hu
  have moved := (fields_tryAlign (sweepEnded s k data fom code) (k / 4)).append (fields_tryUp ((sweepEnded s k data fom code).tryAlign (k / 4)) (k / 4))
  have only := (only_tryAlign (sweepEnded s k data fom code) (k / 4)).trans (only_tryUp _ (k / 4))
  have clear : ∀ g, LaneFld g → g.addr % 64 ≠ 12 → ∀ f ∈ [LK_STAT_STATE (k / 4)] ++ upFields (k / 4), Clear f g := fun g hg log f hf =>
    clear_upFields (k / 4) (by omega) hg log f (by simpa [upFields] using hf)
  have stat : ∀ lo width, ∀ f ∈ [LK_STAT_STATE (k / 4)] ++ upFields (k / 4), Clear f ⟨0x210004 + 0x40 * k, lo, width⟩ := fun lo width =>
    clear _ (laneFld_stat hk lo width) (by simp only; omega)
  have peak := moved (LN_PEAK_CODE k) (clear _ (by simp only [LaneFld, LN_PEAK_CODE]; omega) (by simp only [LN_PEAK_CODE]; omega))
  have main : (sweepEnded s k data fom code).rd (LN_STAT_MAIN k) = s.rd (LN_STAT_MAIN k) := fields_sweepEnded s k data fom code _
    (by simp [sweptFields, LN_STAT_MAIN, LN_PEAK_CODE, LN_STAT_FAILED, LN_STAT_ADAPTING])
  refine ⟨peak.trans (peak_sweepEnded s k data fom code hc), (moved.bit (stat _ _)).trans (failed_sweepEnded s k data fom code),
    (moved _ (stat _ _)).trans main, ?_, (only_sweepEnded s k data fom code).trans only⟩
  rw [moved.bit (g := LN_STAT_ADAPTING k) (stat _ _), adapting_sweepEnded, main, peak]

/-- On a port that awaits no LINKUP: what the end of a sweep leaves of its lane, and where it moves the port (R346). -/
theorem sweepComplete_port (data : Bool) (fom code : Nat) (other : s.rd (LK_STAT_STATE (k / 4)) ≠ 4) {u : State}
    (hu : u = ((sweepEnded s k data fom code).tryAlign (k / 4)).tryUp (k / 4)) :
    u.lane k = { s.lane k with sweep := none, swept := true } ∧
      u.rd (LK_STAT_STATE (k / 4)) = (if s.rd (LK_STAT_STATE (k / 4)) = 1 ∧ u.lanesReady (k / 4) = true then 2
        else s.rd (LK_STAT_STATE (k / 4))) ∧
      WordsOnly [(LN_STAT_SIG k).addr, (LN_PEAK_CODE k).addr, (LK_STAT_STATE (k / 4)).addr] s u := by
  have fields := fields_sweepEnded s k data fom code
  have state : (sweepEnded s k data fom code).rd (LK_STAT_STATE (k / 4)) = s.rd (LK_STAT_STATE (k / 4)) := fields _
    (by simp [sweptFields, LN_PEAK_CODE, LN_STAT_FAILED, LN_STAT_ADAPTING, LK_STAT_STATE]; omega)
  have aligned := state_tryAlign (sweepEnded s k data fom code) (k / 4)
  rw [state] at aligned
  have notIdent : ((sweepEnded s k data fom code).tryAlign (k / 4)).rd (LK_STAT_STATE (k / 4)) ≠ 4 := by
    rw [aligned]
    split
    · decide
    · exact other
  rw [tryUp_other _ _ notIdent] at hu
  subst hu
  have lane := (aside_tryAlign (k / 4) (sweepEnded s k data fom code)).lane
  have ready : (sweepEnded s k data fom code).lanesReady (k / 4) = ((sweepEnded s k data fom code).tryAlign (k / 4)).lanesReady (k / 4) := by
    have failed : ∀ n, ((sweepEnded s k data fom code).tryAlign (k / 4)).bit (LN_STAT_FAILED n) =
        (sweepEnded s k data fom code).bit (LN_STAT_FAILED n) := fun n =>
      (fields_tryAlign _ _).bit (by simp [LK_STAT_STATE, LN_STAT_FAILED])
    simp only [State.lanesReady, lane, failed]
  refine ⟨?_, aligned.trans (by rw [ready]), (fields.append (fields_tryAlign _ (k / 4))).words.mono ?_⟩
  · rw [lane, lane_sweepEnded, sweptLane, lane_setLane_same]
  · simp [sweptFields, LN_STAT_SIG, LN_PEAK_CODE, LN_STAT_FAILED, LN_STAT_ADAPTING]

end

end Sys2Proof.Proofs.Lanes
end

section
/-! PROOFS. ADAPT_WINDOW (R309, R311 to R315, R324). -/

open Sys2Proof Sys2Proof.Machine Sys2Proof.Proofs.Casting Sys2Proof.Proofs.Grid Sys2Proof.Proofs.Mill

namespace Sys2Proof.Proofs.Lanes

/-! ### Windows that measure nothing -/

section
variable (s : State) (k : Nat)

/-- A lane with a signal shows whether its level is valid (R309). -/
def levelShown (valid : Bool) : State := if s.bit (LN_STAT_SIG k) then s.wrBit (LN_STAT_FOM_VALID k) valid else s

theorem fields_levelShown (valid : Bool) : FieldsOnly [LN_STAT_FOM_VALID k] s (levelShown s k valid) := .ite (fields_wrBit s _ _) .rfl

theorem only_levelShown (valid : Bool) : Only [.regs] s (levelShown s k valid) := by
  unfold levelShown
  split
  · exact s.only_wrBit _ _
  · exact Only.rfl

theorem fab_levelShown (valid : Bool) : (levelShown s k valid).fab = s.fab := only_levelShown s k valid .fab (by decide)

theorem bit_levelShown (valid : Bool) : (levelShown s k valid).bit (LN_STAT_FOM_VALID k) =
    if s.bit (LN_STAT_SIG k) then valid else s.bit (LN_STAT_FOM_VALID k) := by
  unfold levelShown
  split
  · exact State.bit_wrBit _ _ _ rfl (show 8 + 1 ≤ 32 by decide)
  · rfl

theorem lane_levelShown (valid : Bool) (j : Nat) : (levelShown s k valid).lane j = s.lane j :=
  lane_of_lanes (congrArg FabState.lanes (fab_levelShown s k valid)) j

/-- Whether a window of a lane on an up port has ended; its length stood at its start (R311, R324). -/
def windowEnds : Prop := s.portUp (k / 4) = true ∧ (s.lane k).window + 2 ^ (16 + min 10 (s.lane k).win) ≤ s.now

theorem windowEnds_levelShown (valid : Bool) : windowEnds (levelShown s k valid) k ↔ windowEnds s k := by
  have state : (levelShown s k valid).rd (LK_STAT_STATE (k / 4)) = s.rd (LK_STAT_STATE (k / 4)) := fields_levelShown s k valid _
    (by simp [LN_STAT_FOM_VALID, LK_STAT_STATE])
  rw [windowEnds, State.portUp, state, lane_levelShown, (only_levelShown s k valid .clock (by decide)).1, windowEnds, State.portUp]

/-- A window that closed begins anew (R311, R324). -/
def renewed : Lane := { s.lane k with window := s.now, win := s.rd LN_CFG_WIN }

theorem renewed_levelShown (valid : Bool) : renewed (levelShown s k valid) k = renewed s k := by
  rw [renewed, lane_levelShown, (only_levelShown s k valid .clock (by decide)).1,
    fields_levelShown s k valid LN_CFG_WIN (by simp [LN_STAT_FOM_VALID, LN_CFG_WIN]), renewed]

/-- A window that measures nothing shows whether the level is valid, and leaves the figure (R309). -/
theorem levelShown_spec (valid : Bool) : (levelShown s k valid).rd (LN_STAT_FOM k) = s.rd (LN_STAT_FOM k) ∧
    WordsOnly [(LN_STAT_SIG k).addr] s (levelShown s k valid) :=
  ⟨fields_levelShown s k valid _ (by simp [LN_STAT_FOM_VALID, LN_STAT_FOM]), (fields_levelShown s k valid).words⟩

variable {s k}

theorem not_ended (h : ¬windowEnds s k) :
    (!s.portUp (lanePort k) || decide (s.now < (s.lane k).window + 2 ^ (16 + min 10 (s.lane k).win))) = true := by
  rw [Bool.or_eq_true, Bool.not_eq_true', decide_eq_true_eq]
  by_contra none
  obtain ⟨up, due⟩ := not_or.1 none
  exact h ⟨Bool.not_eq_false _ ▸ up, Nat.not_lt.1 due⟩

theorem ended (h : windowEnds s k) :
    ¬(!s.portUp (lanePort k) || decide (s.now < (s.lane k).window + 2 ^ (16 + min 10 (s.lane k).win))) = true := by
  obtain ⟨up, due⟩ := h
  rw [lanePort, up, decide_eq_false (Nat.not_lt.2 due)]
  decide

theorem adaptWindow_early (valid : Bool) (lo f hi : Eye) (h : ¬windowEnds s k) : s.adaptWindow k valid lo f hi = levelShown s k valid :=
  if_pos (not_ended (mt (windowEnds_levelShown s k valid).1 h))

theorem adaptWindow_invalid (lo f hi : Eye) (h : windowEnds s k) (lit : s.bit (LN_STAT_SIG k) = true) :
    s.adaptWindow k false lo f hi = (levelShown s k false).setLane k (renewed (levelShown s k false) k) := by
  have level : (levelShown s k false).bit (LN_STAT_FOM_VALID k) = false := by rw [bit_levelShown, if_pos lit]
  exact (if_neg (ended ((windowEnds_levelShown s k false).2 h))).trans (if_pos level)

end

/-! ### Windows that measure -/

section
variable (s : State) (k : Nat)

/-- A window shows its figure, and the lowest one (R312, R324). -/
def figured (fom : Nat) : State := (s.wr (LN_STAT_FOM k) fom).wr (LN_FOMLOG_MIN k) (min fom (s.rd (LN_FOMLOG_MIN k)))

/-- The figure below which a window is a low one (R312). -/
def lowLimit : Nat := if s.bit (LK_CFG_FEC (k / 4)) then s.rd LN_CFG_RA_HEAVY else s.rd LN_CFG_RA_LIGHT

/-- A lane after a window with a figure: low and bad windows in a row are counted (R312, R314). -/
def windowLane (x : Lane) (fom ra : Nat) : Lane :=
  { x with window := s.now, win := s.rd LN_CFG_WIN, low := if fom < ra then x.low + 1 else 0
           bad := if fom < s.rd LN_CFG_FOM_FAIL then x.bad + 1 else 0 }

/-- The target moves toward a better neighbour, unless the host wrote it in this instant (R311, R315). -/
def aimed (en : Bool) (lo fom hi : Nat) : State :=
  if en && !s.hostCode k then
    match windowNeighbour (s.rd LN_CFG_HYST) (s.rd (LN_STAT_MAIN k)) lo fom hi with
    | some n => s.wr (LN_PEAK_CODE k) (oneToward (s.rd (LN_PEAK_CODE k)) n)
    | none => s
  else s

/-- A re-adaptation is noted once since its port came UP (R312). -/
def notedOnce (x : Lane) : State := if x.noted then s else s.fault .link 0 0 (mPort (k / 4)) 4

/-- The second low window in a row starts a sweep on the shadow sampler (R312). -/
def readapted (en : Bool) (x : Lane) : State :=
  if en && decide (2 ≤ x.low) && x.sweep.isNone then
    (notedOnce ((s.setLane k { x with low := 0, noted := true }).inc (LN_FOMLOG_READAPTS k)) k x).startSweep k false
  else s.laneSync k

/-- A window that measured, before its lane is judged. -/
def windowed (lo fom hi : Nat) : State :=
  let x := windowLane (figured s k fom) (s.lane k) fom (lowLimit s k)
  let en := s.bit (LN_CTRL_ADAPT_EN k)
  readapted (aimed ((figured s k fom).setLane k x) k en lo fom hi) k en x

theorem adaptWindow_valid (lo f hi : Eye) (h : windowEnds s k) (lit : s.bit (LN_STAT_SIG k) = true) : s.adaptWindow k true lo f hi =
    let v := levelShown s k true
    let w := windowed v k (eyeFom lo) (eyeFom f) (eyeFom hi)
    if 4 ≤ (windowLane (figured v k (eyeFom f)) (v.lane k) (eyeFom f) (lowLimit v k)).bad then (w.setLane k { w.lane k with bad := 0 }).laneFail k
    else w := by
  have level : ¬(levelShown s k true).bit (LN_STAT_FOM_VALID k) = false := by rw [bit_levelShown, if_pos lit]; decide
  exact (if_neg (ended ((windowEnds_levelShown s k true).2 h))).trans (if_neg level)

end

end Sys2Proof.Proofs.Lanes
end

section
/-! PROOFS. What a window that measured leaves of its lane (R311 to R315, R324). -/

open Sys2Proof Sys2Proof.Machine Sys2Proof.Proofs.Casting Sys2Proof.Proofs.Grid Sys2Proof.Proofs.Mill

namespace Sys2Proof.Proofs.Lanes

section
variable (s : State) (k : Nat)

/-! ### Each step of a window -/

theorem fields_figured (fom : Nat) : FieldsOnly [LN_STAT_FOM k, LN_FOMLOG_MIN k] s (figured s k fom) :=
  (fields_wr s _ _).append (fields_wr _ _ _)

theorem only_figured (fom : Nat) : Only [.regs] s (figured s k fom) := (s.only_wr _ _).trans (State.only_wr _ _ _)

theorem fom_figured {fom : Nat} (h : fom < 256) : (figured s k fom).rd (LN_STAT_FOM k) = fom := by
  refine (fields_wr _ (LN_FOMLOG_MIN k) _ _ (by simp [LN_STAT_FOM, LN_FOMLOG_MIN])).trans ?_
  exact (State.rd_wr_same _ _ _ (show 0 + 8 ≤ 32 by decide)).trans (Nat.mod_eq_of_lt h)

theorem least_figured {fom : Nat} (h : fom < 256) : (figured s k fom).rd (LN_FOMLOG_MIN k) = min fom (s.rd (LN_FOMLOG_MIN k)) :=
  (State.rd_wr_same _ _ _ (show 0 + 8 ≤ 32 by decide)).trans (Nat.mod_eq_of_lt (lt_of_le_of_lt (Nat.min_le_left _ _) h))

theorem fields_aimed (en : Bool) (lo fom hi : Nat) : FieldsOnly [LN_PEAK_CODE k] s (aimed s k en lo fom hi) := by
  unfold aimed
  refine .ite ?_ .rfl
  split
  · exact fields_wr s _ _
  · exact .rfl

theorem only_aimed (en : Bool) (lo fom hi : Nat) : Only [.regs] s (aimed s k en lo fom hi) := by
  unfold aimed
  split
  · split
    · exact s.only_wr _ _
    · exact Only.rfl
  · exact Only.rfl

/-- The target after a window: one code toward the better neighbour, where there is one and adaptation may move it (R311, R315). -/
def aimedCode (en : Bool) (lo fom hi : Nat) : Nat :=
  if en && !s.hostCode k then
    (windowNeighbour (s.rd LN_CFG_HYST) (s.rd (LN_STAT_MAIN k)) lo fom hi).elim (s.rd (LN_PEAK_CODE k)) (oneToward (s.rd (LN_PEAK_CODE k)))
  else s.rd (LN_PEAK_CODE k)

theorem aimedCode_eq (en : Bool) (lo fom hi : Nat) : aimedCode s k en lo fom hi =
    (windowNeighbour (s.rd LN_CFG_HYST) (s.rd (LN_STAT_MAIN k)) lo fom hi).elim (s.rd (LN_PEAK_CODE k)) fun n =>
      if en = true ∧ ¬(s.lane k).hostAt = some s.now then oneToward (s.rd (LN_PEAK_CODE k)) n else s.rd (LN_PEAK_CODE k) := by
  unfold aimedCode
  cases windowNeighbour (s.rd LN_CFG_HYST) (s.rd (LN_STAT_MAIN k)) lo fom hi with
  | none => exact ite_self _
  | some n => exact if_congr (by rw [Bool.and_eq_true, Bool.not_eq_true', ← Bool.not_eq_true, hostCode_iff]) rfl rfl

theorem peak_aimed (en : Bool) (lo fom hi : Nat) : (aimed s k en lo fom hi).rd (LN_PEAK_CODE k) = aimedCode s k en lo fom hi := by
  unfold aimed aimedCode
  split
  · cases better : windowNeighbour (s.rd LN_CFG_HYST) (s.rd (LN_STAT_MAIN k)) lo fom hi with
    | none => rfl
    | some n =>
      have inside : oneToward (s.rd (LN_PEAK_CODE k)) n < 32 :=
        oneToward_lt (s.rd_lt (LN_PEAK_CODE k)) (windowNeighbour_lt (s.rd_lt (LN_STAT_MAIN k)) better)
      exact (State.rd_wr_same _ _ _ (show 0 + 5 ≤ 32 by decide)).trans (Nat.mod_eq_of_lt inside)
  · rfl

theorem fields_notedOnce {l : List Fld} (x : Lane) : FieldsOnly l s (notedOnce s k x) := .ite .rfl (fields_of_regs rfl)

theorem only_notedOnce (x : Lane) : Only [.flt] s (notedOnce s k x) := by
  unfold notedOnce
  split
  · exact Only.rfl
  · exact s.only_fault _ _ _ _ _ _ _

theorem reports_notedOnce {x : Lane} (first : x.noted = false) :
    ⟨.link, 0, 0, mPort (k / 4), 4, 0, s.now, false, false⟩ ∈ (notedOnce s k x).flt.reports := by
  rw [notedOnce, first]
  exact List.mem_append_right _ (List.mem_singleton.2 rfl)

theorem grows_notedOnce (x : Lane) : Grows s (notedOnce s k x) := .ite .rfl (grows_fault s _ _ _ _ _ _ _)

/-- Whether a window starts a sweep on the shadow sampler (R312). -/
def sweepsAgain (en : Bool) (x : Lane) : Bool := en && decide (2 ≤ x.low) && x.sweep.isNone

/-- A lane that starts over after two low windows, with its count of re-adaptations, before it sweeps. -/
def countedAgain (x : Lane) : State :=
  notedOnce ((s.setLane k { x with low := 0, noted := true }).inc (LN_FOMLOG_READAPTS k)) k x

theorem fields_countedAgain (x : Lane) : FieldsOnly [LN_FOMLOG_READAPTS k] s (countedAgain s k x) :=
  ((fields_setLane s k _).trans (fields_addSat _ _ _)).trans (fields_notedOnce _ k x)

theorem only_countedAgain (x : Lane) : Only [.regs, .fab, .flt] s (countedAgain s k x) :=
  ((only_setLane s k _).comp (State.only_addSat _ (LN_FOMLOG_READAPTS k) 1) (by simp) (by simp)).trans ((only_notedOnce _ k x).mono (by simp))

theorem lane_countedAgain (x : Lane) : (countedAgain s k x).lane k = { x with low := 0, noted := true } := by
  have fab : (countedAgain s k x).fab = ((s.setLane k { x with low := 0, noted := true }).inc (LN_FOMLOG_READAPTS k)).fab :=
    only_notedOnce _ k x .fab (by decide)
  rw [lane_of_lanes (congrArg FabState.lanes fab), lane_of_lanes (u := State.inc _ _) (s := s.setLane k { x with low := 0, noted := true }) rfl,
    lane_setLane_same]

theorem readapted_again {en : Bool} {x : Lane} (again : sweepsAgain en x = true) :
    readapted s k en x = (countedAgain s k x).startSweep k false := if_pos again

theorem readapted_not {en : Bool} {x : Lane} (not : sweepsAgain en x = false) : readapted s k en x = s.laneSync k :=
  if_neg fun again => Bool.false_ne_true (not.symm.trans again)

theorem fields_readapted (en : Bool) (x : Lane) : FieldsOnly [LN_FOMLOG_READAPTS k, LN_STAT_ADAPTING k] s (readapted s k en x) := by
  cases again : sweepsAgain en x
  · rw [readapted_not s k again]
    exact (fields_laneSync s k).mono (by simp)
  · rw [readapted_again s k again]
    exact (fields_countedAgain s k x).append (fields_startSweep _ k false)

theorem only_readapted (en : Bool) (x : Lane) : Only [.regs, .fab, .flt] s (readapted s k en x) := by
  cases again : sweepsAgain en x
  · rw [readapted_not s k again]
    exact (only_laneSync s k).mono (by simp)
  · rw [readapted_again s k again]
    exact (only_countedAgain s k x).trans ((only_startSweep _ k false).mono (by simp))

/-- The lane after a window: one that starts over sweeps from its main code (R312). -/
theorem lane_readapted {en : Bool} {x : Lane} (stored : s.lane k = x) : (readapted s k en x).lane k =
    if sweepsAgain en x then { x with low := 0, noted := true, sweep := some (false, s.now, s.rd (LN_STAT_MAIN k)) } else x := by
  cases again : sweepsAgain en x
  · rw [readapted_not s k again, lane_laneSync, stored]
    rfl
  · have main : (countedAgain s k x).rd (LN_STAT_MAIN k) = s.rd (LN_STAT_MAIN k) :=
      fields_countedAgain s k x _ (by simp [LN_STAT_MAIN, LN_FOMLOG_READAPTS])
    rw [readapted_again s k again, lane_startSweep, lane_countedAgain, main, (only_countedAgain s k x .clock (by decide)).1]
    rfl

theorem readapts_readapted {en : Bool} {x : Lane} (again : sweepsAgain en x = true) :
    (readapted s k en x).rd (LN_FOMLOG_READAPTS k) = min (s.rd (LN_FOMLOG_READAPTS k) + 1) (2 ^ 16 - 1) := by
  rw [readapted_again s k again, fields_startSweep _ k false (LN_FOMLOG_READAPTS k) (by simp [LN_FOMLOG_READAPTS, LN_STAT_ADAPTING])]
  refine (fields_notedOnce (l := []) _ k x _ (by simp)).trans ?_
  refine (State.rd_addSat _ _ _ (show 16 + 16 ≤ 32 by decide)).trans ?_
  rw [fields_setLane (l := []) s k _ (LN_FOMLOG_READAPTS k) (by simp)]
  rfl

theorem noted_readapted {en : Bool} {x : Lane} (again : sweepsAgain en x = true) (first : x.noted = false) :
    ⟨.link, 0, 0, mPort (k / 4), 4, 0, s.now, false, false⟩ ∈ (readapted s k en x).flt.reports := by
  rw [readapted_again s k again]
  exact reports_notedOnce ((s.setLane k { x with low := 0, noted := true }).inc (LN_FOMLOG_READAPTS k)) k first

end

end Sys2Proof.Proofs.Lanes
end

section
/-! PROOFS. A window from its start to the lane's judgment, and the steps of the main code (R307, R311 to R315, R324). -/

open Sys2Proof Sys2Proof.Machine Sys2Proof.Proofs.Casting Sys2Proof.Proofs.Grid Sys2Proof.Proofs.Mill

namespace Sys2Proof.Proofs.Lanes

section
variable (s : State) (k : Nat)

/-! ### The whole window -/

/-- The lane as a window with a figure leaves it, before it starts over. -/
def closedLane (fom : Nat) : Lane := windowLane s (s.lane k) fom (lowLimit s k)

/-- What a window starts from: its lane shows a valid level, the figure and the lowest figure (R309, R312). -/
def opened (fom : Nat) : State := (figured (levelShown s k true) k fom).setLane k
  (windowLane (figured (levelShown s k true) k fom) ((levelShown s k true).lane k) fom (lowLimit (levelShown s k true) k))

/-- A window that measured, from the lane's first state on. -/
def windowDone (lo fom hi : Nat) : State := windowed (levelShown s k true) k lo fom hi

/-- The fields that a window shows before it aims. -/
def openFields : List Fld := [LN_STAT_FOM_VALID k, LN_STAT_FOM k, LN_FOMLOG_MIN k]

theorem fields_opened (fom : Nat) : FieldsOnly (openFields k) s (opened s k fom) :=
  ((fields_levelShown s k true).append (fields_figured _ k fom)).trans (fields_setLane _ k _)

theorem only_opened (fom : Nat) : Only [.regs, .fab] s (opened s k fom) :=
  ((only_levelShown s k true).trans (only_figured _ k fom)).comp (only_setLane _ k _) (by simp) (by simp)

/-- A field beside those that a window opens with. -/
theorem rd_opened (fom : Nat) {g : Fld} (hg : ∀ f ∈ openFields k, Clear f g) : (opened s k fom).rd g = s.rd g := fields_opened s k fom g hg

theorem closedLane_opened (fom : Nat) : windowLane (figured (levelShown s k true) k fom) ((levelShown s k true).lane k) fom
    (lowLimit (levelShown s k true) k) = closedLane s k fom := by
  have shown := fields_levelShown s k true
  have both := shown.append (fields_figured (levelShown s k true) k fom)
  have now : (figured (levelShown s k true) k fom).now = s.now :=
    (((only_levelShown s k true).trans (only_figured _ k fom)) .clock (by decide)).1
  have limit : lowLimit (levelShown s k true) k = lowLimit s k := by
    rw [lowLimit, shown.bit (g := LK_CFG_FEC (k / 4)) (by simp [LN_STAT_FOM_VALID, LK_CFG_FEC]),
      shown LN_CFG_RA_HEAVY (by simp [LN_STAT_FOM_VALID, LN_CFG_RA_HEAVY]; omega),
      shown LN_CFG_RA_LIGHT (by simp [LN_STAT_FOM_VALID, LN_CFG_RA_LIGHT]), lowLimit]
  rw [windowLane, now, limit, lane_levelShown, both LN_CFG_WIN (by simp [LN_STAT_FOM_VALID, LN_STAT_FOM, LN_FOMLOG_MIN, LN_CFG_WIN]),
    both LN_CFG_FOM_FAIL (by simp [LN_STAT_FOM_VALID, LN_STAT_FOM, LN_FOMLOG_MIN, LN_CFG_FOM_FAIL]), closedLane, windowLane]

theorem lane_opened (fom : Nat) : (opened s k fom).lane k = closedLane s k fom := by
  rw [opened, lane_setLane_same, closedLane_opened]

theorem enabled_levelShown : (levelShown s k true).bit (LN_CTRL_ADAPT_EN k) = s.bit (LN_CTRL_ADAPT_EN k) :=
  (fields_levelShown s k true).bit (by simp [LN_STAT_FOM_VALID, LN_CTRL_ADAPT_EN])

theorem windowDone_eq (lo fom hi : Nat) : windowDone s k lo fom hi =
    readapted (aimed (opened s k fom) k (s.bit (LN_CTRL_ADAPT_EN k)) lo fom hi) k (s.bit (LN_CTRL_ADAPT_EN k)) (closedLane s k fom) := by
  rw [← closedLane_opened, ← enabled_levelShown]
  rfl

/-- The fields that a window moves. -/
def windowFields : List Fld := openFields k ++ [LN_PEAK_CODE k] ++ [LN_FOMLOG_READAPTS k, LN_STAT_ADAPTING k]

theorem fields_windowDone (lo fom hi : Nat) : FieldsOnly (windowFields k) s (windowDone s k lo fom hi) := by
  rw [windowDone_eq]
  exact ((fields_opened s k fom).append (fields_aimed _ k _ lo fom hi)).append (fields_readapted _ k _ _)

theorem only_windowDone (lo fom hi : Nat) : Only [.regs, .fab, .flt] s (windowDone s k lo fom hi) := by
  rw [windowDone_eq]
  exact (((only_opened s k fom).trans ((only_aimed _ k _ lo fom hi).mono (by simp))).mono (by simp)).trans (only_readapted _ k _ _)

/-- From the figure on, a window moves the target, the count of re-adaptations and ADAPTING. -/
theorem fields_closing (lo fom hi : Nat) : FieldsOnly [LN_PEAK_CODE k, LN_FOMLOG_READAPTS k, LN_STAT_ADAPTING k] (opened s k fom)
    (windowDone s k lo fom hi) := by
  rw [windowDone_eq]
  exact (fields_aimed _ k _ lo fom hi).append (fields_readapted _ k _ _)

theorem hostCode_opened (fom : Nat) : (opened s k fom).hostCode k = s.hostCode k := by
  rw [State.hostCode, lane_opened, (only_opened s k fom .clock (by decide)).1, State.hostCode, closedLane, windowLane]

theorem aimedCode_opened (en : Bool) (lo fom hi : Nat) : aimedCode (opened s k fom) k en lo fom hi = aimedCode s k en lo fom hi := by
  have clear : ∀ g : Fld, g ∈ [LN_CFG_HYST, LN_STAT_MAIN k, LN_PEAK_CODE k] → ∀ f ∈ openFields k, Clear f g := by
    simp [openFields, LN_CFG_HYST, LN_STAT_MAIN, LN_PEAK_CODE, LN_STAT_FOM_VALID, LN_STAT_FOM, LN_FOMLOG_MIN]
  rw [aimedCode, hostCode_opened, rd_opened s k fom (clear LN_CFG_HYST (by simp)), rd_opened s k fom (clear (LN_STAT_MAIN k) (by simp)),
    rd_opened s k fom (clear (LN_PEAK_CODE k) (by simp)), aimedCode]

/-- Whether a window with a figure starts a sweep on the shadow sampler (R312). -/
def Readapts (fom : Nat) : Prop :=
  s.bit (LN_CTRL_ADAPT_EN k) = true ∧ fom < lowLimit s k ∧ 1 ≤ (s.lane k).low ∧ (s.lane k).sweep = none

theorem sweepsAgain_closed (fom : Nat) : sweepsAgain (s.bit (LN_CTRL_ADAPT_EN k)) (closedLane s k fom) = true ↔ Readapts s k fom := by
  have low : 2 ≤ (closedLane s k fom).low ↔ fom < lowLimit s k ∧ 1 ≤ (s.lane k).low := by
    simp only [closedLane, windowLane]
    split <;> omega
  rw [sweepsAgain, Bool.and_eq_true, Bool.and_eq_true, decide_eq_true_eq, low, Option.isNone_iff_eq_none, Readapts, and_assoc, and_assoc]
  rfl

/-- What a window with the figures `lo`, `fom`, `hi` shows of lane `k` (R311, R312, R315, R324). -/
structure Measured (s : State) (k lo fom hi : Nat) (u : State) : Prop where
  level : u.bit (LN_STAT_FOM_VALID k) = true
  figure : u.rd (LN_STAT_FOM k) = fom
  least : u.rd (LN_FOMLOG_MIN k) = min fom (s.rd (LN_FOMLOG_MIN k))
  main : u.rd (LN_STAT_MAIN k) = s.rd (LN_STAT_MAIN k)
  window : (u.lane k).window = s.now
  win : (u.lane k).win = s.rd LN_CFG_WIN
  target : u.rd (LN_PEAK_CODE k) = aimedCode s k (s.bit (LN_CTRL_ADAPT_EN k)) lo fom hi
  again : Readapts s k fom → u.rd (LN_FOMLOG_READAPTS k) = min (s.rd (LN_FOMLOG_READAPTS k) + 1) (2 ^ 16 - 1) ∧
    (u.lane k).sweep = some (false, s.now, s.rd (LN_STAT_MAIN k)) ∧ (u.lane k).low = 0 ∧
    ((s.lane k).noted = false → ⟨.link, 0, 0, mPort (k / 4), 4, 0, s.now, false, false⟩ ∈ u.flt.reports)
  goesOn : ¬Readapts s k fom → (u.lane k).sweep = (s.lane k).sweep ∧ (u.lane k).low = if fom < lowLimit s k then (s.lane k).low + 1 else 0

theorem lane_windowDone (lo fom hi : Nat) : (windowDone s k lo fom hi).lane k =
    if sweepsAgain (s.bit (LN_CTRL_ADAPT_EN k)) (closedLane s k fom) then
      { closedLane s k fom with low := 0, noted := true, sweep := some (false, s.now, s.rd (LN_STAT_MAIN k)) }
    else closedLane s k fom := by
  have before := (fields_opened s k fom).append (fields_aimed (opened s k fom) k (s.bit (LN_CTRL_ADAPT_EN k)) lo fom hi)
  have main := before (LN_STAT_MAIN k) (by simp [openFields, LN_STAT_MAIN, LN_PEAK_CODE, LN_STAT_FOM_VALID, LN_STAT_FOM, LN_FOMLOG_MIN])
  have only := (only_opened s k fom).trans ((only_aimed (opened s k fom) k (s.bit (LN_CTRL_ADAPT_EN k)) lo fom hi).mono (by simp))
  have stored : (aimed (opened s k fom) k (s.bit (LN_CTRL_ADAPT_EN k)) lo fom hi).lane k = closedLane s k fom := by
    rw [lane_of_lanes (congrArg FabState.lanes (only_aimed (opened s k fom) k _ lo fom hi .fab (by decide))), lane_opened]
  rw [windowDone_eq, lane_readapted _ k stored, main, (only .clock (by decide)).1]

theorem measured_windowDone (lo hi : Nat) {fom : Nat} (lit : s.bit (LN_STAT_SIG k) = true) (small : fom < 256) :
    Measured s k lo fom hi (windowDone s k lo fom hi) := by
  have closing := fields_closing s k lo fom hi
  have figures : FieldsOnly [LN_STAT_FOM k, LN_FOMLOG_MIN k] (levelShown s k true) (opened s k fom) :=
    (fields_figured _ k fom).trans (fields_setLane _ k _)
  have kept : ∀ g, (∀ f ∈ windowFields k, Clear f g) → (windowDone s k lo fom hi).rd g = s.rd g := fields_windowDone s k lo fom hi
  have lane := lane_windowDone s k lo fom hi
  have readapts : (aimed (opened s k fom) k (s.bit (LN_CTRL_ADAPT_EN k)) lo fom hi).rd (LN_FOMLOG_READAPTS k) =
      s.rd (LN_FOMLOG_READAPTS k) := ((fields_opened s k fom).append (fields_aimed _ k _ lo fom hi)) _
    (by simp [openFields, LN_FOMLOG_READAPTS, LN_PEAK_CODE, LN_STAT_FOM_VALID, LN_STAT_FOM, LN_FOMLOG_MIN])
  refine ⟨?_, ?_, ?_, kept _ ?_, ?_, ?_, ?_, fun again => ?_, fun not => ?_⟩
  · rw [closing.bit (by simp [LN_STAT_FOM_VALID, LN_PEAK_CODE, LN_FOMLOG_READAPTS, LN_STAT_ADAPTING]),
      figures.bit (by simp [LN_STAT_FOM_VALID, LN_STAT_FOM, LN_FOMLOG_MIN]), bit_levelShown, if_pos lit]
  · rw [closing _ (by simp [LN_STAT_FOM, LN_PEAK_CODE, LN_FOMLOG_READAPTS, LN_STAT_ADAPTING])]
    exact (fields_setLane (l := []) _ k _ _ (by simp)).trans (fom_figured _ k small)
  · rw [closing _ (by simp [LN_FOMLOG_MIN, LN_PEAK_CODE, LN_FOMLOG_READAPTS, LN_STAT_ADAPTING])]
    refine (fields_setLane (l := []) _ k _ _ (by simp)).trans ((least_figured _ k small).trans ?_)
    rw [fields_levelShown s k true (LN_FOMLOG_MIN k) (by simp [LN_FOMLOG_MIN, LN_STAT_FOM_VALID])]
  · simp [windowFields, openFields, LN_STAT_MAIN, LN_PEAK_CODE, LN_FOMLOG_READAPTS, LN_STAT_ADAPTING, LN_STAT_FOM_VALID, LN_STAT_FOM, LN_FOMLOG_MIN]
  · rw [lane]
    split <;> rfl
  · rw [lane]
    split <;> rfl
  · rw [windowDone_eq, fields_readapted _ k _ _ (LN_PEAK_CODE k) (by simp [LN_PEAK_CODE, LN_FOMLOG_READAPTS, LN_STAT_ADAPTING]), peak_aimed,
      aimedCode_opened]
  · have sweeps := (sweepsAgain_closed s k fom).2 again
    rw [lane, if_pos sweeps]
    refine ⟨?_, rfl, rfl, fun first => ?_⟩
    · rw [windowDone_eq, readapts_readapted _ k sweeps, readapts]
    · have only := (only_opened s k fom).trans ((only_aimed (opened s k fom) k (s.bit (LN_CTRL_ADAPT_EN k)) lo fom hi).mono (by simp))
      rw [windowDone_eq, ← (only .clock (by decide)).1]
      exact noted_readapted _ k sweeps first
  · rw [lane, if_neg (mt (sweepsAgain_closed s k fom).1 not)]
    exact ⟨rfl, rfl⟩

variable {s k}

/-- A state that shows the same of a lane, counts bad windows aside, shows the same window. -/
theorem Measured.later {lo fom hi : Nat} {u v : State} (m : Measured s k lo fom hi u) (hk : k < 1024)
    (fields : ∀ g, LaneFld g → Clear (LN_STAT_FAILED k) g → v.rd g = u.rd g) (lane : v.lane k = { u.lane k with bad := 0 })
    (reports : u.flt.reports <+: v.flt.reports) : Measured s k lo fom hi v := by
  have kept : ∀ f ∈ [LN_STAT_FOM_VALID k, LN_STAT_FOM k, LN_FOMLOG_MIN k, LN_STAT_MAIN k, LN_PEAK_CODE k, LN_FOMLOG_READAPTS k],
      v.rd f = u.rd f := fun f hf => by
    refine fields f ?_ ?_ <;> revert f
    · simp only [LaneFld, LN_STAT_FOM_VALID, LN_STAT_FOM, LN_FOMLOG_MIN, LN_STAT_MAIN, LN_PEAK_CODE, LN_FOMLOG_READAPTS, List.forall_mem_cons]
      simp
      omega
    · simp [LN_STAT_FAILED, LN_STAT_FOM_VALID, LN_STAT_FOM, LN_FOMLOG_MIN, LN_STAT_MAIN, LN_PEAK_CODE, LN_FOMLOG_READAPTS]
  simp only [List.forall_mem_cons] at kept
  obtain ⟨level, figure, least, main, target, count, -⟩ := kept
  refine ⟨(bit_of_rd level).trans m.level, figure.trans m.figure, least.trans m.least, main.trans m.main, by rw [lane]; exact m.window,
    by rw [lane]; exact m.win, target.trans m.target, fun again => ?_, fun not => by rw [lane]; exact m.goesOn not⟩
  obtain ⟨counted, sweep, low, noted⟩ := m.again again
  exact ⟨count.trans counted, by rw [lane]; exact sweep, by rw [lane]; exact low, fun first => reports.subset (noted first)⟩

end

end Sys2Proof.Proofs.Lanes
end

section
/-! PROOFS. Lanes that fail at the end of a window, the steps of the main code, and the statement about lanes that adapt (R307, R309 to R315,
R320). -/

open Sys2Proof Sys2Proof.Machine Sys2Proof.Proofs.Casting Sys2Proof.Proofs.Grid Sys2Proof.Proofs.Mill

namespace Sys2Proof.Proofs.Lanes

section
variable {s : State} {k : Nat}

/-! ### The judgment of a window -/

/-- A lane whose bad windows are counted anew, since it fails. -/
def countCleared (s : State) (k : Nat) : State := s.setLane k { s.lane k with bad := 0 }

theorem adaptWindow_measures (lo f hi : Eye) (h : windowEnds s k) (lit : s.bit (LN_STAT_SIG k) = true) : s.adaptWindow k true lo f hi =
    if 4 ≤ (closedLane s k (eyeFom f)).bad then (countCleared (windowDone s k (eyeFom lo) (eyeFom f) (eyeFom hi)) k).laneFail k
    else windowDone s k (eyeFom lo) (eyeFom f) (eyeFom hi) := by
  rw [adaptWindow_valid s k lo f hi h lit]
  dsimp only
  rw [closedLane_opened]
  rfl

/-- The fourth bad window in a row is the one that follows three (R314). -/
theorem four_bad (fom : Nat) : 4 ≤ (closedLane s k fom).bad ↔ fom < s.rd LN_CFG_FOM_FAIL ∧ 3 ≤ (s.lane k).bad := by
  simp only [closedLane, windowLane]
  split <;> omega

theorem bad_windowDone (lo fom hi : Nat) :
    ((windowDone s k lo fom hi).lane k).bad = if fom < s.rd LN_CFG_FOM_FAIL then (s.lane k).bad + 1 else 0 := by
  rw [lane_windowDone]
  split <;> rfl

theorem windowFields_inside (hk : k < 1024) : ∀ f ∈ windowFields k, LaneFld f := by
  simp [windowFields, openFields, LaneFld, LN_STAT_FOM_VALID, LN_STAT_FOM, LN_FOMLOG_MIN, LN_PEAK_CODE, LN_FOMLOG_READAPTS, LN_STAT_ADAPTING]
  omega

/-- A lane that fails at the end of a window shows the window's figures all the same (R314). -/
theorem window_fails (hk : k < 1024) (lo hi : Nat) {fom : Nat} (up : s.portUp (k / 4) = true) (lit : s.bit (LN_STAT_SIG k) = true)
    (small : fom < 256) {u : State} (hu : u = (countCleared (windowDone s k lo fom hi) k).laneFail k) :
    Measured s k lo fom hi u ∧ u.bit (LN_STAT_FAILED k) = true ∧ PortDown (k / 4) 3 s u ∧
      ⟨.link, 1, 3, mPort (k / 4), 4, 0, s.now, false, s.nodeQuenched⟩ ∈ u.flt.reports := by
  subst hu
  have fields : FieldsOnly (windowFields k) s (countCleared (windowDone s k lo fom hi) k) :=
    (fields_windowDone s k lo fom hi).trans (fields_setLane _ k _)
  have only : Only [.regs, .fab, .flt] s (countCleared (windowDone s k lo fom hi) k) :=
    (only_windowDone s k lo fom hi).trans ((only_setLane _ k _).mono (by simp))
  have state : (countCleared (windowDone s k lo fom hi) k).rd (LK_STAT_STATE (k / 4)) = s.rd (LK_STAT_STATE (k / 4)) :=
    fields.beyond (windowFields_inside hk) (by simp only [LaneFld, LK_STAT_STATE]; omega)
  have fails := laneFail_spec (countCleared (windowDone s k lo fom hi) k) hk (by rw [State.portUp, state]; exact up)
  refine ⟨(measured_windowDone s k lo hi lit small).later hk (fun g hg clear => ?_) ?_ fails.reports,
    fails.after fields (windowFields_inside hk) only⟩
  · exact (fails.fields g hg clear).trans (fields_setLane (l := []) _ k _ g (by simp))
  · rw [lane_of_lanes fails.lanes, countCleared, lane_setLane_same]

/-- A lane that a window does not fail (R314). -/
theorem window_passes (lo fom hi : Nat) :
    (windowDone s k lo fom hi).bit (LN_STAT_FAILED k) = s.bit (LN_STAT_FAILED k) ∧
      WordsOnly [(LN_STAT_SIG k).addr, (LN_PEAK_CODE k).addr, (LN_FOMLOG_MIN k).addr] s (windowDone s k lo fom hi) := by
  have fields := fields_windowDone s k lo fom hi
  refine ⟨fields.bit ?_, fields.words.mono ?_⟩
  · simp [windowFields, openFields, LN_STAT_FOM_VALID, LN_STAT_FOM, LN_FOMLOG_MIN, LN_PEAK_CODE, LN_FOMLOG_READAPTS, LN_STAT_ADAPTING,
      LN_STAT_FAILED]
  · simp [windowFields, openFields, LN_STAT_SIG, LN_STAT_FOM_VALID, LN_STAT_FOM, LN_FOMLOG_MIN, LN_PEAK_CODE, LN_FOMLOG_READAPTS,
      LN_STAT_ADAPTING]

/-! ### The main code -/

/-- The main code moves one code toward its target (R307). -/
def stepped (s : State) (k : Nat) : State :=
  ((s.setLane k { s.lane k with stepped := s.now }).wr (LN_STAT_MAIN k) (oneToward (s.rd (LN_STAT_MAIN k)) (s.rd (LN_PEAK_CODE k)))).laneSync k

/-- Whether the main code may move (R307): never while a sweep moves it on the data sampler. -/
def Steps (s : State) (k : Nat) : Prop := s.domOn (32 + k / 128) = true ∧ s.rd (LN_STAT_MAIN k) ≠ s.rd (LN_PEAK_CODE k) ∧
  (∀ t0 m, (s.lane k).sweep ≠ some (true, t0, m)) ∧ (s.lane k).stepped + 1024 ≤ s.now

theorem peakStep_eq : s.peakStep k = if s.domOn (laneDom k) && s.rd (LN_STAT_MAIN k) != s.rd (LN_PEAK_CODE k) &&
    !((s.lane k).sweep.elim false (·.1)) && decide ((s.lane k).stepped + 1024 ≤ s.now) then stepped s k else s := by
  dsimp only [State.peakStep, stepped]
  cases (s.lane k).sweep <;> rfl

theorem mayStep_iff : (s.domOn (laneDom k) && s.rd (LN_STAT_MAIN k) != s.rd (LN_PEAK_CODE k) &&
    !((s.lane k).sweep.elim false (·.1)) && decide ((s.lane k).stepped + 1024 ≤ s.now)) = true ↔ Steps s k := by
  have data : (!((s.lane k).sweep.elim false (·.1))) = true ↔ ∀ t0 m, (s.lane k).sweep ≠ some (true, t0, m) := by
    rcases (s.lane k).sweep with _ | ⟨_ | _, t0, m⟩ <;> simp
  rw [Bool.and_eq_true, Bool.and_eq_true, Bool.and_eq_true, data, decide_eq_true_eq, bne_iff_ne, Steps, and_assoc, and_assoc]
  rfl

theorem stepped_spec (steps : Steps s k) : (stepped s k).rd (LN_STAT_MAIN k) =
      (if s.rd (LN_STAT_MAIN k) < s.rd (LN_PEAK_CODE k) then s.rd (LN_STAT_MAIN k) + 1 else s.rd (LN_STAT_MAIN k) - 1) ∧
    (stepped s k).rd (LN_PEAK_CODE k) = s.rd (LN_PEAK_CODE k) ∧ (stepped s k).lane k = { s.lane k with stepped := s.now } ∧
    WordsOnly [(LN_STAT_SIG k).addr] s (stepped s k) ∧ Only [.regs, .fab] s (stepped s k) := by
  obtain ⟨-, apart, -, -⟩ := steps
  have moved := fields_wr (s.setLane k { s.lane k with stepped := s.now }) (LN_STAT_MAIN k)
    (oneToward (s.rd (LN_STAT_MAIN k)) (s.rd (LN_PEAK_CODE k)))
  have fields : FieldsOnly ([LN_STAT_MAIN k] ++ [LN_STAT_ADAPTING k]) s (stepped s k) :=
    ((fields_setLane s k _).trans moved).append (fields_laneSync _ k)
  have inside : oneToward (s.rd (LN_STAT_MAIN k)) (s.rd (LN_PEAK_CODE k)) < 32 :=
    oneToward_lt (s.rd_lt (LN_STAT_MAIN k)) (s.rd_lt (LN_PEAK_CODE k))
  refine ⟨?_, fields _ (by simp [LN_STAT_MAIN, LN_STAT_ADAPTING, LN_PEAK_CODE]), ?_,
    fields.words.mono (by simp [LN_STAT_MAIN, LN_STAT_ADAPTING, LN_STAT_SIG]), ?_⟩
  · rw [stepped, fields_laneSync _ k (LN_STAT_MAIN k) (by simp [LN_STAT_MAIN, LN_STAT_ADAPTING]),
      State.rd_wr_same _ _ _ (show 16 + 5 ≤ 32 by decide)]
    refine (Nat.mod_eq_of_lt inside).trans ?_
    rw [oneToward]
    split
    · rfl
    · exact if_pos (by omega)
  · rw [stepped, lane_laneSync, lane_of_lanes (u := State.wr _ _ _) (s := s.setLane k { s.lane k with stepped := s.now }) rfl, lane_setLane_same]
  · exact ((only_setLane s k _).comp (State.only_wr _ _ _) (by simp) (by simp)).trans ((only_laneSync _ k).mono (by simp))

/-- The host's target (R315). -/
theorem peakCode_spec (s : State) (k code : Nat) : (s.peakCode k code).rd (LN_PEAK_CODE k) = code % 32 ∧
    (s.peakCode k code).rd (LN_STAT_MAIN k) = s.rd (LN_STAT_MAIN k) ∧ (s.peakCode k code).lane k = { s.lane k with hostAt := some s.now } ∧
    WordsOnly [(LN_STAT_SIG k).addr, (LN_PEAK_CODE k).addr] s (s.peakCode k code) ∧ Only [.regs, .fab] s (s.peakCode k code) := by
  have fields : FieldsOnly ([LN_PEAK_CODE k] ++ [LN_STAT_ADAPTING k]) s (s.peakCode k code) :=
    ((fields_setLane s k _).trans (fields_wr _ _ _)).append (fields_laneSync _ k)
  refine ⟨?_, fields _ (by simp [LN_STAT_MAIN, LN_STAT_ADAPTING, LN_PEAK_CODE]), ?_,
    fields.words.mono (by simp [LN_PEAK_CODE, LN_STAT_ADAPTING, LN_STAT_SIG]), ?_⟩
  · rw [State.peakCode, fields_laneSync _ k (LN_PEAK_CODE k) (by simp [LN_PEAK_CODE, LN_STAT_ADAPTING]),
      State.rd_wr_same _ _ _ (show 0 + 5 ≤ 32 by decide)]
    exact Nat.mod_mod code 32
  · rw [State.peakCode, lane_laneSync, lane_of_lanes (u := State.wr _ _ _) (s := s.setLane k { s.lane k with hostAt := some s.now }) rfl,
      lane_setLane_same]
  · exact ((only_setLane s k _).comp (State.only_wr _ _ _) (by simp) (by simp)).trans ((only_laneSync _ k).mono (by simp))

end

/-- A register command that may not act, as it occurs (R571, R610). -/
theorem cmd_unready {s : State} {t : Nat} {d : Option Nat} (f : State → State) (h : ¬(s.ready = true ∧ d.all s.domOn = true)) :
    (s.at t).cmd d f = s.at t := by
  refine State.cmd_idle f (Bool.eq_false_iff.2 fun acts => h ?_)
  exact Bool.and_eq_true_iff.1 acts

/-- A port that goes down after the clock has moved. -/
theorem portDown_after_at {s u : State} {t p cause : Nat} (h : PortDown p cause (s.at t) u) : PortDown p cause s u := by
  obtain ⟨state, shown, held, downs, sum, valid, noReplay, noPacket, rest⟩ := h
  exact ⟨state, shown, held, downs, sum, valid, noReplay, noPacket, ((s.only_at t).mono (by simp)).trans rest⟩

/-- Settles O43, event by event: each comes to the lane's own step, and a lane that fails takes its up port down. -/
theorem lanesAdaptTheirCode : Obligations.LanesAdaptTheirCode := by
  intro t k code lo f hi valid figs path s hk x p now on up lanes main target en host fig fails
  refine ⟨fun idle => idle_of_eq (t := t) rfl (sigRise_idle (s.at t) k valid idle), fun isOn dark => ?_,
    fun dark => idle_of_eq (t := t) rfl (sigFall_idle (s := s.at t) dark), fun lit => ⟨fun notUp => ?_, fun isUp => ?_⟩,
    fun idle => idle_of_eq (t := t) rfl (cmd_unready _ idle), fun ready isOn => ⟨fun isUp => ?_, fun notUp => ?_⟩,
    fun idle => idle_of_eq (t := t) rfl (sweepComplete_idle (s := s.at t) figs idle), fun d t0 m running isOn => ⟨fun early => ?_, fun due => ?_⟩,
    fun early => ?_, fun isUp due lit => ⟨fun invalid => ?_, fun isValid => ?_⟩, ⟨fun stays => ?_, fun steps => ?_⟩,
    fun unready => idle_of_eq (t := t) rfl (cmd_unready _ ?_), fun ready => ?_⟩
  · obtain ⟨sig, fom, slips, lane, adapting, state, words, only⟩ := sigRise_spec (s.at t) hk (valid := valid) rfl
    refine ⟨_, congrArg Host.Outcome.next (sigRise_eq (s.at t) k isOn dark), sig, fom, slips, ?_, ?_, ?_, adapting, ?_, words, only_after_at only⟩
    · rw [lane]; rfl
    · rw [lane]; rfl
    · rw [lane]; rfl
    · rw [state]
      refine if_congr (and_congr Iff.rfl ((mayRise_sigShown (s.at t) hk valid).trans ?_)) rfl rfl
      simp only [mem_lanesOf]
      rfl
  · obtain ⟨⟨sig, fom, hit, sweep⟩, failed, words⟩ := sigDropped_spec (s := s.at t) (k := k)
    exact ⟨_, congrArg Host.Outcome.next ((sigFall_eq (s := s.at t) lit).trans (if_neg notUp)), sig, fom, hit, sweep, failed, words,
      only_after_at (only_sigDropped (s.at t) k)⟩
  · obtain ⟨⟨sig, fom, hit, sweep⟩, failed, down, reported⟩ := sigFall_fails (s := s.at t) hk isUp
    exact ⟨_, congrArg Host.Outcome.next ((sigFall_eq (s := s.at t) lit).trans (if_pos isUp)), sig, fom, hit, sweep, failed,
      portDown_after_at down, reported⟩
  · obtain ⟨shown, words, reports, only⟩ := patRefused_spec (s.at t) k path.master
    refine ⟨_, congrArg Host.Outcome.next ((State.cmd_acts (s := s.at t) (d := some (32 + k / 128)) _ ready isOn).trans
      (sweepWrite_up (s := s.at t) path.master isUp)), shown, words,
      reports, ?_⟩
    exact (s.only_at t).comp only (by simp) (by simp)
  · refine ⟨_, congrArg Host.Outcome.next ((State.cmd_acts (s := s.at t) (d := some (32 + k / 128)) _ ready isOn).trans
      (sweepWrite_starts (s := s.at t) path.master notUp isOn)),
      lane_startSweep (s.at t) k true, adapting_startSweep (s.at t) k true, (fields_startSweep (s.at t) k true).words,
      only_after_at (only_startSweep (s.at t) k true)⟩
  · exact idle_of_eq (t := t) rfl (sweepComplete_early (s := s.at t) running figs early)
  · obtain ⟨c, hc, best, most⟩ := sweepBest_spec m fig
    have done := sweepComplete_eq (s := s.at t) running figs due isOn best
    obtain ⟨peak, failed, main', adapting, only⟩ := sweepComplete_shows (s := s.at t) hk d (fig c) hc rfl
    refine ⟨_, c, congrArg Host.Outcome.next done, hc, ?_, most, ?_, main', ?_, fun other => ?_, only_after_at only⟩
    · rw [peak]
      exact if_congr (or_congr (stays_iff (s.at t) k d) (hostCode_iff (s.at t) k)) rfl rfl
    · rw [failed]
      exact if_congr (stays_iff (s.at t) k d) rfl rfl
    · rw [adapting, Bool.eq_iff_iff, bne_iff_ne, decide_eq_true_eq]
      rfl
    · obtain ⟨lane, state, words⟩ := sweepComplete_port (s := s.at t) d (fig c) c other rfl
      refine ⟨lane, ?_, words⟩
      rw [state]
      refine if_congr (and_congr Iff.rfl ((lanesReady_iff _ p).trans ?_)) rfl rfl
      simp only [mem_lanesOf]
      rfl
  · have notEnds : ¬windowEnds (s.at t) k := fun ⟨isUp, due⟩ => early.elim (fun notUp => notUp isUp) (Nat.not_lt.2 due)
    obtain ⟨figure, words⟩ := levelShown_spec (s.at t) k valid
    exact ⟨_, congrArg Host.Outcome.next (adaptWindow_early (s := s.at t) valid lo f hi notEnds), bit_levelShown (s.at t) k valid, figure, words,
      only_after_at (only_levelShown (s.at t) k valid)⟩
  · subst invalid
    obtain ⟨figure, words⟩ := levelShown_spec (s.at t) k false
    refine ⟨_, congrArg Host.Outcome.next (adaptWindow_invalid (s := s.at t) lo f hi ⟨isUp, due⟩ lit), ?_, ?_, ?_, ?_, ?_⟩
    · exact ((fields_setLane (l := []) _ k _).bit (by simp)).trans ((bit_levelShown (s.at t) k false).trans (if_pos lit))
    · exact (fields_setLane (l := []) _ k _ _ (by simp)).trans figure
    · rw [lane_setLane_same, renewed_levelShown]
      rfl
    · exact words.trans ((fields_setLane (l := []) _ k _).words.mono (by simp))
    · exact only_after_at ((only_levelShown (s.at t) k false).comp (only_setLane _ k _) (by simp) (by simp))
  · subst isValid
    intro fom low readapt measured
    have done := adaptWindow_measures (s := s.at t) lo f hi ⟨isUp, due⟩ lit
    have shows : ∀ u, Measured (s.at t) k (eyeFom lo) fom (eyeFom hi) u → measured u := fun u m => by
      refine ⟨m.level, m.figure, m.least, m.main, m.window, m.win, ?_, m.again, m.goesOn⟩
      rw [m.target, aimedCode_eq]
      change (windowNeighbour (s.rd LN_CFG_HYST) main (eyeFom lo) fom (eyeFom hi)).elim _ _ = _
      cases windowNeighbour (s.rd LN_CFG_HYST) main (eyeFom lo) fom (eyeFom hi) <;> rfl
    refine ⟨fun bad third => ?_, fun good => ?_⟩
    · obtain ⟨m, failed, down, reported⟩ := window_fails (s := s.at t) hk (eyeFom lo) (eyeFom hi) isUp lit (eyeFom_lt f) rfl
      exact ⟨_, congrArg Host.Outcome.next (done.trans (if_pos ((four_bad (s := s.at t) fom).2 ⟨bad, third⟩))), shows _ m, failed,
        portDown_after_at down, reported⟩
    · have passes : ¬4 ≤ (closedLane (s.at t) k fom).bad := fun four => by
        obtain ⟨bad, third⟩ := (four_bad (s := s.at t) fom).1 four
        exact good.elim (Nat.not_le.2 bad) (Nat.not_lt.2 third)
      obtain ⟨failed, words⟩ := window_passes (s := s.at t) (k := k) (eyeFom lo) fom (eyeFom hi)
      exact ⟨_, congrArg Host.Outcome.next (done.trans (if_neg passes)),
        shows _ (measured_windowDone (s.at t) k (eyeFom lo) (eyeFom hi) lit (eyeFom_lt f)),
        bad_windowDone (s := s.at t) (eyeFom lo) fom (eyeFom hi), failed, words,
        only_after_at ((only_windowDone (s.at t) k (eyeFom lo) fom (eyeFom hi)).mono (by simp))⟩
  · exact idle_of_eq (t := t) rfl ((peakStep_eq (s := s.at t)).trans (if_neg fun may => stays ((mayStep_iff (s := s.at t) (k := k)).1 may)))
  · obtain ⟨moved, target', lane, words, only⟩ := stepped_spec (s := s.at t) steps
    exact ⟨_, congrArg Host.Outcome.next ((peakStep_eq (s := s.at t)).trans (if_pos ((mayStep_iff (s := s.at t) (k := k)).2 steps))), moved, target', lane, words,
      only_after_at only⟩
  · rw [unready]
    exact fun both => Bool.false_ne_true both.1
  · obtain ⟨target', main', lane, words, only⟩ := peakCode_spec (s.at t) k code
    exact ⟨_, congrArg Host.Outcome.next (State.cmd_acts (s := s.at t) (d := none) _ ready rfl), target', main', lane, words,
      only_after_at only⟩

end Sys2Proof.Proofs.Lanes
end

section
/-! PROOFS. Lanes that search for their word boundary, and the checkers of patterns (R316 to R320). -/

open Sys2Proof Sys2Proof.Machine Sys2Proof.Proofs.Casting Sys2Proof.Proofs.Grid

namespace Sys2Proof.Proofs.Lanes

/-! ### 64-bit counters -/

theorem FieldsOnly.rd64 {l : List Fld} {s u : State} (h : FieldsOnly l s u) {g : Fld} (low : ∀ f ∈ l, Clear f g) (high : ∀ f ∈ l, Clear f g.hi) :
    u.rd64 g = s.rd64 g := by
  rw [State.rd64, h g low, h g.hi high, State.rd64]

theorem fields_wr64 (s : State) (f : Fld) (v : Nat) : FieldsOnly [f, f.hi] s (s.wr64 f v) := (fields_wr s f _).append (fields_wr _ f.hi _)

section
variable (s : State) (k : Nat)

/-! ### SLIP -/

/-- The word boundary of a lane moves one symbol later (R317). -/
def slipped : State :=
  ((s.wr (LN_STAT_SLIPS k) ((s.rd (LN_STAT_SLIPS k) + 1) % 64)).setLane k { s.lane k with hits := 0 }).wrBit (LN_STAT_MATCH k) false

variable {s k} in
theorem slip_up (m : Master) (up : s.portUp (k / 4) = true) : s.slip m k = s.patRefused m k := if_pos up

variable {s k} in
theorem slip_moves (m : Master) (notUp : s.portUp (k / 4) ≠ true) (on : s.domOn (32 + k / 128) = true) : s.slip m k = slipped s k :=
  (if_neg notUp).trans (if_pos on)

theorem slipped_spec : (slipped s k).rd (LN_STAT_SLIPS k) = (s.rd (LN_STAT_SLIPS k) + 1) % 64 ∧ (slipped s k).bit (LN_STAT_MATCH k) = false ∧
    (slipped s k).lane k = { s.lane k with hits := 0 } ∧ WordsOnly [(LN_STAT_SIG k).addr] s (slipped s k) ∧ Only [.regs, .fab] s (slipped s k) := by
  have counted := fields_wr s (LN_STAT_SLIPS k) ((s.rd (LN_STAT_SLIPS k) + 1) % 64)
  have stored := fields_setLane (l := []) (s.wr (LN_STAT_SLIPS k) ((s.rd (LN_STAT_SLIPS k) + 1) % 64)) k { s.lane k with hits := 0 }
  have cleared : FieldsOnly ([] ++ [LN_STAT_MATCH k]) _ (slipped s k) := stored.append (fields_wrBit _ (LN_STAT_MATCH k) false)
  refine ⟨?_, State.bit_wrBit _ _ _ rfl (show 10 + 1 ≤ 32 by decide), ?_, (counted.append cleared).words.mono ?_, ?_⟩
  · rw [cleared _ (by simp [LN_STAT_SLIPS, LN_STAT_MATCH]), State.rd_wr_same _ _ _ (show 21 + 6 ≤ 32 by decide)]
    exact Nat.mod_mod _ 64
  · rw [slipped, lane_of_lanes (u := State.wrBit _ _ _) (s := State.setLane _ k { s.lane k with hits := 0 }) rfl, lane_setLane_same]
  · simp [LN_STAT_SIG, LN_STAT_SLIPS, LN_STAT_MATCH]
  · exact ((s.only_wr _ _).comp (only_setLane _ k _) (by simp) (by simp)).trans ((State.only_wrBit _ _ _).mono (by simp))

/-! ### CLR -/

/-- The counters of a checker (R319). -/
def counterFields : List Fld := [LN_SYM_LO k, (LN_SYM_LO k).hi, LN_SERR k, LN_BERR k]

theorem fields_clearChecker : FieldsOnly (counterFields k) s (s.clearChecker k) :=
  ((fields_wr64 s (LN_SYM_LO k) 0).append (fields_wr _ (LN_SERR k) 0)).append (fields_wr _ (LN_BERR k) 0)

theorem only_clearChecker : Only [.regs] s (s.clearChecker k) := ((s.only_wr64 _ _).trans (State.only_wr _ _ _)).trans (State.only_wr _ _ _)

/-- The counters of a checker read 0 (R319). -/
def Cleared (k : Nat) (u : State) : Prop := u.rd64 (LN_SYM_LO k) = 0 ∧ u.rd (LN_SERR k) = 0 ∧ u.rd (LN_BERR k) = 0

theorem cleared_clearChecker : Cleared k (s.clearChecker k) := by
  have bits := fields_wr ((s.wr64 (LN_SYM_LO k) 0).wr (LN_SERR k) 0) (LN_BERR k) 0
  have symbols := (fields_wr (s.wr64 (LN_SYM_LO k) 0) (LN_SERR k) 0).append bits
  refine ⟨?_, ?_, State.rd_wr_same _ _ _ (show 0 + 32 ≤ 32 by decide)⟩
  · refine (symbols.rd64 ?_ ?_).trans (State.rd64_wr64 _ _ _ rfl rfl)
    · simp [LN_SYM_LO, LN_SERR, LN_BERR]
    · simp [Fld.hi, LN_SYM_LO, LN_SERR, LN_BERR]
      omega
  · exact (bits _ (by simp [LN_SERR, LN_BERR])).trans (State.rd_wr_same _ _ _ (show 0 + 32 ≤ 32 by decide))

theorem Cleared.later {u v : State} {l : List Fld} (h : Cleared k u) (fields : FieldsOnly l u v)
    (hl : ∀ g ∈ counterFields k, ∀ f ∈ l, Clear f g) : Cleared k v := by
  obtain ⟨symbols, wrong, bits⟩ := h
  simp only [counterFields, List.forall_mem_cons] at hl
  obtain ⟨low, high, serr, berr, -⟩ := hl
  exact ⟨(fields.rd64 low high).trans symbols, (fields _ serr).trans wrong, (fields _ berr).trans bits⟩

/-! ### PATTERN_WRITE -/

/-- The patterns of a lane (R318). -/
def patterned (tx rx : Nat) : State := (s.wr (LN_CTRL_TX_PAT k) (tx % 8)).wr (LN_CTRL_RX_PAT k) (rx % 8)

/-- A checker that starts anew, and no MATCH (R317, R319). -/
def restarted : State :=
  ((s.setLane k { s.lane k with hits := 0, run := 0, syms := 0, errs := [] }).wrBit (LN_STAT_MATCH k) false).wrBit (LN_STAT_LOCK k) false

/-- A lane with its patterns, before its counters are cleared. -/
def patternSet (tx rx : Nat) : State :=
  if s.rd (LN_CTRL_RX_PAT k) = rx % 8 then patterned s k tx rx else restarted (patterned s k tx rx) k

variable {s k} in
theorem patternWrite_refused (m : Master) {tx rx : Nat} (up : s.portUp (k / 4) = true) (sends : tx % 8 ≠ 0 ∨ rx % 8 ≠ 0) :
    s.patternWrite m k tx rx = s.patRefused m k := by
  refine if_pos ?_
  rw [lanePort, up, Bool.true_and, Bool.or_eq_true, bne_iff_ne, bne_iff_ne]
  exact sends

variable {s k} in
theorem patternWrite_sets (m : Master) (tx rx : Nat) (notUp : s.portUp (k / 4) ≠ true) :
    s.patternWrite m k tx rx = ((patternSet s k tx rx).clearChecker k).tryUp (k / 4) := by
  refine if_neg fun refused => notUp ?_
  exact (Bool.and_eq_true_iff.1 refused).1

theorem fields_patterned (tx rx : Nat) : FieldsOnly [LN_CTRL_TX_PAT k, LN_CTRL_RX_PAT k] s (patterned s k tx rx) :=
  (fields_wr s _ _).append (fields_wr _ _ _)

theorem fields_restarted : FieldsOnly [LN_STAT_MATCH k, LN_STAT_LOCK k] s (restarted s k) :=
  (fields_setLane s k _).trans ((fields_wrBit _ (LN_STAT_MATCH k) false).append (fields_wrBit _ (LN_STAT_LOCK k) false))

theorem lane_restarted : (restarted s k).lane k = { s.lane k with hits := 0, run := 0, syms := 0, errs := [] } := by
  rw [restarted, lane_of_lanes (u := State.wrBit (State.wrBit _ _ _) _ _) (s := s.setLane k _) rfl, lane_setLane_same]

/-- What a write of the patterns makes of a lane (R317, R319). -/
def patternLane (rx : Nat) : Lane :=
  if rx % 8 ≠ s.rd (LN_CTRL_RX_PAT k) then { s.lane k with hits := 0, run := 0, syms := 0, errs := [] } else s.lane k

theorem lane_patternSet (tx rx : Nat) : (patternSet s k tx rx).lane k = patternLane s k rx := by
  have lane : (patterned s k tx rx).lane k = s.lane k := lane_of_lanes rfl k
  unfold patternSet patternLane
  by_cases same : s.rd (LN_CTRL_RX_PAT k) = rx % 8
  · rw [if_pos same, if_neg (not_not.2 same.symm), lane]
  · rw [if_neg same, if_pos (Ne.symm same), lane_restarted, lane]

theorem fields_patternSet (tx rx : Nat) :
    FieldsOnly ([LN_CTRL_TX_PAT k, LN_CTRL_RX_PAT k] ++ [LN_STAT_MATCH k, LN_STAT_LOCK k]) s (patternSet s k tx rx) :=
  .ite ((fields_patterned s k tx rx).mono (List.subset_append_left _ _)) ((fields_patterned s k tx rx).append (fields_restarted _ k))

theorem only_patternSet (tx rx : Nat) : Only [.regs, .fab] s (patternSet s k tx rx) := by
  have set : Only [.regs, .fab] s (patterned s k tx rx) := ((s.only_wr _ _).trans (State.only_wr _ _ _)).mono (by simp)
  unfold patternSet
  split
  · exact set
  · exact set.trans ((only_setLane _ k _).comp ((State.only_wrBit _ _ _).trans (State.only_wrBit _ _ _)) (by simp) (by simp))

/-- The patterns read back, and MATCH and LOCK stay under the same RX_PAT alone (R317 to R319). -/
theorem shows_patternSet (tx rx : Nat) : (patternSet s k tx rx).rd (LN_CTRL_TX_PAT k) = tx % 8 ∧ (patternSet s k tx rx).rd (LN_CTRL_RX_PAT k) = rx % 8 ∧
    (patternSet s k tx rx).bit (LN_STAT_MATCH k) = (if rx % 8 ≠ s.rd (LN_CTRL_RX_PAT k) then false else s.bit (LN_STAT_MATCH k)) ∧
    (patternSet s k tx rx).bit (LN_STAT_LOCK k) = (if rx % 8 ≠ s.rd (LN_CTRL_RX_PAT k) then false else s.bit (LN_STAT_LOCK k)) := by
  have set : FieldsOnly [LN_STAT_MATCH k, LN_STAT_LOCK k] (patterned s k tx rx) (patternSet s k tx rx) := .ite .rfl (fields_restarted _ k)
  have txPat : (patterned s k tx rx).rd (LN_CTRL_TX_PAT k) = tx % 8 := by
    rw [patterned, fields_wr _ (LN_CTRL_RX_PAT k) _ (LN_CTRL_TX_PAT k) (by simp [LN_CTRL_TX_PAT, LN_CTRL_RX_PAT]),
      State.rd_wr_same _ _ _ (show 0 + 3 ≤ 32 by decide)]
    exact Nat.mod_mod tx 8
  have rxPat : (patterned s k tx rx).rd (LN_CTRL_RX_PAT k) = rx % 8 :=
    (State.rd_wr_same _ _ _ (show 3 + 3 ≤ 32 by decide)).trans (Nat.mod_mod rx 8)
  have stat : ∀ f ∈ [LN_STAT_MATCH k, LN_STAT_LOCK k], (patterned s k tx rx).bit f = s.bit f := by
    simp only [List.forall_mem_cons]
    refine ⟨(fields_patterned s k tx rx).bit ?_, (fields_patterned s k tx rx).bit ?_, by simp⟩
    · simp [LN_CTRL_TX_PAT, LN_CTRL_RX_PAT, LN_STAT_MATCH]
    · simp [LN_CTRL_TX_PAT, LN_CTRL_RX_PAT, LN_STAT_LOCK]
  refine ⟨(set _ ?_).trans txPat, (set _ ?_).trans rxPat, ?_, ?_⟩
  · simp [LN_STAT_MATCH, LN_STAT_LOCK, LN_CTRL_TX_PAT]
  · simp [LN_STAT_MATCH, LN_STAT_LOCK, LN_CTRL_RX_PAT]
  · unfold patternSet
    by_cases same : s.rd (LN_CTRL_RX_PAT k) = rx % 8
    · rw [if_pos same, if_neg (not_not.2 same.symm), stat _ (by simp)]
    · rw [if_neg same, if_pos (Ne.symm same)]
      refine ((fields_wrBit _ (LN_STAT_LOCK k) false).bit ?_).trans (State.bit_wrBit _ _ _ rfl (show 10 + 1 ≤ 32 by decide))
      simp [LN_STAT_MATCH, LN_STAT_LOCK]
  · unfold patternSet
    by_cases same : s.rd (LN_CTRL_RX_PAT k) = rx % 8
    · rw [if_pos same, if_neg (not_not.2 same.symm), stat _ (by simp)]
    · rw [if_neg same, if_pos (Ne.symm same)]
      exact State.bit_wrBit _ _ _ rfl (show 11 + 1 ≤ 32 by decide)

variable {k}

theorem counterFields_inside (hk : k < 1024) : ∀ g ∈ counterFields k, LaneFld g ∧ g.addr % 64 ≠ 12 := by
  simp [counterFields, LaneFld, Fld.hi, LN_SYM_LO, LN_SERR, LN_BERR]
  omega

/-- What PATTERN_WRITE leaves of a lane whose port is not up; on a port that awaits no LINKUP nothing else moves (R317 to R320). -/
theorem patternWrite_spec (hk : k < 1024) (tx rx : Nat) {u : State} (hu : u = ((patternSet s k tx rx).clearChecker k).tryUp (k / 4)) :
    u.rd (LN_CTRL_TX_PAT k) = tx % 8 ∧ u.rd (LN_CTRL_RX_PAT k) = rx % 8 ∧ Cleared k u ∧
      u.bit (LN_STAT_MATCH k) = (if rx % 8 ≠ s.rd (LN_CTRL_RX_PAT k) then false else s.bit (LN_STAT_MATCH k)) ∧
      u.bit (LN_STAT_LOCK k) = (if rx % 8 ≠ s.rd (LN_CTRL_RX_PAT k) then false else s.bit (LN_STAT_LOCK k)) ∧
      (s.rd (LK_STAT_STATE (k / 4)) ≠ 4 → u.lane k = patternLane s k rx ∧
        WordsOnly ([(LN_CTRL_TX_PAT k).addr, (LN_STAT_SIG k).addr] ++ (counterFields k).map Fld.addr) s u) ∧ Only [.regs, .fab] s u := by
  subst hu
  obtain ⟨txPat, rxPat, hit, lock⟩ := shows_patternSet s k tx rx
  have cleared := fields_clearChecker (patternSet s k tx rx) k
  have risen := fields_tryUp ((patternSet s k tx rx).clearChecker k) (k / 4)
  have moved := cleared.append risen
  have set := (fields_patternSet s k tx rx).append cleared
  have stays : ∀ n < 16, n ≠ 12 → ∀ lo width, ∀ f ∈ counterFields k ++ upFields (k / 4), Clear f ⟨0x210000 + n + 0x40 * k, lo, width⟩ := by
    intro n hn log lo width f hf
    rcases List.mem_append.1 hf with hf | hf
    · refine .inl ?_
      simp only [counterFields, Fld.hi, LN_SYM_LO, LN_SERR, LN_BERR, List.mem_cons, List.not_mem_nil, or_false] at hf
      rcases hf with rfl | rfl | rfl | rfl <;> simp only <;> omega
    · exact clear_upFields (k / 4) (by omega) (by simp only [LaneFld]; omega) (by simp only; omega) f hf
  refine ⟨(moved _ (stays 0 (by decide) (by decide) _ _)).trans txPat, (moved _ (stays 0 (by decide) (by decide) _ _)).trans rxPat,
    (cleared_clearChecker _ k).later k risen ?_, (moved.bit (g := LN_STAT_MATCH k) (stays 4 (by decide) (by decide) _ _)).trans hit,
    (moved.bit (g := LN_STAT_LOCK k) (stays 4 (by decide) (by decide) _ _)).trans lock, fun other => ?_, ?_⟩
  · exact fun g hg => clear_upFields (k / 4) (by omega) (counterFields_inside hk g hg).1 (counterFields_inside hk g hg).2
  · have state : ((patternSet s k tx rx).clearChecker k).rd (LK_STAT_STATE (k / 4)) = s.rd (LK_STAT_STATE (k / 4)) := set _ (by
      simp [counterFields, Fld.hi, LN_CTRL_TX_PAT, LN_CTRL_RX_PAT, LN_STAT_MATCH, LN_STAT_LOCK, LN_SYM_LO, LN_SERR, LN_BERR, LK_STAT_STATE]
      omega)
    rw [tryUp_other _ _ (by rw [state]; exact other)]
    refine ⟨(lane_of_lanes rfl k).trans (lane_patternSet s k tx rx), set.words.mono ?_⟩
    simp [counterFields, Fld.hi, LN_CTRL_TX_PAT, LN_CTRL_RX_PAT, LN_STAT_SIG, LN_STAT_MATCH, LN_STAT_LOCK]
  · exact ((only_patternSet s k tx rx).trans ((only_clearChecker _ k).mono (by simp))).trans (only_tryUp _ _)

/-! ### ALIGN_MATCH -/

end

/-- The words in a row that equaled the ALIGN word, up to 16 (R316, R317). -/
def alignHits (s : State) (k word : Nat) : Nat := if word = alignWord then min 16 ((s.lane k).hits + 1) else 0

/-- A lane that compared a word with ALIGN (R317). -/
def compared (s : State) (k word : Nat) : State :=
  (s.setLane k { s.lane k with hits := alignHits s k word }).wrBit (LN_STAT_MATCH k) (alignHits s k word = 16)

section
variable {s : State} {k : Nat} (word : Nat)

theorem alignMatch_idle (h : s.rd (LN_CTRL_RX_PAT k) ≠ 5 ∨ ¬s.domOn (32 + k / 128) = true) : s.alignMatch k word = s :=
  if_neg fun both => h.elim (fun other => other both.1) (fun off => off both.2)

theorem alignMatch_eq (aligns : s.rd (LN_CTRL_RX_PAT k) = 5) (on : s.domOn (32 + k / 128) = true) : s.alignMatch k word = compared s k word :=
  if_pos ⟨aligns, on⟩

theorem compared_spec : (compared s k word).lane k = { s.lane k with hits := alignHits s k word } ∧
    (compared s k word).bit (LN_STAT_MATCH k) = decide (alignHits s k word = 16) ∧
    WordsOnly [(LN_STAT_SIG k).addr] s (compared s k word) ∧ Only [.regs, .fab] s (compared s k word) := by
  have fields : FieldsOnly [LN_STAT_MATCH k] s (compared s k word) := (fields_setLane s k _).trans (fields_wrBit _ _ _)
  refine ⟨?_, State.bit_wrBit _ _ _ rfl (show 10 + 1 ≤ 32 by decide), fields.words, ?_⟩
  · rw [compared, lane_of_lanes (u := State.wrBit _ _ _) (s := s.setLane k _) rfl, lane_setLane_same]
  · exact (only_setLane s k _).comp (State.only_wrBit _ _ _) (by simp) (by simp)

end

/-! ### PRBS_SYMBOL_CHECK -/

/-- Whether a lane checks a PRBS pattern (R319). -/
def Checks (s : State) (k : Nat) : Prop :=
  1 ≤ s.rd (LN_CTRL_RX_PAT k) ∧ s.rd (LN_CTRL_RX_PAT k) ≤ 3 ∧ s.domOn (32 + k / 128) = true

/-- A locked checker counts a symbol (R319). -/
def symbolCounted (s : State) (k bits : Nat) : State :=
  let u := s.add64 (LN_SYM_LO k) 1
  if bits = 0 then u else (u.inc (LN_SERR k)).addSat (LN_BERR k) bits

/-- The symbols in error within the last 1,024 (R319). -/
def recentErrs (x : Lane) : List Nat := x.errs.filter (fun e => decide (x.syms + 1 < e + 1024)) ++ [x.syms + 1]

section
variable {s : State} {k bits : Nat}

theorem prbsCheck_idle (h : ¬Checks s k) : s.prbsCheck k bits = s := by
  refine if_pos ?_
  by_contra none
  obtain ⟨some', few, on⟩ := not_or.1 none |>.imp id not_or.1
  exact h ⟨by omega, by omega, Bool.not_eq_false _ ▸ on⟩

theorem checking (h : Checks s k) : ¬(s.rd (LN_CTRL_RX_PAT k) = 0 ∨ 3 < s.rd (LN_CTRL_RX_PAT k) ∨ s.domOn (laneDom k) = false) := by
  obtain ⟨low, high, on⟩ := h
  rintro (none | other | off)
  · omega
  · omega
  · exact Bool.false_ne_true (off.symm.trans on)

/-- A checker without lock (R319). -/
theorem prbsCheck_searching (h : Checks s k) (free : s.bit (LN_STAT_LOCK k) = false) : s.prbsCheck k bits =
    if bits = 0 then
      if 1024 ≤ (s.lane k).run + 1 then (s.setLane k { s.lane k with run := 0, syms := 0, errs := [] }).wrBit (LN_STAT_LOCK k) true
      else s.setLane k { s.lane k with run := (s.lane k).run + 1 }
    else s.setLane k { s.lane k with run := 0 } :=
  (if_neg (checking h)).trans (if_neg (free ▸ Bool.false_ne_true))

/-- A checker with lock (R319). -/
theorem prbsCheck_locked (h : Checks s k) (locked : s.bit (LN_STAT_LOCK k) = true) : s.prbsCheck k bits =
    if bits = 0 then (symbolCounted s k bits).setLane k { s.lane k with syms := (s.lane k).syms + 1 }
    else if 64 ≤ (recentErrs (s.lane k)).length then
      ((symbolCounted s k bits).setLane k { s.lane k with run := 0, syms := 0, errs := [] }).wrBit (LN_STAT_LOCK k) false
    else (symbolCounted s k bits).setLane k { s.lane k with syms := (s.lane k).syms + 1, errs := recentErrs (s.lane k) } := by
  refine ((if_neg (checking h)).trans (if_pos locked)).trans ?_
  by_cases good : bits = 0
  · rw [if_pos good, if_pos good, symbolCounted, if_pos good]
  · rw [if_neg good, if_neg good, symbolCounted, if_neg good]
    rfl

end

section
variable (s : State) (k bits : Nat)

theorem fields_symbolCounted : FieldsOnly (counterFields k) s (symbolCounted s k bits) := by
  have symbols : FieldsOnly [LN_SYM_LO k, (LN_SYM_LO k).hi] s (s.add64 (LN_SYM_LO k) 1) := fields_wr64 s _ _
  have wrong := (symbols.append (fields_addSat _ (LN_SERR k) 1)).append (fields_addSat _ (LN_BERR k) bits)
  exact .ite (symbols.mono (by simp [counterFields])) wrong

theorem only_symbolCounted : Only [.regs] s (symbolCounted s k bits) := by
  have symbols : Only [.regs] s (s.add64 (LN_SYM_LO k) 1) := s.only_wr64 _ _
  unfold symbolCounted
  dsimp only
  split
  · exact symbols
  · exact (symbols.trans (State.only_addSat _ _ _)).trans (State.only_addSat _ _ _)

/-- Symbols, symbols in error and bits in error after one symbol (R319). -/
def Counted (s : State) (k bits : Nat) (u : State) : Prop := u.rd64 (LN_SYM_LO k) = (s.rd64 (LN_SYM_LO k) + 1) % 2 ^ 64 ∧
  u.rd (LN_SERR k) = (if bits = 0 then s.rd (LN_SERR k) else min (s.rd (LN_SERR k) + 1) (2 ^ 32 - 1)) ∧
  u.rd (LN_BERR k) = (if bits = 0 then s.rd (LN_BERR k) else min (s.rd (LN_BERR k) + bits) (2 ^ 32 - 1))

theorem counted_symbolCounted : Counted s k bits (symbolCounted s k bits) := by
  have symbols : FieldsOnly [LN_SYM_LO k, (LN_SYM_LO k).hi] s (s.add64 (LN_SYM_LO k) 1) := fields_wr64 s _ _
  have total : (s.add64 (LN_SYM_LO k) 1).rd64 (LN_SYM_LO k) = (s.rd64 (LN_SYM_LO k) + 1) % 2 ^ 64 := State.rd64_wr64 _ _ _ rfl rfl
  have serr : (s.add64 (LN_SYM_LO k) 1).rd (LN_SERR k) = s.rd (LN_SERR k) := symbols _ (by simp [Fld.hi, LN_SYM_LO, LN_SERR]; omega)
  have berr : (s.add64 (LN_SYM_LO k) 1).rd (LN_BERR k) = s.rd (LN_BERR k) := symbols _ (by simp [Fld.hi, LN_SYM_LO, LN_BERR]; omega)
  by_cases good : bits = 0
  · simp only [Counted, symbolCounted, if_pos good]
    exact ⟨total, serr, berr⟩
  · simp only [Counted, symbolCounted, if_neg good]
    have wrong := fields_addSat (s.add64 (LN_SYM_LO k) 1) (LN_SERR k) 1
    have inverted := fields_addSat ((s.add64 (LN_SYM_LO k) 1).addSat (LN_SERR k) 1) (LN_BERR k) bits
    refine ⟨((wrong.append inverted).rd64 ?_ ?_).trans total, ?_, ?_⟩
    · simp [LN_SYM_LO, LN_SERR, LN_BERR]
    · simp [Fld.hi, LN_SYM_LO, LN_SERR, LN_BERR]
      omega
    · refine (inverted _ (by simp [LN_SERR, LN_BERR])).trans ((State.rd_addSat _ _ _ (show 0 + 32 ≤ 32 by decide)).trans ?_)
      rw [serr]
      rfl
    · refine (State.rd_addSat _ _ _ (show 0 + 32 ≤ 32 by decide)).trans ?_
      rw [State.inc, wrong _ (by simp [LN_SERR, LN_BERR]), berr]
      rfl

variable {s k bits} in
theorem Counted.later {u v : State} {l : List Fld} (h : Counted s k bits u) (fields : FieldsOnly l u v)
    (hl : ∀ g ∈ counterFields k, ∀ f ∈ l, Clear f g) : Counted s k bits v := by
  obtain ⟨symbols, wrong, inverted⟩ := h
  simp only [counterFields, List.forall_mem_cons] at hl
  obtain ⟨low, high, serr, berr, -⟩ := hl
  exact ⟨(fields.rd64 low high).trans symbols, (fields _ serr).trans wrong, (fields _ berr).trans inverted⟩

/-- A lane whose checker counted a symbol and goes on. -/
theorem counting_spec (x : Lane) : Counted s k bits ((symbolCounted s k bits).setLane k x) ∧
    ((symbolCounted s k bits).setLane k x).lane k = x ∧
    WordsOnly ((counterFields k).map Fld.addr) s ((symbolCounted s k bits).setLane k x) ∧
    Only [.regs, .fab] s ((symbolCounted s k bits).setLane k x) :=
  ⟨(counted_symbolCounted s k bits).later (fields_setLane (l := []) _ k x) (by simp), lane_setLane_same _ k x,
    ((fields_symbolCounted s k bits).trans (fields_setLane _ k x)).words,
    (only_symbolCounted s k bits).comp (only_setLane _ k x) (by simp) (by simp)⟩

/-- A lane whose checker has or loses lock, from a state with its lane stored. -/
theorem lockSet_spec (x : Lane) (b : Bool) : ((s.setLane k x).wrBit (LN_STAT_LOCK k) b).bit (LN_STAT_LOCK k) = b ∧
    ((s.setLane k x).wrBit (LN_STAT_LOCK k) b).lane k = x ∧ FieldsOnly [LN_STAT_LOCK k] s ((s.setLane k x).wrBit (LN_STAT_LOCK k) b) ∧
    Only [.regs, .fab] s ((s.setLane k x).wrBit (LN_STAT_LOCK k) b) := by
  refine ⟨State.bit_wrBit _ _ _ rfl (show 11 + 1 ≤ 32 by decide), ?_, (fields_setLane s k x).trans (fields_wrBit _ _ _),
    (only_setLane s k x).comp (State.only_wrBit _ _ _) (by simp) (by simp)⟩
  rw [lane_of_lanes (u := State.wrBit _ _ _) (s := s.setLane k x) rfl, lane_setLane_same]

end

end Sys2Proof.Proofs.Lanes
end

section
/-! PROOFS. Ports that go down one after another: each leaves the others, and what lets a port rise (R314, R323, R346, R350). -/

open Sys2Proof Sys2Proof.Machine Sys2Proof.Proofs.Casting Sys2Proof.Proofs.Grid

namespace Sys2Proof.Proofs.Lanes

/-! ### Words that tell how a port stands -/

/-- Words of links, of lanes and of the node's quench, but for those that a port other than `p` writes as it goes down. -/
def StandWord (p a : Nat) : Prop := ∀ j < 256, j ≠ p → AsideWord j a

/-- An operation on other ports leaves how port `p` stands. -/
abbrev Stands (p : Nat) (s u : State) : Prop := Spares (StandWord p) s u

section
variable {p : Nat} (hp : p < 256)
include hp

theorem standWord_link {a : Nat} (ha : a ∈ [(LK_STAT_STATE p).addr, (LK_CTRL_ADMIN p).addr, (LK_CFG_USE p).addr]) : StandWord p a := by
  simp only [LK_STAT_STATE, LK_CTRL_ADMIN, LK_CFG_USE, List.mem_cons, List.not_mem_nil, or_false] at ha
  intro j hj apart
  simp only [AsideWord, linkWord, downWords, TG_STATUS_SYNC, TG_LDLY_VALID, LK_UNCORR, LK_STAT_STATE, LK_SUM_DOWNS, List.mem_cons,
    List.not_mem_nil, or_false]
  omega

omit hp in
theorem standWord_power {d : Nat} (hd : d < 64) : StandWord p (PWR_STATE_STATE d).addr := by
  intro j hj apart
  simp only [AsideWord, linkWord, downWords, PWR_STATE_STATE, TG_STATUS_SYNC, TG_LDLY_VALID, LK_UNCORR, LK_STAT_STATE, LK_SUM_DOWNS,
    List.mem_cons, List.not_mem_nil, or_false]
  omega

omit hp in
theorem standWord_quench : StandWord p FLT_STAT_NODEQ.addr := by
  refine fun j hj _ => ⟨.inr (.inl rfl), ?_⟩
  simp only [downWords, FLT_STAT_NODEQ, TG_LDLY_VALID, LK_UNCORR, LK_STAT_STATE, LK_SUM_DOWNS, List.mem_cons, List.not_mem_nil, or_false]
  omega

omit hp in
theorem standWord_lane {f : Fld} (hf : LaneFld f) : StandWord p f.addr := fun _ hj _ => asideWord_lane hj hf

variable {s u : State} (h : Stands p s u)
include h

/-- What lets a port rise is the same where it stands the same (R346, R522, R591). -/
theorem mayRise_stands : u.mayRise p = s.mayRise p := by
  have bits : ∀ f : Fld, StandWord p f.addr → u.bit f = s.bit f := fun f hf => bit_of_rd (h.rd hf)
  have power : ∀ d < 64, u.domOn d = s.domOn d := fun d hd => by rw [State.domOn, h.rd (standWord_power hd), State.domOn]
  have lanes : (lanesOf p).all (fun n => u.bit (LN_STAT_SIG n)) = (lanesOf p).all (fun n => s.bit (LN_STAT_SIG n)) :=
    all_lanes_congr hp fun n hn => bits _ (standWord_lane (laneFld_stat hn _ _))
  have die : dieOf p < 2 := by unfold dieOf; omega
  simp only [State.mayRise, State.portUse, State.nodeQuenched, State.portPower, bits (LK_CTRL_ADMIN p) (standWord_link hp (by simp)),
    bits (LK_CFG_USE p) (standWord_link hp (by simp)), bits (LK_STAT_HELD p) (standWord_link (a := (LK_STAT_STATE p).addr) hp (by simp)),
    bits FLT_STAT_NODEQ (standWord_quench), lanes, power (32 + p / 32) (by omega), power (40 + dieOf p) (by omega), power 48 (by decide)]

theorem lanesReady_stands : u.lanesReady p = s.lanesReady p :=
  all_lanes_congr hp fun n hn => by
    rw [h.lane, bit_of_rd (h.rd (f := LN_STAT_FAILED n) (standWord_lane (laneFld_stat hn _ _)))]

theorem rd_stat_stands {lo width : Nat} : u.rd ⟨(LK_STAT_STATE p).addr, lo, width⟩ = s.rd ⟨(LK_STAT_STATE p).addr, lo, width⟩ :=
  h.rd (standWord_link hp (by simp))

theorem portUp_stands : u.portUp p = s.portUp p := by
  have state : u.rd (LK_STAT_STATE p) = s.rd (LK_STAT_STATE p) := rd_stat_stands hp h
  rw [State.portUp, state, State.portUp]

end

/-! ### A row of ports -/

section
variable (f : State → Nat → State) (hf : ∀ s, ∀ j < 256, Aside j s (f s j))
include hf

/-- Steps of other ports leave how a port stands. -/
theorem stands_foldl {p : Nat} (l : List Nat) (hl : ∀ j ∈ l, j < 256 ∧ j ≠ p) (s : State) : Stands p s (l.foldl f s) :=
  Spares.foldl f l s fun j hj u => (hf u j (hl j hj).1).mono fun _ ha => ha j (hl j hj).1 (hl j hj).2

/-- Steps of ports leave the words of lanes. -/
theorem rd_lane_foldl (l : List Nat) (hl : ∀ j ∈ l, j < 256) (s : State) {g : Fld} (hg : LaneFld g) : (l.foldl f s).rd g = s.rd g :=
  (Spares.foldl (W := (· = g.addr)) f l s fun j hj u => (hf u j (hl j hj)).mono fun _ ha => ha ▸ asideWord_lane (hl j hj) hg).rd rfl

/-- A port takes its own step once, from and to states between which it stands the same. -/
theorem foldl_own {p : Nat} {l : List Nat} (hl : ∀ j ∈ l, j < 256) (once : l.Nodup) (mem : p ∈ l) (s : State) :
    ∃ v, Stands p s v ∧ (∃ l' : List Nat, v = l'.foldl f s) ∧ Stands p (f v p) (l.foldl f s) := by
  obtain ⟨before, after, rfl⟩ := List.append_of_mem mem
  obtain ⟨-, -, apart⟩ := List.nodup_append.1 once
  have later : p ∉ after := (List.nodup_cons.1 (List.nodup_append.1 once).2.1).1
  refine ⟨before.foldl f s, stands_foldl f hf before (fun j hj => ⟨hl j (by simp [hj]), fun e => ?_⟩) s, ⟨before, rfl⟩, ?_⟩
  · exact apart j hj p List.mem_cons_self e
  · rw [List.foldl_append, List.foldl_cons]
    exact stands_foldl f hf after (fun j hj => ⟨hl j (by simp [hj]), fun e : j = p => later (e ▸ hj)⟩) _

end

end Sys2Proof.Proofs.Lanes
end

section
/-! PROOFS. TX_DIS (R323). -/

open Sys2Proof Sys2Proof.Machine Sys2Proof.Proofs.Casting Sys2Proof.Proofs.Grid

namespace Sys2Proof.Proofs.Lanes

/-! ### TX_DIS -/

/-- A port whose transmitters are turned off goes down where it is up (R323). -/
def txDown (s : State) (p : Nat) : State := if s.portUp p then (s.portDown p 4).fault .link 1 4 (mPort p) 5 else s

/-- The ports of an engine whose mask bits become set. -/
def txPorts (s : State) (n mask : Nat) : List Nat :=
  ((List.range 16).filter fun j => mask / 2 ^ j % 2 == 1 && s.rd (LN_ECTRL_TX_DIS n) / 2 ^ j % 2 == 0).map fun j => 16 * n + j

/-- The engine's mask is stored before its ports move. -/
def txMasked (s : State) (n mask : Nat) : State := s.wr (LN_ECTRL_TX_DIS n) (mask % 2 ^ 16)

theorem txDis_eq (s : State) (n mask : Nat) : s.txDis n mask = (txPorts s n mask).foldl txDown (txMasked s n mask) := by
  rw [txPorts, List.foldl_map]
  rfl

theorem mem_txPorts {s : State} {n mask p : Nat} : p ∈ txPorts s n mask ↔
    ∃ j < 16, (mask / 2 ^ j % 2 = 1 ∧ s.rd (LN_ECTRL_TX_DIS n) / 2 ^ j % 2 = 0) ∧ 16 * n + j = p := by
  simp [txPorts, and_assoc]

theorem nodup_txPorts (s : State) (n mask : Nat) : (txPorts s n mask).Nodup :=
  (List.nodup_range.filter _).map fun _ _ h => Nat.add_left_cancel h

theorem txPorts_lt {s : State} {n mask : Nat} (hn : n < 16) : ∀ p ∈ txPorts s n mask, p < 256 := fun p hp => by
  obtain ⟨j, hj, -, rfl⟩ := mem_txPorts.1 hp
  omega

theorem aside_txDown (s : State) (p : Nat) (hp : p < 256) : Aside p s (txDown s p) :=
  .ite ((aside_portDown s hp 4).trans (aside_fault _ _ _ _ _ _ _ _)) .rfl

theorem now_portDown (s : State) (p cause : Nat) : (s.portDown p cause).now = s.now :=
  (view_eq_iff.1 (view_portDown (W := fun _ => False) (castWords_of_none fun _ => id) s p cause id)).1

theorem only_portDown {p cause : Nat} (s : State) (hp : p < 256) (hc : cause < 32) :
    Only [.clock, .regs, .fab, .tg, .flt, .outs] s (s.portDown p cause) := by
  obtain ⟨-, -, -, -, -, -, -, -, only⟩ := portDown_spec s hp hc
  exact only

theorem now_foldl {f : State → Nat → State} (hf : ∀ s p, (f s p).now = s.now) : ∀ (l : List Nat) (s : State), (l.foldl f s).now = s.now
  | [], _ => rfl
  | p :: l, s => (now_foldl hf l (f s p)).trans (hf s p)

theorem now_txDown (s : State) (p : Nat) : (txDown s p).now = s.now := by
  unfold txDown
  split
  · exact now_portDown s p 4
  · rfl

theorem only_foldl {f : State → Nat → State} {parts : List Part} (hf : ∀ s, ∀ p < 256, Only parts s (f s p)) :
    ∀ (l : List Nat), (∀ p ∈ l, p < 256) → ∀ s : State, Only parts s (l.foldl f s)
  | [], _, _ => Only.rfl
  | p :: l, hl, s => (hf s p (hl p List.mem_cons_self)).trans (only_foldl hf l (fun q hq => hl q (List.mem_cons_of_mem p hq)) (f s p))

theorem only_txDown (s : State) (p : Nat) (hp : p < 256) : Only [.clock, .regs, .fab, .tg, .flt, .outs] s (txDown s p) := by
  unfold txDown
  split
  · exact (only_portDown s hp (by decide)).trans ((State.only_fault _ _ _ _ _ _ _ _).mono (by simp))
  · exact Only.rfl

section
variable {s : State} {n mask : Nat} (hn : n < 16)
include hn

theorem only_txDis : Only [.clock, .regs, .fab, .tg, .flt, .outs] s (s.txDis n mask) := by
  rw [txDis_eq]
  exact ((s.only_wr _ _).mono (by simp)).trans (only_foldl only_txDown _ (txPorts_lt hn) _)

theorem mask_txDis : (s.txDis n mask).rd (LN_ECTRL_TX_DIS n) = mask % 2 ^ 16 := by
  rw [txDis_eq, rd_lane_foldl txDown aside_txDown _ (txPorts_lt hn) _ (by simp only [LaneFld, LN_ECTRL_TX_DIS]; omega)]
  exact (State.rd_wr_same _ _ _ (show 0 + 16 ≤ 32 by decide)).trans (Nat.mod_mod mask (2 ^ 16))

omit hn in
/-- A field of a port's state is no engine's mask. -/
theorem stat_txMasked (p lo width : Nat) :
    (txMasked s n mask).rd ⟨(LK_STAT_STATE p).addr, lo, width⟩ = s.rd ⟨(LK_STAT_STATE p).addr, lo, width⟩ :=
  State.rd_wr_ne _ _ _ _ (.inl (by simp only [LN_ECTRL_TX_DIS, LK_STAT_STATE]; omega))

omit hn in
theorem portUp_txMasked (p : Nat) : (txMasked s n mask).portUp p = s.portUp p := by
  have state : (txMasked s n mask).rd (LK_STAT_STATE p) = s.rd (LK_STAT_STATE p) := stat_txMasked p _ _
  rw [State.portUp, state, State.portUp]

/-- Every up port whose transmitters TX_DIS turns off goes down, and rises again as far as it may (R323, R346). -/
theorem txDis_down {p : Nat} (mem : p ∈ txPorts s n mask) (up : s.portUp p = true) {u : State} (hu : u = s.txDis n mask) :
    u.rd (LK_STAT_STATE p) = (if u.mayRise p then (if u.lanesReady p then 2 else 1) else 0) ∧ u.rd (LK_STAT_CAUSE p) = 4 ∧
      ⟨.link, 1, 4, mPort p, 5, 0, s.now, false, false⟩ ∈ u.flt.reports := by
  have hp : p < 256 := txPorts_lt hn p mem
  obtain ⟨v, before, ⟨l, steps⟩, after⟩ := foldl_own txDown aside_txDown (txPorts_lt hn) (nodup_txPorts s n mask) mem (txMasked s n mask)
  rw [← txDis_eq, ← hu] at after
  have stillUp : v.portUp p = true := ((portUp_stands hp before).trans (portUp_txMasked p)).trans up
  have downs : txDown v p = (v.portDown p 4).fault .link 1 4 (mPort p) 5 := if_pos stillUp
  have reported := aside_fault (W := StandWord p) (v.portDown p 4) .link 1 4 (mPort p) 5 0 false
  have later : Stands p (v.portDown p 4) u := reported.trans (downs ▸ after)
  obtain ⟨state, cause, -⟩ := portDown_spec v (cause := 4) hp (by decide)
  have now : (v.portDown p 4).now = s.now := (now_portDown v p 4).trans (steps ▸ now_foldl now_txDown l _)
  refine ⟨?_, (rd_stat_stands hp later).trans cause, after.reports.subset ?_⟩
  · rw [mayRise_stands hp later, lanesReady_stands hp later]
    exact (rd_stat_stands hp later).trans state
  · rw [downs, ← now]
    exact List.mem_append_right _ (List.mem_singleton.2 rfl)

/-- A port that TX_DIS does not turn off, or that was not up, stays as it stood (R323). -/
theorem txDis_stays {p : Nat} (hp : p < 256) (h : p ∉ txPorts s n mask ∨ s.portUp p = false) (lo width : Nat) :
    (s.txDis n mask).rd ⟨(LK_STAT_STATE p).addr, lo, width⟩ = s.rd ⟨(LK_STAT_STATE p).addr, lo, width⟩ := by
  have stands : Stands p (txMasked s n mask) (s.txDis n mask) := by
    rw [txDis_eq]
    by_cases mem : p ∈ txPorts s n mask
    · obtain ⟨v, before, -, after⟩ := foldl_own txDown aside_txDown (txPorts_lt hn) (nodup_txPorts s n mask) mem (txMasked s n mask)
      have notUp : v.portUp p = false := ((portUp_stands hp before).trans (portUp_txMasked p)).trans (h.resolve_left (not_not.2 mem))
      have same : txDown v p = v := if_neg (notUp ▸ Bool.false_ne_true)
      exact before.trans (same ▸ after)
    · exact stands_foldl txDown aside_txDown _ (fun j hj => ⟨txPorts_lt hn j hj, fun e : j = p => mem (e ▸ hj)⟩) _
  exact (rd_stat_stands hp stands).trans (stat_txMasked p lo width)

end

end Sys2Proof.Proofs.Lanes
end

section
/-! PROOFS. ENGINE_FAULT (R314, R323). -/

open Sys2Proof Sys2Proof.Machine Sys2Proof.Proofs.Casting Sys2Proof.Proofs.Grid

namespace Sys2Proof.Proofs.Lanes

/-! ### Lanes that fail one after another -/

section
variable (s : State)

theorem now_laneFailed (k : Nat) : (s.laneFailed k).now = s.now := (only_laneFailed s k .clock (by decide)).1

theorem quench_laneFailed (k : Nat) : (s.laneFailed k).nodeQuenched = s.nodeQuenched :=
  (fields_laneFailed s k).bit (by simp [LN_STAT_FAILED, FLT_STAT_NODEQ])

variable {s}

/-- Lanes that fail move their FAILED bits and no field beside. -/
theorem fields_laneFaileds (l : List Nat) : FieldsOnly (l.map LN_STAT_FAILED) s (l.foldl State.laneFailed s) :=
  .foldl _ l s fun k hk u => (fields_laneFailed u k).mono (by simpa using ⟨k, hk, rfl⟩)

theorem fab_laneFaileds (l : List Nat) : (l.foldl State.laneFailed s).fab = s.fab := by
  induction l generalizing s with
  | nil => rfl
  | cons k l ih => exact ih.trans (lanes_laneFailed s k)

theorem only_laneFaileds (l : List Nat) : Only [.regs, .flt] s (l.foldl State.laneFailed s) := Only.foldl _ only_laneFailed l s

theorem reports_laneFaileds (l : List Nat) : s.flt.reports <+: (l.foldl State.laneFailed s).flt.reports := by
  induction l generalizing s with
  | nil => exact List.prefix_refl _
  | cons k l ih => exact (reports_laneFailed s k ▸ List.prefix_append _ _).trans ih

theorem clear_failed {j k : Nat} (h : j ≠ k) : Clear (LN_STAT_FAILED j) (LN_STAT_FAILED k) := .inl (by
  simp only [LN_STAT_FAILED]
  omega)

/-- Every lane of the list fails (R314). -/
theorem failed_laneFaileds {l : List Nat} {k : Nat} (h : k ∈ l ∨ s.bit (LN_STAT_FAILED k) = true) :
    (l.foldl State.laneFailed s).bit (LN_STAT_FAILED k) = true := by
  induction l generalizing s with
  | nil => exact h.resolve_left List.not_mem_nil
  | cons j l ih =>
    refine ih ?_
    by_cases same : j = k
    · exact .inr (same ▸ failed_laneFailed s j)
    · rcases h with mem | failed
      · exact .inl ((List.mem_cons.1 mem).resolve_left (Ne.symm same))
      · exact .inr (((fields_laneFailed s j).bit (by simpa using clear_failed same)).trans failed)

/-- Every lane of the list is reported (R314, R519). -/
theorem reported_laneFaileds {l : List Nat} {k : Nat} (mem : k ∈ l) :
    ⟨.link, 1, 3, mPort (k / 4), 4, 0, s.now, false, s.nodeQuenched⟩ ∈ (l.foldl State.laneFailed s).flt.reports := by
  induction l generalizing s with
  | nil => exact absurd mem List.not_mem_nil
  | cons j l ih =>
    rcases List.mem_cons.1 mem with rfl | mem
    · refine (reports_laneFaileds l).subset ?_
      rw [reports_laneFailed]
      exact List.mem_append_right _ (List.mem_singleton.2 rfl)
    · rw [← now_laneFailed s j, ← quench_laneFailed s j]
      exact ih mem

end

/-! ### ENGINE_FAULT -/

/-- The affected lanes of an engine. -/
def engineLanes (n mask : Nat) : List Nat := ((List.range 64).filter fun i => mask / 2 ^ i % 2 == 1).map fun i => 64 * n + i

/-- The ports of the affected lanes, each once. -/
def enginePorts (n mask : Nat) : List Nat := ((engineLanes n mask).map lanePort).eraseDups

/-- An engine with its lanes marked as failed, before its ports move (R323). -/
def engineMarked (s : State) (n mask : Nat) : State := (engineLanes n mask).foldl State.laneFailed (s.raise (LN_ESTAT_FAULT n))

theorem engineFault_eq (s : State) (n mask : Nat) : s.engineFault n mask = (enginePorts n mask).foldl State.laneDown (engineMarked s n mask) := rfl

theorem mem_engineLanes {n mask k : Nat} : k ∈ engineLanes n mask ↔ ∃ i < 64, mask / 2 ^ i % 2 = 1 ∧ 64 * n + i = k := by
  simp [engineLanes, and_assoc]

theorem mem_enginePorts {n mask i : Nat} (hi : i < 64) (hm : mask / 2 ^ i % 2 = 1) : 16 * n + i / 4 ∈ enginePorts n mask := by
  refine List.mem_eraseDups.2 (List.mem_map.2 ⟨64 * n + i, mem_engineLanes.2 ⟨i, hi, hm, rfl⟩, ?_⟩)
  unfold lanePort
  omega

theorem enginePorts_lt {n mask : Nat} (hn : n < 16) : ∀ p ∈ enginePorts n mask, p < 256 := fun p hp => by
  obtain ⟨k, hk, rfl⟩ := List.mem_map.1 (List.mem_eraseDups.1 hp)
  obtain ⟨i, hi, -, rfl⟩ := mem_engineLanes.1 hk
  unfold lanePort
  omega

/-- A list without its repetitions holds none. -/
theorem nodup_eraseDups : ∀ l : List Nat, l.eraseDups.Nodup
  | [] => by simp
  | a :: l => by
    rw [List.eraseDups_cons]
    refine List.nodup_cons.2 ⟨fun mem => ?_, nodup_eraseDups _⟩
    simpa using (List.mem_filter.1 (List.mem_eraseDups.1 mem)).2
termination_by l => l.length
decreasing_by exact Nat.lt_succ_of_le (List.length_filter_le _ _)

theorem aside_laneDown (s : State) (p : Nat) (hp : p < 256) : Aside p s (s.laneDown p) := .ite .rfl (aside_portDown s hp 3)

theorem only_laneDown (s : State) (p : Nat) (hp : p < 256) : Only [.clock, .regs, .fab, .tg, .flt, .outs] s (s.laneDown p) := by
  unfold State.laneDown
  split
  · exact Only.rfl
  · exact only_portDown s hp (by decide)

section
variable {s : State} {n mask : Nat}

theorem fields_engineMarked : FieldsOnly ([LN_ESTAT_FAULT n] ++ (engineLanes n mask).map LN_STAT_FAILED) s (engineMarked s n mask) :=
  (fields_raise s (LN_ESTAT_FAULT n)).append (fields_laneFaileds (engineLanes n mask))

theorem stat_engineMarked (hn : n < 16) {p : Nat} (lo width : Nat) :
    (engineMarked s n mask).rd ⟨(LK_STAT_STATE p).addr, lo, width⟩ = s.rd ⟨(LK_STAT_STATE p).addr, lo, width⟩ := by
  refine fields_engineMarked _ fun f hf => .inl ?_
  rcases List.mem_append.1 hf with hf | hf
  · rw [List.mem_singleton.1 hf]
    simp only [LN_ESTAT_FAULT, LK_STAT_STATE]
    omega
  · obtain ⟨k, hk, rfl⟩ := List.mem_map.1 hf
    obtain ⟨i, hi, -, rfl⟩ := mem_engineLanes.1 hk
    simp only [LN_STAT_FAILED, LK_STAT_STATE]
    omega

variable (hn : n < 16)
include hn

theorem only_engineFault : Only [.clock, .regs, .fab, .tg, .flt, .outs] s (s.engineFault n mask) := by
  have marked := (s.only_raise (LN_ESTAT_FAULT n)).comp (only_laneFaileds (engineLanes n mask)) (n := [.clock, .regs, .fab, .tg, .flt, .outs])
    (by simp) (by simp)
  exact marked.trans (only_foldl only_laneDown _ (enginePorts_lt hn) _)

/-- The ports of an engine that go down leave what its lanes show. -/
theorem rd_engineFault {g : Fld} (hg : LaneFld g) : (s.engineFault n mask).rd g = (engineMarked s n mask).rd g :=
  rd_lane_foldl State.laneDown aside_laneDown _ (enginePorts_lt hn) _ hg

theorem fault_engineFault : (s.engineFault n mask).bit (LN_ESTAT_FAULT n) = true := by
  have inside : LaneFld (LN_ESTAT_FAULT n) := by
    simp only [LaneFld, LN_ESTAT_FAULT]
    omega
  refine (bit_of_rd (rd_engineFault hn inside)).trans (((fields_laneFaileds (engineLanes n mask)).bit fun f hf => ?_).trans
    (bit_raise s _ rfl (show 2 < 32 by decide)))
  obtain ⟨k, -, rfl⟩ := List.mem_map.1 hf
  refine .inl ?_
  simp only [LN_STAT_FAILED, LN_ESTAT_FAULT]
  omega

theorem failed_engineFault {i : Nat} (hi : i < 64) (hm : mask / 2 ^ i % 2 = 1) :
    (s.engineFault n mask).bit (LN_STAT_FAILED (64 * n + i)) = true :=
  (bit_of_rd (rd_engineFault hn (laneFld_stat (by omega) _ _))).trans (failed_laneFaileds (.inl (mem_engineLanes.2 ⟨i, hi, hm, rfl⟩)))

/-- A lane that the fault does not affect keeps its FAILED bit (R323). -/
theorem unaffected_engineFault {i : Nat} (hi : i < 1024) (h : i / 64 ≠ n ∨ mask / 2 ^ (i % 64) % 2 = 0) :
    (s.engineFault n mask).bit (LN_STAT_FAILED i) = s.bit (LN_STAT_FAILED i) := by
  refine (bit_of_rd (rd_engineFault hn (laneFld_stat hi _ _))).trans (fields_engineMarked.bit fun f hf => ?_)
  rcases List.mem_append.1 hf with hf | hf
  · rw [List.mem_singleton.1 hf]
    refine .inl ?_
    simp only [LN_ESTAT_FAULT]
    omega
  · obtain ⟨k, hk, rfl⟩ := List.mem_map.1 hf
    obtain ⟨j, hj, hm, rfl⟩ := mem_engineLanes.1 hk
    refine clear_failed ?_
    rintro rfl
    have own : (64 * n + j) % 64 = j := by omega
    rw [own] at h
    omega

theorem reported_engineFault {i : Nat} (hi : i < 64) (hm : mask / 2 ^ i % 2 = 1) :
    ⟨.link, 1, 3, mPort (16 * n + i / 4), 4, 0, s.now, false, s.nodeQuenched⟩ ∈ (s.engineFault n mask).flt.reports := by
  have quench : (s.raise (LN_ESTAT_FAULT n)).nodeQuenched = s.nodeQuenched :=
    (fields_raise s (LN_ESTAT_FAULT n)).bit (by simp [LN_ESTAT_FAULT, FLT_STAT_NODEQ])
  have marked := reported_laneFaileds (s := s.raise (LN_ESTAT_FAULT n)) (mem_engineLanes.2 ⟨i, hi, hm, rfl⟩ : 64 * n + i ∈ engineLanes n mask)
  have moved : Spares (fun _ => False) (engineMarked s n mask) (s.engineFault n mask) :=
    .foldl _ _ _ fun p hp u => (aside_laneDown u p (enginePorts_lt hn p hp)).mono fun _ => False.elim
  rw [quench, show (64 * n + i) / 4 = 16 * n + i / 4 by omega] at marked
  exact moved.reports.subset marked

/-- Each port of the affected lanes goes down once, with cause LANE, where it was not DOWN already; with a lane that failed it rises no
further than SIGNAL (R314, R323, R346). -/
theorem ports_engineFault {i : Nat} (hi : i < 64) (hm : mask / 2 ^ i % 2 = 1) {u : State} (hu : u = s.engineFault n mask) {p : Nat}
    (hp : p = 16 * n + i / 4) :
    (s.rd (LK_STAT_STATE p) = 0 → u.rd (LK_STAT_STATE p) = 0) ∧
    (s.rd (LK_STAT_STATE p) ≠ 0 → u.rd (LK_STAT_STATE p) = (if u.mayRise p then 1 else 0) ∧ u.rd (LK_STAT_CAUSE p) = 3 ∧
      u.rd (LK_STAT_DOWNS p) = min (s.rd (LK_STAT_DOWNS p) + 1) (2 ^ (LK_STAT_DOWNS p).width - 1)) := by
  have mem : p ∈ enginePorts n mask := hp ▸ mem_enginePorts hi hm
  have small : p < 256 := enginePorts_lt hn p mem
  obtain ⟨v, before, -, after⟩ := foldl_own State.laneDown aside_laneDown (enginePorts_lt hn) (nodup_eraseDups _) mem (engineMarked s n mask)
  rw [← engineFault_eq, ← hu] at after
  have stat : ∀ lo width, v.rd ⟨(LK_STAT_STATE p).addr, lo, width⟩ = s.rd ⟨(LK_STAT_STATE p).addr, lo, width⟩ := fun lo width =>
    (rd_stat_stands small before).trans (stat_engineMarked hn lo width)
  have stateV : v.rd (LK_STAT_STATE p) = s.rd (LK_STAT_STATE p) := stat _ _
  refine ⟨fun down => ?_, fun notDown => ?_⟩
  · have same : v.laneDown p = v := if_pos (stateV.trans down)
    exact (rd_stat_stands small (same ▸ after)).trans (stateV.trans down)
  · have falls : v.laneDown p = v.portDown p 3 := if_neg (stateV ▸ notDown)
    have later : Stands p (v.portDown p 3) u := falls ▸ after
    obtain ⟨state, cause, -, downs, -⟩ := portDown_spec v (cause := 3) small (by decide)
    have unready : u.lanesReady p = false := by
      rw [State.lanesReady, List.all_eq_false]
      refine ⟨64 * n + i, ?_, ?_⟩
      · rw [mem_lanesOf]
        simp only [List.mem_cons, List.not_mem_nil, or_false]
        omega
      · rw [hu, failed_engineFault hn hi hm]
        simp
    have countV : v.rd (LK_STAT_DOWNS p) = s.rd (LK_STAT_DOWNS p) := stat _ _
    refine ⟨?_, (rd_stat_stands small later).trans cause, (rd_stat_stands small later).trans (downs.trans (by rw [countV]))⟩
    have shown : u.rd (LK_STAT_STATE p) = _ := (rd_stat_stands small later).trans state
    rw [shown, ← mayRise_stands small later, ← lanesReady_stands small later, unready]
    rfl

end

end Sys2Proof.Proofs.Lanes
end

section
/-! PROOFS. The statement about lanes that search and check (R314, R316 to R320, R323). -/

open Sys2Proof Sys2Proof.Machine Sys2Proof.Proofs.Casting Sys2Proof.Proofs.Grid Sys2Proof.Proofs.Mill

namespace Sys2Proof.Proofs.Lanes

/-- A write of a lane's internal state moves no register word. -/
theorem words_setLane (s : State) (k : Nat) (x : Lane) : WordsOnly [] s (s.setLane k x) := (fields_setLane (l := []) s k x).words

/-- Settles O44, command by command: each comes to the lane's or the engine's own step. -/
theorem lanesSearchAndCheck : Obligations.LanesSearchAndCheck := by
  intro t k tx rx word bits n mask path s hk hn x now on up stat counters cleared turnedAway
  refine ⟨fun idle => ⟨idle_of_eq (t := t) rfl (cmd_unready _ idle), idle_of_eq (t := t) rfl (cmd_unready _ idle)⟩,
    fun unready => ?_, fun ready => ⟨fun isOn isUp => ?_, fun isOn notUp => ?_, fun isOn => ?_, fun isUp sends => ?_, fun notUp => ?_⟩,
    fun idle => idle_of_eq (t := t) rfl (alignMatch_idle (s := s.at t) word idle), fun aligns isOn => ?_,
    ⟨fun idle => idle_of_eq (t := t) rfl (prbsCheck_idle (s := s.at t) idle), fun checks free => ?_, fun checks locked => ?_⟩,
    fun ready => ?_, ?_⟩
  · have blocked : ¬(s.ready = true ∧ (none : Option Nat).all s.domOn = true) := fun both => Bool.false_ne_true (unready.symm.trans both.1)
    exact ⟨idle_of_eq (t := t) rfl (cmd_unready _ blocked), idle_of_eq (t := t) rfl (cmd_unready _ blocked)⟩
  · obtain ⟨shown, words, reports, only⟩ := patRefused_spec (s.at t) k path.master
    exact ⟨_, congrArg Host.Outcome.next ((State.cmd_acts (s := s.at t) (d := some (32 + k / 128)) _ ready isOn).trans
      (slip_up (s := s.at t) path.master isUp)), shown, words, reports, (s.only_at t).comp only (by simp) (by simp)⟩
  · obtain ⟨slips, hit, lane, words, only⟩ := slipped_spec (s.at t) k
    exact ⟨_, congrArg Host.Outcome.next ((State.cmd_acts (s := s.at t) (d := some (32 + k / 128)) _ ready isOn).trans
      (slip_moves (s := s.at t) path.master notUp isOn)), slips, hit, lane, words, only_after_at only⟩
  · exact ⟨_, congrArg Host.Outcome.next (State.cmd_acts (s := s.at t) (d := some (32 + k / 128)) _ ready isOn),
      cleared_clearChecker (s.at t) k, (fields_clearChecker (s.at t) k).words, only_after_at (only_clearChecker (s.at t) k)⟩
  · obtain ⟨shown, words, reports, only⟩ := patRefused_spec (s.at t) k path.master
    exact ⟨_, congrArg Host.Outcome.next ((State.cmd_acts (s := s.at t) (d := none) _ ready rfl).trans
      (patternWrite_refused (s := s.at t) path.master isUp sends)), shown, words, reports, (s.only_at t).comp only (by simp) (by simp)⟩
  · obtain ⟨txPat, rxPat, zero, hit, lock, waits, only⟩ := patternWrite_spec (s.at t) hk tx rx rfl
    exact ⟨_, congrArg Host.Outcome.next ((State.cmd_acts (s := s.at t) (d := none) _ ready rfl).trans
      (patternWrite_sets (s := s.at t) path.master tx rx notUp)), txPat, rxPat, zero, ⟨hit, lock, fun other => (waits other).1⟩,
      fun other => (waits other).2, only_after_at only⟩
  · obtain ⟨lane, hit, words, only⟩ := compared_spec (s := s.at t) (k := k) word
    exact ⟨_, congrArg Host.Outcome.next (alignMatch_eq (s := s.at t) word aligns isOn), lane, hit, words, only_after_at only⟩
  · have step := prbsCheck_searching (s := s.at t) (bits := bits) checks free
    have stored := only_setLane (s.at t) k
    refine ⟨fun wrong => ?_, fun good few => ?_, fun good enough => ?_⟩
    · exact ⟨_, congrArg Host.Outcome.next (step.trans (if_neg wrong)), ⟨lane_setLane_same _ k _, words_setLane _ k _⟩,
        only_after_at ((stored _).mono (by simp))⟩
    · exact ⟨_, congrArg Host.Outcome.next ((step.trans (if_pos good)).trans (if_neg (Nat.not_le.2 few))),
        ⟨lane_setLane_same _ k _, words_setLane _ k _⟩, only_after_at ((stored _).mono (by simp))⟩
    · obtain ⟨lock, lane, fields, only⟩ := lockSet_spec (s.at t) k { (s.at t).lane k with run := 0, syms := 0, errs := [] } true
      exact ⟨_, congrArg Host.Outcome.next ((step.trans (if_pos good)).trans (if_pos enough)), ⟨lock, lane, fields.words⟩,
        only_after_at only⟩
  · have step := prbsCheck_locked (s := s.at t) (bits := bits) checks locked
    refine ⟨fun good => ?_, fun wrong few => ?_, fun wrong many => ?_⟩
    · obtain ⟨counted, lane, words, only⟩ := counting_spec (s.at t) k bits { (s.at t).lane k with syms := ((s.at t).lane k).syms + 1 }
      exact ⟨_, congrArg Host.Outcome.next (step.trans (if_pos good)), ⟨counted, lane, words⟩, only_after_at only⟩
    · obtain ⟨counted, lane, words, only⟩ := counting_spec (s.at t) k bits
        { (s.at t).lane k with syms := ((s.at t).lane k).syms + 1, errs := recentErrs ((s.at t).lane k) }
      exact ⟨_, congrArg Host.Outcome.next ((step.trans (if_neg wrong)).trans (if_neg (Nat.not_le.2 few))), ⟨counted, lane, words⟩,
        only_after_at only⟩
    · obtain ⟨lock, lane, fields, only⟩ := lockSet_spec (symbolCounted (s.at t) k bits) k
        { (s.at t).lane k with run := 0, syms := 0, errs := [] } false
      have counted := (counted_symbolCounted (s.at t) k bits).later fields (by
        simp [counterFields, Fld.hi, LN_STAT_LOCK, LN_SYM_LO, LN_SERR, LN_BERR]
        omega)
      have words := ((fields_symbolCounted (s.at t) k bits).append fields).words
      refine ⟨_, congrArg Host.Outcome.next ((step.trans (if_neg wrong)).trans (if_pos many)), ⟨counted, lock, lane, words.mono ?_⟩,
        only_after_at (((only_symbolCounted (s.at t) k bits).mono (by simp)).trans only)⟩
      simp [counterFields, counters, stat, LN_STAT_LOCK, LN_STAT_SIG]
  · refine ⟨_, congrArg Host.Outcome.next (State.cmd_acts (s := s.at t) (d := none) _ ready rfl), mask_txDis hn,
      fun i hi set clear isUp => txDis_down (s := s.at t) hn (mem_txPorts.2 ⟨i, hi, ⟨set, clear⟩, rfl⟩) isUp rfl, fun i hi stays => ?_,
      ((s.only_at t).mono (by simp)).trans (only_txDis hn)⟩
    have apart : i ∉ txPorts (s.at t) n mask ∨ (s.at t).portUp i = false := by
      by_cases mem : i ∈ txPorts (s.at t) n mask
      · obtain ⟨j, hj, ⟨set, -⟩, rfl⟩ := mem_txPorts.1 mem
        have port : (16 * n + j) % 16 = j := by omega
        rw [port] at stays
        rcases stays with other | unset | down
        · omega
        · omega
        · exact .inr down
      · exact .inl mem
    exact ⟨txDis_stays hn hi apart _ _, txDis_stays hn hi apart _ _⟩
  · exact ⟨_, rfl, fault_engineFault hn, fun i hi set => ⟨failed_engineFault hn hi set, reported_engineFault (s := s.at t) hn hi set,
      ports_engineFault (s := s.at t) hn hi set rfl rfl⟩, fun i hi other => unaffected_engineFault hn hi other,
      ((s.only_at t).mono (by simp)).trans (only_engineFault hn)⟩

end Sys2Proof.Proofs.Lanes
end
